-- ==== Sys2Proof/Word.lean ====
section
/-! DEFINITION. The machine words of the YB6400: bytes and the 32-bit convoy count. -/

namespace Sys2Proof

/-- A byte. -/
abbrev Byte := BitVec 8

/-- The convoy count, a U32 that wraps from 0xFFFFFFFF to 0 (Scope, "Time"). -/
abbrev Count := BitVec 32

end Sys2Proof
end

