-- ==== Sys2Proof/Syntax.lean ====
section
/-! DEFINITION. The commands of the YB6400: one constructor for each row of spec/opcode_table.json. A row that is an event
carries what the world decides about it (levels, raw codes, which message arrives) as operands. A row that is a write or a
read of one object is the one-member transaction of the session on the named port. -/

namespace Sys2Proof

/-- The host ports: H0 and H1 over SPI (R356), H2 over CAN FD (R358). -/
inductive Port where
  | h0 | h1 | h2
  deriving DecidableEq, Repr

/-- The SPI ports. -/
inductive SpiPort where
  | h0 | h1
  deriving DecidableEq, Repr

/-- What the leader sampled of a halt (R70): whether CVY_HOLD of its own segment read low at offset 500, and whether the returned halt slot
of the cascade did. -/
structure HaltSample where
  segment : Bool
  slot : Bool
  deriving DecidableEq, Repr

/-- A command (a row of spec/opcode_table.json; the rule in brackets is the row's). -/
inductive Instr where
  /-- WRITE_REQUEST (R356): An SPI frame with opcode 0x02 delivers a request body in single mode on H0 or H1; the body finishes arriving on the rising edge of CS_N. -/
  | writeRequest (p : SpiPort) (frame : List Byte)
  /-- WRITE_REQUEST_QUAD (R356): An SPI frame with opcode 0x32 delivers a request body in quad mode on H0 or H1. -/
  | writeRequestQuad (p : SpiPort) (frame : List Byte)
  /-- READ_RESPONSE (R357): An SPI frame with opcode 0x0B returns the latest response formed on the port, in single mode. -/
  | readResponse (p : SpiPort)
  /-- READ_RESPONSE_QUAD (R357): An SPI frame with opcode 0x6B returns the latest response formed on the port, in quad mode. -/
  | readResponseQuad (p : SpiPort)
  /-- READ_STATUS (R356): An SPI frame with opcode 0x05 returns PORT_STATUS repeatedly while CS_N stays low. -/
  | readStatus (p : SpiPort) (n : Nat)
  /-- PROOF_READ (R419): While the device is frozen, opcode 0x9B reads proof bytes from START in single mode on H0. -/
  | proofRead (start : BitVec 32) (n : Nat)
  /-- PROOF_READ_QUAD (R419): While the device is frozen, opcode 0x9C reads proof bytes from START in quad mode on H0. -/
  | proofReadQuad (start : BitVec 32) (n : Nat)
  /-- BALE_FRAME (R359): A CAN FD request segment addressed to this NODE is added to the body being rebuilt; the frame with LAST set completes the body. -/
  | baleFrame (id : BitVec 29) (data : List Byte)
  /-- SEGMENT_TIMEOUT (R359): More than H2_SEG_TIMEOUT passes between two segments, so the partial body is discarded and kind 0x04 is raised. -/
  | segmentTimeout
  /-- BUS_OFF (R360): H2 enters bus-off under ISO 11898-1 fault confinement and raises kind 0x06 on source 0x7A. -/
  | busOff
  /-- BUS_OFF_RECOVERY (R360): After 128 occurrences of 11 recessive bits, H2 recovers from bus-off and sends the response segments that were waiting. -/
  | busOffRecovery
  /-- TRANSACTION (R47): A TRANSACTION body is checked for form, session, MAC, SEQ, readiness and size, and then each member is checked; the transaction is committed whole on one tick or not performed at all. -/
  | transaction (p : Port)
  /-- OPEN (R361): An OPEN request draws a 16-byte N_D, makes it the port's pending challenge for 1 s, and answers with the OPEN payload. -/
  | openSession (p : Port)
  /-- PROOF (R361): A PROOF request is verified against the pending challenge; on a match the session opens at the requested level with key K_S, and otherwise AUTH_FAIL is answered. -/
  | proveSession (p : Port)
  /-- AUTH_LOCKOUT_END (R362): The AUTH_LOCKOUT period of a port expires and OPEN and PROOF are accepted again. -/
  | authLockoutEnd (p : Port)
  /-- CHALLENGE_EXPIRY (R361): A pending challenge expires 1 s after OPEN. -/
  | challengeExpiry (p : Port)
  /-- LEASE_LAPSE (R366): A session's lease reaches renewal plus lease length; kind 0x03 is raised, LAPSES is counted and the session ends. -/
  | leaseLapse (p : Port)
  /-- OBJECT_WRITE (R48): A write to an object that has no behaviour of its own takes effect on the commit tick. -/
  | objectWrite (p : Port) (index : BitVec 16) (sub : BitVec 8) (data : List Byte)
  /-- SPLIT_PAIR_LO_READ (R55): A read of the _LO half of a split pair returns the live low half and tag, and latches the high half and tag for the session. -/
  | splitPairLoRead (p : Port) (index : BitVec 16) (sub : BitVec 8)
  /-- SPLIT_PAIR_HI_READ (R56): A read of the _HI half of a split pair returns the latched half with OK and clears the latch, or returns the live half with OK_UNPAIRED when no latch exists. -/
  | splitPairHiRead (p : Port) (index : BitVec 16) (sub : BitVec 8)
  /-- CLAIM (R368): A write of CLAIM takes a claim group for the session, or returns BUSY when another session holds it. -/
  | claimGroup (p : Port) (g : BitVec 8)
  /-- RELEASE (R368): A write of RELEASE gives up a claim group that the session holds. -/
  | releaseGroup (p : Port) (g : BitVec 8)
  /-- CLAIM_BREAK (R368): An owner session frees a claim group from whichever session holds it. -/
  | claimBreak (p : Port) (g : BitVec 8)
  /-- CLOSE (R371): A write of CLOSE forms and MACs the response and then ends the session. -/
  | closeSession (p : Port)
  /-- RULE (R370): A write of stencil rules increments STENCIL_GEN, raises kind 0x05 and, at the transaction boundary, releases claims the new stencil no longer admits. -/
  | writeRule (p : Port) (r : BitVec 8) (word : BitVec 64)
  /-- STENCIL_RESET (R370): A write of 0x5AFE0DEF restores the default stencil, with the effects of any stencil change. -/
  | stencilReset (p : Port)
  /-- LATENCY_REQ (R410): A write of the session's tolerable wake latency makes the YB6400 recompute the chosen power state. -/
  | latencyReq (p : Port) (us : BitVec 32)
  /-- RESTORE_DEFAULTS (R44): An owner write of 0x5AFE0DEF restores every class P object in 0x2000 to 0x7FFF to its Default, when the sequencer is at waystation 0 with every rail off. -/
  | restoreDefaults (p : Port)
  /-- DP_WINDOW_READ (R325): A read of DP_WINDOW returns n bytes from DP_ADDR after the span is checked, and advances DP_ADDR. -/
  | dpWindowRead (p : Port) (n : BitVec 16)
  /-- DP_WINDOW_WRITE (R326): A write of DP_WINDOW stores n bytes at DP_ADDR after the whole span is checked against regions and busy pages, and advances DP_ADDR. -/
  | dpWindowWrite (p : Port) (data : List Byte)
  /-- RECORD_DATA (R345): A read of RECORD_DATA returns the selected ledger record as 64 bytes, or 0x00 bytes, or BUSY while reconciling. -/
  | recordData (p : Port)
  /-- FF_DATA (R345): A read of FF_DATA returns the selected episode's first-fault entry as 64 bytes, or 0x00 bytes when it is not valid. -/
  | ffData (p : Port)
  /-- LEDGER_CLEAR_RECORDS (R347): LEDGER_CLEAR 0x01 retires the window in one paired write, enters a CLEARED record and posts a level 2 etch of P0, P1 and P2. -/
  | ledgerClearRecords (p : Port)
  /-- LEDGER_CLEAR_ALL (R347): LEDGER_CLEAR 0x02 also sets FF_BASE to EPISODE, which releases the protected first-fault slots. -/
  | ledgerClearAll (p : Port)
  /-- CONVOY_ENABLE (R91): A write of CONVOY_ENABLE moves the unit from DISABLED to SOLO (value 1), or from any state to DISABLED with the lines released (value 0). -/
  | convoyEnable (p : Port) (on : Bool)
  /-- WAY_REQUEST (R80): A write of WAY_REQUEST queues a waystation request when leading, sends it as a reply when a member, or applies it at the next solo beat in DISABLED or SOLO. -/
  | wayRequest (p : Port) (w : BitVec 8)
  /-- HALT_REQUEST (R69): A write of HALT_REQUEST sets or clears the unit's halt hold, which takes effect at the next beat edge. -/
  | haltRequest (p : Port) (on : Bool)
  /-- LOCAL_HOLD (R118): A write of LOCAL_HOLD 0x01 starts a local shutdown of cause 0x05; a write of 0x00 clears that cause. -/
  | localHold (p : Port) (on : Bool)
  /-- PRESENT (R105): A write of PRESENT moves a rail between ABSENT and OFF. -/
  | setPresent (p : Port) (n : Fin 64) (on : Bool)
  /-- CLEAR_FLAGS (R132): A write of CLEAR_FLAGS clears RAIL_FLAGS of the rail. -/
  | clearFlags (p : Port) (n : Fin 64)
  /-- CLEAR_LATCH (R156): A write of CLEAR_LATCH clears COMP_LATCH of the rail, FIRST included. -/
  | clearLatch (p : Port) (n : Fin 64)
  /-- SCAN_SELECT (R164): A write of SCAN_SELECT schedules a switch of the active scan bank at the next entry 0, or cancels a pending switch. -/
  | scanSelect (p : Port) (b : BitVec 8)
  /-- READMIT (R176): A write of READMIT posts a calibration step for a FAILED slice. -/
  | readmit (p : Port) (n : Fin 17)
  /-- CONVERT (R182): A write of CONVERT makes an urgent request for the channel, which binds to the first free scan slot within 16 ticks. -/
  | convert (p : Port) (c : Fin 192)
  /-- RING_REARM (R189): A write of RING_REARM returns a FROZEN ring to RUNNING with a new page sequence, or returns BUSY while ring pages etch. -/
  | ringRearm (p : Port)
  /-- RING_TRIGGER (R189): A write of RING_TRIGGER is a host trigger of the ring, stamped on the commit tick. -/
  | ringTrigger (p : Port)
  /-- CAP_ARM (R179): A write of CAP_ARM arms the capture, reserves its positions and posts its lane request, or refuses with BUSY, CALIBRATING or TIME_PAST. -/
  | capArm (p : Port)
  /-- CAP_ABORT (R179): A write of CAP_ABORT withdraws an ARMED capture, or ends a RUNNING capture DONE with ABORTED and TRUNCATED. -/
  | capAbort (p : Port)
  /-- CAP_RELEASE (R179): A write of CAP_RELEASE frees the capture buffer and returns a DONE capture to IDLE. -/
  | capRelease (p : Port)
  /-- MRG_CMD_NOMINAL (R199): MRG_CMD 0x00 withdraws a pending move, or returns the margin to nominal. -/
  | mrgCmdNominal (p : Port) (n : Fin 64)
  /-- MRG_CMD_HIGH (R199): MRG_CMD 0x01, after the checks of R198, moves the rail toward MRG_HIGH now or at the scheduled time. -/
  | mrgCmdHigh (p : Port) (n : Fin 64)
  /-- MRG_CMD_LOW (R199): MRG_CMD 0x02, after the checks of R198, moves the rail toward MRG_LOW now or at the scheduled time. -/
  | mrgCmdLow (p : Port) (n : Fin 64)
  /-- STIP_CMD_SCHEDULE (R216): STIP_CMD 0x01 schedules a stipple run at its computed beat, after the checks of R214 and R216. -/
  | stipCmdSchedule (p : Port) (n : Fin 64)
  /-- STIP_CMD_CANCEL (R216): STIP_CMD 0x02 withdraws a scheduled or waiting run, or aborts a running one with reason CANCELLED. -/
  | stipCmdCancel (p : Port) (n : Fin 64)
  /-- LOAD_CMD_APPLY (R243): LOAD_CMD 0x01 applies or replaces a host load on the sink when its power grant is made whole on the commit tick. -/
  | loadCmdApply (p : Port) (n : Fin 64)
  /-- LOAD_CMD_REMOVE (R243): LOAD_CMD 0x02 removes the rail's host load at SINK_SLEW. -/
  | loadCmdRemove (p : Port) (n : Fin 64)
  /-- INRUSH_SET (R249): A write of INRUSH_SET sets INRUSH_HELD and INRUSH_FREE and counts SETS, when the convoy is DISABLED with nothing issued or in transit. -/
  | inrushSet (p : Port) (v : BitVec 16)
  /-- FEED_ENABLE (R256): A write of FEED_ENABLE moves the feed to DISABLED with its gate off, or from DISABLED to UNMATED. -/
  | feedEnable (p : Port) (f : Fin 2) (on : Bool)
  /-- FEED_CLEAR (R256): A write of FEED_CLEAR moves a feed from LOCKOUT or DAMAGED to WAIT_SOURCE and clears TRIP_RUN, RETRY_BASIS and DMG_LATCH. -/
  | feedClear (p : Port) (f : Fin 2)
  /-- FORCE (R294): A write of FORCE makes the collector take an injected message with FORCE_KIND and FORCE_ADDR, arriving on the next tick. -/
  | forceMessage (p : Port) (src : BitVec 8)
  /-- TEST_MODE (R283): A write of TEST_MODE enters or leaves the TEST collector phase; entry is allowed only in the sequencer safe state. -/
  | testMode (p : Port) (on : Bool)
  /-- FAULT_ACK (R286): An owner write of FAULT_ACK moves the collector from LATCHED to FAULTED and restarts the quiet timer. -/
  | faultAck (p : Port)
  /-- FAULT_N_HOLD (R292): A write of FAULT_N_HOLD sets the software-owned level of FAULT_N, which applies once any pulse has ended. -/
  | faultNHold (p : Port) (on : Bool)
  /-- ETCH_CMD (R308): A write of ETCH_CMD posts a cause 0x01 etch request for the regions set in ETCH_MASK. -/
  | etchCmd (p : Port)
  /-- ETCH_ABORT (R311): A write of ETCH_ABORT stops a running cause 0x01 or 0x02 etch after its page in flight. -/
  | etchAbort (p : Port)
  /-- UPD_CMD_OPEN (R382): UPD_CMD OPEN checks the manifest in page 1,728 and enters DOWNLOADING with NEXT_BLOCK 0. -/
  | updCmdOpen (p : Port)
  /-- UPD_BLOCK (R384): A write of UPD_BLOCK checks the block's CRC; on a match NEXT_BLOCK advances, or DOWNLOADED is entered after the last block, and otherwise kind 0x01 is raised. -/
  | updBlock (p : Port) (index : BitVec 16)
  /-- UPD_CMD_VERIFY (R385): UPD_CMD VERIFY moves a DOWNLOADED update to VERIFYING. -/
  | updCmdVerify (p : Port)
  /-- UPD_CMD_APPLY (R387): UPD_CMD APPLY moves a VERIFIED update to APPLYING, and the loader starts writing the inactive bank. -/
  | updCmdApply (p : Port)
  /-- UPD_CMD_SCHEDULE (R391): UPD_CMD SCHEDULE schedules activation at the keyed beat, or returns TIME_PAST when that time is past. -/
  | updCmdSchedule (p : Port)
  /-- UPD_CMD_UNSCHEDULE (R391): UPD_CMD UNSCHEDULE returns a SCHEDULED update to APPLIED. -/
  | updCmdUnschedule (p : Port)
  /-- UPD_CMD_CONFIRM (R398): An owner write of UPD_CMD CONFIRM sets HOST_OK of the running trial. -/
  | updCmdConfirm (p : Port)
  /-- UPD_CMD_ABORT (R397): UPD_CMD ABORT zeroes the manifest MAGIC, empties any new bank and candidate area, and returns the update to IDLE. -/
  | updCmdAbort (p : Port)
  /-- BEAT_EDGE (R68): A beat edge taken from CVY_DATA increments and stamps the convoy count, pulls CVY_HOLD low and releases it when the unit is ready. -/
  | beatEdge
  /-- SPURIOUS_EDGE (R67): A falling edge on CVY_DATA between offsets 68,000 and 71,999 is ignored, counted and reported as kind 0x04 of source 0x70. -/
  | spuriousEdge
  /-- FORCED_RELEASE (R68): A unit that is not ready by offset 399 releases CVY_HOLD at offset 400, is absent for the beat, and raises kind 0x01. -/
  | forcedRelease
  /-- BEAT_FRAME (R72): A beat frame received on CVY_DATA is validated and its COUNT, WAY_NEXT, VERSION, flags and message are adopted. -/
  | beatFrame (frame : List Byte)
  /-- SOLO_BEAT (R91): In DISABLED or SOLO, the 1,000 µs solo period elapses and a solo beat adds 1 to the count and applies any waystation request. -/
  | soloBeat
  /-- LOSS_TIMEOUT (R91): A MEMBER that sees no beat edge for LOSS_TIMEOUT enters SOLO and raises LEADER_LOST. -/
  | lossTimeout
  /-- CANDIDATE_WAIT (R93): The candidate wait W of a leader candidate in SOLO expires with no valid frame, and the unit becomes LEADER with LEADER_NEW set. -/
  | candidateWait
  /-- LEADER_BEAT (R94): A leader issues the next beat edge on CVY_DATA and CSC_OUT after BEAT_PERIOD, or after the 20,000-tick release that follows a halt. -/
  | leaderBeat
  /-- BEAT_FRAME_SEND (R72): At offset 12,000 the leader sends the frame with COMMIT, HALT, WAY_NEXT, VERSION, the next question and any toll message. -/
  | beatFrameSend (halt : HaltSample) (vote : Bool)
  /-- REPLY_SEND (R83): In an open reply slot of its segment, a present unit with a pending reply sends it and arbitrates on its address. -/
  | replySend (won : Bool)
  /-- TOLL_REQUEST (R95): The leader receives a TOLL_REQUEST reply and pairs it with an offer for a transfer. -/
  | tollRequest (reply : BitVec 80)
  /-- TOLL_OFFER (R95): The leader receives a TOLL_OFFER reply and pairs it with a request for a transfer. -/
  | tollOffer (reply : BitVec 80)
  /-- XFER_SENT (R96): The leader receives XFER_SENT and sends XFER_DELIVER for that transfer. -/
  | xferSent (reply : BitVec 80)
  /-- XFER_RECEIVED (R95): The leader receives XFER_RECEIVED and sends XFER_CLOSE for that transfer. -/
  | xferReceived (reply : BitVec 80)
  /-- WAY_REQUEST_REPLY (R80): The leader receives a WAY_REQUEST reply and queues it, unless the queue is full or already holds that target. -/
  | wayRequestReply (reply : BitVec 80)
  /-- XFER_PROPOSE (R95): A sender named in XFER_PROPOSE moves the tolls into transit and sends XFER_SENT when it still holds them free. -/
  | xferPropose
  /-- XFER_DELIVER (R95): A receiver named in XFER_DELIVER adds the tolls on first sight of that transfer and answers XFER_RECEIVED. -/
  | xferDeliver
  /-- XFER_CLOSE (R96): A sender named in XFER_CLOSE removes the transfer from transit and lowers INRUSH_HELD. -/
  | xferClose
  /-- XFER_RESEND (R96): While a transfer is in transit, the sender sends XFER_SENT again every XFER_RESEND beats. -/
  | xferResend
  /-- PROPOSAL_FORGET (R95): The leader forgets a proposal that has had no XFER_SENT after XFER_RESEND beats. -/
  | proposalForget
  /-- DELIVER_REPEAT (R95): The leader repeats XFER_DELIVER every XFER_RESEND beats until XFER_RECEIVED arrives. -/
  | deliverRepeat
  /-- RING_DELAY (R86): The leader's beat edge returns on CSC_IN and the ring delay is measured; above 7,680 ticks, kind 0x02 of source 0x71 is raised. -/
  | ringDelay (ticks : BitVec 32)
  /-- RING_OPEN (R86): No edge returns by offset 8,000, so the ring is open, the question counts as objected and kind 0x01 of source 0x71 is raised. -/
  | ringOpen
  /-- CSC_STUCK (R86): CSC_IN stays low for more than 72,000 ticks outside a halt, and kind 0x03 of source 0x71 is raised. -/
  | cscStuck
  /-- LANE_GRANT (R20): A waiting shared-lane request is granted the lowest free shared lane by effective level, posting tick and target. -/
  | laneGrant
  /-- HARD_AGE_PREEMPT (R22): A promoted request older than its hard age, finding no free shared lane, pre-empts the most recently granted lane at its effective level. -/
  | hardAgePreempt
  /-- PREEMPT_HANDOVER (R24): A pre-empted operation reaches its end under Table 1.5, and the lane passes to the pre-empting request. -/
  | preemptHandover (lane : Fin 128)
  /-- LOCKSTEP_MISMATCH (R28): The lockstep comparator mismatches, so the cores are held in reset and restarted from the resident loader. -/
  | lockstepMismatch
  /-- WATCHDOG_EXPIRY (R28): The 10 ms watchdog expires, so the cores are held in reset and restarted from the resident loader. -/
  | watchdogExpiry
  /-- CORE_START (R28): The cores run again after a restart, or after VAUX returns, and resume the object server and the posting of deferred passes. -/
  | coreStart
  /-- STEP_START (R106): With T above L and every rising condition holding, a step at its anchor sets L := L + 1 and arms every OFF rail due at L. -/
  | stepStart
  /-- ON_SLOT (R105): An ARMED rail reaches its on-slot tick and is turned on, or enters WAITING when its prerequisite is not ON. -/
  | onSlot (n : Fin 64)
  /-- PREREQ_TIMEOUT (R105): PREREQ_WAIT of a WAITING rail expires and ON_FAIL decides whether it turns on or is abandoned. -/
  | prereqTimeout (n : Fin 64)
  /-- RAIL_QUALIFY (R108): A RAMPING rail completes QUAL_HOLD in window and enters ON; dependents in WAITING turn on. -/
  | railQualify (n : Fin 64)
  /-- RAMP_TIMEOUT (R105): RAMP_TIMEOUT of a RAMPING rail expires and ON_FAIL decides between ON with RAMP_LATE and abandonment. -/
  | rampTimeout (n : Fin 64)
  /-- FALLING_PASS (R110): T falls below L, so a falling pass sets L := T and moves each rail of the pass toward its off-slot. -/
  | fallingPass
  /-- OFF_SLOT (R110): A STOPPING rail reaches its off-slot tick with every dependent done, and is released and discharged. -/
  | offSlot (n : Fin 64)
  /-- DISCH_TIMEOUT (R105): The first DISCH_TIMEOUT expires, so the rail enters FORCED with its sink at DISCH_FULL and kind 0x22 is raised. -/
  | dischTimeout (n : Fin 64)
  /-- DISCH_FAILED (R105): The second DISCH_TIMEOUT expires, so the rail enters OFF or LOCKED with DISCH_FAILED set and kind 0x23 is raised. -/
  | dischFailed (n : Fin 64)
  /-- LOCAL_SHUTDOWN (R118): A local shutdown cause starts a falling pass to 0, anchored at the cause, and raises kind 0x10 of source 0x8A. -/
  | localShutdown (cause : BitVec 8)
  /-- HOLDOFF_END (R119): The re-entry hold-off ends; T returns to the waystation in force and the card enters SETUP or IDLE. -/
  | holdoffEnd
  /-- PMBUS_TRANSACTION_DONE (R129): A PMBus transaction completes or fails; failures are retried up to PMB_RETRIES and then reported with kind 0x24. -/
  | pmbusTransactionDone (bus : Fin 4) (ok : Bool) (data : BitVec 16)
  /-- COMPARATOR_CROSS (R140): A comparator's raw output crosses, and its glitch filter starts counting from the onset tick. -/
  | comparatorCross (n : Fin 64) (c : Fin 5)
  /-- COMPARATOR_QUALIFY (R142): A glitch filter reaches onset + 2F, and the qualification acts, reports or is ignored according to the comparator's role. -/
  | comparatorQualify (n : Fin 64) (c : Fin 5)
  /-- FILTER_CLEAR (R140): A filter in CLEARING has been inside for 2F ticks, so it returns to INSIDE and clears COMP_QUAL. -/
  | filterClear (n : Fin 64) (c : Fin 5)
  /-- RAIL_DECISION_WINDOW (R153): The rails' decision window closes, and the top-ranked candidate is handed to the collector as the first-fault claim. -/
  | railDecisionWindow
  /-- ENERGY_PERIOD (R155): Every 200,000 ticks, a rail's mean power over the period is added to ENERGY. -/
  | energyPeriod (n : Fin 64)
  /-- SLOT_RESULT (R167): A slice conversion completes and its corrected result goes to the channel objects, the ring, the capture buffer or the guard. -/
  | slotResult (raw : BitVec 16)
  /-- QUICK_RESULT (R185): The four quick converters publish one conversion every 1.0 µs, which feeds the feed logic, collapse detection and hold-up supervision. -/
  | quickResult (feedA feedB outSns vhu : BitVec 12)
  /-- SLICE_SWAP (R173): A swap falls due and the spare takes the next slice's position; the replaced slice goes offline and its calibration step is posted. -/
  | sliceSwap
  /-- FORCED_SWAP (R174): A reserved slice's CAL_AGE reaches CAL_HARD_ROT × ROT_PERIOD, so the spare takes its position and CATCH_UP starts. -/
  | forcedSwap
  /-- CAL_STEP_DONE (R172): A calibration step completes; the slice becomes the spare, or becomes FAILED with kind 0x01. -/
  | calStepDone (n : Fin 17) (zero refP refN rise fall : BitVec 24)
  /-- CAL_STALE (R176): With no spare, a slice's CAL_AGE reaches its limit and kind 0x03 is raised once. -/
  | calStale (n : Fin 17)
  /-- CAPTURE_START (R179): An ARMED capture reaches its start tick with its lane held, takes its gang positions at t0 and enters RUNNING. -/
  | captureStart
  /-- CAPTURE_DONE (R179): CAP_TAKEN reaches CAP_SAMPLES, so the capture enters DONE and its positions return to scan. -/
  | captureDone
  /-- RING_FREEZE (R189): The freeze tick is reached; the ring closes its page with LAST, counts FREEZES and posts a level 0 etch of ring, P1 and P2. -/
  | ringFreeze
  /-- RING_AUTO_REARM (R189): Under REARM_MODE 0x01, once the etch completes and the collector has left its fault state, the ring returns to RUNNING. -/
  | ringAutoRearm
  /-- MARGIN_MOVE_START (R199): A PENDING margin reaches its scheduled tick with the lane held and starts the move. -/
  | marginMoveStart (n : Fin 64)
  /-- MARGIN_STEP (R200): Every 200 ticks a margin move steps the DAC code by MRG_SLEW toward its target, and the last step enters SETTLING. -/
  | marginStep (n : Fin 64)
  /-- MRG_SETTLE_END (R201): MRG_SETTLE ends; the margin makes a trim move, or enters HELD with MRG_ERROR set. -/
  | mrgSettleEnd (n : Fin 64)
  /-- MRG_HOLD_EXPIRED (R199): MRG_HOLD_MAX ends for a HELD margin, so it returns to nominal and raises kind 0x32. -/
  | mrgHoldExpired (n : Fin 64)
  /-- STIP_SCHEDULED_TICK (R216): A scheduled stipple run reaches its tick, enters WAITING and posts its lane request. -/
  | stipScheduledTick (n : Fin 64)
  /-- STIP_WAIT_MAX_END (R216): STIP_WAIT_MAX beats pass in WAITING, so the run FAILs with the reason of the step not reached. -/
  | stipWaitMaxEnd (n : Fin 64)
  /-- STIP_PRELOAD_END (R216): STIP_PRELOAD ticks elapse, so the run enters ACQUIRE with its first pattern edge. -/
  | stipPreloadEnd (n : Fin 64)
  /-- STIP_PATTERN_EDGE (R207): A scheduled pattern edge moves SINK[n] between base and base plus step at STIP_SLEW. -/
  | stipPatternEdge (n : Fin 64)
  /-- STIP_ACQUIRE_END (R216): The last pattern tick is reached, so the run enters UNLOAD and the sink slews to 0 A. -/
  | stipAcquireEnd (n : Fin 64)
  /-- STIP_ANALYSIS_DONE (R216): The analysis completes; results and the trend record are published, limits are checked and the next periodic run is scheduled. -/
  | stipAnalysisDone (n : Fin 64)
  /-- POWER_GRANT (R239): The governor serves waiting power requests from FREE, trimming lower grants for a level 0 request that is still short. -/
  | powerGrant
  /-- ENERGY_GRANT (R239): The governor grants a waiting energy request whole within ENERGY_CAP, and the stipple run arms its capture. -/
  | energyGrant
  /-- SINK_SLEW_DONE (R242): SINK[n] reaches 0 A, so its power grant passes to FREE or its energy grant to COOLING. -/
  | sinkSlewDone (n : Fin 64)
  /-- ENERGY_OVERRUN (R234): A stipple run's metered energy reaches its grant, so the grant is forfeited and the run ends with TOLL_CUT. -/
  | energyOverrun (n : Fin 64)
  /-- COOLING_EXPIRY (R234): Tolls that entered COOLING 2,000,000 ticks earlier pass to FREE. -/
  | coolingExpiry
  /-- POWER_GRANT_REEVAL (R240): Every 200,000 ticks, the want of every power grant is recomputed; any excess passes to FREE and shortfalls re-queue. -/
  | powerGrantReeval
  /-- RESERVE_UPDATE (R241): The reserve is updated from measured dissipation, or set to 95 at etch start and on reserve, trimming grants when FREE is short. -/
  | reserveUpdate
  /-- LOAD_TIME_END (R243): LOAD_TIME elapses, so the host load is removed at SINK_SLEW. -/
  | loadTimeEnd (n : Fin 64)
  /-- MATED (R257): EARLY_N and LATE_N have been low for MATE_DEBOUNCE, so the card is mated and each feed leaves UNMATED. -/
  | mated
  /-- MATING_LOST (R258): A high level on EARLY_N or LATE_N qualifies; feeds enter UNMATED, and an extraction starts an input-loss event. -/
  | matingLost (early : Bool)
  /-- EXTRACT_DELAY_END (R258): EXTRACT_DELAY after an extraction ends, so the gate of an ON feed is pulled. -/
  | extractDelayEnd
  /-- EARLY_HIGH (R258): A qualified high level on EARLY_N during the extraction delay pulls the gate of an ON feed at once. -/
  | earlyHigh
  /-- INRUSH_ISSUE (R246): A waiting ramp's need moves whole from INRUSH_FREE to INRUSH_ISSUED, and the ramp starts. -/
  | inrushIssue
  /-- FUSE_FAST (R262): The fast comparator trips and pulls GATE_x; this is a short during ramp in RAMPING, and a trip under R266 either way. -/
  | fuseFast (f : Fin 2)
  /-- FUSE_SLOW (R262): The slow fuse has been at or above CODE_SLOW for FUSE_TIME, so the feed trips. -/
  | fuseSlow (f : Fin 2)
  /-- SOA_TIMEOUT (R261): The SOA timer reaches SOA_TIME, so the feed trips. -/
  | soaTimeout (f : Fin 2)
  /-- REVERSE_OFF (R263): The sense voltage falls below −CODE_REV, so the gate is pulled and DIODE blocks, or a ramp ends. -/
  | reverseOff (f : Fin 2)
  /-- FORWARD_ON (R263): FEED_x − OUT_SNS exceeds FWD_ON, so the gate is re-enhanced and DIODE conducts. -/
  | forwardOn (f : Fin 2)
  /-- FEED_UV (R265): FEED_x stays below FEED_UV for UV_RIDE, so the feed opens to WAIT_SOURCE. -/
  | feedUv (f : Fin 2)
  /-- FEED_OV (R265): FEED_x stays at or above FEED_OV for OV_FILTER, so the feed opens to WAIT_SOURCE. -/
  | feedOv (f : Fin 2)
  /-- TRIP_RUN_RESET (R256): RETRY_BEATS beat edges pass in ON without a break, so TRIP_RUN is reset to 0. -/
  | tripRunReset (f : Fin 2)
  /-- RETRY_RELEASE (R268): An armed retry deadline is reached on a beat edge, so the TRIPPED feed moves to WAIT_SOURCE. -/
  | retryRelease (f : Fin 2)
  /-- RETRY_FULL (R269): The full timer of RETRY_BEATS edges ends, which releases the retry and raises kind 0x0B. -/
  | retryFull (f : Fin 2)
  /-- DAMAGED_ELEMENT (R270): 16 consecutive SRC_x results at or above DMG_LEVEL with the gate off put the feed in DAMAGED and set DMG_LATCH. -/
  | damagedElement (f : Fin 2)
  /-- DAMAGED_PATH (R271): OUT_SNS stays at or above DMG_LEVEL for DMG_PATH_TIME with both gates off, which raises the fatal kind 0x04 of source 0x5A. -/
  | damagedPath
  /-- INPUT_LOSS (R272): Input is not good for INPUT_RIDE, so an input-loss event raises kind 0x01 and starts local shutdown cause 0x01. -/
  | inputLoss
  /-- PFAIL (R273): A low level on PFAIL_N qualifies; kind 0x03 is raised and the level acts as shutdown cause 0x02 or as a power-fail etch trigger. -/
  | pfail
  /-- PFAIL_HIGH (R273): A high level on PFAIL_N qualifies and shutdown cause 0x02 clears. -/
  | pfailHigh
  /-- HU_LOW (R274): HU_GOOD falls while input is good, or has not reached 1 within 10 s, and kind 0x01 of source 0x5B is raised. -/
  | huLow
  /-- HU_ON_RESERVE (R274): VAUX falls below its operating minimum; the hold-up converter supplies the device, the cores are held and the power-fail etch is posted. -/
  | huOnReserve
  /-- VAUX_RETURN (R314): VAUX returns while on VHU, and the cores start from the resident loader. -/
  | vauxReturn
  /-- VIO_LOSS (R432): VIO is lost; outputs go high impedance, enables are released, and the device goes to OFF unless it is on reserve. -/
  | vioLoss
  /-- MESSAGE_ARRIVAL (R281): A fault message arrives at the collector, which resolves its class, counts it, and takes its pulse, trigger, episode and fatal reactions. -/
  | messageArrival (index : Nat)
  /-- MESSAGE_RELEASE (R281): A queued message is released 24 ticks after its stamp, in stamp order, and is handed to the ledger. -/
  | messageRelease
  /-- COLLECTOR_DECISION (R288): At e0 + W_c, the first fault is decided, written to P1, possibly etched, and FIRST is set on the rail. -/
  | collectorDecision
  /-- QUIET_TIME_END (R286): The quiet timer reaches QUIET_TIME in FAULTED, so the collector enters RECOVERY and FATAL_OUT clears. -/
  | quietTimeEnd
  /-- RECOVERY_SPAN_END (R286): RECOVERY_SPAN elapses and the collector returns to CLEAR. -/
  | recoverySpanEnd
  /-- FAULT_PULSE_END (R291): A FAULT_N pulse reaches its end, and the pin returns to its software-owned level. -/
  | faultPulseEnd
  /-- STARTUP_SPAN_END (R283): STARTUP_SPAN after the end of start-up elapses, and the collector phase leaves START_UP. -/
  | startupSpanEnd
  /-- REFCLK_LOST (R298): No REFCLK edge for 1 µs on the monitor oscillator raises the fatal kind 0x01 of source 0x88. -/
  | refclkLost
  /-- REFCLK_FREQ (R298): REFCLK measured outside 25 MHz ± 200 ppm over 10 ms raises kind 0x02 of source 0x88. -/
  | refclkFreq
  /-- PLL_UNLOCK (R298): The timing fabric PLL loses lock and kind 0x03 of source 0x88 is raised. -/
  | pllUnlock
  /-- FILTER_UNLOCK (R298): The filter clock leaves phase lock in service and kind 0x04 of source 0x88 is raised. -/
  | filterUnlock
  /-- AUTO_ETCH_DUE (R308): AUTO_DELAY after the auto-etch timer starts, a cause 0x02 etch of P0 and P1 is posted. -/
  | autoEtchDue
  /-- ETCH_SNAPSHOT (R309): The etch start time elapses; the snapshot tick forms the page list, writes the etch log entry and suspends the ledger when P2 is in scope. -/
  | etchSnapshot
  /-- ETCH_PAGE_COMMIT (R311): A page's program and COMMIT complete; the etch moves to the next page or ends, and a failure retires the block. -/
  | etchPageCommit (ok : Bool) (ch : Fin 8)
  /-- ECC_PATROL (R305): The patrol reads a group of working memory, rewrites a corrected group, or handles an uncorrectable one. -/
  | eccPatrol (page : BitVec 12) (ch : Fin 8) (group : BitVec 8) (uncorrectable : Bool)
  /-- PAGE_RELOAD (R305): A clean page with an uncorrectable group is reloaded from the copy that recall would choose. -/
  | pageReload (page : BitVec 12)
  /-- SCRUB_STEP (R324): A scrub step reads one stripe of one copy, and a weak copy marks the page dirty and posts a cause 0x06 etch. -/
  | scrubStep (corrected : BitVec 9) (uncorrectable : Bool) (group : BitVec 8)
  /-- OP_TIME_ADD (R323): Every 200,000 ticks, OP_TIME is incremented by the three-step multi-cell add. -/
  | opTimeAdd
  /-- RECALL (R319): Store recall chooses each page's source, rolls back incomplete blocks, recovers counters and increments POWER_CYCLES. -/
  | storeRecall
  /-- LEDGER_ENTRY (R337): The ledger enters the next buffer entry as a new record or a repeat in one paired write. -/
  | ledgerEntry
  /-- LEDGER_FIRST_MARK (R341): The ledger sets FIRST in the record holding the first fault's message and writes its RSEQ into the first-fault entry. -/
  | ledgerFirstMark
  /-- LEDGER_LINK (R342): After a ring trigger, records stamped within the ring span before the freeze tick are linked to that freeze. -/
  | ledgerLink
  /-- LEDGER_RECONCILE (R343): After recall, the ledger voids bad slots, accounts for lost and unentered messages, and writes a POWER_UP record. -/
  | ledgerReconcile
  /-- VERIFY_DONE (R385): The verification checks end, and the update enters VERIFIED or FAILED with its reason. -/
  | verifyDone
  /-- APPLY_OUTPUT_DONE (R387): The difference stream has been applied and checked, the candidate area formed, and the P0 and P1 etch posted, or the update enters FAILED. -/
  | applyOutputDone
  /-- ACTIVATION (R392): On the activation tick, the activation record is written and the cores restart into the pending bank, or ACT_MISSED returns the update to APPLIED. -/
  | activation
  /-- CONFIRM_SPAN_END (R398): CONFIRM_SPAN elapses since the image started, and RUN_OK is set. -/
  | confirmSpanEnd
  /-- CONFIRMATION (R394): Every HEALTH bit is set, so the trial image is confirmed, the old area emptied and kind 0x07 raised. -/
  | confirmation
  /-- TRIAL_TIME_END (R395): TRIAL_TIME elapses before confirmation, so the trial fails with reason TRIAL_TIMEOUT. -/
  | trialTimeEnd
  /-- SUPPLIES_GOOD (R404): Supplies become good with RESET_N high, so start-up enters POWER_ON and RESET_CAUSE is latched. -/
  | suppliesGood
  /-- RESET_LOW (R404): RESET_N goes low, or supplies fail while not on reserve, so the device enters OFF with the pin levels of Table 15.1. -/
  | resetLow (powerLost : Bool)
  /-- POWER_ON_END (R404): Internal supplies and reference are in range; CLOCKS starts and relay forwarding begins. -/
  | powerOnEnd
  /-- CLOCKS_END (R404): The PLL and filter clock lock; the tick counter starts, the collector is released, and recall and start-up calibration start. -/
  | clocksEnd
  /-- END_OF_STARTUP (R405): The image has loaded its settings and rebuilt the update state; convoy, card, feeds, ring, scan and power state take up their start states. -/
  | endOfStartup
  /-- POWER_STATE_ENTER (R412): No Full reason holds and the chosen state is deeper, so the core clock and crypto engine drop to that state. -/
  | powerStateEnter
  /-- FULL_REACHED (R412): A request or a Full reason wakes the device, and Full is reached within the latency bound. -/
  | fullReached
  /-- DWELL_END (R411): DWELL has passed since the latest response, and the DWELL reason clears. -/
  | dwellEnd
  /-- FREEZE (R413): FREEZE_N goes low with FREEZE_ENABLE set, so the functional clocks stop and the proof is taken on the last clocked tick. -/
  | freeze
  /-- FROZEN_BEAT_EDGE (R416): Under freeze, the pin engine detects a beat edge, counts FROZEN_BEATS, and holds CVY_HOLD low under HOLD. -/
  | frozenBeatEdge
  /-- FIRST_CLOCKED_TICK (R417): FREEZE_N has been high for 1 µs; the count is advanced, CVY_HOLD released, freeze changes recorded, and late operations started. -/
  | firstClockedTick
  /-- RELAY_FORWARD (R84): A change of CSC_IN at a relay is driven onto CSC_OUT, and for a relay that is not the leader onto CVY_DATA, within 150 ns, ANDed with the halt, vote, reply or CVY_HOLD level as the slot requires. -/
  | relayForward (cscIn holdLine dataLine : Bool)
  /-- COMPARATOR_RETURN (R140): A comparator's raw output returns inside its threshold by HYST, so a COUNTING filter falls back to INSIDE with no report, or a QUALIFIED filter enters CLEARING and starts its 2F count. -/
  | comparatorReturn (n : Fin 64) (c : Fin 5)
  /-- HOLD_UP_EXHAUSTED (R274): While the YB6400 runs from VHU, the reservoir falls below the 16 V floor, and the device loses all supply and stops. -/
  | holdUpExhausted
  deriving DecidableEq, Repr

end Sys2Proof
end

