-- ==== Sys2Proof/Config.lean ====
section
/-! DEFINITION. What one part or one image fixes, and the values the manual leaves open. Every constant here is opaque: no
proof can see its value. Notes: notes/assumptions/. -/

namespace Sys2Proof.Config

/-- Where in its area (pages 3 to 63 of a settings area, or pages 129 to 143 of P1) the object with a key lives; the layout
belongs to the schema (R386) or is not given (R303). -/
opaque objectPlace : Nat → Nat

/-- Byte `addr` of a page whose layout is not given, as a function of the address and of the class P and C values held
(R303, R386). -/
opaque objectByte : Nat → List (Nat × Nat) → BitVec 8

/-- Per-part values of Table 2.7, Table 6.10, Table 11.9 and Table 14.16. -/
opaque stepping : Nat
opaque serial : Nat → BitVec 8
opaque loaderVersion : Nat
opaque rampSlope : Nat
opaque pageCostAbove140 : Nat
opaque keySlots : Nat

/-- Number that a stipple run carries in kind 0x38 when it did not reach DONE and so has none (R226, R229). -/
opaque abortedRunNumber : Nat → Nat → Nat

/-- A real number, as the expression that forms it. `ratio` is a quotient of integers, `arg` the angle of a complex number and `atan` that
of a slope, in degrees; `cosTurn p q` and `sinTurn p q` are the cosine and sine of p / q of a full turn; `rise x zeta` is the unit step
response p(x) of the second-order low pass p'' + 2 zeta p' + p = 1 that starts at rest. -/
inductive Quantity where
  | ratio (a b : Int)
  | pi
  | add (x y : Quantity)
  | sub (x y : Quantity)
  | mul (x y : Quantity)
  | div (x y : Quantity)
  | sqrt (x : Quantity)
  | abs (x : Quantity)
  | max (x y : Quantity)
  | atan (x : Quantity)
  | arg (re im : Quantity)
  | cosTurn (p q : Nat)
  | sinTurn (p q : Nat)
  | rise (x zeta : Quantity)
  deriving DecidableEq, Repr, Inhabited

/-- Which of the whole numbers next to a real quantity of R219 to R224 its field reports: the manual states no rounding. -/
opaque rounding : Quantity → Nat

/-- What a field reports for a quantity that it cannot hold, or that has no value: the manual gives none. -/
opaque noNumber : Quantity → Nat

/-- Is one real quantity at most another (R220 to R223), where their values are too near to tell or one has none? The manual states no
precision. -/
opaque atMost : Quantity → Quantity → Bool

/-- By what a sum of squares over a number of samples is divided for a standard deviation (R219): the manual does not say. -/
opaque deviationDivisor : Nat → Nat

/-- The slope of R221 where the record has no sample before j_last, or none lies outside SETTLE_BAND: the folded half. -/
opaque edgeSlope : List Int → Quantity

/-- ζ from the half-power width of the peak (R222), from the frequencies and magnitudes of the lines: the manual gives no formula. -/
opaque halfPowerZeta : List (Quantity × Quantity) → Quantity

/-- What Levenberg–Marquardt comes to (R222): frequency, real part, imaginary part and weight of each line, the start (R_dc, R_pk, f_n, ζ)
and the most iterations. The manual gives no damping and no stop. -/
opaque levenbergMarquardt :
  List (Quantity × Quantity × Quantity × Quantity) → List Quantity → Nat → List Quantity

/-- A byte of random number `draw` (R361). -/
opaque randomByte : Nat → Nat → BitVec 8

/-- The keys of a slot, programmed at manufacture (R378): the point of its ECDSA P-384 public key, and its AES-256 key. -/
opaque publicKey : Nat → Nat × Nat
opaque aesKey : Nat → BitVec 256

/-- Whether the header of a shadow copy whose program a loss of supply cut (page, copy) reads as written (Table 11.7 gives only that
its COMMIT is not complete). -/
opaque tornHeader : Nat → Nat → Bool

/-- Fields of the proof whose value the manual does not state (Table 15.9): which one (0 the step and 1 the resolved tick of a lane, 2 the
partner of a hand-off entry that has none), of which entry, and the tick of the freeze. -/
opaque proofField : Nat → Nat → Nat → Nat

/-- SEQ field of the address of kind 0x06 of source 0x7A (R375): no request is concerned in bus-off. Argument: the tick. -/
opaque busOffSeq : Nat → BitVec 16

/-- The VIO class that POWER_ON latches, 3.3 V where true (R430): the board gives it, no command does. Argument: the filter clock. -/
opaque vioClass33 : Nat → Bool

/-- A byte of the dump of the management cores in the proof (Table 15.9): byte, tick of the freeze. -/
opaque coreByte : Nat → Nat → BitVec 8

end Sys2Proof.Config
end

