-- ==== Sys2Proof/Machine/Maps.lean ====
section
/-! DEFINITION. Sparse maps from numbers, as sorted lists of key and value pairs: the one container of the model. -/

namespace Sys2Proof.Machine

/-- A sparse map. A key that is not listed has the value its reader names as default. -/
abbrev FMap (α : Type) := List (Nat × α)

/-- The keys of a map rise strictly. -/
def FMap.sorted {α : Type} (m : FMap α) : Prop := m.Pairwise (fun a b => a.1 < b.1)

/-- The value at key `k`, or `d` where the map does not list `k`. -/
def fget {α : Type} (m : FMap α) (k : Nat) (d : α) : α :=
  match m with
  | [] => d
  | p :: r => if p.1 = k then p.2 else fget r k d

/-- The value at key `k`, if listed. -/
def flook {α : Type} (m : FMap α) (k : Nat) : Option α :=
  match m with
  | [] => none
  | p :: r => if p.1 = k then some p.2 else flook r k

/-- The map with `v` at key `k`; a sorted map stays sorted. -/
def fset {α : Type} (m : FMap α) (k : Nat) (v : α) : FMap α :=
  match m with
  | [] => [(k, v)]
  | p :: r => if p.1 = k then (k, v) :: r else if k < p.1 then (k, v) :: p :: r else p :: fset r k v

/-- The map without key `k`. -/
def fdel {α : Type} (m : FMap α) (k : Nat) : FMap α :=
  match m with
  | [] => []
  | p :: r => if p.1 = k then fdel r k else p :: fdel r k

/-- Is key `k` listed? -/
def fhas {α : Type} (m : FMap α) (k : Nat) : Bool := (flook m k).isSome

/-- A sorted list of numbers without repeats, with `k` added. -/
def nins (l : List Nat) (k : Nat) : List Nat :=
  match l with
  | [] => [k]
  | a :: r => if a = k then a :: r else if k < a then k :: a :: r else a :: nins r k

/-- The list without `k`. -/
def ndel (l : List Nat) (k : Nat) : List Nat := l.filter (fun a => a != k)

/-- Replace the element at position `i` of a list. -/
def lset {α : Type} (l : List α) (i : Nat) (v : α) : List α :=
  match l, i with
  | [], _ => []
  | _ :: r, 0 => v :: r
  | a :: r, i + 1 => a :: lset r i v

/-- The list without the element at position `i`. -/
def ldrop {α : Type} (l : List α) (i : Nat) : List α :=
  match l, i with
  | [], _ => []
  | _ :: r, 0 => r
  | a :: r, i + 1 => a :: ldrop r i

/-- The first element of a list that is least under `lt` (an element replaces the choice only when strictly less). -/
def leastBy {α : Type} (lt : α → α → Bool) (l : List α) : Option α :=
  match l with
  | [] => none
  | a :: r => some (r.foldl (fun best x => if lt x best then x else best) a)

end Sys2Proof.Machine
end

