-- ==== Sys2Proof/Machine/Bytes.lean ====
section
/-! DEFINITION. Bytes and numbers: little-endian fields (R36), two's complement, truncating division, and CRC-32C (R73). -/

namespace Sys2Proof.Machine

/-- The `n` little-endian bytes of a number (R36). -/
def leBytes (n v : Nat) : List Byte :=
  match n with
  | 0 => []
  | k + 1 => BitVec.ofNat 8 v :: leBytes k (v / 256)

/-- The number that little-endian bytes spell (R36). -/
def leNat (bs : List Byte) : Nat :=
  match bs with
  | [] => 0
  | b :: r => b.toNat + 256 * leNat r

/-- Bits `[hi:lo]` of a number. -/
def field (v hi lo : Nat) : Nat := (v / 2 ^ lo) % 2 ^ (hi + 1 - lo)

/-- Bit `i` of a number. -/
def nbit (v i : Nat) : Bool := (v / 2 ^ i) % 2 == 1

/-- 1 for true, 0 for false. -/
def b2n (b : Bool) : Nat := if b then 1 else 0

/-- A raw `bits`-bit value read as two's complement (R36). -/
def signedOf (bits v : Nat) : Int :=
  if v % 2 ^ bits < 2 ^ (bits - 1) then Int.ofNat (v % 2 ^ bits) else Int.ofNat (v % 2 ^ bits) - Int.ofNat (2 ^ bits)

/-- The raw `bits`-bit two's complement of an integer. -/
def rawOf (bits : Nat) (v : Int) : Nat := (v % (Int.ofNat (2 ^ bits))).toNat

/-- Division truncated toward zero. -/
def tdiv (a b : Int) : Int := Int.tdiv a b

/-- Clamp to a closed interval. -/
def clampI (lo hi v : Int) : Int := if v < lo then lo else if hi < v then hi else v

/-- The raw I32 of an integer, at the nearest end of the range where it does not fit (R2). -/
def rawI32 (v : Int) : Nat := rawOf 32 (clampI (-2147483648) 2147483647 v)

/-- Ceiling division. -/
def cdiv (a b : Nat) : Nat := (a + b - 1) / b

/-- Saturation of a counter at 0xFFFFFFFF. -/
def sat32 (v : Nat) : Nat := min v 0xFFFFFFFF

/-- One bit of CRC-32C, reflected (polynomial 0x1EDC6F41, R73). -/
def crcBit (c : BitVec 32) : BitVec 32 := if c.getLsbD 0 then (c >>> 1) ^^^ 0x82F63B78#32 else c >>> 1

/-- One byte of CRC-32C. -/
def crcByte (c : BitVec 32) (b : Byte) : BitVec 32 :=
  crcBit (crcBit (crcBit (crcBit (crcBit (crcBit (crcBit (crcBit (c ^^^ b.zeroExtend 32))))))))

/-- CRC-32C of a byte string: initial value and final XOR 0xFFFFFFFF (R73). -/
def crc32c (bs : List Byte) : BitVec 32 := (bs.foldl crcByte 0xFFFFFFFF#32) ^^^ 0xFFFFFFFF#32

/-- `a` is later than `b` by serial arithmetic (R3). -/
def countLater (a b : Count) : Bool :=
  let d := (a - b).toNat
  decide (1 ≤ d) && decide (d < 2 ^ 31)

/-- `a` is earlier than `b` by serial arithmetic; a distance of exactly 2^31 counts as earlier (R3). -/
def countEarlier (a b : Count) : Bool := decide (2 ^ 31 ≤ (a - b).toNat)

/-- The distance from serial number b to serial number a, modulo 2^32. -/
def u32Sub (a b : Nat) : Nat := (BitVec.ofNat 32 a - BitVec.ofNat 32 b).toNat

/-- Same comparison on raw U32 values. -/
def u32Later (a b : Nat) : Bool := countLater (BitVec.ofNat 32 a) (BitVec.ofNat 32 b)

/-- Little-endian bytes of a list of (length, value) fields. -/
def packLE (fs : List (Nat × Nat)) : List Byte :=
  match fs with
  | [] => []
  | f :: r => leBytes f.1 f.2 ++ packLE r

/-- The `n` bytes at position `at` of a byte string (0x00 past its end). -/
def slice (bs : List Byte) (start n : Nat) : List Byte :=
  let r := (bs.drop start).take n
  r ++ List.replicate (n - r.length) 0#8

/-- The little-endian number of `n` bytes at a position. -/
def leAt (bs : List Byte) (start n : Nat) : Nat := leNat (slice bs start n)

end Sys2Proof.Machine
end

