-- ==== Sys2Proof/Machine/ObjTable.lean ====
section
/-! DEFINITION. The object dictionary: one row for each row of the object tables of spec/ (R33, R39, R42; Tables 1.6 to
15.9), and the key of every named object. A row whose Default column names no number ("per part", "per source", ...) carries
0 here; Machine/Objects.lean gives those reads. -/

namespace Sys2Proof.Machine

/-- Types of Table 2.1. DP_WINDOW, whose length varies (R37), is `octets 0`. -/
inductive ObjType where
  | bool | u8 | u16 | u32 | u64 | i16 | i32
  | octets (n : Nat) | string (n : Nat)
  deriving DecidableEq, Repr

/-- Access codes of Table 0.5. -/
inductive Access where
  | ro | rw | wo | rws | own
  deriving DecidableEq, Repr

/-- Persistence classes of Table 2.2. -/
inductive PClass where
  | l | v | p | c
  deriving DecidableEq, Repr

/-- The values a write may carry (R39, R40). `special` ranges (scan list entries, stencil rules) are judged field by field. -/
inductive Range where
  | any
  | span (lo hi : Int)
  | spans (xs : List (Int × Int))
  | special
  deriving DecidableEq, Repr

/-- One row of an object table: indices `base .. base + count - 1`, subindices `subLo .. subHi`. -/
structure ObjRow where
  base : Nat
  count : Nat
  subLo : Nat
  subHi : Nat
  ty : ObjType
  acc : Access
  cls : PClass
  dflt : Nat
  range : Range
  deriving DecidableEq, Repr

/-- The length in bytes of Table 2.1. -/
def ObjType.bytes : ObjType → Nat
  | .bool | .u8 => 1
  | .u16 | .i16 => 2
  | .u32 | .i32 => 4
  | .u64 => 8
  | .octets n | .string n => n

/-- The key of object `index.sub` in the store of object values. -/
def objKey (index sub : Nat) : Nat := index * 256 + sub

/-- Object rows of Table 1.6. -/
def objRows1 : List ObjRow := [
  ⟨0x2810, 1, 0x00, 0x00, .u8, .ro, .l, 12, .any⟩,
  ⟨0x2810, 1, 0x01, 0x01, .u8, .ro, .l, 128, .any⟩,
  ⟨0x2810, 1, 0x02, 0x02, .u8, .ro, .l, 64, .any⟩,
  ⟨0x2810, 1, 0x03, 0x03, .u8, .ro, .l, 64, .any⟩,
  ⟨0x2810, 1, 0x04, 0x04, .u16, .rw, .p, 16, .span 1 65535⟩,
  ⟨0x2810, 1, 0x05, 0x05, .u32, .rw, .p, 20000000, .span 1000000 4000000000⟩,
  ⟨0x2810, 1, 0x06, 0x06, .u32, .rw, .p, 60000000, .span 1000000 4000000000⟩,
  ⟨0x2810, 1, 0x07, 0x07, .u32, .ro, .l, 0, .any⟩,
  ⟨0x2810, 1, 0x08, 0x08, .u32, .ro, .l, 0, .any⟩,
  ⟨0x2810, 1, 0x09, 0x09, .u32, .ro, .l, 0, .any⟩,
  ⟨0x2810, 1, 0x0A, 0x0A, .u32, .ro, .l, 0, .any⟩,
  ⟨0x2810, 1, 0x0B, 0x0B, .u32, .ro, .l, 0, .any⟩,
  ⟨0x2810, 1, 0x0C, 0x0C, .u32, .ro, .l, 0, .any⟩,
  ⟨0x2880, 1, 0x00, 0x00, .u8, .ro, .l, 128, .any⟩,
  ⟨0x2880, 1, 0x01, 0x80, .u32, .ro, .l, 0, .any⟩]

/-- Object rows of Table 2.7. -/
def objRows2 : List ObjRow := [
  ⟨0x1000, 1, 0x00, 0x00, .u8, .ro, .l, 10, .any⟩,
  ⟨0x1000, 1, 0x01, 0x01, .u32, .ro, .l, 1128616516, .any⟩,
  ⟨0x1000, 1, 0x02, 0x02, .u16, .ro, .l, 25600, .any⟩,
  ⟨0x1000, 1, 0x03, 0x03, .u16, .ro, .l, 0, .any⟩,
  ⟨0x1000, 1, 0x04, 0x04, (.octets 12), .ro, .l, 0, .any⟩,
  ⟨0x1000, 1, 0x05, 0x05, .u32, .ro, .l, 0, .any⟩,
  ⟨0x1000, 1, 0x06, 0x06, .u32, .ro, .l, 0, .any⟩,
  ⟨0x1000, 1, 0x07, 0x07, .u32, .ro, .l, 0, .any⟩,
  ⟨0x1000, 1, 0x08, 0x08, .u16, .ro, .l, 256, .any⟩,
  ⟨0x1000, 1, 0x09, 0x09, .u16, .ro, .l, 0, .any⟩,
  ⟨0x1000, 1, 0x0A, 0x0A, (.string 16), .ro, .l, 52983592534617, .any⟩,
  ⟨0x1002, 1, 0x00, 0x00, .u8, .ro, .l, 1, .any⟩,
  ⟨0x1002, 1, 0x01, 0x01, .u32, .own, .v, 0, .span 1526599151 1526599151⟩]

/-- Object rows of Tables 3.12 to 3.16. -/
def objRows3 : List ObjRow := [
  ⟨0x1400, 1, 0x00, 0x00, .u8, .ro, .l, 11, .any⟩,
  ⟨0x1400, 1, 0x01, 0x01, .bool, .own, .p, 0, .span 0 1⟩,
  ⟨0x1400, 1, 0x02, 0x02, .u16, .own, .p, 0, .span 0 16383⟩,
  ⟨0x1400, 1, 0x03, 0x03, .u8, .own, .p, 0, .span 0 255⟩,
  ⟨0x1400, 1, 0x04, 0x04, .u16, .own, .p, 1, .span 1 256⟩,
  ⟨0x1400, 1, 0x05, 0x05, .bool, .own, .p, 0, .span 0 1⟩,
  ⟨0x1400, 1, 0x06, 0x06, .u8, .own, .p, 0, .span 0 254⟩,
  ⟨0x1400, 1, 0x07, 0x07, .u32, .rw, .p, 1000, .span 360 1000000⟩,
  ⟨0x1400, 1, 0x08, 0x08, .u32, .rw, .p, 5000, .span 1000 1000000⟩,
  ⟨0x1400, 1, 0x09, 0x09, .u16, .rw, .p, 1000, .span 1 65535⟩,
  ⟨0x1400, 1, 0x0A, 0x0A, .u16, .rw, .p, 64, .span 16 65535⟩,
  ⟨0x1400, 1, 0x0B, 0x0B, .u8, .ro, .l, 0, .any⟩,
  ⟨0x1401, 1, 0x00, 0x00, .u8, .ro, .l, 10, .any⟩,
  ⟨0x1401, 1, 0x01, 0x01, .u32, .ro, .l, 0, .any⟩,
  ⟨0x1401, 1, 0x02, 0x02, .u32, .ro, .l, 0, .any⟩,
  ⟨0x1401, 1, 0x03, 0x03, .u8, .ro, .l, 0, .any⟩,
  ⟨0x1401, 1, 0x04, 0x04, .u8, .ro, .l, 0, .any⟩,
  ⟨0x1401, 1, 0x05, 0x05, .u8, .ro, .l, 1, .any⟩,
  ⟨0x1401, 1, 0x06, 0x06, .u8, .ro, .l, 0, .any⟩,
  ⟨0x1401, 1, 0x07, 0x07, .u16, .ro, .l, 0, .any⟩,
  ⟨0x1401, 1, 0x08, 0x08, .bool, .ro, .l, 0, .any⟩,
  ⟨0x1401, 1, 0x09, 0x09, .u32, .ro, .l, 0, .any⟩,
  ⟨0x1401, 1, 0x0A, 0x0A, .u16, .ro, .l, 0, .any⟩,
  ⟨0x1402, 1, 0x00, 0x00, .u8, .ro, .l, 9, .any⟩,
  ⟨0x1402, 1, 0x01, 0x01, .u32, .ro, .l, 0, .any⟩,
  ⟨0x1402, 1, 0x02, 0x02, .u32, .ro, .l, 0, .any⟩,
  ⟨0x1402, 1, 0x03, 0x03, .u32, .ro, .l, 0, .any⟩,
  ⟨0x1402, 1, 0x04, 0x04, .u32, .ro, .l, 0, .any⟩,
  ⟨0x1402, 1, 0x05, 0x05, .u32, .ro, .l, 0, .any⟩,
  ⟨0x1402, 1, 0x06, 0x06, .u32, .ro, .l, 0, .any⟩,
  ⟨0x1402, 1, 0x07, 0x07, .u32, .ro, .l, 0, .any⟩,
  ⟨0x1402, 1, 0x08, 0x08, .u32, .ro, .l, 0, .any⟩,
  ⟨0x1402, 1, 0x09, 0x09, .u32, .ro, .l, 0, .any⟩,
  ⟨0x1403, 1, 0x00, 0x00, .u8, .ro, .l, 2, .any⟩,
  ⟨0x1403, 1, 0x01, 0x01, .u8, .wo, .v, 0, .span 0 255⟩,
  ⟨0x1403, 1, 0x02, 0x02, .bool, .own, .v, 0, .span 0 1⟩,
  ⟨0x1404, 1, 0x00, 0x00, .u8, .ro, .l, 4, .any⟩,
  ⟨0x1404, 1, 0x01, 0x01, .u16, .ro, .c, 0, .any⟩,
  ⟨0x1404, 1, 0x02, 0x02, .u16, .ro, .c, 0, .any⟩,
  ⟨0x1404, 1, 0x03, 0x03, .u32, .ro, .c, 0, .any⟩,
  ⟨0x1404, 1, 0x04, 0x04, .u32, .ro, .c, 0, .any⟩]

/-- Object rows of Rail Sequencing, part 1. -/
def objRows4_1 : List ObjRow := [
  ⟨0x2000, 64, 0x00, 0x00, .u8, .ro, .l, 12, .any⟩,
  ⟨0x2000, 64, 0x01, 0x01, .bool, .rws, .p, 0, .span 0 1⟩,
  ⟨0x2000, 64, 0x02, 0x02, .u8, .rws, .p, 1, .span 1 3⟩,
  ⟨0x2000, 64, 0x03, 0x03, .u8, .rws, .p, 255, .spans [(0, 63), (255, 255)]⟩,
  ⟨0x2000, 64, 0x04, 0x04, .u8, .rw, .p, 0, .span 0 2⟩,
  ⟨0x2000, 64, 0x05, 0x05, .u8, .rw, .p, 0, .span 0 1⟩,
  ⟨0x2000, 64, 0x06, 0x06, .u8, .rws, .p, 0, .span 0 3⟩,
  ⟨0x2000, 64, 0x07, 0x07, .u8, .rws, .p, 0, .spans [(0, 0), (8, 119)]⟩,
  ⟨0x2000, 64, 0x08, 0x08, .u8, .rws, .p, 255, .spans [(0, 31), (255, 255)]⟩,
  ⟨0x2000, 64, 0x09, 0x09, .u8, .rw, .p, 0, .span 0 1⟩,
  ⟨0x2000, 64, 0x0A, 0x0A, .u8, .ro, .l, 0, .any⟩,
  ⟨0x2000, 64, 0x0B, 0x0B, .u16, .ro, .l, 0, .any⟩,
  ⟨0x2000, 64, 0x0C, 0x0C, .bool, .wo, .v, 0, .span 1 1⟩,
  ⟨0x2200, 64, 0x00, 0x00, .u8, .ro, .l, 10, .any⟩,
  ⟨0x2200, 64, 0x01, 0x01, .u8, .rws, .p, 1, .span 1 255⟩,
  ⟨0x2200, 64, 0x02, 0x02, .u32, .rws, .p, 0, .span 0 60000000⟩,
  ⟨0x2200, 64, 0x03, 0x03, .u32, .rw, .p, 10000, .span 0 60000000⟩,
  ⟨0x2200, 64, 0x04, 0x04, .u32, .rw, .p, 20000, .span 100 60000000⟩,
  ⟨0x2200, 64, 0x05, 0x05, .u32, .rw, .p, 100, .span 0 1000000⟩,
  ⟨0x2200, 64, 0x06, 0x06, .u32, .rws, .p, 0, .span 0 60000000⟩,
  ⟨0x2200, 64, 0x07, 0x07, .i32, .rw, .p, 10000, .span 0 1600000⟩,
  ⟨0x2200, 64, 0x08, 0x08, .i32, .rw, .p, 2000, .span 0 20000⟩,
  ⟨0x2200, 64, 0x09, 0x09, .i32, .rw, .p, 20000, .span 0 20000⟩,
  ⟨0x2200, 64, 0x0A, 0x0A, .u32, .rw, .p, 50000, .span 100 60000000⟩,
  ⟨0x2800, 1, 0x00, 0x00, .u8, .ro, .l, 10, .any⟩,
  ⟨0x2800, 1, 0x01, 0x01, .bool, .own, .p, 0, .span 0 1⟩,
  ⟨0x2800, 1, 0x02, 0x02, .u32, .rw, .p, 200000, .span 0 60000000⟩,
  ⟨0x2800, 1, 0x03, 0x03, .bool, .rw, .p, 0, .span 0 1⟩,
  ⟨0x2800, 1, 0x04, 0x04, .bool, .rw, .p, 1, .span 0 1⟩,
  ⟨0x2800, 1, 0x05, 0x05, .i32, .rw, .p, 3800000, .span 2000000 4000000⟩,
  ⟨0x2800, 1, 0x06, 0x06, .u8, .rw, .p, 0, .span 0 2⟩,
  ⟨0x2800, 1, 0x07, 0x07, .u32, .rw, .p, 0, .span 0 100000⟩,
  ⟨0x2800, 1, 0x08, 0x08, .u16, .rw, .p, 256, .span 1 16384⟩,
  ⟨0x2800, 1, 0x09, 0x09, .u8, .rw, .p, 2, .span 0 7⟩,
  ⟨0x2800, 1, 0x0A, 0x0A, .bool, .rw, .p, 1, .span 0 1⟩,
  ⟨0x2801, 1, 0x00, 0x00, .u8, .ro, .l, 9, .any⟩,
  ⟨0x2801, 1, 0x01, 0x01, .u8, .ro, .l, 0, .any⟩,
  ⟨0x2801, 1, 0x02, 0x02, .u8, .ro, .l, 0, .any⟩,
  ⟨0x2801, 1, 0x03, 0x03, .u8, .ro, .l, 7, .any⟩,
  ⟨0x2801, 1, 0x04, 0x04, .u32, .ro, .l, 0, .any⟩,
  ⟨0x2801, 1, 0x05, 0x05, .u32, .ro, .l, 0, .any⟩,
  ⟨0x2801, 1, 0x06, 0x06, .u8, .ro, .l, 0, .any⟩,
  ⟨0x2801, 1, 0x07, 0x07, .u32, .ro, .l, 0, .any⟩,
  ⟨0x2801, 1, 0x08, 0x08, .u64, .ro, .l, 0, .any⟩,
  ⟨0x2801, 1, 0x09, 0x09, .u8, .ro, .l, 0, .any⟩,
  ⟨0x2802, 1, 0x00, 0x00, .u8, .ro, .l, 8, .any⟩,
  ⟨0x2802, 1, 0x01, 0x01, .u32, .ro, .c, 0, .any⟩,
  ⟨0x2802, 1, 0x02, 0x02, .u32, .ro, .c, 0, .any⟩,
  ⟨0x2802, 1, 0x03, 0x03, .u32, .ro, .c, 0, .any⟩,
  ⟨0x2802, 1, 0x04, 0x04, .u32, .ro, .c, 0, .any⟩]

/-- Object rows of Rail Sequencing, part 2. -/
def objRows4_2 : List ObjRow := [
  ⟨0x2802, 1, 0x05, 0x05, .u32, .ro, .c, 0, .any⟩,
  ⟨0x2802, 1, 0x06, 0x06, .u32, .ro, .c, 0, .any⟩,
  ⟨0x2802, 1, 0x07, 0x07, .u32, .ro, .c, 0, .any⟩,
  ⟨0x2802, 1, 0x08, 0x08, .u32, .ro, .c, 0, .any⟩,
  ⟨0x2804, 1, 0x00, 0x00, .u8, .ro, .l, 4, .any⟩,
  ⟨0x2804, 1, 0x01, 0x04, .u8, .rws, .p, 5, .span 0 255⟩]

/-- Object rows of Rail Sequencing. -/
def objRows4 : List ObjRow := objRows4_1 ++ objRows4_2

/-- Object rows of Rail Supervision. -/
def objRows5 : List ObjRow := [
  ⟨0x2100, 64, 0x00, 0x00, .u8, .ro, .l, 19, .any⟩,
  ⟨0x2100, 64, 0x01, 0x01, .u8, .rws, .p, 1, .span 0 3⟩,
  ⟨0x2100, 64, 0x02, 0x02, .u8, .rw, .p, 2, .span 0 15⟩,
  ⟨0x2100, 64, 0x03, 0x03, .i32, .rws, .p, 0, .span 0 204600⟩,
  ⟨0x2100, 64, 0x04, 0x04, .u32, .rws, .p, 5000, .span 100 1000000⟩,
  ⟨0x2100, 64, 0x05, 0x05, .i32, .rw, .p, 204600, .span 0 1636800⟩,
  ⟨0x2100, 64, 0x06, 0x06, .i32, .rw, .p, 0, .span 0 1636800⟩,
  ⟨0x2100, 64, 0x07, 0x07, .i32, .rw, .p, 204400, .span 0 1636800⟩,
  ⟨0x2100, 64, 0x08, 0x08, .i32, .rw, .p, 0, .span 0 1636800⟩,
  ⟨0x2100, 64, 0x09, 0x09, .i32, .rw, .p, 4092000, .span 0 20000000⟩,
  ⟨0x2100, 64, 0x0A, 0x0A, .u16, .rw, .p, 50, .span 0 65535⟩,
  ⟨0x2100, 64, 0x0B, 0x0B, .u16, .rw, .p, 50, .span 0 65535⟩,
  ⟨0x2100, 64, 0x0C, 0x0C, .u16, .rw, .p, 1000, .span 0 65535⟩,
  ⟨0x2100, 64, 0x0D, 0x0D, .u16, .rw, .p, 1000, .span 0 65535⟩,
  ⟨0x2100, 64, 0x0E, 0x0E, .u16, .rw, .p, 100, .span 0 65535⟩,
  ⟨0x2100, 64, 0x0F, 0x0F, .u8, .rw, .p, 11, .span 0 15⟩,
  ⟨0x2100, 64, 0x10, 0x10, .u8, .rw, .p, 11, .span 0 15⟩,
  ⟨0x2100, 64, 0x11, 0x11, .u8, .rw, .p, 0, .spans [(0, 0), (8, 8)]⟩,
  ⟨0x2100, 64, 0x12, 0x12, .u8, .rw, .p, 0, .spans [(0, 0), (8, 8)]⟩,
  ⟨0x2100, 64, 0x13, 0x13, .u8, .rw, .p, 11, .span 0 15⟩,
  ⟨0x2400, 64, 0x00, 0x00, .u8, .ro, .l, 24, .any⟩,
  ⟨0x2400, 64, 0x01, 0x01, .i32, .ro, .l, 0, .any⟩,
  ⟨0x2400, 64, 0x02, 0x02, .i32, .ro, .l, 0, .any⟩,
  ⟨0x2400, 64, 0x03, 0x03, .i32, .ro, .l, 0, .any⟩,
  ⟨0x2400, 64, 0x04, 0x04, .i32, .ro, .l, 0, .any⟩,
  ⟨0x2400, 64, 0x05, 0x05, .u16, .rw, .p, 1024, .span 1 65535⟩,
  ⟨0x2400, 64, 0x06, 0x06, .u8, .ro, .l, 0, .any⟩,
  ⟨0x2400, 64, 0x07, 0x07, .u8, .ro, .l, 0, .any⟩,
  ⟨0x2400, 64, 0x08, 0x08, .u8, .ro, .l, 0, .any⟩,
  ⟨0x2400, 64, 0x09, 0x09, .bool, .wo, .v, 0, .span 1 1⟩,
  ⟨0x2400, 64, 0x0A, 0x0A, .u32, .ro, .c, 0, .any⟩,
  ⟨0x2400, 64, 0x0B, 0x0B, .u32, .ro, .c, 0, .any⟩,
  ⟨0x2400, 64, 0x0C, 0x0C, .u32, .ro, .l, 0, .any⟩,
  ⟨0x2400, 64, 0x0D, 0x0D, .u32, .ro, .l, 0, .any⟩,
  ⟨0x2400, 64, 0x0E, 0x0E, .u8, .ro, .l, 255, .any⟩,
  ⟨0x2400, 64, 0x0F, 0x13, .u32, .ro, .c, 0, .any⟩,
  ⟨0x2400, 64, 0x14, 0x18, .u16, .ro, .l, 0, .any⟩]

/-- Object rows of Conversion, Scan and Capture, part 1. -/
def objRows6_1 : List ObjRow := [
  ⟨0x3000, 1, 0x00, 0x00, .u8, .ro, .l, 10, .any⟩,
  ⟨0x3000, 1, 0x01, 0x01, .u32, .rw, .p, 2000000, .span 170000 60000000⟩,
  ⟨0x3000, 1, 0x02, 0x02, .u8, .rw, .p, 10, .span 2 255⟩,
  ⟨0x3000, 1, 0x03, 0x03, .bool, .rw, .p, 1, .span 0 1⟩,
  ⟨0x3000, 1, 0x04, 0x04, .u8, .ro, .l, 0, .any⟩,
  ⟨0x3000, 1, 0x05, 0x05, .u8, .ro, .l, 0, .any⟩,
  ⟨0x3000, 1, 0x06, 0x06, .u32, .ro, .l, 0, .any⟩,
  ⟨0x3000, 1, 0x07, 0x07, .u32, .ro, .c, 0, .any⟩,
  ⟨0x3000, 1, 0x08, 0x08, .u32, .ro, .c, 0, .any⟩,
  ⟨0x3000, 1, 0x09, 0x09, .u32, .ro, .c, 0, .any⟩,
  ⟨0x3000, 1, 0x0A, 0x0A, .u16, .ro, .l, 0, .any⟩,
  ⟨0x3001, 1, 0x00, 0x00, .u8, .ro, .l, 8, .any⟩,
  ⟨0x3001, 1, 0x01, 0x01, .u8, .ro, .l, 0, .any⟩,
  ⟨0x3001, 1, 0x02, 0x02, .u8, .wo, .v, 0, .span 0 1⟩,
  ⟨0x3001, 1, 0x03, 0x03, .u16, .rw, .p, 192, .span 1 768⟩,
  ⟨0x3001, 1, 0x04, 0x04, .u16, .rw, .p, 192, .span 1 768⟩,
  ⟨0x3001, 1, 0x05, 0x05, .u16, .ro, .l, 0, .any⟩,
  ⟨0x3001, 1, 0x06, 0x06, .u32, .ro, .l, 200000000, .any⟩,
  ⟨0x3001, 1, 0x07, 0x07, .u32, .ro, .l, 0, .any⟩,
  ⟨0x3001, 1, 0x08, 0x08, .u8, .ro, .l, 255, .any⟩,
  ⟨0x3010, 1, 0x00, 0x00, .u8, .ro, .l, 192, .any⟩,
  ⟨0x3010, 1, 0x01, 0xC0, .u32, .rw, .p, 0, .special⟩,
  ⟨0x3011, 1, 0x00, 0x00, .u8, .ro, .l, 192, .any⟩,
  ⟨0x3011, 1, 0x01, 0xC0, .u32, .rw, .p, 0, .special⟩,
  ⟨0x3020, 17, 0x00, 0x00, .u8, .ro, .l, 9, .any⟩,
  ⟨0x3020, 17, 0x01, 0x01, .u8, .ro, .l, 0, .any⟩,
  ⟨0x3020, 17, 0x02, 0x02, .u8, .ro, .l, 0, .any⟩,
  ⟨0x3020, 17, 0x03, 0x03, .i32, .ro, .l, 0, .any⟩,
  ⟨0x3020, 17, 0x04, 0x04, .u32, .ro, .l, 0, .any⟩,
  ⟨0x3020, 17, 0x05, 0x05, .i16, .ro, .l, 0, .any⟩,
  ⟨0x3020, 17, 0x06, 0x06, .u32, .ro, .l, 0, .any⟩,
  ⟨0x3020, 17, 0x07, 0x07, .u32, .ro, .c, 0, .any⟩,
  ⟨0x3020, 17, 0x08, 0x08, .u32, .ro, .c, 0, .any⟩,
  ⟨0x3020, 17, 0x09, 0x09, .bool, .wo, .v, 0, .span 1 1⟩,
  ⟨0x3100, 192, 0x00, 0x00, .u8, .ro, .l, 16, .any⟩,
  ⟨0x3100, 192, 0x01, 0x01, .u8, .rw, .p, 0, .span 0 1⟩,
  ⟨0x3100, 192, 0x02, 0x02, .u8, .rw, .p, 0, .span 0 1⟩,
  ⟨0x3100, 192, 0x03, 0x03, .i16, .rw, .p, 0, .span (-4096) 4096⟩,
  ⟨0x3100, 192, 0x04, 0x04, .u32, .rw, .p, 16777216, .span 15099495 18454937⟩,
  ⟨0x3100, 192, 0x05, 0x05, .bool, .rw, .p, 1, .span 0 1⟩,
  ⟨0x3100, 192, 0x06, 0x06, .bool, .wo, .v, 0, .span 1 1⟩,
  ⟨0x3100, 192, 0x07, 0x07, .u32, .ro, .l, 0, .any⟩,
  ⟨0x3100, 192, 0x08, 0x08, .i32, .ro, .l, 0, .any⟩,
  ⟨0x3100, 192, 0x09, 0x09, .u32, .ro, .l, 0, .any⟩,
  ⟨0x3100, 192, 0x0A, 0x0A, .u32, .ro, .l, 0, .any⟩,
  ⟨0x3100, 192, 0x0B, 0x0B, .u32, .ro, .l, 0, .any⟩,
  ⟨0x3100, 192, 0x0C, 0x0C, .u32, .ro, .l, 1041666, .any⟩,
  ⟨0x3100, 192, 0x0D, 0x0D, .u32, .ro, .l, 0, .any⟩,
  ⟨0x3100, 192, 0x0E, 0x0E, .u32, .ro, .c, 0, .any⟩,
  ⟨0x3100, 192, 0x0F, 0x0F, .i32, .rw, .p, 50000, .span 0 262144⟩]

/-- Object rows of Conversion, Scan and Capture, part 2. -/
def objRows6_2 : List ObjRow := [
  ⟨0x3100, 192, 0x10, 0x10, .u32, .rw, .p, 10000, .span 100 100000⟩,
  ⟨0x3200, 1, 0x00, 0x00, .u8, .ro, .l, 16, .any⟩,
  ⟨0x3200, 1, 0x01, 0x01, .u8, .ro, .l, 0, .any⟩,
  ⟨0x3200, 1, 0x02, 0x02, .u32, .rw, .p, 8000, .span 0 40000⟩,
  ⟨0x3200, 1, 0x03, 0x03, .u8, .rw, .p, 0, .span 0 1⟩,
  ⟨0x3200, 1, 0x04, 0x04, .bool, .wo, .v, 0, .span 1 1⟩,
  ⟨0x3200, 1, 0x05, 0x05, .bool, .wo, .v, 0, .span 1 1⟩,
  ⟨0x3200, 1, 0x06, 0x06, .u32, .ro, .l, 0, .any⟩,
  ⟨0x3200, 1, 0x07, 0x07, .u32, .ro, .l, 0, .any⟩,
  ⟨0x3200, 1, 0x08, 0x08, .u8, .ro, .l, 255, .any⟩,
  ⟨0x3200, 1, 0x09, 0x09, .u32, .ro, .l, 0, .any⟩,
  ⟨0x3200, 1, 0x0A, 0x0A, .u32, .ro, .l, 0, .any⟩,
  ⟨0x3200, 1, 0x0B, 0x0B, .u32, .ro, .l, 0, .any⟩,
  ⟨0x3200, 1, 0x0C, 0x0C, .u32, .ro, .l, 0, .any⟩,
  ⟨0x3200, 1, 0x0D, 0x0D, .u32, .ro, .l, 0, .any⟩,
  ⟨0x3200, 1, 0x0E, 0x0E, .u32, .ro, .l, 0, .any⟩,
  ⟨0x3200, 1, 0x0F, 0x0F, .u32, .ro, .l, 0, .any⟩,
  ⟨0x3200, 1, 0x10, 0x10, .u32, .ro, .c, 0, .any⟩,
  ⟨0x3201, 1, 0x00, 0x00, .u8, .ro, .l, 13, .any⟩,
  ⟨0x3201, 1, 0x01, 0x01, .u8, .rws, .p, 16, .spans [(1, 1), (2, 2), (4, 4), (8, 8), (16, 16)]⟩,
  ⟨0x3201, 1, 0x02, 0x02, .u8, .rws, .p, 1, .span 1 4⟩,
  ⟨0x3201, 1, 0x03, 0x06, .u8, .rws, .p, 0, .span 0 183⟩,
  ⟨0x3201, 1, 0x07, 0x07, .u32, .rws, .p, 65536, .span 1 1048576⟩,
  ⟨0x3201, 1, 0x08, 0x08, .u8, .rws, .p, 0, .span 0 2⟩,
  ⟨0x3201, 1, 0x09, 0x09, .u32, .rws, .p, 0, .span 0 4294967295⟩,
  ⟨0x3201, 1, 0x0A, 0x0A, .u32, .rws, .p, 0, .span 0 4294967295⟩,
  ⟨0x3201, 1, 0x0B, 0x0B, .bool, .wo, .v, 0, .span 1 1⟩,
  ⟨0x3201, 1, 0x0C, 0x0C, .bool, .wo, .v, 0, .span 1 1⟩,
  ⟨0x3201, 1, 0x0D, 0x0D, .bool, .wo, .v, 0, .span 1 1⟩,
  ⟨0x3202, 1, 0x00, 0x00, .u8, .ro, .l, 8, .any⟩,
  ⟨0x3202, 1, 0x01, 0x01, .u8, .ro, .l, 0, .any⟩,
  ⟨0x3202, 1, 0x02, 0x02, .u8, .ro, .l, 0, .any⟩,
  ⟨0x3202, 1, 0x03, 0x03, .u32, .ro, .l, 0, .any⟩,
  ⟨0x3202, 1, 0x04, 0x04, .u32, .ro, .l, 0, .any⟩,
  ⟨0x3202, 1, 0x05, 0x05, .u32, .ro, .l, 0, .any⟩,
  ⟨0x3202, 1, 0x06, 0x06, .u32, .ro, .l, 4294967295, .any⟩,
  ⟨0x3202, 1, 0x07, 0x07, .u8, .ro, .l, 255, .any⟩,
  ⟨0x3202, 1, 0x08, 0x08, .u32, .ro, .l, 36700160, .any⟩,
  ⟨0x3300, 1, 0x00, 0x00, .u8, .ro, .l, 11, .any⟩,
  ⟨0x3300, 1, 0x01, 0x04, .u32, .ro, .l, 0, .any⟩,
  ⟨0x3300, 1, 0x05, 0x08, .i32, .ro, .l, 0, .any⟩,
  ⟨0x3300, 1, 0x09, 0x09, .i32, .rw, .p, 50000, .span 1000 1000000⟩,
  ⟨0x3300, 1, 0x0A, 0x0A, .u8, .rw, .p, 0, .span 0 1⟩,
  ⟨0x3300, 1, 0x0B, 0x0B, .u32, .ro, .c, 0, .any⟩]

/-- Object rows of Conversion, Scan and Capture. -/
def objRows6 : List ObjRow := objRows6_1 ++ objRows6_2

/-- Object rows of Margining and the Stipple Test, part 1. -/
def objRows7_1 : List ObjRow := [
  ⟨0x2300, 64, 0x00, 0x00, .u8, .ro, .l, 23, .any⟩,
  ⟨0x2300, 64, 0x01, 0x01, .u8, .rws, .p, 0, .span 0 2⟩,
  ⟨0x2300, 64, 0x02, 0x02, .i32, .rw, .p, 0, .span 0 1636800⟩,
  ⟨0x2300, 64, 0x03, 0x03, .i32, .rw, .p, 0, .span 0 1636800⟩,
  ⟨0x2300, 64, 0x04, 0x04, .i32, .rw, .p, 0, .span 0 1636800⟩,
  ⟨0x2300, 64, 0x05, 0x05, .u32, .rws, .p, 10000, .span 100 1000000⟩,
  ⟨0x2300, 64, 0x06, 0x06, .u16, .rw, .p, 32, .span 1 32767⟩,
  ⟨0x2300, 64, 0x07, 0x07, .u32, .rw, .p, 1000, .span 0 1000000⟩,
  ⟨0x2300, 64, 0x08, 0x08, .u8, .rw, .p, 0, .span 0 4⟩,
  ⟨0x2300, 64, 0x09, 0x09, .i32, .rw, .p, 100, .span 0 100000⟩,
  ⟨0x2300, 64, 0x0A, 0x0A, .i32, .rw, .p, 1000, .span 0 100000⟩,
  ⟨0x2300, 64, 0x0B, 0x0B, .bool, .rw, .p, 1, .span 0 1⟩,
  ⟨0x2300, 64, 0x0C, 0x0C, .u32, .rw, .p, 0, .span 0 4000000000⟩,
  ⟨0x2300, 64, 0x0D, 0x0D, .u8, .rw, .p, 0, .span 0 1⟩,
  ⟨0x2300, 64, 0x0E, 0x0E, .u32, .rw, .v, 0, .span 0 4294967295⟩,
  ⟨0x2300, 64, 0x0F, 0x0F, .u32, .rw, .v, 0, .span 0 4294967295⟩,
  ⟨0x2300, 64, 0x10, 0x10, .u8, .wo, .v, 0, .span 0 2⟩,
  ⟨0x2300, 64, 0x11, 0x11, .u8, .ro, .l, 0, .any⟩,
  ⟨0x2300, 64, 0x12, 0x12, .u8, .ro, .l, 0, .any⟩,
  ⟨0x2300, 64, 0x13, 0x13, .i16, .ro, .l, 0, .any⟩,
  ⟨0x2300, 64, 0x14, 0x14, .i32, .ro, .l, 0, .any⟩,
  ⟨0x2300, 64, 0x15, 0x15, .u8, .ro, .l, 255, .any⟩,
  ⟨0x2300, 64, 0x16, 0x16, .u32, .ro, .c, 0, .any⟩,
  ⟨0x2300, 64, 0x17, 0x17, .u32, .ro, .c, 0, .any⟩,
  ⟨0x2500, 64, 0x00, 0x00, .u8, .ro, .l, 72, .any⟩,
  ⟨0x2500, 64, 0x01, 0x01, .u8, .rw, .p, 1, .span 1 2⟩,
  ⟨0x2500, 64, 0x02, 0x02, .i32, .rw, .p, 2000, .span 0 20000⟩,
  ⟨0x2500, 64, 0x03, 0x03, .i32, .rw, .p, 5000, .span 100 20000⟩,
  ⟨0x2500, 64, 0x04, 0x04, .u16, .rw, .p, 1000, .span 10 2000⟩,
  ⟨0x2500, 64, 0x05, 0x05, .u32, .rw, .p, 20000, .span 2000 500000⟩,
  ⟨0x2500, 64, 0x06, 0x06, .u16, .rw, .p, 16, .span 1 1024⟩,
  ⟨0x2500, 64, 0x07, 0x07, .u32, .rw, .p, 200, .span 20 10000⟩,
  ⟨0x2500, 64, 0x08, 0x08, .u8, .rw, .p, 2, .span 2 8⟩,
  ⟨0x2500, 64, 0x09, 0x09, .u32, .rw, .p, 40000, .span 4000 400000⟩,
  ⟨0x2500, 64, 0x0A, 0x0A, .u8, .rw, .p, 16, .spans [(8, 8), (16, 16)]⟩,
  ⟨0x2500, 64, 0x0B, 0x0B, .i32, .rw, .p, 0, .span 0 1636800⟩,
  ⟨0x2500, 64, 0x0C, 0x0C, .i32, .rw, .p, 0, .span 0 1636800⟩,
  ⟨0x2500, 64, 0x0D, 0x0D, .u8, .rw, .p, 4, .span 1 64⟩,
  ⟨0x2500, 64, 0x0E, 0x0E, .i32, .rw, .p, 100, .span 1 100000⟩,
  ⟨0x2500, 64, 0x0F, 0x12, .u32, .rw, .p, 0, .spans [(0, 0), (1000, 25000000)]⟩,
  ⟨0x2500, 64, 0x13, 0x13, .u8, .rw, .p, 0, .span 0 1⟩,
  ⟨0x2500, 64, 0x14, 0x14, .u32, .rw, .v, 0, .span 0 4294967295⟩,
  ⟨0x2500, 64, 0x15, 0x15, .u32, .rw, .p, 0, .span 0 4294967295⟩,
  ⟨0x2500, 64, 0x16, 0x16, .u32, .rw, .p, 0, .span 0 4000000000⟩,
  ⟨0x2500, 64, 0x17, 0x17, .u8, .rw, .p, 0, .span 0 2⟩,
  ⟨0x2500, 64, 0x18, 0x18, .u32, .rw, .p, 0, .span 0 1000000⟩,
  ⟨0x2500, 64, 0x19, 0x19, .u16, .rw, .p, 64, .span 1 16384⟩,
  ⟨0x2500, 64, 0x1A, 0x1A, .u32, .rw, .p, 100, .span 1 1000000⟩,
  ⟨0x2500, 64, 0x1B, 0x1B, .i16, .rw, .p, 4500, .span 0 9000⟩,
  ⟨0x2500, 64, 0x1C, 0x1C, .u32, .rw, .p, 0, .span 0 25000000⟩]

/-- Object rows of Margining and the Stipple Test, part 2. -/
def objRows7_2 : List ObjRow := [
  ⟨0x2500, 64, 0x1D, 0x1D, .u32, .rw, .p, 0, .span 0 4294967294⟩,
  ⟨0x2500, 64, 0x1E, 0x1E, .i32, .rw, .p, 0, .span 0 1636800⟩,
  ⟨0x2500, 64, 0x1F, 0x1F, .u32, .rw, .p, 4000, .span 1000 1000000⟩,
  ⟨0x2500, 64, 0x20, 0x20, .u8, .wo, .v, 0, .span 1 2⟩,
  ⟨0x2500, 64, 0x21, 0x21, .u8, .ro, .l, 0, .any⟩,
  ⟨0x2500, 64, 0x22, 0x22, .u8, .ro, .l, 0, .any⟩,
  ⟨0x2500, 64, 0x23, 0x23, .u8, .ro, .l, 0, .any⟩,
  ⟨0x2500, 64, 0x24, 0x24, .u32, .ro, .l, 0, .any⟩,
  ⟨0x2500, 64, 0x25, 0x25, .u32, .ro, .l, 0, .any⟩,
  ⟨0x2500, 64, 0x26, 0x26, .u32, .ro, .l, 0, .any⟩,
  ⟨0x2500, 64, 0x27, 0x27, .u32, .ro, .l, 0, .any⟩,
  ⟨0x2500, 64, 0x28, 0x28, .u32, .ro, .l, 0, .any⟩,
  ⟨0x2500, 64, 0x29, 0x29, .u32, .ro, .l, 0, .any⟩,
  ⟨0x2500, 64, 0x2A, 0x2A, .i32, .ro, .l, 0, .any⟩,
  ⟨0x2500, 64, 0x2B, 0x2B, .u32, .ro, .l, 0, .any⟩,
  ⟨0x2500, 64, 0x2C, 0x2C, .u32, .ro, .l, 0, .any⟩,
  ⟨0x2500, 64, 0x2D, 0x2D, .u32, .ro, .l, 0, .any⟩,
  ⟨0x2500, 64, 0x2E, 0x2E, .i16, .ro, .l, 0, .any⟩,
  ⟨0x2500, 64, 0x2F, 0x2F, .u16, .ro, .l, 0, .any⟩,
  ⟨0x2500, 64, 0x30, 0x30, .i32, .ro, .l, 0, .any⟩,
  ⟨0x2500, 64, 0x31, 0x31, .u32, .ro, .l, 0, .any⟩,
  ⟨0x2500, 64, 0x32, 0x32, .u32, .ro, .l, 0, .any⟩,
  ⟨0x2500, 64, 0x33, 0x33, .u16, .ro, .l, 0, .any⟩,
  ⟨0x2500, 64, 0x34, 0x34, .u16, .ro, .l, 0, .any⟩,
  ⟨0x2500, 64, 0x35, 0x35, .u32, .ro, .l, 0, .any⟩,
  ⟨0x2500, 64, 0x36, 0x36, .u16, .ro, .l, 0, .any⟩,
  ⟨0x2500, 64, 0x37, 0x3A, .u32, .ro, .l, 0, .any⟩,
  ⟨0x2500, 64, 0x3B, 0x3E, .u32, .ro, .l, 0, .any⟩,
  ⟨0x2500, 64, 0x3F, 0x42, .i16, .ro, .l, 0, .any⟩,
  ⟨0x2500, 64, 0x43, 0x46, .u16, .ro, .l, 0, .any⟩,
  ⟨0x2500, 64, 0x47, 0x47, .u32, .ro, .c, 0, .any⟩,
  ⟨0x2500, 64, 0x48, 0x48, .u32, .ro, .c, 0, .any⟩]

/-- Object rows of Margining and the Stipple Test. -/
def objRows7 : List ObjRow := objRows7_1 ++ objRows7_2

/-- Object rows of Sinks and Toll Accounting. -/
def objRows8 : List ObjRow := [
  ⟨0x2600, 64, 0x00, 0x00, .u8, .ro, .l, 12, .any⟩,
  ⟨0x2600, 64, 0x01, 0x01, .u16, .rw, .p, 200, .span 10 2000⟩,
  ⟨0x2600, 64, 0x02, 0x02, .i32, .rw, .p, 0, .span 0 20000⟩,
  ⟨0x2600, 64, 0x03, 0x03, .u32, .rw, .p, 0, .span 0 4000000000⟩,
  ⟨0x2600, 64, 0x04, 0x04, .u8, .wo, .v, 0, .span 1 2⟩,
  ⟨0x2600, 64, 0x05, 0x05, .u8, .ro, .l, 0, .any⟩,
  ⟨0x2600, 64, 0x06, 0x06, .i32, .ro, .l, 0, .any⟩,
  ⟨0x2600, 64, 0x07, 0x07, .i32, .ro, .l, 0, .any⟩,
  ⟨0x2600, 64, 0x08, 0x08, .u32, .ro, .l, 0, .any⟩,
  ⟨0x2600, 64, 0x09, 0x09, .u8, .ro, .l, 255, .any⟩,
  ⟨0x2600, 64, 0x0A, 0x0A, .u8, .ro, .l, 0, .any⟩,
  ⟨0x2600, 64, 0x0B, 0x0B, .u8, .ro, .l, 255, .any⟩,
  ⟨0x2600, 64, 0x0C, 0x0C, .u64, .ro, .c, 0, .any⟩,
  ⟨0x4000, 1, 0x00, 0x00, .u8, .ro, .l, 11, .any⟩,
  ⟨0x4000, 1, 0x01, 0x01, .u32, .ro, .l, 600, .any⟩,
  ⟨0x4000, 1, 0x02, 0x02, .u32, .ro, .l, 95, .any⟩,
  ⟨0x4000, 1, 0x03, 0x03, .u32, .rw, .p, 100, .span 0 200⟩,
  ⟨0x4000, 1, 0x04, 0x04, .u8, .ro, .l, 0, .any⟩,
  ⟨0x4000, 1, 0x05, 0x05, .u32, .ro, .l, 0, .any⟩,
  ⟨0x4000, 1, 0x06, 0x06, .u32, .ro, .l, 0, .any⟩,
  ⟨0x4000, 1, 0x07, 0x07, .u32, .ro, .l, 0, .any⟩,
  ⟨0x4000, 1, 0x08, 0x08, .u32, .ro, .l, 405, .any⟩,
  ⟨0x4000, 1, 0x09, 0x09, .u32, .ro, .l, 405, .any⟩,
  ⟨0x4000, 1, 0x0A, 0x0A, .u8, .ro, .l, 0, .any⟩,
  ⟨0x4000, 1, 0x0B, 0x0B, .u32, .ro, .l, 0, .any⟩,
  ⟨0x4001, 1, 0x00, 0x00, .u8, .ro, .l, 9, .any⟩,
  ⟨0x4001, 1, 0x01, 0x01, .u64, .ro, .l, 0, .any⟩,
  ⟨0x4001, 1, 0x02, 0x02, .u64, .ro, .l, 0, .any⟩,
  ⟨0x4001, 1, 0x03, 0x03, .u32, .ro, .c, 0, .any⟩,
  ⟨0x4001, 1, 0x04, 0x04, .u32, .ro, .c, 0, .any⟩,
  ⟨0x4001, 1, 0x05, 0x05, .u32, .ro, .c, 0, .any⟩,
  ⟨0x4001, 1, 0x06, 0x06, .u32, .ro, .c, 0, .any⟩,
  ⟨0x4001, 1, 0x07, 0x07, .u32, .ro, .c, 0, .any⟩,
  ⟨0x4001, 1, 0x08, 0x08, .u32, .ro, .c, 0, .any⟩,
  ⟨0x4001, 1, 0x09, 0x09, .u32, .ro, .c, 0, .any⟩,
  ⟨0x4002, 1, 0x00, 0x00, .u8, .ro, .l, 9, .any⟩,
  ⟨0x4002, 1, 0x01, 0x01, .u16, .ro, .c, 0, .any⟩,
  ⟨0x4002, 1, 0x02, 0x02, .u16, .ro, .l, 0, .any⟩,
  ⟨0x4002, 1, 0x03, 0x03, .u16, .ro, .l, 0, .any⟩,
  ⟨0x4002, 1, 0x04, 0x04, .u16, .rw, .p, 0, .span 0 65535⟩,
  ⟨0x4002, 1, 0x05, 0x05, .bool, .rw, .p, 0, .span 0 1⟩,
  ⟨0x4002, 1, 0x06, 0x06, .u16, .own, .v, 0, .span 0 65535⟩,
  ⟨0x4002, 1, 0x07, 0x07, .u16, .ro, .l, 0, .any⟩,
  ⟨0x4002, 1, 0x08, 0x08, .u32, .ro, .c, 0, .any⟩,
  ⟨0x4002, 1, 0x09, 0x09, .u32, .ro, .c, 0, .any⟩]

/-- Object rows of Input Feeds, part 1. -/
def objRows9_1 : List ObjRow := [
  ⟨0x3800, 1, 0x00, 0x00, .u8, .ro, .l, 13, .any⟩,
  ⟨0x3800, 1, 0x01, 0x01, .u32, .rw, .p, 50000, .span 1000 1000000⟩,
  ⟨0x3800, 1, 0x02, 0x02, .u16, .rw, .p, 100, .span 0 65535⟩,
  ⟨0x3800, 1, 0x03, 0x03, .u32, .rw, .p, 0, .span 0 100000⟩,
  ⟨0x3800, 1, 0x04, 0x04, .i32, .rw, .p, 4200000, .span 3000000 6000000⟩,
  ⟨0x3800, 1, 0x05, 0x05, .u32, .rw, .p, 1000, .span 0 1000000⟩,
  ⟨0x3800, 1, 0x06, 0x06, .u16, .rw, .p, 1000, .span 0 65535⟩,
  ⟨0x3800, 1, 0x07, 0x07, .u32, .rws, .p, 1000, .span 1 100000⟩,
  ⟨0x3800, 1, 0x08, 0x08, .i32, .rw, .p, 1000000, .span 200000 4000000⟩,
  ⟨0x3800, 1, 0x09, 0x09, .u32, .rw, .p, 20000, .span 1000 1000000⟩,
  ⟨0x3800, 1, 0x0A, 0x0A, .u32, .rw, .p, 2000000, .span 100000 60000000⟩,
  ⟨0x3800, 1, 0x0B, 0x0B, .i32, .rws, .p, 5000000, .span 2000000 5800000⟩,
  ⟨0x3800, 1, 0x0C, 0x0C, .i32, .rw, .p, 3000000, .span 1600000 5800000⟩,
  ⟨0x3800, 1, 0x0D, 0x0D, .i32, .rw, .p, 2000, .span 500 10000⟩,
  ⟨0x3801, 1, 0x00, 0x00, .u8, .ro, .l, 7, .any⟩,
  ⟨0x3801, 1, 0x01, 0x01, .bool, .ro, .l, 0, .any⟩,
  ⟨0x3801, 1, 0x02, 0x02, .bool, .ro, .l, 0, .any⟩,
  ⟨0x3801, 1, 0x03, 0x03, .bool, .ro, .l, 0, .any⟩,
  ⟨0x3801, 1, 0x04, 0x04, .bool, .ro, .l, 0, .any⟩,
  ⟨0x3801, 1, 0x05, 0x05, .bool, .ro, .l, 0, .any⟩,
  ⟨0x3801, 1, 0x06, 0x06, .u32, .ro, .c, 0, .any⟩,
  ⟨0x3801, 1, 0x07, 0x07, .u32, .ro, .c, 0, .any⟩,
  ⟨0x3810, 2, 0x00, 0x00, .u8, .ro, .l, 19, .any⟩,
  ⟨0x3810, 2, 0x01, 0x01, .bool, .rw, .p, 1, .span 0 1⟩,
  ⟨0x3810, 2, 0x02, 0x02, .u32, .rws, .p, 250, .span 50 10000⟩,
  ⟨0x3810, 2, 0x03, 0x03, .i32, .rw, .p, 4000000, .span 3000000 6000000⟩,
  ⟨0x3810, 2, 0x04, 0x04, .i32, .rw, .p, 6000000, .span 4000000 7200000⟩,
  ⟨0x3810, 2, 0x05, 0x05, .u32, .rw, .p, 20000, .span 0 10000000⟩,
  ⟨0x3810, 2, 0x06, 0x06, .u32, .rw, .p, 10000, .span 0 1000000⟩,
  ⟨0x3810, 2, 0x07, 0x07, .u32, .rw, .p, 100, .span 0 100000⟩,
  ⟨0x3810, 2, 0x08, 0x08, .u16, .rw, .p, 5, .span 1 100⟩,
  ⟨0x3810, 2, 0x09, 0x09, .i32, .rw, .p, 50000, .span 10000 200000⟩,
  ⟨0x3810, 2, 0x0A, 0x0A, .i32, .rw, .p, 200000, .span 50000 2000000⟩,
  ⟨0x3810, 2, 0x0B, 0x0B, .u32, .rw, .p, 20000, .span 100 200000⟩,
  ⟨0x3810, 2, 0x0C, 0x0C, .i32, .rw, .p, 3000000, .span 1000 20000000⟩,
  ⟨0x3810, 2, 0x0D, 0x0D, .i32, .rw, .p, 1400000, .span 1000 20000000⟩,
  ⟨0x3810, 2, 0x0E, 0x0E, .u32, .rw, .p, 10000, .span 1 1000000⟩,
  ⟨0x3810, 2, 0x0F, 0x0F, .i32, .rw, .p, 80000, .span 100 2000000⟩,
  ⟨0x3810, 2, 0x10, 0x10, .i32, .rw, .p, 10000, .span 2000 100000⟩,
  ⟨0x3810, 2, 0x11, 0x11, .u32, .rw, .p, 1000, .span 10 4000000⟩,
  ⟨0x3810, 2, 0x12, 0x12, .u8, .rw, .p, 5, .span 1 255⟩,
  ⟨0x3810, 2, 0x13, 0x13, .bool, .own, .v, 0, .span 1 1⟩,
  ⟨0x3820, 2, 0x00, 0x00, .u8, .ro, .l, 14, .any⟩,
  ⟨0x3820, 2, 0x01, 0x01, .u8, .ro, .l, 1, .any⟩,
  ⟨0x3820, 2, 0x02, 0x02, .u8, .ro, .l, 0, .any⟩,
  ⟨0x3820, 2, 0x03, 0x03, .u32, .ro, .c, 0, .any⟩,
  ⟨0x3820, 2, 0x04, 0x04, .u8, .ro, .c, 0, .any⟩,
  ⟨0x3820, 2, 0x05, 0x05, .u32, .ro, .l, 0, .any⟩,
  ⟨0x3820, 2, 0x06, 0x06, .u8, .ro, .c, 0, .any⟩,
  ⟨0x3820, 2, 0x07, 0x07, .u8, .ro, .c, 0, .any⟩]

/-- Object rows of Input Feeds, part 2. -/
def objRows9_2 : List ObjRow := [
  ⟨0x3820, 2, 0x08, 0x08, .u8, .ro, .c, 0, .any⟩,
  ⟨0x3820, 2, 0x09, 0x09, .u16, .ro, .l, 0, .any⟩,
  ⟨0x3820, 2, 0x0A, 0x0A, .u32, .ro, .l, 0, .any⟩,
  ⟨0x3820, 2, 0x0B, 0x0B, .u32, .ro, .l, 0, .any⟩,
  ⟨0x3820, 2, 0x0C, 0x0C, .u16, .ro, .l, 0, .any⟩,
  ⟨0x3820, 2, 0x0D, 0x0D, .u16, .ro, .l, 0, .any⟩,
  ⟨0x3820, 2, 0x0E, 0x0E, .u8, .ro, .l, 0, .any⟩,
  ⟨0x3830, 2, 0x00, 0x00, .u8, .ro, .l, 4, .any⟩,
  ⟨0x3830, 2, 0x01, 0x01, .u32, .ro, .c, 0, .any⟩,
  ⟨0x3830, 2, 0x02, 0x02, .u32, .ro, .c, 0, .any⟩,
  ⟨0x3830, 2, 0x03, 0x03, .u32, .ro, .c, 0, .any⟩,
  ⟨0x3830, 2, 0x04, 0x04, .u32, .ro, .c, 0, .any⟩]

/-- Object rows of Input Feeds. -/
def objRows9 : List ObjRow := objRows9_1 ++ objRows9_2

/-- Object rows of Tables 10.8 to 10.13, part 1. -/
def objRows10_1 : List ObjRow := [
  ⟨0x5000, 256, 0x00, 0x00, .u8, .ro, .l, 17, .any⟩,
  ⟨0x5000, 256, 0x01, 0x01, .u8, .own, .p, 0, .span 0 4⟩,
  ⟨0x5000, 256, 0x02, 0x02, .u8, .own, .p, 0, .span 0 4⟩,
  ⟨0x5000, 256, 0x03, 0x03, .u8, .own, .p, 0, .span 0 4⟩,
  ⟨0x5000, 256, 0x04, 0x04, .u8, .own, .p, 6, .span 0 7⟩,
  ⟨0x5000, 256, 0x05, 0x05, .u8, .own, .p, 0, .span 0 7⟩,
  ⟨0x5000, 256, 0x06, 0x06, .u8, .own, .p, 0, .span 0 1⟩,
  ⟨0x5000, 256, 0x07, 0x07, .bool, .own, .p, 0, .span 0 1⟩,
  ⟨0x5000, 256, 0x08, 0x08, .u8, .own, .p, 0, .span 0 2⟩,
  ⟨0x5000, 256, 0x09, 0x09, .u8, .rw, .v, 0, .span 0 255⟩,
  ⟨0x5000, 256, 0x0A, 0x0A, .u32, .rw, .v, 0, .span 0 16777215⟩,
  ⟨0x5000, 256, 0x0B, 0x0B, .bool, .wo, .v, 0, .span 1 1⟩,
  ⟨0x5000, 256, 0x0C, 0x0C, .u32, .ro, .c, 0, .any⟩,
  ⟨0x5000, 256, 0x0D, 0x0D, .u32, .ro, .c, 0, .any⟩,
  ⟨0x5000, 256, 0x0E, 0x0E, .u32, .ro, .c, 0, .any⟩,
  ⟨0x5000, 256, 0x0F, 0x0F, .u8, .ro, .l, 0, .any⟩,
  ⟨0x5000, 256, 0x10, 0x10, .u32, .ro, .l, 0, .any⟩,
  ⟨0x5000, 256, 0x11, 0x11, .u32, .ro, .l, 0, .any⟩,
  ⟨0x5100, 1, 0x00, 0x00, .u8, .ro, .l, 8, .any⟩,
  ⟨0x5100, 1, 0x01, 0x01, .u32, .rw, .p, 1000000, .span 2000 3600000000⟩,
  ⟨0x5100, 1, 0x02, 0x02, .u32, .rw, .p, 10000000, .span 0 3600000000⟩,
  ⟨0x5100, 1, 0x03, 0x03, .u32, .rw, .p, 2000000, .span 0 600000000⟩,
  ⟨0x5100, 1, 0x04, 0x04, .u32, .rw, .p, 100, .span 1 100000⟩,
  ⟨0x5100, 1, 0x05, 0x05, .bool, .rw, .v, 0, .span 0 1⟩,
  ⟨0x5100, 1, 0x06, 0x06, .u32, .rw, .p, 200, .span 1 200000⟩,
  ⟨0x5100, 1, 0x07, 0x07, .bool, .own, .v, 0, .span 0 1⟩,
  ⟨0x5100, 1, 0x08, 0x08, .bool, .own, .v, 0, .span 1 1⟩,
  ⟨0x5101, 1, 0x00, 0x00, .u8, .ro, .l, 9, .any⟩,
  ⟨0x5101, 1, 0x01, 0x01, .u8, .ro, .l, 0, .any⟩,
  ⟨0x5101, 1, 0x02, 0x02, .u8, .ro, .l, 1, .any⟩,
  ⟨0x5101, 1, 0x03, 0x03, .u32, .ro, .c, 0, .any⟩,
  ⟨0x5101, 1, 0x04, 0x04, .bool, .ro, .l, 0, .any⟩,
  ⟨0x5101, 1, 0x05, 0x05, .u32, .ro, .l, 0, .any⟩,
  ⟨0x5101, 1, 0x06, 0x06, .u32, .ro, .l, 0, .any⟩,
  ⟨0x5101, 1, 0x07, 0x07, .u32, .ro, .l, 420, .any⟩,
  ⟨0x5101, 1, 0x08, 0x08, .bool, .ro, .l, 0, .any⟩,
  ⟨0x5101, 1, 0x09, 0x09, .u16, .ro, .l, 0, .any⟩,
  ⟨0x5102, 1, 0x00, 0x00, .u8, .ro, .l, 9, .any⟩,
  ⟨0x5102, 1, 0x01, 0x01, .u32, .ro, .c, 0, .any⟩,
  ⟨0x5102, 1, 0x02, 0x02, .u8, .ro, .c, 255, .any⟩,
  ⟨0x5102, 1, 0x03, 0x03, .u8, .ro, .c, 0, .any⟩,
  ⟨0x5102, 1, 0x04, 0x04, .u32, .ro, .c, 0, .any⟩,
  ⟨0x5102, 1, 0x05, 0x05, .u8, .ro, .c, 0, .any⟩,
  ⟨0x5102, 1, 0x06, 0x06, .u32, .ro, .c, 0, .any⟩,
  ⟨0x5102, 1, 0x07, 0x07, .u32, .ro, .c, 0, .any⟩,
  ⟨0x5102, 1, 0x08, 0x08, .u32, .ro, .c, 0, .any⟩,
  ⟨0x5102, 1, 0x09, 0x09, .u32, .ro, .c, 0, .any⟩,
  ⟨0x5103, 1, 0x00, 0x00, .u8, .ro, .l, 9, .any⟩,
  ⟨0x5103, 1, 0x01, 0x01, .u32, .ro, .c, 0, .any⟩,
  ⟨0x5103, 1, 0x02, 0x02, .u32, .ro, .c, 0, .any⟩]

/-- Object rows of Tables 10.8 to 10.13, part 2. -/
def objRows10_2 : List ObjRow := [
  ⟨0x5103, 1, 0x03, 0x03, .u32, .ro, .c, 0, .any⟩,
  ⟨0x5103, 1, 0x04, 0x04, .u32, .ro, .c, 0, .any⟩,
  ⟨0x5103, 1, 0x05, 0x05, .u32, .ro, .c, 0, .any⟩,
  ⟨0x5103, 1, 0x06, 0x06, .u32, .ro, .c, 0, .any⟩,
  ⟨0x5103, 1, 0x07, 0x07, .u32, .ro, .c, 0, .any⟩,
  ⟨0x5103, 1, 0x08, 0x08, .u32, .ro, .c, 0, .any⟩,
  ⟨0x5103, 1, 0x09, 0x09, .u32, .ro, .c, 0, .any⟩,
  ⟨0x5104, 1, 0x00, 0x00, .u8, .ro, .l, 4, .any⟩,
  ⟨0x5104, 1, 0x01, 0x01, .u32, .ro, .l, 0, .any⟩,
  ⟨0x5104, 1, 0x02, 0x02, .u32, .ro, .l, 0, .any⟩,
  ⟨0x5104, 1, 0x03, 0x03, .u32, .ro, .l, 0, .any⟩,
  ⟨0x5104, 1, 0x04, 0x04, .u32, .ro, .l, 0, .any⟩]

/-- Object rows of Tables 10.8 to 10.13. -/
def objRows10 : List ObjRow := objRows10_1 ++ objRows10_2

/-- Object rows of Tables 11.8 to 11.12, part 1. -/
def objRows11_1 : List ObjRow := [
  ⟨0x6000, 1, 0x00, 0x00, .u8, .ro, .l, 12, .any⟩,
  ⟨0x6000, 1, 0x01, 0x01, .u8, .ro, .l, 1, .any⟩,
  ⟨0x6000, 1, 0x02, 0x02, .u8, .ro, .l, 0, .any⟩,
  ⟨0x6000, 1, 0x03, 0x03, .u16, .ro, .l, 0, .any⟩,
  ⟨0x6000, 1, 0x04, 0x04, .u16, .ro, .l, 65535, .any⟩,
  ⟨0x6000, 1, 0x05, 0x05, .u32, .ro, .c, 0, .any⟩,
  ⟨0x6000, 1, 0x06, 0x06, .u16, .ro, .l, 0, .any⟩,
  ⟨0x6000, 1, 0x07, 0x07, .u16, .ro, .l, 0, .any⟩,
  ⟨0x6000, 1, 0x08, 0x08, .u16, .ro, .l, 0, .any⟩,
  ⟨0x6000, 1, 0x09, 0x09, .u32, .ro, .l, 0, .any⟩,
  ⟨0x6000, 1, 0x0A, 0x0A, .u32, .ro, .l, 0, .any⟩,
  ⟨0x6000, 1, 0x0B, 0x0B, .u32, .ro, .l, 0, .any⟩,
  ⟨0x6000, 1, 0x0C, 0x0C, .u8, .ro, .l, 0, .any⟩,
  ⟨0x6002, 1, 0x00, 0x00, .u8, .ro, .l, 3, .any⟩,
  ⟨0x6002, 1, 0x01, 0x01, .u8, .wo, .v, 0, .span 1 1⟩,
  ⟨0x6002, 1, 0x02, 0x02, .u8, .rw, .p, 63, .span 0 63⟩,
  ⟨0x6002, 1, 0x03, 0x03, .bool, .wo, .v, 0, .span 1 1⟩,
  ⟨0x6001, 1, 0x00, 0x00, .u8, .ro, .l, 7, .any⟩,
  ⟨0x6001, 1, 0x01, 0x01, .u32, .rw, .p, 10000000, .span 1000000 3600000000⟩,
  ⟨0x6001, 1, 0x02, 0x02, .u32, .rw, .p, 20000, .span 0 200000⟩,
  ⟨0x6001, 1, 0x03, 0x03, .u32, .rws, .p, 1000, .span 100 20000⟩,
  ⟨0x6001, 1, 0x04, 0x04, .i32, .rw, .p, 1650000, .span 1600000 2000000⟩,
  ⟨0x6001, 1, 0x05, 0x05, .bool, .rw, .p, 0, .span 0 1⟩,
  ⟨0x6001, 1, 0x06, 0x06, .u32, .rw, .p, 86400, .span 3600 2592000⟩,
  ⟨0x6001, 1, 0x07, 0x07, .u8, .rw, .p, 2, .span 1 16⟩,
  ⟨0x6003, 1, 0x00, 0x00, .u8, .ro, .l, 8, .any⟩,
  ⟨0x6003, 1, 0x01, 0x01, .u32, .ro, .c, 0, .any⟩,
  ⟨0x6003, 1, 0x02, 0x02, .u32, .ro, .l, 1000, .any⟩,
  ⟨0x6003, 1, 0x03, 0x03, .u32, .ro, .l, 0, .any⟩,
  ⟨0x6003, 1, 0x04, 0x04, .u32, .ro, .l, 0, .any⟩,
  ⟨0x6003, 1, 0x05, 0x05, .u32, .ro, .l, 20000, .any⟩,
  ⟨0x6003, 1, 0x06, 0x06, .u32, .ro, .l, 0, .any⟩,
  ⟨0x6003, 1, 0x07, 0x07, .u32, .ro, .l, 0, .any⟩,
  ⟨0x6003, 1, 0x08, 0x08, .bool, .ro, .l, 0, .any⟩,
  ⟨0x6004, 1, 0x00, 0x00, .u8, .ro, .l, 15, .any⟩,
  ⟨0x6004, 1, 0x01, 0x01, .u32, .ro, .c, 0, .any⟩,
  ⟨0x6004, 1, 0x02, 0x02, .u32, .ro, .c, 0, .any⟩,
  ⟨0x6004, 1, 0x03, 0x03, .u32, .ro, .c, 0, .any⟩,
  ⟨0x6004, 1, 0x04, 0x04, .u32, .ro, .c, 0, .any⟩,
  ⟨0x6004, 1, 0x05, 0x05, .u32, .ro, .c, 0, .any⟩,
  ⟨0x6004, 1, 0x06, 0x06, .u32, .ro, .c, 0, .any⟩,
  ⟨0x6004, 1, 0x07, 0x07, .u32, .ro, .c, 0, .any⟩,
  ⟨0x6004, 1, 0x08, 0x08, .u32, .ro, .c, 0, .any⟩,
  ⟨0x6004, 1, 0x09, 0x09, .u32, .ro, .c, 0, .any⟩,
  ⟨0x6004, 1, 0x0A, 0x0A, .u32, .ro, .c, 0, .any⟩,
  ⟨0x6004, 1, 0x0B, 0x0B, .u32, .ro, .c, 0, .any⟩,
  ⟨0x6004, 1, 0x0C, 0x0C, .u32, .ro, .c, 0, .any⟩,
  ⟨0x6004, 1, 0x0D, 0x0D, .u32, .ro, .c, 0, .any⟩,
  ⟨0x6004, 1, 0x0E, 0x0E, .u32, .ro, .c, 0, .any⟩,
  ⟨0x6004, 1, 0x0F, 0x0F, .u32, .ro, .c, 0, .any⟩]

/-- Object rows of Tables 11.8 to 11.12, part 2. -/
def objRows11_2 : List ObjRow := [
  ⟨0x6005, 1, 0x00, 0x00, .u8, .ro, .l, 2, .any⟩,
  ⟨0x6005, 1, 0x01, 0x01, .u16, .rw, .v, 0, .span 0 4095⟩,
  ⟨0x6005, 1, 0x02, 0x02, .u32, .ro, .l, 0, .any⟩,
  ⟨0x6006, 1, 0x00, 0x00, .u8, .ro, .l, 14, .any⟩,
  ⟨0x6006, 1, 0x01, 0x0E, .u32, .ro, .l, 0, .any⟩,
  ⟨0x6100, 1, 0x00, 0x00, .u8, .ro, .l, 2, .any⟩,
  ⟨0x6100, 1, 0x01, 0x01, .u32, .rw, .v, 0, .span 0 67108863⟩,
  ⟨0x6100, 1, 0x02, 0x02, (.octets 0), .rw, .v, 0, .any⟩]

/-- Object rows of Tables 11.8 to 11.12. -/
def objRows11 : List ObjRow := objRows11_1 ++ objRows11_2

/-- Object rows of Table 12.6. -/
def objRows12 : List ObjRow := [
  ⟨0x6800, 1, 0x00, 0x00, .u8, .ro, .l, 15, .any⟩,
  ⟨0x6800, 1, 0x01, 0x01, .u8, .ro, .l, 1, .any⟩,
  ⟨0x6800, 1, 0x02, 0x02, .u32, .ro, .c, 0, .any⟩,
  ⟨0x6800, 1, 0x03, 0x03, .u32, .ro, .c, 0, .any⟩,
  ⟨0x6800, 1, 0x04, 0x04, .u32, .ro, .l, 0, .any⟩,
  ⟨0x6800, 1, 0x05, 0x05, .u64, .ro, .c, 0, .any⟩,
  ⟨0x6800, 1, 0x06, 0x06, .u64, .ro, .c, 0, .any⟩,
  ⟨0x6800, 1, 0x07, 0x07, .u64, .ro, .c, 0, .any⟩,
  ⟨0x6800, 1, 0x08, 0x08, .u64, .ro, .c, 0, .any⟩,
  ⟨0x6800, 1, 0x09, 0x09, .u16, .ro, .l, 0, .any⟩,
  ⟨0x6800, 1, 0x0A, 0x0A, .u32, .ro, .l, 0, .any⟩,
  ⟨0x6800, 1, 0x0B, 0x0B, .u32, .ro, .c, 0, .any⟩,
  ⟨0x6800, 1, 0x0C, 0x0C, .u32, .ro, .c, 0, .any⟩,
  ⟨0x6800, 1, 0x0D, 0x0D, .u32, .rw, .p, 1000000, .span 0 3600000000⟩,
  ⟨0x6800, 1, 0x0E, 0x0E, .u8, .own, .v, 0, .span 1 2⟩,
  ⟨0x6800, 1, 0x0F, 0x0F, .u32, .ro, .c, 0, .any⟩,
  ⟨0x6801, 1, 0x00, 0x00, .u8, .ro, .l, 6, .any⟩,
  ⟨0x6801, 1, 0x01, 0x01, .u32, .rw, .v, 0, .span 0 4294967295⟩,
  ⟨0x6801, 1, 0x02, 0x02, (.octets 64), .ro, .l, 0, .any⟩,
  ⟨0x6801, 1, 0x03, 0x03, .u32, .rw, .v, 0, .span 0 4294967295⟩,
  ⟨0x6801, 1, 0x04, 0x04, (.octets 64), .ro, .l, 0, .any⟩,
  ⟨0x6801, 1, 0x05, 0x05, .u8, .rw, .v, 0, .span 0 255⟩,
  ⟨0x6801, 1, 0x06, 0x06, .u32, .ro, .l, 4294967295, .any⟩]

/-- Object rows of Hosts, Sessions and the Stencil. -/
def objRows13 : List ObjRow := [
  ⟨0x1100, 1, 0x00, 0x00, .u8, .ro, .l, 6, .any⟩,
  ⟨0x1100, 1, 0x01, 0x01, .u8, .ro, .l, 0, .any⟩,
  ⟨0x1100, 1, 0x02, 0x02, .u8, .ro, .l, 0, .any⟩,
  ⟨0x1100, 1, 0x03, 0x03, .u32, .rw, .v, 10000000, .span 100000 600000000⟩,
  ⟨0x1100, 1, 0x04, 0x04, .u32, .ro, .l, 0, .any⟩,
  ⟨0x1100, 1, 0x05, 0x05, .u32, .rw, .v, 0, .span 0 4000000000⟩,
  ⟨0x1100, 1, 0x06, 0x06, .bool, .wo, .v, 0, .span 1 1⟩,
  ⟨0x1101, 3, 0x00, 0x00, .u8, .ro, .l, 9, .any⟩,
  ⟨0x1101, 3, 0x01, 0x01, .bool, .ro, .l, 0, .any⟩,
  ⟨0x1101, 3, 0x02, 0x02, .u8, .ro, .l, 255, .any⟩,
  ⟨0x1101, 3, 0x03, 0x03, .u32, .ro, .l, 0, .any⟩,
  ⟨0x1101, 3, 0x04, 0x04, .u8, .ro, .l, 0, .any⟩,
  ⟨0x1101, 3, 0x05, 0x05, .u32, .ro, .c, 0, .any⟩,
  ⟨0x1101, 3, 0x06, 0x06, .u32, .ro, .c, 0, .any⟩,
  ⟨0x1101, 3, 0x07, 0x07, .u32, .ro, .c, 0, .any⟩,
  ⟨0x1101, 3, 0x08, 0x08, .u32, .ro, .c, 0, .any⟩,
  ⟨0x1101, 3, 0x09, 0x09, .u32, .ro, .l, 0, .any⟩,
  ⟨0x1110, 1, 0x00, 0x00, .u8, .ro, .l, 5, .any⟩,
  ⟨0x1110, 1, 0x01, 0x01, .u32, .own, .p, 60000000, .span 100000 600000000⟩,
  ⟨0x1110, 1, 0x02, 0x02, .u8, .own, .p, 5, .span 1 255⟩,
  ⟨0x1110, 1, 0x03, 0x03, .u32, .own, .p, 60000000, .span 1000000 3600000000⟩,
  ⟨0x1110, 1, 0x04, 0x04, .u8, .own, .p, 3, .span 0 3⟩,
  ⟨0x1110, 1, 0x05, 0x05, .u32, .own, .p, 10000, .span 1000 1000000⟩,
  ⟨0x1120, 1, 0x00, 0x00, .u8, .ro, .l, 79, .any⟩,
  ⟨0x1120, 1, 0x01, 0x4F, .u8, .ro, .l, 255, .any⟩,
  ⟨0x1121, 1, 0x00, 0x00, .u8, .ro, .l, 3, .any⟩,
  ⟨0x1121, 1, 0x01, 0x01, .u8, .wo, .v, 0, .span 0 78⟩,
  ⟨0x1121, 1, 0x02, 0x02, .u8, .wo, .v, 0, .span 0 78⟩,
  ⟨0x1121, 1, 0x03, 0x03, .u8, .own, .v, 255, .span 0 78⟩,
  ⟨0x1200, 1, 0x00, 0x00, .u8, .ro, .l, 2, .any⟩,
  ⟨0x1200, 1, 0x01, 0x01, .u32, .ro, .l, 0, .any⟩,
  ⟨0x1200, 1, 0x02, 0x02, .u32, .own, .v, 0, .span 1526599151 1526599151⟩,
  ⟨0x1201, 1, 0x00, 0x00, .u8, .ro, .l, 32, .any⟩,
  ⟨0x1201, 1, 0x01, 0x20, .u64, .own, .p, 0, .special⟩,
  ⟨0x1202, 1, 0x00, 0x00, .u8, .ro, .l, 4, .any⟩,
  ⟨0x1202, 1, 0x01, 0x03, (.octets 32), .wo, .p, 0, .any⟩,
  ⟨0x1202, 1, 0x04, 0x04, .u8, .ro, .l, 0, .any⟩]

/-- Object rows of Firmware Update. -/
def objRows14 : List ObjRow := [
  ⟨0x7000, 1, 0x00, 0x00, .u8, .ro, .l, 15, .any⟩,
  ⟨0x7000, 1, 0x01, 0x01, .u8, .ro, .l, 0, .any⟩,
  ⟨0x7000, 1, 0x02, 0x02, .u8, .ro, .l, 0, .any⟩,
  ⟨0x7000, 1, 0x03, 0x03, .u16, .ro, .l, 0, .any⟩,
  ⟨0x7000, 1, 0x04, 0x04, .u16, .ro, .l, 0, .any⟩,
  ⟨0x7000, 1, 0x05, 0x05, .u32, .ro, .l, 0, .any⟩,
  ⟨0x7000, 1, 0x06, 0x06, .u16, .ro, .l, 0, .any⟩,
  ⟨0x7000, 1, 0x07, 0x07, .u8, .ro, .l, 0, .any⟩,
  ⟨0x7000, 1, 0x08, 0x08, .u32, .ro, .l, 0, .any⟩,
  ⟨0x7000, 1, 0x09, 0x09, .u8, .ro, .l, 0, .any⟩,
  ⟨0x7000, 1, 0x0A, 0x0A, .u32, .ro, .l, 0, .any⟩,
  ⟨0x7000, 1, 0x0B, 0x0B, .u8, .ro, .l, 0, .any⟩,
  ⟨0x7000, 1, 0x0C, 0x0C, .u8, .ro, .l, 0, .any⟩,
  ⟨0x7000, 1, 0x0D, 0x0D, .u8, .ro, .l, 0, .any⟩,
  ⟨0x7000, 1, 0x0E, 0x0E, .u16, .ro, .l, 0, .any⟩,
  ⟨0x7000, 1, 0x0F, 0x0F, .u8, .ro, .l, 0, .any⟩,
  ⟨0x7001, 1, 0x00, 0x00, .u8, .ro, .l, 4, .any⟩,
  ⟨0x7001, 1, 0x01, 0x01, .u8, .own, .v, 0, .span 1 7⟩,
  ⟨0x7001, 1, 0x02, 0x02, .u16, .wo, .v, 0, .span 0 2043⟩,
  ⟨0x7001, 1, 0x03, 0x03, .u32, .rw, .v, 0, .span 0 4294967295⟩,
  ⟨0x7001, 1, 0x04, 0x04, .u32, .rw, .v, 0, .span 0 4294967295⟩,
  ⟨0x7002, 1, 0x00, 0x00, .u8, .ro, .l, 7, .any⟩,
  ⟨0x7002, 1, 0x01, 0x01, .u8, .rw, .p, 0, .span 0 2⟩,
  ⟨0x7002, 1, 0x02, 0x02, .u32, .rw, .p, 0, .span 0 1000000⟩,
  ⟨0x7002, 1, 0x03, 0x03, .u16, .rw, .p, 64, .span 1 16384⟩,
  ⟨0x7002, 1, 0x04, 0x04, .u8, .rw, .p, 0, .span 0 1⟩,
  ⟨0x7002, 1, 0x05, 0x05, .u32, .rw, .p, 60000000, .span 1000000 3599000000⟩,
  ⟨0x7002, 1, 0x06, 0x06, .u32, .rw, .p, 10000, .span 0 4000000000⟩,
  ⟨0x7002, 1, 0x07, 0x07, .u32, .rw, .p, 600000000, .span 2000000 3600000000⟩,
  ⟨0x7003, 1, 0x00, 0x00, .u8, .ro, .l, 7, .any⟩,
  ⟨0x7003, 1, 0x01, 0x01, .u32, .ro, .c, 0, .any⟩,
  ⟨0x7003, 1, 0x02, 0x02, .u32, .ro, .c, 0, .any⟩,
  ⟨0x7003, 1, 0x03, 0x03, .u32, .ro, .c, 0, .any⟩,
  ⟨0x7003, 1, 0x04, 0x04, .u32, .ro, .c, 0, .any⟩,
  ⟨0x7003, 1, 0x05, 0x05, .u32, .ro, .c, 0, .any⟩,
  ⟨0x7003, 1, 0x06, 0x06, .u32, .ro, .c, 0, .any⟩,
  ⟨0x7003, 1, 0x07, 0x07, .u32, .ro, .c, 0, .any⟩]

/-- Object rows of Start-up, Power States and Freeze. -/
def objRows15 : List ObjRow := [
  ⟨0x7800, 1, 0x00, 0x00, .u8, .ro, .l, 8, .any⟩,
  ⟨0x7800, 1, 0x01, 0x01, .u8, .ro, .l, 0, .any⟩,
  ⟨0x7800, 1, 0x02, 0x02, .u8, .ro, .l, 0, .any⟩,
  ⟨0x7800, 1, 0x03, 0x03, .u32, .ro, .l, 0, .any⟩,
  ⟨0x7800, 1, 0x04, 0x04, .u32, .rw, .p, 0, .span 0 4000000000⟩,
  ⟨0x7800, 1, 0x05, 0x05, .u8, .rw, .p, 3, .span 0 3⟩,
  ⟨0x7800, 1, 0x06, 0x06, .u32, .rw, .p, 100000, .span 1000 60000000⟩,
  ⟨0x7800, 1, 0x07, 0x07, .u16, .ro, .l, 256, .any⟩,
  ⟨0x7800, 1, 0x08, 0x08, .u32, .ro, .c, 0, .any⟩,
  ⟨0x7801, 1, 0x00, 0x00, .u8, .ro, .l, 5, .any⟩,
  ⟨0x7801, 1, 0x01, 0x01, .u8, .ro, .l, 6, .any⟩,
  ⟨0x7801, 1, 0x02, 0x02, .u32, .ro, .l, 0, .any⟩,
  ⟨0x7801, 1, 0x03, 0x03, .u32, .ro, .l, 0, .any⟩,
  ⟨0x7801, 1, 0x04, 0x04, .u8, .ro, .l, 0, .any⟩,
  ⟨0x7801, 1, 0x05, 0x05, .u32, .ro, .c, 0, .any⟩,
  ⟨0x7900, 1, 0x00, 0x00, .u8, .ro, .l, 8, .any⟩,
  ⟨0x7900, 1, 0x01, 0x01, .bool, .own, .p, 1, .span 0 1⟩,
  ⟨0x7900, 1, 0x02, 0x02, .u8, .own, .p, 0, .span 0 1⟩,
  ⟨0x7900, 1, 0x03, 0x03, .u32, .ro, .c, 0, .any⟩,
  ⟨0x7900, 1, 0x04, 0x04, .u32, .ro, .c, 0, .any⟩,
  ⟨0x7900, 1, 0x05, 0x05, .u32, .ro, .c, 0, .any⟩,
  ⟨0x7900, 1, 0x06, 0x06, .u32, .ro, .c, 0, .any⟩,
  ⟨0x7900, 1, 0x07, 0x07, .u32, .ro, .c, 0, .any⟩,
  ⟨0x7900, 1, 0x08, 0x08, .u64, .ro, .c, 0, .any⟩,
  ⟨0x7901, 1, 0x00, 0x00, .u8, .ro, .l, 3, .any⟩,
  ⟨0x7901, 1, 0x01, 0x01, .u32, .ro, .l, 171748, .any⟩,
  ⟨0x7901, 1, 0x02, 0x02, .u16, .ro, .l, 1, .any⟩,
  ⟨0x7901, 1, 0x03, 0x03, .u32, .ro, .l, 0, .any⟩]

/-- The rows in which an index may stand, by the index map of Table 2.6. -/
def objRowsOf (index : Nat) : List ObjRow :=
  if index < 0x1100 then objRows2
  else if index < 0x1300 then objRows13
  else if index < 0x2000 then objRows3
  else if index < 0x2100 then objRows4
  else if index < 0x2200 then objRows5
  else if index < 0x2300 then objRows4
  else if index < 0x2400 then objRows7
  else if index < 0x2500 then objRows5
  else if index < 0x2600 then objRows7
  else if index < 0x2800 then objRows8
  else if index < 0x2810 then objRows4
  else if index < 0x3000 then objRows1
  else if index < 0x3800 then objRows6
  else if index < 0x4000 then objRows9
  else if index < 0x5000 then objRows8
  else if index < 0x6000 then objRows10
  else if index < 0x6800 then objRows11
  else if index < 0x7000 then objRows12
  else if index < 0x7800 then objRows14
  else objRows15

/-- Does a row hold `index.sub`? -/
def ObjRow.covers (r : ObjRow) (index sub : Nat) : Bool :=
  decide (r.base ≤ index) && decide (index < r.base + r.count) && decide (r.subLo ≤ sub) && decide (sub ≤ r.subHi)

/-- The row of object `index.sub`; none where the dictionary defines no such object (R33, R61). -/
def objRow (index sub : Nat) : Option ObjRow := (objRowsOf index).find? (fun r => r.covers index sub)

/-- The row of the object with a key. -/
def objRowOfKey (key : Nat) : Option ObjRow := objRow (key / 256) (key % 256)

end Sys2Proof.Machine

/-! Keys of the named objects, by the manual's names (R39). -/
namespace Sys2Proof.Machine.K

/-- 0x2810.01 (Table 1.6). -/
def LANE_TOTAL : Nat := objKey 0x2810 0x01
/-- 0x2810.02 (Table 1.6). -/
def RAIL_LANES : Nat := objKey 0x2810 0x02
/-- 0x2810.03 (Table 1.6). -/
def SHARED_FREE : Nat := objKey 0x2810 0x03
/-- 0x2810.04 (Table 1.6). -/
def PROMOTE_DENIALS : Nat := objKey 0x2810 0x04
/-- 0x2810.05 (Table 1.6). -/
def HARD_AGE_CAL : Nat := objKey 0x2810 0x05
/-- 0x2810.06 (Table 1.6). -/
def HARD_AGE_SCRUB : Nat := objKey 0x2810 0x06
/-- 0x2810.07 (Table 1.6). -/
def PROMOTIONS : Nat := objKey 0x2810 0x07
/-- 0x2810.08 (Table 1.6). -/
def HARD_PREEMPTS : Nat := objKey 0x2810 0x08
/-- 0x2810.09 (Table 1.6). -/
def PROTECT_PREEMPTS : Nat := objKey 0x2810 0x09
/-- 0x2810.0A (Table 1.6). -/
def PROTECT_WAITS : Nat := objKey 0x2810 0x0A
/-- 0x2810.0B (Table 1.6). -/
def LATE_STARTS : Nat := objKey 0x2810 0x0B
/-- 0x2810.0C (Table 1.6). -/
def PAST_REFUSALS : Nat := objKey 0x2810 0x0C
/-- 0x2880.01–0x2880.80 (Table 1.6). -/
def LANE_STATUS (j : Nat) : Nat := objKey 0x2880 (0x01 + j)
/-- 0x1000.01 (Table 2.7). -/
def VENDOR_ID : Nat := objKey 0x1000 0x01
/-- 0x1000.02 (Table 2.7). -/
def PART_NUMBER : Nat := objKey 0x1000 0x02
/-- 0x1000.03 (Table 2.7). -/
def STEPPING : Nat := objKey 0x1000 0x03
/-- 0x1000.04 (Table 2.7). -/
def SERIAL : Nat := objKey 0x1000 0x04
/-- 0x1000.05 (Table 2.7). -/
def FW_RUNNING : Nat := objKey 0x1000 0x05
/-- 0x1000.06 (Table 2.7). -/
def FW_OTHER : Nat := objKey 0x1000 0x06
/-- 0x1000.07 (Table 2.7). -/
def LOADER_VERSION : Nat := objKey 0x1000 0x07
/-- 0x1000.08 (Table 2.7). -/
def DICT_VERSION : Nat := objKey 0x1000 0x08
/-- 0x1000.09 (Table 2.7). -/
def SCHEMA_VERSION : Nat := objKey 0x1000 0x09
/-- 0x1000.0A (Table 2.7). -/
def PRODUCT_NAME : Nat := objKey 0x1000 0x0A
/-- 0x1002.01 (Table 2.7). -/
def RESTORE_DEFAULTS : Nat := objKey 0x1002 0x01
/-- 0x1400.01 (Tables 3.12 to 3.16). -/
def CONVOY_ENABLE : Nat := objKey 0x1400 0x01
/-- 0x1400.02 (Tables 3.12 to 3.16). -/
def UNIT_ADDR : Nat := objKey 0x1400 0x02
/-- 0x1400.03 (Tables 3.12 to 3.16). -/
def SEG_ID : Nat := objKey 0x1400 0x03
/-- 0x1400.04 (Tables 3.12 to 3.16). -/
def SEG_COUNT : Nat := objKey 0x1400 0x04
/-- 0x1400.05 (Tables 3.12 to 3.16). -/
def RELAY : Nat := objKey 0x1400 0x05
/-- 0x1400.06 (Tables 3.12 to 3.16). -/
def LEADER_RANK : Nat := objKey 0x1400 0x06
/-- 0x1400.07 (Tables 3.12 to 3.16). -/
def BEAT_PERIOD : Nat := objKey 0x1400 0x07
/-- 0x1400.08 (Tables 3.12 to 3.16). -/
def LOSS_TIMEOUT : Nat := objKey 0x1400 0x08
/-- 0x1400.09 (Tables 3.12 to 3.16). -/
def WAY_RETRY_LIMIT : Nat := objKey 0x1400 0x09
/-- 0x1400.0A (Tables 3.12 to 3.16). -/
def XFER_RESEND : Nat := objKey 0x1400 0x0A
/-- 0x1400.0B (Tables 3.12 to 3.16). -/
def MAX_VERSION : Nat := objKey 0x1400 0x0B
/-- 0x1401.01 (Tables 3.12 to 3.16). -/
def CONVOY_COUNT : Nat := objKey 0x1401 0x01
/-- 0x1401.02 (Tables 3.12 to 3.16). -/
def BEAT_OFFSET : Nat := objKey 0x1401 0x02
/-- 0x1401.03 (Tables 3.12 to 3.16). -/
def STATE : Nat := objKey 0x1401 0x03
/-- 0x1401.04 (Tables 3.12 to 3.16). -/
def WAYSTATION : Nat := objKey 0x1401 0x04
/-- 0x1401.05 (Tables 3.12 to 3.16). -/
def VERSION_IN_FORCE : Nat := objKey 0x1401 0x05
/-- 0x1401.06 (Tables 3.12 to 3.16). -/
def VOTE_VERSION : Nat := objKey 0x1401 0x06
/-- 0x1401.07 (Tables 3.12 to 3.16). -/
def LEADER_ADDR : Nat := objKey 0x1401 0x07
/-- 0x1401.08 (Tables 3.12 to 3.16). -/
def CVY_PRESENT : Nat := objKey 0x1401 0x08
/-- 0x1401.09 (Tables 3.12 to 3.16). -/
def RING_DELAY : Nat := objKey 0x1401 0x09
/-- 0x1401.0A (Tables 3.12 to 3.16). -/
def PENDING_VOTE : Nat := objKey 0x1401 0x0A
/-- 0x1402.01 (Tables 3.12 to 3.16). -/
def BEATS : Nat := objKey 0x1402 0x01
/-- 0x1402.02 (Tables 3.12 to 3.16). -/
def ABSENCES : Nat := objKey 0x1402 0x02
/-- 0x1402.03 (Tables 3.12 to 3.16). -/
def CVY_FRAME_ERRORS : Nat := objKey 0x1402 0x03
/-- 0x1402.04 (Tables 3.12 to 3.16). -/
def SPURIOUS_EDGES : Nat := objKey 0x1402 0x04
/-- 0x1402.05 (Tables 3.12 to 3.16). -/
def LEADER_LOSSES : Nat := objKey 0x1402 0x05
/-- 0x1402.06 (Tables 3.12 to 3.16). -/
def OBJECTIONS : Nat := objKey 0x1402 0x06
/-- 0x1402.07 (Tables 3.12 to 3.16). -/
def HALTS : Nat := objKey 0x1402 0x07
/-- 0x1402.08 (Tables 3.12 to 3.16). -/
def LATE_WAYSTATIONS : Nat := objKey 0x1402 0x08
/-- 0x1402.09 (Tables 3.12 to 3.16). -/
def REBASES : Nat := objKey 0x1402 0x09
/-- 0x1403.01 (Tables 3.12 to 3.16). -/
def WAY_REQUEST : Nat := objKey 0x1403 0x01
/-- 0x1403.02 (Tables 3.12 to 3.16). -/
def HALT_REQUEST : Nat := objKey 0x1403 0x02
/-- 0x1404.01 (Tables 3.12 to 3.16). -/
def XFER_IN_TRANSIT : Nat := objKey 0x1404 0x01
/-- 0x1404.02 (Tables 3.12 to 3.16). -/
def XFER_NEXT_ID : Nat := objKey 0x1404 0x02
/-- 0x1404.03 (Tables 3.12 to 3.16). -/
def XFER_SENT_DONE : Nat := objKey 0x1404 0x03
/-- 0x1404.04 (Tables 3.12 to 3.16). -/
def XFER_RECEIVED : Nat := objKey 0x1404 0x04
/-- 0x2000+n.01 (Rail Sequencing). -/
def RAIL_PRESENT (n : Nat) : Nat := objKey (0x2000 + n) 0x01
/-- 0x2000+n.02 (Rail Sequencing). -/
def CONTROL (n : Nat) : Nat := objKey (0x2000 + n) 0x02
/-- 0x2000+n.03 (Rail Sequencing). -/
def PREREQ (n : Nat) : Nat := objKey (0x2000 + n) 0x03
/-- 0x2000+n.04 (Rail Sequencing). -/
def ON_FAIL (n : Nat) : Nat := objKey (0x2000 + n) 0x04
/-- 0x2000+n.05 (Rail Sequencing). -/
def TRIP_SCOPE (n : Nat) : Nat := objKey (0x2000 + n) 0x05
/-- 0x2000+n.06 (Rail Sequencing). -/
def PMB_PORT (n : Nat) : Nat := objKey (0x2000 + n) 0x06
/-- 0x2000+n.07 (Rail Sequencing). -/
def PMB_ADDR (n : Nat) : Nat := objKey (0x2000 + n) 0x07
/-- 0x2000+n.08 (Rail Sequencing). -/
def PMB_PAGE (n : Nat) : Nat := objKey (0x2000 + n) 0x08
/-- 0x2000+n.09 (Rail Sequencing). -/
def PMB_OFF_MODE (n : Nat) : Nat := objKey (0x2000 + n) 0x09
/-- 0x2000+n.0A (Rail Sequencing). -/
def RAIL_STATE (n : Nat) : Nat := objKey (0x2000 + n) 0x0A
/-- 0x2000+n.0B (Rail Sequencing). -/
def RAIL_FLAGS (n : Nat) : Nat := objKey (0x2000 + n) 0x0B
/-- 0x2000+n.0C (Rail Sequencing). -/
def CLEAR_FLAGS (n : Nat) : Nat := objKey (0x2000 + n) 0x0C
/-- 0x2200+n.01 (Rail Sequencing). -/
def ON_WAY (n : Nat) : Nat := objKey (0x2200 + n) 0x01
/-- 0x2200+n.02 (Rail Sequencing). -/
def ON_DELAY (n : Nat) : Nat := objKey (0x2200 + n) 0x02
/-- 0x2200+n.03 (Rail Sequencing). -/
def PREREQ_WAIT (n : Nat) : Nat := objKey (0x2200 + n) 0x03
/-- 0x2200+n.04 (Rail Sequencing). -/
def RAMP_TIMEOUT (n : Nat) : Nat := objKey (0x2200 + n) 0x04
/-- 0x2200+n.05 (Rail Sequencing). -/
def QUAL_HOLD (n : Nat) : Nat := objKey (0x2200 + n) 0x05
/-- 0x2200+n.06 (Rail Sequencing). -/
def OFF_DELAY (n : Nat) : Nat := objKey (0x2200 + n) 0x06
/-- 0x2200+n.07 (Rail Sequencing). -/
def OFF_LEVEL (n : Nat) : Nat := objKey (0x2200 + n) 0x07
/-- 0x2200+n.08 (Rail Sequencing). -/
def DISCH_CURRENT (n : Nat) : Nat := objKey (0x2200 + n) 0x08
/-- 0x2200+n.09 (Rail Sequencing). -/
def DISCH_FULL (n : Nat) : Nat := objKey (0x2200 + n) 0x09
/-- 0x2200+n.0A (Rail Sequencing). -/
def DISCH_TIMEOUT (n : Nat) : Nat := objKey (0x2200 + n) 0x0A
/-- 0x2800.01 (Rail Sequencing). -/
def LOCAL_HOLD : Nat := objKey 0x2800 0x01
/-- 0x2800.02 (Rail Sequencing). -/
def REENTRY_HOLDOFF : Nat := objKey 0x2800 0x02
/-- 0x2800.03 (Rail Sequencing). -/
def REVERSE : Nat := objKey 0x2800 0x03
/-- 0x2800.04 (Rail Sequencing). -/
def PFAIL_SHUTDOWN : Nat := objKey 0x2800 0x04
/-- 0x2800.05 (Rail Sequencing). -/
def COLLAPSE_V : Nat := objKey 0x2800 0x05
/-- 0x2800.06 (Rail Sequencing). -/
def STAGGER_MODE : Nat := objKey 0x2800 0x06
/-- 0x2800.07 (Rail Sequencing). -/
def STAGGER_STEP : Nat := objKey 0x2800 0x07
/-- 0x2800.08 (Rail Sequencing). -/
def STAGGER_MOD : Nat := objKey 0x2800 0x08
/-- 0x2800.09 (Rail Sequencing). -/
def PMB_RETRIES : Nat := objKey 0x2800 0x09
/-- 0x2800.0A (Rail Sequencing). -/
def PMB_SETUP : Nat := objKey 0x2800 0x0A
/-- 0x2801.01 (Rail Sequencing). -/
def LOCAL_WAY : Nat := objKey 0x2801 0x01
/-- 0x2801.02 (Rail Sequencing). -/
def TARGET_WAY : Nat := objKey 0x2801 0x02
/-- 0x2801.03 (Rail Sequencing). -/
def SEQ_STATE : Nat := objKey 0x2801 0x03
/-- 0x2801.04 (Rail Sequencing). -/
def ANCHOR_BEAT : Nat := objKey 0x2801 0x04
/-- 0x2801.05 (Rail Sequencing). -/
def ANCHOR_OFFSET : Nat := objKey 0x2801 0x05
/-- 0x2801.06 (Rail Sequencing). -/
def SHUTDOWN_CAUSE : Nat := objKey 0x2801 0x06
/-- 0x2801.07 (Rail Sequencing). -/
def HOLDOFF_LEFT : Nat := objKey 0x2801 0x07
/-- 0x2801.08 (Rail Sequencing). -/
def RAILS_ON : Nat := objKey 0x2801 0x08
/-- 0x2801.09 (Rail Sequencing). -/
def DEP_PASSES : Nat := objKey 0x2801 0x09
/-- 0x2802.01 (Rail Sequencing). -/
def STEPS : Nat := objKey 0x2802 0x01
/-- 0x2802.02 (Rail Sequencing). -/
def PASSES : Nat := objKey 0x2802 0x02
/-- 0x2802.03 (Rail Sequencing). -/
def LOCAL_SHUTDOWNS : Nat := objKey 0x2802 0x03
/-- 0x2802.04 (Rail Sequencing). -/
def REVERSALS : Nat := objKey 0x2802 0x04
/-- 0x2802.05 (Rail Sequencing). -/
def COLLAPSES : Nat := objKey 0x2802 0x05
/-- 0x2802.06 (Rail Sequencing). -/
def RAMP_FAILS : Nat := objKey 0x2802 0x06
/-- 0x2802.07 (Rail Sequencing). -/
def DISCH_TIMEOUTS : Nat := objKey 0x2802 0x07
/-- 0x2802.08 (Rail Sequencing). -/
def PMB_FAILURES : Nat := objKey 0x2802 0x08
/-- 0x2804.01–0x2804.04 (Rail Sequencing). -/
def PMB_PORT_CFG (j : Nat) : Nat := objKey 0x2804 (0x01 + j)
/-- 0x2100+n.01 (Rail Supervision). -/
def SENSE_RANGE (n : Nat) : Nat := objKey (0x2100 + n) 0x01
/-- 0x2100+n.02 (Rail Supervision). -/
def HYST (n : Nat) : Nat := objKey (0x2100 + n) 0x02
/-- 0x2100+n.03 (Rail Supervision). -/
def ISNS_ZERO (n : Nat) : Nat := objKey (0x2100 + n) 0x03
/-- 0x2100+n.04 (Rail Supervision). -/
def ISNS_GAIN (n : Nat) : Nat := objKey (0x2100 + n) 0x04
/-- 0x2100+n.05 (Rail Supervision). -/
def OVF_LEVEL (n : Nat) : Nat := objKey (0x2100 + n) 0x05
/-- 0x2100+n.06 (Rail Supervision). -/
def UVF_LEVEL (n : Nat) : Nat := objKey (0x2100 + n) 0x06
/-- 0x2100+n.07 (Rail Supervision). -/
def OVW_LEVEL (n : Nat) : Nat := objKey (0x2100 + n) 0x07
/-- 0x2100+n.08 (Rail Supervision). -/
def UVW_LEVEL (n : Nat) : Nat := objKey (0x2100 + n) 0x08
/-- 0x2100+n.09 (Rail Supervision). -/
def OC_LEVEL (n : Nat) : Nat := objKey (0x2100 + n) 0x09
/-- 0x2100+n.0A (Rail Supervision). -/
def FILTER_OVF (n : Nat) : Nat := objKey (0x2100 + n) 0x0A
/-- 0x2100+n.0B (Rail Supervision). -/
def FILTER_UVF (n : Nat) : Nat := objKey (0x2100 + n) 0x0B
/-- 0x2100+n.0C (Rail Supervision). -/
def FILTER_OVW (n : Nat) : Nat := objKey (0x2100 + n) 0x0C
/-- 0x2100+n.0D (Rail Supervision). -/
def FILTER_UVW (n : Nat) : Nat := objKey (0x2100 + n) 0x0D
/-- 0x2100+n.0E (Rail Supervision). -/
def FILTER_OC (n : Nat) : Nat := objKey (0x2100 + n) 0x0E
/-- 0x2100+n.0F (Rail Supervision). -/
def ACTION_OVF (n : Nat) : Nat := objKey (0x2100 + n) 0x0F
/-- 0x2100+n.10 (Rail Supervision). -/
def ACTION_UVF (n : Nat) : Nat := objKey (0x2100 + n) 0x10
/-- 0x2100+n.11 (Rail Supervision). -/
def ACTION_OVW (n : Nat) : Nat := objKey (0x2100 + n) 0x11
/-- 0x2100+n.12 (Rail Supervision). -/
def ACTION_UVW (n : Nat) : Nat := objKey (0x2100 + n) 0x12
/-- 0x2100+n.13 (Rail Supervision). -/
def ACTION_OC (n : Nat) : Nat := objKey (0x2100 + n) 0x13
/-- 0x2400+n.01 (Rail Supervision). -/
def V_NOW (n : Nat) : Nat := objKey (0x2400 + n) 0x01
/-- 0x2400+n.02 (Rail Supervision). -/
def I_NOW (n : Nat) : Nat := objKey (0x2400 + n) 0x02
/-- 0x2400+n.03 (Rail Supervision). -/
def V_AVG (n : Nat) : Nat := objKey (0x2400 + n) 0x03
/-- 0x2400+n.04 (Rail Supervision). -/
def I_AVG (n : Nat) : Nat := objKey (0x2400 + n) 0x04
/-- 0x2400+n.05 (Rail Supervision). -/
def AVG_SAMPLES (n : Nat) : Nat := objKey (0x2400 + n) 0x05
/-- 0x2400+n.06 (Rail Supervision). -/
def COMP_RAW (n : Nat) : Nat := objKey (0x2400 + n) 0x06
/-- 0x2400+n.07 (Rail Supervision). -/
def COMP_QUAL (n : Nat) : Nat := objKey (0x2400 + n) 0x07
/-- 0x2400+n.08 (Rail Supervision). -/
def COMP_LATCH (n : Nat) : Nat := objKey (0x2400 + n) 0x08
/-- 0x2400+n.09 (Rail Supervision). -/
def CLEAR_LATCH (n : Nat) : Nat := objKey (0x2400 + n) 0x09
/-- 0x2400+n.0A (Rail Supervision). -/
def ENERGY_LO (n : Nat) : Nat := objKey (0x2400 + n) 0x0A
/-- 0x2400+n.0B (Rail Supervision). -/
def ENERGY_HI (n : Nat) : Nat := objKey (0x2400 + n) 0x0B
/-- 0x2400+n.0C (Rail Supervision). -/
def LAST_QUAL_BEAT (n : Nat) : Nat := objKey (0x2400 + n) 0x0C
/-- 0x2400+n.0D (Rail Supervision). -/
def LAST_QUAL_OFFSET (n : Nat) : Nat := objKey (0x2400 + n) 0x0D
/-- 0x2400+n.0E (Rail Supervision). -/
def LAST_QUAL_COMP (n : Nat) : Nat := objKey (0x2400 + n) 0x0E
/-- 0x2400+n.0F–0x2400+n.13 (Rail Supervision). -/
def QUAL_COUNT (n : Nat) (j : Nat) : Nat := objKey (0x2400 + n) (0x0F + j)
/-- 0x2400+n.14–0x2400+n.18 (Rail Supervision). -/
def EFF_CODE (n : Nat) (j : Nat) : Nat := objKey (0x2400 + n) (0x14 + j)
/-- 0x3000.01 (Conversion, Scan and Capture). -/
def ROT_PERIOD : Nat := objKey 0x3000 0x01
/-- 0x3000.02 (Conversion, Scan and Capture). -/
def CAL_HARD_ROT : Nat := objKey 0x3000 0x02
/-- 0x3000.03 (Conversion, Scan and Capture). -/
def ZERO_TRACK : Nat := objKey 0x3000 0x03
/-- 0x3000.04 (Conversion, Scan and Capture). -/
def CAL_STATE : Nat := objKey 0x3000 0x04
/-- 0x3000.05 (Conversion, Scan and Capture). -/
def CATCH_UP_LEFT : Nat := objKey 0x3000 0x05
/-- 0x3000.06 (Conversion, Scan and Capture). -/
def ROTATIONS : Nat := objKey 0x3000 0x06
/-- 0x3000.07 (Conversion, Scan and Capture). -/
def FORCED_SWAPS : Nat := objKey 0x3000 0x07
/-- 0x3000.08 (Conversion, Scan and Capture). -/
def CAL_REFUSALS : Nat := objKey 0x3000 0x08
/-- 0x3000.09 (Conversion, Scan and Capture). -/
def DROPS_TOTAL : Nat := objKey 0x3000 0x09
/-- 0x3000.0A (Conversion, Scan and Capture). -/
def RAMP_SLOPE : Nat := objKey 0x3000 0x0A
/-- 0x3001.01 (Conversion, Scan and Capture). -/
def SCAN_ACTIVE_BANK : Nat := objKey 0x3001 0x01
/-- 0x3001.02 (Conversion, Scan and Capture). -/
def SCAN_SELECT : Nat := objKey 0x3001 0x02
/-- 0x3001.03 (Conversion, Scan and Capture). -/
def LEN_A : Nat := objKey 0x3001 0x03
/-- 0x3001.04 (Conversion, Scan and Capture). -/
def LEN_B : Nat := objKey 0x3001 0x04
/-- 0x3001.05 (Conversion, Scan and Capture). -/
def LIST_POS : Nat := objKey 0x3001 0x05
/-- 0x3001.06 (Conversion, Scan and Capture). -/
def SCAN_RATE : Nat := objKey 0x3001 0x06
/-- 0x3001.07 (Conversion, Scan and Capture). -/
def SCAN_PASSES : Nat := objKey 0x3001 0x07
/-- 0x3001.08 (Conversion, Scan and Capture). -/
def PENDING_BANK : Nat := objKey 0x3001 0x08
/-- 0x3010.01–0x3010.C0 (Conversion, Scan and Capture). -/
def ENTRIES_A (j : Nat) : Nat := objKey 0x3010 (0x01 + j)
/-- 0x3011.01–0x3011.C0 (Conversion, Scan and Capture). -/
def ENTRIES_B (j : Nat) : Nat := objKey 0x3011 (0x01 + j)
/-- 0x3020+s.01 (Conversion, Scan and Capture). -/
def ROLE (n : Nat) : Nat := objKey (0x3020 + n) 0x01
/-- 0x3020+s.02 (Conversion, Scan and Capture). -/
def POSITION (n : Nat) : Nat := objKey (0x3020 + n) 0x02
/-- 0x3020+s.03 (Conversion, Scan and Capture). -/
def SLICE_OFFSET (n : Nat) : Nat := objKey (0x3020 + n) 0x03
/-- 0x3020+s.04 (Conversion, Scan and Capture). -/
def SLICE_GAIN (n : Nat) : Nat := objKey (0x3020 + n) 0x04
/-- 0x3020+s.05 (Conversion, Scan and Capture). -/
def SLICE_SKEW (n : Nat) : Nat := objKey (0x3020 + n) 0x05
/-- 0x3020+s.06 (Conversion, Scan and Capture). -/
def CAL_AGE (n : Nat) : Nat := objKey (0x3020 + n) 0x06
/-- 0x3020+s.07 (Conversion, Scan and Capture). -/
def CAL_COUNT (n : Nat) : Nat := objKey (0x3020 + n) 0x07
/-- 0x3020+s.08 (Conversion, Scan and Capture). -/
def CAL_FAILS (n : Nat) : Nat := objKey (0x3020 + n) 0x08
/-- 0x3020+s.09 (Conversion, Scan and Capture). -/
def READMIT (n : Nat) : Nat := objKey (0x3020 + n) 0x09
/-- 0x3100+c.01 (Conversion, Scan and Capture). -/
def FORMAT (n : Nat) : Nat := objKey (0x3100 + n) 0x01
/-- 0x3100+c.02 (Conversion, Scan and Capture). -/
def ALIGN (n : Nat) : Nat := objKey (0x3100 + n) 0x02
/-- 0x3100+c.03 (Conversion, Scan and Capture). -/
def CH_OFFSET (n : Nat) : Nat := objKey (0x3100 + n) 0x03
/-- 0x3100+c.04 (Conversion, Scan and Capture). -/
def CH_GAIN (n : Nat) : Nat := objKey (0x3100 + n) 0x04
/-- 0x3100+c.05 (Conversion, Scan and Capture). -/
def URGENT_ON_CROSS (n : Nat) : Nat := objKey (0x3100 + n) 0x05
/-- 0x3100+c.06 (Conversion, Scan and Capture). -/
def CONVERT (n : Nat) : Nat := objKey (0x3100 + n) 0x06
/-- 0x3100+c.07 (Conversion, Scan and Capture). -/
def LAST_WORD (n : Nat) : Nat := objKey (0x3100 + n) 0x07
/-- 0x3100+c.08 (Conversion, Scan and Capture). -/
def VALUE (n : Nat) : Nat := objKey (0x3100 + n) 0x08
/-- 0x3100+c.09 (Conversion, Scan and Capture). -/
def URGENT_WORD (n : Nat) : Nat := objKey (0x3100 + n) 0x09
/-- 0x3100+c.0A (Conversion, Scan and Capture). -/
def URGENT_BEAT (n : Nat) : Nat := objKey (0x3100 + n) 0x0A
/-- 0x3100+c.0B (Conversion, Scan and Capture). -/
def URGENT_OFFSET (n : Nat) : Nat := objKey (0x3100 + n) 0x0B
/-- 0x3100+c.0C (Conversion, Scan and Capture). -/
def RATE (n : Nat) : Nat := objKey (0x3100 + n) 0x0C
/-- 0x3100+c.0D (Conversion, Scan and Capture). -/
def URGENTS (n : Nat) : Nat := objKey (0x3100 + n) 0x0D
/-- 0x3100+c.0E (Conversion, Scan and Capture). -/
def DROPS (n : Nat) : Nat := objKey (0x3100 + n) 0x0E
/-- 0x3100+c.0F (Conversion, Scan and Capture). -/
def TEMP_ZERO (n : Nat) : Nat := objKey (0x3100 + n) 0x0F
/-- 0x3100+c.10 (Conversion, Scan and Capture). -/
def TEMP_SLOPE (n : Nat) : Nat := objKey (0x3100 + n) 0x10
/-- 0x3200.01 (Conversion, Scan and Capture). -/
def RING_STATE : Nat := objKey 0x3200 0x01
/-- 0x3200.02 (Conversion, Scan and Capture). -/
def POST_SPAN : Nat := objKey 0x3200 0x02
/-- 0x3200.03 (Conversion, Scan and Capture). -/
def REARM_MODE : Nat := objKey 0x3200 0x03
/-- 0x3200.04 (Conversion, Scan and Capture). -/
def RING_REARM : Nat := objKey 0x3200 0x04
/-- 0x3200.05 (Conversion, Scan and Capture). -/
def RING_TRIGGER : Nat := objKey 0x3200 0x05
/-- 0x3200.06 (Conversion, Scan and Capture). -/
def TRIG_BEAT : Nat := objKey 0x3200 0x06
/-- 0x3200.07 (Conversion, Scan and Capture). -/
def TRIG_OFFSET : Nat := objKey 0x3200 0x07
/-- 0x3200.08 (Conversion, Scan and Capture). -/
def TRIG_SOURCE : Nat := objKey 0x3200 0x08
/-- 0x3200.09 (Conversion, Scan and Capture). -/
def TRIG_ADDR : Nat := objKey 0x3200 0x09
/-- 0x3200.0A (Conversion, Scan and Capture). -/
def FREEZE_BEAT : Nat := objKey 0x3200 0x0A
/-- 0x3200.0B (Conversion, Scan and Capture). -/
def FREEZE_OFFSET : Nat := objKey 0x3200 0x0B
/-- 0x3200.0C (Conversion, Scan and Capture). -/
def FIRST_SEQ : Nat := objKey 0x3200 0x0C
/-- 0x3200.0D (Conversion, Scan and Capture). -/
def TRIG_SEQ : Nat := objKey 0x3200 0x0D
/-- 0x3200.0E (Conversion, Scan and Capture). -/
def LAST_SEQ : Nat := objKey 0x3200 0x0E
/-- 0x3200.0F (Conversion, Scan and Capture). -/
def LATE_TRIGGERS : Nat := objKey 0x3200 0x0F
/-- 0x3200.10 (Conversion, Scan and Capture). -/
def RING_FREEZES : Nat := objKey 0x3200 0x10
/-- 0x3201.01 (Conversion, Scan and Capture). -/
def CAP_G : Nat := objKey 0x3201 0x01
/-- 0x3201.02 (Conversion, Scan and Capture). -/
def CAP_K : Nat := objKey 0x3201 0x02
/-- 0x3201.03–0x3201.06 (Conversion, Scan and Capture). -/
def CAP_CH (j : Nat) : Nat := objKey 0x3201 (0x03 + j)
/-- 0x3201.07 (Conversion, Scan and Capture). -/
def CAP_SAMPLES : Nat := objKey 0x3201 0x07
/-- 0x3201.08 (Conversion, Scan and Capture). -/
def CAP_WHEN : Nat := objKey 0x3201 0x08
/-- 0x3201.09 (Conversion, Scan and Capture). -/
def CAP_BEAT : Nat := objKey 0x3201 0x09
/-- 0x3201.0A (Conversion, Scan and Capture). -/
def CAP_OFFSET : Nat := objKey 0x3201 0x0A
/-- 0x3201.0B (Conversion, Scan and Capture). -/
def CAP_ARM : Nat := objKey 0x3201 0x0B
/-- 0x3201.0C (Conversion, Scan and Capture). -/
def CAP_ABORT : Nat := objKey 0x3201 0x0C
/-- 0x3201.0D (Conversion, Scan and Capture). -/
def CAP_RELEASE : Nat := objKey 0x3201 0x0D
/-- 0x3202.01 (Conversion, Scan and Capture). -/
def CAP_STATE : Nat := objKey 0x3202 0x01
/-- 0x3202.02 (Conversion, Scan and Capture). -/
def CAP_FLAGS : Nat := objKey 0x3202 0x02
/-- 0x3202.03 (Conversion, Scan and Capture). -/
def CAP_TAKEN : Nat := objKey 0x3202 0x03
/-- 0x3202.04 (Conversion, Scan and Capture). -/
def CAP_FIRST_BEAT : Nat := objKey 0x3202 0x04
/-- 0x3202.05 (Conversion, Scan and Capture). -/
def CAP_FIRST_OFFSET : Nat := objKey 0x3202 0x05
/-- 0x3202.06 (Conversion, Scan and Capture). -/
def CAP_SWAP_INDEX : Nat := objKey 0x3202 0x06
/-- 0x3202.07 (Conversion, Scan and Capture). -/
def CAP_OWNER : Nat := objKey 0x3202 0x07
/-- 0x3202.08 (Conversion, Scan and Capture). -/
def CAP_BUF_ADDR : Nat := objKey 0x3202 0x08
/-- 0x3300.01–0x3300.04 (Conversion, Scan and Capture). -/
def QUICK_WORD (j : Nat) : Nat := objKey 0x3300 (0x01 + j)
/-- 0x3300.05–0x3300.08 (Conversion, Scan and Capture). -/
def QUICK_VALUE (j : Nat) : Nat := objKey 0x3300 (0x05 + j)
/-- 0x3300.09 (Conversion, Scan and Capture). -/
def QUICK_TOL : Nat := objKey 0x3300 0x09
/-- 0x3300.0A (Conversion, Scan and Capture). -/
def QUICK_ALIGN : Nat := objKey 0x3300 0x0A
/-- 0x3300.0B (Conversion, Scan and Capture). -/
def DISAGREES : Nat := objKey 0x3300 0x0B
/-- 0x2300+n.01 (Margining and the Stipple Test). -/
def MARGIN_METHOD (n : Nat) : Nat := objKey (0x2300 + n) 0x01
/-- 0x2300+n.02 (Margining and the Stipple Test). -/
def MRG_NOMINAL (n : Nat) : Nat := objKey (0x2300 + n) 0x02
/-- 0x2300+n.03 (Margining and the Stipple Test). -/
def MRG_HIGH (n : Nat) : Nat := objKey (0x2300 + n) 0x03
/-- 0x2300+n.04 (Margining and the Stipple Test). -/
def MRG_LOW (n : Nat) : Nat := objKey (0x2300 + n) 0x04
/-- 0x2300+n.05 (Margining and the Stipple Test). -/
def MRG_RTOP (n : Nat) : Nat := objKey (0x2300 + n) 0x05
/-- 0x2300+n.06 (Margining and the Stipple Test). -/
def MRG_SLEW (n : Nat) : Nat := objKey (0x2300 + n) 0x06
/-- 0x2300+n.07 (Margining and the Stipple Test). -/
def MRG_SETTLE (n : Nat) : Nat := objKey (0x2300 + n) 0x07
/-- 0x2300+n.08 (Margining and the Stipple Test). -/
def MRG_TRIM_ITER (n : Nat) : Nat := objKey (0x2300 + n) 0x08
/-- 0x2300+n.09 (Margining and the Stipple Test). -/
def MRG_TRIM_TOL (n : Nat) : Nat := objKey (0x2300 + n) 0x09
/-- 0x2300+n.0A (Margining and the Stipple Test). -/
def MRG_CLEAR (n : Nat) : Nat := objKey (0x2300 + n) 0x0A
/-- 0x2300+n.0B (Margining and the Stipple Test). -/
def MRG_WARN_MASK (n : Nat) : Nat := objKey (0x2300 + n) 0x0B
/-- 0x2300+n.0C (Margining and the Stipple Test). -/
def MRG_HOLD_MAX (n : Nat) : Nat := objKey (0x2300 + n) 0x0C
/-- 0x2300+n.0D (Margining and the Stipple Test). -/
def MRG_WHEN (n : Nat) : Nat := objKey (0x2300 + n) 0x0D
/-- 0x2300+n.0E (Margining and the Stipple Test). -/
def MRG_BEAT (n : Nat) : Nat := objKey (0x2300 + n) 0x0E
/-- 0x2300+n.0F (Margining and the Stipple Test). -/
def MRG_OFFSET (n : Nat) : Nat := objKey (0x2300 + n) 0x0F
/-- 0x2300+n.10 (Margining and the Stipple Test). -/
def MRG_CMD (n : Nat) : Nat := objKey (0x2300 + n) 0x10
/-- 0x2300+n.11 (Margining and the Stipple Test). -/
def MARGIN_STATE (n : Nat) : Nat := objKey (0x2300 + n) 0x11
/-- 0x2300+n.12 (Margining and the Stipple Test). -/
def MARGIN_POSITION (n : Nat) : Nat := objKey (0x2300 + n) 0x12
/-- 0x2300+n.13 (Margining and the Stipple Test). -/
def MRG_CODE (n : Nat) : Nat := objKey (0x2300 + n) 0x13
/-- 0x2300+n.14 (Margining and the Stipple Test). -/
def MRG_ERROR (n : Nat) : Nat := objKey (0x2300 + n) 0x14
/-- 0x2300+n.15 (Margining and the Stipple Test). -/
def MRG_VOUT_MODE (n : Nat) : Nat := objKey (0x2300 + n) 0x15
/-- 0x2300+n.16 (Margining and the Stipple Test). -/
def MRG_MOVES (n : Nat) : Nat := objKey (0x2300 + n) 0x16
/-- 0x2300+n.17 (Margining and the Stipple Test). -/
def MRG_FAILS (n : Nat) : Nat := objKey (0x2300 + n) 0x17
/-- 0x2500+n.01 (Margining and the Stipple Test). -/
def STIP_PATTERN (n : Nat) : Nat := objKey (0x2500 + n) 0x01
/-- 0x2500+n.02 (Margining and the Stipple Test). -/
def STIP_BASE (n : Nat) : Nat := objKey (0x2500 + n) 0x02
/-- 0x2500+n.03 (Margining and the Stipple Test). -/
def STIP_STEP (n : Nat) : Nat := objKey (0x2500 + n) 0x03
/-- 0x2500+n.04 (Margining and the Stipple Test). -/
def STIP_SLEW (n : Nat) : Nat := objKey (0x2500 + n) 0x04
/-- 0x2500+n.05 (Margining and the Stipple Test). -/
def STIP_HALF (n : Nat) : Nat := objKey (0x2500 + n) 0x05
/-- 0x2500+n.06 (Margining and the Stipple Test). -/
def STIP_CYCLES (n : Nat) : Nat := objKey (0x2500 + n) 0x06
/-- 0x2500+n.07 (Margining and the Stipple Test). -/
def STIP_CHIP (n : Nat) : Nat := objKey (0x2500 + n) 0x07
/-- 0x2500+n.08 (Margining and the Stipple Test). -/
def STIP_REPEATS (n : Nat) : Nat := objKey (0x2500 + n) 0x08
/-- 0x2500+n.09 (Margining and the Stipple Test). -/
def STIP_PRELOAD (n : Nat) : Nat := objKey (0x2500 + n) 0x09
/-- 0x2500+n.0A (Margining and the Stipple Test). -/
def STIP_G (n : Nat) : Nat := objKey (0x2500 + n) 0x0A
/-- 0x2500+n.0B (Margining and the Stipple Test). -/
def GUARD_HI (n : Nat) : Nat := objKey (0x2500 + n) 0x0B
/-- 0x2500+n.0C (Margining and the Stipple Test). -/
def GUARD_LO (n : Nat) : Nat := objKey (0x2500 + n) 0x0C
/-- 0x2500+n.0D (Margining and the Stipple Test). -/
def GUARD_COUNT (n : Nat) : Nat := objKey (0x2500 + n) 0x0D
/-- 0x2500+n.0E (Margining and the Stipple Test). -/
def SETTLE_BAND (n : Nat) : Nat := objKey (0x2500 + n) 0x0E
/-- 0x2500+n.0F–0x2500+n.12 (Margining and the Stipple Test). -/
def ZF (n : Nat) (j : Nat) : Nat := objKey (0x2500 + n) (0x0F + j)
/-- 0x2500+n.13 (Margining and the Stipple Test). -/
def STIP_WHEN (n : Nat) : Nat := objKey (0x2500 + n) 0x13
/-- 0x2500+n.14 (Margining and the Stipple Test). -/
def STIP_BEAT (n : Nat) : Nat := objKey (0x2500 + n) 0x14
/-- 0x2500+n.15 (Margining and the Stipple Test). -/
def STIP_OFFSET (n : Nat) : Nat := objKey (0x2500 + n) 0x15
/-- 0x2500+n.16 (Margining and the Stipple Test). -/
def STIP_EVERY (n : Nat) : Nat := objKey (0x2500 + n) 0x16
/-- 0x2500+n.17 (Margining and the Stipple Test). -/
def STIP_KEY (n : Nat) : Nat := objKey (0x2500 + n) 0x17
/-- 0x2500+n.18 (Margining and the Stipple Test). -/
def STIP_SPACING (n : Nat) : Nat := objKey (0x2500 + n) 0x18
/-- 0x2500+n.19 (Margining and the Stipple Test). -/
def STIP_MOD (n : Nat) : Nat := objKey (0x2500 + n) 0x19
/-- 0x2500+n.1A (Margining and the Stipple Test). -/
def STIP_WAIT_MAX (n : Nat) : Nat := objKey (0x2500 + n) 0x1A
/-- 0x2500+n.1B (Margining and the Stipple Test). -/
def PM_MIN (n : Nat) : Nat := objKey (0x2500 + n) 0x1B
/-- 0x2500+n.1C (Margining and the Stipple Test). -/
def FC_MIN (n : Nat) : Nat := objKey (0x2500 + n) 0x1C
/-- 0x2500+n.1D (Margining and the Stipple Test). -/
def SETTLE_MAX (n : Nat) : Nat := objKey (0x2500 + n) 0x1D
/-- 0x2500+n.1E (Margining and the Stipple Test). -/
def OVERSHOOT_MAX (n : Nat) : Nat := objKey (0x2500 + n) 0x1E
/-- 0x2500+n.1F (Margining and the Stipple Test). -/
def FIT_LIMIT (n : Nat) : Nat := objKey (0x2500 + n) 0x1F
/-- 0x2500+n.20 (Margining and the Stipple Test). -/
def STIP_CMD (n : Nat) : Nat := objKey (0x2500 + n) 0x20
/-- 0x2500+n.21 (Margining and the Stipple Test). -/
def STIP_STATE (n : Nat) : Nat := objKey (0x2500 + n) 0x21
/-- 0x2500+n.22 (Margining and the Stipple Test). -/
def STIP_REASON (n : Nat) : Nat := objKey (0x2500 + n) 0x22
/-- 0x2500+n.23 (Margining and the Stipple Test). -/
def STIP_FLAGS (n : Nat) : Nat := objKey (0x2500 + n) 0x23
/-- 0x2500+n.24 (Margining and the Stipple Test). -/
def RUN_SEQ (n : Nat) : Nat := objKey (0x2500 + n) 0x24
/-- 0x2500+n.25 (Margining and the Stipple Test). -/
def RUN_BEAT (n : Nat) : Nat := objKey (0x2500 + n) 0x25
/-- 0x2500+n.26 (Margining and the Stipple Test). -/
def RUN_OFFSET (n : Nat) : Nat := objKey (0x2500 + n) 0x26
/-- 0x2500+n.27 (Margining and the Stipple Test). -/
def NEXT_BEAT (n : Nat) : Nat := objKey (0x2500 + n) 0x27
/-- 0x2500+n.28 (Margining and the Stipple Test). -/
def SETTLE (n : Nat) : Nat := objKey (0x2500 + n) 0x28
/-- 0x2500+n.29 (Margining and the Stipple Test). -/
def SETTLE_U (n : Nat) : Nat := objKey (0x2500 + n) 0x29
/-- 0x2500+n.2A (Margining and the Stipple Test). -/
def OVERSHOOT (n : Nat) : Nat := objKey (0x2500 + n) 0x2A
/-- 0x2500+n.2B (Margining and the Stipple Test). -/
def OVERSHOOT_U (n : Nat) : Nat := objKey (0x2500 + n) 0x2B
/-- 0x2500+n.2C (Margining and the Stipple Test). -/
def FC (n : Nat) : Nat := objKey (0x2500 + n) 0x2C
/-- 0x2500+n.2D (Margining and the Stipple Test). -/
def FC_U (n : Nat) : Nat := objKey (0x2500 + n) 0x2D
/-- 0x2500+n.2E (Margining and the Stipple Test). -/
def PM (n : Nat) : Nat := objKey (0x2500 + n) 0x2E
/-- 0x2500+n.2F (Margining and the Stipple Test). -/
def PM_U (n : Nat) : Nat := objKey (0x2500 + n) 0x2F
/-- 0x2500+n.30 (Margining and the Stipple Test). -/
def REG (n : Nat) : Nat := objKey (0x2500 + n) 0x30
/-- 0x2500+n.31 (Margining and the Stipple Test). -/
def REG_U (n : Nat) : Nat := objKey (0x2500 + n) 0x31
/-- 0x2500+n.32 (Margining and the Stipple Test). -/
def PEAK (n : Nat) : Nat := objKey (0x2500 + n) 0x32
/-- 0x2500+n.33 (Margining and the Stipple Test). -/
def ZETA (n : Nat) : Nat := objKey (0x2500 + n) 0x33
/-- 0x2500+n.34 (Margining and the Stipple Test). -/
def ZETA_U (n : Nat) : Nat := objKey (0x2500 + n) 0x34
/-- 0x2500+n.35 (Margining and the Stipple Test). -/
def CHI2 (n : Nat) : Nat := objKey (0x2500 + n) 0x35
/-- 0x2500+n.36 (Margining and the Stipple Test). -/
def LINES (n : Nat) : Nat := objKey (0x2500 + n) 0x36
/-- 0x2500+n.37–0x2500+n.3A (Margining and the Stipple Test). -/
def ZLINE (n : Nat) (j : Nat) : Nat := objKey (0x2500 + n) (0x37 + j)
/-- 0x2500+n.3B–0x2500+n.3E (Margining and the Stipple Test). -/
def ZMAG (n : Nat) (j : Nat) : Nat := objKey (0x2500 + n) (0x3B + j)
/-- 0x2500+n.3F–0x2500+n.42 (Margining and the Stipple Test). -/
def ZPH (n : Nat) (j : Nat) : Nat := objKey (0x2500 + n) (0x3F + j)
/-- 0x2500+n.43–0x2500+n.46 (Margining and the Stipple Test). -/
def ZMAG_U (n : Nat) (j : Nat) : Nat := objKey (0x2500 + n) (0x43 + j)
/-- 0x2500+n.47 (Margining and the Stipple Test). -/
def RUNS (n : Nat) : Nat := objKey (0x2500 + n) 0x47
/-- 0x2500+n.48 (Margining and the Stipple Test). -/
def ABORTS (n : Nat) : Nat := objKey (0x2500 + n) 0x48
/-- 0x2600+n.01 (Sinks and Toll Accounting). -/
def SINK_SLEW (n : Nat) : Nat := objKey (0x2600 + n) 0x01
/-- 0x2600+n.02 (Sinks and Toll Accounting). -/
def LOAD_CURRENT (n : Nat) : Nat := objKey (0x2600 + n) 0x02
/-- 0x2600+n.03 (Sinks and Toll Accounting). -/
def LOAD_TIME (n : Nat) : Nat := objKey (0x2600 + n) 0x03
/-- 0x2600+n.04 (Sinks and Toll Accounting). -/
def LOAD_CMD (n : Nat) : Nat := objKey (0x2600 + n) 0x04
/-- 0x2600+n.05 (Sinks and Toll Accounting). -/
def SINK_STATE (n : Nat) : Nat := objKey (0x2600 + n) 0x05
/-- 0x2600+n.06 (Sinks and Toll Accounting). -/
def SINK_CMD (n : Nat) : Nat := objKey (0x2600 + n) 0x06
/-- 0x2600+n.07 (Sinks and Toll Accounting). -/
def SINK_CEIL (n : Nat) : Nat := objKey (0x2600 + n) 0x07
/-- 0x2600+n.08 (Sinks and Toll Accounting). -/
def SINK_GRANT (n : Nat) : Nat := objKey (0x2600 + n) 0x08
/-- 0x2600+n.09 (Sinks and Toll Accounting). -/
def GRANT_LEVEL (n : Nat) : Nat := objKey (0x2600 + n) 0x09
/-- 0x2600+n.0A (Sinks and Toll Accounting). -/
def SINK_FLAGS (n : Nat) : Nat := objKey (0x2600 + n) 0x0A
/-- 0x2600+n.0B (Sinks and Toll Accounting). -/
def LOAD_OWNER (n : Nat) : Nat := objKey (0x2600 + n) 0x0B
/-- 0x2600+n.0C (Sinks and Toll Accounting). -/
def SINK_ENERGY (n : Nat) : Nat := objKey (0x2600 + n) 0x0C
/-- 0x4000.01 (Sinks and Toll Accounting). -/
def POOL : Nat := objKey 0x4000 0x01
/-- 0x4000.02 (Sinks and Toll Accounting). -/
def RESERVED : Nat := objKey 0x4000 0x02
/-- 0x4000.03 (Sinks and Toll Accounting). -/
def PROTECT_TOLLS : Nat := objKey 0x4000 0x03
/-- 0x4000.04 (Sinks and Toll Accounting). -/
def ARMED : Nat := objKey 0x4000 0x04
/-- 0x4000.05 (Sinks and Toll Accounting). -/
def POWER_GRANTED : Nat := objKey 0x4000 0x05
/-- 0x4000.06 (Sinks and Toll Accounting). -/
def ENERGY_GRANTED : Nat := objKey 0x4000 0x06
/-- 0x4000.07 (Sinks and Toll Accounting). -/
def COOLING : Nat := objKey 0x4000 0x07
/-- 0x4000.08 (Sinks and Toll Accounting). -/
def FREE : Nat := objKey 0x4000 0x08
/-- 0x4000.09 (Sinks and Toll Accounting). -/
def ENERGY_CAP : Nat := objKey 0x4000 0x09
/-- 0x4000.0A (Sinks and Toll Accounting). -/
def PENDING : Nat := objKey 0x4000 0x0A
/-- 0x4000.0B (Sinks and Toll Accounting). -/
def OWN_ENERGY : Nat := objKey 0x4000 0x0B
/-- 0x4001.01 (Sinks and Toll Accounting). -/
def ISSUED_TOTAL : Nat := objKey 0x4001 0x01
/-- 0x4001.02 (Sinks and Toll Accounting). -/
def FREED_TOTAL : Nat := objKey 0x4001 0x02
/-- 0x4001.03 (Sinks and Toll Accounting). -/
def GRANTS : Nat := objKey 0x4001 0x03
/-- 0x4001.04 (Sinks and Toll Accounting). -/
def TRIMS : Nat := objKey 0x4001 0x04
/-- 0x4001.05 (Sinks and Toll Accounting). -/
def RESERVE_TRIMS : Nat := objKey 0x4001 0x05
/-- 0x4001.06 (Sinks and Toll Accounting). -/
def OVERRUNS : Nat := objKey 0x4001 0x06
/-- 0x4001.07 (Sinks and Toll Accounting). -/
def LEASE_RETURNS : Nat := objKey 0x4001 0x07
/-- 0x4001.08 (Sinks and Toll Accounting). -/
def AUDIT_FAULTS : Nat := objKey 0x4001 0x08
/-- 0x4001.09 (Sinks and Toll Accounting). -/
def FREEZE_RETURNS : Nat := objKey 0x4001 0x09
/-- 0x4002.01 (Sinks and Toll Accounting). -/
def INRUSH_HELD : Nat := objKey 0x4002 0x01
/-- 0x4002.02 (Sinks and Toll Accounting). -/
def INRUSH_FREE : Nat := objKey 0x4002 0x02
/-- 0x4002.03 (Sinks and Toll Accounting). -/
def INRUSH_ISSUED : Nat := objKey 0x4002 0x03
/-- 0x4002.04 (Sinks and Toll Accounting). -/
def INRUSH_KEEP : Nat := objKey 0x4002 0x04
/-- 0x4002.05 (Sinks and Toll Accounting). -/
def OFFER_AUTO : Nat := objKey 0x4002 0x05
/-- 0x4002.06 (Sinks and Toll Accounting). -/
def INRUSH_SET : Nat := objKey 0x4002 0x06
/-- 0x4002.07 (Sinks and Toll Accounting). -/
def INRUSH_WANT : Nat := objKey 0x4002 0x07
/-- 0x4002.08 (Sinks and Toll Accounting). -/
def OVERDRAFTS : Nat := objKey 0x4002 0x08
/-- 0x4002.09 (Sinks and Toll Accounting). -/
def SETS : Nat := objKey 0x4002 0x09
/-- 0x3800.01 (Input Feeds). -/
def MATE_DEBOUNCE : Nat := objKey 0x3800 0x01
/-- 0x3800.02 (Input Feeds). -/
def LATE_FILTER : Nat := objKey 0x3800 0x02
/-- 0x3800.03 (Input Feeds). -/
def EXTRACT_DELAY : Nat := objKey 0x3800 0x03
/-- 0x3800.04 (Input Feeds). -/
def BUS_GOOD : Nat := objKey 0x3800 0x04
/-- 0x3800.05 (Input Feeds). -/
def INPUT_RIDE : Nat := objKey 0x3800 0x05
/-- 0x3800.06 (Input Feeds). -/
def PFAIL_FILTER : Nat := objKey 0x3800 0x06
/-- 0x3800.07 (Input Feeds). -/
def BUS_CAP : Nat := objKey 0x3800 0x07
/-- 0x3800.08 (Input Feeds). -/
def DMG_LEVEL : Nat := objKey 0x3800 0x08
/-- 0x3800.09 (Input Feeds). -/
def DMG_SETTLE : Nat := objKey 0x3800 0x09
/-- 0x3800.0A (Input Feeds). -/
def DMG_PATH_TIME : Nat := objKey 0x3800 0x0A
/-- 0x3800.0B (Input Feeds). -/
def HU_TARGET : Nat := objKey 0x3800 0x0B
/-- 0x3800.0C (Input Feeds). -/
def HU_READY : Nat := objKey 0x3800 0x0C
/-- 0x3800.0D (Input Feeds). -/
def HU_CHARGE_I : Nat := objKey 0x3800 0x0D
/-- 0x3801.01 (Input Feeds). -/
def INPUT_GOOD : Nat := objKey 0x3801 0x01
/-- 0x3801.02 (Input Feeds). -/
def EARLY_MATED : Nat := objKey 0x3801 0x02
/-- 0x3801.03 (Input Feeds). -/
def LATE_MATED : Nat := objKey 0x3801 0x03
/-- 0x3801.04 (Input Feeds). -/
def PFAIL_LOW : Nat := objKey 0x3801 0x04
/-- 0x3801.05 (Input Feeds). -/
def HU_GOOD : Nat := objKey 0x3801 0x05
/-- 0x3801.06 (Input Feeds). -/
def EXTRACTIONS : Nat := objKey 0x3801 0x06
/-- 0x3801.07 (Input Feeds). -/
def INPUT_LOSSES : Nat := objKey 0x3801 0x07
/-- 0x3810+f.01 (Input Feeds). -/
def FEED_ENABLE (n : Nat) : Nat := objKey (0x3810 + n) 0x01
/-- 0x3810+f.02 (Input Feeds). -/
def RSENSE (n : Nat) : Nat := objKey (0x3810 + n) 0x02
/-- 0x3810+f.03 (Input Feeds). -/
def FEED_UV (n : Nat) : Nat := objKey (0x3810 + n) 0x03
/-- 0x3810+f.04 (Input Feeds). -/
def FEED_OV (n : Nat) : Nat := objKey (0x3810 + n) 0x04
/-- 0x3810+f.05 (Input Feeds). -/
def AVAIL_TIME (n : Nat) : Nat := objKey (0x3810 + n) 0x05
/-- 0x3810+f.06 (Input Feeds). -/
def UV_RIDE (n : Nat) : Nat := objKey (0x3810 + n) 0x06
/-- 0x3810+f.07 (Input Feeds). -/
def OV_FILTER (n : Nat) : Nat := objKey (0x3810 + n) 0x07
/-- 0x3810+f.08 (Input Feeds). -/
def DVDT (n : Nat) : Nat := objKey (0x3810 + n) 0x08
/-- 0x3810+f.09 (Input Feeds). -/
def RAMP_DONE_VDS (n : Nat) : Nat := objKey (0x3810 + n) 0x09
/-- 0x3810+f.0A (Input Feeds). -/
def SOA_VDS (n : Nat) : Nat := objKey (0x3810 + n) 0x0A
/-- 0x3810+f.0B (Input Feeds). -/
def SOA_TIME (n : Nat) : Nat := objKey (0x3810 + n) 0x0B
/-- 0x3810+f.0C (Input Feeds). -/
def FUSE_FAST (n : Nat) : Nat := objKey (0x3810 + n) 0x0C
/-- 0x3810+f.0D (Input Feeds). -/
def FUSE_LIMIT (n : Nat) : Nat := objKey (0x3810 + n) 0x0D
/-- 0x3810+f.0E (Input Feeds). -/
def FUSE_TIME (n : Nat) : Nat := objKey (0x3810 + n) 0x0E
/-- 0x3810+f.0F (Input Feeds). -/
def REV_LEVEL (n : Nat) : Nat := objKey (0x3810 + n) 0x0F
/-- 0x3810+f.10 (Input Feeds). -/
def FWD_ON (n : Nat) : Nat := objKey (0x3810 + n) 0x10
/-- 0x3810+f.11 (Input Feeds). -/
def RETRY_BEATS (n : Nat) : Nat := objKey (0x3810 + n) 0x11
/-- 0x3810+f.12 (Input Feeds). -/
def RETRY_LIMIT (n : Nat) : Nat := objKey (0x3810 + n) 0x12
/-- 0x3810+f.13 (Input Feeds). -/
def FEED_CLEAR (n : Nat) : Nat := objKey (0x3810 + n) 0x13
/-- 0x3820+f.01 (Input Feeds). -/
def FEED_STATE (n : Nat) : Nat := objKey (0x3820 + n) 0x01
/-- 0x3820+f.02 (Input Feeds). -/
def DIODE (n : Nat) : Nat := objKey (0x3820 + n) 0x02
/-- 0x3820+f.03 (Input Feeds). -/
def RETRY_DEADLINE (n : Nat) : Nat := objKey (0x3820 + n) 0x03
/-- 0x3820+f.04 (Input Feeds). -/
def RETRY_BASIS (n : Nat) : Nat := objKey (0x3820 + n) 0x04
/-- 0x3820+f.05 (Input Feeds). -/
def RETRY_LEFT (n : Nat) : Nat := objKey (0x3820 + n) 0x05
/-- 0x3820+f.06 (Input Feeds). -/
def TRIP_RUN (n : Nat) : Nat := objKey (0x3820 + n) 0x06
/-- 0x3820+f.07 (Input Feeds). -/
def LAST_TRIP (n : Nat) : Nat := objKey (0x3820 + n) 0x07
/-- 0x3820+f.08 (Input Feeds). -/
def DMG_LATCH (n : Nat) : Nat := objKey (0x3820 + n) 0x08
/-- 0x3820+f.09 (Input Feeds). -/
def INRUSH_NEED (n : Nat) : Nat := objKey (0x3820 + n) 0x09
/-- 0x3820+f.0A (Input Feeds). -/
def RAMP_CHARGE (n : Nat) : Nat := objKey (0x3820 + n) 0x0A
/-- 0x3820+f.0B (Input Feeds). -/
def SOA_USED (n : Nat) : Nat := objKey (0x3820 + n) 0x0B
/-- 0x3820+f.0C (Input Feeds). -/
def CODE_FAST (n : Nat) : Nat := objKey (0x3820 + n) 0x0C
/-- 0x3820+f.0D (Input Feeds). -/
def CODE_SLOW (n : Nat) : Nat := objKey (0x3820 + n) 0x0D
/-- 0x3820+f.0E (Input Feeds). -/
def CODE_REV (n : Nat) : Nat := objKey (0x3820 + n) 0x0E
/-- 0x3830+f.01 (Input Feeds). -/
def TRIPS (n : Nat) : Nat := objKey (0x3830 + n) 0x01
/-- 0x3830+f.02 (Input Feeds). -/
def RAMPS (n : Nat) : Nat := objKey (0x3830 + n) 0x02
/-- 0x3830+f.03 (Input Feeds). -/
def BLOCKS (n : Nat) : Nat := objKey (0x3830 + n) 0x03
/-- 0x3830+f.04 (Input Feeds). -/
def LOCKOUTS (n : Nat) : Nat := objKey (0x3830 + n) 0x04
/-- 0x5000+s.01 (Tables 10.8 to 10.13). -/
def SEV_STARTUP (n : Nat) : Nat := objKey (0x5000 + n) 0x01
/-- 0x5000+s.02 (Tables 10.8 to 10.13). -/
def SEV_TEST (n : Nat) : Nat := objKey (0x5000 + n) 0x02
/-- 0x5000+s.03 (Tables 10.8 to 10.13). -/
def SEV_RECOVERY (n : Nat) : Nat := objKey (0x5000 + n) 0x03
/-- 0x5000+s.04 (Tables 10.8 to 10.13). -/
def PULSE_MASK (n : Nat) : Nat := objKey (0x5000 + n) 0x04
/-- 0x5000+s.05 (Tables 10.8 to 10.13). -/
def TRIG_MASK (n : Nat) : Nat := objKey (0x5000 + n) 0x05
/-- 0x5000+s.06 (Tables 10.8 to 10.13). -/
def FATAL_ACTION (n : Nat) : Nat := objKey (0x5000 + n) 0x06
/-- 0x5000+s.07 (Tables 10.8 to 10.13). -/
def FATAL_LATCH (n : Nat) : Nat := objKey (0x5000 + n) 0x07
/-- 0x5000+s.08 (Tables 10.8 to 10.13). -/
def INJ_POLICY (n : Nat) : Nat := objKey (0x5000 + n) 0x08
/-- 0x5000+s.09 (Tables 10.8 to 10.13). -/
def FORCE_KIND (n : Nat) : Nat := objKey (0x5000 + n) 0x09
/-- 0x5000+s.0A (Tables 10.8 to 10.13). -/
def FORCE_ADDR (n : Nat) : Nat := objKey (0x5000 + n) 0x0A
/-- 0x5000+s.0B (Tables 10.8 to 10.13). -/
def FORCE (n : Nat) : Nat := objKey (0x5000 + n) 0x0B
/-- 0x5000+s.0C (Tables 10.8 to 10.13). -/
def REAL_COUNT (n : Nat) : Nat := objKey (0x5000 + n) 0x0C
/-- 0x5000+s.0D (Tables 10.8 to 10.13). -/
def INJ_COUNT (n : Nat) : Nat := objKey (0x5000 + n) 0x0D
/-- 0x5000+s.0E (Tables 10.8 to 10.13). -/
def FOLDED (n : Nat) : Nat := objKey (0x5000 + n) 0x0E
/-- 0x5000+s.0F (Tables 10.8 to 10.13). -/
def LAST_KIND (n : Nat) : Nat := objKey (0x5000 + n) 0x0F
/-- 0x5000+s.10 (Tables 10.8 to 10.13). -/
def LAST_BEAT (n : Nat) : Nat := objKey (0x5000 + n) 0x10
/-- 0x5000+s.11 (Tables 10.8 to 10.13). -/
def LAST_OFFSET (n : Nat) : Nat := objKey (0x5000 + n) 0x11
/-- 0x5100.01 (Tables 10.8 to 10.13). -/
def QUIET_TIME : Nat := objKey 0x5100 0x01
/-- 0x5100.02 (Tables 10.8 to 10.13). -/
def RECOVERY_SPAN : Nat := objKey 0x5100 0x02
/-- 0x5100.03 (Tables 10.8 to 10.13). -/
def STARTUP_SPAN : Nat := objKey 0x5100 0x03
/-- 0x5100.04 (Tables 10.8 to 10.13). -/
def FAULT_PULSE : Nat := objKey 0x5100 0x04
/-- 0x5100.05 (Tables 10.8 to 10.13). -/
def FAULT_N_HOLD : Nat := objKey 0x5100 0x05
/-- 0x5100.06 (Tables 10.8 to 10.13). -/
def COINCIDE : Nat := objKey 0x5100 0x06
/-- 0x5100.07 (Tables 10.8 to 10.13). -/
def TEST_MODE : Nat := objKey 0x5100 0x07
/-- 0x5100.08 (Tables 10.8 to 10.13). -/
def FAULT_ACK : Nat := objKey 0x5100 0x08
/-- 0x5101.01 (Tables 10.8 to 10.13). -/
def COLL_STATE : Nat := objKey 0x5101 0x01
/-- 0x5101.02 (Tables 10.8 to 10.13). -/
def PHASE : Nat := objKey 0x5101 0x02
/-- 0x5101.03 (Tables 10.8 to 10.13). -/
def EPISODE : Nat := objKey 0x5101 0x03
/-- 0x5101.04 (Tables 10.8 to 10.13). -/
def FATAL_OUT : Nat := objKey 0x5101 0x04
/-- 0x5101.05 (Tables 10.8 to 10.13). -/
def QUIET_LEFT : Nat := objKey 0x5101 0x05
/-- 0x5101.06 (Tables 10.8 to 10.13). -/
def RECOVERY_LEFT : Nat := objKey 0x5101 0x06
/-- 0x5101.07 (Tables 10.8 to 10.13). -/
def WINDOW : Nat := objKey 0x5101 0x07
/-- 0x5101.08 (Tables 10.8 to 10.13). -/
def FAULT_N_LOW : Nat := objKey 0x5101 0x08
/-- 0x5101.09 (Tables 10.8 to 10.13). -/
def QUEUE_DEPTH : Nat := objKey 0x5101 0x09
/-- 0x5102.01 (Tables 10.8 to 10.13). -/
def FIRST_EPISODE : Nat := objKey 0x5102 0x01
/-- 0x5102.02 (Tables 10.8 to 10.13). -/
def FIRST_SOURCE : Nat := objKey 0x5102 0x02
/-- 0x5102.03 (Tables 10.8 to 10.13). -/
def FIRST_KIND : Nat := objKey 0x5102 0x03
/-- 0x5102.04 (Tables 10.8 to 10.13). -/
def FIRST_ADDR : Nat := objKey 0x5102 0x04
/-- 0x5102.05 (Tables 10.8 to 10.13). -/
def FIRST_FLAGS : Nat := objKey 0x5102 0x05
/-- 0x5102.06 (Tables 10.8 to 10.13). -/
def FIRST_BEAT : Nat := objKey 0x5102 0x06
/-- 0x5102.07 (Tables 10.8 to 10.13). -/
def FIRST_OFFSET : Nat := objKey 0x5102 0x07
/-- 0x5102.08 (Tables 10.8 to 10.13). -/
def RANK_BEAT : Nat := objKey 0x5102 0x08
/-- 0x5102.09 (Tables 10.8 to 10.13). -/
def RANK_OFFSET : Nat := objKey 0x5102 0x09
/-- 0x5103.01 (Tables 10.8 to 10.13). -/
def REAL_TOTAL : Nat := objKey 0x5103 0x01
/-- 0x5103.02 (Tables 10.8 to 10.13). -/
def INJ_TOTAL : Nat := objKey 0x5103 0x02
/-- 0x5103.03 (Tables 10.8 to 10.13). -/
def COINCIDENCES : Nat := objKey 0x5103 0x03
/-- 0x5103.04 (Tables 10.8 to 10.13). -/
def EXITS : Nat := objKey 0x5103 0x04
/-- 0x5103.05 (Tables 10.8 to 10.13). -/
def RELAPSES : Nat := objKey 0x5103 0x05
/-- 0x5103.06 (Tables 10.8 to 10.13). -/
def PULSES : Nat := objKey 0x5103 0x06
/-- 0x5103.07 (Tables 10.8 to 10.13). -/
def FOLDED_TOTAL : Nat := objKey 0x5103 0x07
/-- 0x5103.08 (Tables 10.8 to 10.13). -/
def FATALS : Nat := objKey 0x5103 0x08
/-- 0x5103.09 (Tables 10.8 to 10.13). -/
def SILENCED : Nat := objKey 0x5103 0x09
/-- 0x5104.01 (Tables 10.8 to 10.13). -/
def LAST_MSG_LO : Nat := objKey 0x5104 0x01
/-- 0x5104.02 (Tables 10.8 to 10.13). -/
def LAST_MSG_HI : Nat := objKey 0x5104 0x02
/-- 0x5104.03 (Tables 10.8 to 10.13). -/
def LAST_MSG_BEAT : Nat := objKey 0x5104 0x03
/-- 0x5104.04 (Tables 10.8 to 10.13). -/
def LAST_MSG_OFFSET : Nat := objKey 0x5104 0x04
/-- 0x6000.01 (Tables 11.8 to 11.12). -/
def STORE_STATE : Nat := objKey 0x6000 0x01
/-- 0x6000.02 (Tables 11.8 to 11.12). -/
def ETCH_CAUSE : Nat := objKey 0x6000 0x02
/-- 0x6000.03 (Tables 11.8 to 11.12). -/
def DIRTY_PAGES : Nat := objKey 0x6000 0x03
/-- 0x6000.04 (Tables 11.8 to 11.12). -/
def BUSY_PAGE : Nat := objKey 0x6000 0x04
/-- 0x6000.05 (Tables 11.8 to 11.12). -/
def ETCH_SEQ : Nat := objKey 0x6000 0x05
/-- 0x6000.06 (Tables 11.8 to 11.12). -/
def ETCH_LISTED : Nat := objKey 0x6000 0x06
/-- 0x6000.07 (Tables 11.8 to 11.12). -/
def ETCH_ADMITTED : Nat := objKey 0x6000 0x07
/-- 0x6000.08 (Tables 11.8 to 11.12). -/
def ETCH_DONE : Nat := objKey 0x6000 0x08
/-- 0x6000.09 (Tables 11.8 to 11.12). -/
def ETCH_E_AVAIL : Nat := objKey 0x6000 0x09
/-- 0x6000.0A (Tables 11.8 to 11.12). -/
def ETCH_COST : Nat := objKey 0x6000 0x0A
/-- 0x6000.0B (Tables 11.8 to 11.12). -/
def RECALL_TIME : Nat := objKey 0x6000 0x0B
/-- 0x6000.0C (Tables 11.8 to 11.12). -/
def RECALL_FLAGS : Nat := objKey 0x6000 0x0C
/-- 0x6002.01 (Tables 11.8 to 11.12). -/
def ETCH_CMD : Nat := objKey 0x6002 0x01
/-- 0x6002.02 (Tables 11.8 to 11.12). -/
def ETCH_MASK : Nat := objKey 0x6002 0x02
/-- 0x6002.03 (Tables 11.8 to 11.12). -/
def ETCH_ABORT : Nat := objKey 0x6002 0x03
/-- 0x6001.01 (Tables 11.8 to 11.12). -/
def AUTO_DELAY : Nat := objKey 0x6001 0x01
/-- 0x6001.02 (Tables 11.8 to 11.12). -/
def ETCH_MARGIN : Nat := objKey 0x6001 0x02
/-- 0x6001.03 (Tables 11.8 to 11.12). -/
def HU_CAP : Nat := objKey 0x6001 0x03
/-- 0x6001.04 (Tables 11.8 to 11.12). -/
def HU_ABORT : Nat := objKey 0x6001 0x04
/-- 0x6001.05 (Tables 11.8 to 11.12). -/
def PF_ON_PFAIL : Nat := objKey 0x6001 0x05
/-- 0x6001.06 (Tables 11.8 to 11.12). -/
def SCRUB_PERIOD : Nat := objKey 0x6001 0x06
/-- 0x6001.07 (Tables 11.8 to 11.12). -/
def SCRUB_LIMIT : Nat := objKey 0x6001 0x07
/-- 0x6003.01 (Tables 11.8 to 11.12). -/
def HU_CAP_MEAS : Nat := objKey 0x6003 0x01
/-- 0x6003.02 (Tables 11.8 to 11.12). -/
def HU_CAP_USE : Nat := objKey 0x6003 0x02
/-- 0x6003.03 (Tables 11.8 to 11.12). -/
def E_AVAIL_NOW : Nat := objKey 0x6003 0x03
/-- 0x6003.04 (Tables 11.8 to 11.12). -/
def PAGE_COST : Nat := objKey 0x6003 0x04
/-- 0x6003.05 (Tables 11.8 to 11.12). -/
def ETCH_FIXED : Nat := objKey 0x6003 0x05
/-- 0x6003.06 (Tables 11.8 to 11.12). -/
def FULL_COST : Nat := objKey 0x6003 0x06
/-- 0x6003.07 (Tables 11.8 to 11.12). -/
def DIRTY_COST : Nat := objKey 0x6003 0x07
/-- 0x6003.08 (Tables 11.8 to 11.12). -/
def FULL_STORE_OK : Nat := objKey 0x6003 0x08
/-- 0x6004.01 (Tables 11.8 to 11.12). -/
def OP_TIME_LO : Nat := objKey 0x6004 0x01
/-- 0x6004.02 (Tables 11.8 to 11.12). -/
def OP_TIME_HI : Nat := objKey 0x6004 0x02
/-- 0x6004.03 (Tables 11.8 to 11.12). -/
def POWER_CYCLES : Nat := objKey 0x6004 0x03
/-- 0x6004.04 (Tables 11.8 to 11.12). -/
def ETCHES : Nat := objKey 0x6004 0x04
/-- 0x6004.05 (Tables 11.8 to 11.12). -/
def PF_ETCHES : Nat := objKey 0x6004 0x05
/-- 0x6004.06 (Tables 11.8 to 11.12). -/
def PAGES_ETCHED : Nat := objKey 0x6004 0x06
/-- 0x6004.07 (Tables 11.8 to 11.12). -/
def REFUSALS : Nat := objKey 0x6004 0x07
/-- 0x6004.08 (Tables 11.8 to 11.12). -/
def INCOMPLETES : Nat := objKey 0x6004 0x08
/-- 0x6004.09 (Tables 11.8 to 11.12). -/
def ROLLBACKS : Nat := objKey 0x6004 0x09
/-- 0x6004.0A (Tables 11.8 to 11.12). -/
def COPY_TIES : Nat := objKey 0x6004 0x0A
/-- 0x6004.0B (Tables 11.8 to 11.12). -/
def PAGES_LOST : Nat := objKey 0x6004 0x0B
/-- 0x6004.0C (Tables 11.8 to 11.12). -/
def ECC_CORRECTED : Nat := objKey 0x6004 0x0C
/-- 0x6004.0D (Tables 11.8 to 11.12). -/
def ECC_UNCORRECTABLE : Nat := objKey 0x6004 0x0D
/-- 0x6004.0E (Tables 11.8 to 11.12). -/
def COUNTER_RECOVERIES : Nat := objKey 0x6004 0x0E
/-- 0x6004.0F (Tables 11.8 to 11.12). -/
def SCRUB_PASSES : Nat := objKey 0x6004 0x0F
/-- 0x6005.01 (Tables 11.8 to 11.12). -/
def PAGE_SELECT : Nat := objKey 0x6005 0x01
/-- 0x6005.02 (Tables 11.8 to 11.12). -/
def PAGE_INFO : Nat := objKey 0x6005 0x02
/-- 0x6006.01–0x6006.0E (Tables 11.8 to 11.12). -/
def REGION_MAP (j : Nat) : Nat := objKey 0x6006 (0x01 + j)
/-- 0x6100.01 (Tables 11.8 to 11.12). -/
def DP_ADDR : Nat := objKey 0x6100 0x01
/-- 0x6100.02 (Tables 11.8 to 11.12). -/
def DP_WINDOW : Nat := objKey 0x6100 0x02
/-- 0x6800.01 (Table 12.6). -/
def LEDGER_STATE : Nat := objKey 0x6800 0x01
/-- 0x6800.02 (Table 12.6). -/
def NEXT_RSEQ : Nat := objKey 0x6800 0x02
/-- 0x6800.03 (Table 12.6). -/
def OLDEST_RSEQ : Nat := objKey 0x6800 0x03
/-- 0x6800.04 (Table 12.6). -/
def RECORDS : Nat := objKey 0x6800 0x04
/-- 0x6800.05 (Table 12.6). -/
def HANDED : Nat := objKey 0x6800 0x05
/-- 0x6800.06 (Table 12.6). -/
def ENTERED : Nat := objKey 0x6800 0x06
/-- 0x6800.07 (Table 12.6). -/
def RETIRED : Nat := objKey 0x6800 0x07
/-- 0x6800.08 (Table 12.6). -/
def WINDOW_COUNT : Nat := objKey 0x6800 0x08
/-- 0x6800.09 (Table 12.6). -/
def FIFO_DEPTH : Nat := objKey 0x6800 0x09
/-- 0x6800.0A (Table 12.6). -/
def OVERFLOW_PENDING : Nat := objKey 0x6800 0x0A
/-- 0x6800.0B (Table 12.6). -/
def OVERFLOWS : Nat := objKey 0x6800 0x0B
/-- 0x6800.0C (Table 12.6). -/
def FF_BASE : Nat := objKey 0x6800 0x0C
/-- 0x6800.0D (Table 12.6). -/
def REPEAT_WINDOW : Nat := objKey 0x6800 0x0D
/-- 0x6800.0E (Table 12.6). -/
def LEDGER_CLEAR : Nat := objKey 0x6800 0x0E
/-- 0x6800.0F (Table 12.6). -/
def CLEARS : Nat := objKey 0x6800 0x0F
/-- 0x6801.01 (Table 12.6). -/
def RECORD_SELECT : Nat := objKey 0x6801 0x01
/-- 0x6801.02 (Table 12.6). -/
def RECORD_DATA : Nat := objKey 0x6801 0x02
/-- 0x6801.03 (Table 12.6). -/
def FF_SELECT : Nat := objKey 0x6801 0x03
/-- 0x6801.04 (Table 12.6). -/
def FF_DATA : Nat := objKey 0x6801 0x04
/-- 0x6801.05 (Table 12.6). -/
def SOURCE_SELECT : Nat := objKey 0x6801 0x05
/-- 0x6801.06 (Table 12.6). -/
def LATEST_OF_SOURCE : Nat := objKey 0x6801 0x06
/-- 0x1100.01 (Hosts, Sessions and the Stencil). -/
def PORT : Nat := objKey 0x1100 0x01
/-- 0x1100.02 (Hosts, Sessions and the Stencil). -/
def LEVEL : Nat := objKey 0x1100 0x02
/-- 0x1100.03 (Hosts, Sessions and the Stencil). -/
def LEASE_TIME : Nat := objKey 0x1100 0x03
/-- 0x1100.04 (Hosts, Sessions and the Stencil). -/
def LEASE_LEFT : Nat := objKey 0x1100 0x04
/-- 0x1100.05 (Hosts, Sessions and the Stencil). -/
def LATENCY_REQ : Nat := objKey 0x1100 0x05
/-- 0x1100.06 (Hosts, Sessions and the Stencil). -/
def CLOSE : Nat := objKey 0x1100 0x06
/-- 0x1101+p.01 (Hosts, Sessions and the Stencil). -/
def OPEN (n : Nat) : Nat := objKey (0x1101 + n) 0x01
/-- 0x1101+p.02 (Hosts, Sessions and the Stencil). -/
def PORT_LEVEL (n : Nat) : Nat := objKey (0x1101 + n) 0x02
/-- 0x1101+p.03 (Hosts, Sessions and the Stencil). -/
def PORT_LEASE_LEFT (n : Nat) : Nat := objKey (0x1101 + n) 0x03
/-- 0x1101+p.04 (Hosts, Sessions and the Stencil). -/
def CLAIMS (n : Nat) : Nat := objKey (0x1101 + n) 0x04
/-- 0x1101+p.05 (Hosts, Sessions and the Stencil). -/
def OPENS (n : Nat) : Nat := objKey (0x1101 + n) 0x05
/-- 0x1101+p.06 (Hosts, Sessions and the Stencil). -/
def LAPSES (n : Nat) : Nat := objKey (0x1101 + n) 0x06
/-- 0x1101+p.07 (Hosts, Sessions and the Stencil). -/
def AUTH_FAILS (n : Nat) : Nat := objKey (0x1101 + n) 0x07
/-- 0x1101+p.08 (Hosts, Sessions and the Stencil). -/
def PORT_FRAME_ERRORS (n : Nat) : Nat := objKey (0x1101 + n) 0x08
/-- 0x1101+p.09 (Hosts, Sessions and the Stencil). -/
def LOCKOUT_LEFT (n : Nat) : Nat := objKey (0x1101 + n) 0x09
/-- 0x1110.01 (Hosts, Sessions and the Stencil). -/
def LEASE_MAX : Nat := objKey 0x1110 0x01
/-- 0x1110.02 (Hosts, Sessions and the Stencil). -/
def AUTH_LIMIT : Nat := objKey 0x1110 0x02
/-- 0x1110.03 (Hosts, Sessions and the Stencil). -/
def AUTH_LOCKOUT : Nat := objKey 0x1110 0x03
/-- 0x1110.04 (Hosts, Sessions and the Stencil). -/
def H2_DATA_RATE : Nat := objKey 0x1110 0x04
/-- 0x1110.05 (Hosts, Sessions and the Stencil). -/
def H2_SEG_TIMEOUT : Nat := objKey 0x1110 0x05
/-- 0x1120.01–0x1120.4F (Hosts, Sessions and the Stencil). -/
def CLAIM_HOLDER (j : Nat) : Nat := objKey 0x1120 (0x01 + j)
/-- 0x1121.01 (Hosts, Sessions and the Stencil). -/
def CLAIM : Nat := objKey 0x1121 0x01
/-- 0x1121.02 (Hosts, Sessions and the Stencil). -/
def RELEASE : Nat := objKey 0x1121 0x02
/-- 0x1121.03 (Hosts, Sessions and the Stencil). -/
def CLAIM_BREAK : Nat := objKey 0x1121 0x03
/-- 0x1200.01 (Hosts, Sessions and the Stencil). -/
def STENCIL_GEN : Nat := objKey 0x1200 0x01
/-- 0x1200.02 (Hosts, Sessions and the Stencil). -/
def STENCIL_RESET : Nat := objKey 0x1200 0x02
/-- 0x1201.01–0x1201.20 (Hosts, Sessions and the Stencil). -/
def RULE (j : Nat) : Nat := objKey 0x1201 (0x01 + j)
/-- 0x1202.01–0x1202.03 (Hosts, Sessions and the Stencil). -/
def KEY (j : Nat) : Nat := objKey 0x1202 (0x01 + j)
/-- 0x1202.04 (Hosts, Sessions and the Stencil). -/
def KEY_STATUS : Nat := objKey 0x1202 0x04
/-- 0x7000.01 (Firmware Update). -/
def UPD_STATE : Nat := objKey 0x7000 0x01
/-- 0x7000.02 (Firmware Update). -/
def UPD_REASON : Nat := objKey 0x7000 0x02
/-- 0x7000.03 (Firmware Update). -/
def NEXT_BLOCK : Nat := objKey 0x7000 0x03
/-- 0x7000.04 (Firmware Update). -/
def STAGED_BLOCKS : Nat := objKey 0x7000 0x04
/-- 0x7000.05 (Firmware Update). -/
def STAGED_VERSION : Nat := objKey 0x7000 0x05
/-- 0x7000.06 (Firmware Update). -/
def STAGED_SCHEMA : Nat := objKey 0x7000 0x06
/-- 0x7000.07 (Firmware Update). -/
def STAGED_VOTE : Nat := objKey 0x7000 0x07
/-- 0x7000.08 (Firmware Update). -/
def ACT_TICK_BEAT : Nat := objKey 0x7000 0x08
/-- 0x7000.09 (Firmware Update). -/
def TRIAL_NUMBER : Nat := objKey 0x7000 0x09
/-- 0x7000.0A (Firmware Update). -/
def TRIAL_LEFT : Nat := objKey 0x7000 0x0A
/-- 0x7000.0B (Firmware Update). -/
def HEALTH : Nat := objKey 0x7000 0x0B
/-- 0x7000.0C (Firmware Update). -/
def UPD_ACTIVE_BANK : Nat := objKey 0x7000 0x0C
/-- 0x7000.0D (Firmware Update). -/
def ACTIVE_AREA : Nat := objKey 0x7000 0x0D
/-- 0x7000.0E (Firmware Update). -/
def ROLLBACK_MIN : Nat := objKey 0x7000 0x0E
/-- 0x7000.0F (Firmware Update). -/
def KEY_SLOTS : Nat := objKey 0x7000 0x0F
/-- 0x7001.01 (Firmware Update). -/
def UPD_CMD : Nat := objKey 0x7001 0x01
/-- 0x7001.02 (Firmware Update). -/
def UPD_BLOCK : Nat := objKey 0x7001 0x02
/-- 0x7001.03 (Firmware Update). -/
def ACT_BEAT : Nat := objKey 0x7001 0x03
/-- 0x7001.04 (Firmware Update). -/
def ACT_OFFSET : Nat := objKey 0x7001 0x04
/-- 0x7002.01 (Firmware Update). -/
def ACT_KEY : Nat := objKey 0x7002 0x01
/-- 0x7002.02 (Firmware Update). -/
def ACT_SPACING : Nat := objKey 0x7002 0x02
/-- 0x7002.03 (Firmware Update). -/
def ACT_MOD : Nat := objKey 0x7002 0x03
/-- 0x7002.04 (Firmware Update). -/
def CONFIRM_MODE : Nat := objKey 0x7002 0x04
/-- 0x7002.05 (Firmware Update). -/
def CONFIRM_SPAN : Nat := objKey 0x7002 0x05
/-- 0x7002.06 (Firmware Update). -/
def CONFIRM_PRESENT : Nat := objKey 0x7002 0x06
/-- 0x7002.07 (Firmware Update). -/
def TRIAL_TIME : Nat := objKey 0x7002 0x07
/-- 0x7003.01 (Firmware Update). -/
def BLOCK_CRC_FAILS : Nat := objKey 0x7003 0x01
/-- 0x7003.02 (Firmware Update). -/
def ACTIVATIONS : Nat := objKey 0x7003 0x02
/-- 0x7003.03 (Firmware Update). -/
def CONFIRMS : Nat := objKey 0x7003 0x03
/-- 0x7003.04 (Firmware Update). -/
def TRIALS_FAILED : Nat := objKey 0x7003 0x04
/-- 0x7003.05 (Firmware Update). -/
def FALLBACKS : Nat := objKey 0x7003 0x05
/-- 0x7003.06 (Firmware Update). -/
def MIRROR_SKIPS : Nat := objKey 0x7003 0x06
/-- 0x7003.07 (Firmware Update). -/
def MIGRATE_DEFAULTS : Nat := objKey 0x7003 0x07
/-- 0x7800.01 (Start-up, Power States and Freeze). -/
def POWER_STATE : Nat := objKey 0x7800 0x01
/-- 0x7800.02 (Start-up, Power States and Freeze). -/
def CHOSEN_STATE : Nat := objKey 0x7800 0x02
/-- 0x7800.03 (Start-up, Power States and Freeze). -/
def LATENCY_IN_FORCE : Nat := objKey 0x7800 0x03
/-- 0x7800.04 (Start-up, Power States and Freeze). -/
def IDLE_LATENCY : Nat := objKey 0x7800 0x04
/-- 0x7800.05 (Start-up, Power States and Freeze). -/
def STATE_MAX : Nat := objKey 0x7800 0x05
/-- 0x7800.06 (Start-up, Power States and Freeze). -/
def DWELL : Nat := objKey 0x7800 0x06
/-- 0x7800.07 (Start-up, Power States and Freeze). -/
def FULL_REASONS : Nat := objKey 0x7800 0x07
/-- 0x7800.08 (Start-up, Power States and Freeze). -/
def WAKES : Nat := objKey 0x7800 0x08
/-- 0x7801.01 (Start-up, Power States and Freeze). -/
def STARTUP_PHASE : Nat := objKey 0x7801 0x01
/-- 0x7801.02 (Start-up, Power States and Freeze). -/
def STARTUP_TIME : Nat := objKey 0x7801 0x02
/-- 0x7801.03 (Start-up, Power States and Freeze). -/
def JOIN_BEAT : Nat := objKey 0x7801 0x03
/-- 0x7801.04 (Start-up, Power States and Freeze). -/
def RESET_CAUSE : Nat := objKey 0x7801 0x04
/-- 0x7801.05 (Start-up, Power States and Freeze). -/
def RESET_STARTS : Nat := objKey 0x7801 0x05
/-- 0x7900.01 (Start-up, Power States and Freeze). -/
def FREEZE_ENABLE : Nat := objKey 0x7900 0x01
/-- 0x7900.02 (Start-up, Power States and Freeze). -/
def FREEZE_CONVOY : Nat := objKey 0x7900 0x02
/-- 0x7900.03 (Start-up, Power States and Freeze). -/
def LAST_FREEZE_BEAT : Nat := objKey 0x7900 0x03
/-- 0x7900.04 (Start-up, Power States and Freeze). -/
def LAST_FREEZE_OFFSET : Nat := objKey 0x7900 0x04
/-- 0x7900.05 (Start-up, Power States and Freeze). -/
def LAST_FREEZE_TIME : Nat := objKey 0x7900 0x05
/-- 0x7900.06 (Start-up, Power States and Freeze). -/
def LAST_FROZEN_BEATS : Nat := objKey 0x7900 0x06
/-- 0x7900.07 (Start-up, Power States and Freeze). -/
def FREEZE_COUNT : Nat := objKey 0x7900 0x07
/-- 0x7900.08 (Start-up, Power States and Freeze). -/
def FROZEN_TIME : Nat := objKey 0x7900 0x08
/-- 0x7901.01 (Start-up, Power States and Freeze). -/
def PROOF_LENGTH : Nat := objKey 0x7901 0x01
/-- 0x7901.02 (Start-up, Power States and Freeze). -/
def PROOF_FORMAT : Nat := objKey 0x7901 0x02
/-- 0x7901.03 (Start-up, Power States and Freeze). -/
def PROOF_READS : Nat := objKey 0x7901 0x03

end Sys2Proof.Machine.K
end

