-- ==== Sys2Proof/Machine/StateCore.lean ====
section
/-! DEFINITION. State of the timing fabric, the lanes, the collector, the ledger and the store (spec/01, 10, 11, 12). -/

namespace Sys2Proof.Machine

/-- A stamp (R14): convoy count, offset (saturating, R17), and the tick-counter value of the same instant (R334). -/
structure Stamp where
  beat : Count
  offset : Nat
  tick : Nat
  deriving DecidableEq, Repr

/-- The stamp of tick 0. -/
def Stamp.zero : Stamp := ⟨0, 0, 0⟩

/-! ### Lanes (R18 to R26) -/

/-- KIND codes of LANE_STATUS (Table 1.7). -/
inductive LaneKind where
  | ramp | discharge | margin | stipple | capture | etch | pmbus | cal | scrub
  deriving DecidableEq, Repr

/-- A request waiting for a shared lane (R20 to R23). `ref` tells requests of one kind apart (rail, cause, slice ...);
`mask` and `pages` carry the scope of an etch (Table 11.4). -/
structure LaneReq where
  kind : LaneKind
  base : Nat
  eff : Nat
  target : Nat
  ref : Nat
  mask : Nat
  pages : List Nat
  posted : Nat
  denials : Nat
  promoted : Bool
  waitCounted : Bool
  deriving DecidableEq, Repr

/-- An operation on a lane. `order` numbers the grants, so that "granted most recently" (R22, R23) can be told; `denials` is what its
request counted. -/
structure LaneOp where
  kind : LaneKind
  base : Nat
  eff : Nat
  target : Nat
  ref : Nat
  posted : Nat
  granted : Nat
  order : Nat
  denials : Nat
  deriving DecidableEq, Repr

/-- A pre-empted lane on its way to its new request (R24). -/
structure Handover where
  lane : Nat
  req : LaneReq
  op : LaneOp
  deriving DecidableEq, Repr

/-- The 128 lanes: rail lanes by rail number, shared lanes by lane number 64 to 127, and the queue of shared requests. -/
structure Lanes where
  rail : FMap LaneOp
  shared : FMap LaneOp
  queue : List LaneReq
  handovers : List Handover
  grants : Nat
  lastGrant : Nat
  deriving DecidableEq, Repr

/-! ### Fault collector (spec/10) -/

/-- A message on its way to the collector (R279). -/
structure Msg where
  source : Nat
  kind : Nat
  addr : Nat
  injected : Bool
  stamp : Stamp
  deriving DecidableEq, Repr

/-- Resolved classes (R284), in the order of the CLASS field of Table 10.1. -/
inductive MClass where
  | silent | corrected | contained | fatal
  deriving DecidableEq, Repr

/-- Collector phases (R283), in the order of the PHASE field of Table 10.1. -/
inductive CollPhase where
  | service | startUp | test | recovery
  deriving DecidableEq, Repr

/-- COLL_STATE (0x5101.01). -/
inductive CollState where
  | clear | deciding | faulted | latched | recovery
  deriving DecidableEq, Repr

/-- A message processed by the arrival stage (R281, R285), the tick it arrived on, and the class whose reactions it took there (R295). -/
structure QMsg where
  msg : Msg
  arrived : Nat
  cls : MClass
  react : MClass
  acted : Bool
  phase : CollPhase
  opening : Bool
  deriving DecidableEq, Repr

/-- A first-fault candidate (R287). -/
structure Candidate where
  injected : Bool
  rank : Stamp
  fatal : Bool
  source : Nat
  kind : Nat
  addr : Nat
  word : Nat
  stamp : Stamp
  claimRail : Option Nat
  deriving DecidableEq, Repr

/-- A released message that may still meet a coincident partner (R296). -/
structure Recent where
  source : Nat
  kind : Nat
  injected : Bool
  stampTick : Nat
  order : Nat
  deriving DecidableEq, Repr

/-- The fault collector. `pastWindows` are the values that W_c had before its latest changes, each with the tick of its change (R287);
`latchActed` says that a latching fatal has acted in this episode (Table 10.4). -/
structure Coll where
  released : Bool
  inflight : List Msg
  held : List (Nat × Nat × Nat)
  queue : List QMsg
  lastRelease : Nat
  state : CollState
  e0 : Stamp
  window : Nat
  cands : List Candidate
  latchActed : Bool
  quietFrom : Nat
  recoveryFrom : Nat
  fatalOut : Bool
  endOfStart : Option Nat
  spanDone : Bool
  testOwner : Option Nat
  pulseUntil : Option Nat
  recents : List Recent
  pastWindows : List (Nat × Nat)
  deriving DecidableEq, Repr

/-! ### Ledger (spec/12) -/

/-- An entry of the hand-off buffer (R334). -/
structure Hand where
  order : Nat
  word : Nat
  stamp : Stamp
  folded : Bool
  partner : Option Nat
  opening : Bool
  deriving DecidableEq, Repr

/-- The first fault whose record the ledger has to mark (R341). -/
structure FirstMark where
  episode : Nat
  word : Nat
  stamp : Stamp
  deriving DecidableEq, Repr

/-- A record of the window that was entered or repeated since power-up, with the ticks of its first and last stamps (R341, R342); no tick
for a first stamp of an earlier power cycle. -/
structure RecTick where
  rseq : Nat
  first : Option Nat
  last : Nat
  deriving DecidableEq, Repr

/-- The ledger: hand-off buffer, overflow counts by source, and what it has still to do; `link` is F of R342, the freeze tick to which
records are linked. The head is class C and is kept
with the objects (`K.NEXT_RSEQ` ...; `H.latestRseq`, `H.latestTick`). -/
structure Ledger where
  buffer : List Hand
  overflow : FMap Nat
  reconciling : Bool
  suspended : Bool
  restartCauses : List Nat
  marks : List FirstMark
  link : Option Nat
  recents : List RecTick
  enteredAt : List (Nat × Nat)
  recalledHanded : Nat
  lastEntry : Nat
  deriving DecidableEq, Repr

/-! ### Store (spec/11) -/

/-- What a page holds: its bytes that are not 0x00, and the class P and class C values homed in it. -/
structure PageData where
  cells : List Host.Cell
  vals : FMap Nat
  deriving DecidableEq, Repr

/-- What the latest reading of one stripe of a copy found: the groups that needed correction, whether a group is uncorrectable, and the
group that it reported (R305, R324). -/
structure Stripe where
  corrected : Nat
  bad : Bool
  group : Nat
  deriving DecidableEq, Repr

/-- One shadow copy of a page with its header (Table 11.3). `hdrOk` and `dataOk` say that HDR_CRC and DATA_CRC match, `commit` that
COMMIT is complete; `stripes` holds what is known of its stripes, by channel. -/
structure Copy where
  copySeq : Count
  etchSeq : Count
  blockN : Nat
  blockI : Nat
  hdrOk : Bool
  dataOk : Bool
  stripes : FMap Stripe
  commit : Bool
  data : PageData
  deriving DecidableEq, Repr

/-- Is a group of a copy uncorrectable? -/
def Copy.uncorr (c : Copy) : Bool := c.stripes.any (fun x => x.2.bad)

/-- States of Table 11.6 after IDLE (ADMIT takes no time of its own). -/
inductive EtchPhase where
  | starting | writing | stopping
  deriving DecidableEq, Repr

/-- The running etch (Table 11.6). -/
structure Etch where
  phase : EtchPhase
  cause : Nat
  base : Nat
  mask : Nat
  pages : List Nat
  followOn : Bool
  onReserve : Bool
  seq : Count
  eAvail : Nat
  maxPages : Nat
  admitted : Nat
  lane : Nat
  due : Nat
  todo : List Nat
  block : List Nat
  blockN : Nat
  index : Nat
  snap : FMap PageData
  retry : Bool
  short : Bool
  vhuStop : Bool
  deriving DecidableEq, Repr

/-- An etch request that holds its lane and waits for the store (R311). -/
structure EtchWait where
  cause : Nat
  base : Nat
  mask : Nat
  pages : List Nat
  lane : Nat
  deriving DecidableEq, Repr

/-- What recall found for a page, shown by PAGE_INFO (Table 11.13); `weak` holds the copies that scrub found weak. -/
structure PageInfo where
  source : Nat
  tie : Bool
  rolledBack : Bool
  weak : List Nat
  seq : Count
  deriving DecidableEq, Repr

/-- The persistent store beside working memory itself. `carries` are the three-step additions in progress, each with whether its step 2
is done (R322); `eccFrom` is the tick on which this pass of the patrol began, `eccSeen` what kind 0x01 was raised for on this pass. -/
structure Store where
  recalling : Bool
  dirty : List Nat
  autoFrom : Option Nat
  etch : Option Etch
  waiting : List EtchWait
  shadow : FMap Copy
  info : FMap PageInfo
  recency : List Nat
  bad : List Nat
  scrubAt : Nat
  scrubDue : Nat
  followOn : Bool
  chainEnded : Bool
  opDue : Nat
  eccFrom : Nat
  eccSeen : List Nat
  carries : List (Nat × Bool)
  deriving DecidableEq, Repr

/-! ### Timing fabric (R13) -/

/-- The timing fabric: the tick counter, the count, the tick of the latest beat edge, the recorded edges, newest first, at most
1,024 (R13), and the older edges from which a waiting operation still counts its ticks (R4, R15). The tick of an edge seen under freeze is
that of the tick counter less the filter clock ticks since (R417), which lies before tick 0 where the freeze was longer than the time
since CLOCKS. -/
structure Fabric where
  tick : Nat
  count : Count
  edgeTick : Int
  edges : List (Count × Int)
  kept : List (Count × Int)
  deriving DecidableEq, Repr

/-! ### Management cores (R28, R29) -/

/-- Why the cores are held in reset: a restart of R28 with its cause, an activation or a next trial (R392, R395), the limit of
R29, running from VHU (R314). -/
inductive CoreHold where
  | restart (cause : Nat) | activation | limit | reserve
  deriving DecidableEq, Repr

/-- The management cores: running or held, and the ticks of the latest restarts (R29). -/
structure Cores where
  hold : Option CoreHold
  restarts : List Nat
  deriving DecidableEq, Repr

end Sys2Proof.Machine
end

