-- ==== Sys2Proof/Machine/StateConv.lean ====
section
/-! DEFINITION. State of conversion, scan, capture and the ring (spec/06). -/

namespace Sys2Proof.Machine

/-- Where a slice stands (Table 6.5; SCAN and GANG are told apart by the running capture). -/
inductive SliceRole where
  | inRound | calibrating | spare | failed
  deriving DecidableEq, Repr

/-- A converter slice: role, position, estimates (R171), tick of its last completed step, and whether kind 0x03 was
raised for its age (R176). -/
structure Slice where
  role : SliceRole
  pos : Nat
  offset : Int
  gain : Int
  skew : Int
  calTick : Nat
  stale : Bool
  deriving DecidableEq, Repr

/-- Use of a slot (R160). -/
inductive SlotUse where
  | gang (k ch : Nat)
  | urgent (ch : Nat)
  | scan (ch : Nat)
  | zero
  deriving DecidableEq, Repr

/-- A slot that has started and whose result has not arrived. `page` is its place in the ring: page sequence and index. -/
structure Slot where
  tick : Nat
  slice : Nat
  use : SlotUse
  signed : Bool
  page : Option (Nat × Nat)
  stamp : Stamp
  deriving DecidableEq, Repr

/-- An urgent request (R182): `rank` orders requests of one tick (R183). -/
structure Urgent where
  ch : Nat
  tick : Nat
  rank : Nat
  deriving DecidableEq, Repr

/-- A stored result: code and the flags of Table 6.4. -/
structure Result where
  code : Nat
  slice : Nat
  urgent : Bool
  gang : Bool
  sat : Bool
  signed : Bool
  deriving DecidableEq, Repr

/-- A bank switch that is pending (R164): the bank, the commit tick, whether it waits for entry 0, and the commit tick of a restart of the
active bank that is still due. -/
structure BankSwitch where
  bank : Nat
  commit : Nat
  atZero : Bool
  restart : Option Nat
  deriving DecidableEq, Repr

/-- Agreement counting of R186 for one quick converter: successive results out of and inside QUICK_TOL, and whether the
kind is raised and waits for agreement. -/
structure QuickAgree where
  bad : Nat
  good : Nat
  raised : Bool
  deriving DecidableEq, Repr

/-- Counting of R298 for one limit of one channel. -/
structure LimitRun where
  out : Nat
  back : Nat
  raised : Bool
  deriving DecidableEq, Repr

/-- Slices and scan. -/
structure Conv where
  scanning : Bool
  slices : FMap Slice
  bank : Nat
  listPos : Nat
  switch : Option BankSwitch
  inflight : List Slot
  urgents : List Urgent
  last : FMap Result
  lastUrgent : FMap Result
  catchUp : Nat
  stepsDone : Nat
  swapDue : Nat
  calStart : Nat
  quickAt : Nat
  formatAt : FMap Nat
  agree : FMap QuickAgree
  limits : FMap LimitRun
  deriving DecidableEq, Repr

/-- CAP_STATE (0x3202.01). -/
inductive CapState where
  | idle | armed | running | done
  deriving DecidableEq, Repr

/-- Owner of a capture (0x3202.07). -/
inductive CapOwner where
  | none | port (p : Nat) | trigger | stipple (n : Nat)
  deriving DecidableEq, Repr

/-- A slice-level gang sample that waits for its neighbour (R177). -/
structure GangSample where
  k : Nat
  ch : Nat
  slice : Nat
  x : Int
  signed : Bool
  page : Option (Nat × Nat)
  deriving DecidableEq, Repr

/-- A capture run as its slot results see it: its gang, its first slot, the last tick that may have a slot of it (none while it runs), the
samples that wait for their neighbours, and the slice-level values at hand (R177). -/
structure GangRun where
  g : Nat
  k : Nat
  samples : Nat
  t0 : Nat
  last : Option Nat
  waiting : List GangSample
  xs : FMap Int
  deriving DecidableEq, Repr

/-- The ganged capture (Table 6.6), with the settings in force since CAP_ARM. `fresh` lists channel and physical value of
the samples that the latest slot result finished, which the stipple guard compares (R213); `orphan` says that the owner's session has
ended, so that the capture goes to IDLE when it is DONE (Table 13.13); `old` are runs that a newer capture has replaced before their last
results came, newest first. -/
structure Capture where
  state : CapState
  owner : CapOwner
  g : Nat
  k : Nat
  chs : List Nat
  samples : Nat
  whenMode : Nat
  startTick : Option Nat
  startBeat : Option (Count × Nat)
  level : Nat
  t0 : Nat
  ended : Bool
  orphan : Bool
  waiting : List GangSample
  xs : FMap Int
  fresh : List (Nat × Int)
  old : List GangRun
  deriving DecidableEq, Repr

/-- RING_STATE (0x3200.01). -/
inductive RingState where
  | running | triggered | frozen
  deriving DecidableEq, Repr

/-- A ring page that is being written (Table 6.7). -/
structure RingPage where
  seq : Nat
  stamp : Stamp
  count : Nat
  listPos : Option Nat
  listLen : Nat
  bank : Nat
  last : Bool
  trig : Bool
  gang : Option (Nat × Nat × List Nat)
  phase : Option Nat
  urgents : List (Nat × Nat)
  formatMap : Nat
  listCrc : Nat
  deriving DecidableEq, Repr

/-- A recorded qualification of a rail under freeze: its capture trigger, if any, and its urgent requests wait for the first clocked tick
(R297). -/
structure HeldQual where
  rail : Nat
  addr : Nat
  trigger : Bool
  deriving DecidableEq, Repr

/-- The capture ring (Table 6.8). `started` is true from the end of store recall (R189, R192); `recalled` says that it was recalled FROZEN and
not rearmed since; `etchSeq` is the etch that carries the present freeze, `etchDone` whether that etch has ended whole. TRIG_*, FREEZE_* and
the sequence numbers are kept with the objects. -/
structure Ring where
  started : Bool
  state : RingState
  trigTick : Nat
  freezeTick : Nat
  opened : Option RingPage
  closing : List RingPage
  nextSeq : Nat
  recalled : Bool
  etchSeq : Option Count
  etchDone : Bool
  held : List HeldQual
  deriving DecidableEq, Repr

end Sys2Proof.Machine
end

