-- ==== Sys2Proof/Machine/StateConvoy.lean ====
section
/-! DEFINITION. State of the convoy (spec/03). -/

namespace Sys2Proof.Machine

/-- Convoy states, in the order of the codes of STATE (0x1401.03). -/
inductive ConvoyState where
  | disabled | solo | member | leader | halted
  deriving DecidableEq, Repr

/-- A beat frame (Table 3.2). -/
structure Frame where
  count : Count
  version : Nat
  wayNext : Nat
  voteKind : Nat
  voteArg : Nat
  commit : Bool
  halt : Bool
  replyOpen : Bool
  leaderNew : Bool
  replySeg : Nat
  leaderAddr : Nat
  msgKind : Nat
  msgAmount : Nat
  msgId : Nat
  msgFrom : Nat
  msgTo : Nat
  deriving DecidableEq, Repr

/-- A reply word (Table 3.5, Table 3.6). -/
structure Reply where
  addr : Nat
  kind : Nat
  arg8 : Nat
  argA : Nat
  argB : Nat
  deriving DecidableEq, Repr

/-- The settings 0x1400.01 to 0x1400.06 in effect (R98). -/
structure ConvoySet where
  enable : Bool
  unitAddr : Nat
  segId : Nat
  segCount : Nat
  relay : Bool
  rank : Nat
  deriving DecidableEq, Repr

/-- A proposal of a leader that waits for XFER_SENT (R95). -/
structure Proposal where
  number : Nat
  sender : Nat
  receiver : Nat
  beat : Count
  deriving DecidableEq, Repr

/-- A transfer that a leader carries: XFER_DELIVER until XFER_RECEIVED (R95). -/
structure Delivery where
  sender : Nat
  id : Nat
  receiver : Nat
  amount : Nat
  beat : Count
  deriving DecidableEq, Repr

/-- A message that a leader still has to put into a frame (Table 3.7). -/
structure FrameMsg where
  kind : Nat
  amount : Nat
  id : Nat
  from_ : Nat
  dest : Nat
  deriving DecidableEq, Repr

/-- What a unit does while it leads: waystation requests; objections of the head request; the question that the present
beat votes on; whether its own edge returned or the ring is open this beat; halt; whether this is its first frame, and whether
the present beat's frame is sent; the toll request and offer (unit, amount) still unpaired; proposals, deliveries, messages to
send; dropped waystation replies. -/
structure Leading where
  queue : List Nat
  objections : Nat
  asked : Option (Nat × Nat)
  ringBack : Bool
  ringOpen : Bool
  halted : Bool
  first : Bool
  frameSent : Bool
  request : Option (Nat × Nat)
  offer : Option (Nat × Nat)
  nextProposal : Nat
  proposals : List Proposal
  deliveries : List Delivery
  outbox : List FrameMsg
  dropped : Nat
  deriving DecidableEq, Repr

/-- The convoy logic. `held` is true while this unit pulls CVY_HOLD low from the latest beat edge, `halting` while it holds a
halt (R69), `objecting` when it objects to this beat's question (R76). `edgeFrom` is the tick of the previous beat edge taken
from CVY_DATA since SOLO was entered (R67), `soloDue` the tick of the next solo beat, `soloSince` the tick SOLO was entered,
`heardFrame` whether a valid frame came since. `lastFrame` is the latest valid frame, `matched` whether it came this beat with
the unit's own count, `frameThisBeat` whether any valid frame came this beat, `join` the frame on which a SOLO unit joins at the
next edge. `wayNew` and `late` are the waystation that the next edge puts in force and the beat it is late from (R79), `oldWay`
the count of the latest valid frame that carried the waystation in force. `wayPending` is a member's WAY_REQUEST, `soloWay` that
of a solo unit. `msgOpen` says that the latest frame's message is still to be acted on; `xferBeat` is the beat of the latest
XFER_SENT; `replies` wait for an open slot, `replied` says that this beat's slot is used, `sent` is the latest reply sent and
`frameOut` the latest frame sent. `offAt` is the commit tick of a CONVOY_ENABLE 0 that waits for the next edge (R98). The relay:
the levels of CSC_IN, CSC_OUT, whether it drives CVY_DATA low, the tick since which CSC_IN is low, while that is unreported, and the filter clock tick of
the latest beat edge that came on CSC_IN (R407). `holdIn` and `dataIn` are the levels that CVY_HOLD and CVY_DATA have from others,
`holdLow` whether the unit drives CVY_HOLD low, `lowAt` the latest tick on which CVY_HOLD or CSC_IN is known to have been low (R70).
`haltSample` and `voteSample` are the segment's samples of this beat at offsets 500 and 1,900 (R76, R84), `replySlot` the segment to which
the latest frame that passed opens the reply slot and the filter clock tick on which that frame ends, read without the cores (R85).
`maybe` are the falling edges of CVY_DATA that a SOLO unit has seen at offsets below 72,000, newest first (R67); `readyFrame` and `disagrees`
say whether the frame of the beat before matched (condition 2 of R68) and whether a unit that is present objects to its question (R77, R125); `sending` whether a reply of this unit won
this beat's slot. -/
structure Convoy where
  state : ConvoyState
  set : ConvoySet
  way : Nat
  version : Nat
  leaderAddr : Nat
  present : Bool
  held : Bool
  halting : Bool
  objecting : Bool
  edgeFrom : Option Int
  lastEdge : Int
  soloDue : Nat
  soloSince : Nat
  heardFrame : Bool
  frameThisBeat : Bool
  lastFrame : Option Frame
  matched : Bool
  join : Option Frame
  wayNew : Option Nat
  late : Option Count
  oldWay : Option Count
  wayPending : Option Nat
  soloWay : Option Nat
  msgOpen : Bool
  xferBeat : Count
  replies : List Reply
  replied : Bool
  sent : Option Reply
  frameOut : Option Frame
  offAt : Option Nat
  cscIn : Bool
  cscOut : Bool
  dataLow : Bool
  stuckFrom : Option Nat
  relayEdge : Option Nat
  holdIn : Bool
  dataIn : Bool
  holdLow : Bool
  lowAt : Nat
  maybe : List Nat
  readyFrame : Bool
  disagrees : Bool
  haltSample : Bool
  voteSample : Bool
  replySlot : Option (Nat × Nat)
  sending : Bool
  lead : Leading
  deriving DecidableEq, Repr

end Sys2Proof.Machine
end

