-- ==== Sys2Proof/Machine/StateFeeds.lean ====
section
/-! DEFINITION. State of the input feeds, mating and the hold-up (spec/09). -/

namespace Sys2Proof.Machine

/-- Feed states, in the order of the codes of Table 9.2. -/
inductive FeedState where
  | disabled | unmated | waitSource | waitTolls | ramping | on | tripped | lockout | damaged
  deriving DecidableEq, Repr

/-- What R256 and R278 ask of the tick that a feed's events belong to: the feed's state, whether its gate was driven, TRIP_RUN, and the
objects (`objs`) and timers (`armed` to `left`) that a trip writes, all as they stood before any transition of that tick; whether a transition has
been made on it; the kinds of its trip events so far. -/
structure FeedTick where
  tick : Nat
  was : FeedState
  driven : Bool
  run : Nat
  moved : Bool
  kinds : List Nat
  objs : List (Nat × Nat)
  armed : Bool
  recalled : Bool
  full : Option Nat
  left : Nat
  deriving DecidableEq, Repr

/-- One feed. `gateOff` is the tick since which its gate has been off; `badAt` the tick of the last quick result out of range, or the tick
from which AVAIL_TIME counts in full; `uv`, `ov` the ticks since which every quick result was low, high; `soa` the SOA count in µs; `charge` the integral of RAMP_CHARGE in counts of 10 µV times
ticks; `chargeAt` the tick up to which it stands; `edges` the beat edges in ON; `armed` a deadline that R268 judges;
`recalled` a recalled convoy-basis deadline; `full` the edges that the full timer of R269 has still to come, `left` RETRY_LEFT as R268
reports it; `dmg` the consecutive results of R270; `pulling` a gate that goes off at the end of the extraction delay (R258); `closing` a
FEED_ENABLE of 0x00 that came after the feed's transition of its tick;
`frozenTrip` the kind of a trip under freeze (R275); `last` the latest tick on which the feed had an event (R256). TRIP_RUN, RETRY_DEADLINE and the counters are kept with the objects. -/
structure Feed where
  state : FeedState
  blocking : Bool
  gateOff : Nat
  badAt : Nat
  uv : Option Nat
  ov : Option Nat
  soa : Nat
  rampFrom : Nat
  v0 : Nat
  charge : Int
  chargeAt : Nat
  sense : Int
  need : Nat
  issued : Nat
  edges : Nat
  armed : Bool
  recalled : Bool
  full : Option Nat
  left : Nat
  dmg : Nat
  pulling : Bool
  closing : Bool
  frozenTrip : Option Nat
  last : Option FeedTick
  deriving DecidableEq, Repr

/-- The card input and the hold-up: INPUT_GOOD, running from VHU, whether input was good at some tick since the end of start-up, the
tick since which it is not good, mating (`earlyLow`, `lateLow`: the pins are known to be low; `lowFrom`: the tick from which MATE_DEBOUNCE
counts, that of the last qualified high level or of the end of CLOCKS), PFAIL_N, the extraction delay, and the checks of R271 and R274. `lossHeld` is true from an
extraction until input is not good: its cause clears when input is good again. `riseFrom`, `riseLow` time the charge of R317;
`goodAt` and `riseFrom` are on the filter clock, since the hold-up's supervision goes on under freeze (Table 15.6). `outLow` is the tick of
the latest quick result of OUT_SNS below DMG_LEVEL. `freezeReserve` says that the device went on reserve under freeze. -/
structure CardInput where
  good : Bool
  onVhu : Bool
  everGood : Bool
  goodAt : Nat
  lostAt : Option Nat
  lossDone : Bool
  lossHeld : Bool
  riseFrom : Option Nat
  riseLow : Bool
  mated : Bool
  earlyLow : Bool
  lateLow : Bool
  lowFrom : Nat
  pullAt : Option Nat
  pfailLow : Bool
  huGood : Bool
  huWait : Bool
  huFell : Bool
  outLow : Option Nat
  pathDone : Bool
  freezeReserve : Bool
  deriving DecidableEq, Repr

end Sys2Proof.Machine
end

