-- ==== Sys2Proof/Machine/StateHosts.lean ====
section
/-! DEFINITION. State of the host ports: sessions, challenges, requests and responses, claims (spec/13), and split-pair latches
(R55 to R57). -/

namespace Sys2Proof.Machine

/-- A latch of a split pair (R55): key of the _LO half, latched high half, latched tag. -/
structure Latch where
  key : Nat
  hi : Nat
  tag : Nat
  deriving DecidableEq, Repr

/-- Levels of Table 13.1 are 0 to 2. A session: its level, its key K_S, its last SEQ, the tick of its latest renewal, its
latches, oldest first, and its copies of the objects of R351. -/
structure Session where
  level : Nat
  key : List Byte
  lastSeq : Nat
  renewed : Nat
  latches : List Latch
  own : FMap Nat
  deriving DecidableEq, Repr

/-- A pending challenge (R361): level requested, N_H, N_D and the tick of the OPEN. -/
structure Challenge where
  level : Nat
  nh : List Byte
  nd : List Byte
  at_ : Nat
  deriving DecidableEq, Repr

/-- An accepted request that is waiting to be checked, and the tick on which it finished arriving (R50). -/
structure Request where
  body : List Byte
  arrived : Nat
  deriving DecidableEq, Repr

/-- What one member was answered: status, tag, data (Table 13.4). -/
structure Answer where
  status : Nat
  tag : Nat
  data : List Byte
  deriving DecidableEq, Repr

/-- A port. `fails` counts consecutive AUTH_FAIL results; `stored` is the stored response to the last SEQ (R364), with its answers; `response`
the latest response formed, `ready` whether it answers the latest accepted request; `answers` what the members of the latest
transaction were answered; `out` what the latest frame read from the port shifted out. -/
structure PortState where
  session : Option Session
  challenge : Option Challenge
  fails : Nat
  lockedUntil : Option Nat
  frameErr : Bool
  request : Option Request
  response : Option (List Byte)
  ready : Bool
  stored : Option (List Byte × List Answer)
  answers : List Answer
  out : List Byte
  deriving DecidableEq, Repr

/-- H2 (R358 to R360): the body being rebuilt, with its SEQ byte, next segment and the tick of its latest segment; NODE and SEQ [7:0] of the
latest request; bus-off; the
response segments that wait for its end; the frames of the latest response sent, as identifier and data field. -/
structure Bale where
  seq : Nat
  node : Nat
  reqSeq : Nat
  next : Nat
  body : List Byte
  lastAt : Nat
  open_ : Bool
  busOff : Bool
  waiting : List (Nat × List Byte)
  sent : List (Nat × List Byte)
  deriving DecidableEq, Repr

/-- All ports: by port code, the claims by group, the bales, and the number of random draws made. -/
structure Hosts where
  ports : FMap PortState
  claims : FMap Nat
  bale : Bale
  draws : Nat
  deriving DecidableEq, Repr

end Sys2Proof.Machine
end

