-- ==== Sys2Proof/Machine/StateRails.lean ====
section
/-! DEFINITION. State of the rails: sequencing, supervision, margins, stipple runs, sinks and the toll governor (spec/04, 05,
07, 08). -/

namespace Sys2Proof.Machine

/-- Rail states, in the order of the codes of Table 4.1. -/
inductive RailState where
  | absent | off | armed | waiting | ramping | on | stopping | discharging | forced | locked
  deriving DecidableEq, Repr

/-- Glitch filter states (Table 5.3). -/
inductive FilterPhase where
  | inside | counting | qualified | clearing
  deriving DecidableEq, Repr

/-- One glitch filter: state, onset stamp and onset on the filter clock (R141), start of the clearing count, raw output. -/
structure Filter where
  phase : FilterPhase
  onset : Stamp
  onsetClk : Nat
  clearClk : Nat
  raw : Bool
  deriving DecidableEq, Repr

/-- What a rail that has moved on this tick still has to do on a later one, since it takes at most one transition a tick (R105): enter a
step or a pass, the end of its discharge, or OFF at the end of a pass with L = 0. -/
inductive RailNext where
  | arm (slot : Nat) (late : Bool)
  | enter (anchor : Stamp) (urgent : Bool)
  | fallen
  | unlock
  deriving DecidableEq, Repr

/-- One rail. `slot` is the on-slot or off-slot tick, `timer` the start of the
running timeout, `window` the w of R108, `turnOnAt` the tick on which a WAITING rail whose prerequisite came ON turns on,
`depDone` the tick its last dependent became done, `below` the count of
R112, `seen` the state and warning mask for which the comparator roles were last reviewed (R143). `movedAt` is one more than the filter
clock's count at its latest transition, `before` the state it left then, `next` what it still has to do (R105). -/
structure Rail where
  state : RailState
  timer : Nat
  slot : Option Nat
  window : Option Nat
  turnOnAt : Option Nat
  depDone : Nat
  dischFrom : Nat
  below : Nat
  en : Bool
  noPmb : Bool
  seen : RailState
  seenMask : Bool
  movedAt : Nat
  before : RailState
  next : List RailNext
  filters : FMap Filter
  deriving DecidableEq, Repr

/-- A pass (R110, R115, R118): its anchor, target, and the rails it took in. -/
structure Pass where
  anchor : Stamp
  target : Nat
  rails : List Nat
  deriving DecidableEq, Repr

/-- Card states, in the order of the codes of Table 4.3. -/
inductive SeqState where
  | idle | blocked | rising | falling | shutdown | holdoff | collapsed | setup
  deriving DecidableEq, Repr

/-- What a local shutdown may have to restore (R121). -/
structure SeqSaved where
  state : SeqState
  way : Nat
  anchor : Stamp
  pass : Option Pass
  stepRails : List Nat
  stepOpen : Bool
  stepTaken : List Nat
  moved : List (Nat × RailState)
  cancelled : List Nat
  deriving DecidableEq, Repr

/-- A pass whose posting waits for the management cores (R117): shutdown cause, or tripped rail, and anchor. -/
inductive Deferred where
  | shutdown (cause : Nat) (anchor : Stamp)
  | dependent (rail : Nat) (anchor : Stamp)
  deriving DecidableEq, Repr

/-- The card sequencer (Table 4.4). `causes` are the standing causes, `holdFrom` the tick from which the hold-off counts, `releasedAt` one
more than the tick of the latest release of a rail (R121), `wayAt` the stamp at which the waystation in force last changed, `rearm` the
rails that wait for the next beat edge under step 4 of R121, `stepOpen` whether the step is not complete, `stepTaken` its rails that a
dependent pass took in (R116), `lateStep` the original anchor of a step entered late (R109), `setup` the rails and stage that the setup
pass still has to do. -/
structure Seq where
  state : SeqState
  way : Nat
  anchor : Stamp
  stepRails : List Nat
  stepOpen : Bool
  stepTaken : List Nat
  pass : Option Pass
  deps : List Pass
  causes : List Nat
  holdFrom : Option Nat
  saved : Option SeqSaved
  releasedAt : Nat
  collapseArmed : Bool
  wayAt : Stamp
  lateStep : Option Stamp
  rearm : List Nat
  setup : List Nat
  deferred : List Deferred
  deriving DecidableEq, Repr

/-- What a PMBus transaction is for (Table 4.5, Table 7.2, R203). -/
inductive PmbWhat where
  | turnOn | off | setupClear | setupConfig | setupRead | status | voutMode | marginWord | marginOp | marginReturn
  | releaseReturn
  deriving DecidableEq, Repr

/-- What follows the transfer that runs for a PMBus transaction: what R126 and R129 say; nothing more on the bus, because its lane is
pre-empted (Table 1.5); nothing at all (R122, R149). -/
inductive PmbFate where
  | normal | last | mute
  deriving DecidableEq, Repr

/-- A PMBus transaction that is posted, holds a lane, or runs on its port. `paging` is set while its PAGE transfer runs. -/
structure PmbJob where
  id : Nat
  rail : Nat
  what : PmbWhat
  code : Nat
  data : Nat
  level : Nat
  tries : Nat
  granted : Bool
  paging : Bool
  fate : PmbFate
  deriving DecidableEq, Repr

/-- The four PMBus ports: jobs in posting order, the job that runs on each port, the address and page each port's previous
transaction set (R126). -/
structure Pmb where
  jobs : List PmbJob
  running : FMap Nat
  last : FMap (Nat × Nat)
  nextId : Nat
  deriving DecidableEq, Repr

/-- A candidate of the rails' decision window (R153). `word` and `fatal` are set as its message arrives at the collector; `held` says
that it qualified under freeze, and its message waits. -/
structure RailCand where
  rail : Nat
  comp : Nat
  depth : Nat
  onset : Stamp
  stamp : Stamp
  kind : Nat
  addr : Nat
  word : Nat
  fatal : Bool
  held : Bool
  deriving DecidableEq, Repr

/-- The rails' decision window (R153). -/
structure RailWindow where
  q0 : Nat
  window : Nat
  cands : List RailCand
  deriving DecidableEq, Repr

/-- The latest AVG_SAMPLES scan results of a rail (R154), newest first, and the running sums of its ENERGY period (R155), which ends on
tick `next`. `late` are results of slots that started after it: slot tick, whether a voltage, value. -/
structure Live where
  vs : List Int
  is_ : List Int
  vSum : Int
  vCount : Nat
  iSum : Int
  iCount : Nat
  rest : Nat
  next : Nat
  late : List (Nat × Bool × Int)
  deriving DecidableEq, Repr

/-- Margin states, in the order of the codes of Table 7.10. -/
inductive MrgState where
  | nominal | pending | moving | settling | held | returning | failed
  deriving DecidableEq, Repr

/-- The margin of one rail (R199). `position` is MARGIN_POSITION, `want` the position a move goes to, `goal` its set point,
`codeTo` the DAC code it goes to, `due` the tick of the next step or of the end of SETTLING or HELD, `prior` the state
before PENDING, `modeRead` whether VOUT_MODE was read since the latest setup pass. -/
structure Margin where
  state : MrgState
  position : Nat
  want : Nat
  goal : Int
  code : Int
  codeTo : Int
  due : Nat
  trims : Nat
  beat : Count
  offset : Nat
  prior : MrgState
  modeRead : Bool
  deriving DecidableEq, Repr

/-- Stipple states, in the order of the codes of STIP_STATE. -/
inductive StipState where
  | idle | scheduled | waiting | preload | acquire | unload | analyse | done | aborted | failed
  deriving DecidableEq, Repr

/-- What a WAITING run has not reached yet (reasons 0x10 to 0x13). -/
inductive StipWait where
  | lane | tolls | capture | calibration
  deriving DecidableEq, Repr

/-- The stipple run of one rail (R216). `t0` is the first tick of PRELOAD, `edges` the number of pattern edges made,
`outs` the consecutive out samples of the guard, `retry` a run that waits for the next beat edge. -/
structure Stip where
  state : StipState
  beat : Count
  offset : Nat
  schedTick : Nat
  wait : StipWait
  retry : Bool
  t0 : Nat
  t0Beat : Count
  t0Offset : Nat
  temp : Int
  edges : Nat
  outs : Nat
  margined : Bool
  position : Nat
  deriving DecidableEq, Repr

/-- Use of a sink, in the order of the codes of SINK_STATE. -/
inductive SinkUse where
  | idle | discharge | stipple | load | removing
  deriving DecidableEq, Repr

/-- One sink. `cur` is the slewing command in counts of 5 µA; `slew` in mA/µs, which is its step per tick; `power` and
`energy` are its grants, `level`, `want`, `posted` its power request, `queued` while it waits (R239), `order` tells which grant is newest; `eWant`,
`ePosted` a waiting energy request; `spent` the run's metered energy in counts of 5 × 10^-18 J; `rest` the remainder of
SINK_ENERGY in counts of 2.5 × 10^-19 J; `loadFrom` the tick LOAD_TIME counts from; `standby` as R237 defines it; `lapsed` that a host load
ends because its owner's session has ended (Table 8.3); `amps` the current I that its power request asks for (R238, R240); `drain` the slew
at which the load of a stipple run that is over still goes to 0 A under a host load, which follows it (R234). -/
structure Sink where
  use : SinkUse
  fast : Bool
  cmd : Nat
  cur : Nat
  slew : Nat
  power : Nat
  level : Option Nat
  want : Nat
  queued : Bool
  posted : Nat
  order : Nat
  energy : Nat
  eWant : Nat
  ePosted : Option Nat
  spent : Nat
  rest : Nat
  owner : Option Nat
  loadFrom : Nat
  standby : Bool
  trimmed : Bool
  cut : Bool
  frozen : Bool
  compliance : Bool
  lapsed : Bool
  amps : Nat
  drain : Option Nat
  deriving DecidableEq, Repr

/-- The toll governor (Table 8.2): the accounts that are not held by a sink. Power and energy grants stand with the sinks.
`cooling` lists tolls with the tick they entered; `vaux` and `own` the latest 10 ms of channels 138 and 177; `high` says that the reserve
stands at 95 and not at the measured energy (R32), `measureAt` when measurement takes over after start-up (Table 8.3), `reserveAt` and
`reevalAt` when the reserve (R241) and the wants (R240) are next updated. -/
structure Gov where
  reserved : Nat
  protect : Nat
  free : Nat
  cooling : List (Nat × Nat)
  grants : Nat
  issued : Nat
  freed : Nat
  reevalAt : Nat
  high : Bool
  measureAt : Option Nat
  reserveAt : Nat
  vaux : List (Nat × Int)
  own : List (Nat × Int)
  deriving DecidableEq, Repr

end Sys2Proof.Machine
end

