-- ==== Sys2Proof/Machine/StateUpdate.lean ====
section
/-! DEFINITION. State of the image store, its loader and the update engine (spec/14). -/

namespace Sys2Proof.Machine

/-- States of a bank (R377). -/
inductive BankState where
  | empty | writing | valid | confirmed | superseded | rejected
  deriving DecidableEq, Repr

/-- What the activation record holds for a bank (R377), and what belongs to its image: schema and vote version. -/
structure BankRec where
  state : BankState
  version : Nat
  length : Nat
  rollback : Nat
  area : Nat
  schema : Nat
  vote : Nat
  deriving DecidableEq, Repr

/-- A slot of the activation record (R377): sequence number and whether its CRC matches; the banks; active and pending bank;
trial number; ROLLBACK_MIN. `ran` is set when the loader boots the pending bank with this trial number (R394). -/
structure ActRecord where
  seq : Count
  crcOk : Bool
  bank0 : BankRec
  bank1 : BankRec
  active : Nat
  pending : Option Nat
  trial : Nat
  ran : Bool
  rollbackMin : Nat
  deriving DecidableEq, Repr

/-- The image store (R376): both record slots and the images in the banks; `fell`: a fallback that no image has reported yet (R396). -/
structure Loader where
  slot0 : ActRecord
  slot1 : ActRecord
  images : FMap (List Byte)
  fell : Bool
  deriving DecidableEq, Repr

/-- UPD_STATE, in the order of its codes (0x7000.01). -/
inductive UpdState where
  | idle | downloading | downloaded | verifying | verified | applying | applied | scheduled | trial | failed
  deriving DecidableEq, Repr

/-- The update engine (R397). `running` is the bank whose image runs; `act` the scheduled activation; `startAt` the tick the
image started; `presentRun` the consecutive beats present (R398); `etchPosted` and `etched` the etch of step 5 of R387. -/
structure Upd where
  state : UpdState
  running : Nat
  act : Option (Count × Nat)
  health : Nat
  startAt : Nat
  presentRun : Nat
  etchPosted : Bool
  etched : Bool
  deriving DecidableEq, Repr

end Sys2Proof.Machine
end

