-- ==== Sys2Proof/Machine/State.lean ====
section
/-! DEFINITION. The state of the YB6400 as plain data, the reasons a step can stop, and the state after reset. -/

namespace Sys2Proof.Machine

/-- Phases of Table 15.2 (STARTUP_PHASE codes 0x00 to 0x06). -/
inductive StartPhase where
  | off | powerOn | clocks | recall | cores | joining | running
  deriving DecidableEq, Repr

/-- Power states of Table 15.3. -/
inductive PowerState where
  | full | trim | doze | still
  deriving DecidableEq, Repr

/-- A freeze (R413 to R418): count and offset of the last clocked tick, the beats counted, the edges seen, newest first, and the
previous edge, on the filter clock, whether the pin engine holds CVY_HOLD low, the proof, and PORT_STATUS of H0 on the last clocked
tick. -/
structure Freeze where
  beat : Count
  offset : Nat
  beats : Nat
  edges : List Nat
  edgeClk : Nat
  hold : Bool
  proof : List Byte
  status : Nat
  deriving DecidableEq, Repr

/-- The whole machine. Beside the blocks: `objs` holds the objects' values by key; `mem` working memory; `otherArea` the class P
values of the settings area that is not in use; `filterClk` the filter clock (R141); `startClk` the ticks since supplies became
good; `supplies` whether VIO, and unless the device runs from VHU also VAUX, is good; `vioClass` the VIO class that POWER_ON latches,
3.3 V where true (R430); `resetCause`, `freezeLow` the latched reset cause
and the level of FREEZE_N; `frozen` is the filter clock
tick on which the fabric stopped, while it is stopped; `dwellFrom` the tick of the latest response (Table 15.4); `ticked` says that the
blocks have done their own work of this tick (R52). -/
structure State where
  pending : List Instr
  phase : StartPhase
  fab : Fabric
  objs : FMap Nat
  mem : List Host.Cell
  lanes : Lanes
  coll : Coll
  ledger : Ledger
  store : Store
  cores : Cores
  conv : Conv
  cap : Capture
  ring : Ring
  activeArea : Nat
  otherArea : FMap Nat
  input : CardInput
  rails : FMap Rail
  seq : Seq
  pmb : Pmb
  railWins : List RailWindow
  live : FMap Live
  margins : FMap Margin
  stips : FMap Stip
  sinks : FMap Sink
  gov : Gov
  feeds : FMap Feed
  convoy : Convoy
  loader : Loader
  upd : Upd
  hosts : Hosts
  power : PowerState
  dwellFrom : Option Nat
  supplies : Bool
  vioClass : Option Bool
  startClk : Nat
  resetCause : Nat
  filterClk : Nat
  frozen : Option Nat
  freezeLow : Bool
  frz : Freeze
  ticked : Bool
  deriving DecidableEq, Repr

/-- Reasons to stop with a fault. There are none: the manual gives every command an effect, a refusal status or no effect. -/
inductive Fault where
  deriving DecidableEq, Repr

/-- Reasons to refuse a command. -/
inductive Refusal where
  /-- The command with this mnemonic has no meaning in the model. Raised by Machine/Dispatch.lean alone; safe. -/
  | notModelled (mnemonic : String)
  deriving DecidableEq, Repr

/-! ### The state after reset

Each block as it is in phase OFF (Table 15.2): Table 15.1 for the pins, nothing in progress, nothing in working memory. Values that the
manual does not give are named in notes/assumptions/. -/

def Fabric.reset : Fabric := { tick := 0, count := 0, edgeTick := 0, edges := [], kept := [] }

def Lanes.reset : Lanes := { rail := [], shared := [], queue := [], handovers := [], grants := 0, lastGrant := 0 }

def Coll.reset : Coll :=
  { released := false, inflight := [], held := [], queue := [], lastRelease := 0, state := .clear, e0 := Stamp.zero, window := 0,
    cands := [], latchActed := false, quietFrom := 0, recoveryFrom := 0, fatalOut := false, endOfStart := none, spanDone := false,
    testOwner := none, pulseUntil := none, recents := [], pastWindows := [] }

def Ledger.reset : Ledger :=
  { buffer := [], overflow := [], reconciling := true, suspended := false, restartCauses := [], marks := [], link := none,
    recents := [], enteredAt := [], recalledHanded := 0, lastEntry := 0 }

/-- The store of a blank part: no shadow copy of any page (R319). -/
def Store.reset : Store :=
  { recalling := false, dirty := [], autoFrom := none, etch := none, waiting := [], shadow := [], info := [], recency := [],
    bad := [], scrubAt := 0, scrubDue := 0, followOn := false, chainEnded := false, opDue := 0, eccFrom := 0, eccSeen := [],
    carries := [] }

def Cores.reset : Cores := { hold := none, restarts := [] }

def Conv.reset : Conv :=
  { scanning := false, slices := [], bank := 0, listPos := 0, switch := none, inflight := [], urgents := [], last := [],
    lastUrgent := [], catchUp := 0, stepsDone := 0, swapDue := 0, calStart := 0, quickAt := 0, formatAt := [], agree := [],
    limits := [] }

def Capture.reset : Capture :=
  { state := .idle, owner := .none, g := 16, k := 1, chs := [], samples := 0, whenMode := 0, startTick := none, startBeat := none,
    level := 0, t0 := 0, ended := false, orphan := false, waiting := [], xs := [], fresh := [], old := [] }

def Ring.reset : Ring :=
  { started := false, state := .running, trigTick := 0, freezeTick := 0, opened := none, closing := [], nextSeq := 0,
    recalled := false, etchSeq := none, etchDone := false, held := [] }

def CardInput.reset : CardInput :=
  { good := false, onVhu := false, everGood := false, goodAt := 0, lostAt := none, lossDone := false, lossHeld := false,
    riseFrom := none, riseLow := false, mated := false, earlyLow := false, lateLow := false, lowFrom := 0, pullAt := none, pfailLow := false,
    huGood := false, huWait := false, huFell := false, outLow := none, pathDone := false, freezeReserve := false }

def Seq.reset : Seq :=
  { state := .setup, way := 0, anchor := Stamp.zero, stepRails := [], stepOpen := false, stepTaken := [], pass := none, deps := [],
    causes := [], holdFrom := none, saved := none, releasedAt := 0, collapseArmed := false, wayAt := Stamp.zero, lateStep := none,
    rearm := [], setup := [], deferred := [] }

def Pmb.reset : Pmb := { jobs := [], running := [], last := [], nextId := 0 }

/-- Accounts at the Defaults of Table 8.8. -/
def Gov.reset : Gov :=
  { reserved := 95, protect := 100, free := 405, cooling := [], grants := 0, issued := 0, freed := 0, reevalAt := 200000,
    high := true, measureAt := none, reserveAt := 0, vaux := [], own := [] }

def Leading.reset : Leading :=
  { queue := [], objections := 0, asked := none, ringBack := false, ringOpen := false, halted := false, first := false,
    frameSent := false, request := none, offer := none, nextProposal := 0, proposals := [], deliveries := [], outbox := [],
    dropped := 0 }

def Convoy.reset : Convoy :=
  { state := .disabled, set := { enable := false, unitAddr := 0, segId := 0, segCount := 1, relay := false, rank := 0 }, way := 0,
    version := 1, leaderAddr := 0, present := false, held := false, halting := false, objecting := false, edgeFrom := none,
    lastEdge := 0, soloDue := 0, soloSince := 0, heardFrame := false, frameThisBeat := false, lastFrame := none, matched := false,
    join := none, wayNew := none, late := none, oldWay := none, wayPending := none, soloWay := none, msgOpen := false, xferBeat := 0,
    replies := [], replied := false, sent := none, frameOut := none, offAt := none, cscIn := true, cscOut := true, dataLow := false,
    stuckFrom := none, relayEdge := none, holdIn := true, dataIn := true, holdLow := false, lowAt := 0, maybe := [],
    readyFrame := false, disagrees := false, haltSample := true, voteSample := true, replySlot := none, sending := false,
    lead := Leading.reset }

/-- A bank without an image (R377). -/
def BankRec.empty : BankRec := { state := .empty, version := 0, length := 0, rollback := 0, area := 0, schema := 0, vote := 0 }

/-- The activation record of a part as delivered (DESIGN CHOICE): bank 0 holds the confirmed image 1.0 build 0 of schema 1 and vote
version 1, with its settings in area 0. -/
def ActRecord.first : ActRecord :=
  { seq := 1, crcOk := true,
    bank0 := { state := .confirmed, version := 0x01000000, length := 0, rollback := 0, area := 0, schema := 1, vote := 1 },
    bank1 := BankRec.empty, active := 0, pending := none, trial := 0, ran := false, rollbackMin := 0 }

def Loader.reset : Loader :=
  { slot0 := ActRecord.first, slot1 := { ActRecord.first with seq := 0, crcOk := false }, images := [], fell := false }

def Upd.reset : Upd :=
  { state := .idle, running := 0, act := none, health := 0, startAt := 0, presentRun := 0, etchPosted := false, etched := false }

def Bale.reset : Bale :=
  { seq := 0, node := 0, reqSeq := 0, next := 0, body := [], lastAt := 0, open_ := false, busOff := false, waiting := [], sent := [] }

def Hosts.reset : Hosts := { ports := [], claims := [], bale := Bale.reset, draws := 0 }

def Freeze.reset : Freeze := { beat := 0, offset := 0, beats := 0, edges := [], edgeClk := 0, hold := false, proof := [], status := 0 }

/-- The machine right after reset: phase OFF (Table 15.2), before supplies become good, with an empty queue. -/
def State.reset : State :=
  { pending := [], phase := .off, fab := Fabric.reset, objs := [], mem := [], lanes := Lanes.reset, coll := Coll.reset,
    ledger := Ledger.reset, store := Store.reset, cores := Cores.reset, conv := Conv.reset, cap := Capture.reset, ring := Ring.reset,
    activeArea := 0, otherArea := [], input := CardInput.reset, rails := [], seq := Seq.reset, pmb := Pmb.reset, railWins := [],
    live := [], margins := [], stips := [], sinks := [], gov := Gov.reset, feeds := [], convoy := Convoy.reset,
    loader := Loader.reset, upd := Upd.reset, hosts := Hosts.reset, power := .full, dwellFrom := none, supplies := false,
    vioClass := none, startClk := 0, resetCause := 0, filterClk := 0, frozen := none, freezeLow := false, frz := Freeze.reset, ticked := false }

end Sys2Proof.Machine
end

