-- ==== Sys2Proof/Machine/Ops.lean ====
section
/-! DEFINITION. The shared operations: working memory, objects, time, messages, lanes. -/

namespace Sys2Proof.Machine

/-! ### Working memory (R302, R306) -/

/-- The canonical form of working memory: addresses strictly rising, no cell equal to 0x00, which is what an unlisted
address reads as (R319: a blank page is filled with 0x00). -/
def Memory.wf : List Host.Cell → Bool
  | [] => true
  | c :: r =>
    (c.2 != 0#8) && (match r with | [] => true | d :: _ => decide (c.1 < d.1)) && Memory.wf r

/-- The byte at an address. -/
def memByte (m : List Host.Cell) (a : Nat) : Byte := fget m a 0#8

/-- Memory without a cell at an address. -/
def memDel (m : List Host.Cell) (a : Nat) : List Host.Cell :=
  match m with
  | [] => []
  | c :: r => if c.1 = a then memDel r a else c :: memDel r a

/-- Memory with byte `v` at address `a`, in canonical form. -/
def memSet (m : List Host.Cell) (a : Nat) (v : Byte) : List Host.Cell :=
  if v = 0#8 then memDel m a else fset m a v

/-- Memory with a byte string from an address on. -/
def memWrite (m : List Host.Cell) (a : Nat) (bs : List Byte) : List Host.Cell :=
  match bs with
  | [] => m
  | b :: r => memWrite (memSet m a b) (a + 1) r

/-- The `n` bytes from an address on. -/
def memRead (m : List Host.Cell) (a n : Nat) : List Byte :=
  match n with
  | 0 => []
  | k + 1 => memByte m a :: memRead m (a + 1) k

/-- The page of a data-port address (R302). -/
def pageOf (a : Nat) : Nat := a / 16384

/-- Note a write to a page: it becomes dirty (R306), and among the pages of P2 the most recently written (R309). -/
def Store.touch (t : Store) (p : Nat) : Store :=
  { t with dirty := nins t.dirty p,
           recency := if 192 ≤ p ∧ p ≤ 703 then p :: t.recency.filter (fun q => q != p) else t.recency }

/-- The pages that `n` bytes from address `a` touch. -/
def spanPages (a n : Nat) : List Nat :=
  if n = 0 then [] else (List.range (pageOf (a + n - 1) + 1 - pageOf a)).map (fun i => pageOf a + i)

/-- A write to working memory by an internal writer or the data port: bytes and dirty pages. -/
def State.writeBytes (s : State) (a : Nat) (bs : List Byte) : State :=
  { s with mem := memWrite s.mem a bs, store := (spanPages a bs.length).foldl Store.touch s.store }

/-- Bytes of working memory as stored. -/
def State.readBytes (s : State) (a n : Nat) : List Byte := memRead s.mem a n

/-! ### Objects (R39 to R43) -/

/-- Keys that hold class C state which no object shows: the cells of R322, the ledger head (R332), the latched fault
(R290), the transfers in transit (R96). They lie above every object key. -/
def hiddenKey (group n : Nat) : Nat := 0x1000000 + group * 0x10000 + n

namespace H
/-- G_LO of a multi-cell value (R322), named by the key of its low half. -/
def cellLo (key : Nat) : Nat := 0x2000000 + key
/-- G_HI of a multi-cell value (R322). -/
def cellHi (key : Nat) : Nat := 0x4000000 + key
/-- RSEQ of the latest record of a source, plus 1; 0 for none (R332). -/
def latestRseq (src : Nat) : Nat := hiddenKey 1 src
/-- Last-stamp tick of the latest record of a source (R332). -/
def latestTick (src : Nat) : Nat := hiddenKey 2 src
/-- 1 while the collector's latched state is kept (R290). -/
def latched : Nat := hiddenKey 3 0
/-- The latching source (R290). -/
def latchSource : Nat := hiddenKey 3 1
/-- Update tag of the split pair at a key, and 1 more than the tick on which it last went up (R53). -/
def tag (key : Nat) : Nat := 0x6000000 + key
def tagTick (key : Nat) : Nat := 0x8000000 + key
/-- Transfers in transit: for slot i, the transfer ID, amount, receiving unit, and send deadline (R96). -/
def xfer (i f : Nat) : Nat := hiddenKey 4 (i * 8 + f)
/-- The card's run number: RUN_SEQ of the latest DONE run (R226). -/
def runSeq : Nat := hiddenKey 3 2
/-- Transfers already added as receiver: sender and ID (R95). -/
def seen (i f : Nat) : Nat := hiddenKey 5 (i * 4 + f)
end H

/-- Default stencil rules (Table 13.12). -/
def ruleDefault (r : Nat) : Nat :=
  if r = 1 then 0xFF5F000012FF1200 else if r = 2 then 0xFF5F000070FF7000
  else if r = 3 then 0xFFF70000FFFF0000 else if r = 4 then 0xFF4F0000FFFF0000 else 0

/-- Default scan list word i, entries 4i to 4i + 3: channels 0 to 183, eight ZERO entries, then 0xFF (Table 6.10). -/
def entriesDefault (i : Nat) : Nat :=
  if i < 46 then 4 * i + 256 * (4 * i + 1) + 65536 * (4 * i + 2) + 16777216 * (4 * i + 3)
  else if i < 48 then 0xF0F0F0F0 else 0xFFFFFFFF

/-- Bases and sizes of the regions (Table 11.1), as pages. -/
def regionPages : List (Nat × Nat) :=
  [(0, 128), (128, 64), (192, 512), (704, 1024), (1728, 512), (2240, 256), (2496, 1600)]

/-- REGION_MAP (0x6006): base of region r at 2r + 1, size at 2r + 2. -/
def regionMap (sub : Nat) : Nat :=
  let p := regionPages.getD ((sub - 1) / 2) (0, 0)
  16384 * (if sub % 2 = 1 then p.1 else p.2)

/-- The Default of an object (R39), with the defaults that its table gives per source, per entry or per rule. -/
def objDefault (key : Nat) : Nat :=
  let index := key / 256
  let sub := key % 256
  if 0x1000000 ≤ key then 0
  else if 0x5000 ≤ index ∧ index < 0x5100 then
    let src := index - 0x5000
    if sub = 0x01 then (if src = 0x70 ∨ src = 0x71 then 1 else 0)
    else if sub = 0x05 then (if 0x58 ≤ src ∧ src ≤ 0x5B then 6 else 4)
    else if sub = 0x06 then (if src = 0x8B then 0 else 1)
    else if sub = 0x07 then (if src = 0x5A then 1 else 0)
    else ((objRow index sub).map ObjRow.dflt).getD 0
  else if (index = 0x3010 ∨ index = 0x3011) ∧ 1 ≤ sub then entriesDefault (sub - 1)
  else if index = 0x1201 ∧ 1 ≤ sub then ruleDefault sub
  else if index = 0x6006 ∧ 1 ≤ sub then regionMap sub
  else ((objRow index sub).map ObjRow.dflt).getD 0

/-- The value of an object as held; an object never written holds its Default. -/
def State.obj (s : State) (key : Nat) : Nat :=
  match flook s.objs key with
  | some v => v
  | none => objDefault key

/-- The value of an I32 object. -/
def State.objI (s : State) (key : Nat) : Int := signedOf 32 (s.obj key)

/-- The value of an I16 object. -/
def State.objI16 (s : State) (key : Nat) : Int := signedOf 16 (s.obj key)

/-- A BOOL object. -/
def State.objB (s : State) (key : Nat) : Bool := s.obj key != 0

/-- The class of the value at a key (Table 2.2); the hidden keys are class C, but for the update tags of split pairs (R53), which are live. -/
def keyClass (key : Nat) : PClass :=
  if 0x6000000 ≤ key then .l else if 0x1000000 ≤ key then .c else ((objRowOfKey key).map ObjRow.cls).getD .l

/-- Is the value at a key part of the ledger head (R332)? -/
def ledgerHeadKey (key : Nat) : Bool :=
  key == K.NEXT_RSEQ || key == K.OLDEST_RSEQ || key == K.FF_BASE || key == H.cellLo K.HANDED || key == H.cellHi K.HANDED
  || key == H.cellLo K.ENTERED || key == H.cellHi K.ENTERED || key == H.cellLo K.RETIRED || key == H.cellHi K.RETIRED
  || key == H.cellLo K.WINDOW_COUNT || key == H.cellHi K.WINDOW_COUNT
  || (decide (hiddenKey 1 0 ≤ key) && decide (key < hiddenKey 3 0))

/-- The page in which the class P or class C value at a key lives: page 128 for operating time and POWER_CYCLES (R303),
page 129 for the ledger head (R332), pages 129 to 143 for other class C values, pages 3 to 63 of the settings area in use
for class P values (R386). The place inside is open (Config.objectPlace). -/
def homePage (area key : Nat) : Nat :=
  if key = K.POWER_CYCLES ∨ key = H.cellLo K.OP_TIME_LO ∨ key = H.cellHi K.OP_TIME_LO then 128
  else if ledgerHeadKey key then 129
  else match keyClass key with
    | .c => 129 + Config.objectPlace key % 15
    | _ => 64 * area + 3 + Config.objectPlace key % 61

/-- The settings area of the running image (R386), as the activation record names it. -/
def State.area (s : State) : Nat := s.activeArea

/-- Set a class L or V value. -/
def State.setLive (s : State) (key v : Nat) : State := { s with objs := fset s.objs key v }

/-- Set a class P or C value: working memory changes, so its page becomes dirty (R43, R306). -/
def State.setPers (s : State) (key v : Nat) : State :=
  { s with objs := fset s.objs key v, store := s.store.touch (homePage s.area key) }

/-- Set a value of any class. -/
def State.setPersOr (s : State) (key v : Nat) : State :=
  match keyClass key with
  | .p => s.setPers key v
  | .c => s.setPers key v
  | .l => s.setLive key v
  | .v => s.setLive key v

/-- Add 1 to a class C counter that saturates. -/
def State.bump (s : State) (key : Nat) : State := s.setPers key (sat32 (s.obj key + 1))

/-- Add to a class C counter that saturates; nothing is written for 0. -/
def State.addCount (s : State) (key n : Nat) : State := if n = 0 then s else s.setPers key (sat32 (s.obj key + n))

/-- Add 1 to a class L counter that saturates. -/
def State.bumpLive (s : State) (key : Nat) : State := s.setLive key (sat32 (s.obj key + 1))

/-! ### Multi-cell values (R322) -/

/-- G_LO as one number: LO in bits 31:0, CARRY in bit 32, PARITY in bit 33. -/
def groupLo (lo : Nat) (carry : Bool) (parity : Nat) : Nat := lo + 2 ^ 32 * b2n carry + 2 ^ 33 * (parity % 2)

/-- The value that the recovery rule forms from the two groups, without writing (R322). -/
def cellsValue (gLo hi : Nat) : Nat :=
  let hi' := if nbit gLo 32 && (hi % 2 == gLo / 2 ^ 33 % 2) then (hi + 1) % 2 ^ 32 else hi
  gLo % 2 ^ 32 + 2 ^ 32 * hi'

/-- The value of a multi-cell counter named by its key (R322). -/
def State.wide (s : State) (key : Nat) : Nat := cellsValue (s.obj (H.cellLo key)) (s.obj (H.cellHi key))

/-- The quantity of a split pair changes on this tick: its update tag goes up, once a tick (R53). -/
def State.noteTag (s : State) (key : Nat) : State :=
  if s.obj (H.tagTick key) = s.fab.tick + 1 then s
  else (s.setLive (H.tag key) ((s.obj (H.tag key) + 1) % 2 ^ 16)).setLive (H.tagTick key) (s.fab.tick + 1)

/-- The next step of a carry (R322): step 2 writes G_HI, step 3 clears CARRY. -/
def State.carryStep (s : State) (c : Nat × Bool) : State :=
  if c.2 then s.setPers (H.cellLo c.1) (groupLo (s.obj (H.cellLo c.1) % 2 ^ 32) false 0)
  else s.setPers (H.cellHi c.1) ((s.obj (H.cellHi c.1) + 1) % 2 ^ 32)

/-- One step of every carry in progress. -/
def State.carrySteps (s : State) : State :=
  let s1 := s.store.carries.foldl State.carryStep s
  { s1 with store := { s1.store with
    carries := (s.store.carries.filter (fun c => !c.2)).map (fun c => (c.1, true)) } }

/-- A carry in progress is finished before the value is written again. -/
def State.finishCarry (s : State) (key : Nat) : State :=
  match s.store.carries.find? (fun c => c.1 == key) with
  | none => s
  | some c =>
    let s1 := if c.2 then s else s.carryStep c
    let s2 := s1.carryStep (key, true)
    { s2 with store := { s2.store with carries := s2.store.carries.filter (fun x => x.1 != key) } }

/-- Add to G_HI alone: what of an addition lies above 32 bits (procedure add takes at most 32 bits: notes/assumptions/98.md). -/
def State.addHigh (s : State) (key d : Nat) : State :=
  if d = 0 then s else s.setPers (H.cellHi key) ((s.obj (H.cellHi key) + d) % 2 ^ 32)

/-- procedure add(d) of R322: the one-group write, or step 1 of a carry, whose other two steps follow on the next two ticks. -/
def State.wideAdd (s0 : State) (key d : Nat) : State :=
  let s := ((if d = 0 then s0 else s0.noteTag key).finishCarry key).addHigh key (d / 2 ^ 32)
  let v := s.obj (H.cellLo key) % 2 ^ 32 + d % 2 ^ 32
  if v < 2 ^ 32 then s.setPers (H.cellLo key) (groupLo v false 0)
  else
    let s1 := s.setPers (H.cellLo key) (groupLo (v - 2 ^ 32) true (s.obj (H.cellHi key)))
    { s1 with store := { s1.store with carries := s1.store.carries ++ [(key, false)] } }

/-- Both groups of a wide value set in one paired write (R332). -/
def State.wideSet (s0 : State) (key v : Nat) : State :=
  let s := s0.finishCarry key
  (s.setPers (H.cellLo key) (groupLo (v % 2 ^ 32) false 0)).setPers (H.cellHi key) (v / 2 ^ 32 % 2 ^ 32)

/-! ### Time (R3, R4, R13 to R17) -/

/-- Ticks in a number of microseconds. -/
def usTicks (us : Nat) : Nat := us * 200

/-- The offset now, saturating at 0xFFFFFFFF (R17). -/
def State.offset (s : State) : Nat := sat32 (s.fab.tick - s.fab.edgeTick).toNat

/-- The stamp of this tick (R14). -/
def State.now (s : State) : Stamp := ⟨s.fab.count, s.offset, s.fab.tick⟩

/-- The recorded edge tick of beat n (R13). -/
def edgeOf (edges : List (Count × Int)) (n : Count) : Option Int :=
  match edges with
  | [] => none
  | e :: r => if e.1 = n then some e.2 else edgeOf r n

/-- The tick to which "beat n + k" resolves, once the edge of beat n is recorded (R13, R15). An operation that waits for it keeps its
edge, however many beats follow (R4). -/
def State.resolve (s : State) (n : Count) (k : Nat) : Option Nat := (edgeOf (s.fab.edges ++ s.fab.kept) n).map (fun t => (t + Int.ofNat k).toNat)

/-- Is the time "beat n + k" past (R16)? Cases 1, 3 and 4 are a beat that compares as earlier and has no recorded edge
within 1,023 beats; case 2 is a recorded edge whose resolved tick has gone by. -/
def State.isPast (s : State) (n : Count) (k : Nat) : Bool :=
  if countEarlier n s.fab.count && decide (1023 < (s.fab.count - n).toNat) then true
  else match s.resolve n k with
    | some t => decide (t < s.fab.tick)
    | none => countEarlier n s.fab.count

/-- Has the time "beat n + k" been reached? -/
def State.reached (s : State) (n : Count) (k : Nat) : Bool :=
  match s.resolve n k with
  | some t => decide (t ≤ s.fab.tick)
  | none => false

/-- The stamp of an earlier or later tick on the present timeline: the latest recorded edge at or before it (R14). -/
def stampAt (edges : List (Count × Int)) (t : Nat) : Stamp :=
  match edges with
  | [] => ⟨0, sat32 t, t⟩
  | [e] => ⟨e.1, sat32 (t - e.2).toNat, t⟩
  | e :: r => if e.2 ≤ t then ⟨e.1, sat32 (t - e.2).toNat, t⟩ else stampAt r t

/-- The stamp of tick t. -/
def State.stampOf (s : State) (t : Nat) : Stamp := stampAt s.fab.edges t

/-! ### Messages (R279, R297) -/

/-- Send a fault message stamped `st` to the collector. Under freeze it waits for the first clocked tick, and is stamped with that (R297). -/
def State.raiseAt (s : State) (src kind addr : Nat) (st : Stamp) : State :=
  if s.frozen.isSome then { s with coll := { s.coll with held := s.coll.held ++ [(src, kind, addr)] } }
  else { s with coll := { s.coll with inflight := s.coll.inflight ++ [⟨src, kind, addr, false, st⟩] } }

/-- Raise a kind on a source, stamped with this tick. -/
def State.raise (s : State) (src kind addr : Nat) : State := s.raiseAt src kind addr s.now

/-! ### Management cores -/

/-- Do the management cores run (R28, R314, Table 15.6)? -/
def State.coresUp (s : State) : Bool := s.cores.hold.isNone && s.frozen.isNone

/-! ### Shared lanes (R18 to R24) -/

/-- The order of R20: highest effective level, earliest posting tick, lowest target code. -/
def LaneReq.before (a b : LaneReq) : Bool :=
  decide (a.eff < b.eff) || (a.eff == b.eff && (decide (a.posted < b.posted)
    || (a.posted == b.posted && decide (a.target < b.target))))

/-- Post a request for a shared lane. -/
def State.postLane (s : State) (kind : LaneKind) (base target ref : Nat) (mask : Nat) (pages : List Nat) : State :=
  { s with lanes := { s.lanes with queue := s.lanes.queue ++ [{
      kind := kind, base := base, eff := base, target := target, ref := ref, mask := mask, pages := pages,
      posted := s.fab.tick, denials := 0, promoted := false, waitCounted := false }] } }

/-- Numbers of the shared lanes. -/
def sharedLanes : List Nat := (List.range 64).map (fun i => 64 + i)

/-- Is a shared lane free? A lane on its way to a pre-empting request is not. -/
def Lanes.isFree (l : Lanes) (n : Nat) : Bool := !(fhas l.shared n) && !(l.handovers.any (fun h => h.lane == n))

/-- The lowest-numbered free shared lane (R20). -/
def Lanes.lowestFree (l : Lanes) : Option Nat := sharedLanes.find? (fun n => l.isFree n)

/-- Shared lanes free at this tick (0x2810.03). -/
def Lanes.freeCount (l : Lanes) : Nat := (sharedLanes.filter (fun n => l.isFree n)).length

/-- The waiting request that is granted next (R20). -/
def Lanes.best (l : Lanes) : Option LaneReq := leastBy LaneReq.before l.queue

/-- The queue without one request. -/
def dropReq (q : List LaneReq) (r : LaneReq) : List LaneReq := q.erase r

/-- Count a denial of every waiting request of levels 3 and 4, and promote once at PROMOTE_DENIALS (R21). -/
def denyOne (limit : Nat) (r : LaneReq) : LaneReq :=
  if r.base < 3 then r
  else
    let d := r.denials + 1
    if limit ≤ d ∧ r.promoted = false then { r with denials := d, promoted := true, eff := r.eff - 1 }
    else { r with denials := d }

/-- How many requests a denial promotes. -/
def promotions (limit : Nat) (q : List LaneReq) : Nat :=
  (q.filter (fun r => !r.promoted && (denyOne limit r).promoted)).length

/-- Put a request's operation on a lane, counting a denial for every other waiting request (R20, R21). -/
def State.placeOnLane (s : State) (lane : Nat) (r : LaneReq) : State :=
  let q := dropReq s.lanes.queue r
  let limit := s.obj K.PROMOTE_DENIALS
  let op : LaneOp := { kind := r.kind, base := r.base, eff := r.eff, target := r.target, ref := r.ref,
                       posted := r.posted, granted := s.fab.tick, order := s.lanes.grants, denials := r.denials }
  let s1 := s.setLive K.PROMOTIONS (sat32 (s.obj K.PROMOTIONS + promotions limit q))
  { s1 with lanes := { s1.lanes with shared := fset s1.lanes.shared lane op, queue := q.map (denyOne limit),
                                     grants := s1.lanes.grants + 1, lastGrant := s1.fab.tick } }

/-- The shared lane that holds the operation of a kind and ref. -/
def Lanes.laneOf (l : Lanes) (kind : LaneKind) (ref : Nat) : Option Nat :=
  (l.shared.find? (fun p => p.2.kind == kind && p.2.ref == ref)).map Prod.fst

/-- Is a request of a kind and ref waiting, for a lane or for a lane's hand-over? -/
def Lanes.queued (l : Lanes) (kind : LaneKind) (ref : Nat) : Bool :=
  l.queue.any (fun r => r.kind == kind && r.ref == ref) || l.handovers.any (fun h => h.req.kind == kind && h.req.ref == ref)

/-- Release a shared lane. -/
def State.freeLane (s : State) (lane : Nat) : State :=
  { s with lanes := { s.lanes with shared := fdel s.lanes.shared lane } }

/-- Release the shared lane of a kind and ref, if it holds one, and withdraw its request, if it waits. -/
def State.freeLaneOf (s : State) (kind : LaneKind) (ref : Nat) : State :=
  let s1 := match s.lanes.laneOf kind ref with
    | some n => s.freeLane n
    | none => s
  { s1 with lanes := { s1.lanes with
    queue := s1.lanes.queue.filter (fun r => !(r.kind == kind && r.ref == ref)),
    handovers := s1.lanes.handovers.filter (fun h => !(h.req.kind == kind && h.req.ref == ref)) } }

/-! ### Rail lanes (R18, R19) -/

/-- Put an operation on rail lane n. A request of a higher level replaces the running operation (R19); the caller has
checked the levels. -/
def State.takeRailLane (s : State) (n : Nat) (kind : LaneKind) (base : Nat) : State :=
  let op : LaneOp := { kind := kind, base := base, eff := base, target := n, ref := n, posted := s.fab.tick,
                       granted := s.fab.tick, order := 0, denials := 0 }
  { s with lanes := { s.lanes with rail := fset s.lanes.rail n op } }

/-- Free rail lane n if it holds an operation of the kind. -/
def State.freeRailLane (s : State) (n : Nat) (kind : LaneKind) : State :=
  match flook s.lanes.rail n with
  | some op => if op.kind = kind then { s with lanes := { s.lanes with rail := fdel s.lanes.rail n } } else s
  | none => s

/-- May an operation of a level take rail lane n now: the lane is free, or holds one of a lower level (R19)? -/
def State.railLaneOpen (s : State) (n base : Nat) : Bool :=
  match flook s.lanes.rail n with
  | some op => decide (base < op.eff)
  | none => true

/-- KIND code of LANE_STATUS (Table 1.7). -/
def LaneKind.code : LaneKind → Nat
  | .ramp => 1 | .discharge => 2 | .margin => 3 | .stipple => 4 | .capture => 5 | .etch => 6 | .pmbus => 7 | .cal => 8
  | .scrub => 9

/-- LANE_STATUS word of an operation (R26). -/
def LaneOp.status (o : LaneOp) : Nat :=
  2 ^ 31 + o.base * 2 ^ 28 + o.eff * 2 ^ 25 + o.kind.code * 2 ^ 21 + o.target % 256

/-- LANE_STATUS of lane l (R26); an idle lane reads 0. -/
def Lanes.status (l : Lanes) (lane : Nat) : Nat :=
  match (if lane < 64 then flook l.rail lane else flook l.shared lane) with
  | some o => o.status
  | none => 0

/-! ### Ports -/

/-- Port number 0 to 2. -/
def portNum : Port → Nat
  | .h0 => 0 | .h1 => 1 | .h2 => 2

/-- Fault source of a port (0x78 to 0x7A). -/
def portSource (p : Nat) : Nat := 0x78 + p

end Sys2Proof.Machine
end

