-- ==== Sys2Proof/Machine/Operands.lean ====
section
/-! DEFINITION. Operand forms: physical values of channels and thresholds (R135, R136, R161), scan entries (R162), and the
fields of objects that commands read. -/

namespace Sys2Proof.Machine

/-- Differential channels (R168). -/
def isDiff (c : Nat) : Bool := decide (c < 64) || (decide (132 ≤ c) && decide (c ≤ 135)) || c == 142

/-- The current of R136 in counts of 100 µA from an ISNS voltage in counts of 10 µV. -/
def isnsCurrent (z0 gain x : Int) : Int := tdiv ((x - z0) * 100000) gain

/-- The LSB of a rail voltage channel in counts of 10 µV, by SENSE_RANGE (Table 6.1). -/
def railLsb (range : Nat) : Int := if range = 0 then 4 else if range = 1 then 8 else if range = 2 then 16 else 64

/-- The value of a scan or channel setting: its Default until the end of start-up, then as held (R170). -/
def State.chanObj (s : State) (key : Nat) : Nat := if s.phase = .cores then objDefault key else s.obj key

/-- A signed setting likewise. -/
def State.chanObjI (s : State) (key : Nat) : Int := signedOf 32 (s.chanObj key)
def State.chanObjI16 (s : State) (key : Nat) : Int := signedOf 16 (s.chanObj key)

/-- The physical value of a channel's code (R161, Table 6.1), in the unit of VALUE. -/
def State.physical (s : State) (c : Nat) (code : Int) (signed : Bool) : Int :=
  let sc := if signed then code else code - 32768
  if c < 64 then sc * railLsb (s.chanObj (K.SENSE_RANGE c))
  else if c < 128 then
    isnsCurrent (s.chanObjI (K.ISNS_ZERO (c - 64))) (Int.ofNat (s.chanObj (K.ISNS_GAIN (c - 64)))) (code * 4)
  else if c < 132 then code * 125
  else if c < 134 then sc
  else if c < 136 then sc * 64
  else if c < 138 then code * 125
  else if c = 138 then code * 32
  else if c = 139 then code * 8
  else if c = 140 then code * 32
  else if c = 141 then code
  else if c = 142 then sc * 4
  else if c = 143 then code * 20
  else if c < 176 then
    tdiv ((code * 4 - s.chanObjI (K.TEMP_ZERO c)) * 1000) (Int.ofNat (s.chanObj (K.TEMP_SLOPE c)))
  else if c = 177 then code
  else if c < 181 then code * 4
  else tdiv (code * 25) 64 - 6400

/-- Is FORMAT of a channel signed (R168)? -/
def State.isSigned (s : State) (c : Nat) : Bool := s.chanObj (K.FORMAT c) == 1

/-- A byte of a scan list: entry `pos` of bank `b` (R162). -/
def State.scanEntry (s : State) (b pos : Nat) : Nat :=
  (s.chanObj (if b = 0 then K.ENTRIES_A (pos / 4) else K.ENTRIES_B (pos / 4))) / 256 ^ (pos % 4) % 256

/-- Length of a scan bank. -/
def State.scanLen (s : State) (b : Nat) : Nat := s.chanObj (if b = 0 then K.LEN_A else K.LEN_B)

/-- Entries 0 to LEN − 1 of a bank. -/
def State.scanEntries (s : State) (b : Nat) : List Nat := (List.range (s.scanLen b)).map (s.scanEntry b)

/-- Threshold step s of Table 5.2, in counts of 10 µV. -/
def senseStep (range : Nat) : Nat := if range = 0 then 100 else if range = 1 then 200 else if range = 2 then 400 else 1600

/-- The code of a voltage threshold (R135). -/
def voltCode (range v : Nat) : Nat := (2 * v + senseStep range) / (2 * senseStep range)

/-- The ISNS voltage of an OC_LEVEL (R136), in counts of 10 µV. -/
def ocVolt (z0 gain i : Nat) : Nat := z0 + i * gain / 100000

/-- The OC code (R136). -/
def ocCode (z0 gain i : Nat) : Nat := (2 * ocVolt z0 gain i + 200) / 400

/-- The rail of a Fin 64 as a number. -/
abbrev railNo (n : Fin 64) : Nat := n.val

end Sys2Proof.Machine
end

