-- ==== Sys2Proof/Machine/StoreOps.lean ====
section
/-! DEFINITION. Store operations that other blocks use: posting an etch (R308, R311), the auto-etch timer, hold-up energy
(R313, R317). -/

namespace Sys2Proof.Machine

/-- On reserve: input is not good, or the YB6400 runs from VHU (before R313). -/
def State.onReserve (s : State) : Bool := !s.input.good || s.input.onVhu

/-- Whether VIO is absent while the device runs, as it may be on reserve: its outputs are high impedance, and its VIO-domain inputs read high
(R431, R432). -/
def State.vioGone (s : State) : Bool := s.phase != .off && !s.supplies

/-- Scope mask bits: P0 and P1, P2, P3, P4, P5, P6 (0x6002.02). -/
def scopeP01 : Nat := 1
def scopeP2 : Nat := 2
def scopeP3 : Nat := 4
def scopeAll : Nat := 63

/-- Level of an etch cause (Table 11.4). -/
def etchLevel (cause : Nat) : Nat := if cause = 1 ∨ cause = 2 then 2 else if cause = 6 then 4 else 0

/-- Union of two page lists. -/
def unionPages (a b : List Nat) : List Nat := b.foldl nins a

/-- Does a level 0 or power-fail request end the running etch (R311)? -/
def Etch.endedBy (e : Etch) (cause : Nat) : Bool :=
  cause == 4 || (etchLevel cause == 0 && decide (2 ≤ e.base))

/-- Stop the running etch: after its page in flight (R311), or at once if it has not started a page (DEDUCED: an etch in
STARTING has no page in flight). -/
def State.stopEtch (s : State) (vhu : Bool) : State :=
  match s.store.etch with
  | some e =>
    if e.phase = .starting then ({ s with store := { s.store with etch := none } }).freeLane e.lane
    else { s with store := { s.store with etch := some { e with phase := .stopping, vhuStop := vhu || e.vhuStop } } }
  | none => s

/-- An etch request that takes in the scope of a later post of its cause (R308). -/
def LaneReq.joinEtch (r : LaneReq) (cause mask : Nat) (pages : List Nat) : LaneReq :=
  if r.kind = .etch ∧ r.ref = cause then { r with mask := r.mask ||| mask, pages := unionPages r.pages pages } else r

/-- Merge a post into the waiting request of its cause, if there is one (R308). -/
def State.mergeEtch (s : State) (cause mask : Nat) (pages : List Nat) : Option State :=
  if s.lanes.queued .etch cause then
    some { s with lanes := { s.lanes with
      queue := s.lanes.queue.map (fun r => r.joinEtch cause mask pages),
      handovers := s.lanes.handovers.map (fun h : Handover => { h with req := h.req.joinEtch cause mask pages }) } }
  else if s.store.waiting.any (fun w => w.cause == cause) then
    some { s with store := { s.store with waiting := s.store.waiting.map (fun w =>
      if w.cause = cause then { w with mask := w.mask ||| mask, pages := unionPages w.pages pages } else w) } }
  else none

/-- Post an etch request (R308). Waiting requests of the same cause merge into one (R311). -/
def State.postEtch (s : State) (cause mask : Nat) (pages : List Nat) : State :=
  let s1 := (s.mergeEtch cause mask pages).getD (s.postLane .etch (etchLevel cause) 0x60 cause mask pages)
  match s1.store.etch with
  | some e => if e.endedBy cause then s1.stopEtch false else s1
  | none => s1

/-- Start the auto-etch timer if it does not run (R306, R308). -/
def State.startAutoTimer (s : State) : State :=
  { s with store := { s.store with autoFrom := some (s.store.autoFrom.getD s.fab.tick) } }

/-- QUICK_VALUE of quick converter q, in counts of 10 µV. -/
def State.quick (s : State) (q : Nat) : Nat := s.obj (K.QUICK_VALUE q)

/-- HU_CAP_USE (R317). -/
def State.huCapUse (s : State) : Nat :=
  if s.obj K.HU_CAP_MEAS = 0 then s.obj K.HU_CAP else min (s.obj K.HU_CAP) (s.obj K.HU_CAP_MEAS)

/-- E_AVAIL (R313), in µJ. -/
def energyAvail (cap v : Nat) : Nat :=
  if v ≤ 1600000 then 0 else 85 * cap * (v * v - 1600000 * 1600000) / (2 * 10 ^ 12)

/-- E_AVAIL on the latest quick result. -/
def State.eAvail (s : State) : Nat := energyAvail s.huCapUse (s.quick 3)

/-- PAGE_COST (0x6003.04): fixed per part, 140 to 180 µJ. -/
def pageCost : Nat := 140 + Config.pageCostAbove140 % 41

/-- ETCH_FIXED (0x6003.05). -/
def etchFixed : Nat := 20000

/-- Pages that an etch admitted on reserve may write (R313). -/
def State.pagesAdmitted (s : State) : Int :=
  Int.fdiv (Int.ofNat s.eAvail - Int.ofNat (s.obj K.ETCH_MARGIN) - Int.ofNat etchFixed) (Int.ofNat pageCost)

/-- Is a page in a scope (Table 11.1, Table 11.4)? -/
def inScope (mask : Nat) (pages : List Nat) (p : Nat) : Bool :=
  pages.contains p
  || (nbit mask 0 && decide (p < 192)) || (nbit mask 1 && decide (192 ≤ p ∧ p < 704))
  || (nbit mask 2 && decide (704 ≤ p ∧ p < 1728)) || (nbit mask 3 && decide (1728 ≤ p ∧ p < 2240))
  || (nbit mask 4 && decide (2240 ≤ p ∧ p < 2496)) || (nbit mask 5 && decide (2496 ≤ p ∧ p < 4096))

/-- Dirty pages of P0 and P1. -/
def Store.dirtyBlock (t : Store) : List Nat := t.dirty.filter (fun p => decide (p < 192))

end Sys2Proof.Machine
end

