-- ==== Sys2Proof/Machine/Ring.lean ====
section
/-! DEFINITION. The capture ring (R187 to R192, Tables 6.7 and 6.8) and what its triggers start. -/

namespace Sys2Proof.Machine

/-- Data-port address of the ring page with a sequence number (R187): page 704 + PAGE_SEQ mod 1,024. -/
def ringPageAddr (seq : Nat) : Nat := 16384 * (704 + seq % 1024)

/-- Data-port address of a place: a code of a ring page, of the 8,128 that it holds (R187). -/
def ringCellAddr (p : Nat × Nat) : Nat := ringPageAddr p.1 + 128 + 2 * (p.2 % 8128)

/-- Bits of FORMAT_MAP: bit c is 1 for a FORMAT 0x01 channel. -/
def State.formatMap (s : State) : Nat :=
  (List.range 184).foldl (fun m c => if s.isSigned c then m + 2 ^ c else m) 0

/-- LIST_CRC: the CRC-32C of the active bank's entries (Table 6.7). -/
def State.listCrc (s : State) (b : Nat) : Nat := (crc32c ((s.scanEntries b).map (BitVec.ofNat 8))).toNat

/-- The URGENT entries of a page header, 12 words. -/
def urgentWords (us : List (Nat × Nat)) : List Byte :=
  ((List.range 12).map (fun i => match us[i]? with
    | some u => leBytes 4 (u.1 * 65536 + u.2)
    | none => leBytes 4 0)).flatten

/-- Bytes 0 to 123 of a page header (Table 6.7). -/
def RingPage.header (p : RingPage) (trigBeat trigOffset trigSource trigAddr : Nat) : List Byte :=
  let flags := b2n (p.bank != 0) + 2 * b2n p.gang.isSome + 4 * b2n p.trig + 8 * b2n p.last
  let g := p.gang.getD (0, 0, [])
  packLE [(4, p.seq), (4, p.stamp.beat.toNat), (4, p.stamp.offset), (8, p.stamp.tick), (2, p.count),
    (2, p.listPos.getD 0), (2, p.listLen), (1, flags), (1, g.1), (1, g.2.1), (1, p.phase.getD 0),
    (1, p.urgents.length), (1, 0)]
  ++ ((List.range 4).map (fun i => BitVec.ofNat 8 (g.2.2.getD i 0)))
  ++ leBytes 4 p.listCrc ++ urgentWords p.urgents ++ leBytes 24 p.formatMap
  ++ (if p.last then packLE [(4, trigBeat), (4, trigOffset), (1, trigSource), (3, trigAddr)] else leBytes 12 0)

/-- Write a page's header as it stands: every field, and the CRC over bytes 0 to 123 and 128 to 16,383. -/
def State.writeRingHeader (s : State) (p : RingPage) : State :=
  let a := ringPageAddr p.seq
  let tail := List.replicate (2 * (8128 - p.count)) 0#8
  let s1 := s.writeBytes (a + 128 + 2 * p.count) tail
  let h := p.header (s.obj K.TRIG_BEAT) (s.obj K.TRIG_OFFSET) (s.obj K.TRIG_SOURCE) (s.obj K.TRIG_ADDR)
  let crc := (crc32c (h ++ s1.readBytes (a + 128) 16256)).toNat
  s1.writeBytes a (h ++ leBytes 4 crc)

/-- The tick after a page's last slot. -/
def RingPage.endTick (p : RingPage) : Nat := p.stamp.tick + p.count

/-- Close the open page (R188). Its header is written once its last results have arrived. -/
def State.closeRingPage (s : State) : State :=
  match s.ring.opened with
  | none => s
  | some p =>
    let s1 := { s with ring := { s.ring with opened := none, closing := s.ring.closing ++ [p] } }
    s1.setLive K.LAST_SEQ p.seq

/-- Pages that are closed and whose samples have all arrived, gang samples that wait for a neighbour among them, get their header and CRC. Until the ring freezes, a page stays at hand for 64
ticks, so that a trigger stamped in it still finds it. -/
def State.finishRingPages (s : State) : State :=
  let done := s.ring.closing.filter (fun p => (s.ring.state == .frozen || decide (p.endTick + 64 ≤ s.fab.tick))
    && !(s.conv.inflight.any (fun x => x.page.any (fun q => q.1 == p.seq)))
    && !((s.cap.waiting ++ s.cap.old.flatMap GangRun.waiting).any (fun g => g.page.any (fun q => q.1 == p.seq))))
  let s1 := { s with ring := { s.ring with closing := s.ring.closing.filter (fun p => !done.contains p) } }
  done.foldl State.writeRingHeader s1

/-- Ring page i, if it is still being written, gets the header that it has now, for its snapshot (R191). -/
def State.flushRingPage (s : State) (i : Nat) : State :=
  ((s.ring.closing ++ s.ring.opened.toList).filter (fun p => p.seq % 1024 == i)).foldl State.writeRingHeader s

/-- Is a gang running on the slot of tick t (R160, R177)? -/
def Capture.gangAt (c : Capture) (t : Nat) : Bool :=
  c.state == .running && !c.ended && decide (c.t0 ≤ t) && decide (t < c.t0 + (c.samples - 1) * (16 / c.g) + 1)

/-- Open a ring page on the slot of tick t. -/
def State.openRingPage (s : State) (t : Nat) : State :=
  let gang := if s.cap.gangAt t then some (s.cap.g, s.cap.k, s.cap.chs) else none
  let p : RingPage := {
    seq := s.ring.nextSeq, stamp := s.stampOf t, count := 0, listPos := none,
    listLen := s.scanLen s.conv.bank, bank := s.conv.bank, last := false, trig := false, gang := gang, phase := none,
    urgents := [], formatMap := s.formatMap, listCrc := s.listCrc s.conv.bank }
  let first := s.obj K.FIRST_SEQ
  let age := u32Sub s.ring.nextSeq first
  let s1 := if 1024 ≤ age ∧ age < 2 ^ 31 then s.setLive K.FIRST_SEQ (u32Sub s.ring.nextSeq 1023) else s
  { s1 with ring := { s1.ring with opened := some p, nextSeq := (s1.ring.nextSeq + 1) % 2 ^ 32 } }

/-- Does the ring record the slot of tick t (R187)? -/
def Ring.records (r : Ring) (t : Nat) : Bool :=
  r.started && (r.state == .running || (r.state == .triggered && decide (t < r.freezeTick)))

/-- Record the slot of tick t in the open page, closing and opening pages as R188 states, and give its place. -/
def State.ringPlace (s : State) (t : Nat) (use : SlotUse) (pos : Nat) : State × Option (Nat × Nat) :=
  if !s.ring.records t then (s, none)
  else
    let gangNow := s.cap.gangAt t
    let full := match s.ring.opened with
      | none => false
      | some p => decide (8128 ≤ p.count) || (p.gang.isSome != gangNow) || p.bank != s.conv.bank
          || (match use with | .urgent _ => decide (12 ≤ p.urgents.length) | _ => false)
    let s1 := if full then s.closeRingPage else s
    let s2 := if s1.ring.opened.isNone then s1.openRingPage t else s1
    match s2.ring.opened with
    | none => (s2, none)
    | some p =>
      let i := p.count
      let holdsTrig := s2.ring.state == .triggered && s2.ring.trigTick == t
      let p1 := { p with
        count := i + 1, trig := p.trig || holdsTrig,
        listPos := match use with | .scan _ => some (p.listPos.getD pos) | .zero => some (p.listPos.getD pos) | _ => p.listPos,
        phase := match use with | .gang k _ => some (p.phase.getD (k % s.cap.k)) | _ => p.phase,
        urgents := match use with | .urgent c => p.urgents ++ [(c, i)] | _ => p.urgents }
      let s3 := { s2 with ring := { s2.ring with opened := some p1 } }
      (if holdsTrig then s3.setLive K.TRIG_SEQ p1.seq else s3, some (p1.seq, i))

/-- Store a corrected code in its ring place (R187), if the place still stands. -/
def State.ringStore (s : State) (place : Option (Nat × Nat)) (code : Nat) : State :=
  match place with
  | none => s
  | some p => s.writeBytes (ringCellAddr p) (leBytes 2 code)

/-- Mark the page that holds a tick with TRIG, and give its sequence number. -/
def markTrig (t : Nat) (ps : List RingPage) : List RingPage :=
  ps.map (fun p => if p.stamp.tick ≤ t ∧ t < p.endTick then { p with trig := true } else p)

/-- Post the captures armed for a ring trigger (R179: at level 0 on the trigger tick, start on the next tick). -/
def State.armOnTrigger (s : State) : State :=
  if s.cap.state = .armed ∧ s.cap.whenMode = 2 ∧ s.cap.startTick = none then
    let c0 := s.cap.chs.headD 0
    let target := if c0 < 128 then c0 % 64 else 0x40
    let s1 := { s with cap := { s.cap with startTick := some (s.fab.tick + 1), level := 0 } }
    s1.postLane .capture 0 target 0 0 []
  else s

/-- Record a trigger in a RUNNING ring (Table 6.8): TRIG_*, the freeze tick, TRIG in its page, and the link of R342. -/
def State.recordTrigger (s : State) (source addr : Nat) (st : Stamp) : State :=
  let s1 := (((s.setLive K.TRIG_BEAT st.beat.toNat).setLive K.TRIG_OFFSET st.offset).setLive K.TRIG_SOURCE source).setLive
    K.TRIG_ADDR addr
  let freeze := st.tick + usTicks (s.obj K.POST_SPAN)
  let pages := s1.ring.closing ++ s1.ring.opened.toList
  let hit := pages.find? (fun p => decide (p.stamp.tick ≤ st.tick) && decide (st.tick < p.endTick))
  let seq := match hit with
    | some p => p.seq
    | none => (s1.ring.opened.map RingPage.seq).getD s1.ring.nextSeq
  let s2 := s1.setLive K.TRIG_SEQ seq
  { s2 with
    ring := { s2.ring with
      state := .triggered, trigTick := st.tick, freezeTick := freeze, closing := markTrig st.tick s2.ring.closing,
      opened := (markTrig st.tick s2.ring.opened.toList).head?, recalled := false, etchSeq := none, etchDone := false },
    ledger := { s2.ledger with link := some freeze } }

/-- Rank of a trigger source among triggers stamped on one tick: lower source first, 0xFD and 0xFE last (R190). -/
def trigRank (source : Nat) : Nat := if source = 0xFD ∨ source = 0xFE then 0x100 + source else source

/-- A trigger that meets a ring already triggered counts as late; of two stamped on one tick, the first in rank stands recorded (R190). -/
def State.lateTrigger (s : State) (source addr : Nat) (st : Stamp) : State :=
  let s1 := if st.tick = s.ring.trigTick ∧ trigRank source < trigRank (s.obj K.TRIG_SOURCE) then
      (s.setLive K.TRIG_SOURCE source).setLive K.TRIG_ADDR addr
    else s
  s1.bumpLive K.LATE_TRIGGERS

/-- A ring trigger (Table 6.8, R189): source, address, stamp. -/
def State.ringTrigger (s : State) (source addr : Nat) (st : Stamp) : State :=
  if !s.ring.started then s
  else match s.ring.state with
  | .running => (s.recordTrigger source addr st).armOnTrigger
  | .triggered => s.lateTrigger source addr st
  | .frozen => s.lateTrigger source addr st

/-- Cut pages at the freeze tick: the last slot recorded is the one before it (Table 6.8). -/
def cutPages (freeze : Nat) (ps : List RingPage) : List RingPage :=
  (ps.filter (fun p => decide (p.stamp.tick < freeze))).map (fun p =>
    if freeze < p.endTick then { p with count := freeze - p.stamp.tick } else p)

/-- Mark the last of a list of pages as LAST. -/
def markLast (ps : List RingPage) : List RingPage :=
  match ps with
  | [] => []
  | [p] => [{ p with last := true }]
  | p :: r => p :: markLast r

/-- A ring place that still stands in a list of pages. -/
def keepPlace (pages : List RingPage) (place : Option (Nat × Nat)) : Option (Nat × Nat) :=
  place.filter (fun q => pages.any (fun p => p.seq == q.1 && decide (q.2 < p.count)))

/-- Freeze the ring at a tick: close the page with LAST and count FREEZES (Table 6.8). -/
def State.freezeRing (s : State) (freeze : Nat) : State :=
  let pages := markLast (cutPages freeze (s.ring.closing ++ s.ring.opened.toList))
  let lastSeq := match pages.getLast? with
    | some p => p.seq
    | none => s.obj K.LAST_SEQ
  let s1 := { s with
    ring := { s.ring with state := .frozen, freezeTick := freeze, opened := none, closing := pages,
                          nextSeq := (lastSeq + 1) % 2 ^ 32, etchSeq := none, etchDone := false },
    conv := { s.conv with inflight := s.conv.inflight.map (fun x : Slot => { x with page := keepPlace pages x.page }) },
    cap := { s.cap with waiting := s.cap.waiting.map (fun g : GangSample => { g with page := keepPlace pages g.page }) } }
  let st := s1.stampOf freeze
  (((s1.setLive K.LAST_SEQ lastSeq).setLive K.FREEZE_BEAT st.beat.toNat).setLive K.FREEZE_OFFSET st.offset).bump K.RING_FREEZES

/-- End a running capture (Table 6.6) with flags of CAP_FLAGS (Table 6.15); its lane is freed and its positions return
to scan. Results of its slots in flight are still stored. -/
def State.endCapture (s : State) (flags : Nat) : State :=
  let s1 := { s with cap := { s.cap with
    state := if s.cap.orphan then .idle else .done, owner := if s.cap.orphan then .none else s.cap.owner, ended := true } }
  (s1.setLive K.CAP_FLAGS (s1.obj K.CAP_FLAGS ||| flags)).freeLaneOf .capture 0

/-- Post a power-fail etch request (R314, R191): none while one waits or runs. The ring freezes on this tick, recording a
trigger of source 0xFD if it was RUNNING, or counting it as late beside a trigger of this tick (R190); a running capture ends
truncated. -/
def State.postPowerFail (s : State) : State :=
  let busy := s.lanes.queued .etch 4 || s.store.waiting.any (fun w => w.cause == 4)
    || s.store.etch.any (fun e => e.cause == 4)
  if busy then s
  else
    let s1 := if s.ring.started && s.ring.state == .running then
        (s.recordTrigger 0xFD 0 s.now).freezeRing s.fab.tick
      else if s.ring.started && s.ring.state == .triggered then
        (if s.ring.trigTick = s.fab.tick then s.bumpLive K.LATE_TRIGGERS else s).freezeRing s.fab.tick
      else s
    let s2 := if s1.ring.started && s1.ring.state == .frozen then
        { s1 with ledger := { s1.ledger with link := s1.ledger.link.map (fun _ => s1.ring.freezeTick) } }
      else s1
    let s3 := if s2.cap.state = .running then s2.endCapture 2 else s2
    s3.postEtch 4 scopeAll []

/-- Are ring pages etching: an etch with P3 in scope runs or waits? -/
def State.ringEtching (s : State) : Bool :=
  s.store.etch.any (fun e => nbit e.mask 2 && (e.phase == .starting
    || (e.todo ++ e.block).any (fun p => decide (704 ≤ p) && decide (p < 1728))))
  || s.store.waiting.any (fun w => nbit w.mask 2) || s.lanes.queue.any (fun r => r.kind == .etch && nbit r.mask 2)
  || s.lanes.handovers.any (fun h => h.req.kind == .etch && nbit h.req.mask 2)

/-- Return a FROZEN ring to RUNNING: a new page with PAGE_SEQ := LAST_SEQ + 1, FIRST_SEQ := LAST_SEQ + 1 (Table 6.8). The
link of R342 ends here. -/
def State.rearmRing (s : State) : State :=
  let seq := (s.obj K.LAST_SEQ + 1) % 2 ^ 32
  let s1 := s.setLive K.FIRST_SEQ seq
  { s1 with ring := { s1.ring with state := .running, nextSeq := seq, opened := none, recalled := false, etchSeq := none, etchDone := false },
            ledger := { s1.ledger with link := none } }

/-- The order in which ring pages go to the etch (R191), among the dirty pages of P3. -/
def State.ringEtchOrder (s : State) (dirty : List Nat) : List Nat :=
  let pageOfSeq (q : Nat) : Nat := 704 + q % 1024
  let lastSeq := match s.ring.opened with
    | some p => p.seq
    | none => s.obj K.LAST_SEQ
  let back := (List.range 1024).map (fun i => u32Sub lastSeq i)
  let order :=
    if s.ring.state = .frozen ∨ s.ring.state = .triggered then
      let trig := s.obj K.TRIG_SEQ
      let n := u32Sub lastSeq trig
      if n < 1024 then
        ((List.range (n + 1)).map (fun i => (trig + i) % 2 ^ 32))
        ++ ((List.range (1023 - n)).map (fun i => u32Sub trig (i + 1)))
      else back
    else back
  (order.map pageOfSeq).filter (fun p => dirty.contains p)

/-- The header of a ring page as stored in P3: PAGE_SEQ, BEAT, OFFSET, COUNT, LAST, TRIG_*, if its CRC matches. -/
structure RingHeader where
  seq : Nat
  beat : Nat
  offset : Nat
  count : Nat
  last : Bool
  trig : Bool
  trigBeat : Nat
  trigOffset : Nat
  trigSource : Nat
  trigAddr : Nat
  deriving DecidableEq, Repr

/-- Read the header of ring page i. A page that was never written, all 0x00, has no valid header. -/
def State.readRingHeader (s : State) (i : Nat) : Option RingHeader :=
  let a := 16384 * (704 + i)
  let bs := s.readBytes a 16384
  let crc := (crc32c (bs.take 124 ++ bs.drop 128)).toNat
  if leAt bs 124 4 = crc ∧ 1 ≤ leAt bs 20 2 ∧ leAt bs 0 4 % 1024 = i then
    some { seq := leAt bs 0 4, beat := leAt bs 4 4, offset := leAt bs 8 4, count := leAt bs 20 2,
           last := nbit (leAt bs 26 1) 3, trig := nbit (leAt bs 26 1) 2, trigBeat := leAt bs 112 4,
           trigOffset := leAt bs 116 4, trigSource := leAt bs 120 1, trigAddr := leAt bs 121 3 }
  else none

/-- The lowest sequence number of the unbroken run of valid pages that ends at `seq`. -/
def runStart (hs : List RingHeader) (seq fuel : Nat) : Nat :=
  match fuel with
  | 0 => seq
  | f + 1 =>
    let prev := u32Sub seq 1
    if hs.any (fun h => h.seq == prev) then runStart hs prev f else seq

/-- The ring's state after store recall (R192): triggers are accepted from now on (R189). -/
def State.recallRing (s : State) : State :=
  let present := (List.range 1024).filter (fun i => s.mem.any (fun c => pageOf c.1 == 704 + i))
  let hs := present.filterMap s.readRingHeader
  match leastBy (fun a b => u32Later a.seq b.seq) hs with
  | none => { s with ring := { s.ring with started := true, state := .running, nextSeq := 0, opened := none, closing := [] } }
  | some h =>
    if h.last then
      let first := runStart hs h.seq 1023
      let trigPage := hs.find? (fun x => x.trig && decide (u32Sub h.seq x.seq < 1024))
      let s1 := (((s.setLive K.TRIG_BEAT h.trigBeat).setLive K.TRIG_OFFSET h.trigOffset).setLive K.TRIG_SOURCE
        h.trigSource).setLive K.TRIG_ADDR h.trigAddr
      let s2 := ((s1.setLive K.FREEZE_BEAT h.beat).setLive K.FREEZE_OFFSET (h.offset + h.count)).setLive K.FIRST_SEQ first
      let s3 := (s2.setLive K.LAST_SEQ h.seq).setLive K.TRIG_SEQ ((trigPage.map RingHeader.seq).getD 0)
      { s3 with ring := { s3.ring with started := true, state := .frozen, nextSeq := (h.seq + 1) % 2 ^ 32, opened := none, closing := [],
                                       recalled := true, etchSeq := none, etchDone := false } }
    else
      let next := (h.seq + 1) % 2 ^ 32
      let s1 := (s.setLive K.LAST_SEQ h.seq).setLive K.FIRST_SEQ (runStart hs h.seq 1023)
      { s1 with ring := { s1.ring with started := true, state := .running, nextSeq := next, opened := none, closing := [] } }

end Sys2Proof.Machine
end

