-- ==== Sys2Proof/Machine/Conversion.lean ====
section
/-! DEFINITION. Slots, correction, captures, calibration and quick converters (R159 to R186). -/

namespace Sys2Proof.Machine

/-! ### Slices and positions -/

/-- A slice before its first calibration step: no offset, unit gain, no skew. -/
def Slice.blank (role : SliceRole) (pos : Nat) : Slice :=
  { role := role, pos := pos, offset := 0, gain := 16777216, skew := 0, calTick := 0, stale := false }

/-- Slice s. -/
def State.slice (s : State) (i : Nat) : Slice := fget s.conv.slices i (Slice.blank .calibrating 0xFF)

/-- Replace slice s. -/
def State.setSlice (s : State) (i : Nat) (x : Slice) : State :=
  { s with conv := { s.conv with slices := fset s.conv.slices i x } }

/-- The slice at a position (R159). -/
def State.sliceAt (s : State) (pos : Nat) : Option Nat :=
  (List.range 17).find? (fun i => (s.slice i).role == .inRound && (s.slice i).pos == pos)

/-- The spare, if one stands ready (R173). -/
def State.spare (s : State) : Option Nat := (List.range 17).find? (fun i => (s.slice i).role == .spare)

/-- Is any slice FAILED (R176)? -/
def State.anyFailed (s : State) : Bool := (List.range 17).any (fun i => (s.slice i).role == .failed)

/-- CAL_AGE of a slice in ticks (R173). -/
def State.calAge (s : State) (i : Nat) : Nat := s.fab.tick - (s.slice i).calTick

/-- CAL_HARD_ROT × ROT_PERIOD in ticks (R174). -/
def State.hardAge (s : State) : Nat := usTicks (s.obj K.CAL_HARD_ROT * s.obj K.ROT_PERIOD)

/-- Is a position one of a gang of G (R177)? -/
def gangPos (g pos : Nat) : Bool := pos % (16 / g) == 0

/-- Is a position reserved by a capture (R174)? -/
def State.reserved (s : State) (pos : Nat) : Bool :=
  (s.cap.state == .armed || s.cap.state == .running) && gangPos s.cap.g pos

/-- The slice that the next swap replaces (R173). -/
def nextSlice (spare : Nat) : Nat := (spare + 1) % 17

/-! ### Urgent requests (R182, R183) -/

/-- Insert a request behind those of an earlier tick, or of this tick and no higher rank. -/
def insertUrgent (l : List Urgent) (u : Urgent) : List Urgent :=
  match l with
  | [] => [u]
  | x :: r => if u.tick < x.tick ∨ (u.tick = x.tick ∧ u.rank < x.rank) then u :: x :: r else x :: insertUrgent r u

/-- An urgent request on this tick; several crossings of one rail on one tick make one request (R183). -/
def State.urgent (s : State) (ch rank : Nat) (crossing : Bool) : State :=
  if crossing && s.conv.urgents.any (fun u => u.ch == ch && u.tick == s.fab.tick && u.rank == rank) then s
  else { s with conv := { s.conv with urgents := insertUrgent s.conv.urgents ⟨ch, s.fab.tick, rank⟩ } }

/-- Requests of a crossing of rail n: channel n, then 64 + n, each if its URGENT_ON_CROSS is 0x01 (R182). -/
def State.urgentCross (s : State) (n : Nat) : State :=
  let s1 := if s.objB (K.URGENT_ON_CROSS n) then s.urgent n (2 * n) true else s
  if s1.objB (K.URGENT_ON_CROSS (64 + n)) then s1.urgent (64 + n) (2 * n + 1) true else s1

/-- Drop the requests that found no slot by tick t: DROPS of the channel and DROPS_TOTAL (R183). -/
def State.dropUrgents (s : State) (t : Nat) : State :=
  let old := s.conv.urgents.filter (fun u => decide (u.tick + 17 ≤ t))
  let s1 := { s with conv := { s.conv with urgents := s.conv.urgents.filter (fun u => !decide (u.tick + 17 ≤ t)) } }
  old.foldl (fun a u => (a.bump (K.DROPS u.ch)).bump K.DROPS_TOTAL) s1

/-! ### Starting the slot of a tick (R159, R160, R163, R164) -/

/-- A pending bank switch takes its point before a scan slot, and so does a restart of the active bank that stands out before it (R164): with
the restart this scan slot would convert entry 0. -/
def State.takeSwitch (s : State) (t : Nat) : State :=
  match s.conv.switch with
  | some w =>
    let again := w.restart.any (fun c => decide (c < t))
    if w.commit < t ∧ (w.atZero = false ∨ s.conv.listPos = 0 ∨ again = true) then
      { s with conv := { s.conv with bank := w.bank, listPos := 0, switch := none } }
    else if again then { s with conv := { s.conv with listPos := 0, switch := some { w with restart := none } } }
    else s
  | none => s

/-- The FORMAT of a channel for the slot of tick t: a write applies to slots after its commit tick (R168). -/
def State.formatAtSlot (s : State) (c t : Nat) : Bool :=
  match flook s.conv.formatAt c with
  | some k => if k / 2 = t then k % 2 == 1 else s.isSigned c
  | none => s.isSigned c

/-- Put a slot in flight and record it in the ring. -/
def State.startSlotAs (s : State) (t slc : Nat) (use : SlotUse) (listPos : Nat) : State :=
  let r := s.ringPlace t use listPos
  let sg := match use with
    | .gang _ c | .urgent c | .scan c => r.1.formatAtSlot c t
    | .zero => true
  let x : Slot := { tick := t, slice := slc, use := use, signed := sg, page := r.2, stamp := r.1.stampOf t }
  { r.1 with conv := { r.1.conv with inflight := r.1.conv.inflight ++ [x] } }

/-- The slot of the present tick starts: a gang slot, else an urgent slot, else a scan slot (R160). An entry 0xFF below the length of a bank,
which only a recalled bank A can hold, is converted as ZERO (DESIGN CHOICE: notes/assumptions/93.md). -/
def State.startSlot (s : State) : State :=
  let t := s.fab.tick
  if !s.conv.scanning then s
  else
    let s1 := s.dropUrgents t
    match s1.sliceAt (t % 16) with
  | none => s1
  | some slc =>
    if s1.cap.gangAt t && gangPos s1.cap.g (t % 16) then
      let k := (t - s1.cap.t0) / (16 / s1.cap.g)
      s1.startSlotAs t slc (.gang k (s1.cap.chs.getD (k % s1.cap.k) 0)) 0
    else
      match s1.conv.urgents.find? (fun u => decide (u.tick < t)) with
      | some u =>
        ({ s1 with conv := { s1.conv with urgents := s1.conv.urgents.erase u } }).startSlotAs t slc (.urgent u.ch) 0
      | none =>
        let s2 := s1.takeSwitch t
        let pos := s2.conv.listPos
        let len := s2.scanLen s2.conv.bank
        let e := s2.scanEntry s2.conv.bank pos
        let s3 := s2.startSlotAs t slc (if e < 0xB8 then .scan e else .zero) pos
        let s4 := { s3 with conv := { s3.conv with listPos := if len ≤ pos + 1 then 0 else pos + 1 } }
        if len ≤ pos + 1 then s4.bumpLive K.SCAN_PASSES else s4

/-! ### Correction (R167) -/

/-- round8 of R167. -/
def round8 (v : Int) : Int := Int.fdiv (v + 128) 256

/-- Arithmetic shift right by 24. -/
def asr24 (v : Int) : Int := Int.fdiv v 16777216

/-- Slice level of R167: offset and gain. -/
def sliceLevel (x : Slice) (raw : Nat) : Int := asr24 ((Int.ofNat raw * 256 - 8388608 - x.offset) * x.gain)

/-- Channel level of R167: the code and SAT. -/
def State.channelLevel (s : State) (c : Nat) (signed : Bool) (x : Int) : Int × Bool :=
  let y := asr24 ((x - s.chanObjI16 (K.CH_OFFSET c) * 256) * Int.ofNat (s.chanObj (K.CH_GAIN c)))
  let code := if signed then round8 y else round8 y + 32768
  let lo : Int := if signed then -32768 else 0
  let hi : Int := if signed then 32767 else 65535
  (clampI lo hi code, decide (code < lo) || decide (hi < code))

/-- What a delivered result tells the blocks behind the converter. -/
structure Delivered where
  ch : Nat
  value : Int
  slotTick : Nat
  scan : Bool
  urgent : Bool
  deriving DecidableEq, Repr

/-- Store a corrected result of a channel: LAST_WORD, VALUE, URGENT_*, and its ring place (R161, R169, R184, R187). -/
def State.storeResult (s : State) (c : Nat) (code : Int) (sat signed urgent gang : Bool) (slc : Nat) (st : Stamp)
    (place : Option (Nat × Nat)) : State :=
  let r : Result := { code := rawOf 16 code, slice := slc, urgent := urgent, gang := gang, sat := sat, signed := signed }
  let s1 := { s with conv := { s.conv with last := fset s.conv.last c r } }
  let s2 := s1.setLive (K.VALUE c) (rawI32 (s1.physical c code signed))
  let s3 := if urgent then
      let u := { s2 with conv := { s2.conv with lastUrgent := fset s2.conv.lastUrgent c r } }
      ((u.setLive (K.URGENT_BEAT c) st.beat.toNat).setLive (K.URGENT_OFFSET c) st.offset).bumpLive (K.URGENTS c)
    else s2
  s3.ringStore place (rawOf 16 code)

/-- ZERO tracking (R166). -/
def State.trackZero (s : State) (slc raw : Nat) : State :=
  if s.objB K.ZERO_TRACK then
    let x := s.slice slc
    s.setSlice slc { x with offset := x.offset + tdiv (Int.ofNat raw * 256 - 8388608 - x.offset) 1024 }
  else s

/-- d of R177 for sample k of K channels, from the slice-level values at hand. -/
def skewSpan (xs : FMap Int) (k kk : Nat) (x : Int) : Int :=
  match flook xs (k + kk), (if kk ≤ k then flook xs (k - kk) else none) with
  | some a, some b => a - b
  | some a, none => 2 * (a - x)
  | none, some b => 2 * (x - b)
  | none, none => 0

/-- The present capture as its slot results see it. -/
def Capture.run (c : Capture) (now : Nat) : GangRun :=
  { g := c.g, k := c.k, samples := c.samples, t0 := c.t0, last := if c.ended then some now else none, waiting := c.waiting, xs := c.xs }

/-- The corrected code of a gang sample: skew term and channel level (R167, R177). -/
def State.gangCode (s : State) (r : GangRun) (g : GangSample) : Int × Bool :=
  let d := skewSpan r.xs g.k r.k g.x
  let x := g.x - tdiv ((s.slice g.slice).skew * d) (100000 * Int.ofNat (r.k * 16 / r.g))
  s.channelLevel g.ch g.signed x

/-- Data-port address of sample k of the capture buffer, of the 1,048,576 that it holds (R178). -/
def captureAddr (k : Nat) : Nat := 0x02300000 + 2 * (k % 1048576)

/-- Finish one gang sample of a run: its channel's objects and the ring; of the present capture, also the capture buffer, CAP_TAKEN and the
stipple guard (R178, R213). -/
def State.finishGang (r : GangRun) (present : Bool) (s : State) (g : GangSample) : State :=
  let v := s.gangCode r g
  let s1 := s.storeResult g.ch v.1 v.2 g.signed false true g.slice Stamp.zero g.page
  if present then
    let s2 := s1.writeBytes (captureAddr g.k) (leBytes 2 (rawOf 16 v.1))
    let s3 := { s2 with cap := { s2.cap with fresh := s2.cap.fresh ++ [(g.ch, s2.physical g.ch v.1 g.signed)] } }
    s3.setLive K.CAP_TAKEN (s3.obj K.CAP_TAKEN + 1)
  else s1

/-- May a slot of tick t belong to a run? -/
def GangRun.has (r : GangRun) (t : Nat) : Bool := decide (r.t0 ≤ t) && (match r.last with | some l => decide (t ≤ l) | none => true)

/-- Does any gang slot of a run still wait for its result? -/
def State.gangInFlight (s : State) (r : GangRun) : Bool :=
  s.conv.inflight.any (fun x => match x.use with | .gang _ _ => r.has x.tick | _ => false)

/-- Do all samples of a run stand that it will ever have? -/
def State.gangOver (s : State) (r : GangRun) : Bool :=
  !s.gangInFlight r && (r.last.isSome || decide (r.t0 + (r.samples - 1) * (16 / r.g) + 18 ≤ s.fab.tick))

/-- The samples of a run that can be finished: those whose neighbour k + K has arrived, or that have none (R177). -/
def State.gangReady (s : State) (r : GangRun) : List GangSample :=
  r.waiting.filter (fun g => s.gangOver r || fhas r.xs (g.k + r.k))

/-- A run without the samples that are finished. -/
def GangRun.less (r : GangRun) (done : List GangSample) : GangRun := { r with waiting := r.waiting.filter (fun g => !done.contains g) }

/-- A sample enters a run. -/
def GangRun.add (r : GangRun) (g : GangSample) : GangRun :=
  { r with xs := (fset r.xs g.k g.x).filter (fun p => decide (g.k ≤ p.1 + 3 * r.k)), waiting := r.waiting ++ [g] }

/-- A gang sample of the present capture arrives, or (none) its end lets the rest be finished. -/
def State.presentSample (s : State) (g : Option GangSample) : State :=
  let r0 := s.cap.run s.fab.tick
  let r := match g with | some x => r0.add x | none => r0
  let done := s.gangReady r
  let s1 := { s with cap := { s.cap with xs := r.xs, waiting := (r.less done).waiting } }
  done.foldl (State.finishGang r true) s1

/-- A gang sample of a released run arrives. -/
def State.oldSample (s : State) (r0 : GangRun) (g : GangSample) : State :=
  let r := r0.add g
  let done := s.gangReady r
  let keep := if s.gangOver r then s.cap.old.erase r0 else s.cap.old.map (fun x => if x = r0 then r.less done else x)
  done.foldl (State.finishGang r false) { s with cap := { s.cap with old := keep } }

/-- Do results of gang slots belong to the present capture: it runs, or has run? -/
def Capture.ran (c : Capture) : Bool := c.state == .running || (c.state != .armed && c.ended)

/-- A new capture replaces the present one, whose last results may still come: they go to the ring alone. -/
def State.retireRun (s : State) : State :=
  let r := s.cap.run s.fab.tick
  if s.cap.ran = false then s
  else if s.gangOver r then r.waiting.foldl (State.finishGang r false) s
  else { s with cap := { s.cap with old := r :: s.cap.old } }

/-- A slice result arrives 18 ticks after its slot started: correct it and store it. What the blocks behind the converter
see of it is the second component. -/
def State.takeResult (s : State) (raw : Nat) : State × Option Delivered :=
  match s.conv.inflight with
  | [] => (s, none)
  | x :: rest =>
    if s.fab.tick < x.tick + 18 then (s, none)
    else
      let sr := { s with
        conv := { s.conv with inflight := rest },
        cap := { s.cap with fresh := [] } }
      let s0 := if sr.cap.waiting.isEmpty then sr else sr.presentSample none
      let lv := sliceLevel (s0.slice x.slice) raw
      match x.use with
      | .zero =>
        let s1 := (s0.trackZero x.slice raw).ringStore x.page (rawOf 16 (clampI (-32768) 32767 (round8 lv)))
        (s1.finishRingPages, none)
      | .gang k c =>
        let g : GangSample := { k := k, ch := c, slice := x.slice, x := lv, signed := x.signed, page := x.page }
        if s0.cap.t0 ≤ x.tick ∧ s0.cap.ran = true then
          ((s0.presentSample (some g)).finishRingPages, none)
        else match s0.cap.old.find? (fun r => r.has x.tick) with
          | some r => ((s0.oldSample r g).finishRingPages, none)
          | none => (s0.finishRingPages, none)
      | .urgent c =>
        let r := s0.channelLevel c x.signed lv
        let s1 := s0.storeResult c r.1 r.2 x.signed true false x.slice x.stamp x.page
        (s1.finishRingPages, some ⟨c, s0.physical c r.1 x.signed, x.tick, false, true⟩)
      | .scan c =>
        let r := s0.channelLevel c x.signed lv
        let s1 := s0.storeResult c r.1 r.2 x.signed false false x.slice x.stamp x.page
        (s1.finishRingPages, some ⟨c, s0.physical c r.1 x.signed, x.tick, true, false⟩)

/-! ### Checks on scan results (R186, R298) -/

/-- Comparison of a scan result of channel 128 + q with the quick converter (R186). -/
def State.quickCompare (s : State) (q : Nat) (v : Int) : State :=
  let a := fget s.conv.agree q ⟨0, 0, false⟩
  let off := decide (Int.ofNat (s.obj K.QUICK_TOL) < (v - Int.ofNat (s.quick q)).natAbs)
  let put (st : State) (x : QuickAgree) : State := { st with conv := { st.conv with agree := fset st.conv.agree q x } }
  if a.raised then
    let good := if off then 0 else a.good + 1
    put s (if 8 ≤ good then ⟨0, 0, false⟩ else ⟨0, good, true⟩)
  else
    let bad := if off then a.bad + 1 else 0
    if 8 ≤ bad then (put s ⟨0, 0, true⟩).raise (0x51 + q) 0x01 0 |>.bump K.DISAGREES
    else put s ⟨bad, 0, false⟩

/-- One limit of R298: 16 consecutive results outside raise the kind; 16 consecutive results back inside arm it again. -/
def State.limitCheck (s : State) (c kind : Nat) (out back : Bool) : State :=
  let key := c * 8 + kind
  let a := fget s.conv.limits key ⟨0, 0, false⟩
  let put (st : State) (x : LimitRun) : State := { st with conv := { st.conv with limits := fset st.conv.limits key x } }
  if a.raised then
    let n := if back then a.back + 1 else 0
    put s (if 16 ≤ n then ⟨0, 0, false⟩ else ⟨0, n, true⟩)
  else
    let n := if out then a.out + 1 else 0
    if 16 ≤ n then (put s ⟨0, 0, true⟩).raise 0x89 kind c else put s ⟨n, 0, false⟩

/-- Supply and temperature kinds (Table 10.6). Supplies: ±5 % of 0.8 V, 1.8 V and 1.1 V. Temperatures: at or above 105,
115 and 125 °C, inside again 5 °C below. -/
def State.supplyCheck (s : State) (c : Nat) (v : Int) : State :=
  if 178 ≤ c ∧ c ≤ 180 then
    let nom : Int := if c = 178 then 80000 else if c = 179 then 180000 else 110000
    let out := decide (v * 100 < nom * 95) || decide (nom * 105 < v * 100)
    s.limitCheck c 1 out (!out)
  else if 181 ≤ c ∧ c ≤ 183 then
    let one (st : State) (kind : Nat) (lim : Int) : State := st.limitCheck c kind (decide (lim ≤ v)) (decide (v ≤ lim - 500))
    one (one (one s 2 10500) 3 11500) 4 12500
  else s

/-! ### Captures (R177 to R181) -/

/-- Arm the capture with given settings (Table 6.6, first row). -/
def State.armCapture (s : State) (owner : CapOwner) (g k : Nat) (chs : List Nat) (samples whenMode : Nat)
    (beat : Count) (offset : Nat) : State :=
  let r := s.retireRun
  let c0 := chs.headD 0
  let target := if c0 < 128 then c0 % 64 else 0x40
  let cap : Capture := {
    state := .armed, owner := owner, g := g, k := k, chs := chs, samples := samples,
    whenMode := whenMode, startTick := if whenMode = 1 then some (s.fab.tick + 1) else none,
    startBeat := if whenMode = 0 then some (beat, offset) else none, level := 2, t0 := 0, ended := false, orphan := false,
    waiting := [], xs := [], fresh := [], old := r.cap.old }
  let s1 := ((r.setLive K.CAP_FLAGS 0).setLive K.CAP_TAKEN 0).setLive K.CAP_SWAP_INDEX 0xFFFFFFFF
  let s2 := { s1 with cap := cap }
  if whenMode = 2 then s2 else s2.postLane .capture 2 target 0 0 []

/-- Has the start of an armed capture been reached? -/
def State.captureDue (s : State) : Bool :=
  match s.cap.startTick, s.cap.startBeat with
  | some t, _ => decide (t ≤ s.fab.tick)
  | none, some b => s.reached b.1 b.2
  | none, none => false

/-- The capture takes its positions at t0, the first tick at or after its start that is aligned to 16 / G, with its lane
held, and whose slot has not started yet (R177, R179). -/
def State.startCapture (s : State) : State :=
  if s.cap.state = .armed ∧ s.ticked = false ∧ s.captureDue = true ∧ (s.lanes.laneOf .capture 0).isSome = true
      ∧ s.fab.tick % (16 / s.cap.g) = 0 then
    let s1 := { s with cap := { s.cap with state := .running, t0 := s.fab.tick } }
    (s1.setLive K.CAP_FIRST_BEAT s1.now.beat.toNat).setLive K.CAP_FIRST_OFFSET s1.now.offset
  else s

/-- CAP_TAKEN has reached CAP_SAMPLES: DONE, positions back to scan, lane freed (Table 6.6). -/
def State.doneCapture (s : State) : State :=
  if s.cap.state = .running ∧ s.cap.samples ≤ s.obj K.CAP_TAKEN then s.endCapture 0 else s

/-- Free the buffer (Table 6.6, last row). -/
def State.releaseCapture (s : State) : State := { s with cap := { s.cap with state := .idle, owner := .none } }

/-- Withdraw an ARMED capture (Table 6.6). -/
def State.withdrawCapture (s : State) : State :=
  ({ s with cap := { s.cap with state := .idle, owner := .none } }).freeLaneOf .capture 0

/-- CAP_OWNER code (0x3202.07). -/
def CapOwner.code : CapOwner → Nat
  | .none => 0xFF | .port p => p | .trigger => 0xFD | .stipple _ => 0xFE

/-! ### Calibration and rotation (R170 to R176) -/

/-- RAMP_SLOPE (0x3000.0A): fixed per part, 192 to 320. -/
def rampSlope : Nat := 192 + Config.rampSlope % 129

/-- Estimates of a calibration step from the sums of 256 raw codes of each input (R171): offset, gain, skew. -/
def calEstimates (zs p m rise fall : Nat) : Int × Int × Int :=
  let off := Int.ofNat zs - 8388608
  let gain := Int.fdiv (16777216 * 12582912) (Int.ofNat p - Int.ofNat m)
  let skew := tdiv (asr24 ((Int.ofNat rise - Int.ofNat fall) * gain) * 10) (2 * Int.ofNat rampSlope)
  (off, gain, skew)

/-- Does a step pass (R172)? -/
def calPasses (e : Int × Int × Int) : Bool :=
  decide (e.1.natAbs ≤ 131072) && decide (16273899 ≤ e.2.1) && decide (e.2.1 ≤ 17280533) && decide (e.2.2.natAbs ≤ 500)

/-- A step passes on slice i: new estimates and counters; in service the slice becomes the spare (R172, R173, R175). -/
def State.calPass (s : State) (i : Nat) (e : Int × Int × Int) (role : SliceRole) (pos : Nat) : State :=
  let x : Slice := { role := role, pos := pos, offset := e.1, gain := e.2.1, skew := e.2.2, calTick := s.fab.tick, stale := false }
  let n := s.conv.stepsDone + 1
  let s1 := (s.setSlice i x).bump (K.CAL_COUNT i)
  let s2 := { s1 with conv := { s1.conv with stepsDone := if 17 ≤ n then 0 else n, catchUp := s1.conv.catchUp - 1 } }
  if 17 ≤ n then s2.bumpLive K.ROTATIONS else s2

/-- A step fails on slice i: it keeps its estimates and becomes FAILED; kind 0x01; a running CATCH_UP ends (R172, R176). -/
def State.calFail (s : State) (i : Nat) : State :=
  let x := s.slice i
  let s1 := (s.setSlice i { x with role := .failed, pos := 0xFF }).bump (K.CAL_FAILS i)
  ({ s1 with conv := { s1.conv with catchUp := 0 } }).raise (0x40 + i) 0x01 0

/-- The lowest position that no slice holds, as after two failures of start-up steps. -/
def State.emptyPlace (s : State) : Option Nat := (List.range 16).find? (fun p => (s.sliceAt p).isNone)

/-- Where a slice goes whose step has passed in service: to a position that no slice holds (R159), otherwise it becomes the spare (R172). -/
def State.passPlace (s : State) : SliceRole × Nat :=
  match s.emptyPlace with
  | some p => (.inRound, p)
  | none => (.spare, 0xFF)

/-- Where start-up places slice i once its step has passed: slices 0 to 15 at positions 0 to 15, slice 16 as spare (R170). -/
def startPlace (i : Nat) : SliceRole × Nat := if i < 16 then (.inRound, i) else (.spare, 0xFF)

/-- 16 slices hold the 16 positions (R159): where a slice below 16 has failed its start-up step, slice 16 takes its position, and no spare
exists (R176). -/
def State.fillPlace (s : State) : State :=
  if (s.slice 16).role = .spare then
    match (List.range 16).find? (fun i => (s.slice i).role == .failed) with
    | some i => s.setSlice 16 { s.slice 16 with role := .inRound, pos := i }
    | none => s
  else s

/-- Post the calibration step of an offline slice: a level 3 request (R173). -/
def State.postCal (s : State) (i : Nat) : State :=
  let x := s.slice i
  (s.setSlice i { x with role := .calibrating, pos := 0xFF }).postLane .cal 3 (0x40 + i) i 0 []

/-- A calibration step ends (R171, R172). During start-up all slices step at once, without a lane (R170). -/
def State.calStepEnd (s : State) (i zs p m rise fall : Nat) : State :=
  let e := calEstimates zs p m rise fall
  if (s.slice i).role = .calibrating then
    if s.phase = .recall ∧ s.conv.scanning = false then
      if s.conv.calStart + 400000 ≤ s.fab.tick then
        (if calPasses e then s.calPass i e (startPlace i).1 (startPlace i).2 else s.calFail i).fillPlace
      else s
    else match s.lanes.laneOf .cal i with
      | some lane =>
        match flook s.lanes.shared lane with
        | some op =>
          if op.granted + 400000 ≤ s.fab.tick then
            let s1 := s.freeLane lane
            if calPasses e then s1.calPass i e s1.passPlace.1 s1.passPlace.2 else s1.calFail i
          else s
        | none => s
      | none => s
  else s

/-- Note a swap at a position a running gang holds: SWAPPED, and CAP_SWAP_INDEX once (Table 6.6). -/
def State.noteGangSwap (s : State) (pos : Nat) : State :=
  if s.cap.gangAt s.fab.tick ∧ gangPos s.cap.g pos = true then
    let s1 := s.setLive K.CAP_FLAGS (s.obj K.CAP_FLAGS ||| 1)
    if s1.obj K.CAP_SWAP_INDEX = 0xFFFFFFFF then
      s1.setLive K.CAP_SWAP_INDEX ((s1.fab.tick - s1.cap.t0) / (16 / s1.cap.g))
    else s1
  else s

/-- The spare takes the position of the slice after it, which goes offline for its step (R173). -/
def State.swapIn (s : State) (spare : Nat) : State :=
  let r := nextSlice spare
  let pos := (s.slice r).pos
  let x := s.slice spare
  let s1 := (s.noteGangSwap pos).setSlice spare { x with role := .inRound, pos := pos }
  let s2 := { s1 with conv := { s1.conv with swapDue := s1.fab.tick + usTicks (s1.obj K.ROT_PERIOD / 17) } }
  s2.postCal r

/-- Is the replaced slice's position on this tick? -/
def State.swapTick (s : State) (spare : Nat) : Bool :=
  (s.slice (nextSlice spare)).role == .inRound && s.fab.tick % 16 == (s.slice (nextSlice spare)).pos

/-- A due swap (R173); into a reserved position only in CATCH_UP (R174, R175). -/
def State.sliceSwap (s : State) : State :=
  match s.spare with
  | none => s
  | some i =>
    if s.conv.scanning ∧ s.anyFailed = false ∧ s.conv.swapDue ≤ s.fab.tick ∧ s.swapTick i = true
        ∧ (s.conv.catchUp ≠ 0 ∨ s.reserved (s.slice (nextSlice i)).pos = false) then s.swapIn i
    else s

/-- A forced swap (R174): the waiting slice's CAL_AGE has reached the limit; CATCH_UP starts (R175). -/
def State.forcedSwap (s : State) : State :=
  match s.spare with
  | none => s
  | some i =>
    let r := nextSlice i
    if s.conv.scanning ∧ s.anyFailed = false ∧ s.conv.catchUp = 0 ∧ s.swapTick i = true
        ∧ s.conv.swapDue ≤ s.fab.tick ∧ s.reserved (s.slice r).pos = true ∧ s.hardAge ≤ s.calAge r then
      let s1 := ((s.swapIn i).bump K.FORCED_SWAPS).raise (0x40 + r) 0x02 0
      { s1 with conv := { s1.conv with catchUp := 17 } }
    else s

/-- CAL_STALE (R176): with no spare, once per slice when its CAL_AGE reaches the limit. -/
def State.calStale (s : State) (i : Nat) : State :=
  if s.anyFailed ∧ (s.slice i).stale = false ∧ s.hardAge ≤ s.calAge i then
    let x := s.slice i
    (s.setSlice i { x with stale := true }).raise (0x40 + i) 0x03 0
  else s

/-- CAL_STATE (0x3000.04). -/
def State.calState (s : State) : Nat := if s.anyFailed then 2 else if s.conv.catchUp ≠ 0 then 1 else 0

/-- ROLE code of a slice (Table 6.5). -/
def State.roleCode (s : State) (i : Nat) : Nat :=
  match (s.slice i).role with
  | .inRound => if s.cap.gangAt s.fab.tick && gangPos s.cap.g (s.slice i).pos then 1 else 0
  | .calibrating => 2 | .spare => 3 | .failed => 4

/-! ### Scan rates (R165) -/

/-- SCAN_RATE in S/s. -/
def State.scanRate (s : State) : Nat :=
  if !s.conv.scanning then 0
  else (16 - (if s.cap.gangAt s.fab.tick then s.cap.g else 0)) * 12500000

/-- RATE of a channel in S/s, truncated. -/
def State.chanRate (s : State) (c : Nat) : Nat :=
  ((s.scanEntries s.conv.bank).filter (fun e => e == c)).length * s.scanRate / s.scanLen s.conv.bank

/-! ### Result words (R169) -/

/-- A 32-bit result word of a channel in the layout of ALIGN. -/
def resultWord (align c : Nat) (r : Result) : Nat :=
  if align = 0 then r.code + (if r.signed && nbit r.code 15 then 0xFFFF0000 else 0)
  else r.code * 65536 + c * 256 + r.slice * 8 + b2n r.urgent * 4 + b2n r.gang * 2 + b2n r.sat

/-- A quick converter's word in the layout of QUICK_ALIGN. -/
def quickWord (align q code : Nat) : Nat :=
  if align = 0 then code else code * 2 ^ 20 + (128 + q) * 256 + 0x1F * 8

/-- LAST_WORD or URGENT_WORD of a channel. -/
def State.wordOf (s : State) (m : FMap Result) (c : Nat) : Nat :=
  match flook m c with
  | some r => resultWord (s.obj (K.ALIGN c)) c r
  | none => 0

/-! ### Quick converters (R185) -/

/-- The four quick results of one conversion: the codes and QUICK_VALUE (an LSB of 20 mV). -/
def State.storeQuick (s : State) (a b c d : Nat) : State :=
  let put (st : State) (q code : Nat) : State :=
    (st.setLive (K.QUICK_WORD q) code).setLive (K.QUICK_VALUE q) (code * 2000)
  let s1 := put (put (put (put s 0 a) 1 b) 2 c) 3 d
  { s1 with conv := { s1.conv with quickAt := s1.fab.tick } }

end Sys2Proof.Machine
end

