-- ==== Sys2Proof/Machine/Store.lean ====
section
/-! DEFINITION. The persistent store: etches (Table 11.6), recall (R319 to R321), error correction (R305), scrub (R324) and
the bytes the data port shows (R302, R303, R325, R326). -/

namespace Sys2Proof.Machine

/-! ### Page contents and copies -/

/-- Class P or C values homed in a page: those of the area in use from the objects, those of the other area from its own
values. -/
def State.pageVals (s : State) (p : Nat) : FMap Nat :=
  if p < 128 then
    if p / 64 = s.area then
      s.objs.filter (fun kv => keyClass kv.1 == .p && homePage s.area kv.1 == p)
    else s.otherArea.filter (fun kv => homePage (1 - s.area) kv.1 == p)
  else if p < 144 then s.objs.filter (fun kv => keyClass kv.1 == .c && homePage s.area kv.1 == p)
  else []

/-- What working memory holds in a page. -/
def State.pageData (s : State) (p : Nat) : PageData :=
  { cells := s.mem.filter (fun c => pageOf c.1 == p), vals := s.pageVals p }

/-- The page information of a page that neither recall nor an etch has met. -/
def PageInfo.blank : PageInfo := ⟨0, false, false, [], 0⟩

/-- What is known of a page. -/
def Store.infoOf (t : Store) (p : Nat) : PageInfo := fget t.info p PageInfo.blank

/-- Is a copy done (R319), voidness aside? -/
def Copy.done (c : Copy) : Bool := c.hdrOk && !c.uncorr && c.commit && c.dataOk

/-- Is a copy sound (R319)? -/
def Copy.sound (c : Copy) : Bool := c.hdrOk && !c.uncorr

/-- Copy A (0) or B (1) of a page; none is blank. -/
def Store.copy (t : Store) (p i : Nat) : Option Copy := flook t.shadow (2 * p + i)

/-- Of two copies, the done one, or the one with the later COPY_SEQ (R319): its index. -/
def latestDone (a b : Option Copy) : Option Nat :=
  match a.filter Copy.done, b.filter Copy.done with
  | some x, some y => if countLater y.copySeq x.copySeq then some 1 else some 0
  | some _, none => some 0
  | none, some _ => some 1
  | none, none => none

/-- Is the block of an ETCH_SEQ complete among the P0 and P1 copies (R320)? -/
def blockComplete (cs : List (Nat × Copy)) (seq : Count) : Bool :=
  match cs.find? (fun c => c.2.etchSeq == seq && decide (0 < c.2.blockN)) with
  | some c => decide (c.2.blockN ≤ (cs.filter (fun x => x.2.etchSeq == seq && x.2.done)).length)
  | none => false

/-- c of R320: the latest ETCH_SEQ whose block is complete. -/
def lastComplete (cs : List (Nat × Copy)) : Option Count :=
  leastBy (fun a b => countLater a b) ((cs.map (fun c => c.2.etchSeq)).filter (blockComplete cs))

/-- Is a P0 or P1 copy void (R320)? Without any complete block every such copy is void (DEDUCED: R43 keeps blocks whole). A copy
whose header does not match shows no ETCH_SEQ. -/
def voidCopy (c : Option Count) (x : Copy) : Bool :=
  match c with
  | some q => x.hdrOk && countLater x.etchSeq q
  | none => true

/-- The P0 and P1 copies. -/
def Store.p01 (t : Store) : List (Nat × Copy) := t.shadow.filter (fun c => decide (c.1 / 2 < 192))

/-- Is copy A (0) or B (1) of a page void (R320)? -/
def Store.isVoid (t : Store) (p i : Nat) : Bool := decide (p < 192) && (t.copy p i).any (voidCopy (lastComplete t.p01))

/-- The copy of a page on a side, unless it is void. -/
def Store.validCopy (t : Store) (p i : Nat) : Option Copy := if t.isVoid p i then none else t.copy p i

/-- The copy that an etch of a page writes, and its COPY_SEQ (R307): never the one that holds the latest done version (R319), which no
void copy is. -/
def Store.etchTarget (t : Store) (p : Nat) : Nat × Count :=
  match latestDone (t.validCopy p 0) (t.validCopy p 1) with
  | some i => (1 - i, ((t.copy p i).map Copy.copySeq).getD 0 + 1)
  | none => (0, 1)

/-- What recall chooses for a page: SOURCE of PAGE_INFO, whether the copies tie, the contents, COPY_SEQ. -/
structure Choice where
  source : Nat
  tie : Bool
  data : PageData
  seq : Count
  deriving DecidableEq, Repr

/-- The choice of R319 between two copies, of which `va` and `vb` say whether they are void. -/
def chooseCopy (a b : Option Copy) (va vb : Bool) : Choice :=
  let blank : PageData := ⟨[], []⟩
  let lost : Choice := ⟨3, false, blank, 0⟩
  let take (source : Nat) (tie : Bool) (x : Option Copy) : Choice :=
    match x with
    | some c => ⟨source, tie, c.data, c.copySeq⟩
    | none => lost
  let doneA := a.any Copy.done && !va
  let doneB := b.any Copy.done && !vb
  if a.isNone ∧ b.isNone then ⟨0, false, blank, 0⟩
  else if a.any Copy.sound ∧ b.any Copy.sound ∧ a.map Copy.copySeq = b.map Copy.copySeq ∧ va = false ∧ vb = false then
    if a.map Copy.data = b.map Copy.data then take 1 false a
    else if doneA ∧ doneB = false then take 1 false a
    else if doneB ∧ doneA = false then take 2 false b
    else if doneA ∧ doneB then take 1 true a
    else lost
  else match latestDone (if va then none else a) (if vb then none else b) with
    | some 0 => take 1 false a
    | some _ => take 2 false b
    | none => lost

/-- The choice that recall would make for a page now (R305, R319). -/
def Store.recallChoice (t : Store) (p : Nat) : Choice := chooseCopy (t.copy p 0) (t.copy p 1) (t.isVoid p 0) (t.isVoid p 1)

/-- Address field of store channel kinds (Table 11.2). -/
def storeAddr (page medium group : Nat) : Nat := page * 4096 + medium * 1024 + group

/-! ### The etch state machine (Table 11.6) -/

/-- The page in flight: BUSY_PAGE (R312). -/
def Store.busyPage (t : Store) : Option Nat :=
  match t.etch with
  | some e => if e.phase = .starting then none else e.todo.head?
  | none => none

/-- Start the next page: its own snapshot tick if it lies outside the block (R309). A ring page that is still being written goes with
the header that it has then (R191). -/
def State.startPage (s0 : State) (e : Etch) : State :=
  match e.todo with
  | [] => s0
  | p :: _ =>
    let s := if 704 ≤ p ∧ p < 1728 then s0.flushRingPage (p - 704) else s0
    let e1 := { e with due := s.fab.tick + 8192, retry := false,
                       snap := if e.block.contains p then e.snap else fset e.snap p (s.pageData p) }
    { s with store := { s.store with etch := some e1,
                                     dirty := if e.block.contains p then s.store.dirty else ndel s.store.dirty p } }

/-- A power-fail etch has reached IDLE: still on reserve and with pages dirty, it posts its follow-on, unless the chain has ended
(R315). -/
def State.postFollowOn (s : State) (cause : Nat) : State :=
  if cause = 4 ∧ s.onReserve ∧ s.store.dirty ≠ [] ∧ s.store.chainEnded = false then
    ({ s with store := { s.store with followOn := true } }).postEtch 4 scopeAll []
  else s

/-- ADMIT (Table 11.6, R313, R315): the etch starts, which stops the auto-etch timer (R308), or is refused for want of hold-up energy. What
the latest etch has listed, admitted, cost and committed reads 0 until its snapshot: ETCH_DONE counts its own pages (Table 1.5). -/
def State.admitEtch (s : State) (w : EtchWait) : State :=
  let seq := (s.obj K.ETCH_SEQ + 1) % 2 ^ 32
  let s1 := (s.setPers K.ETCH_SEQ seq).setLive K.ETCH_CAUSE w.cause
  let followOn := w.cause == 4 && s1.store.followOn
  let s2 := { s1 with store := { s1.store with followOn := if w.cause = 4 then false else s1.store.followOn } }
  let res := s2.onReserve
  let m := if res then s2.pagesAdmitted else 4096
  let eAvail := if res then s2.eAvail else 0
  let s3 := [(K.ETCH_E_AVAIL, eAvail), (K.ETCH_LISTED, 0), (K.ETCH_ADMITTED, 0), (K.ETCH_DONE, 0), (K.ETCH_COST, 0)].foldl
    (fun st kv => st.setLive kv.1 kv.2) s2
  let e : Etch := {
    phase := .starting, cause := w.cause, base := w.base, mask := w.mask, pages := w.pages, followOn := followOn,
    onReserve := res, seq := BitVec.ofNat 32 seq, eAvail := eAvail, maxPages := m.toNat, admitted := 0, lane := w.lane,
    due := s.fab.tick + 30000, todo := [], block := [], blockN := 0, index := 0, snap := [], retry := false,
    short := false, vhuStop := false }
  if m < Int.ofNat s3.store.dirtyBlock.length then
    let s4 := (s3.raise 0x60 0x11 w.cause).bump K.REFUSALS
    let s5 := s4.freeLane w.lane
    if followOn then { s5 with store := { s5.store with chainEnded := true } }
    else s5.postFollowOn w.cause
  else
    let listed := (s3.store.dirty.filter (inScope w.mask w.pages)).length
    let short := res && decide (m < Int.ofNat listed)
    let s4 := if short then s3.raise 0x60 0x11 (m.toNat * 2048 + w.cause) else s3
    { s4 with store := { s4.store with
      etch := some { e with short := short }, autoFrom := if w.cause = 2 then none else s4.store.autoFrom } }

/-- The waiting request that the store takes next: the highest level, then the first. -/
def nextEtch (ws : List EtchWait) : Option EtchWait := leastBy (fun a b => decide (a.base < b.base)) ws

/-- In IDLE, admit waiting requests one after the other until one starts (R311). -/
def State.admitNext (fuel : Nat) (s : State) : State :=
  match fuel with
  | 0 => s
  | f + 1 =>
    if s.store.etch.isSome then s
    else match nextEtch s.store.waiting with
      | none => s
      | some w =>
        State.admitNext f (({ s with store := { s.store with waiting := s.store.waiting.erase w } }).admitEtch w)

/-- Let the store take its next request, if it is idle. -/
def State.etchIdle (s : State) : State := State.admitNext 16 s

/-- A lane is granted to an etch request: it is admitted, or waits for the running etch to end, which one of level 0 or of a power failure
ends after its page in flight (R311). -/
def State.etchGranted (s : State) (r : LaneReq) (lane : Nat) : State :=
  let w : EtchWait := { cause := r.ref, base := r.base, mask := r.mask, pages := r.pages, lane := lane }
  let s1 := { s with store := { s.store with waiting := s.store.waiting ++ [w] } }
  match s1.store.etch with
  | some e => if e.endedBy r.ref then (s1.stopEtch false).etchIdle else s1
  | none => s1.etchIdle

/-- The etch leaves the store: unwritten pages stay dirty, the lane is freed, the ledger may go on, and a power-fail etch
posts its follow-on (R315). The etch of a ring freeze ends complete unless it is stopped (Table 6.8). -/
def State.endEtch (s : State) (e : Etch) (unwritten : List Nat) : State :=
  let whole := e.phase != EtchPhase.stopping
  let s1 := { s with
    store := { s.store with etch := none, dirty := unwritten.foldl nins s.store.dirty },
    ledger := { s.ledger with suspended := false },
    ring := { s.ring with
      etchDone := s.ring.etchDone || (whole && s.ring.etchSeq == some e.seq),
      etchSeq := if s.ring.etchSeq = some e.seq then none else s.ring.etchSeq },
    upd := { s.upd with etched := s.upd.etched || (s.upd.etchPosted && e.cause == 1 && nbit e.mask 0 && unwritten.isEmpty
      && whole && !s.store.dirty.contains (64 * (1 - s.activeArea))) } }
  ((s1.freeLane e.lane).postFollowOn e.cause).etchIdle

/-- The order of R309: the block (P1 before P0, ascending), then ring pages, P2 most recent first, P5, P4, P6. -/
def State.etchBlock (s : State) (mask : Nat) (pages : List Nat) : List Nat :=
  let p01 := nbit mask 0 || pages.any (fun p => decide (p < 192))
  let base := if p01 then s.store.dirtyBlock else []
  let all := if nbit mask 1 || pages.any (fun p => decide (192 ≤ p) && decide (p < 704)) then nins base 129 else base
  all.filter (fun p => decide (128 ≤ p)) ++ all.filter (fun p => decide (p < 128))

/-- The listed pages outside the block, in the order of R309. -/
def State.etchRest (s : State) (mask : Nat) (pages : List Nat) : List Nat :=
  let d := s.store.dirty.filter (fun p => inScope mask pages p && decide (192 ≤ p))
  s.ringEtchOrder (d.filter (fun p => decide (704 ≤ p) && decide (p < 1728)))
  ++ s.store.recency.filter (fun p => d.contains p)
  ++ (d.filter (fun p => decide (192 ≤ p) && decide (p < 704))).filter (fun p => !s.store.recency.contains p)
  ++ d.filter (fun p => decide (2240 ≤ p) && decide (p < 2496))
  ++ d.filter (fun p => decide (1728 ≤ p) && decide (p < 2240))
  ++ d.filter (fun p => decide (2496 ≤ p))

/-- Address of an etch's log entry (R310). -/
def etchLogAddr (seq : Nat) : Nat := 16384 * 128 + 8192 + 32 * (seq % 256)

/-- Is an etch that of the ring's freeze, at its snapshot: the protection or the power-fail etch that takes the frozen ring's pages (Table
6.8)? -/
def State.ringOwn (s : State) (e : Etch) : Bool := s.ring.state == .frozen && (e.cause == 3 || e.cause == 4) && nbit e.mask 2

/-- Etch log entry (Table 11.5). -/
def etchLogEntry (e : Etch) (blockN listed admitted : Nat) (st : Stamp) : List Byte :=
  let body := packLE [(4, e.seq.toNat), (1, e.cause), (1, b2n e.onReserve + 2 * b2n e.followOn), (2, blockN), (2, listed),
    (2, admitted), (4, e.eAvail), (4, etchFixed + pageCost * admitted), (4, st.beat.toNat), (4, st.offset)]
  body ++ leBytes 4 (crc32c body).toNat

/-- The snapshot tick (R309, R310, R313, R333): the list is formed and cut, the etch log entry written, the block's
contents taken, and the first page starts. -/
def State.etchSnapshot (s : State) : State :=
  match s.store.etch with
  | none => s
  | some e =>
    if e.phase = .starting ∧ e.due ≤ s.fab.tick then
      let s1 := { s with store := s.store.touch 128 }
      let block := s1.etchBlock e.mask e.pages
      let rest := s1.etchRest e.mask e.pages
      let listed := block.length + rest.length
      let admitted := if e.maxPages < block.length then block.length else min e.maxPages listed
      let todo := (block ++ rest).take admitted
      let s2 := s1.writeBytes (etchLogAddr e.seq.toNat)
        (etchLogEntry e block.length listed admitted s1.now)
      let cost := etchFixed + pageCost * admitted
      let s3 := ((((s2.setLive K.ETCH_LISTED listed).setLive K.ETCH_ADMITTED admitted).setLive K.ETCH_DONE 0).setLive
        K.ETCH_COST cost)
      let s4 := if admitted < listed ∧ e.short = false then s3.raise 0x60 0x11 (admitted * 2048 + e.cause) else s3
      let snap := block.foldl (fun m p => fset m p (s4.pageData p)) []
      let s5 := { s4 with
        store := { s4.store with dirty := s4.store.dirty.filter (fun p => !block.contains p) },
        ring := { s4.ring with etchSeq := if s4.ringOwn e then some e.seq else s4.ring.etchSeq },
        ledger := { s4.ledger with suspended := nbit e.mask 1 || e.pages.any (fun p => decide (192 ≤ p) && decide (p < 704)) } }
      let e1 := { e with phase := .writing, todo := todo, block := block, blockN := block.length, index := 0,
                         snap := snap, admitted := admitted }
      if todo.isEmpty then (s5.bump K.ETCHES).endEtch e1 []
      else s5.startPage e1
    else s

/-- Program a page's copy (R307): header, data and COMMIT, into the side and under the COPY_SEQ of `tgt`. -/
def State.writeCopy (s : State) (e : Etch) (p : Nat) (tgt : Nat × Count) : State :=
  let inBlock := e.block.contains p
  let c : Copy := {
    copySeq := tgt.2, etchSeq := e.seq, blockN := if inBlock then e.blockN else 0,
    blockI := if inBlock then (e.block.findIdx (fun q => q == p)) else 0,
    hdrOk := true, dataOk := true, stripes := [], commit := true, data := fget e.snap p ⟨[], []⟩ }
  let old := s.store.infoOf p
  { s with store := { s.store with
    shadow := fset s.store.shadow (2 * p + tgt.1) c,
    info := fset s.store.info p { old with seq := tgt.2, weak := ndel old.weak tgt.1 } } }

/-- Program a page's copy where R307 puts it. -/
def State.programPage (s : State) (e : Etch) (p : Nat) : State := s.writeCopy e p (s.store.etchTarget p)

/-- After a page: stop, go on, or end (Table 11.6). `failed` is the page that stays dirty after a second failure. -/
def State.afterPage (s : State) (e : Etch) (rest failed : List Nat) : State :=
  let s1 := { s with store := { s.store with dirty := failed.foldl nins s.store.dirty } }
  if e.phase = .stopping then
    let s2 := if e.vhuStop then
        (s1.raise 0x60 0x12 (s1.obj K.ETCH_DONE * 2048 + e.cause)).bump K.INCOMPLETES
      else s1
    s2.endEtch e (rest.filter (fun p => e.block.contains p))
  else if rest.isEmpty then
    let s2 := s1.bump K.ETCHES
    (if e.cause = 4 then s2.bump K.PF_ETCHES else s2).endEtch e []
  else s1.startPage { e with todo := rest, index := e.index + 1 }

/-- A page's program and COMMIT end (Table 11.6): on a failure the block is retired and the page written once more; on a
second failure kind 0x03 is raised on channel `ch` and the page stays dirty. -/
def State.etchPageCommit (s : State) (ok : Bool) (ch : Nat) : State :=
  match s.store.etch with
  | none => s
  | some e =>
    match e.todo with
    | [] => s
    | p :: rest =>
      if e.phase = .starting ∨ s.fab.tick < e.due then s
      else if ok then
        let s1 := s.programPage e p
        let s2 := s1.setLive K.ETCH_DONE (s1.obj K.ETCH_DONE + 1)
        (s2.bump K.PAGES_ETCHED).afterPage e rest []
      else if e.retry then
        let medium := 1 + (s.store.etchTarget p).1
        (s.raise (0x60 + ch) 0x03 (storeAddr p medium 0)).afterPage e rest [p]
      else if e.phase = .stopping then s.afterPage e rest [p]
      else { s with store := { s.store with etch := some { e with retry := true, due := s.fab.tick + 8192 } } }

/-- ETCH_ABORT: stop a running etch of cause 0x01 or 0x02 (Table 11.6). -/
def State.abortEtch (s : State) : State :=
  match s.store.etch with
  | some e => if e.cause = 1 ∨ e.cause = 2 then (s.stopEtch false).etchIdle else s
  | none => s

/-- VHU below HU_ABORT stops an etch that is writing (Table 11.6); under freeze the store is halted. -/
def State.huAbort (s : State) : State :=
  match s.store.etch with
  | some e =>
    if s.frozen = none ∧ e.phase = .writing ∧ Int.ofNat (s.quick 3) < s.objI K.HU_ABORT then s.stopEtch true else s
  | none => s

/-- AUTO_DELAY after the auto-etch timer started, post the auto etch (R308). -/
def State.autoEtchDue (s : State) : State :=
  match s.store.autoFrom with
  | some t =>
    if t + usTicks (s.obj K.AUTO_DELAY) ≤ s.fab.tick ∧ s.lanes.queued .etch 2 = false
        ∧ s.store.waiting.any (fun w => w.cause == 2) = false ∧ s.store.etch.all (fun e => e.cause != 2) then
      s.postEtch 2 scopeP01 []
    else s
  | none => s

/-! ### Error correction (R305) -/

/-- The number of an 8-byte group of working memory, from page, channel and group. -/
def groupNo (page ch group : Nat) : Nat := (page * 16384 + ch * 2048 + group * 8) / 8

/-- Ticks of one pass of the patrol: 10 s (R305). -/
def patrolTicks : Nat := 2000000000

/-- Raise kind 0x01 once per page, channel and medium on each pass (R305). A pass of the patrol is 10 s of the tick counter; a pass of
scrub ends with its last step (`scrubPassed`). -/
def State.correctedOnce (s : State) (page ch medium group : Nat) : State :=
  let start := s.fab.tick - s.fab.tick % patrolTicks
  let seen := if s.store.eccFrom = start then s.store.eccSeen else s.store.eccSeen.filter (fun k => k % 4 != 0)
  let key := (page * 8 + ch) * 4 + medium
  let s1 := { s with store := { s.store with eccFrom := start, eccSeen := if seen.contains key then seen else key :: seen } }
  if seen.contains key then s1 else s1.raise (0x60 + ch) 0x01 (storeAddr page medium group)

/-- The patrol meets a correctable or an uncorrectable group of working memory (R305). -/
def State.eccPatrol (s : State) (page ch group : Nat) (bad : Bool) : State :=
  if bad then
    let s1 := (s.bump K.ECC_UNCORRECTABLE).raise (0x60 + ch) 0x02 (storeAddr page 0 group)
    { s1 with store := { s1.store with bad := nins s1.store.bad (groupNo page ch group) } }
  else (s.bump K.ECC_CORRECTED).correctedOnce page ch 0 group

/-- Take a page's contents into working memory: its bytes, and the class P and C values homed in it; a value that the contents do not
hold takes its Default (R319). -/
def State.loadPage (s : State) (p : Nat) (d : PageData) : State :=
  let mem := (d.cells.filter (fun c => pageOf c.1 == p)).foldl (fun m c => memSet m c.1 c.2)
    (s.mem.filter (fun c => pageOf c.1 != p))
  let s1 := { s with mem := mem, store := { s.store with bad := s.store.bad.filter (fun g => g * 8 / 16384 != p) } }
  let put (m : FMap Nat) : FMap Nat := d.vals.foldl (fun m kv => fset m kv.1 kv.2) m
  let gone := (s.pageVals p).map Prod.fst
  let keep (m : FMap Nat) : FMap Nat := m.filter (fun kv => !gone.contains kv.1)
  if p < 128 ∧ p / 64 ≠ s.area then { s1 with otherArea := put (keep s1.otherArea) }
  else { s1 with objs := put (keep s1.objs) }

/-- Reload a clean page that holds an uncorrectable group from what recall would choose (R305). -/
def State.pageReload (s : State) (p : Nat) : State :=
  if s.store.bad.any (fun g => g * 8 / 16384 == p) && !s.store.dirty.contains p then s.loadPage p (s.store.recallChoice p).data
  else s

/-! ### Scrub (R324) -/

/-- Spacing of scrub steps in ticks: SCRUB_PERIOD / 65,536 s. -/
def State.scrubSpacing (s : State) : Nat := s.obj K.SCRUB_PERIOD * 200000000 / 65536

/-- Post the scrub step that has fallen due, as a level 4 request on the channel whose stripe it reads (Table 1.7). -/
def State.postScrub (s : State) : State :=
  if s.store.recalling = false ∧ s.store.scrubDue ≤ s.fab.tick ∧ s.lanes.queued .scrub 0 = false
      ∧ s.lanes.laneOf .scrub 0 = none then
    ({ s with store := { s.store with scrubDue := s.store.scrubDue + s.scrubSpacing } }).postLane .scrub 4
      (0x60 + s.store.scrubAt % 8) 0 0 []
  else s

/-- Is a copy weak (R324), by what the latest reading of each of its stripes found? A blank copy is not sound (R319) and so is weak. -/
def copyWeak (limit : Nat) (c : Option Copy) : Bool :=
  match c with
  | some x => !x.hdrOk || x.uncorr || x.stripes.any (fun y => decide (limit ≤ y.2.corrected))
  | none => true

/-- The next step of scrub; with the last of a pass, a new pass begins. -/
def State.scrubPassed (s : State) (pos : Nat) : State :=
  let s1 := { s with store := { s.store with scrubAt := (pos + 1) % 65536 } }
  if pos + 1 = 65536 then
    ({ s1 with store := { s1.store with eccSeen := s1.store.eccSeen.filter (fun k => k % 4 == 0) } }).bump K.SCRUB_PASSES
  else s1

/-- A scrub step reads one stripe: page, copy, channel in that order. It counts and reports what it corrects (R305). A weak copy
marks the page dirty and posts a cause 0x06 etch. -/
def State.scrubStep (s : State) (corrected : Nat) (uncorrectable : Bool) (group : Nat) : State :=
  match s.lanes.laneOf .scrub 0 with
  | none => s
  | some lane =>
    let pos := s.store.scrubAt
    let page := pos / 16
    let side := pos / 8 % 2
    let ch := pos % 8
    if s.store.busyPage = some page then s
    else
      let s1 := s.freeLane lane
      let s2 := match s1.store.copy page side with
        | some c => { s1 with store := { s1.store with
            shadow := fset s1.store.shadow (2 * page + side)
              { c with stripes := fset c.stripes ch ⟨corrected, uncorrectable, group⟩ } } }
        | none => s1
      let s3 := if 0 < corrected then
          (s2.setPers K.ECC_CORRECTED (sat32 (s2.obj K.ECC_CORRECTED + corrected))).correctedOnce page ch (1 + side) group
        else s2
      let weak := copyWeak (s3.obj K.SCRUB_LIMIT) (s3.store.copy page side)
      let s4 := s3.scrubPassed pos
      let old := s4.store.infoOf page
      let s5 := { s4 with store := { s4.store with
        info := fset s4.store.info page { old with weak := if weak then nins old.weak side else ndel old.weak side } } }
      if weak then ({ s5 with store := s5.store.touch page }).postEtch 6 0 [page] else s5

/-! ### Operating time (R323) -/

/-- Every 200,000 ticks OP_TIME is incremented by the three-step add. While recall runs no block writes working memory
(R319), so the additions of that time follow its end. -/
def State.opTimeAdd (s : State) : State :=
  if s.store.recalling = false ∧ s.store.opDue ≤ s.fab.tick then
    ({ s with store := { s.store with opDue := s.store.opDue + 200000 } }).wideAdd K.OP_TIME_LO 1
  else s

/-! ### Recall (R319 to R321) -/

/-- Values kept in two cells (R322, R323, Table 12.6, Table 15.9). -/
def wideKeys : List Nat :=
  [K.OP_TIME_LO, K.HANDED, K.ENTERED, K.RETIRED, K.WINDOW_COUNT, K.FROZEN_TIME]
  ++ (List.range 64).map K.ENERGY_LO ++ (List.range 64).map K.SINK_ENERGY

/-- Pages that have a copy. -/
def Store.copiedPages (t : Store) : List Nat := t.shadow.foldl (fun l c => nins l (c.1 / 2)) []

/-- What recall reports of one copy: kind 0x01 for each stripe that it corrects, kind 0x02 for each uncorrectable group (Table 11.14),
and kind 0x04 if the copy is neither blank nor sound (R319). -/
def State.recallCopy (s : State) (p i : Nat) : State :=
  match s.store.copy p i with
  | none => s
  | some c =>
    let s1 := c.stripes.foldl (fun st y =>
      let st1 := if 0 < y.2.corrected then st.raise (0x60 + y.1) 0x01 (storeAddr p (1 + i) y.2.group) else st
      if y.2.bad then st1.raise (0x60 + y.1) 0x02 (storeAddr p (1 + i) y.2.group) else st1) s
    if c.sound then s1 else s1.raise 0x60 0x04 (storeAddr p (1 + i) 0)

/-- Recall one page (R319): its source, contents and kinds. -/
def State.recallPage (s : State) (p : Nat) : State :=
  let ch := s.store.recallChoice p
  let s3 := ((s.recallCopy p 0).recallCopy p 1).loadPage p ch.data
  let rolled := s.store.isVoid p 0 || s.store.isVoid p 1
  let s4 := { s3 with store := { s3.store with info := fset s3.store.info p ⟨ch.source, ch.tie, rolled, [], ch.seq⟩ } }
  let s5 := if ch.tie then s4.raise 0x60 0x10 (p * 4096) else s4
  if ch.source = 3 then
    if p < 192 then s5.raise 0x60 0x14 (p * 4096) else s5.raise 0x60 0x04 (storeAddr p 3 0)
  else s5

/-- Where the rollback re-etch writes a page (R320): over its void copy, COPY_SEQ one above the void one; a page of the block that is not
rolled back goes where R307 puts it. -/
def Store.reEtchTarget (t : Store) (p : Nat) : Nat × Count :=
  let onto (i : Nat) : Nat × Count := (i, ((t.copy p i).map Copy.copySeq).getD 0 + 1)
  if t.isVoid p 0 then onto 0 else if t.isVoid p 1 then onto 1 else t.etchTarget p

/-- The request of the rollback re-etch: KIND 0x6, level 0 (R308, Table 11.4). -/
def reEtchReq (tick : Nat) (rolled : List Nat) : LaneReq :=
  { kind := .etch, base := 0, eff := 0, target := 0x60, ref := 5, mask := 0, pages := rolled, posted := tick, denials := 0,
    promoted := false, waitCounted := false }

/-- The rollback re-etch (R320), an etch of cause 0x05 (Table 11.4) with its ETCH_SEQ, block, log entry and counts (R309, R310); its shared
lane is the lowest free one. It is not refused: "recall re-etches every rolled-back page". -/
def State.reEtch (s0 : State) (rolled : List Nat) : State :=
  let lane := s0.lanes.lowestFree.getD 64
  let s := s0.placeOnLane lane (reEtchReq s0.fab.tick rolled)
  let seq := (s.obj K.ETCH_SEQ + 1) % 2 ^ 32
  let s1 := (s.setPers K.ETCH_SEQ seq).setLive K.ETCH_CAUSE 5
  let s2 := { s1 with store := (128 :: rolled).foldl Store.touch s1.store }
  let block := s2.etchBlock scopeP01 []
  let n := block.length
  let eAvail := if s2.onReserve then s2.eAvail else 0
  let e : Etch := {
    phase := .writing, cause := 5, base := 0, mask := 0, pages := rolled, followOn := false, onReserve := s2.onReserve,
    seq := BitVec.ofNat 32 seq, eAvail := eAvail, maxPages := n, admitted := n, lane := lane, due := s2.fab.tick, todo := [],
    block := block, blockN := n, index := 0, snap := [], retry := false, short := false, vhuStop := false }
  let s3 := s2.writeBytes (etchLogAddr seq) (etchLogEntry e n n n s2.now)
  let e1 := { e with snap := block.foldl (fun m p => fset m p (s3.pageData p)) [] }
  let s4 := block.foldl (fun st p => st.writeCopy e1 p (s3.store.reEtchTarget p)) s3
  let s5 := [(K.ETCH_E_AVAIL, eAvail), (K.ETCH_LISTED, n), (K.ETCH_ADMITTED, n), (K.ETCH_DONE, n),
    (K.ETCH_COST, etchFixed + pageCost * n)].foldl (fun st kv => st.setLive kv.1 kv.2) s4
  let s6 := { s5 with store := { s5.store with dirty := s5.store.dirty.filter (fun p => !block.contains p) } }
  ((s6.bump K.ETCHES).addCount K.PAGES_ETCHED n).freeLane lane

/-- Recover a multi-cell value (R322). -/
def State.recoverWide (s : State) (key : Nat) : State :=
  let g := s.obj (H.cellLo key)
  if nbit g 32 then
    let v := s.wide key
    let s1 := s.wideSet key v
    let page := homePage s.area (H.cellLo key)
    let grp := if key = K.OP_TIME_LO then 0 else Config.objectPlace (H.cellLo key) % 2048
    (s1.raise 0x60 0x13 (page * 4096 + grp)).bump K.COUNTER_RECOVERIES
  else s

/-- The latest etch log entry, as recalled: ETCH_SEQ, CAUSE, ADMITTED. -/
def State.lastLogEntry (s : State) : Nat × Nat × Nat :=
  let a := etchLogAddr (s.obj K.ETCH_SEQ)
  let bs := s.readBytes a 32
  (leAt bs 0 4, leAt bs 4 1, leAt bs 10 2)

/-- Pages in the order of recall (R319): P1, then P0, then the others. -/
def recallOrder (pages : List Nat) : List Nat :=
  pages.filter (fun p => decide (128 ≤ p) && decide (p < 192)) ++ pages.filter (fun p => decide (p < 128))
  ++ pages.filter (fun p => decide (192 ≤ p))

/-- Groups that recall corrects, and uncorrectable groups that it meets, over all copies. -/
def Store.groupsCorrected (t : Store) : Nat := t.shadow.foldl (fun n c => c.2.stripes.foldl (fun m y => m + y.2.corrected) n) 0
def Store.groupsBad (t : Store) : Nat := t.shadow.foldl (fun n c => n + (c.2.stripes.filter (fun y => y.2.bad)).length) 0

/-- Store recall (R319 to R321), up to POWER_CYCLES and the auto-etch timer. The rollback re-etch writes what was recalled, before
anything is counted. -/
def State.storeRecall (s : State) : State :=
  let order := recallOrder s.store.copiedPages
  let s1 := order.foldl State.recallPage s
  let lost := (order.filter (fun p => (s1.store.infoOf p).source == 3)).length
  let ties := (order.filter (fun p => (s1.store.infoOf p).tie)).length
  let rolled := order.filter (fun p => (s1.store.infoOf p).rolledBack)
  let log := s1.lastLogEntry
  let doneOfLog := (s1.store.shadow.filter (fun c => c.2.done && c.2.etchSeq.toNat == log.1
    && !s1.store.isVoid (c.1 / 2) (c.1 % 2))).length
  let incomplete := !rolled.isEmpty || (decide (log.1 = s1.obj K.ETCH_SEQ) && decide (doneOfLog < log.2.2))
  let s2 := if incomplete then s1.raise 0x60 0x12 (doneOfLog * 2048 + log.2.1) else s1
  let s3 := if rolled.isEmpty then s2 else s2.reEtch rolled
  let s4 := [(K.PAGES_LOST, lost), (K.COPY_TIES, ties), (K.INCOMPLETES, b2n incomplete), (K.ROLLBACKS, b2n (!rolled.isEmpty)),
    (K.ECC_CORRECTED, s.store.groupsCorrected), (K.ECC_UNCORRECTABLE, s.store.groupsBad)].foldl
      (fun st kv => st.addCount kv.1 kv.2) s3
  let carried := wideKeys.any (fun k => nbit (s4.obj (H.cellLo k)) 32)
  let s5 := wideKeys.foldl State.recoverWide s4
  let flags := b2n (!rolled.isEmpty) + 2 * b2n incomplete + 4 * min ties 1 + 8 * min lost 1 + 16 * b2n carried
  let s6 := ((s5.bump K.POWER_CYCLES).setLive K.RECALL_FLAGS flags).setLive K.RECALL_TIME (min 120000 (s.fab.tick / 200))
  ({ s6 with store := { s6.store with recalling := false } }).startAutoTimer

/-! ### The data port (R325, R326) -/

/-- A byte as the data port shows it: cells and POWER_CYCLES in page 128 (R303), objects in pages whose layout is open, and
working memory elsewhere. -/
def State.portByte (s : State) (a : Nat) : Byte :=
  let p := pageOf a
  let b := a % 16384
  if p < 128 then
    if p % 64 < 3 then memByte s.mem a else Config.objectByte a (s.pageVals p)
  else if p = 128 then
    if b < 8 then (leBytes 8 (s.obj (H.cellLo K.OP_TIME_LO))).getD b 0#8
    else if b < 16 then (leBytes 8 (s.obj (H.cellHi K.OP_TIME_LO))).getD (b - 8) 0#8
    else if b < 20 then (leBytes 4 (s.obj K.POWER_CYCLES)).getD (b - 16) 0#8
    else if b < 8192 then Config.objectByte a (s.pageVals p)
    else memByte s.mem a
  else if p < 144 then Config.objectByte a (s.pageVals p)
  else memByte s.mem a

/-- `n` bytes as the data port shows them. -/
def State.portRead (s : State) (a n : Nat) : List Byte :=
  match n with
  | 0 => []
  | k + 1 => s.portByte a :: s.portRead (a + 1) k

/-- Does a span touch the busy page (R312)? -/
def State.spanBusy (s : State) (a n : Nat) : Bool :=
  match s.store.busyPage with
  | some p => (spanPages a n).contains p
  | none => false

/-- DP_ADDR after an access of n bytes (R325). -/
def dpNext (a n : Nat) : Nat := (a + n) % 0x04000000

/-- A read that meets uncorrectable groups raises kind 0x02 for each (R326). -/
def State.readBadGroups (s : State) (a n : Nat) : State :=
  let hit := s.store.bad.filter (fun g => decide (g * 8 < a + n) && decide (a < g * 8 + 8))
  hit.foldl (fun st g => st.raise (0x60 + g * 8 % 16384 / 2048) 0x02 (storeAddr (g * 8 / 16384) 0 (g % 256))) s

/-- A data-port write stores its bytes and clears the uncorrectable groups it covers (R326). -/
def State.portWrite (s : State) (a : Nat) (bs : List Byte) : State :=
  let s1 := s.writeBytes a bs
  { s1 with store := { s1.store with
    bad := s1.store.bad.filter (fun g => !(decide (a ≤ g * 8 + 7) && decide (g * 8 < a + bs.length))) } }

/-- STORE_STATE (0x6000.01). -/
def State.storeState (s : State) : Nat :=
  if s.store.recalling then 0
  else match s.store.etch with
    | none => 1
    | some e => match e.phase with
      | .starting => 2 | .writing => 3 | .stopping => 4

/-- PAGE_INFO (Table 11.13). -/
def State.pageInfo (s : State) (p : Nat) : Nat :=
  let i := s.store.infoOf p
  2 ^ 31 * b2n (s.store.dirty.contains p) + 2 ^ 30 * b2n (s.store.busyPage == some p) + 2 ^ 28 * i.source
  + 2 ^ 27 * b2n i.tie + 2 ^ 26 * b2n i.rolledBack + 2 ^ 25 * b2n (!i.weak.isEmpty) + i.seq.toNat % 65536

end Sys2Proof.Machine
end

