-- ==== Sys2Proof/Machine/Ledger.lean ====
section
/-! DEFINITION. The ledger (spec/12): records, the entry rule, the first-fault area, links, reconciliation, clearing. -/

namespace Sys2Proof.Machine

/-- A record or first-fault entry (Table 12.2). -/
structure Rec where
  rseq : Nat
  type : Nat
  flags : Nat
  tag : Nat
  body : Nat
  beat : Nat
  offset : Nat
  lastBeat : Nat
  lastOffset : Nat
  count : Nat
  opTime : Nat
  powerCycle : Nat
  episode : Nat
  linkSeq : Nat
  linkBeat : Nat
  deriving DecidableEq, Repr

/-- The 64 bytes of a record, its CRC last (Table 12.2). -/
def Rec.bytes (r : Rec) : List Byte :=
  let b := packLE [(4, r.rseq), (1, r.type), (1, r.flags), (1, r.tag), (1, 0), (8, r.body), (4, r.beat), (4, r.offset),
    (4, r.lastBeat), (4, r.lastOffset), (4, r.count), (8, r.opTime), (4, r.powerCycle), (4, r.episode), (4, r.linkSeq),
    (4, r.linkBeat)]
  b ++ leBytes 4 (crc32c b).toNat

/-- The record that 64 bytes hold, if its CRC matches. -/
def parseRec (bs : List Byte) : Option Rec :=
  if leAt bs 60 4 = (crc32c (bs.take 60)).toNat then
    some { rseq := leAt bs 0 4, type := leAt bs 4 1, flags := leAt bs 5 1, tag := leAt bs 6 1, body := leAt bs 8 8,
           beat := leAt bs 16 4, offset := leAt bs 20 4, lastBeat := leAt bs 24 4, lastOffset := leAt bs 28 4,
           count := leAt bs 32 4, opTime := leAt bs 36 8, powerCycle := leAt bs 44 4, episode := leAt bs 48 4,
           linkSeq := leAt bs 52 4, linkBeat := leAt bs 56 4 }
  else none

/-- Address of the slot of record r (R330). -/
def recAddr (r : Nat) : Nat := 0x00300000 + 64 * (r % 131072)

/-- Records in the window (0x6800.04). -/
def State.records (s : State) : Nat := u32Sub (s.obj K.NEXT_RSEQ) (s.obj K.OLDEST_RSEQ)

/-- Does record r lie in the window [OLDEST_RSEQ, NEXT_RSEQ)? -/
def State.inWindow (s : State) (r : Nat) : Bool :=
  decide (u32Sub r (s.obj K.OLDEST_RSEQ) < s.records)

/-- The window's record r; none for a void slot (R330). -/
def State.readRec (s : State) (r : Nat) : Option Rec :=
  if s.inWindow r then
    (parseRec (s.readBytes (recAddr r) 64)).filter (fun x => x.rseq == r && (x.type == 1 || x.type == 2))
  else none

/-- FLAGS bits (Table 12.3). -/
def flagReal : Nat := 128
def flagInjected : Nat := 64
def flagCoincident : Nat := 32
def flagFolded : Nat := 16
def flagOverflow : Nat := 8
def flagFirst : Nat := 4
def flagLinked : Nat := 2
def flagClaim : Nat := 1

/-- REAL or INJECTED, by the message word. -/
def originFlag (word : Nat) : Nat := if nbit word 23 then flagInjected else flagReal

/-- Source of a message word (Table 10.1). -/
def wordSource (w : Nat) : Nat := field w 63 56

/-- The latest record of a source, if it lies in the window (R337). -/
def State.latestOf (s : State) (src : Nat) : Option Nat :=
  let v := s.obj (H.latestRseq src)
  if v = 0 then none else if s.inWindow (v - 1) then some (v - 1) else none

/-- May the ledger make an entry: cores running, reconciled, not suspended (R332, R333, R343)? -/
def State.ledgerReady (s : State) : Bool :=
  s.coresUp && !s.ledger.reconciling && !s.ledger.suspended && !s.store.recalling
  && (s.phase == .cores || s.phase == .joining || s.phase == .running)

/-- The fields a new record takes on the entry tick (R338). -/
def State.blankRec (s : State) (rseq : Nat) : Rec :=
  { rseq := rseq, type := 1, flags := 0, tag := s.obj K.REBASES % 256, body := 0, beat := 0, offset := 0, lastBeat := 0,
    lastOffset := 0, count := 1, opTime := s.wide K.OP_TIME_LO, powerCycle := s.obj K.POWER_CYCLES,
    episode := s.obj K.EPISODE, linkSeq := 0xFFFFFFFF, linkBeat := 0 }

/-- Retire the oldest record when the window is full (R331). -/
def State.retireOldest (s : State) : State :=
  if s.records < 131072 then s
  else
    let r := s.obj K.OLDEST_RSEQ
    let old := s.readRec r
    let n := (old.map Rec.count).getD 0
    let s1 := s.wideAdd K.RETIRED n
    let s2 := s1.wideSet K.WINDOW_COUNT (s1.wide K.WINDOW_COUNT - n)
    let s3 := match old with
      | some x =>
        if x.type = 1 ∧ s2.obj (H.latestRseq (wordSource x.body)) = r + 1 then
          s2.setPers (H.latestRseq (wordSource x.body)) 0
        else s2
      | none => s2
    s3.setPers K.OLDEST_RSEQ ((r + 1) % 2 ^ 32)

/-- Is a tick in the link span [F − 8,323,072, F) (R342)? -/
def linkCovers (freeze t : Nat) : Bool := decide (freeze ≤ t + 8323072) && decide (t < freeze)

/-- Does one of a record's stamps lie in the span? -/
def RecTick.inSpan (q : RecTick) (freeze : Nat) : Bool := q.first.any (linkCovers freeze) || linkCovers freeze q.last

/-- A record linked to the freeze that TRIG_SEQ and TRIG_BEAT name (R342). -/
def State.linked (s : State) (x : Rec) : Rec :=
  { x with flags := x.flags ||| flagLinked, linkSeq := s.obj K.TRIG_SEQ, linkBeat := s.obj K.TRIG_BEAT }

/-- Link a record about to be written, if one of its stamps lies in the span (R342). -/
def State.linkIf (s : State) (x : Rec) (q : RecTick) : Rec := if s.ledger.link.any q.inSpan then s.linked x else x

/-- Keep the ticks of the records of the window, and the records of the last 16,384 messages: a coincident message is handed on within
200,000 ticks of its partner (R296), which is 5,000 entries (R335) beside the 4,096 of the buffer. -/
def State.pruneRecents (s : State) : State :=
  { s with ledger := { s.ledger with
    recents := s.ledger.recents.filter (fun r => s.inWindow r.rseq),
    enteredAt := s.ledger.enteredAt.drop (s.ledger.enteredAt.length - 16384) } }

/-- Write a new record at NEXT_RSEQ, in one paired write with the head (R331, R332). -/
def State.newRec (s : State) (f : Rec → Rec) (tick : Nat) : State :=
  let s1 := s.retireOldest
  let r := s1.obj K.NEXT_RSEQ
  let q : RecTick := ⟨r, some tick, tick⟩
  let x := s1.linkIf (f (s1.blankRec r)) q
  let s2 := s1.writeBytes (recAddr r) x.bytes
  let s3 := s2.setPers K.NEXT_RSEQ ((r + 1) % 2 ^ 32)
  let s4 := (s3.wideAdd K.ENTERED x.count).wideAdd K.WINDOW_COUNT x.count
  ({ s4 with ledger := { s4.ledger with recents := s4.ledger.recents ++ [q], lastEntry := s4.fab.tick } }).pruneRecents

/-- A repeat on record r (Table 12.1): COUNT + n, flags, and the last stamp where the row moves it. A record of an earlier power cycle
has a tick from then on. -/
def State.repeatRec (s : State) (r : Nat) (x : Rec) (n flags : Nat) (st : Option Stamp) : State :=
  let old := s.ledger.recents.find? (fun q => q.rseq == r)
  let q1 : Option RecTick := match st with
    | some t => some ⟨r, old.bind RecTick.first, t.tick⟩
    | none => old
  let x1 := { x with
    count := x.count + n, flags := x.flags ||| flags,
    lastBeat := match st with | some q => q.beat.toNat | none => x.lastBeat,
    lastOffset := match st with | some q => q.offset | none => x.lastOffset }
  let x2 := match q1 with
    | some q => s.linkIf x1 q
    | none => x1
  let s1 := s.writeBytes (recAddr r) x2.bytes
  let s2 := (s1.wideAdd K.ENTERED n).wideAdd K.WINDOW_COUNT n
  let s3 := match st with
    | some q => if s2.obj (H.latestRseq (wordSource x.body)) = r + 1 then s2.setPers (H.latestTick (wordSource x.body)) q.tick
        else s2
    | none => s2
  { s3 with ledger := { s3.ledger with
    recents := s3.ledger.recents.filter (fun q => q.rseq != r) ++ q1.toList,
    lastEntry := s3.fab.tick } }

/-- Note the record in which the entry with a hand-off order went (for its coincident partner, R296). -/
def State.noteEntered (s : State) (order r : Nat) : State :=
  { s with ledger := { s.ledger with enteredAt := s.ledger.enteredAt ++ [(order, r)] } }

/-- A new record of a message: it becomes the latest record of its source (R337, R338). -/
def State.newMessageRec (s : State) (h : Hand) : State :=
  let src := wordSource h.word
  let f (x : Rec) : Rec := { x with
    body := h.word, flags := originFlag h.word, beat := h.stamp.beat.toNat, offset := h.stamp.offset,
    lastBeat := h.stamp.beat.toNat, lastOffset := h.stamp.offset }
  let s1 := s.newRec f h.stamp.tick
  let r := u32Sub (s1.obj K.NEXT_RSEQ) 1
  ((s1.setPers (H.latestRseq src) (r + 1)).setPers (H.latestTick src) h.stamp.tick).noteEntered h.order r

/-- Row 2 of Table 12.1: a folded message, or an overflow count of n, on the latest record of its source, or a new record
with address 0 and the entry tick as both stamps. -/
def State.enterCount (s : State) (src n flag word : Nat) : State :=
  let fresh (st : State) : State :=
    let f (x : Rec) : Rec := { x with
      body := word, flags := flag ||| (if flag = flagFolded then originFlag word else 0), count := n,
      beat := st.now.beat.toNat, offset := st.now.offset, lastBeat := st.now.beat.toNat, lastOffset := st.now.offset }
    let s1 := st.newRec f st.fab.tick
    let r := u32Sub (s1.obj K.NEXT_RSEQ) 1
    (s1.setPers (H.latestRseq src) (r + 1)).setPers (H.latestTick src) st.fab.tick
  match s.latestOf src with
  | some r => match s.readRec r with
    | some x =>
      if 0xFFFFFFFF < x.count + n then fresh s
      else s.repeatRec r x n (flag ||| (if flag = flagFolded then originFlag word else 0)) none
    | none => fresh s
  | none => fresh s

/-- Row 4 of Table 12.1: source, kind, address, injected and acted bits, class and phase equal, and the stamp at or less than
REPEAT_WINDOW after the latest record's last stamp. -/
def State.repeats (s : State) (h : Hand) (x : Rec) : Bool :=
  let w := s.obj K.REPEAT_WINDOW
  let last := s.obj (H.latestTick (wordSource h.word))
  decide (w ≠ 0) && h.word / 2 ^ 18 == x.body / 2 ^ 18 && x.type == 1
  && decide (last ≤ h.stamp.tick) && decide (h.stamp.tick < last + usTicks w)

/-- Enter one hand-off entry by Table 12.1. -/
def State.enterHand (s : State) (h : Hand) : State :=
  let src := wordSource h.word
  let partnerRec : Option (Nat × Rec) :=
    match h.partner with
    | none => none
    | some o => match s.ledger.enteredAt.find? (fun p => p.1 == o) with
      | none => none
      | some p => (s.readRec p.2).map (fun x => (p.2, x))
  let latest : Option (Nat × Rec) :=
    match s.latestOf src with
    | none => none
    | some r => (s.readRec r).map (fun x => (r, x))
  match partnerRec with
  | some (r, x) =>
    if x.count < 0xFFFFFFFF then
      (s.repeatRec r x 1 (flagCoincident ||| originFlag h.word) (some h.stamp)).noteEntered h.order r
    else s.newMessageRec h
  | none =>
    if h.folded then s.enterCount src 1 flagFolded (h.word - h.word % 2 ^ 48 + h.word % 2 ^ 24)
    else if h.opening then s.newMessageRec h
    else match latest with
      | some (r, x) =>
        if s.repeats h x && decide (x.count < 0xFFFFFFFF) then
          (s.repeatRec r x 1 (originFlag h.word) (some h.stamp)).noteEntered h.order r
        else s.newMessageRec h
      | none => s.newMessageRec h

/-- A SYSTEM record (Table 12.4). -/
def State.systemRec (s : State) (body count : Nat) : State :=
  let f (x : Rec) : Rec := { x with
    type := 2, body := body, count := count, beat := s.now.beat.toNat, offset := s.now.offset,
    lastBeat := s.now.beat.toNat, lastOffset := s.now.offset }
  s.newRec f s.fab.tick

/-- LEDGER_ENTRY: the CORE_RESTART record first (R344), then the next buffer entry, then overflow counts of the lowest
source while the buffer is empty (R335, R336). -/
def State.ledgerEntry (s : State) : State :=
  if s.ledgerReady ∧ s.ledger.lastEntry + 40 ≤ s.fab.tick then
    match s.ledger.restartCauses with
    | c :: r => ({ s with ledger := { s.ledger with restartCauses := r } }).systemRec (2 + 256 * c) 0
    | [] => match s.ledger.buffer with
      | h :: r => ({ s with ledger := { s.ledger with buffer := r } }).enterHand h
      | [] => match s.ledger.overflow with
        | (src, n) :: r => ({ s with ledger := { s.ledger with overflow := r } }).enterCount src n flagOverflow (src * 2 ^ 56)
        | [] => s
  else s

/-- The collector hands a message on (R334): HANDED + 1; a full buffer counts it as overflow (R335). -/
def State.handOff (s : State) (word : Nat) (st : Stamp) (folded : Bool) (partner : Option Nat) (opening : Bool) : State :=
  let order := s.wide K.HANDED
  let s1 := s.wideAdd K.HANDED 1
  if 4096 ≤ s1.ledger.buffer.length then
    let src := wordSource word
    let s2 := s1.bump K.OVERFLOWS
    { s2 with ledger := { s2.ledger with overflow := fset s2.ledger.overflow src (fget s2.ledger.overflow src 0 + 1) } }
  else { s1 with ledger := { s1.ledger with buffer := s1.ledger.buffer ++ [⟨order, word, st, folded, partner, opening⟩] } }

/-- OVERFLOW_PENDING (0x6800.0A). -/
def Ledger.overflowPending (l : Ledger) : Nat := l.overflow.foldl (fun a p => a + p.2) 0

/-- Slot of an episode's entry in the first-fault area (R339), if it has one. -/
def ffSlot (episode base : Nat) : Option Nat :=
  let k := u32Sub episode base
  if 1 ≤ k ∧ k ≤ 64 then some (k - 1)
  else if 65 ≤ k ∧ k < 2 ^ 31 then some (64 + (k - 65) % 8128)
  else none

/-- Data-port address of a first-fault slot, of the 8,192 (R339). -/
def ffAddr (slot : Nat) : Nat := 0x00240000 + 64 * (slot % 8192)

/-- The valid first-fault entry of an episode (R339). -/
def State.readFF (s : State) (episode : Nat) : Option Rec :=
  match ffSlot episode (s.obj K.FF_BASE) with
  | none => none
  | some j => (parseRec (s.readBytes (ffAddr j) 64)).filter (fun x => x.type == 3 && x.episode == episode)

/-- The first-fault entry of a candidate (Table 12.4): the record form, with RSEQ 0xFFFFFFFF until the ledger marks the record. -/
def State.ffRec (s : State) (c : Candidate) (episode : Nat) (linkNow : Bool) : Rec :=
  { s.blankRec 0xFFFFFFFF with
    type := 3, flags := originFlag c.word ||| flagFirst ||| (if c.claimRail.isSome then flagClaim else 0)
      ||| (if linkNow then flagLinked else 0),
    body := c.word, beat := c.stamp.beat.toNat, offset := c.stamp.offset, lastBeat := c.rank.beat.toNat,
    lastOffset := c.rank.offset, count := 1, episode := episode,
    linkSeq := if linkNow then s.obj K.TRIG_SEQ else 0xFFFFFFFF, linkBeat := if linkNow then s.obj K.TRIG_BEAT else 0 }

/-- The collector writes an episode's first fault (R340). -/
def State.writeFF (s : State) (c : Candidate) (episode : Nat) : State :=
  match ffSlot episode (s.obj K.FF_BASE) with
  | none => s
  | some j => s.writeBytes (ffAddr j) (s.ffRec c episode (s.ring.started && s.ring.state != .running)).bytes

/-- Is the message of a first fault still on its way: in flight, in the collector's queue, or in the buffer (R341)? -/
def State.markWaits (s : State) (m : FirstMark) : Bool :=
  s.ledger.buffer.any (fun h => h.word == m.word && h.stamp == m.stamp)
  || s.coll.queue.any (fun q => q.msg.stamp == m.stamp && q.msg.source == wordSource m.word)

/-- LEDGER_FIRST_MARK (R341): FIRST in the record that holds the message, and its RSEQ in the entry. -/
def State.firstMark (s : State) : State :=
  match s.ledger.marks with
  | [] => s
  | m :: r =>
    if !s.ledgerReady || s.markWaits m then s
    else
      let s0 := { s with ledger := { s.ledger with marks := r } }
      let hit := s0.ledger.recents.find? (fun q => q.first.all (fun t => decide (t ≤ m.stamp.tick)) && decide (m.stamp.tick ≤ q.last)
        && (s0.readRec q.rseq).any (fun x => x.type == 1 && x.body / 2 ^ 24 == m.word / 2 ^ 24))
      match hit with
      | none => s0
      | some q => match s0.readRec q.rseq, s0.readFF m.episode, ffSlot m.episode (s0.obj K.FF_BASE) with
        | some x, some e, some j =>
          let s1 := s0.writeBytes (recAddr q.rseq) ({ x with flags := x.flags ||| flagFirst }).bytes
          s1.writeBytes (ffAddr j) ({ e with rseq := q.rseq }).bytes
        | some x, _, _ => s0.writeBytes (recAddr q.rseq) ({ x with flags := x.flags ||| flagFirst }).bytes
        | none, _, _ => s0

/-- LEDGER_LINK (R342): link the records of the window whose first or last stamp lies in the span. -/
def State.linkRecords (s : State) : State :=
  match s.ledger.link with
  | none => s
  | some freeze =>
    if !s.ledgerReady then s
    else (s.ledger.recents.filter (fun q => q.inSpan freeze)).foldl (fun st q =>
      match st.readRec q.rseq with
      | some x => st.writeBytes (recAddr q.rseq) (st.linked x).bytes
      | none => st) s

/-- POWER_UP records for a total (R343): one, and further ones for what exceeds 0xFFFFFFFF. -/
def State.powerUpRecs (fuel total body : Nat) (s : State) : State :=
  match fuel with
  | 0 => s
  | f + 1 =>
    let n := min total 0xFFFFFFFF
    let s1 := s.systemRec body n
    if total ≤ 0xFFFFFFFF then s1 else State.powerUpRecs f (total - n) body s1

/-- LEDGER_RECONCILE (R343), which waits while an etch of P2 suspends the ledger (R333). OVERFLOW_PENDING returns to 0; messages of this power cycle that it held are entered with what the POWER_UP
record accounts for, so that both identities of R336 hold (DEDUCED, log entry 65). -/
def State.reconcile (s : State) : State :=
  if s.ledger.reconciling && !s.ledger.suspended && s.coresUp && !s.store.recalling && (s.phase == .cores || s.phase == .joining || s.phase == .running) then
    let base := s.obj K.OLDEST_RSEQ
    let rs := (List.range s.records).map (fun i => (base + i) % 2 ^ 32)
    let good := rs.filterMap s.readRec
    let bad := rs.filter (fun r => (s.readRec r).isNone)
    let sum := good.foldl (fun a x => a + x.count) 0
    let s1 := bad.foldl (fun st r => st.writeBytes (recAddr r) (List.replicate 64 0#8)) s
    let lost := s1.wide K.ENTERED - s1.wide K.RETIRED - sum
    let hr := s1.ledger.recalledHanded + s1.ledger.overflowPending
    let unentered := hr - s1.wide K.ENTERED
    let s2 := s1.wideSet K.WINDOW_COUNT sum
    let body := 1 + 256 * min bad.length 0xFFFF + 2 ^ 24 * s2.obj K.RECALL_FLAGS + 2 ^ 32 * (lost % 2 ^ 32)
    let s3 := State.powerUpRecs ((lost + unentered) / 0xFFFFFFFF + 1) (lost + unentered) body s2
    let s4 := s3.wideSet K.ENTERED hr
    { s4 with ledger := { s4.ledger with reconciling := false, overflow := [] } }
  else s

/-- The CORE_RESTART records that stand out (R344): the ledger's first entries after the cores have started. -/
def State.restartRecs (s : State) : State :=
  s.ledger.restartCauses.foldl (fun st c => st.systemRec (2 + 256 * c) 0) { s with ledger := { s.ledger with restartCauses := [] } }

/-- LEDGER_CLEAR of a scope (R347), by a session on a port; a CORE_RESTART record goes before it (R344). -/
def State.ledgerClear (s0 : State) (scope port : Nat) : State :=
  let s := s0.restartRecs
  let removed := s.records
  let s1 := s.wideSet K.RETIRED (s.wide K.RETIRED + s.wide K.WINDOW_COUNT)
  let s2 := (s1.wideSet K.WINDOW_COUNT 0).setPers K.OLDEST_RSEQ (s1.obj K.NEXT_RSEQ)
  let s3 := if scope = 2 then s2.setPers K.FF_BASE (s2.obj K.EPISODE) else s2
  let s4 := s3.systemRec (3 + 256 * scope + 65536 * port + 2 ^ 32 * removed) 0
  (s4.bump K.CLEARS).postEtch 1 (scopeP01 ||| scopeP2) []

/-- LEDGER_STATE (0x6800.01). -/
def Ledger.stateCode (l : Ledger) : Nat := if l.reconciling then 1 else if l.suspended then 2 else 0

end Sys2Proof.Machine
end

