-- ==== Sys2Proof/Machine/Sinks.lean ====
section
/-! DEFINITION. Sinks and the toll governor (spec/08): accounts, ceilings, requests, grants, trims, metering. -/

namespace Sys2Proof.Machine

/-- Rail numbers. -/
def railNos : List Nat := List.range 64

/-- A rail as it is before the end of start-up: ABSENT, EN released, filters in INSIDE (R141, R403). -/
def Rail.blank : Rail :=
  { state := .absent, timer := 0, slot := none, window := none, turnOnAt := none, depDone := 0,
    dischFrom := 0, below := 0, en := false, noPmb := false, seen := .absent, seenMask := false, movedAt := 0, before := .absent,
    next := [], filters := [] }

/-- Rail n. -/
def State.rail (s : State) (n : Nat) : Rail := fget s.rails n Rail.blank

/-- Replace rail n. -/
def State.setRail (s : State) (n : Nat) (r : Rail) : State := { s with rails := fset s.rails n r }

/-- An idle sink. -/
def Sink.idle : Sink :=
  { use := .idle, fast := false, cmd := 0, cur := 0, slew := 0, power := 0, level := none, want := 0, queued := false,
    posted := 0, order := 0, energy := 0, eWant := 0, ePosted := none, spent := 0, rest := 0, owner := none, loadFrom := 0,
    standby := false, trimmed := false, cut := false, frozen := false, compliance := false, lapsed := false, amps := 0,
    drain := none }

/-- SINK[n]. -/
def State.sink (s : State) (n : Nat) : Sink := fget s.sinks n Sink.idle

/-- Replace SINK[n]. -/
def State.setSink (s : State) (n : Nat) (k : Sink) : State := { s with sinks := fset s.sinks n k }

/-! ### Accounts (Table 8.2) -/

/-- The pool (R232). -/
def pool : Nat := 600

/-- POWER_GRANTED: tolls held by power grants. -/
def State.powerGranted (s : State) : Nat := s.sinks.foldl (fun a p => a + p.2.power) 0

/-- ENERGY_GRANTED: tolls held by energy grants. -/
def State.energyGranted (s : State) : Nat := s.sinks.foldl (fun a p => a + p.2.energy) 0

/-- COOLING: tolls returned from energy grants within the last 10 ms. -/
def Gov.coolingSum (g : Gov) : Nat := g.cooling.foldl (fun a p => a + p.2) 0

/-- ENERGY_CAP (R236). -/
def Gov.energyCap (g : Gov) : Nat := 505 - g.protect

/-- Sum of all accounts (R232). -/
def State.accountSum (s : State) : Nat :=
  s.gov.reserved + s.gov.protect + s.powerGranted + s.energyGranted + s.gov.coolingSum + s.gov.free

/-! ### Ceilings (R233, R235, R237) -/

/-- Is a rail armed (R237)? -/
def RailState.isArmed (r : RailState) : Bool :=
  match r with
  | .ramping => true | .on => true | .stopping => true
  | .absent => false | .off => false | .armed => false | .waiting => false | .discharging => false | .forced => false
  | .locked => false

/-- A: the rails armed or on standby (R237). -/
def State.armedCount (s : State) : Nat :=
  (railNos.filter (fun n => (s.rail n).state.isArmed || (s.sink n).standby)).length

/-- Grant voltage V_g of rail n (R235), in counts of 10 µV. -/
def State.grantVoltage (s : State) (n : Nat) : Nat :=
  let v := s.objI (K.V_NOW n)
  (max (v + Int.fdiv v 16) 40000).toNat

/-- A voltage threshold in force (R135), in counts of 10 µV. -/
def State.voltInForce (s : State) (n key : Nat) : Nat :=
  let r := s.obj (K.SENSE_RANGE n)
  voltCode r (s.obj key) * senseStep r

/-- Standby ceiling c_sb of rail n (R237), in counts of 100 µA; no rail armed leaves the sinks' own range. -/
def State.standbyCeil (s : State) (n : Nat) : Nat :=
  let a := s.armedCount
  if a = 0 then 20000
  else s.gov.protect * 10 ^ 8 / (a * max (s.grantVoltage n) (s.voltInForce n (K.OVF_LEVEL n)))

/-- Ceiling that g tolls give on rail n (R233). -/
def State.powerCeil (s : State) (n g : Nat) : Nat := g * 10 ^ 8 / s.grantVoltage n

/-- Tolls that a current wants on rail n (R238). -/
def State.wantOf (s : State) (n i : Nat) : Nat := cdiv (i * s.grantVoltage n) (10 ^ 8)

/-- Ceiling in force on SINK[n] (R233, R237), in counts of 100 µA. -/
def State.sinkCeil (s : State) (n : Nat) : Nat :=
  let k := s.sink n
  match k.use with
  | .idle => 0
  | .discharge => if k.fast && k.standby then min k.cmd (s.standbyCeil n) else min k.cmd (s.powerCeil n k.power)
  | .load => min k.cmd (s.powerCeil n k.power)
  | .stipple => k.cmd
  | .removing => if k.level.isSome ∧ k.energy = 0 then min 20000 (s.powerCeil n k.power) else 20000

/-- The current in force on SINK[n] (R444), in counts of 5 µA. -/
def State.sinkNow (s : State) (n : Nat) : Nat :=
  let k := s.sink n
  min k.cur (20 * (if k.use = .stipple ∨ k.drain.isSome = true then 20000 else s.sinkCeil n))

/-- The DAC code of a current (R230). -/
def sinkCode (i : Nat) : Nat := (32 * i + 5) / 10

/-! ### Moves between accounts -/

/-- Move g tolls from FREE into a sink's power grant. -/
def State.grantPower (s : State) (n g : Nat) : State :=
  let k := s.sink n
  let s1 := s.setSink n { k with power := k.power + g, order := if k.power = 0 then s.gov.grants else k.order }
  ({ s1 with gov := { s1.gov with free := s1.gov.free - g, issued := s1.gov.issued + g, grants := s1.gov.grants + 1 } }).bump
    K.GRANTS

/-- Move g tolls from a sink's power grant to FREE. -/
def State.freePower (s : State) (n g : Nat) : State :=
  let k := s.sink n
  let s1 := s.setSink n { k with power := k.power - g }
  { s1 with gov := { s1.gov with free := s1.gov.free + min g k.power, freed := s1.gov.freed + min g k.power } }

/-- Move a sink's energy grant to COOLING (R234). -/
def State.coolEnergy (s : State) (n : Nat) : State :=
  let k := s.sink n
  if k.energy = 0 then s
  else
    let s1 := s.setSink n { k with energy := 0, spent := 0 }
    { s1 with gov := { s1.gov with cooling := s1.gov.cooling ++ [(s1.fab.tick, k.energy)] } }

/-- The newest power grant of a level (R239, R241). -/
def State.newestGrant (s : State) (level : Nat) : Option Nat :=
  (leastBy (fun a b => decide (b.2.order < a.2.order))
    (s.sinks.filter (fun p => p.2.level == some level && decide (0 < p.2.power)))).map Prod.fst

/-- Trim up to `need` tolls from the grants of the given levels, newest first, into FREE. `count` is the counter of each
grant trimmed; under R241 each raises kind 0x02. Gives the state and the tolls obtained. -/
def State.trimGrants (fuel : Nat) (s : State) (levels : List Nat) (need count : Nat) (report : Bool) : State × Nat :=
  match fuel, levels with
  | 0, _ => (s, 0)
  | _, [] => (s, 0)
  | f + 1, l :: rest =>
    if need = 0 then (s, 0)
    else match s.newestGrant l with
      | none => State.trimGrants f s rest need count report
      | some n =>
        let t := min need (s.sink n).power
        let s1 := s.freePower n t
        let s2 := (s1.setSink n { s1.sink n with trimmed := true }).bump count
        let s3 := if report then s2.raise 0x68 0x02 0 else s2
        let r := State.trimGrants f s3 levels (need - t) count report
        (r.1, r.2 + t)

/-- Does rail n leave standby: its power grant's ceiling, which is at most its command (R233), exceeds its standby ceiling (R237)? -/
def State.leavesStandby (s : State) (n : Nat) : Bool :=
  (s.sink n).standby && decide (0 < (s.sink n).power) && decide (s.standbyCeil n < min (s.sink n).cmd (s.powerCeil n (s.sink n).power))

/-- The rails that leave standby, all judged on the A that stands (R237). -/
def State.reviewStandby (s : State) : State :=
  ((s.sinks.map Prod.fst).filter s.leavesStandby).foldl (fun st n => st.setSink n { st.sink n with standby := false }) s

/-! ### Requests and grants (R238 to R240) -/

/-- The order in which waiting power requests are served: level, posting tick, rail. -/
def servedBefore (a b : Nat × Sink) : Bool :=
  let la := a.2.level.getD 9
  let lb := b.2.level.getD 9
  decide (la < lb) || (la == lb && (decide (a.2.posted < b.2.posted) || (a.2.posted == b.2.posted && decide (a.1 < b.1))))

/-- Serve one waiting request: the lesser of its shortfall and FREE, then trims for a level 0 request (R239). -/
def State.serveOne (s : State) (n : Nat) : State :=
  let k := s.sink n
  let short := k.want - k.power
  let g := min short s.gov.free
  let s1 := if g = 0 then s else s.grantPower n g
  let rest := short - g
  let s2 := if rest ≠ 0 ∧ k.level = some 0 then
      let r := State.trimGrants 130 s1 [2, 1] rest K.TRIMS false
      if r.2 = 0 then r.1 else r.1.grantPower n r.2
    else s1
  let k2 := s2.sink n
  let part := decide (k2.power < k2.want)
  s2.setSink n { k2 with queued := part, trimmed := k2.trimmed || part }

/-- Serve the power requests posted before this tick (Table 8.4), each once, in order (step 3 of R239). A request granted in part leaves the
ceiling below the command (TRIMMED). -/
def State.serveFrom (fuel : Nat) (s : State) (served : List Nat) : State :=
  match fuel with
  | 0 => s
  | f + 1 => match leastBy servedBefore (s.sinks.filter (fun p =>
      p.2.queued && decide (p.2.posted < s.fab.tick) && !served.contains p.1)) with
    | none => s
    | some p => State.serveFrom f (s.serveOne p.1) (p.1 :: served)

/-- POWER_GRANT (step 3 of R239). -/
def State.servePower (s : State) : State := (State.serveFrom 64 s []).reviewStandby

/-- Post a power request (R238): level, and the want of the current it asks for. -/
def State.postPower (s : State) (n level : Nat) : State :=
  let k := s.sink n
  let want := s.wantOf n k.cmd
  s.setSink n { k with level := some level, amps := k.cmd, want := want, queued := decide (k.power < want), posted := s.fab.tick }

/-- POWER_GRANT_REEVAL (R240): recompute the want of every power grant, one that lasts through a removal (R242) among them, from the current it
was asked for; free the excess, re-queue and serve the shortfalls; a grant left below its want counts TRIMS. -/
def State.reevalPower (s : State) : State :=
  if s.fab.tick < s.gov.reevalAt then s
  else
    let held := (s.sinks.filter (fun p => decide (0 < p.2.power))).map Prod.fst
    let s1 := held.foldl (fun st n =>
      let k := st.sink n
      let want := st.wantOf n k.amps
      let st1 := st.setSink n { k with want := want, queued := decide (k.power < want) }
      if want < k.power then st1.freePower n (k.power - want) else st1) s
    let s2 := s1.servePower
    let s3 := held.foldl (fun st n =>
      let k := st.sink n
      if k.power < k.want then (st.setSink n { k with trimmed := true }).bump K.TRIMS else st) s2
    { s3 with gov := { s3.gov with reevalAt := s3.fab.tick + 200000 } }

/-- Sinks whose energy request waits, in the order of R239. -/
def State.energyQueue (s : State) : List Nat :=
  let ws := s.sinks.filter (fun p => p.2.ePosted.isSome)
  let ins (l : List (Nat × Sink)) (p : Nat × Sink) : List (Nat × Sink) :=
    (l.filter (fun q => decide (q.2.ePosted.getD 0 ≤ p.2.ePosted.getD 0))) ++ [p]
      ++ l.filter (fun q => decide (p.2.ePosted.getD 0 < q.2.ePosted.getD 0))
  (ws.foldl ins []).map Prod.fst

/-- Grant a waiting energy request whole, if it fits ENERGY_CAP and FREE (R236, step 4 of R239). While another load holds
SINK[n] the run waits as though its tolls were not granted (R231). The flag tells whether it was granted. -/
def State.grantEnergy (s : State) (n : Nat) : State × Bool :=
  let k := s.sink n
  if k.ePosted.isSome && k.use == .idle && decide (s.energyGranted + s.gov.coolingSum + k.eWant ≤ s.gov.energyCap) && decide (k.eWant ≤ s.gov.free)
  then
    let s1 := s.setSink n { k with energy := k.eWant, ePosted := none, spent := 0 }
    (({ s1 with gov := { s1.gov with
        free := s1.gov.free - k.eWant, issued := s1.gov.issued + k.eWant, grants := s1.gov.grants + 1 } }).bump K.GRANTS, true)
  else (s, false)

/-- COOLING_EXPIRY (R234): tolls pass to FREE 2,000,000 ticks after they entered COOLING. -/
def State.coolingExpiry (s : State) : State :=
  let due := s.gov.cooling.filter (fun p => decide (p.1 + 2000000 ≤ s.fab.tick))
  let t := due.foldl (fun a p => a + p.2) 0
  { s with gov := { s.gov with
    cooling := s.gov.cooling.filter (fun p => !decide (p.1 + 2000000 ≤ s.fab.tick)),
    free := s.gov.free + t, freed := s.gov.freed + t } }

/-! ### Reserve and protection (R32, R241) -/

/-- Take `need` tolls out of FREE, and the rest from power grants (R241). Gives the tolls obtained; they stand in no account
until the caller adds them. -/
def State.takeForReserve (s : State) (need : Nat) : State × Nat :=
  let a := min need s.gov.free
  let r := State.trimGrants 195 s [2, 1, 0] (need - a) K.RESERVE_TRIMS true
  let got := a + r.2
  ({ r.1 with gov := { r.1.gov with free := r.1.gov.free - got } }, got)

/-- Set the reserve (R241). -/
def State.setReserve (s : State) (v : Nat) : State :=
  if s.gov.reserved ≤ v then
    let r := s.takeForReserve (v - s.gov.reserved)
    { r.1 with gov := { r.1.gov with reserved := r.1.gov.reserved + r.2 } }
  else { s with gov := { s.gov with reserved := v, free := s.gov.free + (s.gov.reserved - v) } }

/-- Set PROTECT_TOLLS (R241). -/
def State.setProtect (s : State) (v : Nat) : State :=
  if s.gov.protect ≤ v then
    let r := s.takeForReserve (v - s.gov.protect)
    { r.1 with gov := { r.1.gov with protect := r.1.gov.protect + r.2 } }
  else { s with gov := { s.gov with protect := v, free := s.gov.free + (s.gov.protect - v) } }

/-- OWN_ENERGY (R32): mean of channel 138 times mean of channel 177 over the preceding 10 ms, in µJ, saturating at 95,000.
Without a result in that span the value stands (DEDUCED). -/
def State.ownEnergy (s : State) : Nat :=
  let inSpan (l : List (Nat × Int)) : List (Nat × Int) := l.filter (fun p => decide (s.fab.tick < p.1 + 2000000))
  let vs := inSpan s.gov.vaux
  let is_ := inSpan s.gov.own
  if vs.isEmpty || is_.isEmpty then s.obj K.OWN_ENERGY
  else
    let sv := vs.foldl (fun a p => a + p.2) 0
    let si := is_.foldl (fun a p => a + p.2) 0
    min 95000 (tdiv (sv * si) (Int.ofNat (vs.length * is_.length) * 100000)).toNat

/-- A result of channel 138 or 177 enters the span of R32. -/
def State.noteOwn (s : State) (c : Nat) (v : Int) : State :=
  let keep (l : List (Nat × Int)) : List (Nat × Int) := l.filter (fun p => decide (s.fab.tick < p.1 + 2000000))
  let s1 :=
    if c = 138 then { s with gov := { s.gov with vaux := (s.fab.tick, v) :: keep s.gov.vaux } }
    else if c = 177 then { s with gov := { s.gov with own := (s.fab.tick, v) :: keep s.gov.own } }
    else s
  if c = 138 ∨ c = 177 then s1.setLive K.OWN_ENERGY s1.ownEnergy else s1

/-- Does the reserve stand at 95: while an etch runs, on VHU, and until measurement takes over 10 ms after start-up (R32, Table 8.3)? -/
def State.reserveHigh (s : State) : Bool :=
  s.store.etch.isSome || s.input.onVhu || s.gov.measureAt.all (fun t => decide (s.fab.tick < t))

/-- The reserve of R32: 95, or the measured energy in mJ, rounded up. -/
def State.reserveDue (s : State) : Nat := if s.reserveHigh then 95 else cdiv s.ownEnergy 1000

/-- The reserve moves on the ticks on which an etch, or running from VHU, starts or ends, and as measurement takes over (R241). -/
def State.reserveReview (s : State) : State :=
  if s.reserveHigh = s.gov.high then s else ({ s with gov := { s.gov with high := s.reserveHigh } }).setReserve s.reserveDue

/-- RESERVE_UPDATE (R32, R241): every 200,000 ticks. -/
def State.reserveUpdate (s : State) : State :=
  if s.fab.tick < s.gov.reserveAt then s
  else
    let s1 := s.setLive K.OWN_ENERGY s.ownEnergy
    ({ s1 with gov := { s1.gov with reserveAt := s1.fab.tick + 200000 } }).setReserve s.reserveDue

/-- The audit of R232. -/
def State.auditTolls (s : State) : State :=
  if s.accountSum = pool then s
  else
    let others := s.accountSum - s.gov.free
    (({ s with gov := { s.gov with free := pool - others } }).bump K.AUDIT_FAULTS).raise 0x68 0x01 0

/-! ### Operations on a sink (R231, R242, R243, Table 8.3) -/

/-- A host load that its owner's session has ended is over: LEASE_RETURNS and kind 0x04 (Table 8.3). -/
def State.lapseDone (s : State) (n : Nat) : State :=
  let k := s.sink n
  if k.lapsed then ((s.setSink n { k with lapsed := false }).bump K.LEASE_RETURNS).raise 0x68 0x04 0 else s

/-- SINK[n] has reached 0 A: its power grant passes to FREE, its energy grant to COOLING (R234, R242), and a load that lapsed is over. -/
def State.sinkDone (s : State) (n : Nat) : State :=
  let s1 := (s.freePower n (s.sink n).power).coolEnergy n
  let k := s1.sink n
  (s1.setSink n { k with use := .idle, fast := false, cmd := 0, level := none, want := 0, queued := false, owner := none,
                         amps := 0, drain := none }).lapseDone n

/-- Remove the load of SINK[n] at a slew. A sink already at 0 A is done at once; under freeze the governor is stopped, and what it holds goes on
the first clocked tick (Table 8.3). -/
def State.removeSink (s : State) (n slew : Nat) : State :=
  let k := s.sink n
  if k.use = .idle then s
  else
    let s1 := s.setSink n { k with use := .removing, fast := false, cmd := 0, slew := slew, queued := false, owner := none,
                                   drain := none }
    if k.cur = 0 ∧ s.frozen.isNone = true then s1.sinkDone n else s1

/-- SINK_SLEW_DONE: SINK[n] carries 0 A, under removal or under a discharge commanded to 0 A, whose grant ends with it (R242). -/
def State.sinkSlewDone (s : State) (n : Nat) : State :=
  let k := s.sink n
  if k.use = .removing ∧ k.cur = 0 then s.sinkDone n
  else if k.use = .discharge ∧ k.cmd = 0 ∧ k.cur = 0 then s.freePower n k.power
  else s

/-- Start a discharge of rail n (R111, R147, R231, R238, Table 8.3): `drive` is false after a fast-path release with DISCHARGE clear,
where nothing overrides the load: it is removed, and its tolls go when SINK[n] reaches 0 A (R234), as is the discharge of an off-slot that
the fast path precedes on its tick (R149). A host load's power grant becomes the
discharge's; a stipple run's energy grant goes to COOLING on this tick. Under freeze the governor is stopped: accounts stand, and what a
removed load holds goes on the first clocked tick. -/
def State.startDischarge (s : State) (n level : Nat) (fast drive : Bool) : State :=
  if drive then
    let still := s.frozen.isSome
    let s1 := if still then s else s.coolEnergy n
    let k := s1.sink n
    let s2 := s1.setSink n { k with
      use := .discharge, fast := fast, cmd := s.obj (K.DISCH_CURRENT n), slew := s.obj (K.SINK_SLEW n), owner := none,
      standby := true, trimmed := false, cut := false, frozen := still && k.frozen && (k.power != 0 || k.energy != 0),
      compliance := false, eWant := 0, ePosted := none, drain := none }
    s2.postPower n level
  else
    let s1 := match (s.sink n).use with
      | .load => s.removeSink n (s.obj (K.SINK_SLEW n))
      | .stipple => s.removeSink n 2000
      | .discharge => s.removeSink n (s.obj (K.SINK_SLEW n))
      | .idle => s
      | .removing => s
    s1.setSink n { s1.sink n with standby := true }

/-- A forced discharge (R111, R238). -/
def State.forceDischarge (s : State) (n level : Nat) : State :=
  let k := s.sink n
  let s1 := s.setSink n { k with
    use := .discharge, cmd := s.obj (K.DISCH_FULL n), slew := s.obj (K.SINK_SLEW n), owner := none,
    trimmed := false, cut := false, frozen := false, compliance := false }
  s1.postPower n level

/-- A rail leaves DISCHARGING or FORCED: its sink goes to 0 A and it stands by no longer (R242). -/
def State.endDischarge (s : State) (n : Nat) : State :=
  let s1 := s.removeSink n (s.obj (K.SINK_SLEW n))
  s1.setSink n { s1.sink n with standby := false }

/-- A pass takes in a rail whose discharge already runs: its request rises to level 0 (R238). -/
def State.raiseDischarge (s : State) (n : Nat) : State :=
  let k := s.sink n
  if k.use = .discharge ∧ k.level = some 1 then s.setSink n { k with level := some 0 } else s

/-- Collapse (R122, Table 8.3): every sink to 0 A, power grants to FREE and energy grants to COOLING on this tick; under freeze the accounts
stand until the first clocked tick. -/
def State.collapseSink (s : State) (n : Nat) : State :=
  let k := s.sink n
  let s1 :=
    if s.frozen.isNone then s.sinkDone n
    else if k.use = .idle then s
    else s.setSink n { k with use := .removing, fast := false, cmd := 0, queued := false, owner := none, drain := none }
  s1.setSink n { s1.sink n with cur := 0, eWant := 0, ePosted := none, standby := false }

/-- Collapse, over the sinks that have been used. -/
def State.collapseSinks (s : State) : State :=
  railNos.foldl (fun st n => if fhas st.sinks n then st.collapseSink n else st) s

/-- Is the power grant that a host load needs whole from FREE, once the waiting requests of higher level have been served (R238, R239)? -/
def State.loadFits (s : State) (n : Nat) : Bool :=
  let s1 := s.servePower
  decide (s1.wantOf n (s1.obj (K.LOAD_CURRENT n)) ≤ (s1.sink n).power + s1.gov.free)

/-- Apply or replace a host load (R243) by a session on a port, after the waiting requests of higher level (R239). A load whose session has
ended is over with it. What is left of a stipple run's load goes to 0 A first, and its energy grant to COOLING then (R234). -/
def State.applyLoad (s : State) (n port : Nat) : State :=
  let i := s.obj (K.LOAD_CURRENT n)
  let want := s.wantOf n i
  let s0 := s.servePower.lapseDone n
  let k := s0.sink n
  let s1 := s0.setSink n { k with
    use := .load, fast := false, cmd := i, slew := s.obj (K.SINK_SLEW n), level := some 2, want := want, queued := false,
    posted := s.fab.tick, owner := some port, loadFrom := s.fab.tick,
    trimmed := false, cut := false, frozen := false, compliance := false, amps := i,
    drain := if k.energy = 0 then none else some (k.drain.getD k.slew) }
  if k.power < want then s1.grantPower n (want - k.power) else s1.freePower n (k.power - want)

/-- Remove the host load of rail n at SINK_SLEW (R243). -/
def State.removeLoad (s : State) (n : Nat) : State :=
  if (s.sink n).use = .load then s.removeSink n (s.obj (K.SINK_SLEW n)) else s

/-- LOAD_TIME_END (R243). -/
def State.loadTimeEnd (s : State) (n : Nat) : State :=
  let t := s.obj (K.LOAD_TIME n)
  if (s.sink n).use = .load ∧ t ≠ 0 ∧ (s.sink n).loadFrom + usTicks t ≤ s.fab.tick then s.removeLoad n else s

/-- The host loads of a session end with it (R243, Table 8.3); each is counted and reported as its sink reaches 0 A. -/
def State.sessionLoads (s : State) (port : Nat) : State :=
  railNos.foldl (fun st n =>
    if (st.sink n).use = .load ∧ (st.sink n).owner = some port then
      (st.setSink n { st.sink n with lapsed := true }).removeLoad n
    else st) s

/-! ### Slewing and metering on a clock tick (R230, R234, R444) -/

/-- One tick of slewing: 1 mA/µs is 5 µA per tick. -/
def slewStep (cur cmd slew : Nat) : Nat :=
  let goal := 20 * cmd
  if cur < goal then min goal (cur + slew) else max goal (cur - slew)

/-- One tick of SINK[n]: metering of the current in force and of the run's energy, compliance (Table 8.6), then slewing: toward its command, or
first to 0 A where a run's load still drains (R234). A voltage below 0 V adds nothing (DEDUCED). -/
def State.tickSink (s : State) (n : Nat) : State :=
  let k := s.sink n
  if k.use = .idle ∧ k.cur = 0 then s
  else
    let v := (max (s.objI (K.V_NOW n)) 0).toNat
    let w := (max (s.objI (K.VALUE n)) 0).toNat
    let rest := k.rest + s.sinkNow n * v
    let uj := rest / 4000000000000
    let low := (k.use == .stipple || k.use == .load) && decide (0 < k.cur) && decide (w < 40000) && !k.compliance
    let cur := match k.drain with | some v => slewStep k.cur 0 v | none => slewStep k.cur k.cmd k.slew
    let s1 := s.setSink n { k with
      rest := rest % 4000000000000,
      spent := if k.energy = 0 then 0 else if k.drain.isSome then k.spent else k.spent + k.cmd * w,
      cur := cur, compliance := k.compliance || low, drain := if cur = 0 then none else k.drain }
    let s2 := if k.drain.isSome ∧ cur = 0 then s1.coolEnergy n else s1
    let s3 := if uj = 0 then s2 else s2.wideAdd (K.SINK_ENERGY n) uj
    if low then s3.raise 0x68 0x06 0 else s3

/-- One tick of every sink, and the audit (R232). -/
def State.tickSinks (s : State) : State :=
  (s.sinks.foldl (fun st p => st.tickSink p.1) s).auditTolls

/-- Has the run's metered energy reached its grant of g mJ (R234)? -/
def Sink.overrun (k : Sink) : Bool := decide (0 < k.energy) && decide (k.energy * 200000000000000 ≤ k.spent)

/-! ### Freeze (Table 8.3) -/

/-- FREEZE_N low: the power die removes stipple and host loads at 2 A/µs; discharges go on. Accounts stand. -/
def State.freezeSinks (s : State) : State :=
  railNos.foldl (fun st n =>
    let k := st.sink n
    if k.use = .stipple ∨ k.use = .load then
      st.setSink n { k with use := .removing, cmd := 0, slew := 2000, owner := none, queued := false, frozen := true, drain := none }
    else if k.use = .removing ∧ (k.level = none ∨ k.level = some 2) then st.setSink n { k with slew := 2000 }
    else st) s

/-- First clocked tick: the loads have been removed, and their grants go to COOLING or FREE, counted in FREEZE_RETURNS; a discharge that took
their sink under freeze asks for its own. -/
def State.thawSink (s : State) (n : Nat) : State :=
  let k := s.sink n
  if k.use = .removing ∧ (k.frozen = true ∨ k.cur = 0) then
    let s1 := (s.setSink n { k with cur := 0 }).sinkDone n
    if k.frozen then s1.bump K.FREEZE_RETURNS else s1
  else if k.use = .discharge ∧ k.frozen = true then
    let s1 := (s.freePower n k.power).coolEnergy n
    (s1.setSink n { s1.sink n with queued := decide (0 < k.want) }).bump K.FREEZE_RETURNS
  else s

/-- The sinks on the first clocked tick. -/
def State.thawSinks (s : State) : State := railNos.foldl State.thawSink s

/-! ### Inrush tolls (R245 to R249) -/

/-- INRUSH_SET (R249). -/
def State.setInrush (s : State) (v : Nat) : State :=
  ((s.setPers K.INRUSH_HELD v).setLive K.INRUSH_FREE v).bump K.SETS

/-- Move a ramp's tolls back to INRUSH_FREE (R246). -/
def State.returnInrush (s : State) (t : Nat) : State :=
  (s.setLive K.INRUSH_ISSUED (s.obj K.INRUSH_ISSUED - t)).setLive K.INRUSH_FREE (s.obj K.INRUSH_FREE + t)

/-- SINK_STATE code (0x2600+n.05). -/
def SinkUse.code : SinkUse → Nat
  | .idle => 0 | .discharge => 1 | .stipple => 2 | .load => 3 | .removing => 4

/-- SINK_FLAGS (Table 8.6). -/
def State.sinkFlags (s : State) (n : Nat) : Nat :=
  let k := s.sink n
  b2n k.frozen + 2 * b2n k.cut + 4 * b2n k.trimmed + 8 * b2n (k.use == .discharge && k.fast && k.standby)
  + 16 * b2n k.compliance

end Sys2Proof.Machine
end

