-- ==== Sys2Proof/Machine/Pmbus.lean ====
section
/-! DEFINITION. The PMBus master (spec/04: R126 to R129; spec/07: Table 7.2): posting, ports, PAGE, retries. -/

namespace Sys2Proof.Machine

/-- The job with an id. -/
def Pmb.job (p : Pmb) (id : Nat) : Option PmbJob := p.jobs.find? (fun j => j.id == id)

/-- Replace a job. -/
def State.setJob (s : State) (j : PmbJob) : State :=
  { s with pmb := { s.pmb with jobs := s.pmb.jobs.map (fun x => if x.id = j.id then j else x) } }

/-- Port of a rail (0x2000+n.06). -/
def State.pmbPort (s : State) (n : Nat) : Nat := s.obj (K.PMB_PORT n) % 4

/-- Is a transaction one of Rail Sequencing (R128, R129), rather than one of a margin (R206)? -/
def PmbWhat.sequencing : PmbWhat → Bool
  | .turnOn => true | .off => true | .setupClear => true | .setupConfig => true | .setupRead => true | .status => true
  | .releaseReturn => true
  | .voutMode => false | .marginWord => false | .marginOp => false | .marginReturn => false

/-- Does the next command to rail n need PAGE first (R126)? The previous transaction on the port must have left the same
page on the same address. -/
def State.needsPage (s : State) (n : Nat) : Bool :=
  let page := s.obj (K.PMB_PAGE n)
  page != 0xFF && !(flook s.pmb.last (s.pmbPort n) == some (s.obj (K.PMB_ADDR n), page))

/-- A transaction that failed sets no page (R126). -/
def State.forgetPage (s : State) (port : Nat) : State := { s with pmb := { s.pmb with last := fdel s.pmb.last port } }

/-- Note what the transaction that just ended leaves on its port (R126). -/
def State.notePage (s : State) (n : Nat) : State :=
  { s with pmb := { s.pmb with last := fset s.pmb.last (s.pmbPort n) (s.obj (K.PMB_ADDR n), s.obj (K.PMB_PAGE n)) } }

/-- Start the next granted job of a port that is idle: the highest level, then the earliest posted. -/
def State.startPort (s : State) (port : Nat) : State :=
  if fhas s.pmb.running port then s
  else match leastBy (fun (a b : PmbJob) => decide (a.level < b.level) || (a.level == b.level && decide (a.id < b.id)))
      (s.pmb.jobs.filter (fun j => j.granted && s.pmbPort j.rail == port)) with
    | none => s
    | some j =>
      let s1 := s.setJob { j with paging := s.needsPage j.rail }
      { s1 with pmb := { s1.pmb with running := fset s1.pmb.running port j.id } }

/-- Post a transaction to rail n: a request for a shared lane of KIND 0x7 (R20, R128). A sequencing transaction to a rail
that answered none is not sent (R129). -/
def State.postPmb (s : State) (n : Nat) (what : PmbWhat) (code data level : Nat) : State :=
  if what.sequencing && (s.rail n).noPmb then s
  else
    let id := s.pmb.nextId
    let j : PmbJob := { id := id, rail := n, what := what, code := code, data := data, level := level, tries := 0,
                        granted := false, paging := false, fate := .normal }
    ({ s with pmb := { s.pmb with jobs := s.pmb.jobs ++ [j], nextId := id + 1 } }).postLane .pmbus level n id 0 []

/-- A lane is granted to a PMBus transaction: it starts when its port is idle. -/
def State.pmbGranted (s : State) (id : Nat) : State :=
  match s.pmb.job id with
  | none => s
  | some j => (s.setJob { j with granted := true }).startPort (s.pmbPort j.rail)

/-- Drop a job that is not running: its request is withdrawn or its lane freed. -/
def State.dropJob (s : State) (id : Nat) : State :=
  ({ s with pmb := { s.pmb with jobs := s.pmb.jobs.filter (fun j => j.id != id) } }).freeLaneOf .pmbus id

/-- Does a job run on a port? -/
def Pmb.isRunning (p : Pmb) (id : Nat) : Bool := p.running.any (fun x => x.2 == id)

/-- Drop the jobs of a rail that satisfy a test and have not started. -/
def State.dropJobs (s : State) (test : PmbJob → Bool) : State :=
  (s.pmb.jobs.filter (fun j => test j && !s.pmb.isRunning j.id)).foldl (fun st j => st.dropJob j.id) s

/-- Take a finished job off its port, and free its lane. -/
def State.endJob (s : State) (port : Nat) (j : PmbJob) : State :=
  let s1 := { s with pmb := { s.pmb with
    jobs := s.pmb.jobs.filter (fun x => x.id != j.id), running := fdel s.pmb.running port } }
  s1.freeLaneOf .pmbus j.id

/-- What a finished transfer leads to: nothing yet, success, failure of the last try, or the end of a pre-empted transaction, with the data of
one that completed all the same. -/
inductive PmbResult where
  | none
  | done (j : PmbJob) (data : Nat)
  | failed (j : PmbJob)
  | preempted (j : PmbJob) (data : Option Nat)
  deriving DecidableEq, Repr

/-- Let the jobs of a rail that satisfy a test end with the transfer that runs for them, and drop those that have not started. -/
def State.muteJobs (s : State) (test : PmbJob → Bool) : State :=
  let s1 := s.dropJobs test
  { s1 with pmb := { s1.pmb with jobs := s1.pmb.jobs.map (fun j => if test j then { j with fate := .mute } else j) } }

/-- The lane of a transaction is pre-empted (Table 1.5): a transfer in flight is its last; before one, it ends at once. -/
def State.preemptPmb (s : State) (id : Nat) : State × PmbResult :=
  match s.pmb.job id with
  | none => (s, .none)
  | some j =>
    if s.pmb.isRunning id then (s.setJob { j with fate := if j.fate = .mute then .mute else .last }, .none)
    else (s.dropJob id, .preempted j none)

/-- A transfer on a port completes or fails (R126, R129). After PAGE the command follows, and a failed transfer is retried at once, up to
PMB_RETRIES times, with PAGE again where it left no page: the failures of PAGE and of its command count together (DESIGN CHOICE: notes/assumptions/87.md). A pre-empted
transaction ends with the transfer that runs (Table 1.5). -/
def State.pmbTransfer (s : State) (port : Nat) (ok : Bool) (data : Nat) : State × PmbResult :=
  match (flook s.pmb.running port).bind s.pmb.job with
  | none => (s, .none)
  | some j =>
    let s1 := if ok then s.notePage j.rail else s.forgetPage port
    let ended := (s1.endJob port j).startPort port
    match j.fate with
    | .mute => (ended, .none)
    | .last => (ended, .preempted j (if ok && !j.paging then some data else none))
    | .normal =>
      if ok then
        if j.paging then (s1.setJob { j with paging := false }, .none) else (ended, .done j data)
      else if j.tries < s.obj K.PMB_RETRIES then (s1.setJob { j with tries := j.tries + 1, paging := s1.needsPage j.rail }, .none)
      else (ended, .failed j)

end Sys2Proof.Machine
end

