-- ==== Sys2Proof/Machine/Margin.lean ====
section
/-! DEFINITION. Set-point margining (spec/07: R196 to R206). -/

namespace Sys2Proof.Machine

/-- A margin at nominal. -/
def Margin.idle : Margin :=
  { state := .nominal, position := 0, want := 0, goal := 0, code := 0, codeTo := 0, due := 0, trims := 0, beat := 0,
    offset := 0, prior := .nominal, modeRead := false }

/-- The margin of rail n. -/
def State.margin (s : State) (n : Nat) : Margin := fget s.margins n Margin.idle

/-- Replace the margin of rail n. -/
def State.setMargin (s : State) (n : Nat) (m : Margin) : State := { s with margins := fset s.margins n m }

/-- A stipple run before any command. -/
def Stip.idle : Stip :=
  { state := .idle, beat := 0, offset := 0, schedTick := 0, wait := .lane,
    retry := false, t0 := 0, t0Beat := 0, t0Offset := 0, temp := 0, edges := 0, outs := 0, margined := false, position := 0 }

/-- The stipple run of rail n. -/
def State.stip (s : State) (n : Nat) : Stip := fget s.stips n Stip.idle

/-- Replace the stipple run of rail n. -/
def State.setStip (s : State) (n : Nat) (r : Stip) : State := { s with stips := fset s.stips n r }

/-- Is a run in PRELOAD, ACQUIRE or UNLOAD (R212)? -/
def StipState.running (x : StipState) : Bool := x == .preload || x == .acquire || x == .unload

/-- Is a run in WAITING, PRELOAD, ACQUIRE or UNLOAD (R198, R231)? -/
def StipState.busy (x : StipState) : Bool := x == .waiting || x.running

/-- round() of R197: half away from zero, for b > 0. -/
def roundDiv (a b : Int) : Int :=
  let q := Int.ofNat ((2 * a.natAbs + b.natAbs) / (2 * b.natAbs))
  if a < 0 then -q else q

/-- The DAC code of a set point v (R197). -/
def State.marginCode (s : State) (n : Nat) (v : Int) : Int :=
  roundDiv (-(v - s.objI (K.MRG_NOMINAL n)) * 1280) (Int.ofNat (s.obj (K.MRG_RTOP n)))

/-- The set point of a position: nominal, high, low. -/
def State.marginGoal (s : State) (n pos : Nat) : Int :=
  if pos = 1 then s.objI (K.MRG_HIGH n) else if pos = 2 then s.objI (K.MRG_LOW n) else s.objI (K.MRG_NOMINAL n)

/-- The constraints of R198. -/
def State.marginAllowed (s : State) (n : Nat) : Bool :=
  let nom := s.objI (K.MRG_NOMINAL n)
  let hi := s.objI (K.MRG_HIGH n)
  let lo := s.objI (K.MRG_LOW n)
  let clear := s.objI (K.MRG_CLEAR n)
  let fits (v : Int) : Bool := let c := s.marginCode n v; decide (-32768 ≤ c) && decide (c ≤ 32767)
  decide (lo < nom) && decide (nom < hi)
  && decide (hi ≤ Int.ofNat (s.voltInForce n (K.OVF_LEVEL n)) - clear)
  && decide (Int.ofNat (s.voltInForce n (K.UVF_LEVEL n)) + clear ≤ lo)
  && (s.obj (K.MARGIN_METHOD n) != 1 || (fits hi && fits lo))
  && (s.obj (K.MARGIN_METHOD n) != 2 || s.obj (K.PMB_ADDR n) != 0)

/-- Mantissa of a set point in ULINEAR16 with the exponent of a VOUT_MODE byte (R205). -/
def mantissa (mode : Nat) (v : Int) : Int :=
  let e := signedOf 5 mode
  if e ≤ 0 then roundDiv (v * Int.ofNat (2 ^ e.natAbs)) 100000 else roundDiv v (100000 * Int.ofNat (2 ^ e.natAbs))

/-- Does a VOUT_MODE byte allow a set point (R205)? -/
def modeAllows (mode : Nat) (v : Int) : Bool := decide (mode % 256 / 32 = 0) && decide (mantissa mode v ≤ 0xFFFF)

/-- Command code of VOUT_MARGIN_HIGH or VOUT_MARGIN_LOW (Table 7.2). -/
def marginWordCode (pos : Nat) : Nat := if pos = 1 then 0x25 else 0x26

/-- Data of OPERATION for a position (Table 7.2). -/
def marginOpData (pos : Nat) : Nat := if pos = 1 then 0xA8 else if pos = 2 then 0x98 else 0x80

/-- A move is refused (R205): the margin stays where it was (one that was RETURNING goes on returning), and kind 0x33 is raised. -/
def State.refuseMode (s : State) (n : Nat) (m : Margin) : State :=
  let s1 := s.setMargin n { m with state := m.prior, position := if m.prior = .nominal then 0 else m.position }
  let s2 := if m.prior = .returning then s1.postPmb n .marginReturn 0x01 0x80 2 else s1
  (s2.bump (K.MRG_FAILS n)).raise n 0x33 0

/-- Is a PMBus move to a set point refused before anything is sent, on the VOUT_MODE that was read (R205)? -/
def State.modeRefuses (s : State) (n : Nat) (v : Int) : Bool :=
  s.obj (K.MARGIN_METHOD n) == 2 && (s.margin n).modeRead && !modeAllows (s.obj (K.MRG_VOUT_MODE n)) v

/-- Send VOUT_MARGIN_HIGH or VOUT_MARGIN_LOW for the wanted position, or refuse the move (R204, R205). -/
def State.sendMarginWord (s : State) (n : Nat) : State :=
  let m := s.margin n
  let mode := s.obj (K.MRG_VOUT_MODE n)
  if modeAllows mode m.goal then
    let s1 := s.setMargin n { m with position := m.want }
    s1.postPmb n .marginWord (marginWordCode m.want) (rawOf 16 (mantissa mode m.goal)) 2
  else s.refuseMode n m

/-- Start the move to the wanted position (R200, R204). By injection the move holds rail lane n and its first step is due on
this tick. -/
def State.startMove (s : State) (n : Nat) : State :=
  let m := s.margin n
  if s.obj (K.MARGIN_METHOD n) = 1 then
    (s.setMargin n { m with state := .moving, position := m.want, codeTo := s.marginCode n m.goal, due := s.fab.tick }).takeRailLane
      n .margin 2
  else
    let s1 := (s.setMargin n { m with state := .moving }).dropJobs (fun j => j.rail == n && !j.what.sequencing)
    if s1.pmb.jobs.any (fun j => j.rail == n && !j.what.sequencing) then s1
    else if m.modeRead then s1.sendMarginWord n
    else s1.postPmb n .voutMode 0x20 0 2

/-- Start the return to nominal (Table 7.1). -/
def State.startReturn (s : State) (n : Nat) : State :=
  let m := s.margin n
  if s.obj (K.MARGIN_METHOD n) = 2 then
    let s1 := (s.setMargin n { m with state := .returning }).dropJobs (fun j => j.rail == n && !j.what.sequencing)
    if s1.pmb.jobs.any (fun j => j.rail == n && !j.what.sequencing) then s1
    else s1.postPmb n .marginReturn 0x01 0x80 2
  else
    (s.setMargin n { m with state := .returning, codeTo := 0, due := s.fab.tick }).takeRailLane n .margin 2

/-- MRG_CMD 0x01 or 0x02, accepted (Table 7.1). A margin in any state but FAILED takes the new target; without a method
there is nothing to move. -/
def State.marginMove (s : State) (n pos : Nat) : State :=
  let m := s.margin n
  if s.obj (K.MARGIN_METHOD n) = 0 ∨ m.state = .failed then s
  else
    let rest : MrgState := match m.state with
      | .pending => m.prior | .held => .held | .nominal => .nominal | .moving => m.prior | .settling => .settling
      | .returning => .returning | .failed => .failed
    let m1 := { m with want := pos, goal := s.marginGoal n pos, trims := s.obj (K.MRG_TRIM_ITER n), prior := rest }
    if s.obj (K.MRG_WHEN n) = 1 ∧ (m.state = .nominal ∨ m.state = .held ∨ m.state = .pending) then
      s.setMargin n { m1 with state := .pending, beat := BitVec.ofNat 32 (s.obj (K.MRG_BEAT n)), offset := s.obj (K.MRG_OFFSET n) }
    else if s.modeRefuses n m1.goal then (s.bump (K.MRG_FAILS n)).raise n 0x33 0
    else (s.setMargin n m1).startMove n

/-- MRG_CMD 0x00 (Table 7.1): withdraw a pending move, or return to nominal. -/
def State.marginNominal (s : State) (n : Nat) : State :=
  let m := s.margin n
  match m.state with
  | .pending => s.setMargin n { m with state := m.prior }
  | .settling => s.startReturn n
  | .held => s.startReturn n
  | .failed => s.startReturn n
  | .moving => s.startReturn n
  | .nominal => s
  | .returning => s

/-- MARGIN_MOVE_START: a PENDING margin reaches its scheduled tick with its lane free. -/
def State.marginStart (s : State) (n : Nat) : State :=
  let m := s.margin n
  if m.state = .pending ∧ s.reached m.beat m.offset = true ∧ s.railLaneOpen n 2 = true then s.startMove n else s

/-- One DAC step of at most `slew` codes toward a target. -/
def dacStep (code goal : Int) (slew : Nat) : Int :=
  if code < goal then min goal (code + Int.ofNat slew) else max goal (code - Int.ofNat slew)

/-- MARGIN_STEP (R200). -/
def State.marginStep (s : State) (n : Nat) : State :=
  let m := s.margin n
  let holds := match flook s.lanes.rail n with | some op => op.kind == .margin | none => false
  if (m.state = .moving ∨ m.state = .returning) ∧ holds = true ∧ m.due ≤ s.fab.tick then
    let c := dacStep m.code m.codeTo (s.obj (K.MRG_SLEW n))
    let m1 := { m with code := c, due := s.fab.tick + 200 }
    if c = m.codeTo then
      let s1 := (s.freeRailLane n .margin).bump (K.MRG_MOVES n)
      if m.state = .moving then s1.setMargin n { m1 with state := .settling, due := s.fab.tick + usTicks (s.obj (K.MRG_SETTLE n)) }
      else s1.setMargin n { m1 with state := .nominal, position := 0 }
    else s.setMargin n m1
  else s

/-- MRG_SETTLE_END (R199, R201): a trim move, or HELD. -/
def State.settleEnd (s : State) (n : Nat) : State :=
  let m := s.margin n
  if m.state = .settling ∧ m.due ≤ s.fab.tick then
    let err := s.objI (K.V_AVG n) - m.goal
    let out := decide (s.objI (K.MRG_TRIM_TOL n) < Int.ofNat err.natAbs)
    if s.obj (K.MARGIN_METHOD n) = 1 ∧ out = true ∧ 0 < m.trims then
      let d := roundDiv (err * 1280) (Int.ofNat (s.obj (K.MRG_RTOP n)))
      (s.setMargin n { m with state := .moving, trims := m.trims - 1, codeTo := clampI (-32768) 32767 (m.code + d),
                              due := s.fab.tick }).takeRailLane n .margin 2
    else
      let s1 := (s.setMargin n { m with state := .held, due := s.fab.tick + usTicks (s.obj (K.MRG_HOLD_MAX n)) }).setLive
        (K.MRG_ERROR n) (rawI32 err)
      if out then s1.raise n 0x31 0 else s1
  else s

/-- MRG_HOLD_EXPIRED (Table 7.1). A hold limit that ends during a stipple run takes effect when the run leaves UNLOAD. -/
def State.holdExpired (s : State) (n : Nat) : State :=
  let m := s.margin n
  if m.state = .held ∧ s.obj (K.MRG_HOLD_MAX n) ≠ 0 ∧ m.due ≤ s.fab.tick ∧ (s.stip n).state.busy = false then
    (s.startReturn n).raise n 0x32 0
  else s

/-- A margin transaction ended well (Table 7.1, R204, R205). A target that changed meanwhile is sent anew. -/
def State.marginDone (s : State) (n : Nat) (j : PmbJob) (data : Nat) : State :=
  let m := s.margin n
  match j.what with
  | .voutMode =>
    let s1 := (s.setLive (K.MRG_VOUT_MODE n) (data % 256)).setMargin n { m with modeRead := true }
    match m.state with
    | .moving => s1.sendMarginWord n
    | .returning => s1.postPmb n .marginReturn 0x01 0x80 2
    | _ => s1
  | .marginWord => match m.state with
    | .moving =>
      if j.code = marginWordCode m.want then s.postPmb n .marginOp 0x01 (marginOpData m.want) 2 else s.sendMarginWord n
    | .returning => s.postPmb n .marginReturn 0x01 0x80 2
    | _ => s
  | .marginOp => match m.state with
    | .moving =>
      if j.data = marginOpData m.want then
        (s.setMargin n { m with state := .settling, due := s.fab.tick + usTicks (s.obj (K.MRG_SETTLE n)) }).bump (K.MRG_MOVES n)
      else s.sendMarginWord n
    | .returning => s.postPmb n .marginReturn 0x01 0x80 2
    | _ => s
  | .marginReturn => match m.state with
    | .returning => (s.setMargin n { m with state := .nominal, position := 0 }).bump (K.MRG_MOVES n)
    | .moving =>
      let s1 := s.setMargin n { m with prior := .nominal, position := 0 }
      if m.modeRead then s1.sendMarginWord n else s1.postPmb n .voutMode 0x20 0 2
    | _ => s
  | _ => s

/-- The last try of a margin transaction failed (R206). -/
def State.marginFailed (s : State) (n : Nat) : State :=
  let m := s.margin n
  if m.state = .moving ∨ m.state = .returning then
    ((s.setMargin n { m with state := .failed }).bump (K.MRG_FAILS n)).raise n 0x30 0
  else s

/-- Rail n is released (R203): DAC code 0, NOMINAL, no lane, and no margin command any more (R149); on a PMBus margin with CONTROL 0x03,
OPERATION 0x80 follows. -/
def State.marginRelease (s : State) (n level : Nat) : State :=
  let m := s.margin n
  let s0 := s.muteJobs (fun j => j.rail == n && !j.what.sequencing)
  if m.state = .nominal ∧ m.code = 0 then s0
  else
    let s2 := (s0.setMargin n { m with state := .nominal, position := 0, code := 0, codeTo := 0 }).freeRailLane n .margin
    if m.state ≠ .nominal ∧ s.obj (K.MARGIN_METHOD n) = 2 ∧ s.obj (K.CONTROL n) = 3 then
      s2.postPmb n .releaseReturn 0x01 0x80 level
    else s2

/-- Codes of MARGIN_STATE (0x2300+n.11). -/
def MrgState.code : MrgState → Nat
  | .nominal => 0 | .pending => 1 | .moving => 2 | .settling => 3 | .held => 4 | .returning => 5 | .failed => 6

/-- Do the warning comparators of rail n stand at role Off (R202)? -/
def State.warnMasked (s : State) (n : Nat) : Bool := (s.margin n).state != .nominal && s.objB (K.MRG_WARN_MASK n)

end Sys2Proof.Machine
end

