-- ==== Sys2Proof/Machine/Crypto.lean ====
section
/-! DEFINITION. SHA-256 and HMAC-SHA256 (R361, R363) and SHA-384 (R379, R385). The manual names them and leaves their definition to FIPS
180-4 and FIPS 198-1 (log entry 104). Both hashes are one construction over words of 32 and of 64 bits; their constants are computed from
what they are: the first bits after the point of the roots of the first primes. -/

namespace Sys2Proof.Machine

/-- Bytes of a number, most significant first. -/
def beBytes (n v : Nat) : List Byte := (leBytes n v).reverse

/-- The number that bytes spell, most significant first. -/
def beNat (bs : List Byte) : Nat := bs.foldl (fun a b => a * 256 + b.toNat) 0

/-- Groups of k elements; `fuel` bounds their number. -/
def groupsOf {α : Type} (fuel k : Nat) (l : List α) : List (List α) :=
  match fuel with
  | 0 => []
  | f + 1 => if l.isEmpty then [] else l.take k :: groupsOf f k (l.drop k)

/-! ### Constants -/

/-- Is a number below 23 * 23 prime: does no smaller one from 2 to 22 divide it? -/
def smallPrime (n : Nat) : Bool := decide (2 ≤ n) && (List.range 21).all (fun d => decide (n ≤ d + 2) || n % (d + 2) != 0)

/-- The first 80 primes. -/
def firstPrimes : List Nat := (List.range 410).filter smallPrime

/-- The largest number whose e-th power is at most x, found bit by bit: r with its n low bits still open. -/
def rootFrom (e x n r : Nat) : Nat :=
  match n with
  | 0 => r
  | b + 1 => rootFrom e x b (if (r + 2 ^ b) ^ e ≤ x then r + 2 ^ b else r)

/-- The first 64 bits after the point of the e-th root of a prime (the root lies below 8). -/
def rootBits (e p : Nat) : BitVec 64 := BitVec.ofNat 64 (rootFrom e (p * 2 ^ (64 * e)) 67 0)

/-- Cube roots of the first 80 primes: the round constants; 32-bit words take the upper halves of the first 64. -/
def cubeBits : List (BitVec 64) := firstPrimes.map (rootBits 3)

/-- Square roots of the first 16 primes: the start values, of the first eight for SHA-256 and of the others for SHA-384. -/
def squareBits : List (BitVec 64) := (firstPrimes.take 16).map (rootBits 2)

/-- The upper half of a 64-bit word. -/
def upperHalf (x : BitVec 64) : BitVec 32 := x.extractLsb' 32 32

/-! ### The construction -/

/-- What sets one hash apart: its start value, its round constants, and the amounts by which its four mixing functions turn a word; the last
amount of the two that fill the schedule is a shift. -/
structure Sha (w : Nat) where
  start : List (BitVec w)
  consts : List (BitVec w)
  upper : Nat × Nat × Nat
  lower : Nat × Nat × Nat
  near : Nat × Nat × Nat
  far : Nat × Nat × Nat

/-- A word turned by three amounts, added bit by bit. -/
def turned {w : Nat} (t : Nat × Nat × Nat) (x : BitVec w) : BitVec w :=
  x.rotateRight t.1 ^^^ (x.rotateRight t.2.1 ^^^ x.rotateRight t.2.2)

/-- A word turned by two amounts and shifted by a third, added bit by bit. -/
def shifted {w : Nat} (t : Nat × Nat × Nat) (x : BitVec w) : BitVec w :=
  x.rotateRight t.1 ^^^ (x.rotateRight t.2.1 ^^^ x >>> t.2.2)

/-- n more words of a block's schedule, which holds its newest word first. -/
def Sha.extend {w : Nat} (h : Sha w) (n : Nat) (ws : List (BitVec w)) : List (BitVec w) :=
  match n with
  | 0 => ws
  | k + 1 =>
    h.extend k ((ws.getD 15 0 + shifted h.far (ws.getD 14 0) + ws.getD 6 0 + shifted h.near (ws.getD 1 0)) :: ws)

/-- One step on the eight working words, with the sum of its round constant and its schedule word. -/
def Sha.stepWord {w : Nat} (h : Sha w) (v : List (BitVec w)) (kw : BitVec w) : List (BitVec w) :=
  let x (i : Nat) : BitVec w := v.getD i 0
  let chosen := x 6 ^^^ (x 4 &&& (x 5 ^^^ x 6))
  let most := (x 0 &&& (x 1 ||| x 2)) ||| (x 1 &&& x 2)
  let t := kw + x 7 + chosen + turned h.lower (x 4)
  match v with
  | a :: b :: c :: d :: r => [t + most + turned h.upper a, a, b, c, d + t] ++ r.take 3
  | _ => v

/-- The digest after one more block. -/
def Sha.absorb {w : Nat} (h : Sha w) (v : List (BitVec w)) (blk : List Byte) : List (BitVec w) :=
  let first := ((groupsOf 16 (w / 8) blk).map (fun g => BitVec.ofNat w (beNat g))).reverse
  let ws := (h.extend (h.consts.length - 16) first).reverse
  List.zipWith (fun a b => a + b) v ((List.zipWith (fun a b => a + b) h.consts ws).foldl h.stepWord v)

/-- A message padded to whole blocks of 2 * w bytes: a bit 1, zeros, and the message's length in bits as w / 4 bytes. -/
def Sha.padded {w : Nat} (_ : Sha w) (m : List Byte) : List Byte :=
  let zeros := (2 * w - (m.length + 1 + w / 4) % (2 * w)) % (2 * w)
  m ++ 0x80#8 :: List.replicate zeros 0#8 ++ beBytes (w / 4) (8 * m.length)

/-- The first n bytes of a message's digest. -/
def Sha.digest {w : Nat} (h : Sha w) (n : Nat) (m : List Byte) : List Byte :=
  let p := h.padded m
  (((groupsOf (p.length / (2 * w)) (2 * w) p).foldl h.absorb h.start).flatMap (fun x => beBytes (w / 8) x.toNat)).take n

/-! ### The hashes of the manual -/

/-- SHA-256, 32 bytes. -/
def sha256 (m : List Byte) : List Byte :=
  let h : Sha 32 := {
    start := (squareBits.take 8).map upperHalf, consts := (cubeBits.take 64).map upperHalf,
    upper := (2, 13, 22), lower := (6, 11, 25), near := (17, 19, 10), far := (7, 18, 3) }
  h.digest 32 m

/-- SHA-384, 48 bytes. -/
def sha384 (m : List Byte) : List Byte :=
  let h : Sha 64 := {
    start := squareBits.drop 8, consts := cubeBits, upper := (28, 34, 39), lower := (14, 18, 41), near := (19, 61, 6), far := (1, 8, 7) }
  h.digest 48 m

/-- HMAC-SHA256: the key at the length of a block, hashed first where it is longer. -/
def hmac256 (key m : List Byte) : List Byte :=
  let short := if key.length ≤ 64 then key else sha256 key
  let pad (x : Byte) : List Byte := (short ++ List.replicate (64 - short.length) 0#8).map (fun b => b ^^^ x)
  sha256 (pad 0x5C#8 ++ sha256 (pad 0x36#8 ++ m))

end Sys2Proof.Machine
end

