-- ==== Sys2Proof/Machine/Cipher.lean ====
section
/-! DEFINITION. ECDSA over P-384 (R379) and AES-256-GCM (R380). The manual names them and leaves their definition to FIPS 186, FIPS 197 and
NIST SP 800-38D (log entry 104). The keys of a slot are the part's (R378). -/

namespace Sys2Proof.Machine

/-! ### P-384 (R379) -/

/-- The prime of the field, the order of the group, and its generator. -/
def curvePrime : Nat := 2 ^ 384 - 2 ^ 128 - 2 ^ 96 + 2 ^ 32 - 1
def curveOrder : Nat := 2 ^ 384 - 0x389CB27E0BC8D220A7E5F24DB74F58851313E695333AD68D
def curveBase : Nat × Nat :=
  (0xAA87CA22BE8B05378EB1C71EF320AD746E1D3B628BA79B9859F741E082542A385502F25DBF55296C3A545E3872760AB7,
   0x3617DE4A96262C6F5D9E98BF9292DC29F8F41DBD289A147CE9DA3113B5F0B8C00A60B1CE1D7E819D7A431D7C90EA0E5F)

/-- b to the power e modulo m, where e has at most the given number of bits. -/
def powMod (m bits b e : Nat) : Nat :=
  match bits with
  | 0 => 1 % m
  | k + 1 =>
    let rest := powMod m k (b * b % m) (e / 2)
    if e % 2 = 1 then rest * b % m else rest

/-- The inverse modulo a prime of at most 384 bits, by Fermat. -/
def invMod (m a : Nat) : Nat := powMod m 384 a (m - 2)

/-- The point that a line of a slope through P and another point with abscissa x gives. -/
def chord (slope : Nat) (P : Nat × Nat) (x : Nat) : Nat × Nat :=
  let p := curvePrime
  let xr := (slope * slope + 2 * p - P.1 - x) % p
  (xr, (slope * (P.1 + p - xr) + p - P.2) % p)

/-- The sum of two points of y² = x³ − 3x + b; none is the neutral element. -/
def pointAdd (P Q : Option (Nat × Nat)) : Option (Nat × Nat) :=
  let p := curvePrime
  match P, Q with
  | none, _ => Q
  | _, none => P
  | some a, some b =>
    if a.1 = b.1 then
      if (a.2 + b.2) % p = 0 then none
      else some (chord ((3 * a.1 * a.1 + p - 3) * invMod p (2 * a.2 % p) % p) a a.1)
    else some (chord ((b.2 + p - a.2) * invMod p ((b.1 + p - a.1) % p) % p) a b.1)

/-- k times a point, where k has at most the given number of bits. -/
def pointMul (bits k : Nat) (P : Option (Nat × Nat)) : Option (Nat × Nat) :=
  match bits with
  | 0 => none
  | n + 1 =>
    let rest := pointMul n (k / 2) (pointAdd P P)
    if k % 2 = 1 then pointAdd rest P else rest

/-- Is (r, s) a signature over a digest e under a public key? -/
def ecdsaAccepts (key : Nat × Nat) (e r s : Nat) : Bool :=
  let n := curveOrder
  let w := invMod n s
  let P := pointAdd (pointMul 384 (e * w % n) (some curveBase)) (pointMul 384 (r * w % n) (some key))
  decide (1 ≤ r ∧ r < n ∧ 1 ≤ s ∧ s < n) && (match P with | some x => x.1 % n == r | none => false)

/-- Does SIGNATURE, r then s, verify over a SHA-384 digest with the public key of a slot (R379)? -/
def ecdsaVerify (slot : Nat) (digest sig : List Byte) : Bool :=
  ecdsaAccepts (Config.publicKey slot) (beNat digest) (beNat (sig.take 48)) (beNat (sig.drop 48))

/-! ### AES-256 (R380) -/

/-- Product of two bytes in the field of AES, over the low n bits of the second. -/
def byteMul (n : Nat) (a b : Byte) : Byte :=
  match n with
  | 0 => 0#8
  | k + 1 =>
    let twice := (a <<< 1) ^^^ (if a.getLsbD 7 then 0x1B#8 else 0#8)
    (if b.getLsbD 0 then a else 0#8) ^^^ byteMul k twice (b >>> 1)

/-- x to the power 2 + 4 + … + 2ⁿ; of n = 7, the inverse. -/
def bytePow (n : Nat) (x : Byte) : Byte :=
  match n with
  | 0 => 1#8
  | k + 1 =>
    let sq := byteMul 8 x x
    byteMul 8 sq (bytePow k sq)

/-- The substitution of a byte. -/
def subByte (x : Byte) : Byte :=
  let i := bytePow 7 x
  (((i ^^^ i.rotateLeft 1) ^^^ i.rotateLeft 2) ^^^ (i.rotateLeft 3 ^^^ i.rotateLeft 4)) ^^^ 0x63#8

/-- Two byte strings added bit by bit. -/
def xorBytes (a b : List Byte) : List Byte := List.zipWith (fun x y => x ^^^ y) a b

/-- n more words of the key schedule from word i on, which holds its newest word first; `con` is the next round constant. -/
def aesWords (n i : Nat) (con : Byte) (ws : List (List Byte)) : List (List Byte) :=
  match n with
  | 0 => ws
  | k + 1 =>
    let last := ws.headD []
    let old := ws.getD 7 []
    if i % 8 = 0 then
      let turned := (last.drop 1 ++ last.take 1).map subByte
      aesWords k (i + 1) (byteMul 8 con 2#8) (xorBytes old (xorBytes turned [con, 0#8, 0#8, 0#8]) :: ws)
    else aesWords k (i + 1) con (xorBytes old (if i % 8 = 4 then last.map subByte else last) :: ws)

/-- The 15 round keys of a 32-byte key. -/
def aesKeys (key : List Byte) : List (List Byte) :=
  groupsOf 15 16 (aesWords 52 8 1#8 (groupsOf 8 4 key).reverse).reverse.flatten

/-- Substitute the bytes of a block and shift its rows. -/
def subShift (st : List Byte) : List Byte := (List.range 16).map (fun i => subByte (st.getD ((5 * (i % 4) + 4 * (i / 4)) % 16) 0#8))

/-- Mix the columns of a block. -/
def mixColumns (st : List Byte) : List Byte :=
  (List.range 16).map (fun i =>
    let x (r : Nat) : Byte := st.getD (4 * (i / 4) + (i + r) % 4) 0#8
    (byteMul 8 (x 0) 2#8 ^^^ byteMul 8 (x 1) 3#8) ^^^ (x 2 ^^^ x 3))

/-- A block enciphered under round keys. -/
def aesBlock (keys : List (List Byte)) (blk : List Byte) : List Byte :=
  let start := xorBytes blk (keys.headD [])
  let inner := ((keys.drop 1).take 13).foldl (fun st k => xorBytes (mixColumns (subShift st)) k) start
  xorBytes (subShift inner) (keys.getD 14 [])

/-! ### GCM (R380) -/

/-- Product in the field of GCM: the low n bits of x still to come, v what the next of them adds. -/
def hashMul (n : Nat) (z v x : BitVec 128) : BitVec 128 :=
  match n with
  | 0 => z
  | k + 1 =>
    hashMul k (if x.getLsbD k then z ^^^ v else z) ((v >>> 1) ^^^ (if v.getLsbD 0 then 0xE1#128 <<< 120 else 0#128)) x

/-- The hash of whole 16-byte blocks under h. -/
def gHash (h : BitVec 128) (bs : List Byte) : BitVec 128 :=
  (groupsOf (bs.length / 16 + 1) 16 bs).foldl (fun y b => hashMul 128 0#128 h (y ^^^ BitVec.ofNat 128 (beNat b))) 0#128

/-- Zeros up to a whole number of 16-byte blocks. -/
def padBlock (bs : List Byte) : List Byte := bs ++ List.replicate ((16 - bs.length % 16) % 16) 0#8

/-- Decrypt a message, ciphertext then 16-byte tag, with a 32-byte key, a 12-byte initialisation vector and additional data; none when the
tag is not valid. -/
def gcmDecrypt (key iv aad msg : List Byte) : Option (List Byte) :=
  let keys := aesKeys key
  let text := msg.take (msg.length - 16)
  let h := BitVec.ofNat 128 (beNat (aesBlock keys (List.replicate 16 0#8)))
  let sum := gHash h (padBlock aad ++ padBlock text ++ beBytes 8 (8 * aad.length) ++ beBytes 8 (8 * text.length))
  let count (i : Nat) : List Byte := aesBlock keys (iv ++ beBytes 4 (i + 1))
  if xorBytes (count 0) (beBytes 16 sum.toNat) = msg.drop (msg.length - 16) then
    some (xorBytes text ((List.range (text.length / 16 + 1)).flatMap (fun i => count (i + 1))))
  else none

/-- A message under the AES key of a slot (R378, R380). -/
def gcmOpen (slot : Nat) (iv aad msg : List Byte) : Option (List Byte) := gcmDecrypt (beBytes 32 (Config.aesKey slot).toNat) iv aad msg

end Sys2Proof.Machine
end

