-- ==== Sys2Proof/Machine/ObjCheck.lean ====
section
/-! DEFINITION. The checks of a written value against its object's row: reserved fields (R11) and range (R40). -/

namespace Sys2Proof.Machine

/-- The bits of an object that are not marked "write 0, read 0" (R11), for the writable bit maps: PMB_PORT_CFG (Table 4.11),
ACTION_* (Table 5.5), PULSE_MASK and TRIG_MASK (Table 10.9), ETCH_MASK (0x6002.02) and RULE (Table 13.11). -/
def usedBits (key : Nat) : Option Nat :=
  let index := key / 256
  let sub := key % 256
  if index = 0x2804 ∧ 1 ≤ sub then some 0x07
  else if 0x2100 ≤ index ∧ index < 0x2140 ∧ 0x0F ≤ sub ∧ sub ≤ 0x13 then some 0x0F
  else if 0x5000 ≤ index ∧ index < 0x5100 ∧ (sub = 0x04 ∨ sub = 0x05) then some 0x07
  else if index = 0x6002 ∧ sub = 0x02 then some 0x3F
  else if index = 0x1201 ∧ 1 ≤ sub then some 0xFFFF0000FFFFFFFF
  else none

/-- Check 9 of Table 2.4: no reserved bit is set (R11). -/
def reservedOk (key v : Nat) : Bool :=
  match usedBits key with
  | some m => (v &&& m) == v
  | none => true

/-- A scan list byte that Table 6.2 admits. -/
def entryOk (e : Nat) : Bool := decide (e < 0xB8) || e == 0xF0 || e == 0xFF

/-- A string of Table 2.1: bytes 0x20 to 0x7E, then 0x00 to the end. -/
def stringOk (bs : List Nat) : Bool :=
  match bs with
  | [] => true
  | b :: r => if b = 0 then r.all (fun x => x == 0) else decide (0x20 ≤ b ∧ b ≤ 0x7E) && stringOk r

/-- Is a type signed? -/
def ObjType.signed : ObjType → Bool
  | .i16 => true
  | .i32 => true
  | .bool | .u8 | .u16 | .u32 | .u64 => false
  | .octets _ | .string _ => false

/-- The number that a raw value of a type stands for. -/
def ObjType.value (t : ObjType) (v : Nat) : Int := if t.signed then signedOf (8 * t.bytes) v else Int.ofNat v

/-- Check 10 of Table 2.4: the value lies within the row's Range (R40). -/
def ObjRow.rangeOk (r : ObjRow) (key v : Nat) : Bool :=
  match r.ty with
  | .bool => decide (v ≤ 1) && (match r.range with | .span lo hi => decide (lo ≤ Int.ofNat v ∧ Int.ofNat v ≤ hi) | _ => true)
  | .string n => stringOk ((leBytes n v).map BitVec.toNat)
  | _ => match r.range with
    | .any => true
    | .span lo hi => decide (lo ≤ r.ty.value v ∧ r.ty.value v ≤ hi) && !(key / 256 == 0x2804 && v % 4 == 3)
    | .spans xs => xs.any (fun x => decide (x.1 ≤ r.ty.value v ∧ r.ty.value v ≤ x.2))
    | .special => if key / 256 = 0x1201 then true else (leBytes 4 v).all (fun b => entryOk b.toNat)

/-- Would a write of a raw value to the object with a key pass checks 9 and 10 (Table 2.4)? -/
def valueOk (key v : Nat) : Bool :=
  match objRowOfKey key with
  | some r => reservedOk key v && r.rangeOk key v
  | none => false

end Sys2Proof.Machine
end

