-- ==== Sys2Proof/Machine/Update.lean ====
section
/-! DEFINITION. Firmware update (spec/14): the activation record, download, verification, application, settings areas, activation,
trial and confirmation. -/

namespace Sys2Proof.Machine

/-! ### The activation record (R377) -/

/-- The slot that holds the later valid copy: true for slot 1. -/
def Loader.second (l : Loader) : Bool := l.slot1.crcOk && (!l.slot0.crcOk || countLater l.slot1.seq l.slot0.seq)

/-- The record in force. -/
def Loader.record (l : Loader) : ActRecord := if l.second then l.slot1 else l.slot0

/-- Write the record to the slot that does not hold the later valid copy. -/
def Loader.write (l : Loader) (r : ActRecord) : Loader :=
  let x := { r with seq := l.record.seq + 1, crcOk := true }
  if l.second then { l with slot0 := x } else { l with slot1 := x }

/-- The record of a bank. -/
def ActRecord.bank (r : ActRecord) (b : Nat) : BankRec := if b = 0 then r.bank0 else r.bank1

/-- The record with bank b replaced. -/
def ActRecord.setBank (r : ActRecord) (b : Nat) (x : BankRec) : ActRecord :=
  if b = 0 then { r with bank0 := x } else { r with bank1 := x }

/-- The activation record in force. -/
def State.record (s : State) : ActRecord := s.loader.record

/-- The loader writes the activation record. -/
def State.writeRecord (s : State) (r : ActRecord) : State := { s with loader := s.loader.write r }

/-- The bank that an update is applied to: the one that is not active. -/
def State.newBank (s : State) : Nat := 1 - s.record.active

/-- Set the state of the new bank. -/
def State.setNewBank (s : State) (x : BankState) : State :=
  s.writeRecord (s.record.setBank s.newBank { s.record.bank s.newBank with state := x })

/-- FW_RUNNING and FW_OTHER (R387, R394, R396). -/
def State.fwRunning (s : State) : Nat := (s.record.bank s.upd.running).version
def State.fwOther (s : State) : Nat :=
  let b := s.record.bank (1 - s.upd.running)
  if b.state = .empty ∨ b.state = .writing then 0 else b.version

/-- UPD_STATE codes. -/
def UpdState.code : UpdState → Nat
  | .idle => 0 | .downloading => 1 | .downloaded => 2 | .verifying => 3 | .verified => 4 | .applying => 5 | .applied => 6
  | .scheduled => 7 | .trial => 8 | .failed => 9

/-- Move the update to a state. -/
def State.setUpd (s : State) (x : UpdState) : State := { s with upd := { s.upd with state := x } }

/-- Set UPD_REASON (Table 14.14). -/
def State.updReason (s : State) (r : Nat) : State := s.setLive K.UPD_REASON r

/-- MAJOR and MINOR of a version in [23:8] and a trial number in [7:0] (Table 14.15). -/
def versionAddr (version trial : Nat) : Nat := version / 65536 * 256 + trial

/-! ### The package (R379, R380) -/

/-- Data-port address of the manifest and of block i (R379). -/
def manifestAt : Nat := 0x01B00000
def blockAt (i : Nat) : Nat := 0x01B04000 + 4096 * i

/-- The n-byte manifest field at a byte (Table 14.1). -/
def State.mf (s : State) (start n : Nat) : Nat := leNat (s.readBytes (manifestAt + start) n)

/-- Are n bytes of working memory all 0? -/
def memBlank (m : List Host.Cell) (a n : Nat) : Bool :=
  m.all (fun c => !(decide (a ≤ c.1) && decide (c.1 < a + n)) || c.2 == 0#8)

/-- MAGIC and FORMAT in one word. -/
def magicFormat : Nat := 0x000150554259

/-- The checks of R382 on the manifest in page 1,728. -/
def State.manifestOk (s : State) : Bool :=
  let blocks := s.mf 6 2
  s.mf 0 6 == magicFormat && memBlank s.mem (manifestAt + 188) 4 && memBlank s.mem (manifestAt + 288) 224
  && memBlank s.mem (manifestAt + 512 + 4 * blocks) (16384 - 512 - 4 * blocks)
  && decide (1 ≤ blocks) && decide (blocks ≤ 2044) && s.mf 8 4 == s.fwRunning
  && decide (s.mf 24 4 ≤ Config.loaderVersion % 2 ^ 32) && decide (s.mf 21 1 < 4) && nbit (Config.keySlots % 16) (s.mf 21 1)
  && decide (s.record.rollbackMin ≤ s.mf 22 2)

/-- Block i as stored. -/
def State.blockBytes (s : State) (i : Nat) : List Byte := s.readBytes (blockAt i) 4096

/-- Does block i match BLOCK_CRC[i] (R384)? -/
def State.blockPasses (s : State) (i : Nat) : Bool := (crc32c (s.blockBytes i)).toNat == s.mf (512 + 4 * i) 4

/-- The initialisation vector of block i (R380). -/
def State.blockIv (s : State) (i : Nat) : List Byte :=
  s.readBytes (manifestAt + 32) 8 ++ beBytes 4 (beNat (s.readBytes (manifestAt + 40) 4) ^^^ i)

/-- The plaintext of block i; none when its tag is not valid (R380). -/
def State.blockPlain (s : State) (i : Nat) : Option (List Byte) :=
  gcmOpen (s.mf 21 1) (s.blockIv i) (s.readBytes manifestAt 192 ++ leBytes 2 i) (s.blockBytes i)

/-! ### Download (R382 to R384) -/

/-- UPD_CMD_OPEN, accepted. -/
def State.updOpen (s : State) : State :=
  (((((s.setLive K.NEXT_BLOCK 0).setLive K.STAGED_BLOCKS (s.mf 6 2)).setLive K.STAGED_VERSION (s.mf 12 4)).setLive
    K.STAGED_SCHEMA (s.mf 18 2)).setLive K.STAGED_VOTE (s.mf 20 1)).setUpd .downloading

/-- UPD_BLOCK (R384), accepted with i = NEXT_BLOCK: the check on P4 as the commit left it. -/
def State.updBlock (s : State) (i : Nat) : State :=
  if s.blockPasses i then
    let s1 := s.setLive K.NEXT_BLOCK (i + 1)
    if i + 1 = s.mf 6 2 then s1.setUpd .downloaded else s1
  else (s.raise 0x80 0x01 i).bump K.BLOCK_CRC_FAILS

/-- May the data port write n bytes of P4 at address a (R383)? -/
def State.p4Open (s : State) (a : Nat) : Bool :=
  match s.upd.state with
  | .idle | .failed => true
  | .downloading => decide (blockAt (s.obj K.NEXT_BLOCK) ≤ a)
  | .downloaded | .verifying | .verified | .applying | .applied | .scheduled | .trial => false

/-! ### Verification (R385) -/

/-- A verification or application step fails. -/
def State.updFail (s : State) (kind addr reason : Nat) : State := ((s.setUpd .failed).raise 0x80 kind addr).updReason reason

/-- VERIFY_DONE (Table 14.3): the checks in order. -/
def State.verifyDone (s : State) : State :=
  if s.upd.state = .verifying ∧ s.coresUp then
    let blocks := s.mf 6 2
    let signed := s.readBytes manifestAt 192 ++ s.readBytes (manifestAt + 512) (4 * blocks)
    if ecdsaVerify (s.mf 21 1) (sha384 signed) (s.readBytes (manifestAt + 192) 96) = false then s.updFail 0x03 0x010000 1
    else if sha384 (s.readBytes (blockAt 0) (4096 * blocks)) ≠ s.readBytes (manifestAt + 140) 48 then s.updFail 0x03 0x020000 2
    else if sha384 (fget s.loader.images s.upd.running []) ≠ s.readBytes (manifestAt + 44) 48 then s.updFail 0x03 0x030000 3
    else match (List.range blocks).find? (fun i => (s.blockPlain i).isNone) with
      | some i => s.updFail 0x02 i 5
      | none => s.setUpd .verified
  else s

/-! ### The difference stream (R381) and the migration table (R388) -/

/-- A migration entry (Table 14.5). -/
structure MigEntry where
  new : Nat
  op : Nat
  old : Nat
  deriving DecidableEq, Repr

/-- The n entries at the start of a byte string. -/
def parseMig (n : Nat) (bs : List Byte) : List MigEntry :=
  match n with
  | 0 => []
  | k + 1 => ⟨objKey (leAt bs 0 2) (leAt bs 2 1), leAt bs 3 1, objKey (leAt bs 4 2) (leAt bs 6 1)⟩ :: parseMig k (bs.drop 8)

/-- Bytes of a bank (R376). -/
def bankSize : Nat := 8388608

/-- Execute a difference stream (Table 14.2): the output and the bytes of the migration table, or none when it is malformed. -/
def runDiff (fuel : Nat) (base : List Byte) (imageLen : Nat) (bs out : List Byte) (mig : Option (List Byte)) :
    Option (List Byte × List Byte) :=
  match fuel, bs with
  | 0, _ => none
  | _, [] => none
  | f + 1, op :: r =>
    if op = 0x00#8 then (if out.length = imageLen then some (out, mig.getD []) else none)
    else if op = 0x01#8 then
      let src := leAt r 0 4
      let len := leAt r 4 4
      if r.length < 8 ∨ base.length < src + len ∨ imageLen < out.length + len then none
      else runDiff f base imageLen (r.drop 8) (out ++ (base.drop src).take len) mig
    else if op = 0x02#8 then
      let len := leAt r 0 4
      if r.length < 4 + len ∨ imageLen < out.length + len then none
      else runDiff f base imageLen (r.drop (4 + len)) (out ++ (r.drop 4).take len) mig
    else if op = 0x03#8 then
      let n := leAt r 0 2
      if r.length < 2 + 8 * n ∨ 4096 < n ∨ mig.isSome then none
      else runDiff f base imageLen (r.drop (2 + 8 * n)) out (some ((r.drop 2).take (8 * n)))
    else none

/-- Is there a class P object with a key? -/
def isClassP (key : Nat) : Bool := decide (key < 0x1000000) && (match objRowOfKey key with | some r => r.cls == .p | none => false)

/-- Do two objects have the same type? -/
def sameType (a b : Nat) : Bool := (objRowOfKey a).map ObjRow.ty == (objRowOfKey b).map ObjRow.ty

/-- Does the dictionary hold an object? -/
def isObject (key : Nat) : Bool := decide (key < 0x1000000) && (objRowOfKey key).isSome

/-- A schema failure (R388): an unknown OP, or an object that its dictionary lacks. -/
def MigEntry.bad (e : MigEntry) : Bool :=
  !(e.op == 1 || e.op == 2) || !isObject e.new || (e.op == 1 && !isObject e.old)

/-- The entry that decides the value of an object: the first that names it. -/
def migFor (es : List MigEntry) (key : Nat) : Option MigEntry := es.find? (fun e => e.new == key)

/-- The entries that decide a value, one for each object named; `seen` holds the objects that earlier entries decide. -/
def deciding (seen : List Nat) (es : List MigEntry) : List MigEntry :=
  match es with
  | [] => []
  | e :: r => if seen.contains e.new then deciding seen r else e :: deciding (e.new :: seen) r

/-- The class P values held. -/
def State.persisted (s : State) : FMap Nat := s.objs.filter (fun kv => isClassP kv.1)

/-- The other area's values under an entry, and one more default counted where the COPY cannot be made (R388). An entry decides the value
of a class P object only; the area of the source holds class P objects only. -/
def migStep (value : Nat → Nat) (acc : FMap Nat × Nat) (e : MigEntry) : FMap Nat × Nat :=
  if e.op = 2 ∨ isClassP e.new = false then acc
  else if isClassP e.old && sameType e.new e.old && valueOk e.new (value e.old) then (fset acc.1 e.new (value e.old), acc.2)
  else (acc.1, acc.2 + 1)

/-- The values of the new area, and the defaults counted (R388). An object that no entry names is copied from its own key. -/
def State.migrated (s : State) (es : List MigEntry) : FMap Nat × Nat :=
  let kept := s.persisted.filter (fun kv => (migFor es kv.1).isNone)
  (deciding [] es).foldl (migStep s.obj) (kept, 0)

/-! ### Settings areas (R386) -/

/-- The settings area header (Table 14.4). -/
def areaHeader (schema st version entries : Nat) : List Byte :=
  let b := packLE [(2, schema), (1, st), (1, 0), (4, version), (2, entries), (2, 0)]
  b ++ leBytes 4 (crc32c b).toNat

/-- Byte address of an area. -/
def areaAt (area : Nat) : Nat := 16384 * 64 * area

/-- Set STATE of an area's header. -/
def State.setAreaState (s : State) (area st : Nat) : State :=
  let h := s.readBytes (areaAt area) 12
  s.writeBytes (areaAt area) (areaHeader (leAt h 0 2) st (leAt h 4 4) (leAt h 8 2))

/-- STATE of an area. -/
def State.areaState (s : State) (area : Nat) : Nat := leNat (s.readBytes (areaAt area + 2) 1)

/-- The migration table that produced an area: ENTRIES entries from its page 1 on (DEDUCED: 4,096 entries fill pages 1 and 2). -/
def State.areaTable (s : State) (area : Nat) : List MigEntry :=
  let n := leNat (s.readBytes (areaAt area + 8) 2)
  parseMig n (s.readBytes (areaAt area + 16384) (8 * n))

/-- Form the other settings area (step 4 of R387); its table, of at most 4,096 entries (R386), fills at most pages 1 and 2. -/
def State.formArea (s : State) (table : List Byte) : State :=
  let area := 1 - s.activeArea
  let es := parseMig (table.length / 8) table
  let m := s.migrated es
  let clean := s.mem.filter (fun c => !(decide (areaAt area ≤ c.1) && decide (c.1 < areaAt area + 3 * 16384)))
  let s1 := { s with mem := clean, otherArea := m.1,
                     store := (List.range 64).foldl (fun t i => t.touch (64 * area + i)) s.store }
  let s2 := s1.writeBytes (areaAt area) (areaHeader (s.mf 18 2) 2 (s.mf 12 4) es.length)
  let s3 := s2.writeBytes (areaAt area + 16384) (table.take (2 * 16384))
  s3.setPers K.MIGRATE_DEFAULTS (sat32 (s3.obj K.MIGRATE_DEFAULTS + m.2))

/-! ### Application (R387) -/

/-- UPD_CMD_APPLY, accepted: step 1. -/
def State.updApply (s : State) : State :=
  let s1 := (s.setNewBank .writing).setUpd .applying
  { s1 with loader := { s1.loader with images := fset s1.loader.images s.newBank [] },
            upd := { s1.upd with etchPosted := false, etched := false } }

/-- Step 3 or step 4 fails: FAILED, bank EMPTY. -/
def State.applyFail (s : State) (kind addr reason : Nat) : State :=
  let s1 := s.setNewBank .empty
  ({ s1 with loader := { s1.loader with images := fset s1.loader.images s.newBank [] } }).updFail kind addr reason

/-- The blocks' plaintexts in order, or none when a tag is not valid. -/
def joinPlain (xs : List (Option (List Byte))) : Option (List Byte) :=
  match xs with
  | [] => some []
  | none :: _ => none
  | some b :: r => (joinPlain r).map (fun t => b ++ t)

/-- APPLY_OUTPUT_DONE: steps 2 to 5 of R387. An IMAGE_LEN that is 0 or does not fit the bank (R376, Table 14.1) is an output that
fails. -/
def State.applyOutputDone (s : State) : State :=
  if s.upd.state = .applying ∧ s.upd.etchPosted = false ∧ s.coresUp then
    let plain := joinPlain ((List.range (s.mf 6 2)).map s.blockPlain)
    let base := fget s.loader.images s.upd.running []
    match plain.bind (fun p => runDiff (p.length + 1) base (s.mf 28 4) p [] none) with
    | none => s.applyFail 0x03 0x040000 4
    | some (out, table) =>
      if out.length = 0 ∨ bankSize < out.length ∨ sha384 out ≠ s.readBytes (manifestAt + 92) 48 then s.applyFail 0x03 0x040000 4
      else
        let es := parseMig (table.length / 8) table
        let i := es.findIdx MigEntry.bad
        if i < es.length then s.applyFail 0x08 i 6
        else
          let s1 := { s with loader := { s.loader with images := fset s.loader.images s.newBank out } }
          let s2 := (s1.formArea table).postEtch 1 scopeP01 []
          { s2 with upd := { s2.upd with etchPosted := true } }
  else s

/-- Step 6 of R387: the etch is complete. -/
def State.applySettle (s : State) : State :=
  if s.upd.state = .applying ∧ s.upd.etchPosted ∧ s.upd.etched ∧ s.coresUp then
    let b : BankRec := {
      state := .valid, version := s.mf 12 4, length := s.mf 28 4, rollback := s.mf 22 2, area := 1 - s.activeArea,
      schema := s.mf 18 2, vote := s.mf 20 1 }
    let s1 := (s.writeRecord (s.record.setBank s.newBank b)).setUpd .applied
    { s1 with upd := { s1.upd with etchPosted := false, etched := false } }
  else s

/-! ### Mirror writes (R389) -/

/-- Write one target in the other area, or count a skip. -/
def State.mirrorOne (s : State) (key v target : Nat) : State :=
  if sameType key target && valueOk target v then
    { s with otherArea := fset s.otherArea target v, store := s.store.touch (homePage (1 - s.activeArea) target) }
  else s.bump K.MIRROR_SKIPS

/-- The class P objects of the candidate area whose source is the written object. -/
def mirrorTargets (es : List MigEntry) (key : Nat) : List Nat :=
  (((deciding [] es).filter (fun e => e.op == 1 && e.old == key && isClassP e.new)).map MigEntry.new)
  ++ (if (migFor es key).isNone then [key] else [])

/-- The source of a new object, in the old area, which holds class P objects. -/
def mirrorSource (es : List MigEntry) (key : Nat) : Option Nat :=
  match migFor es key with
  | some e => if e.op = 1 ∧ isClassP e.old then some e.old else none
  | none => some key

/-- Mirror a class P value written by a transaction (R389). -/
def State.mirror (s : State) (key v : Nat) : State :=
  if isClassP key = false then s
  else match s.upd.state with
  | .applied | .scheduled => (mirrorTargets (s.areaTable (1 - s.activeArea)) key).foldl (fun st t => st.mirrorOne key v t) s
  | .trial => match mirrorSource (s.areaTable s.activeArea) key with
    | some t => s.mirrorOne key v t
    | none => s
  | .idle | .downloading | .downloaded | .verifying | .verified | .applying | .failed => s

/-! ### Activation (R391, R392) -/

/-- The beat of an activation (R391), by the SEG_ID and UNIT_ADDR in force (R98). -/
def State.actBeat (s : State) : Count :=
  let key := if s.obj K.ACT_KEY = 1 then s.convoy.set.segId else if s.obj K.ACT_KEY = 2 then s.convoy.set.unitAddr else 0
  BitVec.ofNat 32 (s.obj K.ACT_BEAT + s.obj K.ACT_SPACING * (key % s.obj K.ACT_MOD))

/-- UPD_CMD_SCHEDULE, accepted. -/
def State.updSchedule (s : State) : State :=
  { s with upd := { s.upd with state := .scheduled, act := some (s.actBeat, s.obj K.ACT_OFFSET) } }

/-- UPD_CMD_UNSCHEDULE, accepted. -/
def State.updUnschedule (s : State) : State := { s with upd := { s.upd with state := .applied, act := none } }

/-- The loader restarts the cores, unless they are held already (R392). -/
def State.holdCores (s : State) : State :=
  if s.cores.hold.isSome then s
  else { s with cores := { s.cores with hold := some .activation } }

/-- ACTIVATION (R392). -/
def State.activation (s : State) : State :=
  match s.upd.act with
  | some (b, k) =>
    if s.upd.state = .scheduled ∧ s.reached b k then
      let s1 := { s with upd := { s.upd with act := none } }
      if s.onReserve then (s1.setUpd .applied).updReason 7
      else
        ((s1.writeRecord { s1.record with pending := some s1.newBank, trial := 1, ran := false }).bump K.ACTIVATIONS).holdCores
    else s
  | none => s

/-! ### Trial (R394 to R396, R398) -/

/-- The image of bank b runs: its settings area is in use (R386). -/
def State.runBank (s : State) (b : Nat) : State :=
  let s1 := { s with upd := { s.upd with running := b } }
  let area := (s.record.bank b).area
  if area = s.activeArea then s1
  else { s1 with activeArea := area, otherArea := s.persisted,
                 objs := s.otherArea.foldl (fun m kv => fset m kv.1 kv.2) (s.objs.filter (fun kv => !isClassP kv.1)) }

/-- The third trial has failed and the previous image runs (R396). -/
def State.fellBack (s0 : State) : State :=
  let s := { s0 with loader := { s0.loader with fell := false } }
  let b := 1 - s.record.active
  let s1 := (((s.setUpd .idle).updReason 0x0C).raise 0x80 0x06 (versionAddr (s.record.bank b).version 3)).bump K.FALLBACKS
  s1.setAreaState (s.record.bank b).area 0

/-- The image of the pending bank starts its trial, with HEALTH cleared (R394, R398). -/
def State.startTrial (s : State) : State :=
  let r := s.record
  let s1 := s.writeRecord { r with ran := true }
  ({ s1 with upd := { s1.upd with state := .trial, act := none, health := 0, startAt := s.fab.tick, presentRun := 0 } }).raise
    0x80 0x04 (versionAddr (r.bank s.newBank).version r.trial)

/-- The loader boots after a restart of the cores (R28, R394 to R396). -/
def State.bootImage (s : State) : State :=
  match s.record.pending with
  | some b => (s.runBank b).startTrial
  | none => if s.loader.fell then (s.runBank s.record.active).fellBack else s

/-- The record after a trial has failed: the next trial, or fallback after the third (R395, R396). -/
def ActRecord.afterTrial (r : ActRecord) : ActRecord :=
  if 3 ≤ r.trial then
    let b := 1 - r.active
    { r.setBank b { r.bank b with state := .rejected } with pending := none, trial := 0, ran := false }
  else { r with trial := r.trial + 1, ran := false }

/-- A trial has failed (R395): kind 0x05, and the record; after the third, a fallback is to be reported (R396). -/
def State.trialLost (s : State) (reason : Nat) : State :=
  let s1 := ((s.raise 0x80 0x05 (reason * 65536 + s.record.trial)).bump K.TRIALS_FAILED).updReason reason
  { s1 with loader := { s1.loader.write s.record.afterTrial with fell := s.loader.fell || decide (3 ≤ s.record.trial) } }

/-- A trial fails while its image runs (R395): the cores restart. -/
def State.trialFail (s : State) (reason : Nat) : State := (s.trialLost reason).holdCores

/-- Set a bit of HEALTH (Table 14.7). -/
def State.setHealth (s : State) (bit : Nat) : State := { s with upd := { s.upd with health := s.upd.health ||| 2 ^ bit } }

/-- CONFIRM_SPAN_END (R398). -/
def State.confirmSpanEnd (s : State) : State :=
  if s.upd.state = .trial ∧ s.coresUp ∧ s.upd.startAt + usTicks (s.obj K.CONFIRM_SPAN) ≤ s.fab.tick then s.setHealth 0 else s

/-- The HEALTH bits whose conditions hold by themselves (R398), from the tick after the trial starts, on which HEALTH reads 0x00 (Table 16.5):
RECALL_OK, since a trial whose recall raised kind 0x14 has failed; CONVOY_OK; and, under CONFIRM_MODE 0, HOST_OK. -/
def State.healthSettle (s : State) : State :=
  if s.upd.state = .trial ∧ s.coresUp ∧ s.upd.startAt < s.fab.tick then
    let s0 := s.setHealth 1
    let s1 := if s.obj K.CONVOY_ENABLE = 0 ∨ s.obj K.CONFIRM_PRESENT ≤ s.upd.presentRun then s0.setHealth 2 else s0
    if s1.obj K.CONFIRM_MODE = 0 then s1.setHealth 3 else s1
  else s

/-- CONFIRMATION (R394). -/
def State.confirmation (s : State) : State :=
  if s.upd.state = .trial ∧ s.coresUp ∧ s.upd.health = 15 then
    let r := s.record
    let b := s.newBank
    let old := r.active
    let r1 := (r.setBank b { r.bank b with state := .confirmed }).setBank old { r.bank old with state := .superseded }
    let s1 := s.writeRecord { r1 with
      active := b, pending := none, trial := 0, ran := false, rollbackMin := max r.rollbackMin (r.bank b).rollback }
    let s2 := (s1.setAreaState (r.bank old).area 0).setAreaState (r.bank b).area 1
    (((s2.setUpd .idle).updReason 0x0E).raise 0x80 0x07 (versionAddr (r.bank b).version r.trial)).bump K.CONFIRMS
  else s

/-- TRIAL_TIME_END (R395). -/
def State.trialTimeEnd (s : State) : State :=
  if s.upd.state = .trial ∧ s.coresUp ∧ s.upd.startAt + usTicks (s.obj K.TRIAL_TIME) ≤ s.fab.tick then s.trialFail 0x08 else s

/-- A beat edge counts toward CONVOY_OK (R398). -/
def State.updBeat (s : State) (present : Bool) : State :=
  { s with upd := { s.upd with presentRun := if present then s.upd.presentRun + 1 else 0 } }

/-- TRIAL_LEFT (0x7000.0A). -/
def State.trialLeft (s : State) : Nat :=
  if s.upd.state = .trial then s.obj K.TRIAL_TIME - (s.fab.tick - s.upd.startAt) / 200 else 0

/-- The vote version in force (R82): while in trial, the confirmed image's. -/
def State.voteVersion (s : State) : Nat := (s.record.bank s.record.active).vote

/-- UPD_CMD_ABORT, accepted (Table 14.6). -/
def State.updAbort (s : State) : State :=
  let s1 := s.writeBytes manifestAt (leBytes 4 0)
  let st := (s1.record.bank s1.newBank).state
  let s2 := if st = .writing ∨ st = .valid then
      let t := s1.setNewBank .empty
      { t with loader := { t.loader with images := fset t.loader.images s1.newBank [] } }
    else s1
  let s3 := if s2.areaState (1 - s2.activeArea) = 2 then s2.setAreaState (1 - s2.activeArea) 0 else s2
  ({ s3 with upd := { s3.upd with state := .idle, act := none, etchPosted := false, etched := false } }).updReason 0x0D

/-! ### Power-up (R377, R395, R396, R399) -/

/-- The loader boots at power-up: a bank left WRITING becomes EMPTY; the bank that runs, and its area, are chosen, a trial that had begun
counting as failed (R395). The record of that failure is written when the image starts (`bootPower`). -/
def State.loaderBoot (s : State) : State :=
  let r := s.record
  let b := s.newBank
  let s1 := if (r.bank b).state = .writing then
      let t := s.setNewBank .empty
      { t with loader := { t.loader with images := fset t.loader.images b [] } }
    else s
  let next := if s1.record.pending.isSome ∧ s1.record.ran then s1.record.afterTrial else s1.record
  let run := next.pending.getD next.active
  { s1 with upd := { s1.upd with running := run }, activeArea := (next.bank run).area }

/-- The first block that fails its recheck, or BLOCKS (R399). -/
def State.recheck (s : State) : Nat := (List.range (s.mf 6 2)).findIdx (fun i => !s.blockPasses i)

/-- The download states after power-up: DOWNLOADED when every block rechecks, otherwise DOWNLOADING; a manifest that fails R382
zeroes MAGIC (R399). -/
def State.resumeDownload (s : State) : State :=
  if s.mf 0 4 ≠ magicFormat % 2 ^ 32 then
    (if s.upd.state = .failed ∨ s.upd.state = .applied then s else s.setUpd .idle)
  else if s.manifestOk then
    let n := s.recheck
    let s1 := s.updOpen.setLive K.NEXT_BLOCK n
    match s.upd.state with
    | .downloading | .downloaded | .verifying | .verified | .applying =>
      s1.setUpd (if n = s.mf 6 2 then .downloaded else .downloading)
    | .idle | .applied | .scheduled | .trial | .failed => s1.setUpd s.upd.state
  else (s.writeBytes manifestAt (leBytes 4 0)).setUpd .idle

/-- The image starts at power-up: it reports a trial that a power loss or RESET_N ended (R395) and a fallback (R396), and starts its own
trial, which fails at once where store recall raised kind 0x14 (`lost`). -/
def State.bootPower (s : State) (lost : Bool) : State :=
  let s1 := if s.record.pending.isSome ∧ s.record.ran then s.trialLost 0x0B else s
  let s2 := if s1.loader.fell then s1.fellBack else s1
  if s2.record.pending.isSome then (if lost then s2.startTrial.trialFail 0x0A else s2.startTrial) else s2

/-- The update engine rebuilds its state at the end of start-up (Table 14.9). -/
def State.rebuildUpdate (s : State) : State :=
  if s.record.pending.isSome then s
  else if (s.record.bank s.newBank).state = .valid then
    ({ s with upd := { s.upd with state := .applied, act := none } }).resumeDownload
  else
    let s2 := if s.upd.state = .applying ∧ s.areaState (1 - s.activeArea) = 2 then s.setAreaState (1 - s.activeArea) 0 else s
    let s3 := if s2.upd.state = .applied ∨ s2.upd.state = .scheduled ∨ s2.upd.state = .trial then s2.setUpd .idle else s2
    s3.resumeDownload

/-! ### Conditions of UPD_CMD and UPD_BLOCK (R382, R384, R391, R397) -/

/-- The status that UPD_CMD c is refused with; none when it is accepted. -/
def State.updCmdRefused (s : State) (c : Nat) : Option Nat :=
  let st := s.upd.state
  if c = 1 then (if st ≠ .idle ∧ st ≠ .failed then some 0x8A else if s.manifestOk then none else some 0x8B)
  else if c = 2 then (if st = .downloaded then none else some 0x8A)
  else if c = 3 then (if st = .verified then none else some 0x8A)
  else if c = 4 then
    (if st ≠ .applied then some 0x8A else if s.isPast s.actBeat (s.obj K.ACT_OFFSET) then some 0x8C else none)
  else if c = 5 then (if st = .scheduled then none else some 0x8A)
  else if c = 6 then (if st = .trial then none else some 0x8A)
  else if st = .idle ∨ st = .trial then some 0x8A else none

/-- UPD_CMD c takes effect. -/
def State.updCmd (s : State) (c : Nat) : State :=
  if c = 1 then s.updOpen
  else if c = 2 then s.setUpd .verifying
  else if c = 3 then s.updApply
  else if c = 4 then s.updSchedule
  else if c = 5 then s.updUnschedule
  else if c = 6 then s.setHealth 3
  else if c = 7 then s.updAbort
  else s

/-- The status that UPD_BLOCK i is refused with. -/
def State.updBlockRefused (s : State) (i : Nat) : Option Nat :=
  if s.upd.state ≠ .downloading then some 0x8A else if i = s.obj K.NEXT_BLOCK then none else some 0x8B

end Sys2Proof.Machine
end

