-- ==== Sys2Proof/Machine/Stipple.lean ====
section
/-! DEFINITION. Stipple runs up to their analysis (spec/07: R207 to R218). -/

namespace Sys2Proof.Machine

/-! ### Settings of a run -/

/-- Run length D in ticks (R209). -/
def State.stipLength (s : State) (n : Nat) : Nat :=
  if s.obj (K.STIP_PATTERN n) = 1 then
    s.obj (K.STIP_PRELOAD n) + 2 * s.obj (K.STIP_HALF n) * s.obj (K.STIP_CYCLES n)
  else s.obj (K.STIP_PRELOAD n) + 2047 * s.obj (K.STIP_CHIP n) * s.obj (K.STIP_REPEATS n)

/-- CAP_SAMPLES of a run (R210). -/
def State.stipSamples (s : State) (n : Nat) : Nat := s.stipLength n * s.obj (K.STIP_G n) / 16

/-- Energy tolls E of a run (R211). -/
def State.stipEnergy (s : State) (n : Nat) : Nat :=
  cdiv (s.obj (K.GUARD_HI n) * (s.obj (K.STIP_BASE n) + s.obj (K.STIP_STEP n)) * (s.stipLength n + 1000)) 200000000000000

/-- The constraints of R209 on rail n. -/
def State.stipSettingsOk (s : State) (n : Nat) : Bool :=
  let slew2 := 20 * s.obj (K.STIP_STEP n)
  let sl := s.obj (K.STIP_SLEW n)
  decide (s.obj (K.STIP_BASE n) + s.obj (K.STIP_STEP n) ≤ 20000)
  && decide (s.obj (K.STIP_HALF n) % 4 = 0) && decide (s.obj (K.STIP_CHIP n) % 4 = 0)
  && (if s.obj (K.STIP_PATTERN n) = 1 then decide (4 * slew2 ≤ s.obj (K.STIP_HALF n) * sl)
      else decide (2 * slew2 ≤ s.obj (K.STIP_CHIP n) * sl))
  && decide (s.stipLength n * s.obj (K.STIP_G n) ≤ 16 * 1048576)

/-- The guard condition of R214. -/
def State.guardAllowed (s : State) (n : Nat) : Bool :=
  let lo := s.obj (K.GUARD_LO n)
  let hi := s.obj (K.GUARD_HI n)
  decide (s.voltInForce n (K.UVF_LEVEL n) < lo) && decide (lo < hi) && decide (hi < s.voltInForce n (K.OVF_LEVEL n))
  && decide (40000 ≤ lo)

/-- One step of the 11-bit register of R208; the output is its last stage (PRESUMED: the usual PRBS-11 form). -/
def prbsNext (r : Nat) : Nat := (2 * r + (r / 1024 + r / 256) % 2) % 2048

/-- The register after k chips. -/
def prbsAt (k : Nat) : Nat :=
  match k with
  | 0 => 2047
  | j + 1 => prbsNext (prbsAt j)

/-- Chip k of a repetition (R208). -/
def prbsChip (k : Nat) : Bool := nbit (prbsAt (k % 2047)) 10

/-- Ticks between pattern edges: STIP_HALF or STIP_CHIP. -/
def State.stipPeriod (s : State) (n : Nat) : Nat :=
  if s.obj (K.STIP_PATTERN n) = 1 then s.obj (K.STIP_HALF n) else s.obj (K.STIP_CHIP n)

/-- Number of pattern edges of a run. -/
def State.stipEdges (s : State) (n : Nat) : Nat :=
  if s.obj (K.STIP_PATTERN n) = 1 then 2 * s.obj (K.STIP_CYCLES n) else 2047 * s.obj (K.STIP_REPEATS n)

/-- Load after pattern edge k (R207, R208). -/
def State.stipLevel (s : State) (n k : Nat) : Nat :=
  let high := if s.obj (K.STIP_PATTERN n) = 1 then k % 2 == 0 else prbsChip k
  s.obj (K.STIP_BASE n) + (if high then s.obj (K.STIP_STEP n) else 0)

/-! ### Schedule (R217, R218) -/

/-- The key of a run. -/
def State.stipKey (s : State) (n : Nat) : Nat :=
  let k := s.obj (K.STIP_KEY n)
  if k = 1 then s.convoy.set.segId else if k = 2 then s.convoy.set.unitAddr else 0

/-- The scheduled beat of a run commanded now. -/
def State.stipBeat (s : State) (n : Nat) : Count :=
  let base : Count := if s.obj (K.STIP_WHEN n) = 0 then BitVec.ofNat 32 (s.obj (K.STIP_BEAT n)) else s.fab.count + 1
  base + BitVec.ofNat 32 (s.obj (K.STIP_SPACING n) * (s.stipKey n % s.obj (K.STIP_MOD n)))

/-- Put a run on schedule. -/
def State.stipSchedule (s : State) (n : Nat) (beat : Count) : State :=
  let r := s.stip n
  s.setStip n { r with state := .scheduled, beat := beat, offset := s.obj (K.STIP_OFFSET n), retry := false, wait := .lane }

/-- The first of beat + every, beat + 2 every, ... that is not past. -/
def State.nextOccurrence (fuel : Nat) (s : State) (beat : Count) (every offset : Nat) : Count :=
  match fuel with
  | 0 => beat
  | f + 1 =>
    let b := beat + BitVec.ofNat 32 every
    if s.isPast b offset then State.nextOccurrence f s b every offset else b

/-- The next scheduled beat of a campaign (R218). Occurrences more than 1,023 beats back are past (R16). -/
def State.campaignBeat (s : State) (beat : Count) (every offset : Nat) : Count :=
  let behind := (s.fab.count - beat).toNat
  let skip := if behind < 2 ^ 31 then (behind - 1023) / every else 0
  State.nextOccurrence 1100 s (beat + BitVec.ofNat 32 (skip * every)) every offset

/-- After a run has ended: the next occurrence, when STIP_EVERY is not 0 (Table 7.5). -/
def State.stipNext (s : State) (n : Nat) : State :=
  let every := s.obj (K.STIP_EVERY n)
  if every = 0 then s
  else
    let r := s.stip n
    s.stipSchedule n (s.campaignBeat r.beat every (s.obj (K.STIP_OFFSET n)))

/-! ### Ends of a run -/

/-- The number in [15:0] of kind 0x38: a run that does not reach DONE has no number (R226), so the manual states no value. -/
def State.abortNumber (s : State) (n : Nat) : Nat := Config.abortedRunNumber n (s.obj H.runSeq) % 65536

/-- A run ends ABORTED or FAILED with a reason: kind 0x38, ABORTS, then the next occurrence. -/
def State.stipEnd (s : State) (n reason : Nat) (st : StipState) : State :=
  let r := s.stip n
  let s1 := (s.setStip n { r with state := st, retry := false }).setLive (K.STIP_REASON n) reason
  ((s1.bump (K.ABORTS n)).raise n 0x38 (reason * 65536 + s1.abortNumber n)).stipNext n

/-- Withdraw a waiting run's lane, its energy request and its tolls. The tolls of an ended run whose load is still removed stay with it
(R234). -/
def State.stipWithdraw (s : State) (n : Nat) : State :=
  let s0 := s.freeLaneOf .stipple n
  let s1 := if (s.sink n).use = .removing ∨ (s.sink n).drain.isSome = true then s0 else s0.coolEnergy n
  s1.setSink n { s1.sink n with eWant := 0, ePosted := none }

/-- A waiting run FAILs. -/
def State.stipFail (s : State) (n reason : Nat) : State := (s.stipWithdraw n).stipEnd n reason .failed

/-- Abort a run in PRELOAD, ACQUIRE or UNLOAD (R215, Table 7.4). The sink goes to 0 A at 2 A/µs, or at STIP_SLEW when
pre-empted, unless a discharge holds it. Under freeze the run stands, and ends with the freeze's reason (rank 2 of R424). -/
def State.stipAbort (s : State) (n reason : Nat) : State :=
  if (s.stip n).state.running && s.frozen.isNone then
    let slew := if reason = 4 then s.obj (K.STIP_SLEW n) else 2000
    let s1 := if (s.sink n).use = .stipple ∨ (s.sink n).use = .removing then s.removeSink n slew
      else if (s.sink n).use = .idle then s.coolEnergy n else s
    let s2 := if s1.cap.owner = .stipple n then
        (match s1.cap.state with
          | .running => s1.endCapture 10
          | .armed => s1.withdrawCapture
          | .idle => s1
          | .done => s1)
      else s1
    (s2.freeLaneOf .stipple n).stipEnd n reason .aborted
  else s

/-- A power-fail etch request (R314), and what it ends: a capture, and with it the stipple run that owns it. -/
def State.powerFail (s : State) : State :=
  let s1 := s.postPowerFail
  match s.cap.owner with
  | .stipple n => if s.cap.state = .running ∧ s1.cap.state = .done then s1.stipAbort n 5 else s1
  | _ => s1

/-- A capture lane is pre-empted: the capture ends PREEMPTED and TRUNCATED (Table 6.6); a stipple run that owns it ends with
it (DEDUCED: the run holds its lane together with its capture). -/
def State.capturePreempted (s : State) : State :=
  let s1 := match s.cap.state with
    | .running => s.endCapture 6
    | .armed => s.withdrawCapture
    | .idle => s
    | .done => s
  match s.cap.owner with
  | .stipple n => s1.stipAbort n 4
  | _ => s1

/-! ### Run state machine (Table 7.5) -/

/-- STIP_SCHEDULED_TICK: WAITING and the lane request, or FAILED where the margin is neither NOMINAL nor HELD. -/
def State.stipScheduled (s : State) (n : Nat) : State :=
  let r := s.stip n
  if r.state = .scheduled ∧ s.reached r.beat r.offset = true then
    let s1 := (s.setStip n { r with state := .waiting, schedTick := s.fab.tick, wait := .lane, retry := false })
    if (s.margin n).state = .nominal ∨ (s.margin n).state = .held then s1.postLane .stipple 2 n n 0 []
    else s1.stipFail n 0x14
  else s

/-- The lane is granted: request E tolls (R211). -/
def State.stipLane (s : State) (n : Nat) : State :=
  let r := s.stip n
  let s1 := s.setStip n { r with wait := if r.wait = .lane then .tolls else r.wait }
  s1.setSink n { s1.sink n with eWant := s1.stipEnergy n, ePosted := some s1.fab.tick }

/-- CAP_ARM is refused: the tolls go back, the lane is freed, and the run asks again at the next beat edge. -/
def State.stipRefused (s : State) (n : Nat) (why : StipWait) : State :=
  let s1 := s.stipWithdraw n
  s1.setStip n { s1.stip n with wait := why, retry := true }

/-- May a stipple run arm the capture: no run is in PRELOAD, ACQUIRE or UNLOAD (R212), and it is IDLE, or DONE and left by a run that is over
(R180, R215)? -/
def State.stipCaptureFree (s : State) : Bool :=
  s.stips.all (fun p => !p.2.state.running) && match s.cap.state, s.cap.owner with
  | .idle, _ => true
  | .done, .stipple m => !((s.stip m).state == .analyse || (s.stip m).state == .unload)
  | _, _ => false

/-- The capture settings of a run, written to the capture block's objects (R210, R181). -/
def State.stipCapSettings (s : State) (n : Nat) : State :=
  [(K.CAP_G, s.obj (K.STIP_G n)), (K.CAP_K, 2), (K.CAP_CH 0, n), (K.CAP_CH 1, 64 + n), (K.CAP_SAMPLES, s.stipSamples n),
    (K.CAP_WHEN, 1)].foldl (fun st p => (st.setPers p.1 p.2).mirror p.1 p.2) s

/-- Does a run in WAITING precede rail n in the order of R212: an earlier scheduled tick, then the lower rail? -/
def State.waitsBefore (s : State) (n : Nat) : Bool :=
  s.stips.any (fun p => p.2.state == .waiting && (decide (p.2.schedTick < (s.stip n).schedTick)
    || (p.2.schedTick == (s.stip n).schedTick && decide (p.1 < n))))

/-- The tolls are granted: CAP_ARM (R210, R180), in the order of R212; accepted, the run enters PRELOAD and its t0 is the capture's. A rail that
has left ON ends the run at once (DEDUCED from Table 7.4). -/
def State.stipArm (s : State) (n : Nat) : State :=
  if s.stipCaptureFree = false ∨ s.waitsBefore n then s.stipRefused n .capture
  else if s.conv.catchUp ≠ 0 then (s.bump K.CAL_REFUSALS).stipRefused n .calibration
  else
    let s0 := s.stipCapSettings n
    let s1 := s0.armCapture (.stipple n) (s.obj (K.STIP_G n)) 2 ((List.range 4).map (fun j => s0.obj (K.CAP_CH j)))
      (s.stipSamples n) 1 0 0
    let s2 := s1.setStip n { s1.stip n with state := .preload, edges := 0, outs := 0 }
    if (s2.rail n).state = .on then s2 else s2.stipAbort n 3

/-- ENERGY_GRANT (step 4 of R239): grants, then the runs that hold tolls take the capture in order of scheduled tick and
rail (R212). -/
def State.energyGrants (s : State) : State :=
  let r := s.energyQueue.foldl (fun (a : State × List Nat) n =>
    let g := a.1.grantEnergy n
    (g.1, if g.2 then a.2 ++ [n] else a.2)) (s, [])
  let early (a b : Nat) : Bool :=
    decide ((r.1.stip a).schedTick < (r.1.stip b).schedTick)
    || ((r.1.stip a).schedTick == (r.1.stip b).schedTick && decide (a < b))
  let ins (l : List Nat) (n : Nat) : List Nat := l.filter (fun m => early m n) ++ [n] ++ l.filter (fun m => !early m n)
  (r.2.foldl ins []).foldl State.stipArm r.1

/-- The capture of a run starts: t0, PRELOAD load (R210, R216). -/
def State.stipT0 (s : State) (n : Nat) : State :=
  let r := s.stip n
  if r.state = .preload then
    let s1 := s.setStip n { r with t0 := s.fab.tick, t0Beat := s.now.beat, t0Offset := s.now.offset,
                                   temp := s.objI (K.VALUE 182), margined := (s.margin n).state == .held, position := (s.margin n).position }
    s1.setSink n { s1.sink n with use := .stipple, fast := false, cmd := s.obj (K.STIP_BASE n), slew := s.obj (K.STIP_SLEW n),
                                  trimmed := false, cut := false, frozen := false, compliance := false }
  else s

/-- Is a run's capture running since its t0? -/
def State.stipActive (s : State) (n : Nat) : Bool := s.cap.owner == .stipple n && s.cap.state != .armed

/-- STIP_PRELOAD_END: ACQUIRE with the first pattern edge. -/
def State.preloadEnd (s : State) (n : Nat) : State :=
  let r := s.stip n
  if r.state = .preload ∧ s.stipActive n = true ∧ r.t0 + s.obj (K.STIP_PRELOAD n) ≤ s.fab.tick then
    (s.setStip n { r with state := .acquire, edges := 1 }).setSink n { s.sink n with cmd := s.stipLevel n 0 }
  else s

/-- STIP_PATTERN_EDGE (R207 to R209). -/
def State.patternEdge (s : State) (n : Nat) : State :=
  let r := s.stip n
  if r.state = .acquire ∧ r.edges < s.stipEdges n
      ∧ r.t0 + s.obj (K.STIP_PRELOAD n) + r.edges * s.stipPeriod n ≤ s.fab.tick then
    (s.setStip n { r with edges := r.edges + 1 }).setSink n { s.sink n with cmd := s.stipLevel n r.edges }
  else s

/-- UNLOAD ends once the capture is DONE and the sink at 0 A: ANALYSE, lane freed (Table 7.5). -/
def State.stipUnloaded (s : State) (n : Nat) : State :=
  let r := s.stip n
  if r.state = .unload ∧ s.cap.owner = .stipple n ∧ s.cap.state = .done ∧ (s.sink n).use = .idle then
    (s.setStip n { r with state := .analyse }).freeLaneOf .stipple n
  else s

/-- STIP_ACQUIRE_END: UNLOAD, sink to 0 A at STIP_SLEW. -/
def State.acquireEnd (s : State) (n : Nat) : State :=
  let r := s.stip n
  if r.state = .acquire ∧ r.t0 + s.stipLength n ≤ s.fab.tick then
    ((s.setStip n { r with state := .unload }).removeSink n (s.obj (K.STIP_SLEW n))).stipUnloaded n
  else s

/-- The guard (R213): an out sample counts, GUARD_COUNT of them in a row abort the run. -/
def State.guardSample (s : State) (n : Nat) (v : Int) : State :=
  let r := s.stip n
  if r.state.running then
    let out := decide (v < s.objI (K.GUARD_LO n)) || decide (s.objI (K.GUARD_HI n) < v)
    let outs := if out then r.outs + 1 else 0
    let s1 := s.setStip n { r with outs := outs }
    if out && decide (s.obj (K.GUARD_COUNT n) ≤ outs) then s1.stipAbort n 1 else s1
  else s

/-- STIP_CMD 0x02 (Table 7.5). -/
def State.stipCancel (s : State) (n : Nat) : State :=
  let r := s.stip n
  match r.state with
  | .scheduled => (s.stipWithdraw n).setStip n { r with state := .idle, retry := false }
  | .waiting => (s.stipWithdraw n).setStip n { r with state := .idle, retry := false }
  | .preload => s.stipAbort n 7
  | .acquire => s.stipAbort n 7
  | .unload => s.stipAbort n 7
  | .idle => s | .analyse => s | .done => s | .aborted => s | .failed => s

/-- Reason of a run that waited too long (reasons 0x10 to 0x13). -/
def StipWait.reason : StipWait → Nat
  | .lane => 0x10 | .tolls => 0x11 | .capture => 0x12 | .calibration => 0x13

/-- STIP_WAIT_MAX_END. -/
def State.waitMaxEnd (s : State) (n : Nat) : State :=
  let r := s.stip n
  let waited := (s.fab.count - r.beat).toNat
  if r.state = .waiting ∧ waited < 2 ^ 31 ∧ s.obj (K.STIP_WAIT_MAX n) ≤ waited then s.stipFail n r.wait.reason else s

/-- At a beat edge, the runs that CAP_ARM refused ask for a lane again (Table 7.5). -/
def State.stipEdge (s : State) : State :=
  s.stips.foldl (fun st p =>
    let r := st.stip p.1
    if r.state = .waiting ∧ r.retry = true then (st.setStip p.1 { r with retry := false }).postLane .stipple 2 p.1 p.1 0 []
    else st) s

/-- ENERGY_OVERRUN (R234): the grant is forfeited, and the run ends with TOLL_CUT. -/
def State.energyOverrun (s : State) (n : Nat) : State :=
  let k := s.sink n
  if k.overrun ∧ k.cut = false then
    let s1 := ((s.setSink n { k with cut := true }).bump K.OVERRUNS).raise 0x68 0x03 0
    if (s1.stip n).state.running then s1.stipAbort n 6 else s1.removeSink n 2000
  else s

/-- Codes of STIP_STATE (0x2500+n.21). -/
def StipState.code : StipState → Nat
  | .idle => 0 | .scheduled => 1 | .waiting => 2 | .preload => 3 | .acquire => 4 | .unload => 5 | .analyse => 6 | .done => 7
  | .aborted => 8 | .failed => 9

end Sys2Proof.Machine
end

