-- ==== Sys2Proof/Machine/Sequencing.lean ====
section
/-! DEFINITION. Rail sequencing (spec/04): rails, steps, passes, local shutdowns, collapse, PMBus setup. What a change of
state means for the comparators is in Supervision, whose `settle` ends every operation on rails. -/

namespace Sys2Proof.Machine

/-! ### Flags and filters -/

/-- Bit numbers of RAIL_FLAGS (Table 4.8). -/
def flLate : Nat := 0
def flPrereqForced : Nat := 1
def flRampLate : Nat := 2
def flAbandoned : Nat := 3
def flTripped : Nat := 4
def flDischForced : Nat := 5
def flDischFailed : Nat := 6
def flNoResponse : Nat := 7
def flMismatch : Nat := 8
def flCollapsed : Nat := 9

/-- Bit b of RAIL_FLAGS of rail n. -/
def State.flag (s : State) (n b : Nat) : Bool := nbit (s.obj (K.RAIL_FLAGS n)) b

/-- Set bit b of RAIL_FLAGS of rail n. -/
def State.setFlag (s : State) (n b : Nat) : State := s.setLive (K.RAIL_FLAGS n) (s.obj (K.RAIL_FLAGS n) ||| 2 ^ b)

/-- A filter at rest (R141). -/
def Filter.rest : Filter := { phase := .inside, onset := Stamp.zero, onsetClk := 0, clearClk := 0, raw := false }

/-- Comparator c of a rail. -/
def Rail.filter (r : Rail) (c : Nat) : Filter := fget r.filters c Filter.rest

/-- Does a filter read inside (R108)? -/
def Filter.inside (f : Filter) : Bool := f.phase == .inside || f.phase == .counting

/-- Is a rail in window (R108)? -/
def Rail.inWindow (r : Rail) : Bool := (r.filter 0).inside && (r.filter 1).inside

/-- Keep the w of R108 after a change of filters or of state. -/
def Rail.noteWindow (r : Rail) (t : Nat) : Rail :=
  { r with window := if r.inWindow then some (r.window.getD t) else none }

/-- COUNTING has reached onset + 2F: QUALIFIED (Table 5.3). -/
def State.filterDue (s : State) (n c : Nat) : Bool :=
  let f := (s.rail n).filter c
  f.phase == .counting && decide (f.onsetClk + 2 * s.obj (K.FILTER_OVF n + c) ≤ s.filterClk)

/-- Does the fast path release rail n on this tick, by a filter that qualifies on it (R149)? -/
def State.tripDue (s : State) (n : Nat) : Bool :=
  let x := (s.rail n).state
  let acts (c : Nat) : Bool := (x == .on || x == .stopping || (x == .ramping && c != 1)) && s.filterDue n c && nbit (s.obj (K.ACTION_OVF n + c)) 0
  acts 0 || acts 1 || acts 4

/-! ### Rails (R101 to R105) -/

/-- Is a rail done in a pass (R104)? -/
def RailState.done (x : RailState) : Bool :=
  x == .off || x == .forced || x == .locked || x == .absent

/-- Is rail n present? -/
def State.isPresent (s : State) (n : Nat) : Bool := s.objB (K.RAIL_PRESENT n)

/-- The dependents of rail n (R104): the rails whose PREREQ is n. -/
def State.dependents (s : State) (n : Nat) : List Nat := railNos.filter (fun m => s.isPresent m && s.obj (K.PREREQ m) == n)

/-- Does the PREREQ chain of rail m reach rail n (R115)? -/
def State.reaches (fuel : Nat) (s : State) (n m : Nat) : Bool :=
  match fuel with
  | 0 => false
  | f + 1 =>
    let p := s.obj (K.PREREQ m)
    decide (p < 64) && (p == n || State.reaches f s n p)

/-- May rail n take a transition on this tick (R105)? -/
def State.mayMove (s : State) (n : Nat) : Bool := (s.rail n).movedAt != s.filterClk + 1

/-- Let rail n do something on a later tick, since it has moved on this one (R105). -/
def State.later (s : State) (n : Nat) (x : RailNext) : State := s.setRail n { s.rail n with next := (s.rail n).next ++ [x] }

/-- Change the state of rail n on this tick. A rail that becomes done is noted at its prerequisite (R110). -/
def State.moveRail (s : State) (n : Nat) (x : RailState) : State :=
  let r := s.rail n
  let s1 := s.setRail n { r with state := x, movedAt := s.filterClk + 1, before := r.state }
  let p := s.obj (K.PREREQ n)
  if x.done && !r.state.done && decide (p < 64) then s1.setRail p { s1.rail p with depDone := s1.fab.tick } else s1

/-- Count and report a late start (R16). -/
def State.lateStart (s : State) : State := (s.bumpLive K.LATE_STARTS).raise 0x8A 0x01 0

/-- S of R107 in µs. -/
def State.stagger (s : State) : Nat :=
  let m := s.obj K.STAGGER_MODE
  let key := if m = 1 then s.convoy.set.segId else s.convoy.set.unitAddr
  if m = 0 then 0 else s.obj K.STAGGER_STEP * (key % s.obj K.STAGGER_MOD)

/-- Does rail n belong to a local shutdown or a dependent pass (R128, R238)? -/
def State.inUrgentPass (s : State) (n : Nat) : Bool :=
  (s.seq.state == .shutdown && s.seq.pass.any (fun p => p.rails.contains n)) || s.seq.deps.any (fun p => p.rails.contains n)

/-- Level of a discharge of rail n (R238): 0 when it is TRIPPED, or belongs to a local shutdown or dependent pass; otherwise 1. -/
def State.railLevel (s : State) (n : Nat) : Nat := if s.flag n flTripped || s.inUrgentPass n then 0 else 1

/-- Level of a sequencing transaction of rail n (R128): 0 in a local shutdown or dependent pass, otherwise 1. -/
def State.pmbLevel (s : State) (n : Nat) : Nat := if s.inUrgentPass n then 0 else 1

/-- Turn rail n on (R128): RAMPING, RAMP_TIMEOUT starts, rail lane n; EN driven (not without VIO, R432), or OPERATION 0x80 posted. -/
def State.turnOn (s : State) (n : Nat) : State :=
  let s1 := s.moveRail n .ramping
  let r := s1.rail n
  let s2 := s1.setRail n { r with timer := s1.fab.tick, slot := none, turnOnAt := none,
                                  window := if r.inWindow then some s1.fab.tick else none,
                                  en := s1.obj (K.CONTROL n) != 2 && !s1.vioGone }
  let s3 := s2.takeRailLane n .ramp 1
  if s3.obj (K.CONTROL n) = 2 then s3.postPmb n .turnOn 0x01 0x80 (s3.pmbLevel n) else s3

/-- A rail enters ON: its ramp leaves the lane, and its dependents in WAITING turn on on the next tick (Table 4.2). -/
def State.enterOn (s : State) (n : Nat) : State :=
  let s1 := (s.moveRail n .on).freeRailLane n .ramp
  (s1.dependents n).foldl (fun st m =>
    if (st.rail m).state = .waiting then st.setRail m { st.rail m with turnOnAt := some (st.fab.tick + 1) } else st) s1

/-- The WAITING rails whose turn-on tick has come turn on (Table 4.2). -/
def State.dueTurnOns (s : State) : State :=
  railNos.foldl (fun st n =>
    let r := st.rail n
    match r.state, r.turnOnAt with
    | .waiting, some t => if t ≤ st.fab.tick ∧ st.mayMove n = true then st.turnOn n else st
    | _, _ => st) s

/-- ON_SLOT: an ARMED rail reaches its slot tick (Table 4.2). A rail armed on this tick takes the row too if the tick is its slot (R105). -/
def State.railSlot (s : State) (n : Nat) : State :=
  let r := s.rail n
  match r.state, r.slot with
  | .armed, some t =>
    if t ≤ s.fab.tick ∧ (s.mayMove n = true ∨ t = s.fab.tick) then
      let p := s.obj (K.PREREQ n)
      if 64 ≤ p ∨ (s.rail p).state = .on then s.turnOn n
      else
        let s1 := s.moveRail n .waiting
        s1.setRail n { s1.rail n with slot := none, timer := s1.fab.tick, turnOnAt := none }
    else s
  | _, _ => s

/-- A stipple run of rail n ends as the rail leaves ON (Table 7.4). -/
def State.leaveOn (s : State) (n : Nat) : State := if (s.rail n).state = .on then s.stipAbort n 3 else s

/-- Enter DISCHARGING with what a release does: EN released or OPERATION off sent, and an OPERATION that has not gone out withdrawn;
margin to nominal, rail lane, sink, DISCH_TIMEOUT (R110, R111, R146, R149, R203). -/
def State.release (s : State) (n : Nat) (fast drive : Bool) : State :=
  let level := s.railLevel n
  let s0 := ((s.leaveOn n).moveRail n .discharging).dropJobs (fun j => j.rail == n && j.what == .off)
  let s1 := s0.muteJobs (fun j => j.rail == n && j.what == .turnOn)
  let s2 := s1.setRail n { s1.rail n with
    slot := none, timer := s1.fab.tick, dischFrom := s1.fab.tick, below := 0, en := false, window := none, turnOnAt := none }
  let s3 := if s2.obj (K.CONTROL n) = 2 then
      s2.postPmb n .off 0x01 (if s2.obj (K.PMB_OFF_MODE n) = 0 then 0x00 else 0x40) level
    else s2
  let s4 := (s3.marginRelease n level).takeRailLane n .discharge level
  let s5 := s4.startDischarge n level fast drive
  { s5 with seq := { s5.seq with releasedAt := s5.fab.tick + 1 } }

/-- The discharge of rail n is over: OFF, or LOCKED if TRIPPED; sink off, lane freed (Table 4.2). -/
def State.discharged (s : State) (n : Nat) : State :=
  let s1 := s.moveRail n (if s.flag n flTripped then .locked else .off)
  (s1.endDischarge n).freeRailLane n .discharge

/-- A rail below OFF_LEVEL leaves DISCHARGING or FORCED, on the next tick if it has moved on this one (R105). -/
def State.fallen (s : State) (n : Nat) : State := if s.mayMove n then s.discharged n else s.later n .fallen

/-- A corrected scan result of channel n (R112). -/
def State.offLevelResult (s : State) (n : Nat) (v : Int) (slotTick : Nat) : State :=
  let r := s.rail n
  if (r.state = .discharging ∨ r.state = .forced) ∧ r.dischFrom ≤ slotTick then
    let k := if v < s.objI (K.OFF_LEVEL n) then r.below + 1 else 0
    let s1 := s.setRail n { r with below := k }
    if k = 4 then s1.fallen n else s1
  else s

/-! ### Passes (R110, R113, R115, R116) -/

/-- Rail n enters a pass with an anchor (Table 4.2): a slot not yet reached is cancelled, a driven rail gets its off-slot, and
a rail already on its way off keeps its tick and timer (R111), at level 0 in a pass that runs at level 0 (R238). -/
def State.takeIn (s : State) (n : Nat) (anchor : Stamp) (urgent : Bool) : State :=
  let r := s.rail n
  let stopIt : State :=
    let slot := anchor.tick + usTicks (s.obj (K.OFF_DELAY n))
    let late := decide (slot < s.fab.tick)
    let s1 := ((s.leaveOn n).moveRail n .stopping).freeRailLane n .ramp
    let s2 := s1.setRail n { s1.rail n with slot := some (if late then s.fab.tick + 1 else slot) }
    if late then s2.lateStart else s2
  match r.state with
  | .armed => let s1 := s.moveRail n .off; s1.setRail n { s1.rail n with slot := none }
  | .waiting => let s1 := s.moveRail n .off; s1.setRail n { s1.rail n with turnOnAt := none }
  | .ramping => stopIt
  | .on => stopIt
  | .discharging => if urgent then s.raiseDischarge n else s
  | .forced => if urgent then s.raiseDischarge n else s
  | .stopping => s | .absent => s | .off => s | .locked => s

/-- Is QUAL_HOLD over for rail n (R108)? -/
def State.qualDone (s : State) (n : Nat) : Bool :=
  match (s.rail n).window with
  | some w => decide (w + usTicks (s.obj (K.QUAL_HOLD n)) ≤ s.fab.tick)
  | none => false

/-- Does a row of Table 4.2 that stands before those of passes apply to rail n on this tick: a slot, a prerequisite, a timeout, QUAL_HOLD, or
the fast path (R105)? -/
def State.rowDue (s : State) (n : Nat) : Bool :=
  let r := s.rail n
  let timeUp (key : Nat) : Bool := decide (r.timer + usTicks (s.obj key) ≤ s.fab.tick)
  match r.state with
  | .armed => r.slot.any (fun t => decide (t ≤ s.fab.tick))
  | .waiting => match r.turnOnAt with
    | some t => decide (t ≤ s.fab.tick)
    | none => timeUp (K.PREREQ_WAIT n)
  | .ramping => s.qualDone n || timeUp (K.RAMP_TIMEOUT n) || s.tripDue n
  | .on => s.tripDue n
  | .stopping => s.tripDue n
  | .absent => false | .off => false | .discharging => false | .forced => false | .locked => false

/-- Has rail n a row of Table 4.2 before those of passes: one due on this tick, or its turn-on on the next (R105)? -/
def State.rowFirst (s : State) (n : Nat) : Bool := s.rowDue n || ((s.rail n).state == .waiting && (s.rail n).turnOnAt.isSome)

/-- Rail n enters a pass, on the next tick if it moves on this one: it has moved, or an earlier row of Table 4.2 applies to it (R105). A rail on
its way off takes no transition, and enters at once. -/
def State.enterPass (s : State) (n : Nat) (anchor : Stamp) (urgent : Bool) : State :=
  let x := (s.rail n).state
  if x = .discharging ∨ x = .forced ∨ (s.mayMove n = true ∧ s.rowFirst n = false) then s.takeIn n anchor urgent
  else s.later n (.enter anchor urgent)

/-- A LOCKED rail goes OFF (Table 4.2). -/
def State.unlock (s : State) (n : Nat) : State :=
  if (s.rail n).state = .locked then (if s.mayMove n then s.moveRail n .off else s.later n .unlock) else s

/-- Every LOCKED rail goes OFF: a pass has ended with L = 0 (Table 4.2). -/
def State.unlockRails (s : State) : State := railNos.foldl State.unlock s

/-- Show the anchor of a step or pass (0x2801.04, .05). -/
def State.showAnchor (s : State) (a : Stamp) : State :=
  (({ s with seq := { s.seq with anchor := a } }).setLive K.ANCHOR_BEAT a.beat.toNat).setLive K.ANCHOR_OFFSET a.offset

/-- Start a card-wide pass to a target (R110, R118): L falls, and every present rail with ON_WAY above it is taken in. -/
def State.startPass (s : State) (target : Nat) (anchor : Stamp) (shut : Bool) : State :=
  let took := railNos.filter (fun n => s.isPresent n && decide (target < s.obj (K.ON_WAY n)))
  let old := (s.seq.pass.map Pass.rails).getD []
  let s1 := { s with seq := { s.seq with
    state := if shut then .shutdown else .falling, way := target, stepOpen := false, stepRails := [], stepTaken := [],
    rearm := [], pass := some ⟨anchor, target, unionPages old took⟩ } }
  took.foldl (fun st n => st.enterPass n anchor shut) (s1.showAnchor anchor)

/-- A dependent pass of a tripped rail (R115, R116). -/
def State.startDependent (s : State) (m : Nat) (anchor : Stamp) : State :=
  let took := railNos.filter (fun n => s.isPresent n && State.reaches 64 s m n)
  let s1 := { s with seq := { s.seq with
    deps := s.seq.deps ++ [⟨anchor, s.seq.way, took⟩],
    stepTaken := unionPages s.seq.stepTaken (took.filter (fun n => s.seq.stepRails.contains n)) } }
  took.foldl (fun st n => st.enterPass n anchor true) s1

/-- Post a local shutdown's pass, with what a reversal would restore (R118, R121). -/
def State.postShutdown (s : State) (anchor : Stamp) : State :=
  let moved := railNos.filterMap (fun n =>
    let x := (s.rail n).state
    if x = .ramping ∨ x = .on then some (n, x) else none)
  let cancelled := railNos.filter (fun n => (s.rail n).state == .armed || (s.rail n).state == .waiting)
  let saved : SeqSaved := {
    state := s.seq.state, way := s.seq.way, anchor := s.seq.anchor, pass := s.seq.pass,
    stepRails := s.seq.stepRails, stepOpen := s.seq.stepOpen, stepTaken := s.seq.stepTaken, moved := moved, cancelled := cancelled }
  let s1 := { s with seq := { s.seq with saved := some saved, holdFrom := none, setup := [] } }
  let s2 := s1.dropJobs (fun j => j.what == .setupClear || j.what == .setupConfig || j.what == .setupRead)
  s2.startPass 0 anchor true

/-- SHUTDOWN_CAUSE keeps the first cause (R118, R445). -/
def State.noteCause (s : State) (cause : Nat) : State :=
  if s.obj K.SHUTDOWN_CAUSE = 0 then s.setLive K.SHUTDOWN_CAUSE cause else s

/-- A local shutdown cause arises (R118): it stands; outside COLLAPSED and SHUTDOWN it starts a pass to 0, raises kind 0x10
and counts. While the cores restart the pass is posted later, with its anchor unchanged
(R117). -/
def State.localShutdown (s : State) (cause : Nat) (anchor : Stamp) : State :=
  let s1 := { s with seq := { s.seq with causes := nins s.seq.causes cause } }
  let waiting := s.seq.deferred.any (fun d => match d with | .shutdown _ _ => true | .dependent _ _ => false)
  if s.seq.state = .collapsed ∨ s.seq.state = .shutdown ∨ waiting = true then s1
  else
    let s3 := ((s1.noteCause cause).bump K.LOCAL_SHUTDOWNS).raiseAt 0x8A 0x10 0 anchor
    if s3.coresUp then s3.postShutdown anchor
    else { s3 with seq := { s3.seq with deferred := s3.seq.deferred ++ [.shutdown cause anchor] } }

/-- Rail m entered DISCHARGING with TRIPPED set (R115). -/
def State.tripScope (s : State) (m : Nat) (anchor : Stamp) : State :=
  if s.obj (K.TRIP_SCOPE m) = 1 then s.localShutdown 4 anchor
  else if s.coresUp then s.startDependent m anchor
  else { s with seq := { s.seq with deferred := s.seq.deferred ++ [.dependent m anchor] } }

/-- Post the passes that waited for the cores, once they run (R117). -/
def State.postDeferred (s : State) : State :=
  if s.coresUp then
    s.seq.deferred.foldl (fun st d => match d with
      | .shutdown _ a => st.postShutdown a
      | .dependent m a => st.startDependent m a) { s with seq := { s.seq with deferred := [] } }
  else s

/-! ### Timeouts (Table 4.2) -/

/-- The WAITING or RAMPING rail n is abandoned: local shutdown under ON_FAIL 0x02 (R118). -/
def State.onFailShutdown (s : State) (n : Nat) : State :=
  if s.obj (K.ON_FAIL n) = 2 then s.localShutdown 3 s.now else s

/-- PREREQ_TIMEOUT. -/
def State.prereqTimeout (s : State) (n : Nat) : State :=
  let r := s.rail n
  if r.state = .waiting ∧ r.turnOnAt = none ∧ r.timer + usTicks (s.obj (K.PREREQ_WAIT n)) ≤ s.fab.tick ∧ s.mayMove n = true then
    let s1 := (s.bump K.RAMP_FAILS).raise n 0x20 0
    if s.obj (K.ON_FAIL n) = 0 then (s1.setFlag n flPrereqForced).turnOn n
    else ((s1.setFlag n flAbandoned).moveRail n .off).onFailShutdown n
  else s

/-- Read STATUS_WORD after kind 0x21 or 0x22 (Table 4.5). -/
def State.readStatus (s : State) (n : Nat) : State :=
  if s.obj (K.CONTROL n) = 1 then s else s.postPmb n .status 0x79 0 (s.pmbLevel n)

/-- RAIL_QUALIFY (R108). -/
def State.railQualify (s : State) (n : Nat) : State :=
  if (s.rail n).state = .ramping ∧ s.qualDone n = true ∧ s.mayMove n = true then s.enterOn n else s

/-- RAMP_TIMEOUT. A rail that qualifies on this tick takes the earlier row of Table 4.2 (R105). -/
def State.rampTimeout (s : State) (n : Nat) : State :=
  let r := s.rail n
  if r.state = .ramping ∧ r.timer + usTicks (s.obj (K.RAMP_TIMEOUT n)) ≤ s.fab.tick ∧ s.mayMove n = true then
    if s.qualDone n then s.enterOn n
    else
      let s1 := ((s.bump K.RAMP_FAILS).raise n 0x21 0).readStatus n
      if s.obj (K.ON_FAIL n) = 0 then (s1.setFlag n flRampLate).enterOn n
      else ((s1.setFlag n flAbandoned).release n false true).onFailShutdown n
  else s

/-- OFF_SLOT: the release tick of a STOPPING rail (R110). -/
def State.offSlot (s : State) (n : Nat) : State :=
  let r := s.rail n
  match r.state, r.slot with
  | .stopping, some t =>
    if t ≤ s.fab.tick ∧ r.depDone < s.fab.tick ∧ (s.dependents n).all (fun m => (s.rail m).state.done) = true ∧ s.mayMove n = true then
      s.release n false true
    else s
  | _, _ => s

/-- The first DISCH_TIMEOUT (Table 4.2). -/
def State.dischTimeout (s : State) (n : Nat) : State :=
  let r := s.rail n
  if r.state = .discharging ∧ r.timer + usTicks (s.obj (K.DISCH_TIMEOUT n)) ≤ s.fab.tick ∧ s.mayMove n = true then
    let s1 := ((s.setFlag n flDischForced).bump K.DISCH_TIMEOUTS).raise n 0x22 0
    let s2 := (s1.moveRail n .forced).readStatus n
    (s2.setRail n { s2.rail n with timer := s2.fab.tick }).forceDischarge n (s2.railLevel n)
  else s

/-- The second DISCH_TIMEOUT (Table 4.2). -/
def State.dischFailed (s : State) (n : Nat) : State :=
  let r := s.rail n
  if r.state = .forced ∧ r.timer + usTicks (s.obj (K.DISCH_TIMEOUT n)) ≤ s.fab.tick ∧ s.mayMove n = true then
    ((s.setFlag n flDischFailed).raise n 0x23 0).discharged n
  else s

/-! ### The card (R101, R106, R107, R118 to R125) -/

/-- Does a local hold stand (R101, R118): a cause, or the hold-off that follows it? -/
def State.localHold (s : State) : Bool :=
  !s.seq.causes.isEmpty || s.seq.state == .shutdown || s.seq.state == .holdoff || s.seq.state == .collapsed

/-- T (R101). -/
def State.target (s : State) : Nat := if s.localHold then 0 else s.convoy.way

/-- The rising conditions (R106), with the cores that post slots (Table 1.8). -/
def State.risingOk (s : State) : Bool :=
  !s.objB K.LOCAL_HOLD && !s.localHold && s.input.good && s.seq.state != .setup && !s.coll.fatalOut && !s.store.recalling
  && s.seq.deps.isEmpty && s.coresUp

/-- Does the card object to a WAYSTATION question on sequencing grounds (R125)? -/
def State.wayObjects (s : State) (w : Nat) : Bool :=
  decide (s.convoy.way < w) && (s.seq.state != .idle || s.seq.way != s.convoy.way || !s.risingOk)

/-- Arm an OFF rail for a step: RAIL_FLAGS cleared, slot posted. A slot that has gone by starts late (R109). -/
def State.armRail (s : State) (n slot : Nat) (late : Bool) : State :=
  let s1 := (s.setLive (K.RAIL_FLAGS n) 0).moveRail n .armed
  let s2 := s1.setRail n { s1.rail n with slot := some slot, noPmb := false }
  if late then (s2.setFlag n flLate).lateStart else s2

/-- A rail of a step is armed, on the next tick if it has moved on this one (R105). -/
def State.postOnSlot (s : State) (n slot : Nat) (late : Bool) : State :=
  if s.mayMove n then s.armRail n slot late else s.later n (.arm slot late)

/-- STEP_START (R106, R107, R109): at a beat edge, L rises by one and every OFF rail with ON_WAY = L is armed. The slots of a waystation that
was entered late on this tick are shifted to it; a step that starts later has its anchor here. -/
def State.stepStart (s : State) : State :=
  let open_ := s.seq.state == .idle || s.seq.state == .blocked || (s.seq.state == .rising && !s.seq.stepOpen)
  if open_ = true ∧ s.seq.way < s.target ∧ s.risingOk = true ∧ s.fab.tick = s.fab.edgeTick ∧ s.seq.rearm = [] then
    let l := s.seq.way + 1
    let lateFrom := if l = s.target ∧ s.seq.wayAt.tick = s.fab.tick then s.seq.lateStep else none
    let rails := railNos.filter (fun n => (s.rail n).state == .off && s.obj (K.ON_WAY n) == l)
    let s1 := ({ s with seq := { s.seq with
      state := .rising, way := l, stepRails := rails, stepOpen := true, stepTaken := [], lateStep := none } }).showAnchor s.now
    let g := s1.stagger
    let s2 := rails.foldl (fun st n =>
      let d := usTicks (st.obj (K.ON_DELAY n) + g)
      match lateFrom with
      | some b => st.postOnSlot n (st.fab.tick + 1 + d) (decide (b.tick + d < st.fab.tick))
      | none => st.postOnSlot n (st.fab.tick + d) false) s1
    rails.foldl State.railSlot s2
  else s

/-- At a beat edge, the rails of step 4 of R121 get their slots. -/
def State.rearmEdge (s : State) : State :=
  match s.seq.rearm with
  | [] => s
  | rs =>
    let ds := rs.map (fun n => usTicks (s.obj (K.ON_DELAY n) + s.stagger))
    let low := ds.foldl min (ds.headD 0)
    let s1 := { s with seq := { s.seq with rearm := [] } }
    let s2 := rs.foldl (fun st n =>
      if (st.rail n).state = .armed then
        st.setRail n { st.rail n with slot := some (st.fab.tick + usTicks (st.obj (K.ON_DELAY n) + st.stagger) - low) }
      else st) s1
    rs.foldl State.railSlot s2

/-- FALLING_PASS (R110, R114): T below L starts a pass anchored where T fell. -/
def State.fallingPass (s : State) : State :=
  let open_ := s.seq.state == .idle || s.seq.state == .blocked || s.seq.state == .rising
  if open_ = true ∧ s.target < s.seq.way ∧ s.coresUp = true then s.startPass s.target s.seq.wayAt false else s

/-! ### PMBus setup (R127, R129) -/

/-- Send the first command for the next rail of the setup pass. -/
def State.setupNext (s : State) : State :=
  match s.seq.setup with
  | [] => s
  | n :: _ => s.postPmb n .setupClear 0x03 0 1

/-- Enter SETUP, or IDLE where PMB_SETUP is 0x00 (Table 4.4, R127). -/
def State.enterSetup (s : State) : State :=
  if s.objB K.PMB_SETUP then
    let rs := railNos.filter (fun n => s.isPresent n && s.obj (K.CONTROL n) != 1)
    let s0 := rs.foldl (fun st n => st.setRail n { st.rail n with noPmb := false }) s
    let s1 := { s0 with margins := s0.margins.map (fun (p : Nat × Margin) => (p.1, { p.2 with modeRead := false })),
                        seq := { s0.seq with state := .setup, setup := rs } }
    s1.setupNext
  else { s with seq := { s.seq with state := .idle } }

/-- The setup pass is done with rail n. -/
def State.setupDone (s : State) (n : Nat) : State :=
  if s.seq.setup.head? = some n then ({ s with seq := { s.seq with setup := s.seq.setup.drop 1 } }).setupNext else s

/-- ON_OFF_CONFIG data of rail n (Table 4.5). -/
def State.onOffConfig (s : State) (n : Nat) : Nat := if s.obj (K.CONTROL n) = 2 then 0x1A else 0x16

/-- A sequencing transaction ended well (R127). -/
def State.seqPmbDone (s : State) (j : PmbJob) (data : Nat) : State :=
  match j.what with
  | .setupClear => s.postPmb j.rail .setupConfig 0x02 (s.onOffConfig j.rail) 1
  | .setupConfig => s.postPmb j.rail .setupRead 0x02 0 1
  | .setupRead =>
    let s1 := if data % 256 = s.onOffConfig j.rail then s else (s.setFlag j.rail flMismatch).raise j.rail 0x25 0
    s1.setupDone j.rail
  | _ => s

/-- Report a sequencing transaction that did not go through (R129). -/
def State.reportPmb (s : State) (n : Nat) : State := ((s.setFlag n flNoResponse).bump K.PMB_FAILURES).raise n 0x24 0

/-- The last try of a sequencing transaction failed (R129). -/
def State.seqPmbFailed (s : State) (j : PmbJob) : State :=
  let s1 := s.reportPmb j.rail
  let s2 := s1.setRail j.rail { s1.rail j.rail with noPmb := true }
  let s3 := s2.dropJobs (fun x => x.rail == j.rail && x.what.sequencing)
  s3.setupDone j.rail

/-- What the read of a pre-empted transaction that completed says (R127, R205). -/
def State.pmbRead (s : State) (j : PmbJob) (data : Nat) : State :=
  match j.what with
  | .setupRead => if data % 256 = s.onOffConfig j.rail then s else (s.setFlag j.rail flMismatch).raise j.rail 0x25 0
  | .voutMode => (s.setLive (K.MRG_VOUT_MODE j.rail) (data % 256)).setMargin j.rail { s.margin j.rail with modeRead := true }
  | _ => s

/-- What a transaction that has ended leads to. One that its lane's pre-emption ended is reported as a failed one, since the manual names no
other report, but later transactions to the rail are still sent, and the setup pass goes on (DESIGN CHOICE:
notes/assumptions/88.md). -/
def State.pmbEnded (s : State) (r : PmbResult) : State :=
  match r with
  | .none => s
  | .done j d => if j.what.sequencing then s.seqPmbDone j d else s.marginDone j.rail j d
  | .failed j => if j.what.sequencing then s.seqPmbFailed j else s.marginFailed j.rail
  | .preempted j d =>
    let s1 := match d with | some v => s.pmbRead j v | none => s
    if j.what.sequencing then (s1.reportPmb j.rail).setupDone j.rail else s1.marginFailed j.rail

/-- PMBUS_TRANSACTION_DONE. Without VIO the PMBus is high impedance (R431, R432), and no transfer succeeds. -/
def State.pmbDone (s : State) (port : Nat) (ok : Bool) (data : Nat) : State :=
  let r := s.pmbTransfer port (ok && !s.vioGone) data
  r.1.pmbEnded r.2

/-! ### Card state machine (Table 4.4) -/

/-- Is a pass complete (R113)? -/
def State.passDone (s : State) (p : Pass) : Bool := p.rails.all (fun n => (s.rail n).state.done)

/-- Has a rail of a step met its condition (R106)? -/
def State.stepRailDone (s : State) (n : Nat) : Bool :=
  let x := (s.rail n).state
  (s.rail n).next.isEmpty
  && (x == .on || x == .locked || (x == .off && s.flag n flAbandoned) || (s.seq.stepTaken.contains n && x.done))

/-- Enter HOLDOFF (R119): causes 0x03, 0x04 and 0x07 clear. -/
def State.enterHoldoff (s : State) : State :=
  let cs := s.seq.causes.filter (fun c => c != 3 && c != 4 && c != 7)
  { s with seq := { s.seq with
    state := .holdoff, causes := cs, pass := none, saved := none,
    holdFrom := if cs.isEmpty then some s.fab.tick else none } }

/-- May a local shutdown be reversed (R121)? -/
def State.reversible (s : State) : Bool :=
  match s.seq.saved with
  | some v => s.objB K.REVERSE && s.seq.causes.isEmpty && s.seq.pass.any (fun p => decide (s.seq.releasedAt ≤ p.anchor.tick))
      && (s.obj K.SHUTDOWN_CAUSE == 1 || s.obj K.SHUTDOWN_CAUSE == 2)
      && (v.state == .idle || v.state == .blocked || v.state == .rising || v.state == .falling)
  | none => false

/-- Reverse a local shutdown (R121). -/
def State.reverse (s : State) : State :=
  match s.seq.saved with
  | none => s
  | some v =>
    let s1 := v.moved.foldl (fun st p =>
      let st1 := st.setRail p.1 { st.rail p.1 with next := [] }
      if (st1.rail p.1).state = .stopping then
        let st2 := st1.setRail p.1 { st1.rail p.1 with state := p.2, slot := none }
        if p.2 = .ramping then st2.takeRailLane p.1 .ramp 1 else st2
      else st1) s
    let s2 := v.cancelled.foldl (fun st n =>
      if (st.rail n).state = .off then
        let st1 := (st.setLive (K.RAIL_FLAGS n) 0).moveRail n .armed
        st1.setRail n { st1.rail n with slot := none, noPmb := false }
      else st) s1
    let s3 := { s2 with seq := { s2.seq with
      state := if v.cancelled.isEmpty then v.state else .rising, way := v.way, pass := v.pass, stepRails := v.stepRails,
      stepOpen := v.stepOpen, stepTaken := v.stepTaken, rearm := v.cancelled, saved := none } }
    (((s3.showAnchor v.anchor).setLive K.SHUTDOWN_CAUSE 0).bump K.REVERSALS).raise 0x8A 0x12 0

/-- The causes that have cleared (the list of R118). -/
def State.clearCauses (s : State) : State :=
  let keep (c : Nat) : Bool :=
    if c = 1 then !s.input.good || s.input.lossHeld
    else if c = 2 then s.input.pfailLow
    else if c = 5 then s.objB K.LOCAL_HOLD
    else if c = 6 then s.coll.state == .deciding || s.coll.state == .faulted || s.coll.state == .latched
    else true
  { s with seq := { s.seq with causes := s.seq.causes.filter keep } }

/-- One transition of Table 4.4, if one applies. -/
def State.cardRule (s : State) : Option State :=
  let q := s.seq
  match q.state with
  | .shutdown =>
    if s.reversible then some s.reverse
    else match q.pass with
      | some p => if s.passDone p then some (s.unlockRails.bump K.PASSES).enterHoldoff else none
      | none => some s.enterHoldoff
  | .falling => match q.pass with
    | some p =>
      if s.passDone p then
        let s1 := ({ s with seq := { q with pass := none } }).bump K.PASSES
        if q.way = 0 then some s1.unlockRails.enterSetup else some { s1 with seq := { s1.seq with state := .idle } }
      else none
    | none => some { s with seq := { q with state := .idle } }
  | .rising =>
    if q.stepOpen then
      if q.rearm.isEmpty && q.stepRails.all s.stepRailDone then
        some (({ s with seq := { q with stepOpen := false } }).bump K.STEPS)
      else none
    else if s.target = q.way then some { s with seq := { q with state := .idle } }
    else if q.way < s.target ∧ s.risingOk = false then some { s with seq := { q with state := .blocked } }
    else none
  | .idle => if q.way < s.target ∧ s.risingOk = false then some { s with seq := { q with state := .blocked } } else none
  | .blocked => if s.target = q.way then some { s with seq := { q with state := .idle } } else none
  | .holdoff =>
    if q.causes.isEmpty then
      if q.holdFrom.isNone then some { s with seq := { q with holdFrom := some s.fab.tick } } else none
    else if q.holdFrom.isSome then some { s with seq := { q with holdFrom := none } } else none
  | .collapsed =>
    if s.input.good = true ∧ s.obj K.COLLAPSE_V + 200000 ≤ s.quick 2 then some (s.unlockRails.bump K.PASSES).enterHoldoff
    else none
  | .setup => if q.setup.isEmpty then some { s with seq := { q with state := .idle } } else none

/-- HOLDOFF_END (R119, R445). -/
def State.holdoffEnd (s : State) : State :=
  match s.seq.state, s.seq.holdFrom with
  | .holdoff, some t =>
    if s.seq.causes.isEmpty = true ∧ t + usTicks (s.obj K.REENTRY_HOLDOFF) ≤ s.fab.tick then
      ({ (s.setLive K.SHUTDOWN_CAUSE 0) with seq := { s.seq with holdFrom := none, state := .idle } }).enterSetup
    else s
  | _, _ => s

/-- A dependent pass that is complete (R116) counts; LOCKED rails go OFF if it ends with L = 0 (Table 4.2). -/
def State.depRule (s : State) : Option State :=
  match s.seq.deps.find? s.passDone with
  | none => none
  | some p =>
    let s1 := ({ s with seq := { s.seq with deps := s.seq.deps.erase p } }).bump K.PASSES
    some (if s1.seq.way = 0 then s1.unlockRails else s1)

/-! ### Collapse (R122) -/

/-- Collapse: EN released, sinks to 0 A, rails OFF with COLLAPSED, margins to nominal without PMBus, L := 0, COLLAPSED,
kind 0x11, power-fail etch; under freeze the etch waits for the first clocked tick (R417). -/
def State.collapse (s : State) : State :=
  let s1 := railNos.foldl (fun st n =>
    let x := (st.rail n).state
    if x = .absent ∨ x = .locked then st
    else
      let st1 := ((st.leaveOn n).moveRail n .off).setFlag n flCollapsed
      let st2 := st1.setRail n { st1.rail n with slot := none, turnOnAt := none, en := false, window := none, next := [] }
      let st3 := (st2.freeRailLane n .ramp).freeRailLane n .discharge
      (st3.setMargin n { st3.margin n with state := .nominal, position := 0, code := 0, codeTo := 0 }).freeRailLane n .margin) s
  let s2 := s1.collapseSinks.muteJobs (fun _ => true)
  let s3 := { s2 with seq := { s2.seq with
    state := .collapsed, way := 0, causes := nins s2.seq.causes 7, pass := none, deps := [], stepOpen := false, stepRails := [],
    rearm := [], saved := none, releasedAt := s2.fab.tick + 1, holdFrom := none, setup := [], deferred := [] } }
  let s4 := ((s3.noteCause 7).bump K.COLLAPSES).raise 0x8A 0x11 0
  if s4.frozen.isSome then { s4 with input := { s4.input with freezeReserve := true } } else s4.powerFail

/-- Codes of Table 4.1. -/
def RailState.code : RailState → Nat
  | .absent => 0 | .off => 1 | .armed => 2 | .waiting => 3 | .ramping => 4 | .on => 5 | .stopping => 6 | .discharging => 7
  | .forced => 8 | .locked => 9

/-- Codes of Table 4.3. -/
def SeqState.code : SeqState → Nat
  | .idle => 0 | .blocked => 1 | .rising => 2 | .falling => 3 | .shutdown => 4 | .holdoff => 5 | .collapsed => 6 | .setup => 7

/-- RAILS_ON (0x2801.08). -/
def State.railsOn (s : State) : Nat :=
  railNos.foldl (fun a n => if (s.rail n).state = .on then a + 2 ^ n else a) 0

/-- HOLDOFF_LEFT (0x2801.07), in µs. -/
def State.holdoffLeft (s : State) : Nat :=
  if s.seq.state = .holdoff then
    match s.seq.holdFrom with
    | some t => cdiv (t + usTicks (s.obj K.REENTRY_HOLDOFF) - s.fab.tick) 200
    | none => s.obj K.REENTRY_HOLDOFF
  else 0

/-- Is the sequencer in its safe state (R131)? -/
def State.seqSafe (s : State) : Bool :=
  s.seq.way == 0 && (s.seq.state == .idle || s.seq.state == .setup || s.seq.state == .holdoff)
  && railNos.all (fun n => let x := (s.rail n).state; x == .off || x == .absent || x == .locked) && s.seq.deps.isEmpty

/-- A write of PRESENT (Table 4.2). -/
def State.setPresent (s : State) (n : Nat) (on : Bool) : State :=
  let x := (s.rail n).state
  if on && x == .absent then
    let s1 := s.moveRail n .off
    s1.setRail n { s1.rail n with filters := [] }
  else if !on && x == .off then
    let s1 := s.moveRail n .absent
    s1.setRail n { s1.rail n with filters := [] }
  else s

end Sys2Proof.Machine
end

