-- ==== Sys2Proof/Machine/Feeds.lean ====
section
/-! DEFINITION. Input feeds, mating, input good, hold-up (spec/09). -/

namespace Sys2Proof.Machine

/-- A feed before the end of start-up: UNMATED, gate off (R403). -/
def Feed.blank : Feed :=
  { state := .unmated, blocking := false, gateOff := 0, badAt := 0, uv := none, ov := none, soa := 0, rampFrom := 0,
    v0 := 0, charge := 0, chargeAt := 0, sense := 0, need := 0, issued := 0, edges := 0, armed := false, recalled := false,
    full := none, left := 0, dmg := 0, pulling := false, closing := false, frozenTrip := none, last := none }

/-- Feed A (0) or B (1). -/
def State.feed (s : State) (f : Nat) : Feed := fget s.feeds f Feed.blank

/-- Replace a feed. -/
def State.setFeed (s : State) (f : Nat) (x : Feed) : State := { s with feeds := fset s.feeds f x }

/-- Codes of Table 9.2. -/
def FeedState.code : FeedState → Nat
  | .disabled => 0 | .unmated => 1 | .waitSource => 2 | .waitTolls => 3 | .ramping => 4 | .on => 5 | .tripped => 6
  | .lockout => 7 | .damaged => 8

/-- Is the gate of a feed driven (Table 9.2, R263)? -/
def Feed.driven (x : Feed) : Bool := x.state == .ramping || (x.state == .on && !x.blocking)

/-- May a trip still pull the gate of a feed? Under freeze the gate of a RAMPING feed, and of one that has tripped, is off already
(R275). -/
def State.pullable (s : State) (f : Nat) : Bool :=
  let x := s.feed f
  s.frozen.isNone || (x.state == .on && x.frozenTrip.isNone)

/-- Is the gate of a feed off in the sense of its safe state (R256)? -/
def Feed.gateIsOff (x : Feed) : Bool := x.state != .ramping && x.state != .on

/-- The objects that a trip writes (R266, Table 9.10). -/
def tripKeys (f : Nat) : List Nat :=
  [K.TRIP_RUN f, K.LAST_TRIP f, K.RETRY_DEADLINE f, K.RETRY_BASIS f, K.TRIPS f, K.LOCKOUTS f]

/-- A feed on this tick: what it was before any transition of the tick (R256, R278). -/
def State.feedTick (s : State) (f : Nat) : FeedTick :=
  let x := s.feed f
  let fresh : FeedTick :=
    { tick := s.fab.tick, was := x.state, driven := x.driven, run := s.obj (K.TRIP_RUN f), moved := false, kinds := [],
      objs := (tripKeys f).map (fun k => (k, s.obj k)), armed := x.armed, recalled := x.recalled, full := x.full, left := x.left }
  match x.last with
  | some t => if t.tick = s.fab.tick then t else fresh
  | none => fresh

/-- Has a feed made its transition of this tick (R256)? -/
def State.feedMoved (s : State) (f : Nat) : Bool := (s.feedTick f).moved

/-- A transition of a feed. -/
def State.moveFeed (s : State) (f : Nat) (st : FeedState) : State :=
  s.setFeed f { s.feed f with state := st, last := some { s.feedTick f with moved := true } }

/-- Was the feed RAMPING or ON as this tick began? -/
def FeedTick.live (n : FeedTick) : Bool := n.was == .ramping || n.was == .on

/-- Is a message one of this tick, of a feed's source? -/
def State.feedMsg (s : State) (f : Nat) (m : Msg) : Bool := !m.injected && m.source == 0x58 + f && m.stamp.tick == s.fab.tick

/-- Has a feed sent a message of one of these kinds on this tick? -/
def State.raisedNow (s : State) (f : Nat) (kinds : List Nat) : Bool :=
  s.coll.inflight.any (fun m => s.feedMsg f m && kinds.contains m.kind)

/-- A row of Table 9.3 that an earlier row of the same tick replaces sends no message (R256). -/
def State.unraise (s : State) (f : Nat) (kinds : List Nat) : State :=
  { s with coll := { s.coll with inflight := s.coll.inflight.filter (fun m => !(s.feedMsg f m && kinds.contains m.kind)) } }

/-- The messages of this tick carry TRIP_RUN after any increment of R266 on it (R278); kind 0x08 carries DMG_LATCH in its place. -/
def State.restampRun (s : State) (f : Nat) : State :=
  let run := s.obj (K.TRIP_RUN f)
  { s with coll := { s.coll with inflight := s.coll.inflight.map (fun m : Msg =>
    if s.feedMsg f m = true ∧ m.kind ≠ 8 then { m with addr := m.addr / 256 * 256 + run } else m) } }

/-- Raise a kind on a feed's source with the address of R278: FEED_STATE before any transition of this tick, and TRIP_RUN. -/
def State.raiseFeed (s : State) (f kind : Nat) : State :=
  s.raise (0x58 + f) kind ((s.feedTick f).was.code * 65536 + s.obj (K.TRIP_RUN f))

/-! ### Codes (R254) -/

/-- Sense voltage of a current threshold, in counts of 10 µV. -/
def State.senseOf (s : State) (f i : Nat) : Nat := i * s.obj (K.RSENSE f) / 100000

/-- Code of FUSE_FAST or FUSE_LIMIT. -/
def fuseCode (x : Nat) : Nat := (2 * x + 25) / 50

/-- Code of REV_LEVEL. -/
def revCode (x : Nat) : Nat := (2 * x + 5) / 10

/-- CODE_FAST, CODE_SLOW, CODE_REV. -/
def State.codeFast (s : State) (f : Nat) : Nat := fuseCode (s.senseOf f (s.obj (K.FUSE_FAST f)))
def State.codeSlow (s : State) (f : Nat) : Nat := fuseCode (s.senseOf f (s.obj (K.FUSE_LIMIT f)))
def State.codeRev (s : State) (f : Nat) : Nat := revCode (s.senseOf f (s.obj (K.REV_LEVEL f)))

/-! ### Input good (R272) -/

/-- Judge whether input is good on this tick. Collapse detection arms on the first tick it is (R122). -/
def State.inputReview (s : State) : State :=
  let good := ((s.feed 0).state == .on || (s.feed 1).state == .on) && decide (s.obj K.BUS_GOOD ≤ s.quick 2)
  if good = s.input.good then s
  else if good then
    { s with
      input := { s.input with good := true, everGood := true, goodAt := s.filterClk, lostAt := none, lossDone := false, huWait := true },
      seq := { s.seq with collapseArmed := true } }
  else { s with input := { s.input with
      good := false, lostAt := some s.fab.tick, lossHeld := false, huWait := false, riseFrom := none } }

/-- An input-loss event (R272): kind 0x01, INPUT_LOSSES, cause 0x01. -/
def State.inputLossEvent (s : State) : State :=
  let s1 := (s.raise 0x5A 0x01 0).bump K.INPUT_LOSSES
  ({ s1 with input := { s1.input with lossDone := true } }).localShutdown 1 s1.now

/-- INPUT_LOSS: input not good for INPUT_RIDE. -/
def State.inputLoss (s : State) : State :=
  match s.input.lostAt with
  | some t =>
    if s.input.good = false ∧ s.input.everGood = true ∧ s.input.lossDone = false
        ∧ t + usTicks (s.obj K.INPUT_RIDE) ≤ s.fab.tick then s.inputLossEvent
    else s
  | none => s

/-! ### Gates, ramps and trips (R246, R248, R261, R266) -/

/-- Charge of a ramp in µC, from its integral (R261). -/
def State.rampCharge (s : State) (f : Nat) (c : Int) : Nat :=
  min 0xFFFFFFFF (tdiv c (20 * Int.ofNat (s.obj (K.RSENSE f)))).toNat

/-- A ramp ends, is abandoned or trips: RAMP_CHARGE recorded, an overdraft reported, tolls returned (R246, R248, R261). -/
def State.endRamp (s : State) (f : Nat) : State :=
  let x := s.feed f
  if x.state = .ramping then
    let c := x.charge + x.sense * Int.ofNat (s.fab.tick - x.chargeAt)
    let q := s.rampCharge f c
    let s1 := s.setLive (K.RAMP_CHARGE f) q
    let s2 := if x.issued * 10000 < q then (s1.bump K.OVERDRAFTS).raise 0x68 0x05 0 else s1
    (s2.returnInrush x.issued).setFeed f { x with issued := 0, charge := c, chargeAt := s.fab.tick }
  else s

/-- Take a feed to a state with its gate off. -/
def State.openFeed (s : State) (f : Nat) (st : FeedState) : State :=
  let s1 := s.endRamp f
  let x := s1.feed f
  let off := if x.gateIsOff then x.gateOff else s1.fab.tick
  let s2 := s1.moveFeed f st
  (s2.setFeed f { s2.feed f with blocking := false, gateOff := off, dmg := 0, edges := 0, pulling := false, closing := false }).inputReview

/-- A trip acts (R266): TRIP_RUN, LAST_TRIP, the message, and LOCKOUT or an armed deadline. -/
def State.actTrip (s : State) (f kind : Nat) : State :=
  let run := min 255 ((s.feedTick f).run + 1)
  let s1 := ((s.setPers (K.TRIP_RUN f) run).setPers (K.LAST_TRIP f) kind).bump (K.TRIPS f)
  let s2 := (s1.restampRun f).raiseFeed f kind
  if s.obj (K.RETRY_LIMIT f) ≤ run then
    let s3 := (s2.raiseFeed f 0x09).bump (K.LOCKOUTS f)
    let s4 := s3.openFeed f .lockout
    (s4.setFeed f { s4.feed f with armed := false }).postEtch 3 scopeP01 []
  else
    let beats := s.obj (K.RETRY_BEATS f)
    let convoy := s.convoy.state == .member || s.convoy.state == .leader || s.convoy.state == .halted
    let s3 := (s2.setPers (K.RETRY_DEADLINE f) ((s.fab.count.toNat + beats) % 2 ^ 32)).setPers (K.RETRY_BASIS f)
      (if convoy then 2 else 1)
    let s4 := s3.openFeed f .tripped
    (s4.setFeed f { s4.feed f with armed := true, recalled := false, full := none, left := beats }).postEtch 3 scopeP01 []

/-- Has a trip acted on this tick? -/
def State.tripActed (s : State) (f : Nat) : Bool :=
  let n := s.feedTick f
  n.live && n.moved && ((s.feed f).state == .tripped || (s.feed f).state == .lockout)

/-- An earlier row of Table 9.3 takes the place of a trip of this tick (R256): TRIP_RUN, LAST_TRIP, the deadline, its timers and the counters
are as before; the message of the trip event stays sent, that of the lockout is not. -/
def State.untrip (s : State) (f : Nat) : State :=
  let n := s.feedTick f
  let s1 := (n.objs.foldl (fun st p => st.setPers p.1 p.2) s).unraise f [9]
  (s1.setFeed f { s1.feed f with armed := n.armed, recalled := n.recalled, full := n.full, left := n.left }).restampRun f

/-- A trip event of a feed that was RAMPING or ON as this tick began (R256, R266): each event of a tick sends its own message, and the first
row of Table 9.3 acts, whichever event came first. A trip acts before the rows of R263 and R265, and replaces them; among trips the rows stand in the order
of their kinds but for kind 0x03 of RAMPING, which stands where kind 0x01 of ON does. Under freeze it is recorded on the first clocked
tick (R275). -/
def State.tripFeed (s : State) (f kind : Nat) : State :=
  let x := s.feed f
  if s.frozen.isSome then s.setFeed f { x with frozenTrip := some (x.frozenTrip.getD kind) }
  else
    let n := s.feedTick f
    let rank (k : Nat) : Nat := if k = 3 then 1 else k
    if n.kinds.contains kind then s
    else
      let s1 := s.setFeed f { x with last := some { n with kinds := kind :: n.kinds } }
      if n.moved = false then s1.actTrip f kind
      else if n.kinds = [] ∧ x.state = .waitSource then
        (s1.unraise f (if n.was = .ramping then [5, 6, 7] else [6, 7])).actTrip f kind
      else if s.tripActed f = true ∧ rank kind < rank (s.obj (K.LAST_TRIP f)) then (s1.setPers (K.LAST_TRIP f) kind).raiseFeed f kind
      else s1.raiseFeed f kind

/-- GATES of a rail (R148): a RAMPING or ON feed trips with kind 0x0A. -/
def State.gatesFeed (s : State) (f : Nat) : State :=
  if s.frozen.isSome then (if s.pullable f then s.tripFeed f 0x0A else s)
  else if (s.feedTick f).live then s.tripFeed f 0x0A else s

/-- GATES pulls both gates. -/
def State.pullGates (s : State) : State := (s.gatesFeed 0).gatesFeed 1

/-- Do the comparators of R262 act on a feed: was its gate driven as this tick began, or is it driven under freeze? -/
def State.fused (s : State) (f : Nat) : Bool :=
  if s.frozen.isSome then (s.feed f).driven && s.pullable f else (s.feedTick f).driven

/-- FUSE_FAST (R262). -/
def State.fuseFast (s : State) (f : Nat) : State :=
  let ramping := s.frozen.isNone && (s.feedTick f).was == .ramping
  if s.fused f then s.tripFeed f (if ramping then 3 else 1) else s

/-- FUSE_SLOW (R262). -/
def State.fuseSlow (s : State) (f : Nat) : State := if s.fused f then s.tripFeed f 2 else s

/-- SOA_TIMEOUT (R261). -/
def State.soaTimeout (s : State) (f : Nat) : State :=
  if (s.feedTick f).live = true ∧ s.obj (K.SOA_TIME f) ≤ (s.feed f).soa then s.tripFeed f 4 else s

/-- REVERSE_OFF (R263, Table 9.3). In RAMPING its row stands before that of R265. -/
def State.reverseOff (s : State) (f : Nat) : State :=
  let x := s.feed f
  match x.state with
  | .ramping => if s.frozen.isSome || s.feedMoved f then s else (s.raiseFeed f 0x05).openFeed f .waitSource
  | .on =>
    if x.blocking || !s.pullable f then s
    else (((s.setFeed f { x with blocking := true, soa := 0, last := some (s.feedTick f) }).bump (K.BLOCKS f)).raiseFeed f 0x05)
  | .waitSource =>
    if (s.feedTick f).was == .ramping && s.raisedNow f [6, 7] then (s.unraise f [6, 7]).raiseFeed f 0x05 else s
  | .disabled => s | .unmated => s | .waitTolls => s | .tripped => s | .lockout => s | .damaged => s

/-- FORWARD_ON (R263). -/
def State.forwardOn (s : State) (f : Nat) : State :=
  let x := s.feed f
  if x.state = .on ∧ x.blocking = true ∧ s.pullable f = true then s.setFeed f { x with blocking := false } else s

/-- FEED_UV and FEED_OV (R265). -/
def State.sourceOut (s : State) (f kind : Nat) (since : Option Nat) (span : Nat) : State :=
  let x := s.feed f
  match since with
  | some t =>
    if (x.state = .ramping ∨ x.state = .on) ∧ t + usTicks span ≤ s.fab.tick ∧ s.feedMoved f = false then
      (s.raiseFeed f kind).openFeed f .waitSource
    else s
  | none => s

/-! ### The state machine on a tick (Table 9.3, R259, R260) -/

/-- Is a feed available (R259): every quick result of the preceding AVAIL_TIME in range, the latest among them? -/
def State.available (s : State) (f : Nat) : Bool :=
  decide (s.obj (K.FEED_UV f) ≤ s.quick f) && decide (s.quick f < s.obj (K.FEED_OV f))
  && decide ((s.feed f).badAt + usTicks (s.obj (K.AVAIL_TIME f)) ≤ s.fab.tick)

/-- Does the other feed, in one state, hold this one back (conditions 2 and 3 of R259)? -/
def State.stateHolds (s : State) (g : Nat) (st : FeedState) : Bool :=
  let last := s.obj (K.LAST_TRIP g)
  st == .waitTolls || st == .ramping
  || ((st == .tripped || st == .lockout) && ((decide (1 ≤ last) && decide (last ≤ 4)) || last == 10))

/-- Does the other feed hold this one back: as it was before this tick's transition, or as it is after (feed A goes first, R259)? -/
def State.otherHolds (s : State) (g : Nat) : Bool := s.stateHolds g (s.feedTick g).was || s.stateHolds g (s.feed g).state

/-- The need of a ramp (R260). -/
def State.rampNeed (s : State) (f : Nat) : Nat := cdiv (s.obj K.BUS_CAP * (s.quick f - s.quick 2)) (10 ^ 9)

/-- Where a mated feed goes from UNMATED (Table 9.3). -/
def State.matedState (s : State) (f : Nat) : FeedState :=
  if s.obj (K.DMG_LATCH f) ≠ 0 then .damaged
  else if s.obj (K.RETRY_LIMIT f) ≤ s.obj (K.TRIP_RUN f) then .lockout
  else if s.obj (K.RETRY_BASIS f) ≠ 0 then .tripped
  else .waitSource

/-- Has start-up ended? -/
def State.serving (s : State) : Bool := s.phase == .joining || s.phase == .running

/-- One tick of a feed: the rows of Table 9.3 that no other command stands for, where the feed has made no transition on this tick. A feed
whose FEED_ENABLE was written on the tick of an earlier transition follows it here, and so does one that lost its mating on such a tick (R256). -/
def State.tickFeed (s : State) (f : Nat) : State :=
  let x := s.feed f
  let lost := x.state != .disabled && x.state != .unmated
    && ((x.pulling && s.input.pullAt.isNone) || (!s.input.mated && !(x.state == .on && x.pulling)))
  if s.feedMoved f then s
  else if x.closing then s.openFeed f .disabled
  else if lost then s.openFeed f .unmated
  else match x.state with
    | .disabled => if s.objB (K.FEED_ENABLE f) && s.serving then s.openFeed f .unmated else s
    | .unmated => if s.input.mated && s.serving then s.openFeed f (s.matedState f) else s
    | .waitSource =>
      if s.available f && !s.otherHolds (1 - f) then
        (s.setFeed f { x with need := s.rampNeed f }).moveFeed f .waitTolls
      else s
    | .waitTolls => if s.available f then s else s.moveFeed f .waitSource
    | .ramping =>
      if s.quick f < s.quick 2 + s.obj (K.RAMP_DONE_VDS f) then
        let s1 := ((s.endRamp f).bump (K.RAMPS f)).moveFeed f .on
        (s1.setFeed f { s1.feed f with blocking := false, edges := 0 }).inputReview
      else s
    | .on => s | .tripped => s | .lockout => s | .damaged => s

/-- One tick of both feeds; feed A goes first (R259). -/
def State.tickFeeds (s : State) : State := (s.tickFeed 0).tickFeed 1

/-- A ramp starts: the need moves whole (R246, R261). -/
def State.startRamp (s : State) (f : Nat) : State :=
  let x := s.feed f
  let s1 := (s.setLive K.INRUSH_FREE (s.obj K.INRUSH_FREE - x.need)).setLive K.INRUSH_ISSUED (s.obj K.INRUSH_ISSUED + x.need)
  ((s1.setFeed f { x with issued := x.need, soa := 0, rampFrom := s.fab.tick, v0 := s.quick 2, charge := 0,
                          chargeAt := s.fab.tick }).moveFeed f .ramping).setLive (K.SOA_USED f) 0

/-- May a waiting ramp's need be issued now? -/
def State.rampReady (s : State) (f : Nat) : Bool :=
  (s.feed f).state == .waitTolls && decide ((s.feed f).need ≤ s.obj K.INRUSH_FREE) && !s.feedMoved f

/-- INRUSH_ISSUE (R246): a waiting ramp's need moves whole, feed A first, and the ramp starts (R261). -/
def State.inrushIssue (s : State) : State :=
  if s.rampReady 0 then s.startRamp 0 else if s.rampReady 1 then s.startRamp 1 else s

/-- The reference that a ramp follows (R261), in counts of 10 µV: DVDT is in mV/µs. -/
def State.rampRef (s : State) (f : Nat) : Nat :=
  let x := s.feed f
  min (x.v0 + s.obj (K.DVDT f) * 100 * (s.fab.tick - x.rampFrom) / 200) (s.quick f)

/-- INRUSH_WANT (0x4002.07): the shortfall of a waiting ramp. -/
def State.inrushWant (s : State) : Nat :=
  let short (f : Nat) : Nat := if (s.feed f).state = .waitTolls then (s.feed f).need - s.obj K.INRUSH_FREE else 0
  min 65535 (max (short 0) (short 1))

/-! ### Quick results and scan results (R259, R261, R265, R270, R271, R274, R317) -/

/-- Keep the start of an unbroken run. -/
def runFrom (holds : Bool) (since : Option Nat) (t : Nat) : Option Nat := if holds then some (since.getD t) else none

/-- A quick result of one feed. -/
def State.quickFeed (s : State) (f : Nat) : State :=
  let x := s.feed f
  let v := s.quick f
  let uv := s.obj (K.FEED_UV f)
  let ov := s.obj (K.FEED_OV f)
  let soa := if x.driven then (if s.quick 2 + s.obj (K.SOA_VDS f) ≤ v then x.soa + 1 else 0) else x.soa
  let s1 := s.setFeed f { x with
    badAt := if uv ≤ v ∧ v < ov then x.badAt else s.fab.tick, uv := runFrom (decide (v < uv)) x.uv s.fab.tick,
    ov := runFrom (decide (ov ≤ v)) x.ov s.fab.tick, soa := soa }
  if s1.obj (K.SOA_USED f) < soa then s1.setLive (K.SOA_USED f) (min 200000 soa) else s1

/-- HU_GOOD and HU_CAP_MEAS from a quick result of VHU (R274, R317). -/
def State.quickHoldUp (s : State) : State :=
  let v := s.quick 3
  let good := decide (s.obj K.HU_READY ≤ v)
  let fell := s.input.huGood && !good && s.input.good
  let s1 := { s with input := { s.input with
    huGood := good, huFell := s.input.huFell || fell, huWait := s.input.huWait && !good } }
  if v < 2000000 then { s1 with input := { s1.input with riseLow := true, riseFrom := none } }
  else if s1.input.riseLow && s1.input.good then
    { s1 with input := { s1.input with riseLow := false, riseFrom := some s.filterClk } }
  else match s1.input.riseFrom with
    | some t =>
      if 4000000 < v then
        let us := (s.filterClk - t) / 200
        ({ s1 with input := { s1.input with riseFrom := none } }).setPers K.HU_CAP_MEAS
          (sat32 (s1.obj K.HU_CHARGE_I * us / 200000))
      else s1
    | none => { s1 with input := { s1.input with riseLow := false } }

/-- The check of R271 on a quick result of OUT_SNS. -/
def State.quickPath (s : State) : State :=
  if s.obj K.DMG_LEVEL ≤ s.quick 2 then s
  else { s with input := { s.input with outLow := some s.fab.tick, pathDone := false } }

/-- What a quick conversion means for the feeds. Under freeze the control die does not count it (R275), but for the supervision of the
hold-up (Table 15.6). -/
def State.quickFeeds (s : State) : State :=
  if s.frozen.isSome then s.quickHoldUp else (((s.quickFeed 0).quickFeed 1).quickPath.inputReview).quickHoldUp

/-- A corrected scan result of channel 132 + f enters the ramp's charge (R261): each value stands until the next. -/
def State.senseResult (s : State) (f : Nat) (v : Int) : State :=
  let x := s.feed f
  if x.state = .ramping then
    s.setFeed f { x with charge := x.charge + x.sense * Int.ofNat (s.fab.tick - x.chargeAt), chargeAt := s.fab.tick, sense := v }
  else s.setFeed f { x with sense := v }

/-- A corrected scan result of channel 136 + f (R270). -/
def State.srcResult (s : State) (f : Nat) (v : Int) : State :=
  let x := s.feed f
  let level := s.objI K.DMG_LEVEL
  if (x.state = .waitSource ∨ x.state = .tripped ∨ x.state = .lockout) ∧ x.gateOff + usTicks (s.obj K.DMG_SETTLE) ≤ s.fab.tick
      ∧ (level ≤ Int.ofNat (s.quick f) ∨ level ≤ Int.ofNat (s.quick 2)) then
    s.setFeed f { x with dmg := if level ≤ v then x.dmg + 1 else 0 }
  else s

/-- DAMAGED_ELEMENT (R270): its address carries DMG_LATCH in the place of TRIP_RUN. -/
def State.damagedElement (s : State) (f : Nat) : State :=
  let x := s.feed f
  if (x.state = .waitSource ∨ x.state = .tripped ∨ x.state = .lockout) ∧ 16 ≤ x.dmg ∧ s.feedMoved f = false then
    let src := s.objI (K.VALUE (136 + f))
    let near (v : Nat) : Bool := decide ((src - Int.ofNat v).natAbs ≤ v / 20)
    let latch := b2n (near (s.quick f)) + 2 * b2n (near (s.quick 2))
    ((s.setPers (K.DMG_LATCH f) latch).openFeed f .damaged).raise (0x58 + f) 0x08 (x.state.code * 65536 + latch)
  else s

/-- Has the gate of a feed been off for a span? -/
def State.offFor (s : State) (f span : Nat) : Bool := (s.feed f).gateIsOff && decide ((s.feed f).gateOff + span ≤ s.fab.tick)

/-- DAMAGED_PATH (R271): both gates have been off for DMG_PATH_TIME, and no quick result of OUT_SNS over that time lies below DMG_LEVEL. -/
def State.damagedPath (s : State) : State :=
  let span := usTicks (s.obj K.DMG_PATH_TIME)
  if s.input.pathDone = false ∧ s.offFor 0 span = true ∧ s.offFor 1 span = true ∧ s.obj K.DMG_LEVEL ≤ s.quick 2
      ∧ s.input.outLow.all (fun t => decide (t + span < s.fab.tick)) = true then
    ({ s with input := { s.input with pathDone := true } }).raise 0x5A 0x04 0
  else s

/-! ### Mating (R257, R258) -/

/-- EARLY_MATED (0) and LATE_MATED (1): the pin is low and has not qualified high (Table 9.7). The pins are low from the card's mating (R257)
until a high level of theirs qualifies; without VIO they read high (R432). -/
def State.pinLow (s : State) (pin : Nat) : Bool := !s.vioGone && (if pin = 0 then s.input.earlyLow else s.input.lateLow)

/-- A mated feed leaves UNMATED (Table 9.3). -/
def State.mateFeed (s : State) (f : Nat) : State :=
  if (s.feed f).state = .unmated ∧ s.serving = true ∧ s.feedMoved f = false then s.openFeed f (s.matedState f) else s

/-- MATED: both pins have been low for MATE_DEBOUNCE, counted from the end of CLOCKS and from the last qualified high level (R257). -/
def State.mateCard (s : State) : State :=
  if s.input.mated = false ∧ s.input.lowFrom + usTicks (s.obj K.MATE_DEBOUNCE) ≤ s.fab.tick then
    (({ s with input := { s.input with mated := true, earlyLow := true, lateLow := true } }).mateFeed 0).mateFeed 1
  else s

/-- Mating is lost for a feed whose gate is not held: its row of Table 9.3 stands before those of a trip. After another transition of the same
tick it waits for the next (R256). -/
def State.unmate (s : State) (f : Nat) : State :=
  if s.tripActed f then (s.untrip f).openFeed f .unmated
  else if s.feedMoved f then s
  else s.openFeed f .unmated

/-- The gates of the ON feeds of an extraction are pulled. -/
def State.pullFeeds (s : State) : State :=
  let go (st : State) (f : Nat) : State := if (st.feed f).pulling then st.unmate f else st
  let s1 := go (go s 0) 1
  { s1 with input := { s1.input with pullAt := none } }

/-- Mating is lost for one feed (R258): an ON feed keeps its gate until it is pulled, and one that a trip of this tick took from ON waits for the
same pull or for the next tick. -/
def State.leaveMating (s : State) (f : Nat) : State :=
  let x := s.feed f
  if x.state = .disabled ∨ x.state = .unmated then s
  else if x.state = .on ∨ (s.tripActed f = true ∧ (s.feedTick f).was = .on) then s.setFeed f { x with pulling := true }
  else s.unmate f

/-- A high level on EARLY_N or LATE_N qualifies (R258). A pull that is due already stays due (a return of LATE_N does not cancel it). -/
def State.loseMating (s : State) (early : Bool) : State :=
  let s1 := { s with input := { s.input with
    mated := false, earlyLow := s.input.earlyLow && !early, lateLow := s.input.lateLow && early, lowFrom := s.fab.tick } }
  if s.input.mated = false then s1
  else
    let live (f : Nat) : Bool := (s.feedTick f).live || (s.feed f).state == .ramping
    let extraction := live 0 || live 1 || s.input.good
    if extraction then
      let s2 := ((s1.raise 0x5A 0x02 0).bump K.EXTRACTIONS)
      let s3 := { s2 with input := { s2.input with lossHeld := s2.input.good } }
      let s4 := ((s3.leaveMating 0).leaveMating 1).inputLossEvent
      if early || s.obj K.EXTRACT_DELAY == 0 then s4.pullFeeds
      else
        let at_ := s.fab.tick + usTicks (s.obj K.EXTRACT_DELAY)
        { s4 with input := { s4.input with pullAt := some (min at_ (s4.input.pullAt.getD at_)) } }
    else (s1.leaveMating 0).leaveMating 1

/-- EXTRACT_DELAY_END. -/
def State.extractDelayEnd (s : State) : State :=
  match s.input.pullAt with
  | some t => if t ≤ s.fab.tick then s.pullFeeds else s
  | none => s

/-- EARLY_HIGH: a qualified high level on EARLY_N. It is a loss of mating where the card has mated again during the delay (R257), and it
pulls the gates that the delay still holds (R258). -/
def State.earlyHigh (s : State) : State := if s.input.pullAt.isSome then (s.loseMating true).pullFeeds else s.loseMating true

/-! ### Retry (R266 to R269) -/

/-- d of R268. -/
def State.retryDistance (s : State) (f : Nat) : Nat := u32Sub (s.obj (K.RETRY_DEADLINE f)) s.fab.count.toNat

/-- A beat edge, convoy or solo, for one feed: edges in ON, the armed deadline, the full timer (R256, R268, R269). -/
def State.feedEdge (s : State) (f : Nat) : State :=
  let x := s.feed f
  let x1 := if x.state = .on then { x with edges := x.edges + 1 } else x
  let x2 := match x1.full with
    | some k => { x1 with full := some (k - 1), left := if x1.armed then x1.left else k - 1 }
    | none => x1
  let beats := s.obj (K.RETRY_BEATS f)
  let d := s.retryDistance f
  if x2.state = .tripped ∧ x2.armed = true ∧ 1 ≤ d ∧ d < 2 ^ 31 then
    if d ≤ beats then s.setFeed f { x2 with left := d }
    else s.setFeed f { x2 with armed := false, full := some beats, left := beats }
  else s.setFeed f x2

/-- Release a feed's retry: RETRY_BASIS 0x00, and WAIT_SOURCE where it is TRIPPED (Table 9.3). -/
def State.releaseRetry (s : State) (f : Nat) : State :=
  let x := s.feed f
  let s1 := (s.setPers (K.RETRY_BASIS f) 0).setFeed f { x with armed := false, recalled := false, full := none, left := 0 }
  if x.state = .tripped then s1.openFeed f .waitSource else s1

/-- RETRY_RELEASE (R268): on a beat edge the armed deadline of a TRIPPED feed is reached. -/
def State.retryRelease (s : State) (f : Nat) : State :=
  let x := s.feed f
  let d := s.retryDistance f
  if x.state = .tripped ∧ x.armed = true ∧ s.fab.edgeTick = s.fab.tick ∧ s.feedMoved f = false ∧ (d = 0 ∨ 2 ^ 31 ≤ d) then
    s.releaseRetry f
  else s

/-- RETRY_FULL (R269): the full timer ends. -/
def State.retryFull (s : State) (f : Nat) : State :=
  let x := s.feed f
  if x.full = some 0 ∧ s.feedMoved f = false then (s.releaseRetry f).raiseFeed f 0x0B else s

/-- TRIP_RUN_RESET (Table 9.3). A trip of the same tick still counts on from the TRIP_RUN that stood before. -/
def State.tripRunReset (s : State) (f : Nat) : State :=
  let x := s.feed f
  if x.state = .on ∧ s.obj (K.RETRY_BEATS f) ≤ x.edges ∧ s.feedMoved f = false then
    (s.setPers (K.TRIP_RUN f) 0).setFeed f { x with edges := 0, last := some (s.feedTick f) }
  else s

/-- A rebase by d onto a valid frame (R267, R269): a local-basis deadline moves and becomes convoy; a recalled convoy-basis
deadline is armed. -/
def State.rebaseFeed (s : State) (d f : Nat) : State :=
  let x := s.feed f
  if s.obj (K.RETRY_BASIS f) = 1 then
    (s.setPers (K.RETRY_DEADLINE f) ((s.obj (K.RETRY_DEADLINE f) + d) % 2 ^ 32)).setPers (K.RETRY_BASIS f) 2
  else if s.obj (K.RETRY_BASIS f) = 2 ∧ x.recalled = true then s.setFeed f { x with armed := true, recalled := false }
  else s

/-- The end of start-up for one feed (R269, Table 9.3). -/
def State.startFeed (s : State) (f : Nat) : State :=
  let basis := s.obj (K.RETRY_BASIS f)
  let beats := s.obj (K.RETRY_BEATS f)
  let x : Feed := { s.feed f with
    state := if s.objB (K.FEED_ENABLE f) then .unmated else .disabled, armed := false, recalled := basis == 2,
    full := if basis = 0 then none else some beats, left := if basis = 0 then 0 else beats }
  let s1 := s.setFeed f x
  if s1.input.mated && x.state == .unmated then s1.openFeed f (s1.matedState f) else s1

/-- A write of FEED_ENABLE (Table 9.3). Its first row stands before a trip; on a tick on which the feed has moved otherwise, the write acts on
the next tick (R256). -/
def State.enableFeed (s : State) (f : Nat) (on : Bool) : State :=
  if on then
    if (s.feed f).state = .disabled ∧ s.feedMoved f = false then s.moveFeed f .unmated else s
  else if s.tripActed f then (s.untrip f).openFeed f .disabled
  else if s.feedMoved f then s.setFeed f { s.feed f with closing := true }
  else s.openFeed f .disabled

/-- FEED_CLEAR, accepted (Table 9.3). Its row is the last: where the feed has made its transition of this tick, it does not apply (R256). -/
def State.clearFeed (s : State) (f : Nat) : State :=
  if s.feedMoved f then s
  else
    let s1 := ((s.setPers (K.TRIP_RUN f) 0).setPers (K.RETRY_BASIS f) 0).setPers (K.DMG_LATCH f) 0
    (s1.setFeed f { s1.feed f with armed := false, recalled := false, full := none, left := 0 }).openFeed f .waitSource

/-! ### PFAIL_N and hold-up (R273, R274, R314) -/

/-- PFAIL (R273): kind 0x03, cause 0x02 where PFAIL_SHUTDOWN is set, a power-fail etch where PF_ON_PFAIL is set. -/
def State.pfailLow (s : State) : State :=
  if s.input.pfailLow then s
  else
    let s1 := ({ s with input := { s.input with pfailLow := true } }).raise 0x5A 0x03 0
    let s2 := if s1.objB K.PFAIL_SHUTDOWN then s1.localShutdown 2 s1.now else s1
    if s2.objB K.PF_ON_PFAIL then s2.powerFail else s2

/-- PFAIL_HIGH. -/
def State.pfailHigh (s : State) : State := { s with input := { s.input with pfailLow := false } }

/-- HU_LOW (R274): HU_GOOD fell while input is good, or has not come within 10 s of input becoming good. -/
def State.huLow (s : State) : State :=
  if s.input.huFell then ({ s with input := { s.input with huFell := false } }).raise 0x5B 0x01 0
  else if s.input.huWait ∧ s.input.good ∧ s.input.goodAt + 2000000000 ≤ s.filterClk then
    ({ s with input := { s.input with huWait := false } }).raise 0x5B 0x01 0
  else s

/-- Why the cores are held while the device runs from VHU: they start again as VAUX returns, unless a restart or the limit of R29 holds
them (R344). -/
def Cores.onReserve (c : Cores) : CoreHold :=
  match c.hold with
  | some (.restart n) => .restart n
  | some .limit => .limit
  | some .activation => .reserve
  | some .reserve => .reserve
  | none => .reserve

/-- HU_ON_RESERVE (R274, R314): VAUX falls; the device runs from VHU, kind 0x02, cores held, reserve 95, power-fail etch.
Under freeze the etch request waits for the first clocked tick (R417). -/
def State.goOnReserve (s : State) : State :=
  if s.input.onVhu then s
  else
    let s1 := ({ s with
      input := { s.input with onVhu := true },
      cores := { s.cores with hold := some s.cores.onReserve } }).raise
        0x5B 0x02 0
    if s.frozen.isSome then { s1 with input := { s1.input with freezeReserve := true } }
    else s1.powerFail

/-- VAUX_RETURN (R314): the cores start from the resident loader; the reserve is measured again (R241). -/
def State.vauxReturn (s : State) : State :=
  if s.input.onVhu then { s with input := { s.input with onVhu := false } } else s

/-- Freeze pulls the gate of a RAMPING feed (R275); it is recorded on the first clocked tick, which begins anew for the feed. -/
def State.thawFeed (s0 : State) (f : Nat) : State :=
  let x : Feed := { s0.feed f with last := none }
  let s := s0.setFeed f x
  let s1 := match x.frozenTrip with
    | some k => if x.state = FeedState.ramping ∨ x.state = FeedState.on then (s.setFeed f { x with frozenTrip := none }).tripFeed f k
        else s.setFeed f { x with frozenTrip := none }
    | none => if x.state = FeedState.ramping then s.openFeed f .waitSource else s
  s1.setFeed f { s1.feed f with badAt := s.fab.tick, uv := none, ov := none }

end Sys2Proof.Machine
end

