-- ==== Sys2Proof/Machine/Supervision.lean ====
section
/-! DEFINITION. Rail supervision (spec/05): comparator roles, glitch filters, the fast path, the rails' decision window, live
status; and `settle`, which brings the card to rest after an operation. -/

namespace Sys2Proof.Machine

/-! ### Settings of comparator c of rail n (Table 5.7) -/

/-- LEVEL, FILTER and ACTION of comparator c. -/
def levelKey (n c : Nat) : Nat := K.OVF_LEVEL n + c
def filterKey (n c : Nat) : Nat := K.FILTER_OVF n + c
def actionKey (n c : Nat) : Nat := K.ACTION_OVF n + c

/-- Codes in force (R135, R136; EFF_CODE). -/
def State.effCode (s : State) (n c : Nat) : Nat :=
  if c = 4 then ocCode (s.obj (K.ISNS_ZERO n)) (s.obj (K.ISNS_GAIN n)) (s.obj (K.OC_LEVEL n))
  else voltCode (s.obj (K.SENSE_RANGE n)) (s.obj (levelKey n c))

/-- The constraints of R139 on rail n. -/
def State.thresholdsOk (s : State) (n : Nat) : Bool :=
  let code := s.effCode n
  let act (c : Nat) := s.obj (actionKey n c)
  (List.range 4).all (fun c => decide (code c ≤ 1023))
  && decide (ocVolt (s.obj (K.ISNS_ZERO n)) (s.obj (K.ISNS_GAIN n)) (s.obj (K.OC_LEVEL n)) ≤ 204600)
  && decide (code 1 ≤ code 3) && decide (code 3 < code 2) && decide (code 2 ≤ code 0)
  && decide (act 2 % 8 = 0) && decide (act 3 % 8 = 0)
  && (List.range 5).all (fun c => !(nbit (act c) 1) || nbit (act c) 0)

/-! ### Roles (Table 5.4) -/

/-- What a qualification does. -/
inductive Role where
  | off | windowOnly | reports | acts | backFeed
  deriving DecidableEq, Repr

/-- The role of comparator c in a rail state; the warnings of a margined rail may be masked (R202). -/
def roleIn (x : RailState) (masked : Bool) (c : Nat) : Role :=
  let warn (r : Role) : Role := if masked then .off else r
  match x with
  | .absent => .off
  | .off | .armed | .waiting | .locked | .discharging | .forced => if c = 0 then .backFeed else .off
  | .ramping => if c = 0 ∨ c = 4 then .acts else if c = 1 then .windowOnly else if c = 2 then warn .reports else .off
  | .on | .stopping => if c = 2 ∨ c = 3 then warn .reports else .acts

/-- The rail state by which a qualification on this tick is judged: a rail that the fast path has released on this tick counts as it was,
since the comparators that qualify on one tick act together (R145), and so does one that its off-slot has released on it, a later row of
Table 4.2 than the fast path's (R149). -/
def State.qualState (s : State) (n : Nat) : RailState :=
  let r := s.rail n
  if r.state = .discharging ∧ s.mayMove n = false ∧ (s.flag n flTripped = true ∨ r.before = .stopping) then r.before else r.state

/-- The role of comparator c of rail n now. -/
def State.role (s : State) (n c : Nat) : Role := roleIn (s.qualState n) (s.warnMasked n) c

/-- Is a qualification with this role recorded (R142)? -/
def Role.recorded (r : Role) : Bool := r == .acts || r == .reports || r == .backFeed

/-- A fault comparator (R134)? -/
def isFaultComp (c : Nat) : Bool := c == 0 || c == 1 || c == 4

/-- Kind of a message (Table 5.10). -/
def compKind (r : Role) (c : Nat) : Nat := if r = .backFeed then 6 else c + 1

/-- Address of a message (Table 5.6). -/
def State.compAddr (s : State) (n c : Nat) : Nat := c * 2 ^ 20 + (s.qualState n).code * 2 ^ 16 + s.effCode n c % 1024

/-! ### First fault among rails (R152, R153) -/

/-- F_max (R152). -/
def State.fMax (s : State) : Nat :=
  (railNos.filter s.isPresent).foldl (fun m n =>
    max m (max (s.obj (filterKey n 0)) (max (s.obj (filterKey n 1)) (s.obj (filterKey n 4))))) 0

/-- The prerequisite depth of rail n (R152). -/
def State.depth (fuel : Nat) (s : State) (n : Nat) : Nat :=
  match fuel with
  | 0 => 0
  | f + 1 => let p := s.obj (K.PREREQ n); if p < 64 then State.depth f s p + 1 else 0

/-- Does the collector hold a first fault for the current episode (R153)? -/
def State.holdsFirst (s : State) : Bool :=
  (s.coll.state == .faulted || s.coll.state == .latched) && s.obj K.FIRST_SOURCE != 0xFF
  && s.obj K.FIRST_EPISODE == s.obj K.EPISODE

/-- A fault comparator qualified with role Acts: note the candidate in the window that is open, or open one. A window that is over stays until
RAIL_DECISION_WINDOW hands its claim to the collector. -/
def State.noteCandidate (s : State) (n c : Nat) (onset : Stamp) : State :=
  let k : RailCand := { rail := n, comp := c, depth := State.depth 64 s n, onset := onset, stamp := s.now, kind := c + 1,
                        addr := s.compAddr n c, word := 0, fatal := false,
                        held := s.frozen.isSome }
  if s.railWins.any (fun w => decide (s.fab.tick < w.q0 + w.window)) then
    { s with railWins := s.railWins.map (fun w => if s.fab.tick < w.q0 + w.window then { w with cands := w.cands ++ [k] } else w) }
  else if s.holdsFirst then s
  else { s with railWins := s.railWins ++ [⟨s.fab.tick, 400 + 2 * s.fMax, [k]⟩] }

/-- Comparator order OV fault, OC, UV fault (R153). -/
def compOrder (c : Nat) : Nat := if c = 0 then 0 else if c = 4 then 1 else 2

/-- The ranking of R153. -/
def RailCand.before (a b : RailCand) : Bool :=
  decide (a.onset.tick < b.onset.tick) || (a.onset.tick == b.onset.tick && (decide (a.depth < b.depth)
    || (a.depth == b.depth && (decide (compOrder a.comp < compOrder b.comp)
      || (compOrder a.comp == compOrder b.comp && decide (a.rail < b.rail))))))

/-! ### Qualification (R142, R144, R150, R151) -/

/-- Send the capture trigger of a qualification, if it has one, and its urgent requests (R151, R182). -/
def State.sendQual (s : State) (h : HeldQual) : State :=
  (if h.trigger then s.ringTrigger h.rail h.addr s.now else s).urgentCross h.rail

/-- Record one qualification: COMP_LATCH, QUAL_COUNT, LAST_QUAL_*, its message, its claim as a candidate, its capture trigger and
urgent requests. Under freeze the message, the trigger and the requests wait for the first clocked tick (R297); LAST_QUAL_BEAT and
LAST_QUAL_OFFSET take the count and the offset that stand (DESIGN CHOICE: notes/assumptions/89.md). -/
def State.recordQual (s : State) (n c : Nat) : State :=
  let r := s.role n c
  let kind := compKind r c
  let addr := s.compAddr n c
  let s1 := (s.setLive (K.COMP_LATCH n) (s.obj (K.COMP_LATCH n) ||| 2 ^ c)).bump (K.QUAL_COUNT n c)
  let s2 := ((s1.setLive (K.LAST_QUAL_BEAT n) s1.now.beat.toNat).setLive (K.LAST_QUAL_OFFSET n) s1.now.offset).setLive
    (K.LAST_QUAL_COMP n) c
  let s3 := s2.raise n kind addr
  let s4 := if r = .acts ∧ isFaultComp c = true then s3.noteCandidate n c ((s3.rail n).filter c).onset else s3
  let h : HeldQual := { rail := n, addr := addr, trigger := nbit (s4.obj (actionKey n c)) 3 }
  if s4.frozen.isSome then { s4 with ring := { s4.ring with held := s4.ring.held ++ [h] } } else s4.sendQual h

/-- Release a rail on the fast path (R144, R146, R149), on this tick also where the rail has entered its state on it (R143: notes/assumptions/107.md).
The comparators of one tick release it once, and drive SINK[n] if one of them says so (R145); the release takes precedence over an
off-slot's on this tick (R149). -/
def State.fastRelease (s : State) (n : Nat) (drive : Bool) (anchor : Stamp) : State :=
  let r := s.rail n
  if r.state = .discharging ∧ s.flag n flTripped = true then
    (if drive && (s.sink n).use != .discharge then s.startDischarge n 0 true true else s)
  else
    let s1 := if r.state = .discharging then s.setRail n { r with state := r.before } else s
    ((s1.setFlag n flTripped).release n true drive).tripScope n anchor

/-- What rail n still has to do since it moved on an earlier tick (R105). -/
def State.railNext (s : State) (n : Nat) : State :=
  let r := s.rail n
  match r.next with
  | [] => s
  | x :: rest =>
    if s.mayMove n then
      let s1 := s.setRail n { r with next := rest }
      match x with
      | .arm slot late => if r.state = .off then s1.armRail n slot late else s1
      | .enter anchor urgent => s1.enterPass n anchor urgent
      | .fallen => if r.state = .discharging ∨ r.state = .forced then s1.discharged n else s1
      | .unlock => s1.unlock n
    else s

/-- What the rails still have to do, on a new tick. -/
def State.railsNext (s : State) : State :=
  if s.rails.any (fun p => !p.2.next.isEmpty) then railNos.foldl State.railNext s else s

/-- The comparators `cs` of rail n qualify on this tick, each according to its role; the fast path performs the union of the
actions once (R145). -/
def State.qualify (s : State) (n : Nat) (cs : List Nat) : State :=
  let rec_ := cs.filter (fun c => (s.role n c).recorded)
  let acting := cs.filter (fun c => s.role n c == .acts)
  let action := acting.foldl (fun a c => a ||| s.obj (actionKey n c)) 0
  let s1 := rec_.foldl (fun st c => st.recordQual n c) s
  let s2 := if cs.any (fun c => s.role n c == .acts || s.role n c == .reports) then s1.stipAbort n 2 else s1
  let s3 := if nbit action 2 then s2.pullGates else s2
  if nbit action 0 then s3.fastRelease n (nbit action 1) s.now else s3

/-! ### Glitch filters (Table 5.3, R138) -/

/-- Replace filter c of rail n. -/
def State.setFilter (s : State) (n c : Nat) (f : Filter) : State :=
  let r := s.rail n
  s.setRail n ({ r with filters := fset r.filters c f }.noteWindow s.fab.tick)

/-- The rows of Table 4.2 for a ramp that ends on this tick, which come before the fast path's (R105). Under freeze the sequencer is stopped
(Table 15.6). -/
def State.rampRow (s : State) (n : Nat) : State := if s.frozen.isSome then s else (s.railQualify n).rampTimeout n

/-- Every filter of rail n that qualifies on this tick does so; they act together (R145), after a ramp that ends on it (R105). -/
def State.qualifyAll (s : State) (n : Nat) : State :=
  match (List.range 5).filter (fun k => s.filterDue n k) with
  | [] => s
  | due =>
    let s1 := s.rampRow n
    (due.foldl (fun st k => st.setFilter n k { (st.rail n).filter k with phase := .qualified }) s1).qualify n due

/-- COMPARATOR_QUALIFY: the tick onset + 2F of comparator c is reached. -/
def State.qualifyDue (s : State) (n c : Nat) : State := if s.filterDue n c then s.qualifyAll n else s

/-- COMPARATOR_CROSS: the raw output crosses. A rail that is ABSENT runs no filter (R141). -/
def State.cross (s : State) (n c : Nat) : State :=
  let r := s.rail n
  let f := r.filter c
  if r.state = .absent then s
  else match f.phase with
    | .inside =>
      let s1 := s.setFilter n c { f with phase := .counting, onset := s.now, onsetClk := s.filterClk, raw := true }
      s1.qualifyDue n c
    | .clearing => s.setFilter n c { f with phase := .qualified, raw := true }
    | _ => s

/-- COMPARATOR_RETURN: the raw output returns. A crossing of exactly 2F ticks qualifies on this tick first. -/
def State.goBack (s : State) (n c : Nat) : State :=
  if (s.rail n).state = .absent then s
  else
    let s1 := s.qualifyDue n c
    let f := (s1.rail n).filter c
    match f.phase with
    | .counting => s1.setFilter n c { f with phase := .inside, raw := false }
    | .qualified => s1.setFilter n c { f with phase := .clearing, clearClk := s1.filterClk, raw := false }
    | _ => s1

/-- FILTER_CLEAR: 2F ticks inside. -/
def State.filterClear (s : State) (n c : Nat) : State :=
  let f := (s.rail n).filter c
  if f.phase = .clearing ∧ f.clearClk + 2 * s.obj (filterKey n c) ≤ s.filterClk then s.setFilter n c { f with phase := .inside }
  else s

/-- A FILTER write takes effect (R138): the running counts are judged by the new F on the commit tick. -/
def State.filterWritten (s : State) (n c : Nat) : State := (s.qualifyDue n c).filterClear n c

/-- COMP_RAW and COMP_QUAL (Table 5.11). -/
def State.compRaw (s : State) (n : Nat) : Nat :=
  (List.range 5).foldl (fun a c => if ((s.rail n).filter c).raw then a + 2 ^ c else a) 0
def State.compQual (s : State) (n : Nat) : Nat :=
  (List.range 5).foldl (fun a c => if !((s.rail n).filter c).inside then a + 2 ^ c else a) 0

/-! ### Live status (R154, R155) -/

/-- The live record of a rail before any result. -/
def Live.blank : Live :=
  { vs := [], is_ := [], vSum := 0, vCount := 0, iSum := 0, iCount := 0, rest := 0, next := 200000, late := [] }

/-- The live record of rail n. -/
def State.liveOf (s : State) (n : Nat) : Live := fget s.live n Live.blank

/-- Replace the live record of rail n. -/
def State.setLiveOf (s : State) (n : Nat) (x : Live) : State := { s with live := fset s.live n x }

/-- Mean of a list of results, truncated toward zero. -/
def meanOf (l : List Int) : Int := tdiv (l.foldl (fun a b => a + b) 0) (Int.ofNat (max 1 l.length))

/-- Enter a scan result into the ENERGY sums. -/
def Live.add (x : Live) (r : Nat × Bool × Int) : Live :=
  if x.next ≤ r.1 then { x with late := x.late ++ [r] }
  else if r.2.1 then { x with vSum := x.vSum + r.2.2, vCount := x.vCount + 1 }
  else { x with iSum := x.iSum + r.2.2, iCount := x.iCount + 1 }

/-- A corrected result of channel n (voltage) or 64 + n (current) reaches the live status (R154). -/
def State.liveResult (s : State) (d : Delivered) : State :=
  if 128 ≤ d.ch then s
  else
    let n := d.ch % 64
    let volt := decide (d.ch < 64)
    let s1 := s.setLive (if volt then K.V_NOW n else K.I_NOW n) (rawI32 d.value)
    if d.scan then
      let x := (s1.liveOf n).add (d.slotTick, volt, d.value)
      let k := s1.obj (K.AVG_SAMPLES n)
      if volt then
        let l := (d.value :: x.vs).take k
        (s1.setLiveOf n { x with vs := l }).setLive (K.V_AVG n) (rawI32 (meanOf l))
      else
        let l := (d.value :: x.is_).take k
        (s1.setLiveOf n { x with is_ := l }).setLive (K.I_AVG n) (rawI32 (meanOf l))
    else s1

/-- A write of AVG_SAMPLES starts the means again (R154). -/
def State.restartMeans (s : State) (n : Nat) : State := s.setLiveOf n { s.liveOf n with vs := [], is_ := [] }

/-- ENERGY_PERIOD (R155). The sums wait for the results of the period's last slots, which arrive 18 ticks later. -/
def State.energyPeriod (s : State) (n : Nat) : State :=
  let x := s.liveOf n
  if x.next + 18 ≤ s.fab.tick then
    let fresh : Live := { x with vSum := 0, vCount := 0, iSum := 0, iCount := 0, next := x.next + 200000, late := [] }
    let x1 := x.late.foldl Live.add fresh
    if x.vCount = 0 ∨ x.iCount = 0 then s.setLiveOf n x1
    else
      let p := tdiv x.vSum (Int.ofNat x.vCount) * tdiv x.iSum (Int.ofNat x.iCount)
      if p < 0 then s.setLiveOf n { x1 with rest := 0 }
      else
        let total := p.toNat + x.rest
        (s.setLiveOf n { x1 with rest := total % 1000000 }).wideAdd (K.ENERGY_LO n) (total / 1000000)
  else s

/-! ### Coming to rest -/

/-- Has a rail's role basis changed since it was last reviewed? -/
def State.roleStale (s : State) (n : Nat) : Bool :=
  let r := s.rail n
  r.seen != r.state || r.seenMask != s.warnMasked n

/-- Review the comparator roles of rail n (R143): a filter that is QUALIFIED or CLEARING as its role becomes Acts or Reports
qualifies now, with its original onset. -/
def State.reviewRoles (s : State) (n : Nat) : State :=
  let r := s.rail n
  let masked := s.warnMasked n
  let strong (x : Role) : Bool := x == .acts || x == .reports
  let cs := (List.range 5).filter (fun c =>
    !(r.filter c).inside && !strong (roleIn r.seen r.seenMask c) && strong (roleIn r.state masked c))
  let s1 := s.setRail n ({ r with seen := r.state, seenMask := masked }.noteWindow s.fab.tick)
  s1.qualify n cs

/-- A rail that a pass takes in waits for a row of Table 4.2 that is due on this tick (R105). -/
def State.rowWaits (s : State) (n : Nat) : Bool := !(s.rail n).next.isEmpty && s.mayMove n && s.rowDue n

/-- The row of Table 4.2 before those of passes that is due on this tick (R105). -/
def State.ownRow (s : State) (n : Nat) : State :=
  match (s.rail n).state with
  | .armed => s.railSlot n
  | .waiting => if (s.rail n).turnOnAt.isSome then s.turnOn n else s.prereqTimeout n
  | _ => (s.rampRow n).qualifyAll n

/-- One thing that still has to happen on this tick, if any: a row of a rail that a pass waits for, a role review, the end of a dependent pass,
a transition of the card. -/
def State.settleOne (s : State) : Option State :=
  match railNos.find? s.rowWaits with
  | some n => some (s.ownRow n)
  | none => match railNos.find? s.roleStale with
    | some n => some (s.reviewRoles n)
    | none =>
      let s1 := s.clearCauses
      match s1.depRule with
      | some t => some t
      | none => s1.cardRule

/-- OFF_SLOT: a fast-path release that is due on this tick takes the earlier row of Table 4.2 (R149). -/
def State.offSlotRow (s : State) (n : Nat) : State := (if s.tripDue n then s.qualifyAll n else s).offSlot n

/-- Bring rails and card to rest. -/
def State.settleFor (fuel : Nat) (s : State) : State :=
  match fuel with
  | 0 => s
  | f + 1 => match s.settleOne with
    | some t => State.settleFor f t
    | none => s.clearCauses

/-- Bring rails and card to rest. Rails review their roles at once, also under freeze; the card's own transitions wait for the
clocks and for the end of start-up. -/
def State.settle (s : State) : State :=
  if s.frozen.isSome then railNos.foldl (fun st n => if st.roleStale n then st.reviewRoles n else st) s
  else if s.serving then State.settleFor 400 s
  else s

end Sys2Proof.Machine
end

