-- ==== Sys2Proof/Machine/Lanes.lean ====
section
/-! DEFINITION. Shared lanes: grants, pre-emption, hand-over (R20 to R24, Table 1.5). -/

namespace Sys2Proof.Machine

/-- What a granted lane starts. Captures, calibration and scrub steps start through their own commands. -/
def State.laneOpened (s : State) (r : LaneReq) (lane : Nat) : State :=
  match r.kind with
  | .pmbus => s.pmbGranted r.ref
  | .etch => s.etchGranted r lane
  | .stipple => s.stipLane r.ref
  | .ramp => s | .discharge => s | .margin => s | .capture => s | .cal => s | .scrub => s

/-- Put a request on a lane, and start its operation. -/
def State.grantLane (s : State) (lane : Nat) (r : LaneReq) : State := (s.placeOnLane lane r).laneOpened r lane

/-- Post a pre-empted operation again with its age kept (Table 1.5). -/
def State.requeue (s : State) (op : LaneOp) (mask : Nat) (pages : List Nat) : State :=
  let r : LaneReq := {
    kind := op.kind, base := op.base, eff := op.eff, target := op.target, ref := op.ref, mask := mask, pages := pages,
    posted := op.posted, denials := 0, promoted := decide (op.eff < op.base), waitCounted := false }
  { s with lanes := { s.lanes with queue := s.lanes.queue ++ [r] } }

/-- Requeue an etch of cause 0x02 or 0x06 that lost its lane; one of cause 0x01 is not requeued (Table 1.5). -/
def State.requeueEtch (s : State) (op : LaneOp) (mask : Nat) (pages : List Nat) : State :=
  if op.ref = 2 then s.postEtch 2 scopeP01 []
  else if op.ref = 6 then s.requeue op mask pages
  else s

/-- A pre-empted operation is told to end (Table 1.5). -/
def State.preempted (s : State) (lane : Nat) (op : LaneOp) : State :=
  match op.kind with
  | .stipple => s.stipAbort op.ref 4
  | .capture => s.capturePreempted
  | .etch =>
    match s.store.waiting.find? (fun w => w.lane == lane) with
    | some w =>
      (({ s with store := { s.store with waiting := s.store.waiting.erase w } }).freeLane lane).requeueEtch op w.mask w.pages
    | none => match s.store.etch with
      | some e => if e.lane = lane then ((s.stopEtch false).requeueEtch op e.mask e.pages).etchIdle else s.freeLane lane
      | none => s.freeLane lane
  | .cal => (s.freeLane lane).requeue op 0 []
  | .scrub => (s.freeLane lane).requeue op 0 []
  | .pmbus => let r := s.preemptPmb op.ref; r.1.pmbEnded r.2
  | .ramp => s.freeLane lane | .discharge => s.freeLane lane | .margin => s.freeLane lane

/-- The lane that a request pre-empts: of the lanes that `ok` admits and that are not on their way already, the lowest
effective level, and among equals the one granted most recently (R22, R23). -/
def State.victim (s : State) (ok : LaneOp → Bool) : Option (Nat × LaneOp) :=
  leastBy (fun a b => decide (b.2.eff < a.2.eff) || (a.2.eff == b.2.eff && decide (b.2.order < a.2.order)))
    (s.lanes.shared.filter (fun p => ok p.2 && !(s.lanes.handovers.any (fun h => h.lane == p.1))))

/-- Start the hand-over of a lane to a request. -/
def State.startHandover (s : State) (r : LaneReq) (v : Nat × LaneOp) : State :=
  let s1 := { s with lanes := { s.lanes with
    queue := dropReq s.lanes.queue r,
    handovers := s.lanes.handovers ++ [Handover.mk v.1 r v.2] } }
  s1.preempted v.1 v.2

/-- A protection request finds no free lane (R23): it pre-empts, or waits at the head of the queue with kind 0x02. -/
def State.protect (s : State) (r : LaneReq) : State :=
  match s.victim (fun o => o.base != 0) with
  | some v => (s.bumpLive K.PROTECT_PREEMPTS).startHandover r v
  | none =>
    if r.waitCounted then s
    else
      let s1 := { s with lanes := { s.lanes with
        queue := s.lanes.queue.map (fun x => if x = r then { x with waitCounted := true } else x) } }
      (s1.bumpLive K.PROTECT_WAITS).raise 0x8A 0x02 0

/-- The protection requests that wait, in the order of R20. -/
def Lanes.protections (l : Lanes) : List LaneReq :=
  (l.queue.filter (fun r => r.base == 0)).foldl
    (fun q r => q.filter (fun x => !r.before x) ++ [r] ++ q.filter (fun x => r.before x)) []

/-- LANE_GRANT (R20): at most one a tick. With no lane free, every protection request that waits pre-empts one, or is counted as waiting
(R23). -/
def State.laneGrant (s : State) : State :=
  match s.lanes.lowestFree with
  | none => s.lanes.protections.foldl State.protect s
  | some lane =>
    if 0 < s.lanes.grants ∧ s.fab.tick ≤ s.lanes.lastGrant then s
    else match s.lanes.best with
      | some r => s.grantLane lane r
      | none => s

/-- Hard age of a request's level, in ticks. -/
def State.hardAgeOf (s : State) (r : LaneReq) : Nat := usTicks (s.obj (if r.base = 3 then K.HARD_AGE_CAL else K.HARD_AGE_SCRUB))

/-- The lane that a hard-aged request pre-empts: one that runs at its effective level (R22). -/
def State.hardVictim (s : State) (r : LaneReq) : Option (Nat × LaneOp) := s.victim (fun o => o.eff == r.eff)

/-- HARD_AGE_PREEMPT (R22): of the hard-aged requests that find a lane to pre-empt, the one that R20 puts first. -/
def State.hardAgePreempt (s : State) : State :=
  let old := s.lanes.queue.filter (fun r =>
    r.promoted && decide (r.posted + s.hardAgeOf r < s.fab.tick) && (s.hardVictim r).isSome)
  match leastBy LaneReq.before old, s.lanes.lowestFree with
  | some r, none => match s.hardVictim r with
    | some v => (s.bumpLive K.HARD_PREEMPTS).startHandover r v
    | none => s
  | _, _ => s

/-- Has the pre-empted operation of a hand-over reached its end: its lane is free, and a stipple run's load is removed? -/
def State.handoverReady (s : State) (h : Handover) : Bool :=
  !(fhas s.lanes.shared h.lane) && (h.op.kind != .stipple || (s.sink h.op.ref).use != .removing)

/-- PREEMPT_HANDOVER (R24). A lane passed over counts as a grant of R20 and R21: others that wait are denied, and no further lane is granted
on this tick; the hand-over itself does not wait for a grant of its tick (DESIGN CHOICE: the manual does not say whether it is a grant:
notes/assumptions/86.md). -/
def State.preemptHandover (s : State) (lane : Nat) : State :=
  match s.lanes.handovers.find? (fun h => h.lane == lane) with
  | some h =>
    if s.handoverReady h then
      ({ s with lanes := { s.lanes with handovers := s.lanes.handovers.erase h } }).grantLane lane h.req
    else s
  | none => s

end Sys2Proof.Machine
end

