-- ==== Sys2Proof/Machine/Collector.lean ====
section
/-! DEFINITION. The fault collector (spec/10). -/

namespace Sys2Proof.Machine

/-! ### Kinds and classes (R283, R284, Tables 10.5 and 10.6) -/

/-- Class in service of a kind of a source; none where Table 10.5 names no such kind. -/
def serviceClass (src kind : Nat) : Option MClass :=
  let pick (corrected contained fatal : List Nat) : Option MClass :=
    if corrected.contains kind then some .corrected
    else if contained.contains kind then some .contained
    else if fatal.contains kind then some .fatal
    else none
  if src ≤ 0x3F then
    pick [3, 4, 0x25, 0x31, 0x32, 0x38, 0x39] [1, 2, 5, 6, 0x20, 0x21, 0x22, 0x23, 0x24, 0x30, 0x33, 0x3A] []
  else if src ≤ 0x50 then pick [2] [1, 3] []
  else if src ≤ 0x54 then pick [] [1] []
  else if src = 0x58 ∨ src = 0x59 then pick [5, 6, 0xA, 0xB] [1, 2, 3, 4, 7, 8, 9] []
  else if src = 0x5A then pick [2, 3] [1] [4]
  else if src = 0x5B then pick [2] [1] []
  else if src = 0x60 then pick [1, 0x13] [2, 3, 4, 0x10, 0x11, 0x12] [0x14]
  else if 0x61 ≤ src ∧ src ≤ 0x67 then pick [1] [2, 3, 4] []
  else if src = 0x68 then pick [2, 3, 4, 6] [1, 5] []
  else if src = 0x70 then pick [1, 2, 4, 7, 0xA] [3, 5, 6, 8, 9] []
  else if src = 0x71 then pick [2] [1, 3] []
  else if src = 0x78 ∨ src = 0x79 then pick [1, 3, 4, 5] [2] []
  else if src = 0x7A then pick [1, 3, 4, 5] [2, 6] []
  else if src = 0x80 then pick [1, 4, 7] [2, 3, 5, 6, 8] []
  else if src = 0x88 then pick [2] [3, 4] [1]
  else if src = 0x89 then pick [2] [1, 3] [4]
  else if src = 0x8A then pick [1, 0x12] [2, 0x10, 0x11] []
  else if src = 0x8B then pick [] [1, 2] [3]
  else none

/-- The phase of the present tick (R283). -/
def State.collPhase (s : State) : CollPhase :=
  if s.objB K.TEST_MODE then .test
  else if !s.coll.spanDone then .startUp
  else if s.coll.state = .recovery then .recovery
  else .service

/-- The class of a severity code (Table 10.2); 0x00 keeps the class in service. -/
def severityClass (code : Nat) (cls : MClass) : MClass :=
  if code = 1 then .silent else if code = 2 then .corrected else if code = 3 then .contained
  else if code = 4 then .fatal else cls

/-- The resolved class of a message (R284). -/
def State.resolve_ (s : State) (src kind : Nat) : MClass :=
  let cls := (serviceClass src kind).getD .silent
  match s.collPhase with
  | .service => cls
  | .startUp => severityClass (s.obj (K.SEV_STARTUP src)) cls
  | .test => severityClass (s.obj (K.SEV_TEST src)) cls
  | .recovery => severityClass (s.obj (K.SEV_RECOVERY src)) cls

/-- CLASS, PHASE and COLL_STATE codes. -/
def MClass.code : MClass → Nat
  | .silent => 0 | .corrected => 1 | .contained => 2 | .fatal => 3
def CollPhase.code : CollPhase → Nat
  | .service => 0 | .startUp => 1 | .test => 2 | .recovery => 3
def CollState.code : CollState → Nat
  | .clear => 0 | .deciding => 1 | .faulted => 2 | .latched => 3 | .recovery => 4

/-- The message word (Table 10.1). -/
def msgWord (m : Msg) (acted : Bool) (cls : MClass) (ph : CollPhase) : Nat :=
  m.source % 256 * 2 ^ 56 + m.kind % 256 * 2 ^ 48 + m.addr % 2 ^ 24 * 2 ^ 24 + b2n m.injected * 2 ^ 23 + b2n acted * 2 ^ 22
  + cls.code * 2 ^ 20 + ph.code * 2 ^ 18

/-! ### FAULT_N (R291, R292) -/

/-- Is FAULT_N low? -/
def State.faultNLow (s : State) : Bool := s.coll.released && (s.coll.pulseUntil.isSome || s.objB K.FAULT_N_HOLD)

/-- Start or extend a pulse; a pulse started while FAULT_N is released counts. -/
def State.pulse (s : State) : State :=
  let till := s.fab.tick + usTicks (s.obj K.FAULT_PULSE)
  let s1 := if s.faultNLow then s else s.bump K.PULSES
  { s1 with coll := { s1.coll with pulseUntil := some (max till (s.coll.pulseUntil.getD 0)) } }

/-- FAULT_PULSE_END. -/
def State.pulseEnd (s : State) : State :=
  match s.coll.pulseUntil with
  | some t => if t ≤ s.fab.tick then { s with coll := { s.coll with pulseUntil := none } } else s
  | none => s

/-! ### Episodes (R286, R287) -/

/-- W_c as it would open now (R287). -/
def State.collWindow (s : State) : Nat := 420 + 4 * s.fMax

/-- A change of W_c on this tick: what it was is kept for the messages that are still on their way, at most 64 ticks (R287). -/
def State.noteWindow (s : State) (old : Nat) : State :=
  if s.collWindow = old then s
  else { s with coll := { s.coll with
    pastWindows := s.coll.pastWindows.filter (fun p => decide (s.fab.tick < p.1 + 64)) ++ [(s.fab.tick, old)] } }

/-- W_c as taken at a tick (R287). -/
def State.windowAt (s : State) (t : Nat) : Nat :=
  match s.coll.pastWindows.find? (fun p => decide (t < p.1)) with
  | some p => p.2
  | none => s.collWindow

/-- Open a window: e0 := the stamp, DECIDING; W_c is taken at e0. -/
def State.openWindow (s : State) (st : Stamp) : State :=
  { s with coll := { s.coll with state := .deciding, e0 := st, window := s.windowAt st.tick, cands := [], quietFrom := st.tick } }

/-- May a message be a candidate (R287), its window aside? Rail faults are candidates only through a claim, injected messages
only in TEST, and a folded message never. -/
def mayLead (m : Msg) (ph : CollPhase) : Bool :=
  !(decide (m.source ≤ 0x3F) && (m.kind == 1 || m.kind == 2 || m.kind == 5)) && (!m.injected || ph == .test)

/-- Is the queue full (R282)? -/
def Coll.full (c : Coll) : Bool := decide (512 ≤ c.queue.length)

/-- The latched state is kept in P1 (R290), which the collector does not write while recall runs (R319). -/
def State.keepLatched (s : State) : State := if s.store.recalling then s else s.setPers H.latched 1

/-- An acting CONTAINED or FATAL message (Table 10.4). The second component tells whether it opened an episode. -/
def State.episode (s : State) (m : Msg) (latching : Bool) : State × Bool :=
  match s.coll.state with
  | .clear | .recovery =>
    let s1 := if s.coll.state = .recovery then s.bump K.RELAPSES else s
    let s2 := (s1.setPers K.EPISODE ((s1.obj K.EPISODE + 1) % 2 ^ 32)).openWindow m.stamp
    ({ s2 with coll := { s2.coll with latchActed := latching } }, true)
  | .faulted =>
    if !s.holdsFirst && mayLead m s.collPhase && !s.coll.full then
      let s1 := s.openWindow m.stamp
      ({ s1 with coll := { s1.coll with latchActed := s1.coll.latchActed || latching } }, false)
    else if latching then
      let s1 := s.keepLatched
      ({ s1 with coll := { s1.coll with state := .latched, quietFrom := m.stamp.tick, latchActed := true } }, false)
    else ({ s with coll := { s.coll with quietFrom := m.stamp.tick } }, false)
  | .deciding =>
    ({ s with coll := { s.coll with quietFrom := m.stamp.tick, latchActed := s.coll.latchActed || latching } }, false)
  | .latched => ({ s with coll := { s.coll with quietFrom := m.stamp.tick, latchActed := s.coll.latchActed || latching } }, false)

/-- An acting FATAL message (R289, R290). -/
def State.fatal (s : State) (m : Msg) (latching : Bool) : State :=
  let s1 := { s.bump K.FATALS with coll := { (s.bump K.FATALS).coll with fatalOut := true } }
  let s2 := if latching ∧ s.store.recalling = false then s1.setPers H.latchSource m.source else s1
  if s2.obj (K.FATAL_ACTION m.source) = 1 then s2.localShutdown 6 m.stamp else s2

/-! ### Arrival stage (R281, R282, R285) -/

/-- Counts of an arriving message (R279). -/
def State.countMsg (s : State) (m : Msg) : State :=
  let s1 := if m.injected then (s.bump (K.INJ_COUNT m.source)).bump K.INJ_TOTAL
    else (s.bump (K.REAL_COUNT m.source)).bump K.REAL_TOTAL
  ((s1.setLive (K.LAST_KIND m.source) m.kind).setLive (K.LAST_BEAT m.source) m.stamp.beat.toNat).setLive
    (K.LAST_OFFSET m.source) m.stamp.offset

/-- Does a message act (R285, R295)? -/
def State.actsNow (s : State) (m : Msg) : Bool := !m.injected || s.obj (K.INJ_POLICY m.source) != 0

/-- The class whose reactions an acting message takes: a FATAL injected under REACT takes those of CONTAINED (R295). -/
def State.reactClass (s : State) (m : Msg) (cls : MClass) : MClass :=
  if m.injected && cls == .fatal && s.obj (K.INJ_POLICY m.source) == 1 then .contained else cls

/-- Is the bit of a class set in a class mask (Table 10.9)? -/
def maskHas (mask : Nat) (cls : MClass) : Bool := cls != .silent && nbit mask (cls.code - 1)

/-- Give the rails' candidate of an arriving message its word and class, which its claim will carry (R153). -/
def State.noteRailWord (s : State) (m : Msg) (word : Nat) (fatal : Bool) : State :=
  if m.injected then s
  else { s with railWins := s.railWins.map (fun w => { w with cands := w.cands.map (fun c =>
    if c.rail = m.source ∧ c.kind = m.kind ∧ c.stamp = m.stamp then { c with word := word, fatal := fatal } else c) }) }

/-- Enter the queue, or fold (R281, R282). -/
def State.queueMsg (s : State) (m : Msg) (cls react : MClass) (acted : Bool) (ph : CollPhase) (opening : Bool) : State :=
  if s.coll.full then
    ((s.bump (K.FOLDED m.source)).bump K.FOLDED_TOTAL).handOff (msgWord m acted cls ph) m.stamp true none opening
  else
    { s with coll := { s.coll with queue := s.coll.queue ++ [QMsg.mk m s.fab.tick cls react acted ph opening] } }

/-- The arrival stage for one message. -/
def State.arrive (s : State) (m : Msg) : State :=
  let ph := s.collPhase
  let cls := s.resolve_ m.source m.kind
  let acted := s.actsNow m
  let react := s.reactClass m cls
  let s1 := s.countMsg m
  let s2 := if !m.injected && cls == .silent then s1.bump K.SILENCED else s1
  let s3 := s2.noteRailWord m (msgWord m acted cls ph) (react == .fatal)
  if !acted then s3.queueMsg m cls react acted ph false
  else
    let s4 := if maskHas (s3.obj (K.PULSE_MASK m.source)) react then s3.pulse else s3
    let railKind := decide (m.source ≤ 0x3F) && decide (1 ≤ m.kind) && decide (m.kind ≤ 6)
    let s5 := if maskHas (s4.obj (K.TRIG_MASK m.source)) react && !railKind then s4.ringTrigger m.source m.addr m.stamp
      else s4
    if react == .contained || react == .fatal then
      let latching := react == .fatal && s5.objB (K.FATAL_LATCH m.source)
      let r := s5.episode m latching
      let s6 := r.1.queueMsg m cls react acted ph r.2
      if react == .fatal then s6.fatal m latching else s6
    else s5.queueMsg m cls react acted ph false

/-- MESSAGE_ARRIVAL: message i of those in flight arrives, 4 ticks or more after its stamp, an injected one on the tick after
its commit (R443, Table 10.7). -/
def State.messageArrival (s : State) (i : Nat) : State :=
  match s.coll.inflight[i]? with
  | none => s
  | some m =>
    if m.stamp.tick + (if m.injected then 1 else 4) ≤ s.fab.tick then
      ({ s with coll := { s.coll with inflight := ldrop s.coll.inflight i } }).arrive m
    else s

/-! ### Queue stage (R281, R296) -/

/-- The release order of R281. -/
def QMsg.before (a b : QMsg) : Bool :=
  let x := a.msg
  let y := b.msg
  decide (x.stamp.tick < y.stamp.tick) || (x.stamp.tick == y.stamp.tick && (decide (x.source < y.source)
    || (x.source == y.source && (decide (x.kind < y.kind) || (x.kind == y.kind && !x.injected && y.injected)))))

/-- The released partner of a message, if it coincides with one (R296): of its source and kind within COINCIDE ticks, the
earliest; else one stamped on the same tick. -/
def State.partnerOf (s : State) (m : Msg) : Option Recent :=
  let gap (a b : Nat) : Nat := if a < b then b - a else a - b
  let other := s.coll.recents.filter (fun r => r.injected != m.injected)
  let same := other.filter (fun r => r.source == m.source && r.kind == m.kind && decide (gap r.stampTick m.stamp.tick < s.obj K.COINCIDE))
  match leastBy (fun a b => decide (a.stampTick < b.stampTick)) same with
  | some r => some r
  | none => other.find? (fun r => r.stampTick == m.stamp.tick)

/-- Show the latest released message word and its stamp (0x5104). -/
def State.showLast (s : State) (word : Nat) (st : Stamp) : State :=
  let s1 := if s.obj K.LAST_MSG_LO + 2 ^ 32 * s.obj K.LAST_MSG_HI = word then s else s.noteTag K.LAST_MSG_LO
  (((s1.setLive K.LAST_MSG_LO (word % 2 ^ 32)).setLive K.LAST_MSG_HI (word / 2 ^ 32)).setLive K.LAST_MSG_BEAT
    st.beat.toNat).setLive K.LAST_MSG_OFFSET st.offset

/-- Is a released message a candidate of the window that is open (R287)? -/
def State.isCandidate (s : State) (q : QMsg) : Bool :=
  q.acted && (q.react == .contained || q.react == .fatal) && s.coll.state == .deciding && mayLead q.msg q.phase
  && decide (s.coll.e0.tick ≤ q.msg.stamp.tick) && decide (q.msg.stamp.tick < s.coll.e0.tick + s.coll.window)

/-- Release one message: LAST_MSG, coincidence, candidate, hand-off. -/
def State.releaseMsg (s : State) (q : QMsg) : State :=
  let m := q.msg
  let word := msgWord m q.acted q.cls q.phase
  let s1 := { s with coll := { s.coll with queue := s.coll.queue.erase q, lastRelease := s.fab.tick } }
  let s2 := s1.showLast word m.stamp
  let order := s2.wide K.HANDED
  let s3 := if s2.isCandidate q then
      let c : Candidate := {
        injected := m.injected, rank := m.stamp, fatal := q.react == .fatal, source := m.source, kind := m.kind,
        addr := m.addr, word := word, stamp := m.stamp, claimRail := none }
      { s2 with coll := { s2.coll with cands := s2.coll.cands ++ [c] } }
    else s2
  match s3.partnerOf m with
  | some r =>
    let s4 := { s3 with coll := { s3.coll with recents := s3.coll.recents.erase r } }
    (s4.bump K.COINCIDENCES).handOff word m.stamp false (some r.order) q.opening
  | none =>
    let keep := s3.coll.recents.filter (fun r => decide (m.stamp.tick < r.stampTick + 400000))
    let s4 := { s3 with coll := { s3.coll with recents := keep ++ [Recent.mk m.source m.kind m.injected m.stamp.tick order] } }
    s4.handOff word m.stamp false none q.opening

/-- MESSAGE_RELEASE: one a tick, 24 ticks after its stamp. -/
def State.messageRelease (s : State) : State :=
  if s.fab.tick ≤ s.coll.lastRelease then s
  else match leastBy QMsg.before s.coll.queue with
    | some q => if q.msg.stamp.tick + 24 ≤ s.fab.tick then s.releaseMsg q else s
    | none => s

/-! ### Claims and the decision (R153, R287, R288) -/

/-- A rails' first-fault claim arrives: a candidate while a window is open; later it is not taken. -/
def State.takeClaim (s : State) (k : RailCand) : State :=
  if s.coll.state = .deciding ∧ s.coll.e0.tick ≤ s.fab.tick ∧ s.fab.tick < s.coll.e0.tick + s.coll.window then
    let c : Candidate := {
      injected := false, rank := k.onset, fatal := k.fatal, source := k.rail, kind := k.kind, addr := k.addr, word := k.word,
      stamp := k.stamp, claimRail := some k.rail }
    { s with coll := { s.coll with cands := s.coll.cands ++ [c] } }
  else s

/-- RAIL_DECISION_WINDOW: the top-ranked candidate goes to the collector (R153). -/
def State.railWindowEnd (s : State) : State :=
  match s.railWins with
  | w :: rest =>
    if w.q0 + w.window ≤ s.fab.tick then
      let s1 := { s with railWins := rest }
      match leastBy RailCand.before w.cands with
      | some k => s1.takeClaim k
      | none => s1
    else s
  | [] => s

/-- The ranking of R287. -/
def Candidate.before (a b : Candidate) : Bool :=
  let key (c : Candidate) : List Nat := [b2n c.injected, c.rank.tick, b2n (!c.fatal), c.source, c.kind]
  decide (key a < key b)

/-- The first-fault objects (Table 10.12). -/
def State.showFirst (s : State) (c : Candidate) : State :=
  let flags := 4 * b2n c.claimRail.isSome + 2 * b2n c.fatal + b2n c.injected
  [(K.FIRST_EPISODE, s.obj K.EPISODE), (K.FIRST_SOURCE, c.source), (K.FIRST_KIND, c.kind), (K.FIRST_ADDR, c.addr),
    (K.FIRST_FLAGS, flags), (K.FIRST_BEAT, c.stamp.beat.toNat), (K.FIRST_OFFSET, c.stamp.offset),
    (K.RANK_BEAT, c.rank.beat.toNat), (K.RANK_OFFSET, c.rank.offset)].foldl (fun st p => st.setPers p.1 p.2) s

/-- Decide the first fault (R288). While recall runs the collector makes no P1 write (R319): the entry and the objects stay as they are. -/
def State.decide_ (s : State) (c : Candidate) : State :=
  let ep := s.obj K.EPISODE
  let s1 := if s.store.recalling then s else (s.writeFF c ep).showFirst c
  let s2 := if s1.ring.started && s1.ring.state == .running then s1.postEtch 3 scopeP01 [] else s1
  let s3 := match c.claimRail with
    | some n => s2.setLive (K.COMP_LATCH n) (s2.obj (K.COMP_LATCH n) ||| 0x80)
    | none => s2
  { s3 with ledger := { s3.ledger with marks := s3.ledger.marks ++ [FirstMark.mk ep c.word c.stamp] } }

/-- COLLECTOR_DECISION, at e0 + W_c. -/
def State.collectorDecision (s : State) : State :=
  if s.coll.state = .deciding ∧ s.coll.e0.tick + s.coll.window ≤ s.fab.tick then
    let s1 := match leastBy Candidate.before s.coll.cands with
      | some c => s.decide_ c
      | none => s
    if s1.coll.latchActed then
      let s2 := s1.keepLatched
      { s2 with coll := { s2.coll with state := .latched, cands := [] } }
    else { s1 with coll := { s1.coll with state := .faulted, cands := [] } }
  else s

/-! ### The other transitions of Table 10.4 -/

/-- FAULT_ACK in LATCHED. A latching fatal of the episode still counts where a window opens again (Table 10.4). -/
def State.faultAck (s : State) : State :=
  if s.coll.state = .latched then
    let s1 := s.setPers H.latched 0
    { s1 with coll := { s1.coll with state := .faulted, quietFrom := s.fab.tick } }
  else s

/-- QUIET_TIME_END. -/
def State.quietEnd (s : State) : State :=
  if s.coll.state = .faulted ∧ s.coll.quietFrom + usTicks (s.obj K.QUIET_TIME) ≤ s.fab.tick then
    let s1 := s.bump K.EXITS
    { s1 with coll := { s1.coll with state := .recovery, fatalOut := false, recoveryFrom := s.fab.tick, latchActed := false } }
  else s

/-- RECOVERY_SPAN_END. -/
def State.recoveryEnd (s : State) : State :=
  if s.coll.state = .recovery ∧ s.coll.recoveryFrom + usTicks (s.obj K.RECOVERY_SPAN) ≤ s.fab.tick then
    { s with coll := { s.coll with state := .clear } }
  else s

/-- STARTUP_SPAN_END. -/
def State.startSpanEnd (s : State) : State :=
  match s.coll.endOfStart with
  | some t =>
    if t + usTicks (s.obj K.STARTUP_SPAN) ≤ s.fab.tick then { s with coll := { s.coll with spanDone := true } } else s
  | none => s

/-- End of store recall (R290): LATCHED with FATAL_OUT where recalled so, else CLEAR. -/
def State.recallColl (s : State) : State :=
  if s.obj H.latched = 1 then { s with coll := { s.coll with state := .latched, fatalOut := true } }
  else { s with coll := { s.coll with state := .clear, cands := [], latchActed := false, fatalOut := false } }

/-- FORCE (R294): inject a message, stamped on the commit tick. -/
def State.forceMsg (s : State) (src : Nat) : State :=
  let m : Msg := { source := src, kind := s.obj (K.FORCE_KIND src), addr := s.obj (K.FORCE_ADDR src), injected := true,
                   stamp := s.now }
  { s with coll := { s.coll with inflight := s.coll.inflight ++ [m] } }

/-- Does the quiet timer run, and what is left of it and of RECOVERY, in µs (0x5101.05, .06)? -/
def State.quietLeft (s : State) : Nat :=
  if s.coll.state = .faulted ∨ s.coll.state = .deciding then
    cdiv (s.coll.quietFrom + usTicks (s.obj K.QUIET_TIME) - s.fab.tick) 200
  else 0
def State.recoveryLeft (s : State) : Nat :=
  if s.coll.state = .recovery then cdiv (s.coll.recoveryFrom + usTicks (s.obj K.RECOVERY_SPAN) - s.fab.tick) 200 else 0

/-- Is the collector in its fault state? -/
def Coll.inFault (c : Coll) : Bool := c.state == .deciding || c.state == .faulted || c.state == .latched

end Sys2Proof.Machine
end

