-- ==== Sys2Proof/Machine/Convoy.lean ====
section
/-! DEFINITION. The convoy (spec/03): frames and replies, beat edges, presence and votes, leading, the relay, toll passing. -/

namespace Sys2Proof.Machine

/-! ### Frames and replies (R72 to R74, R83) -/

/-- FLAGS of a frame (Table 3.3). -/
def Frame.flags (f : Frame) : Nat :=
  128 * b2n f.commit + 64 * b2n f.halt + 32 * b2n f.replyOpen + 16 * b2n f.leaderNew

/-- Bytes 0 to 19 of a frame (Table 3.2). -/
def Frame.body (f : Frame) : List Byte :=
  packLE [(4, f.count.toNat), (1, f.version), (1, f.wayNext), (1, f.voteKind), (1, f.voteArg), (1, f.flags), (1, f.replySeg),
    (2, f.leaderAddr), (1, f.msgKind), (1, f.msgAmount), (2, f.msgId), (2, f.msgFrom), (2, f.msgTo)]

/-- The 24 bytes of a frame, in the order sent. -/
def Frame.bytes (f : Frame) : List Byte := f.body ++ leBytes 4 (crc32c f.body).toNat

/-- A received frame, where its CRC matches and every reserved field reads 0 (R74). -/
def parseFrame (bs : List Byte) : Option Frame :=
  let flags := leAt bs 8 1
  if bs.length ≠ 24 ∨ (crc32c (bs.take 20)).toNat ≠ leAt bs 20 4 ∨ flags % 16 ≠ 0 ∨ 0x4000 ≤ leAt bs 10 2
      ∨ 0x4000 ≤ leAt bs 16 2 ∨ 0x4000 ≤ leAt bs 18 2 then none
  else some {
    count := BitVec.ofNat 32 (leAt bs 0 4), version := leAt bs 4 1, wayNext := leAt bs 5 1, voteKind := leAt bs 6 1,
    voteArg := leAt bs 7 1, commit := nbit flags 7, halt := nbit flags 6, replyOpen := nbit flags 5,
    leaderNew := nbit flags 4, replySeg := leAt bs 9 1, leaderAddr := leAt bs 10 2, msgKind := leAt bs 12 1,
    msgAmount := leAt bs 13 1, msgId := leAt bs 14 2, msgFrom := leAt bs 16 2, msgTo := leAt bs 18 2 }

/-- Bits [79:16] of a reply word (Table 3.5). -/
def Reply.head (r : Reply) : Nat := r.addr * 2 ^ 48 + r.kind * 2 ^ 40 + r.arg8 * 2 ^ 32 + r.argA * 2 ^ 16 + r.argB

/-- CHECK over the eight bytes of bits [79:16] (R83). -/
def replyCheck (head : Nat) : Nat := (crc32c (leBytes 8 head).reverse).toNat % 65536

/-- The 80-bit word of a reply. -/
def Reply.word (r : Reply) : BitVec 80 := BitVec.ofNat 80 (r.head * 65536 + replyCheck r.head)

/-- A reply word as the leader reads it; none when CHECK fails or a reserved bit is set (DESIGN CHOICE, safe: R83 names CHECK alone as a
reason to discard, and every unit sends the reserved bits as 0: notes/assumptions/81.md). -/
def parseReply (w : BitVec 80) : Option Reply :=
  let v := w.toNat
  let h := v / 65536
  if v % 65536 ≠ replyCheck h ∨ field h 63 62 ≠ 0 then none
  else some { addr := field h 61 48, kind := field h 47 40, arg8 := field h 39 32, argA := field h 31 16, argB := field h 15 0 }

/-! ### Settings in effect (R98) -/

/-- The settings 0x1400.01 to 0x1400.06 as held. -/
def State.convoySettings (s : State) : ConvoySet :=
  { enable := s.objB K.CONVOY_ENABLE, unitAddr := s.obj K.UNIT_ADDR, segId := s.obj K.SEG_ID, segCount := s.obj K.SEG_COUNT,
    relay := s.objB K.RELAY, rank := s.obj K.LEADER_RANK }

/-- What a unit that does not lead holds of a leader's work. -/
def Leading.none : Leading :=
  { queue := [], objections := 0, asked := Option.none, ringBack := false, ringOpen := false, halted := false, first := false,
    frameSent := false, request := Option.none, offer := Option.none, nextProposal := 0, proposals := [], deliveries := [],
    outbox := [], dropped := 0 }

/-- Is the domain halted as this unit sees it? -/
def Convoy.inHalt (c : Convoy) : Bool := c.state == .halted || c.lead.halted

/-- In a convoy: MEMBER, LEADER or HALTED. -/
def ConvoyState.inConvoy (x : ConvoyState) : Bool := x == .member || x == .leader || x == .halted

/-- Leave the convoy for SOLO or DISABLED: lines released, requests and replies dropped (Table 3.8, R80). -/
def State.leaveConvoy (s : State) (x : ConvoyState) (due : Nat) : State :=
  let s1 := (s.setLive K.PENDING_VOTE 0).setLive K.RING_DELAY 0
  { s1 with convoy := { s1.convoy with
    state := x, present := false, held := false, halting := false, objecting := false, edgeFrom := none, soloDue := due,
    soloSince := s.fab.tick, heardFrame := false, frameThisBeat := false, lastFrame := none, matched := false, join := none,
    wayNew := none, late := none, oldWay := none, wayPending := none, msgOpen := false, replies := [], replied := false,
    holdLow := false, dataLow := false, maybe := [], readyFrame := false, disagrees := false, sending := false,
    stuckFrom := if s1.convoy.cscIn || !s1.convoy.inHalt then s1.convoy.stuckFrom else some s.fab.tick, lead := Leading.none } }

/-- A write to 0x1400.01 to 0x1400.06 (R98): at once in DISABLED, otherwise at the next beat edge. -/
def State.convoyWritten (s : State) : State :=
  if s.convoy.state = .disabled then
    let s1 := { s with convoy := { s.convoy with set := s.convoySettings } }
    if s1.convoy.set.enable then s1.leaveConvoy .solo s1.convoy.soloDue else s1
  else
    { s with convoy := { s.convoy with
      offAt := if s.objB K.CONVOY_ENABLE then none else some (s.convoy.offAt.getD s.fab.tick) } }

/-- At a beat edge the settings come into effect; CONVOY_ENABLE 0 leads to DISABLED, with the first solo beat 1,000 µs after
the commit tick, or on the edge where that tick has passed (R91). -/
def State.takeSettings (s : State) : State :=
  let s1 := { s with convoy := { s.convoy with set := s.convoySettings, offAt := none } }
  if s1.convoy.set.enable ∨ s1.convoy.state = .disabled then s1
  else
    let due := max (s.convoy.offAt.getD s.fab.tick + 200000) s.fab.tick
    s1.leaveConvoy .disabled (if s.convoy.state.inConvoy then due else s.convoy.soloDue)

/-! ### Rebase (R92) -/

/-- Add d to a count that goes with a value. -/
def shiftPair {α : Type} (d : Count) (p : Count × α) : Count × α := (p.1 + d, p.2)

/-- Change every value of a map. -/
def mapVals {α : Type} (g : α → α) (m : FMap α) : FMap α := m.map (fun p : Nat × α => (p.1, g p.2))

/-- Shift a margin that is scheduled, and a stipple run that is scheduled or waiting. -/
def Margin.shift (d : Count) (m : Margin) : Margin := if m.state = .pending then { m with beat := m.beat + d } else m
def Stip.shift (d : Count) (r : Stip) : Stip :=
  if r.state = .scheduled ∨ r.state = .waiting then { r with beat := r.beat + d } else r

/-- Shift what a leader has in hand. -/
def Leading.shift (d : Count) (l : Leading) : Leading :=
  { l with proposals := l.proposals.map (fun p : Proposal => { p with beat := p.beat + d }),
           deliveries := l.deliveries.map (fun p : Delivery => { p with beat := p.beat + d }) }

/-- Shift the beats that the convoy logic counts from. The counts of frames stay as they were received: R79 compares frames. -/
def Convoy.shift (d : Count) (c : Convoy) : Convoy := { c with xferBeat := c.xferBeat + d, lead := c.lead.shift d }

/-- Take count c: the pending scheduled times and the recorded edges shift by d; retry deadlines follow R267. -/
def State.rebase (s : State) (c : Count) : State :=
  let d := c - s.fab.count
  let s1 := { s with
    fab := { s.fab with count := c, edges := s.fab.edges.map (shiftPair d), kept := s.fab.kept.map (shiftPair d) },
    margins := mapVals (Margin.shift d) s.margins,
    stips := mapVals (Stip.shift d) s.stips,
    cap := { s.cap with startBeat := s.cap.startBeat.map (shiftPair d) },
    upd := { s.upd with act := s.upd.act.map (shiftPair d) },
    convoy := s.convoy.shift d }
  ((s1.rebaseFeed d.toNat 0).rebaseFeed d.toNat 1).bumpLive K.REBASES

/-! ### Beat edges (R13, R67, R68, R76, R77, R79) -/

/-- Does an operation wait for ticks after the edge of beat n: a margin move, a stipple run, a capture, an activation (R4, R15)? -/
def State.awaits (s : State) (n : Count) : Bool :=
  s.margins.any (fun p => p.2.state == .pending && p.2.beat == n)
  || s.stips.any (fun p => (p.2.state == .scheduled || p.2.state == .waiting) && p.2.beat == n)
  || s.cap.startBeat.any (fun p => p.1 == n) || s.upd.act.any (fun p => p.1 == n)

/-- A stamp that this tick took before its beat edge belongs to the new beat (R88). -/
def Stamp.renew (n : Count) (t : Nat) (st : Stamp) : Stamp := if st.tick = t then ⟨n, 0, t⟩ else st

/-- Pairs of objects that show the beat and the offset of a stamp which the tick of an event may have taken. -/
def stampPairs : List (Nat × Nat) :=
  [(K.ANCHOR_BEAT, K.ANCHOR_OFFSET), (K.TRIG_BEAT, K.TRIG_OFFSET), (K.FREEZE_BEAT, K.FREEZE_OFFSET),
    (K.CAP_FIRST_BEAT, K.CAP_FIRST_OFFSET)]
  ++ railNos.map (fun n => (K.LAST_QUAL_BEAT n, K.LAST_QUAL_OFFSET n))

/-- A pair of objects that shows the stamp of this tick shows the new beat and offset 0 (R88). -/
def State.renewPair (st : Stamp) (n : Count) (s : State) (k : Nat × Nat) : State :=
  if s.obj k.1 = st.beat.toNat ∧ s.obj k.2 = st.offset then (s.setPersOr k.1 n.toNat).setPersOr k.2 0 else s

/-- The anchor of what a rail still has to do. -/
def RailNext.renew (f : Stamp → Stamp) (x : RailNext) : RailNext :=
  match x with
  | .enter a u => .enter (f a) u
  | .arm t l => .arm t l
  | .fallen => .fallen
  | .unlock => .unlock

/-- The anchor of a pass whose posting waits for the cores. -/
def Deferred.renew (f : Stamp → Stamp) (x : Deferred) : Deferred :=
  match x with
  | .shutdown c a => .shutdown c (f a)
  | .dependent n a => .dependent n (f a)

/-- A record of this tick takes the new beat in the stamps that the tick has given it (R14, R88). -/
def State.renewRec (n : Count) (s : State) (q : RecTick) : State :=
  let t := s.fab.tick
  if q.first = some t ∨ q.last = t then
    match s.readRec q.rseq with
    | some x =>
      let x1 := if q.first = some t then { x with beat := n.toNat, offset := 0 } else x
      let x2 := if q.last = t then { x1 with lastBeat := n.toNat, lastOffset := 0 } else x1
      s.writeBytes (recAddr q.rseq) x2.bytes
    | none => s
  else s

/-- A page's contents with a byte string from an address on. -/
def PageData.write (a : Nat) (bs : List Byte) (d : PageData) : PageData := { d with cells := memWrite d.cells a bs }

/-- The etch log entry of a snapshot on this tick takes the new beat, in working memory and in the etch's block (R14, R88, R310). -/
def State.renewLog (s : State) (n : Count) : State :=
  let a := etchLogAddr (s.obj K.ETCH_SEQ)
  let old := s.readBytes a 28
  if leAt old 20 4 = s.now.beat.toNat ∧ leAt old 24 4 = s.now.offset ∧ leAt old 0 4 = s.obj K.ETCH_SEQ then
    let body := old.take 20 ++ packLE [(4, n.toNat), (4, 0)]
    let bs := body ++ leBytes 4 (crc32c body).toNat
    let s1 := s.writeBytes a bs
    { s1 with store := { s1.store with etch := s1.store.etch.map (fun e =>
      { e with snap := e.snap.map (fun p => if p.1 = 128 then (p.1, PageData.write a bs p.2) else p) }) } }
  else s

/-- The deadline of a trip of this tick counts from the new beat (R88, R266). -/
def State.renewDeadline (s : State) (f : Nat) : State :=
  let beats := s.obj (K.RETRY_BEATS f)
  if s.tripActed f = true ∧ (s.feed f).armed = true ∧ s.obj (K.RETRY_DEADLINE f) = (s.fab.count.toNat + beats) % 2 ^ 32 then
    s.setPers (K.RETRY_DEADLINE f) ((s.fab.count.toNat + 1 + beats) % 2 ^ 32)
  else s

/-- The t0 of a stipple run on this tick (R226). -/
def Stip.renew (n : Count) (t : Nat) (r : Stip) : Stip :=
  if (r.state = .preload ∨ r.state = .acquire) ∧ r.t0 = t then { r with t0Beat := n, t0Offset := 0 } else r

/-- Everything stamped on this tick before its beat edge takes the new count and offset 0 (R14, R88). -/
def State.renewStamps (s : State) (n : Count) : State :=
  let f := Stamp.renew n s.fab.tick
  let pass (p : Pass) : Pass := { p with anchor := f p.anchor }
  let s1 := { s with
    coll := { s.coll with inflight := s.coll.inflight.map (fun m : Msg => { m with stamp := f m.stamp }) },
    railWins := s.railWins.map (fun w : RailWindow => { w with
      cands := w.cands.map (fun k : RailCand => { k with onset := f k.onset, stamp := f k.stamp }) }),
    rails := mapVals (fun r : Rail => { r with
      next := r.next.map (RailNext.renew f), filters := mapVals (fun x : Filter => { x with onset := f x.onset }) r.filters }) s.rails,
    seq := { s.seq with
      anchor := f s.seq.anchor, wayAt := f s.seq.wayAt, pass := s.seq.pass.map pass, deps := s.seq.deps.map pass,
      deferred := s.seq.deferred.map (Deferred.renew f) },
    stips := mapVals (Stip.renew n s.fab.tick) s.stips,
    conv := { s.conv with inflight := s.conv.inflight.map (fun x : Slot => { x with stamp := f x.stamp }) },
    ring := { s.ring with opened := s.ring.opened.map (fun p : RingPage => { p with stamp := f p.stamp }) } }
  let s2 := ((s1.ledger.recents.foldl (State.renewRec n) s1).renewDeadline 0).renewDeadline 1
  if s.offset = 0 ∨ s.offset = 0xFFFFFFFF then s2 else stampPairs.foldl (State.renewPair s.now n) (s2.renewLog n)

/-- New edges, newest first, enter the history: 1,024 are recorded (R13), and one that leaves them stays while an operation counts from it
(R4). -/
def State.keepEdges (s : State) (new : List (Count × Int)) : State :=
  { s with fab := { s.fab with
    edges := (new ++ s.fab.edges).take 1024,
    kept := ((new ++ s.fab.edges).drop 1024 ++ s.fab.kept).filter (fun e => s.awaits e.1) } }

/-- Record a beat edge: the count goes to n, stamped with this tick (R13), and what this tick has stamped already belongs to the new beat
(R88). -/
def State.recordEdge (s0 : State) (n : Count) : State :=
  let s := (s0.renewStamps n).keepEdges [(n, s0.fab.tick)]
  { s with fab := { s.fab with count := n, edgeTick := s.fab.tick } }

/-- A waystation comes into force; `late` is the beat B of R79 for a unit that missed the first carrying frame. -/
def State.enterWay (s : State) (w : Nat) (late : Option Count) : State :=
  let s1 := { s with convoy := { s.convoy with way := w } }
  let stampB (b : Count) : Stamp := ⟨b, 0, ((edgeOf s.fab.edges b).getD 0).toNat⟩
  let s2 := { s1 with seq := { s1.seq with wayAt := s1.now, lateStep := late.map stampB } }
  if late.isSome then (s2.bumpLive K.LATE_WAYSTATIONS).raise 0x70 0x08 0 else s2

/-- A version comes into force; kind 0x0A when it falls. -/
def State.enterVersion (s : State) (v : Nat) : State :=
  let s1 := { s with convoy := { s.convoy with version := v } }
  if v < s.convoy.version then s1.raise 0x70 0x0A 0 else s1

/-- What every beat edge, convoy or solo, does in other blocks. -/
def State.beatWork (s : State) : State := ((s.rearmEdge.stipEdge).feedEdge 0).feedEdge 1

/-- Does a present unit object to a question (R77, Table 3.4)? -/
def State.objectsTo (s : State) (kind arg : Nat) : Bool :=
  decide (s.voteVersion < s.convoy.version) || !(kind == 1 || kind == 2 || kind == 3)
  || (if kind = 1 then s.wayObjects arg else decide (s.voteVersion < arg))

/-- FORCED_RELEASE (R68): at offset 400 the unit lets go and is absent. -/
def State.forcedRelease (s : State) : State :=
  if s.convoy.held ∧ 400 ≤ s.offset then
    (({ s with convoy := { s.convoy with held := false } }).bumpLive K.ABSENCES).raise 0x70 0x01 0
  else s

/-- Presence, halt hold and objection at an edge (R68, R69, R76). -/
def State.judgeBeat (s : State) (ready : Bool) (question : Option (Nat × Nat)) : State :=
  let no := question.any (fun q => s.objectsTo q.1 q.2)
  let obj := ready && no
  let s1 := { s with convoy := { s.convoy with
    present := ready, held := !ready, halting := s.objB K.HALT_REQUEST, objecting := obj, disagrees := no, frameThisBeat := false,
    matched := false, msgOpen := false, replied := false, sending := false } }
  (if obj then s1.bumpLive K.OBJECTIONS else s1).updBeat ready

/-- The unit becomes ready after the edge, before offset 400: its management cores run now (R68). It releases CVY_HOLD and is present, and
objects where it disagreed with the question of this beat on the edge tick (R125). -/
def State.lateReady (s : State) : State :=
  let c := s.convoy
  if c.state.inConvoy ∧ c.held ∧ c.present = false ∧ c.readyFrame ∧ s.coresUp ∧ s.offset < 400 then
    let s1 := { s with convoy := { c with present := true, held := false, objecting := c.disagrees } }
    (if c.disagrees then s1.bumpLive K.OBJECTIONS else s1).updBeat true
  else s

/-- A beat edge of a unit in the convoy: count, waystation and version, other blocks, presence. -/
def State.unitEdge (s : State) (question : Option (Nat × Nat)) : State :=
  let ready := s.convoy.matched && s.coresUp
  let way := s.convoy.wayNew
  let ver := if s.convoy.frameThisBeat then s.convoy.lastFrame.map Frame.version else none
  let late := s.convoy.late
  let s0 := { s with convoy := { s.convoy with readyFrame := s.convoy.matched } }
  let s1 := (s0.recordEdge (s0.fab.count + 1)).bumpLive K.BEATS
  let s2 := match way with
    | some w => ({ s1 with convoy := { s1.convoy with wayNew := none, late := none } }).enterWay w late
    | none => s1
  let s3 := match ver with
    | some v => if v = 0 then s2 else s2.enterVersion v
    | none => s2
  s3.beatWork.judgeBeat ready question

/-- The question that the latest frame asks. -/
def Convoy.question (c : Convoy) : Option (Nat × Nat) :=
  if c.frameThisBeat then c.lastFrame.map (fun f => (f.voteKind, f.voteArg)) else none

/-- A SOLO unit that heard two consecutive frames becomes MEMBER at this edge (Table 3.8). A WAY_REQUEST of SOLO that still waits is kept
for the first solo beat after the unit leaves the convoy (DESIGN CHOICE: notes/assumptions/82.md). -/
def State.joinConvoy (s : State) (f : Frame) : State :=
  let s1 := (s.renewStamps (f.count + 1)).rebase f.count
  let s2 := { s1 with convoy := { s1.convoy with
    state := .member, join := none, lastFrame := some f, frameThisBeat := true, matched := true,
    leaderAddr := f.leaderAddr, oldWay := some f.count, late := none,
    wayNew := if f.wayNext = s1.convoy.way then none else some f.wayNext } }
  s2.unitEdge s2.convoy.question

/-- Is a falling edge of CVY_DATA taken as a beat edge at once (R67): the first one since SOLO was entered, or one at an offset of 72,000
or more? -/
def State.takesEdge (s : State) : Bool :=
  s.convoy.state != .disabled
  && (match s.convoy.edgeFrom with
      | none => true
      | some t => decide (t + 72000 ≤ s.fab.tick))

/-- May a SOLO unit take a falling edge later, once a valid frame has followed it (R67)? One at an offset from 68,000 on is ignored. -/
def State.maybeEdge (s : State) : Bool :=
  s.convoy.state == .solo && s.convoy.edgeFrom.any (fun t : Int => decide (s.fab.tick < t + 68000))

/-- Note an edge taken from CVY_DATA. -/
def State.noteEdge (s : State) : State := { s with convoy := { s.convoy with edgeFrom := some s.fab.tick, lastEdge := s.fab.tick } }

/-- The phase in which JOINING ends (Table 15.2): the unit is a member or leads, or CONVOY_ENABLE is 0. -/
def State.joined (s : State) : State :=
  if s.phase ≠ .joining then s
  else if s.convoy.state = .member ∨ s.convoy.state = .leader then
    ({ s with phase := .running }).setLive K.JOIN_BEAT s.fab.count.toNat
  else if s.objB K.CONVOY_ENABLE = false then { s with phase := .running }
  else s

/-- An edge of tick t that a SOLO unit takes to locate a frame: the settings come into effect (R98), it counts as received, and the next
solo beat comes 1,000 µs after it, or after the solo beat that has come since (R91). -/
def State.soloEdge (s : State) (t : Nat) : State :=
  let s1 := s.takeSettings
  if s1.convoy.state = .disabled then s1
  else
    { s1.bumpLive K.BEATS with convoy := { s1.convoy with
      edgeFrom := some t, lastEdge := t, soloDue := (max s1.fab.edgeTick t).toNat + 200000, frameThisBeat := false,
      maybe := s1.convoy.maybe.filter (fun e => decide (t < e)) } }

/-- BEAT_EDGE (R67, R68): an edge of CVY_DATA. In SOLO it only locates the frame that follows, unless the unit joins here. -/
def State.beatEdge (s : State) : State :=
  if s.serving ∧ s.maybeEdge then
    { s with convoy := { s.convoy with
      maybe := s.fab.tick :: s.convoy.maybe.filter (fun e => decide (s.fab.tick < e + 72000)) } }
  else if s.serving = false ∨ s.takesEdge = false then s
  else
    let s1 := if s.convoy.held then s.forcedRelease else s
    if s1.convoy.state = .solo then
      match s1.convoy.join with
      | some f =>
        let s3 := s1.noteEdge.takeSettings
        if s3.convoy.state = .solo then (s3.joinConvoy f).noteEdge.joined else s3
      | none => s1.soloEdge s1.fab.tick
    else
      let s2 := s1.takeSettings
      if s2.convoy.state = .disabled then s2
      else
        let s3 := if s2.convoy.state = .halted then
            { s2 with convoy := { s2.convoy with
              state := .member, stuckFrom := if s2.convoy.cscIn then none else some s2.fab.tick } }
          else s2
        (s3.unitEdge s3.convoy.question).noteEdge

/-- SPURIOUS_EDGE (R67). -/
def State.spuriousEdge (s : State) : State :=
  match s.convoy.edgeFrom with
  | some t =>
    if s.serving ∧ s.convoy.state ≠ .disabled ∧ t + 68000 ≤ s.fab.tick ∧ s.fab.tick < t + 72000 then
      (s.bumpLive K.SPURIOUS_EDGES).raise 0x70 0x04 0
    else s
  | none => s

/-! ### Solo beats, loss, candidate (R91, R93) -/

/-- A solo beat: the count goes up, and a waystation request comes into force, which needs the cores (Table 1.8). -/
def State.soloStep (s : State) : State :=
  let s1 := s.recordEdge (s.fab.count + 1)
  let s2 := match (if s1.coresUp then s1.convoy.soloWay else none) with
    | some w => ({ s1 with convoy := { s1.convoy with soloWay := none } }).enterWay w none
    | none => s1
  let s3 := s2.beatWork.updBeat false
  { s3 with convoy := { s3.convoy with soloDue := s.fab.tick + 200000 } }

/-- SOLO_BEAT (Table 3.8). -/
def State.soloBeat (s : State) : State :=
  if s.serving ∧ s.convoy.state.inConvoy = false ∧ s.convoy.soloDue ≤ s.fab.tick then s.takeSettings.soloStep.joined else s

/-- LOSS_TIMEOUT (Table 3.8): kind 0x05, SOLO, and the first solo beat on this tick. -/
def State.lossTimeout (s : State) : State :=
  if s.serving ∧ s.convoy.state = .member ∧ s.convoy.lastEdge + usTicks (s.obj K.LOSS_TIMEOUT) ≤ s.fab.tick then
    (((s.leaveConvoy .solo s.fab.tick).bumpLive K.LEADER_LOSSES).takeSettings.soloStep).raise 0x70 0x05 0
  else s

/-- Is the unit a leader candidate (R93)? -/
def ConvoySet.candidate (c : ConvoySet) : Bool := decide (1 ≤ c.rank) && decide (c.rank ≤ 254) && (c.segCount == 1 || c.relay)

/-- W of R93, in ticks. -/
def ConvoySet.wait (c : ConvoySet) : Nat := usTicks (100000 * (c.rank - 1) + 5 * c.unitAddr)

/-- A leader's beat edge (R94): the question of its latest frame is voted on in the beat it starts. -/
def State.issueBeat (s : State) : State :=
  let l := s.convoy.lead
  let asked := s.convoy.question
  let s1 := { s with convoy := { s.convoy with
    stuckFrom := if s.convoy.cscIn || !l.halted then s.convoy.stuckFrom else some s.fab.tick,
    lead := { l with asked := asked, ringBack := false, ringOpen := false, halted := false, frameSent := false } } }
  (s1.unitEdge asked).noteEdge

/-- CANDIDATE_WAIT (R93): the unit leads, and issues its first beat. -/
def State.candidateWait (s : State) : State :=
  if s.serving ∧ s.coresUp ∧ s.convoy.state = .solo ∧ s.convoy.set.candidate ∧ s.convoy.heardFrame = false
      ∧ s.convoy.soloSince + s.convoy.set.wait ≤ s.fab.tick then
    let s1 := s.takeSettings
    if s1.convoy.state ≠ .solo then s1
    else
      ({ s1 with convoy := { s1.convoy with
        state := .leader, leaderAddr := s1.convoy.set.unitAddr, lastFrame := none, frameThisBeat := false,
        lead := { Leading.none with first := true } } }).issueBeat.joined
  else s

/-- Have CVY_HOLD and CSC_IN both been high for 20,000 ticks, as far as the unit knows their levels (R70)? A unit that is no relay ignores
CSC_IN (R64). -/
def State.linesHigh (s : State) : Bool :=
  s.convoy.holdIn && (s.convoy.cscIn || !s.convoy.set.relay) && !s.convoy.halting && !s.convoy.held
  && decide (s.convoy.lowAt + 20000 ≤ s.fab.tick)

/-- LEADER_BEAT (R70, R94). -/
def State.leaderBeat (s : State) : State :=
  if s.serving ∧ s.coresUp ∧ s.convoy.state = .leader
      ∧ s.fab.edgeTick + max 72000 (usTicks (s.obj K.BEAT_PERIOD)) ≤ s.fab.tick
      ∧ (s.convoy.lead.halted → s.linesHigh) then
    let s1 := (if s.convoy.held then s.forcedRelease else s).takeSettings
    if s1.convoy.state = .leader then s1.issueBeat else s1
  else s

/-! ### The leader's frame (R70, R72, R76, R78, R80, R94) -/

/-- The head request is dropped after WAY_RETRY_LIMIT objections (R80). -/
def State.objectWay (s : State) : State :=
  let l := s.convoy.lead
  if s.obj K.WAY_RETRY_LIMIT ≤ l.objections + 1 then
    ({ s with convoy := { s.convoy with lead := { l with queue := l.queue.drop 1, objections := 0 } } }).raise 0x70 0x09 0
  else { s with convoy := { s.convoy with lead := { l with objections := l.objections + 1 } } }

/-- The result of the question of this beat: WAY_NEXT and VERSION of the frame, and the request queue (Table 3.4). -/
def State.voteResult (s : State) (asked : Option (Nat × Nat)) (passed : Bool) : State × Nat × Nat :=
  let way := s.convoy.way
  let ver := s.convoy.version
  match asked with
  | some (1, w) =>
    if passed then
      let l := s.convoy.lead
      ({ s with convoy := { s.convoy with lead := { l with queue := l.queue.drop 1, objections := 0 } } }, w, ver)
    else (s.objectWay, way, ver)
  | some (2, a) => if passed then (s, way, ver) else (s, way, max 1 (a - 1))
  | some (3, a) => if passed then (s, way, a) else (s, way, ver)
  | _ => (s, way, ver)

/-- The question for the next beat (R78). -/
def State.nextQuestion (s : State) (asked : Option (Nat × Nat)) (passed : Bool) (ver : Nat) : Nat × Nat :=
  if passed = false ∧ asked.any (fun q => q.1 != 2) then (2, ver)
  else match s.convoy.lead.queue with
    | w :: _ => (1, w)
    | [] =>
      if (s.fab.count + 1).toNat % 1024 = 0 ∧ ver < s.voteVersion then (3, ver + 1) else (2, ver)

/-- BEAT_FRAME_SEND (R72): `halt` is what was sampled of a halt (R70; with the ring open the returned slot counts as released, R86), `vote`
says that the vote sample or the returned vote slot read low. -/
def State.beatFrameSend (s : State) (halt : HaltSample) (vote : Bool) : State :=
  let l := s.convoy.lead
  if s.serving ∧ s.coresUp ∧ s.convoy.state = .leader ∧ l.frameSent = false ∧ 12000 ≤ s.offset then
    let asked := if l.first then none else l.asked
    let objected := vote || s.convoy.objecting || l.ringOpen
    let passed := asked.isSome && !objected
    let held := halt.segment || s.convoy.halting || (halt.slot && decide (1 < s.convoy.set.segCount) && !l.ringOpen)
    let r := s.voteResult asked passed
    let q := r.1.nextQuestion asked passed r.2.2
    let l1 := r.1.convoy.lead
    let m := l1.outbox.headD ⟨0, 0, 0, 0, 0⟩
    let f : Frame := {
      count := s.fab.count, version := r.2.2, wayNext := r.2.1, voteKind := q.1, voteArg := q.2,
      commit := passed && !l.first, halt := held, replyOpen := !held, leaderNew := l.first,
      replySeg := s.fab.count.toNat % s.convoy.set.segCount % 256, leaderAddr := s.convoy.set.unitAddr, msgKind := m.kind,
      msgAmount := m.amount, msgId := m.id, msgFrom := m.from_, msgTo := m.dest }
    let s1 := r.1.setLive K.PENDING_VOTE (q.1 * 256 + q.2)
    { s1 with convoy := { s1.convoy with
      frameOut := some f, lastFrame := some f, frameThisBeat := true, matched := true, msgOpen := true,
      wayNew := if f.wayNext = s1.convoy.way then none else some f.wayNext, late := none,
      lowAt := if held then max s.convoy.lowAt (s.fab.edgeTick + 501).toNat else s.convoy.lowAt,
      replySlot := if f.replyOpen then some (f.replySeg, s.filterClk + 50400 - s.offset) else none,
      stuckFrom := if held then none else s.convoy.stuckFrom,
      lead := { l1 with outbox := l1.outbox.drop 1, halted := held, first := false, frameSent := true } } }
  else s

/-! ### Frames received (R71, R74, R75, R79, R80) -/

/-- WAY_NEXT of a valid frame (R79). -/
def State.takeWay (s : State) (prev : Option Frame) (f : Frame) : State :=
  if f.wayNext = s.convoy.way then
    { s with convoy := { s.convoy with wayNew := none, late := none, oldWay := some f.count } }
  else
    let onTime := prev.any (fun p => p.count + 1 == f.count && p.wayNext == s.convoy.way)
    { s with convoy := { s.convoy with
      wayNew := some f.wayNext, late := if onTime then none else s.convoy.oldWay.map (fun j => j + 2) } }

/-- A member hears its request (R80). -/
def heardRequest (f : Frame) (pending : Option Nat) : Option Nat :=
  pending.filter (fun w => !(f.voteKind == 1 && f.voteArg == w) && f.wayNext != w)

/-- A valid frame for a unit in the convoy that does not lead. -/
def State.memberFrame (s : State) (f : Frame) : State :=
  let same := f.count == s.fab.count
  let s1 := if same then s else (s.rebase f.count).raise 0x70 0x03 0
  let s2 := s1.takeWay s.convoy.lastFrame f
  let s3 := (s2.setLive K.PENDING_VOTE (f.voteKind * 256 + f.voteArg))
  let s4 := { s3 with convoy := { s3.convoy with
    lastFrame := some f, frameThisBeat := true, matched := same, leaderAddr := f.leaderAddr, msgOpen := true,
    wayPending := heardRequest f s3.convoy.wayPending } }
  if f.halt then
    (({ s4 with convoy := { s4.convoy with state := .halted, stuckFrom := none, wayPending := none } }).bumpLive K.HALTS).raise 0x70 0x07 0
  else s4

/-- A SOLO unit takes the edge that the frame which ends now follows, where it has not taken it yet (R67). -/
def State.locateFrame (s : State) : State :=
  if s.convoy.state = .solo then
    match s.convoy.maybe.find? (fun e => decide (e + 50400 ≤ s.fab.tick)) with
    | some e => s.soloEdge e
    | none => s
  else s

/-- BEAT_FRAME (R72, R74, R75, Table 3.8): the 24 bytes of a frame end. The management cores receive frames. A frame on which a leader
stands down raises kind 0x06 alone, whatever its COUNT, and the count that the unit led with stands for j of R79 (DESIGN CHOICE:
notes/assumptions/83.md). -/
def State.beatFrame (s0 : State) (bs : List Byte) : State :=
  let s := if s0.serving && s0.coresUp && (parseFrame bs).isSome then s0.locateFrame else s0
  let c := s.convoy
  let onTime := c.state == .leader || (c.edgeFrom.any (fun t : Int => decide (t + 50400 ≤ s.fab.tick)))
  if s.serving = false ∨ s.coresUp = false ∨ c.state = .disabled ∨ onTime = false then s
  else match parseFrame bs with
    | none =>
      let s1 := (s.bumpLive K.CVY_FRAME_ERRORS).raise 0x70 0x02 0
      if c.state = .solo then { s1 with convoy := { s1.convoy with lastFrame := none, join := none } } else s1
    | some f =>
      match c.state with
      | .disabled => s
      | .solo =>
        let next := c.lastFrame.any (fun p => p.count + 1 == f.count)
        { s with convoy := { c with heardFrame := true, lastFrame := some f, join := if next then some f else none } }
      | .member | .halted => if c.frameThisBeat then s else s.memberFrame f
      | .leader =>
        if f.leaderAddr < c.set.unitAddr then
          let s1 := ({ s with convoy := { c with
            state := .member, oldWay := some s.fab.count, lastFrame := none, wayNew := none, late := none, lead := Leading.none } }).raise
            0x70 0x06 0
          let same := f.count == s.fab.count
          let s2 := (if same then s1 else s1.rebase f.count).setLive K.RING_DELAY 0
          let s3 := s2.memberFrame f
          { s3 with convoy := { s3.convoy with matched := same } }
        else s

/-! ### Requests of the host (R69, R80, R91) -/

/-- WAY_REQUEST w, accepted. In HALTED it is kept as a member's and sent after the halt (DESIGN CHOICE: Table 3.12 does not name HALTED:
notes/assumptions/84.md). -/
def State.wayRequest (s : State) (w : Nat) : State :=
  match s.convoy.state with
  | .leader => { s with convoy := { s.convoy with lead := { s.convoy.lead with queue := s.convoy.lead.queue ++ [w] } } }
  | .member | .halted => { s with convoy := { s.convoy with wayPending := some w } }
  | .disabled | .solo => { s with convoy := { s.convoy with soloWay := some w } }

/-- A leader whose queue is full answers BUSY (R80). -/
def State.wayBusy (s : State) : Bool := s.convoy.state == .leader && decide (8 ≤ s.convoy.lead.queue.length)

/-- HALT_REQUEST 0 ends the halt hold (R69); 1 takes effect at the next beat edge. -/
def State.haltWritten (s : State) : State :=
  if s.objB K.HALT_REQUEST then s
  else { s with convoy := { s.convoy with
    halting := false, lowAt := if s.convoy.halting then s.fab.tick else s.convoy.lowAt } }

/-! ### Replies (R83) -/

/-- Tolls in transit (R96). -/
def State.transit (s : State) : Nat := s.obj K.XFER_IN_TRANSIT

/-- The XFER_SENT reply of the transfer in transit. -/
def State.sentReply (s : State) : Reply := ⟨s.convoy.set.unitAddr, 3, s.transit, s.obj (H.xfer 0 0), s.obj (H.xfer 0 2)⟩

/-- Tolls that may be offered (R247). -/
def State.offerable (s : State) : Nat := s.obj K.INRUSH_FREE - s.obj K.INRUSH_KEEP

/-- The reply that is pending, and whether it comes from the queue of answers (R80, R83, R247). -/
def State.pendingReply (s : State) : Option (Reply × Bool) :=
  let addr := s.convoy.set.unitAddr
  match s.convoy.wayPending, s.convoy.replies with
  | some w, _ => some (⟨addr, 5, w, 0, 0⟩, false)
  | none, r :: _ => some (r, true)
  | none, [] =>
    if 0 < s.inrushWant then some (⟨addr, 1, min 255 s.inrushWant, 0, 0⟩, false)
    else if s.objB K.OFFER_AUTO ∧ s.transit = 0 ∧ (s.feed 0).state ≠ .waitTolls ∧ (s.feed 1).state ≠ .waitTolls
        ∧ 1 ≤ s.offerable then
      some (⟨addr, 2, min 255 s.offerable, 0, 0⟩, false)
    else none

/-- Is the reply slot of this beat open to this unit (R83)? -/
def State.slotOpen (s : State) : Bool :=
  (s.convoy.state == .member || s.convoy.state == .leader) && s.convoy.present && s.coresUp && s.convoy.frameThisBeat
  && !s.convoy.replied && s.convoy.lastFrame.any (fun f => f.replyOpen && f.replySeg == s.convoy.set.segId)
  && decide (52000 ≤ s.offset) && decide (s.offset < 68000)

/-- REPLY_SEND (R83): `won` says that the unit won arbitration; otherwise it tries again in the next open slot. -/
def State.replySend (s : State) (won : Bool) : State :=
  if s.serving ∧ s.slotOpen then
    match s.pendingReply with
    | some (r, queued) =>
      let c := { s.convoy with replied := true }
      if won then { s with convoy := { c with sent := some r, sending := true, replies := if queued then c.replies.drop 1 else c.replies } }
      else { s with convoy := c }
    | none => s
  else s

/-! ### Toll passing: the leader (R95, R96) -/

/-- The leader's part of the convoy changed. -/
def State.setLead (s : State) (l : Leading) : State := { s with convoy := { s.convoy with lead := l } }

/-- Pair a request with an offer: XFER_PROPOSE for the smaller amount (R95). -/
def State.pairTolls (s : State) : State :=
  let l := s.convoy.lead
  match l.request, l.offer with
  | some rq, some of_ =>
    if rq.1 = of_.1 then s
    else
      let n := l.nextProposal
      s.setLead { l with
        request := none, offer := none, nextProposal := (n + 1) % 65536,
        proposals := l.proposals ++ [⟨n, of_.1, rq.1, s.fab.count⟩],
        outbox := l.outbox ++ [⟨1, min rq.2 of_.2, n, of_.1, rq.1⟩] }
  | _, _ => s

/-- A reply reaches the leader: valid, of the expected kind, the leader leads (R83). -/
def State.leaderReply (s : State) (w : BitVec 80) (kind : Nat) : Option Reply :=
  if s.serving ∧ s.coresUp ∧ s.convoy.state = .leader then (parseReply w).filter (fun r => r.kind == kind) else none

/-- TOLL_REQUEST (R95). -/
def State.tollRequest (s : State) (w : BitVec 80) : State :=
  match s.leaderReply w 1 with
  | some r => if r.arg8 = 0 then s else (s.setLead { s.convoy.lead with request := some (r.addr, r.arg8) }).pairTolls
  | none => s

/-- TOLL_OFFER (R95). -/
def State.tollOffer (s : State) (w : BitVec 80) : State :=
  match s.leaderReply w 2 with
  | some r => if r.arg8 = 0 then s else (s.setLead { s.convoy.lead with offer := some (r.addr, r.arg8) }).pairTolls
  | none => s

/-- XFER_SENT (R95, R96): XFER_DELIVER for a transfer that the leader does not carry yet. -/
def State.xferSent (s : State) (w : BitVec 80) : State :=
  match s.leaderReply w 3 with
  | some r =>
    let l := s.convoy.lead
    let l1 := { l with proposals := l.proposals.filter (fun p => !(p.sender == r.addr && p.receiver == r.argB)) }
    if l.deliveries.any (fun d => d.sender == r.addr && d.id == r.argA) then s.setLead l1
    else s.setLead { l1 with
      deliveries := l1.deliveries ++ [⟨r.addr, r.argA, r.argB, r.arg8, s.fab.count⟩],
      outbox := l1.outbox ++ [⟨2, r.arg8, r.argA, r.addr, r.argB⟩] }
  | none => s

/-- XFER_RECEIVED (R95): XFER_CLOSE. -/
def State.xferReceived (s : State) (w : BitVec 80) : State :=
  match s.leaderReply w 4 with
  | some r =>
    let l := s.convoy.lead
    s.setLead { l with
      deliveries := l.deliveries.filter (fun d => !(d.sender == r.argB && d.id == r.argA)),
      outbox := l.outbox ++ [⟨3, r.arg8, r.argA, r.argB, r.addr⟩] }
  | none => s

/-- WAY_REQUEST_REPLY (R80). -/
def State.wayRequestReply (s : State) (w : BitVec 80) : State :=
  match s.leaderReply w 5 with
  | some r =>
    let l := s.convoy.lead
    if l.queue.contains r.arg8 then s
    else if 8 ≤ l.queue.length then s.setLead { l with dropped := l.dropped + 1 }
    else s.setLead { l with queue := l.queue ++ [r.arg8] }
  | none => s

/-- Have XFER_RESEND beats passed since a beat? -/
def State.resendDue (s : State) (b : Count) : Bool := decide (s.obj K.XFER_RESEND ≤ (s.fab.count - b).toNat)

/-- PROPOSAL_FORGET (R95). -/
def State.proposalForget (s : State) : State :=
  if s.serving ∧ s.coresUp ∧ s.convoy.state = .leader then
    s.setLead { s.convoy.lead with proposals := s.convoy.lead.proposals.filter (fun p => !s.resendDue p.beat) }
  else s

/-- DELIVER_REPEAT (R95). -/
def State.deliverRepeat (s : State) : State :=
  if s.serving ∧ s.coresUp ∧ s.convoy.state = .leader then
    let l := s.convoy.lead
    let due := l.deliveries.filter (fun d => s.resendDue d.beat)
    s.setLead { l with
      deliveries := l.deliveries.map (fun d => if s.resendDue d.beat then { d with beat := s.fab.count } else d),
      outbox := l.outbox ++ due.map (fun d => FrameMsg.mk 2 d.amount d.id d.sender d.receiver) }
  else s

/-! ### Toll passing: sender and receiver (R95 to R97, R245 to R247) -/

/-- The message of the latest frame, where it is still open, of a kind, and the unit is in the convoy. -/
def State.openMsg (s : State) (kind : Nat) : Option Frame :=
  if s.serving ∧ s.coresUp ∧ s.convoy.state.inConvoy ∧ s.convoy.msgOpen ∧ s.convoy.frameThisBeat then
    s.convoy.lastFrame.filter (fun f => f.msgKind == kind)
  else none

/-- The message is acted on. -/
def State.closeMsg (s : State) : State := { s with convoy := { s.convoy with msgOpen := false } }

/-- XFER_PROPOSE (step 3 of R95, R247): the sender moves the tolls into transit, takes its next transfer ID and sends
XFER_SENT, when it still holds them free. -/
def State.xferPropose (s0 : State) : State :=
  match s0.openMsg 1 with
  | some f =>
    let s := s0.closeMsg
    if f.msgFrom ≠ s.convoy.set.unitAddr then s0
    else if 1 ≤ f.msgAmount ∧ s.transit = 0 ∧ f.msgAmount ≤ s.offerable then
      let id := s.obj K.XFER_NEXT_ID
      let s1 := ((s.setLive K.INRUSH_FREE (s.obj K.INRUSH_FREE - f.msgAmount)).setPers K.XFER_IN_TRANSIT f.msgAmount).setPers
        K.XFER_NEXT_ID ((id + 1) % 65536)
      let s2 := ((s1.setPers (H.xfer 0 0) id).setPers (H.xfer 0 1) f.msgAmount).setPers (H.xfer 0 2) f.msgTo
      { s2 with convoy := { s2.convoy with xferBeat := s.fab.count, replies := s2.convoy.replies ++ [s2.sentReply] } }
    else s
  | none => s0

/-- Has the unit added the transfer (sender, ID) already (R97)? -/
def State.xferSeen (s : State) (sender id : Nat) : Bool :=
  (List.range 64).any (fun i => s.obj (H.seen i 0) == sender + 1 && s.obj (H.seen i 1) == id)

/-- XFER_DELIVER (step 5 of R95): the tolls are added on first sight; XFER_RECEIVED answers every time. -/
def State.xferDeliver (s0 : State) : State :=
  match s0.openMsg 2 with
  | some f =>
    let s := s0.closeMsg
    if f.msgTo ≠ s.convoy.set.unitAddr then s0
    else
      let s1 := if s.xferSeen f.msgFrom f.msgId then s
        else
          let i := s.obj (H.seen 64 0) % 64
          let t := ((s.setPers (H.seen i 0) (f.msgFrom + 1)).setPers (H.seen i 1) f.msgId).setPers (H.seen 64 0) ((i + 1) % 64)
          ((t.setPers K.INRUSH_HELD (t.obj K.INRUSH_HELD + f.msgAmount)).setLive K.INRUSH_FREE
            (t.obj K.INRUSH_FREE + f.msgAmount)).bump K.XFER_RECEIVED
      let r : Reply := ⟨s1.convoy.set.unitAddr, 4, f.msgAmount, f.msgId, f.msgFrom⟩
      { s1 with convoy := { s1.convoy with replies := s1.convoy.replies ++ [r] } }
  | none => s0

/-- XFER_CLOSE (step 6 of R95): the transfer leaves transit and INRUSH_HELD falls. -/
def State.xferClose (s0 : State) : State :=
  match s0.openMsg 3 with
  | some f =>
    let s := s0.closeMsg
    if f.msgFrom ≠ s.convoy.set.unitAddr then s0
    else if 0 < s.transit ∧ s.obj (H.xfer 0 0) = f.msgId then
      let a := s.transit
      let s1 := ((s.setPers K.INRUSH_HELD (s.obj K.INRUSH_HELD - a)).setPers K.XFER_IN_TRANSIT 0).bump K.XFER_SENT_DONE
      { s1 with convoy := { s1.convoy with
        replies := s1.convoy.replies.filter (fun r => !(r.kind == 3 && r.argA == f.msgId)) } }
    else s
  | none => s0

/-- XFER_RESEND (R96). -/
def State.xferResend (s : State) : State :=
  if s.serving ∧ s.coresUp ∧ 0 < s.transit ∧ s.resendDue s.convoy.xferBeat then
    { s with convoy := { s.convoy with
      xferBeat := s.fab.count,
      replies := if s.convoy.replies.contains s.sentReply then s.convoy.replies else s.convoy.replies ++ [s.sentReply] } }
  else s

/-! ### The relay cascade (R84 to R86) -/

/-- RING_DELAY (R86). -/
def State.ringDelay (s : State) (ticks : Nat) : State :=
  let l := s.convoy.lead
  if s.serving ∧ s.convoy.state = .leader ∧ 1 < s.convoy.set.segCount ∧ l.ringBack = false ∧ l.ringOpen = false
      ∧ ticks ≤ 8000 then
    let s1 := (s.setLead { l with ringBack := true }).setLive K.RING_DELAY ticks
    if 7680 < ticks then s1.raise 0x71 0x02 0 else s1
  else s

/-- RING_OPEN (R86). -/
def State.ringOpen (s : State) : State :=
  let l := s.convoy.lead
  if s.serving ∧ s.convoy.state = .leader ∧ 1 < s.convoy.set.segCount ∧ l.ringBack = false ∧ l.ringOpen = false
      ∧ 8000 ≤ s.offset then
    (s.setLead { l with ringOpen := true }).raise 0x71 0x01 0
  else s

/-- CSC_STUCK (R86): once for each low. -/
def State.cscStuck (s : State) : State :=
  match s.convoy.stuckFrom with
  | some t =>
    if s.serving ∧ s.convoy.set.relay ∧ s.convoy.inHalt = false ∧ t + 72000 < s.fab.tick then
      ({ s with convoy := { s.convoy with stuckFrom := none } }).raise 0x71 0x03 0
    else s
  | none => s

/-- Is the reply slot open to the unit's segment at an offset, by the latest frame that passed (R83, R84)? -/
def Convoy.replyOpen (c : Convoy) (off clk : Nat) : Bool :=
  decide (52000 ≤ off) && decide (off < 68000) && c.replySlot.any (fun x => x.1 == c.set.segId && decide (clk < x.2 + 17600))

/-- The segment's level that a relay ANDs into CSC_OUT at an offset (R84): its halt sample in the halt slot, its vote sample in the vote
slot, CVY_HOLD from the end of the reply slot on and through a halt, CVY_DATA in a reply slot open to its segment; high elsewhere. -/
def Convoy.segmentLevel (c : Convoy) (off clk : Nat) : Bool :=
  if 2000 ≤ off ∧ off < 2200 then c.haltSample
  else if 2400 ≤ off ∧ off < 2600 then c.voteSample
  else if c.replyOpen off clk then c.dataIn && !c.dataLow
  else if 68000 ≤ off ∨ c.inHalt then c.holdIn && !c.holdLow
  else true

/-- The segment's samples at offsets 500 and 1,900: the level of CVY_HOLD with what this unit itself drives, `own` being a halt hold of
it (R69, R76, R84). -/
def Convoy.sample (c : Convoy) (off : Nat) (own : Bool) : Convoy :=
  { c with haltSample := if off = 500 then c.holdIn && !own else c.haltSample,
           voteSample := if off = 1900 then c.holdIn && !own && !c.objecting else c.voteSample }

/-- Does a relay that is not the leader carry CSC_IN onto CVY_DATA: the low pulse of a beat edge, which came at filter clock tick `edge`,
and the frame's bits (R84)? -/
def carriesData (off clk : Nat) (edge : Option Nat) : Bool :=
  edge.any (fun t => decide (clk < t + 2000)) || (decide (12000 ≤ off) && decide (off < 50400))

/-- Does the unit forward whatever RELAY says (R407)? -/
def State.forwards (s : State) : Bool :=
  (s.phase == .off && s.supplies) || s.phase == .clocks || s.phase == .recall || s.phase == .cores || s.frozen.isSome

/-- Does the unit forward as a relay that does not lead (R64, R84, R407)? -/
def State.relays (s : State) : Bool := s.forwards || (s.convoy.set.relay && s.convoy.state != .leader)

/-- The offset by which a unit times the slots of Table 3.1: that of its own timeline in the convoy, otherwise the filter clock ticks since
the latest beat edge on CSC_IN (R407). -/
def State.relayOffset (s : State) : Nat :=
  if s.forwards || !s.convoy.state.inConvoy then
    match s.convoy.relayEdge with
    | some t => s.filterClk - t
    | none => s.filterClk
  else s.offset

/-- Bit i, in the order sent, of a byte string whose bytes go most significant bit first (R72). -/
def sentBit (bs : List Byte) (i : Nat) : Bool := nbit (bs.getD (i / 8) 0xFF#8).toNat (7 - i % 8)

/-- Does the leader send a low level at an offset: the pulse of its beat edge, or a 0 of its frame (R66, R72)? -/
def Convoy.leaderLow (c : Convoy) (off : Nat) : Bool :=
  c.state == .leader && (decide (off < 200)
    || (c.lead.frameSent && decide (12000 ≤ off) && decide (off < 50400)
        && c.frameOut.any (fun f => !sentBit f.bytes ((off - 12000) / 200))))

/-- Does the unit send a 0 of its reply at an offset (R83)? -/
def Convoy.replyLow (c : Convoy) (off : Nat) : Bool :=
  c.state.inConvoy && c.sending && decide (52000 ≤ off) && decide (off < 68000)
  && c.sent.any (fun r => !nbit r.word.toNat (79 - (off - 52000) / 200))

/-- The unit's own halt hold: a halt of R69, or the hold of the pin engine under freeze (R416). -/
def State.ownHalt (s : State) : Bool := s.convoy.halting || (s.frozen.isSome && s.frz.hold)

/-- Without VIO the convoy pins are high impedance (R431, R432); CSC_OUT then counts as high. -/
def State.releasePins (s : State) : State :=
  { s with convoy := { s.convoy with holdLow := false, dataLow := false, cscOut := true } }

/-- A relay's hardware reads from each valid frame that passes to which segment the reply slot is open, without the cores (R85). -/
def State.noteReplySlot (s : State) (bs : List Byte) : State :=
  match (if s.relays then parseFrame bs else none) with
  | some f => { s with convoy := { s.convoy with replySlot := if f.replyOpen then some (f.replySeg, s.filterClk) else none } }
  | none => s

/-- The levels that the convoy pins have now (Table 3.1, R66, R68, R69, R72, R76, R83, R84): CVY_HOLD low from a beat edge to the release,
through a halt hold, and over [600, 2,000) with an objection; CVY_DATA low for the bits that the unit sends or carries as a relay; CSC_OUT
with the leader's bits, or forwarded. A unit that does not relay drives CSC_OUT high (R64); a leader drives it high but for its own
bits and the reply slot of its segment. -/
def State.drive (s : State) : State :=
  if s.supplies = false then s.releasePins
  else
    let off := s.relayOffset
    let live := s.convoy.state.inConvoy && s.frozen.isNone
    let c : Convoy := { s.convoy.sample off s.ownHalt with
      holdLow := s.ownHalt || (live && (s.convoy.held || (s.convoy.objecting && decide (600 ≤ off) && decide (off < 2000)))),
      dataLow := (live && (s.convoy.leaderLow off || s.convoy.replyLow off)) || (s.relays && !s.convoy.cscIn && carriesData off s.filterClk s.convoy.relayEdge) }
    let out : Bool :=
      if s.relays then c.cscIn && c.segmentLevel off s.filterClk
      else if c.state = .leader ∧ c.set.relay ∧ 1 < c.set.segCount then
        !c.leaderLow off && (!c.replyOpen off s.filterClk || (c.dataIn && !c.dataLow))
      else true
    { s with convoy := { c with cscOut := out } }

/-- RELAY_FORWARD (R64, R84, R407): CSC_IN changes, or a line of the segment; `holdLine` and `dataLine` are the levels that CVY_HOLD (in the
halt and vote slots, the segment's sample) and CVY_DATA have from others. A first fall of CSC_IN, or one 72,000 ticks or more after the
previous edge, is a beat edge (R416). -/
def State.relayForward (s0 : State) (cscIn holdLine dataLine : Bool) : State :=
  let falls := s0.convoy.cscIn && !cscIn
  let isEdge := falls && (match s0.convoy.relayEdge with | some t => decide (t + 72000 ≤ s0.filterClk) | none => true)
  let s := if isEdge then { s0 with convoy := { s0.convoy with relayEdge := some s0.filterClk } } else s0
  let c := s.convoy
  let low := !c.holdIn || !holdLine || (c.set.relay && (!c.cscIn || !cscIn))
  ({ s with convoy := { c with
    cscIn := cscIn, holdIn := holdLine, dataIn := dataLine,
    lowAt := if low then s.fab.tick else c.lowAt,
    stuckFrom := if cscIn || c.inHalt then none else if c.cscIn then some s.fab.tick else c.stuckFrom } }).drive

end Sys2Proof.Machine
end

