-- ==== Sys2Proof/Machine/Cores.lean ====
section
/-! DEFINITION. The management cores (R28, R29) and the power states (R409 to R412). -/

namespace Sys2Proof.Machine

/-! ### Restarts (R28, R29, R57, R314, R393) -/

/-- Clear every latch of every session (R57): NOT_READY begins. -/
def State.clearLatches (s : State) : State :=
  { s with hosts := { s.hosts with
    ports := mapVals (fun p : PortState => { p with session := p.session.map (fun x : Session => { x with latches := [] }) }) s.hosts.ports } }

/-- Have the cores been released to the resident loader (Table 15.2)? -/
def State.coresStarted (s : State) : Bool := s.phase == .cores || s.phase == .joining || s.phase == .running

/-- A restart of R28: cause 1 lockstep (kind 0x01), 2 watchdog (kind 0x02). The third within 10 s holds the cores until RESET_N
(R29). A trial fails (R395). -/
def State.coreRestart (s : State) (cause : Nat) : State :=
  if s.coresStarted = false ∨ s.cores.hold.isSome then s
  else
    let recent := s.fab.tick :: s.cores.restarts.filter (fun t => decide (s.fab.tick < t + 2000000000))
    let limit := decide (3 ≤ recent.length)
    let s1 := (s.raise 0x8B cause 0).clearLatches
    let s2 := { s1 with cores := {
      hold := some (if limit then .limit else .restart cause), restarts := recent } }
    let s3 := if limit then s2.raise 0x8B 0x03 0 else s2
    if s3.record.pending.isSome ∧ s3.record.ran then s3.trialFail 0x09 else s3

/-- The CORE_RESTART record that a hold leaves to the ledger (R344): none for an activation (R393). -/
def CoreHold.record : CoreHold → List Nat
  | .restart c => [c]
  | .reserve => [3]
  | .activation => []
  | .limit => []

/-- CORE_START (R28, R117, R314, R392, R395, Table 3.8): the loader boots, the object server and the posting of passes resume; a
leader that was held is in SOLO; a unit whose cores run again before offset 400 is still present for the beat (R68). -/
def State.coreStart (s : State) : State :=
  match s.cores.hold with
  | none => s
  | some .limit => s
  | some h =>
    if s.input.onVhu then s
    else
      let s1 := { s with
        cores := { s.cores with hold := none },
        ledger := { s.ledger with restartCauses := s.ledger.restartCauses ++ h.record } }
      let s2 := s1.bootImage.noteWindow s.collWindow
      let s3 := if s2.convoy.state = .leader then s2.leaveConvoy .solo (max (s2.fab.edgeTick + 200000) s2.fab.tick).toNat else s2
      s3.lateReady.drive.postDeferred

/-! ### Power states (Tables 15.3 to 15.5) -/

/-- Codes of Table 15.3. -/
def PowerState.code : PowerState → Nat
  | .full => 0 | .trim => 1 | .doze => 2 | .still => 3

/-- Latency bounds of Table 15.3, in µs. -/
def PowerState.bound : PowerState → Nat
  | .full => 0 | .trim => 50 | .doze => 1000 | .still => 20000

/-- LATENCY_REQ of a session (0x1100.05). -/
def Session.latency (x : Session) : Nat := fget x.own K.LATENCY_REQ 0

/-- LATENCY_IN_FORCE (R410). -/
def State.latencyInForce (s : State) : Nat :=
  let ls := s.hosts.ports.filterMap (fun p => p.2.session.map Session.latency)
  match ls with
  | [] => s.obj K.IDLE_LATENCY
  | a :: r => r.foldl min a

/-- CHOSEN_STATE (R410). -/
def State.chosenState (s : State) : PowerState :=
  let ok (p : PowerState) : Bool := decide (p.bound ≤ s.latencyInForce) && decide (p.code ≤ s.obj K.STATE_MAX)
  if ok .still then .still else if ok .doze then .doze else if ok .trim then .trim else .full

/-- FULL_REASONS (Table 15.4). -/
def State.fullReasons (s : State) : Nat :=
  let mrg := railNos.any (fun n =>
    match (s.margin n).state with
    | .pending | .moving | .settling | .returning => true
    | .nominal | .held | .failed => false)
  let stip := railNos.any (fun n =>
    match (s.stip n).state with
    | .waiting | .preload | .acquire | .unload | .analyse => true
    | .idle | .scheduled | .done | .aborted | .failed => false)
  b2n (s.ledger.reconciling || decide (256 ≤ s.ledger.buffer.length)) + 2 * b2n s.coll.inFault + 4 * b2n (s.storeState != 1)
  + 8 * b2n (s.upd.state == .verifying || s.upd.state == .applying) + 16 * b2n (s.cap.state == .armed || s.cap.state == .running)
  + 32 * b2n stip + 64 * b2n mrg + 128 * b2n (s.seq.state != .idle)
  + 256 * b2n (s.phase == .joining || s.collPhase == .startUp)
  + 512 * b2n (s.dwellFrom.any (fun t => decide (s.fab.tick < t + usTicks (s.obj K.DWELL))))

/-- Full is reached from another state: WAKES (0x7800.08). -/
def State.wake (s : State) : State := if s.power = .full then s else ({ s with power := .full }).bump K.WAKES

/-- POWER_STATE_ENTER (Table 15.5). -/
def State.powerStateEnter (s : State) : State :=
  if s.serving ∧ s.power = .full ∧ s.fullReasons = 0 then { s with power := s.chosenState } else s

/-- Does a request that has arrived wait on some port? -/
def State.requestWaits (s : State) : Bool := s.hosts.ports.any (fun p => p.2.request.isSome)

/-- FULL_REACHED (Table 15.5). -/
def State.fullReached (s : State) : State :=
  if s.serving ∧ (s.requestWaits ∨ s.fullReasons ≠ 0) then s.wake else s

/-- A changed choice takes effect at once outside Full (Table 15.5). -/
def State.powerReview (s : State) : State :=
  if s.power = .full ∨ s.power = s.chosenState then s
  else if s.chosenState = .full then s.wake
  else { s with power := s.chosenState }

/-- DWELL_END (Table 15.4). -/
def State.dwellEnd (s : State) : State :=
  match s.dwellFrom with
  | some t => if t + usTicks (s.obj K.DWELL) ≤ s.fab.tick then { s with dwellFrom := none } else s
  | none => s

end Sys2Proof.Machine
end

