-- ==== Sys2Proof/Machine/Objects.lean ====
section
/-! DEFINITION. What a read of an object returns (R39, R41, R48): values that hardware or firmware forms, the session's own copies
(R351), and for every other object the value held. -/

namespace Sys2Proof.Machine

/-! ### Sessions and ports as objects (Table 13.16) -/

/-- A port that nothing has used. -/
def PortState.blank : PortState :=
  { session := none, challenge := none, fails := 0, lockedUntil := none, frameErr := false, request := none, response := none,
    ready := false, stored := none, answers := [], out := [] }

/-- Port p. -/
def State.port (s : State) (p : Nat) : PortState := fget s.hosts.ports p PortState.blank

/-- Replace port p. -/
def State.setPort (s : State) (p : Nat) (x : PortState) : State :=
  { s with hosts := { s.hosts with ports := fset s.hosts.ports p x } }

/-- Objects of which each session has its own copy, beside 0x1100.01 and .02 (R351). -/
def ownKey (key : Nat) : Bool :=
  key == K.LEASE_TIME || key == K.LATENCY_REQ || key == K.DP_ADDR || key == K.PAGE_SELECT || key == K.RECORD_SELECT
  || key == K.FF_SELECT || key == K.SOURCE_SELECT

/-- A session's own copy of an object. -/
def Session.obj (x : Session) (key : Nat) : Nat := fget x.own key (objDefault key)

/-- The copy of the session on port p; its Default without a session. -/
def State.own (s : State) (p key : Nat) : Nat :=
  match (s.port p).session with
  | some x => x.obj key
  | none => objDefault key

/-- Lease length in µs (R365). -/
def State.leaseOf (s : State) (x : Session) : Nat := min (x.obj K.LEASE_TIME) (s.obj K.LEASE_MAX)

/-- The tick on which a session's lease lapses (R365). -/
def State.lapseTick (s : State) (x : Session) : Nat := x.renewed + usTicks (s.leaseOf x)

/-- What is left of the lease on port p, in µs. -/
def State.leaseLeft (s : State) (p : Nat) : Nat :=
  match (s.port p).session with
  | some x => cdiv (s.lapseTick x - s.fab.tick) 200
  | none => 0

/-- What is left of a lockout, in µs (R362). -/
def State.lockoutLeft (s : State) (p : Nat) : Nat :=
  match (s.port p).lockedUntil with
  | some t => cdiv (t - s.fab.tick) 200
  | none => 0

/-- KEY_STATUS (0x1202.04). -/
def State.keyStatus (s : State) : Nat :=
  b2n (s.obj (K.KEY 0) != 0) + 2 * b2n (s.obj (K.KEY 1) != 0) + 4 * b2n (s.obj (K.KEY 2) != 0)

/-- Objects of Table 13.16, 13.18 and 13.19 that the ports form, for a reader on port p. -/
def State.readHosts (s : State) (p key : Nat) : Option Nat :=
  let index := key / 256
  let sub := key % 256
  if index = 0x1100 then
    match sub with
    | 1 => some p
    | 2 => some (((s.port p).session.map Session.level).getD 0)
    | 4 => some (s.leaseLeft p)
    | _ => none
  else if 0x1101 ≤ index ∧ index ≤ 0x1103 then
    let q := index - 0x1101
    match sub with
    | 1 => some (b2n (s.port q).session.isSome)
    | 2 => some (((s.port q).session.map Session.level).getD 0xFF)
    | 3 => some (s.leaseLeft q)
    | 4 => some (s.hosts.claims.filter (fun c => c.2 == q)).length
    | 9 => some (s.lockoutLeft q)
    | _ => none
  else if index = 0x1120 ∧ 1 ≤ sub then some (fget s.hosts.claims (sub - 1) 0xFF)
  else if key = K.KEY_STATUS then some s.keyStatus
  else none

/-! ### Identity and update (Tables 2.7, 14.10) -/

/-- SERIAL as a number of 12 bytes. -/
def serialBytes : List Byte := (List.range 12).map Config.serial

/-- Objects of 0x1000 and 0x7000 that the images and the activation record give. -/
def State.readUpdate (s : State) (key : Nat) : Option Nat :=
  if key / 256 = 0x1000 then
    match key % 256 with
    | 3 => some (Config.stepping % 65536)
    | 4 => some (leNat serialBytes)
    | 5 => some s.fwRunning
    | 6 => some s.fwOther
    | 7 => some (Config.loaderVersion % 2 ^ 32)
    | 9 => some (s.record.bank s.upd.running).schema
    | _ => none
  else if key / 256 = 0x7000 then
    match key % 256 with
    | 1 => some s.upd.state.code
    | 4 => if s.upd.state = .idle then some 0 else none
    | 5 => if s.upd.state = .idle then some 0 else none
    | 6 => if s.upd.state = .idle then some 0 else none
    | 7 => if s.upd.state = .idle then some 0 else none
    | 8 => some ((s.upd.act.map (fun a => a.1.toNat)).getD 0)
    | 9 => some (if s.upd.state = .trial then s.record.trial else 0)
    | 10 => some s.trialLeft
    | 11 => some s.upd.health
    | 12 => some s.upd.running
    | 13 => some s.activeArea
    | 14 => some s.record.rollbackMin
    | 15 => some (Config.keySlots % 16)
    | _ => none
  else none

/-! ### Lanes, convoy, start-up and power states (Tables 1.6, 3.12 to 3.14, 15.11) -/

/-- STARTUP_PHASE codes (Table 15.2). -/
def StartPhase.code : StartPhase → Nat
  | .off => 0 | .powerOn => 1 | .clocks => 2 | .recall => 3 | .cores => 4 | .joining => 5 | .running => 6

/-- STATE (0x1401.03). -/
def ConvoyState.code : ConvoyState → Nat
  | .disabled => 0 | .solo => 1 | .member => 2 | .leader => 3 | .halted => 4

/-- Objects of the lanes, the convoy, start-up and the power states. -/
def State.readFabric (s : State) (key : Nat) : Option Nat :=
  let index := key / 256
  let sub := key % 256
  if key = K.SHARED_FREE then some s.lanes.freeCount
  else if index = 0x2880 ∧ 1 ≤ sub then some (s.lanes.status (sub - 1))
  else if key = K.MAX_VERSION then some (s.record.bank s.upd.running).vote
  else if index = 0x1401 then
    match sub with
    | 1 => some s.fab.count.toNat
    | 2 => some s.offset
    | 3 => some s.convoy.state.code
    | 4 => some s.convoy.way
    | 5 => some s.convoy.version
    | 6 => some s.voteVersion
    | 7 => some s.convoy.leaderAddr
    | 8 => some (b2n s.convoy.present)
    | _ => none
  else if index = 0x7800 then
    match sub with
    | 1 => some s.power.code
    | 2 => some s.chosenState.code
    | 3 => some s.latencyInForce
    | 7 => some s.fullReasons
    | _ => none
  else if key = K.STARTUP_PHASE then some s.phase.code
  else if key = K.RESET_CAUSE then some s.resetCause
  else none

/-! ### Rails (Tables 4.12, 5.11, 7.10, 7.11, 8.7) -/

/-- SINK_GRANT: tolls held by SINK[n]. -/
def State.sinkGrant (s : State) (n : Nat) : Nat := (s.sink n).power + (s.sink n).energy

/-- Objects of rail n that the blocks form. -/
def State.readRail (s : State) (key : Nat) : Option Nat :=
  let index := key / 256
  let sub := key % 256
  let n := index % 64
  let base := index - n
  if base = 0x2000 then (if sub = 0x0A then some (s.rail n).state.code else none)
  else if base = 0x2300 then
    match sub with
    | 0x11 => some (s.margin n).state.code
    | 0x12 => some (s.margin n).position
    | 0x13 => some (rawOf 16 (s.margin n).code)
    | _ => none
  else if base = 0x2400 then
    match sub with
    | 0x06 => some (s.compRaw n)
    | 0x07 => some (s.compQual n)
    | 0x0A => some (s.wide (K.ENERGY_LO n) % 2 ^ 32)
    | 0x0B => some (s.wide (K.ENERGY_LO n) / 2 ^ 32)
    | 0x14 => some (s.effCode n 0)
    | 0x15 => some (s.effCode n 1)
    | 0x16 => some (s.effCode n 2)
    | 0x17 => some (s.effCode n 3)
    | 0x18 => some (s.effCode n 4)
    | _ => none
  else if base = 0x2500 then
    (if sub = 0x21 then some (s.stip n).state.code else if sub = 0x27 then some (s.stip n).beat.toNat else none)
  else if base = 0x2600 then
    match sub with
    | 0x05 => some (s.sink n).use.code
    | 0x06 => some (s.sink n).cmd
    | 0x07 => some (s.sinkCeil n)
    | 0x08 => some (s.sinkGrant n)
    | 0x09 => some (if (s.sink n).ePosted.isSome || (s.sink n).energy != 0 then 2 else (s.sink n).level.getD 0xFF)
    | 0x0A => some (s.sinkFlags n)
    | 0x0B => some ((s.sink n).owner.getD 0xFF)
    | 0x0C => some (s.wide (K.SINK_ENERGY n))
    | _ => none
  else if index = 0x2801 then
    match sub with
    | 1 => some s.seq.way
    | 2 => some s.target
    | 3 => some s.seq.state.code
    | 7 => some s.holdoffLeft
    | 8 => some s.railsOn
    | 9 => some s.seq.deps.length
    | _ => none
  else none

/-! ### Conversion, scan and capture (Tables 6.10 to 6.16) -/

/-- RING_STATE codes. -/
def RingState.code : RingState → Nat
  | .running => 0 | .triggered => 1 | .frozen => 2

/-- CAP_STATE codes. -/
def CapState.code : CapState → Nat
  | .idle => 0 | .armed => 1 | .running => 2 | .done => 3

/-- The bank selected and not yet active (R164); re-selecting the active bank leaves none pending. -/
def Conv.pendingBank (c : Conv) : Option Nat := (c.switch.filter BankSwitch.atZero).map BankSwitch.bank

/-- Objects that the converter, the scan, the ring and the capture form. -/
def State.readConverter (s : State) (key : Nat) : Option Nat :=
  let index := key / 256
  let sub := key % 256
  if index = 0x3000 then
    match sub with
    | 4 => some s.calState
    | 5 => some s.conv.catchUp
    | 10 => some rampSlope
    | _ => none
  else if index = 0x3001 then
    match sub with
    | 1 => some s.conv.bank
    | 5 => some s.conv.listPos
    | 6 => some s.scanRate
    | 8 => some (s.conv.pendingBank.getD 0xFF)
    | _ => none
  else if 0x3020 ≤ index ∧ index ≤ 0x3030 then
    let i := index - 0x3020
    match sub with
    | 1 => some (s.roleCode i)
    | 2 => some (if (s.slice i).role = .inRound then (s.slice i).pos else 0xFF)
    | 3 => some (rawOf 32 (s.slice i).offset)
    | 4 => some (rawOf 32 (s.slice i).gain)
    | 5 => some (rawOf 16 (s.slice i).skew)
    | 6 => some (sat32 (s.calAge i / 200))
    | _ => none
  else if 0x3100 ≤ index ∧ index < 0x31C0 then
    let c := index - 0x3100
    match sub with
    | 7 => some (s.wordOf s.conv.last c)
    | 9 => some (s.wordOf s.conv.lastUrgent c)
    | 12 => some (s.chanRate c)
    | _ => none
  else if key = K.RING_STATE then some s.ring.state.code
  else if key = K.CAP_STATE then some s.cap.state.code
  else if key = K.CAP_OWNER then some s.cap.owner.code
  else if index = 0x3300 ∧ 1 ≤ sub ∧ sub ≤ 4 then some (quickWord (s.obj K.QUICK_ALIGN) (sub - 1) (s.obj key))
  else none

/-! ### Tolls and feeds (Tables 8.8 to 8.10, 9.5 to 9.8) -/

/-- Requests that wait for power or energy (0x4000.0A). -/
def State.tollsPending (s : State) : Nat := (s.sinks.filter (fun p => p.2.queued || p.2.ePosted.isSome)).length

/-- Objects that the governor and the feeds form. -/
def State.readTolls (s : State) (key : Nat) : Option Nat :=
  let index := key / 256
  let sub := key % 256
  if index = 0x4000 then
    match sub with
    | 1 => some pool
    | 2 => some s.gov.reserved
    | 4 => some s.armedCount
    | 5 => some s.powerGranted
    | 6 => some s.energyGranted
    | 7 => some s.gov.coolingSum
    | 8 => some s.gov.free
    | 9 => some s.gov.energyCap
    | 10 => some s.tollsPending
    | _ => none
  else if index = 0x4001 then
    match sub with
    | 1 => some (s.gov.issued % 2 ^ 64)
    | 2 => some (s.gov.freed % 2 ^ 64)
    | _ => none
  else if key = K.INRUSH_WANT then some (min 65535 s.inrushWant)
  else if index = 0x3801 then
    match sub with
    | 1 => some (b2n s.input.good)
    | 2 => some (b2n (s.pinLow 0))
    | 3 => some (b2n (s.pinLow 1))
    | 4 => some (b2n s.input.pfailLow)
    | 5 => some (b2n s.input.huGood)
    | _ => none
  else if index = 0x3820 ∨ index = 0x3821 then
    let f := index - 0x3820
    match sub with
    | 1 => some (s.feed f).state.code
    | 2 => some (b2n ((s.feed f).state == .on && (s.feed f).blocking))
    | 5 => some (s.feed f).left
    | 9 => some (min 65535 (s.feed f).need)
    | 12 => some (s.codeFast f)
    | 13 => some (s.codeSlow f)
    | 14 => some (s.codeRev f)
    | _ => none
  else none

/-! ### Collector, store and ledger (Tables 10.11, 11.8 to 11.13, 12.6, 12.7) -/

/-- RECORD_DATA of record r (R345): its 64 bytes; 0x00 bytes where it is void or outside the window. -/
def State.recordData (s : State) (r : Nat) : Nat := if (s.readRec r).isSome then leNat (s.readBytes (recAddr r) 64) else 0

/-- FF_DATA of an episode (R345): the 64 bytes of its first-fault entry; 0x00 bytes where it is not valid. -/
def State.episodeData (s : State) (e : Nat) : Nat :=
  match s.readFF e, ffSlot e (s.obj K.FF_BASE) with
  | some _, some j => leNat (s.readBytes (ffAddr j) 64)
  | _, _ => 0

/-- Objects that the collector, the store and the ledger form, for a reader on port p. -/
def State.readRecords (s : State) (p key : Nat) : Option Nat :=
  let index := key / 256
  let sub := key % 256
  if index = 0x5101 then
    match sub with
    | 1 => some s.coll.state.code
    | 2 => some s.collPhase.code
    | 4 => some (b2n s.coll.fatalOut)
    | 5 => some s.quietLeft
    | 6 => some s.recoveryLeft
    | 7 => some s.collWindow
    | 8 => some (b2n s.faultNLow)
    | 9 => some s.coll.queue.length
    | _ => none
  else if index = 0x6000 then
    match sub with
    | 1 => some s.storeState
    | 3 => some s.store.dirty.length
    | 4 => some (s.store.busyPage.getD 0xFFFF)
    | _ => none
  else if index = 0x6003 then
    let margin := s.obj K.ETCH_MARGIN
    match sub with
    | 2 => some s.huCapUse
    | 3 => some (sat32 s.eAvail)
    | 4 => some pageCost
    | 6 => some (etchFixed + 4096 * pageCost + margin)
    | 7 => some (etchFixed + s.store.dirty.length * pageCost + margin)
    | 8 => some (b2n (decide (etchFixed + 4096 * pageCost + margin ≤ s.eAvail)))
    | _ => none
  else if key = K.OP_TIME_LO then some (s.wide K.OP_TIME_LO % 2 ^ 32)
  else if key = K.OP_TIME_HI then some (s.wide K.OP_TIME_LO / 2 ^ 32)
  else if key = K.PAGE_INFO then some (s.pageInfo (s.own p K.PAGE_SELECT))
  else if index = 0x6800 then
    match sub with
    | 1 => some s.ledger.stateCode
    | 4 => some s.records
    | 5 => some (s.wide K.HANDED)
    | 6 => some (s.wide K.ENTERED)
    | 7 => some (s.wide K.RETIRED)
    | 8 => some (s.wide K.WINDOW_COUNT)
    | 9 => some s.ledger.buffer.length
    | 10 => some (sat32 s.ledger.overflowPending)
    | _ => none
  else if key = K.RECORD_DATA then some (s.recordData (s.own p K.RECORD_SELECT))
  else if key = K.FF_DATA then some (s.episodeData (s.own p K.FF_SELECT))
  else if key = K.LATEST_OF_SOURCE then some ((s.latestOf (s.own p K.SOURCE_SELECT)).getD 0xFFFFFFFF)
  else if key = K.FROZEN_TIME then some (s.wide K.FROZEN_TIME)
  else none

/-! ### A read -/

/-- The value that a read of an object returns to the session on port p, as a number of the type's bytes. -/
def State.readObj (s : State) (p key : Nat) : Nat :=
  if ownKey key then s.own p key
  else
    let index := key / 256
    let formed :=
      if index < 0x1100 then s.readUpdate key
      else if index < 0x1400 then s.readHosts p key
      else if index < 0x2000 then s.readFabric key
      else if index < 0x2802 then s.readRail key
      else if index < 0x3000 then s.readFabric key
      else if index < 0x3800 then s.readConverter key
      else if index < 0x5000 then s.readTolls key
      else if index < 0x7000 then s.readRecords p key
      else if index < 0x7800 then s.readUpdate key
      else if index = 0x7900 then s.readRecords p key
      else s.readFabric key
    formed.getD (s.obj key)

end Sys2Proof.Machine
end

