-- ==== Sys2Proof/Machine/Stencil.lean ====
section
/-! DEFINITION. Members of a transaction (Table 13.3), the stencil (R369, R370) and claims (R367, R368). -/

namespace Sys2Proof.Machine

/-- A member of a transaction: direction, object, LEN of a read, data of a write. -/
structure Member where
  write : Bool
  index : Nat
  sub : Nat
  len : Nat
  data : List Byte
  deriving DecidableEq, Repr

/-- The key of a member's object. -/
def Member.key (m : Member) : Nat := objKey m.index m.sub

/-- Is the member an access of DP_WINDOW (R325)? -/
def Member.window (m : Member) : Bool := m.key == K.DP_WINDOW

/-- The number written. -/
def Member.value (m : Member) : Nat := leNat m.data

/-- Bytes of a DP_WINDOW access (R325). -/
def Member.span (m : Member) : Nat := if m.write then m.data.length else m.len

/-! ### The stencil (R369) -/

/-- Region of a page (Table 11.1). -/
def regionOf (p : Nat) : Nat :=
  if p < 128 then 0 else if p < 192 then 1 else if p < 704 then 2 else if p < 1728 then 3 else if p < 2240 then 4
  else if p < 2496 then 5 else 6

/-- RULE r. -/
def State.rule (s : State) (r : Nat) : Nat := s.obj (K.RULE (r - 1))

/-- Does a rule word match an index, a session level and a port (R369)? -/
def ruleMatches (w index level port : Nat) : Bool :=
  nbit w 63 && decide (field w 15 0 ≤ index) && decide (index ≤ field w 31 16) && nbit w (51 + level) && nbit w (48 + port)

/-- Does a rule word open every region that n bytes from address a touch? -/
def ruleRegions (w a n : Nat) : Bool := (spanPages a n).all (fun p => nbit w (56 + regionOf (p % 4096)))

/-- The numbers of the rules. -/
def ruleNos : List Nat := (List.range 32).map (fun i => i + 1)

/-- Is an access admitted (R369)? `a` is the start of a DP_WINDOW access. -/
def State.admitted (s : State) (port level a : Nat) (m : Member) : Bool :=
  if m.index = 0x1202 ∧ m.write then level == 2
  else if m.index = 0x1100 then true
  else if m.write = false ∧ ((0x1101 ≤ m.index ∧ m.index ≤ 0x1103) ∨ m.index = 0x1120) then true
  else if level = 2 ∧ 0x1200 ≤ m.index ∧ m.index ≤ 0x12FF then true
  else match ruleNos.find? (fun r => ruleMatches (s.rule r) m.index level port) with
    | none => false
    | some r =>
      nbit (s.rule r) (if m.write then 55 else 54) && (!m.window || ruleRegions (s.rule r) a m.span)

/-- Does every VALID rule keep FIRST at or below LAST (R369)? -/
def State.rulesOk (s : State) : Bool :=
  ruleNos.all (fun r => !nbit (s.rule r) 63 || decide (field (s.rule r) 15 0 ≤ field (s.rule r) 31 16))

/-! ### Claim groups (Table 13.10) -/

/-- First and last index of the groups 0x40 to 0x4E. -/
def groupSpans : List (Nat × Nat) :=
  [(0x2800, 0x28FF), (0x3000, 0x31BF), (0x3200, 0x33FF), (0x3800, 0x38FF), (0x4000, 0x40FF), (0x5000, 0x51FF), (0x6000, 0x60FF),
   (0x6800, 0x68FF), (0x7000, 0x70FF), (0x7800, 0x78FF), (0x7900, 0x79FF), (0x1400, 0x14FF), (0x1000, 0x10FF), (0x1200, 0x12FF),
   (0x6100, 0x6100)]

/-- The claim group of an object; none for the session objects of R351 and 0x1100 to 0x11FF (R367). -/
def groupOf (key : Nat) : Option Nat :=
  let index := key / 256
  if ownKey key then none
  else if 0x2000 ≤ index ∧ index ≤ 0x26FF ∧ index % 256 < 64 then some (index % 64)
  else (groupSpans.findIdx? (fun g => decide (g.1 ≤ index) && decide (index ≤ g.2))).map (fun i => 0x40 + i)

/-- First index of a group (Table 13.10). -/
def groupFirst (g : Nat) : Nat := if g < 0x40 then 0x2000 + g else (groupSpans.getD (g - 0x40) (0, 0)).1

/-- The port that holds a group. -/
def State.holder (s : State) (g : Nat) : Option Nat := flook s.hosts.claims g

/-- Does another session than the one on port p hold the group of an object (check 7 of R46)? -/
def State.claimedFrom (s : State) (p key : Nat) : Bool :=
  match (groupOf key).bind s.holder with
  | some q => q != p
  | none => false

/-- CLAIM, RELEASE and CLAIM_BREAK, accepted (R368). -/
def State.claim (s : State) (p g : Nat) : State := { s with hosts := { s.hosts with claims := fset s.hosts.claims g p } }
def State.dropClaim (s : State) (g : Nat) : State := { s with hosts := { s.hosts with claims := fdel s.hosts.claims g } }
def State.release_ (s : State) (p g : Nat) : State := if s.holder g = some p then s.dropClaim g else s

/-- Release every claim of port p (R371). -/
def State.dropClaims (s : State) (p : Nat) : State :=
  { s with hosts := { s.hosts with claims := s.hosts.claims.filter (fun c : Nat × Nat => c.2 != p) } }

/-- Does the stencil admit the session on a port to write the first index of a group? -/
def State.mayHold (s : State) (g port : Nat) : Bool :=
  match (s.port port).session with
  | some x => s.admitted port x.level 0 { write := true, index := groupFirst g, sub := 0, len := 0, data := [] }
  | none => false

/-- A transaction of the session on port p changes a rule (R370): STENCIL_GEN goes up once and kind 0x05 is raised. -/
def State.stencilChanged (s : State) (p : Nat) : State :=
  let gen := (s.obj K.STENCIL_GEN + 1) % 2 ^ 32
  (s.setLive K.STENCIL_GEN gen).raise (portSource p) 0x05 (gen % 65536)

/-- At the boundary after it, the claims whose holder the new stencil no longer admits are released (R370). -/
def State.reviewClaims (s : State) : State :=
  { s with hosts := { s.hosts with claims := s.hosts.claims.filter (fun c : Nat × Nat => s.mayHold c.1 c.2) } }

end Sys2Proof.Machine
end

