-- ==== Sys2Proof/Machine/Sessions.lean ====
section
/-! DEFINITION. Sessions: responses (Table 13.4), opening (R361, R362), leases (R365, R366), and what ends with a session (R371). -/

namespace Sys2Proof.Machine

/-! ### Responses (R353, R363) -/

/-- One member of a response: data only with OK and OK_UNPAIRED. -/
def Answer.bytes (a : Answer) : List Byte :=
  let data := if a.status ≤ 1 then a.data else []
  packLE [(1, a.status), (1, 0), (2, a.tag), (2, data.length)] ++ data

/-- MAC of R363: the first 8 bytes of HMAC-SHA256 over direction and body; 8 bytes of 0x00 without a key. -/
def macOf (key : Option (List Byte)) (dir : Byte) (body : List Byte) : List Byte :=
  match key with
  | some k => (hmac256 k (dir :: body)).take 8
  | none => List.replicate 8 0#8

/-- The level that a response shows: 0xFF with no session. -/
def State.levelOf (s : State) (p : Nat) : Nat := ((s.port p).session.map Session.level).getD 0xFF

/-- A response body, formed on this tick: RESULT, SEQ, level, members, what follows them, and the key of its MAC. -/
def State.response (s : State) (result seq level : Nat) (as : List Answer) (tail : List Byte) (key : Option (List Byte)) : List Byte :=
  let body := packLE [(1, result), (1, s.obj K.STENCIL_GEN % 256), (2, seq % 65536), (4, s.fab.count.toNat), (4, s.offset),
    (1, as.length % 256), (1, level), (2, 0)] ++ as.flatMap Answer.bytes ++ tail
  body ++ macOf key 1#8 body

/-- A response of a RESULT other than ANSWERED, with a zero MAC. -/
def State.plainResponse (s : State) (p result seq : Nat) : List Byte := s.response result seq (s.levelOf p) [] [] none

/-- NODE of the bale frames: UNIT_ADDR in force (R98, R359), as recalled until the end of start-up. -/
def State.node (s : State) : Nat := if s.serving then s.convoy.set.unitAddr else s.obj K.UNIT_ADDR

/-- Send a body over H2, in segments with the NODE and SEQ [7:0] of the request (R358, R359): at once, or after bus-off (R360). -/
def State.sendBale (s : State) (body : List Byte) : State :=
  let chunks := groupsOf (body.length / 60 + 1) 60 body
  let last := chunks.length - 1
  let seq := s.hosts.bale.reqSeq
  let frame (i : Nat) (c : List Byte) : Nat × List Byte :=
    (2 ^ 28 + (s.hosts.bale.node % 2 ^ 14) * 2 ^ 14 + (i % 32) * 2 ^ 9 + b2n (i == last) * 2 ^ 8 + seq,
     leBytes 4 c.length ++ c ++ List.replicate (60 - c.length) 0#8)
  let frames := (List.range chunks.length).map (fun i => frame i (chunks.getD i []))
  let b := s.hosts.bale
  { s with hosts := { s.hosts with
    bale := if b.busOff then { b with waiting := b.waiting ++ frames } else { b with sent := frames } } }

/-- The request of port p is answered with a body (R357, R359, Table 15.4): the response buffer changes in one step. -/
def State.deliver (s : State) (p : Nat) (body : List Byte) (as : List Answer) : State :=
  let s1 := s.setPort p { s.port p with request := none, response := some body, ready := true, answers := as }
  let s2 := { s1 with dwellFrom := some s.fab.tick }
  if p = 2 then s2.sendBale body else s2

/-- A frame error of port p (R354, R357, R359): kind 0x04 and FRAME_ERRORS. -/
def State.frameError (s : State) (p result seq : Nat) : State :=
  (s.bump (K.PORT_FRAME_ERRORS p)).raise (portSource p) 0x04 (result * 65536 + seq % 65536)

/-! ### The end of a session (Table 13.13) -/

/-- A capture of the session: DONE goes to IDLE; ARMED and RUNNING run on. -/
def State.endCaptureOf (s : State) (p : Nat) : State :=
  if s.cap.owner = .port p then
    if s.cap.state = .done then s.releaseCapture
    else { s with cap := { s.cap with orphan := true } }
  else s

/-- TEST_MODE set by the session returns to 0x00 (R283). -/
def State.endTest (s : State) (p : Nat) : State :=
  if s.coll.testOwner = some p then
    let s1 := s.setLive K.TEST_MODE 0
    { s1 with coll := { s1.coll with testOwner := none } }
  else s

/-- A session ends (R371, Table 13.13). Its response buffer, which belongs to the port, stays. -/
def State.endSession (s : State) (p : Nat) : State :=
  match (s.port p).session with
  | none => s
  | some _ =>
    let s1 := s.setPort p { s.port p with session := none, challenge := none, stored := none }
    (((s1.dropClaims p).sessionLoads p).endCaptureOf p).endTest p

/-- LEASE_LAPSE (R366): kind 0x03, LAPSES, and the end of the session. -/
def State.lapse (s : State) (p : Nat) (x : Session) : State :=
  ((s.bump (K.LAPSES p)).raise (portSource p) 0x03 (x.level * 65536 + x.lastSeq)).endSession p

/-- The lease of the session on port p has run out (R365). -/
def State.leaseLapse (s : State) (p : Nat) : State :=
  match (s.port p).session with
  | some x => if s.lapseTick x ≤ s.fab.tick then s.lapse p x else s
  | none => s

/-- A challenge expires 1 s after its OPEN (R361). -/
def State.challengeExpiry (s : State) (p : Nat) : State :=
  match (s.port p).challenge with
  | some c => if c.at_ + 200000000 ≤ s.fab.tick then s.setPort p { s.port p with challenge := none } else s
  | none => s

/-- A lockout ends (R362). -/
def State.lockoutEnd (s : State) (p : Nat) : State :=
  match (s.port p).lockedUntil with
  | some t => if t ≤ s.fab.tick then s.setPort p { s.port p with lockedUntil := none } else s
  | none => s

/-! ### OPEN and PROOF (R361, R362) -/

/-- ASCII bytes of a string. -/
def ascii (t : String) : List Byte := t.toList.map (fun c => BitVec.ofNat 8 c.toNat)

/-- 32 bytes of 0x00. -/
def zeroKey : List Byte := List.replicate 32 0#8

/-- Is the device ready for OPEN and PROOF (Table 13.5, R372)? -/
def State.authReady (s : State) : Bool := s.serving && s.coresUp

/-- OPEN at a level with N_H: a new challenge, and the OPEN payload. -/
def State.openAnswer (s : State) (p seq level : Nat) (nh : List Byte) : State :=
  if (s.port p).lockedUntil.isSome then s.deliver p (s.plainResponse p 5 seq) []
  else if s.authReady = false then s.deliver p (s.plainResponse p 6 seq) []
  else
    let nd := (List.range 16).map (fun i => Config.randomByte s.hosts.draws i)
    let s1 := { s with hosts := { s.hosts with draws := s.hosts.draws + 1 } }
    let s2 := s1.setPort p { s1.port p with challenge := some { level := level, nh := nh, nd := nd, at_ := s.fab.tick } }
    let tail := nd ++ serialBytes ++ [BitVec.ofNat 8 s.keyStatus] ++ List.replicate 3 0#8
    s2.deliver p (s2.response 0 seq (s2.levelOf p) [] tail none) []

/-- The key K_L that a PROOF matches under a challenge, if it does. -/
def State.proofKey (s : State) (p : Nat) (c : Challenge) (proof : List Byte) : Option (List Byte) :=
  if 3 ≤ c.level then none
  else
    let key := leBytes 32 (s.obj (K.KEY c.level))
    let ids := [BitVec.ofNat 8 p, BitVec.ofNat 8 c.level]
    if key = zeroKey then (if c.level = 2 ∧ p ≠ 2 ∧ proof = zeroKey then some zeroKey else none)
    else if hmac256 key (ascii "YB64OPEN" ++ ids ++ c.nh ++ c.nd ++ serialBytes) = proof then some key
    else none

/-- A PROOF is refused: AUTH_FAILS, kind 0x01; after AUTH_LIMIT in a row, lockout and kind 0x02 (R362). -/
def State.authFail (s : State) (p seq : Nat) : State :=
  let s1 := (s.bump (K.AUTH_FAILS p)).raise (portSource p) 0x01 (3 * 65536 + seq)
  let n := (s1.port p).fails + 1
  let s2 :=
    if s.obj K.AUTH_LIMIT ≤ n then
      (s1.setPort p { s1.port p with fails := 0, lockedUntil := some (s.fab.tick + usTicks (s.obj K.AUTH_LOCKOUT)) }).raise
        (portSource p) 0x02 seq
    else s1.setPort p { s1.port p with fails := n }
  s2.deliver p (s2.plainResponse p 3 seq) []

/-- A PROOF matches: the old session ends, the new one opens, and the answer carries a MAC under K_S. -/
def State.openAs (s : State) (p seq : Nat) (c : Challenge) (key : List Byte) : State :=
  let ks := hmac256 key (ascii "YB64SESS" ++ [BitVec.ofNat 8 p, BitVec.ofNat 8 c.level] ++ c.nh ++ c.nd)
  let s1 := (s.endSession p).bump (K.OPENS p)
  let x : Session := { level := c.level, key := ks, lastSeq := seq, renewed := s.fab.tick, latches := [], own := [] }
  let s2 := s1.setPort p { s1.port p with session := some x, challenge := none, fails := 0 }
  let body := s2.response 0 seq c.level [] [] (some ks)
  (s2.setPort p { s2.port p with stored := some (body, []) }).deliver p body []

/-- PROOF, which finished arriving on a given tick. -/
def State.proofAnswer (s : State) (p seq arrived : Nat) (proof : List Byte) : State :=
  if (s.port p).lockedUntil.isSome then s.deliver p (s.plainResponse p 5 seq) []
  else if s.authReady = false then s.deliver p (s.plainResponse p 6 seq) []
  else match (s.port p).challenge with
    | none => s.authFail p seq
    | some c =>
      if c.at_ + 200000000 ≤ arrived then s.authFail p seq
      else match s.proofKey p c proof with
        | none => s.authFail p seq
        | some key => s.openAs p seq c key

end Sys2Proof.Machine
end

