-- ==== Sys2Proof/Machine/Checks.lean ====
section
/-! DEFINITION. The checks of one member (Table 2.4) and the cross-object conditions of the chapters (R47). -/

namespace Sys2Proof.Machine

/-! ### Status codes (Table 2.3) -/

namespace St
def ok : Nat := 0x00
def okUnpaired : Nat := 0x01
def notReady : Nat := 0x80
def noObject : Nat := 0x81
def stencil : Nat := 0x82
def readOnly : Nat := 0x83
def writeOnly : Nat := 0x84
def privilege : Nat := 0x85
def claimed : Nat := 0x86
def length : Nat := 0x87
def reservedField : Nat := 0x88
def range : Nat := 0x89
def unsafeState : Nat := 0x8A
def constraint : Nat := 0x8B
def timePast : Nat := 0x8C
def busy : Nat := 0x8D
def calibrating : Nat := 0x8E
def tooLarge : Nat := 0x8F
def aborted : Nat := 0x90
def noSession : Nat := 0x91
end St

/-! ### Kinds of written objects -/

/-- The rail of an index of 0x2000 to 0x26FF, and its table (0x20 to 0x26). -/
def railIndex (index : Nat) : Option (Nat × Nat) :=
  if 0x2000 ≤ index ∧ index ≤ 0x26FF ∧ index % 256 < 64 then some (index / 256, index % 256) else none

/-- Commands: objects whose write starts something and stores no value: the WO objects but KEY, and the OWN objects that read as a
constant. -/
def isCommand (key : Nat) : Bool :=
  match objRowOfKey key with
  | some r => (r.acc == .wo && key / 256 != 0x1202) || key == K.RESTORE_DEFAULTS || key == K.CLAIM_BREAK || key == K.STENCIL_RESET
      || key == K.INRUSH_SET || key == K.FEED_CLEAR 0 || key == K.FEED_CLEAR 1 || key == K.FAULT_ACK || key == K.LEDGER_CLEAR
      || key == K.UPD_CMD
  | none => false

/-! ### Check 11: safe states (R131, R255, Table 9.2, Table 6.6, R318) -/

/-- May an RWS object be written now? -/
def State.writeSafe (s : State) (key : Nat) : Bool :=
  let index := key / 256
  match railIndex index with
  | some t => (s.rail t.2).state == .off || (s.rail t.2).state == .absent
  | none =>
    if index < 0x2810 then s.seqSafe
    else if index = 0x3201 then s.cap.state == .idle || s.cap.state == .done
    else if index = 0x3800 then (s.feed 0).gateIsOff && (s.feed 1).gateIsOff
    else if index = 0x3810 ∨ index = 0x3811 then (s.feed (index - 0x3810)).gateIsOff
    else s.storeState == 1

/-- Is every rail off, with the sequencer at waystation 0 (R44)? -/
def State.allOff (s : State) : Bool :=
  s.seq.way == 0 && railNos.all (fun n => let x := (s.rail n).state; x == .off || x == .absent || x == .locked)

/-! ### Checks 11 and 12 of commands and bound objects

`s` is the state before the transaction; `w` holds the settings as the transaction leaves them, and the host loads that its earlier
members apply. -/

/-- On a rail: MRG_CMD, STIP_CMD and LOAD_CMD (R198, R199, R216, R231, R239, R243). -/
def State.railCommandStatus (s w : State) (key v n : Nat) : Nat :=
  let on := (s.rail n).state == .on
  if key = K.MRG_CMD n then
    if !on then St.unsafeState
    else if (s.stip n).state.busy then St.busy
    else
      let st := (s.margin n).state
      let waits := v != 0 && s.obj (K.MARGIN_METHOD n) != 0 && w.obj (K.MRG_WHEN n) == 1
        && (st == .nominal || st == .held || st == .pending)
      if waits && w.isPast (BitVec.ofNat 32 (w.obj (K.MRG_BEAT n))) (w.obj (K.MRG_OFFSET n)) then St.timePast else St.ok
  else if key = K.STIP_CMD n ∧ v = 1 then
    let st := (s.stip n).state
    if !on || !(st == .idle || st == .done || st == .aborted || st == .failed) then St.unsafeState
    else if w.isPast (w.stipBeat n) (w.obj (K.STIP_OFFSET n)) then St.timePast else St.ok
  else if key = K.LOAD_CMD n ∧ v = 1 then
    if !on then St.unsafeState else if (s.stip n).state.busy || !w.loadFits n then St.busy else St.ok
  else St.ok

/-- In the converter, scan, ring and capture (R164, R176, R180, R182, R189, Table 6.6). -/
def State.converterStatus (s w : State) (key : Nat) : Nat :=
  let index := key / 256
  let sub := key % 256
  let locked (b : Nat) : Bool := s.conv.bank == b || s.conv.pendingBank == some b
  if (index = 0x3010 ∨ key = K.LEN_A) ∧ locked 0 then St.busy
  else if (index = 0x3011 ∨ key = K.LEN_B) ∧ locked 1 then St.busy
  else if 0x3020 ≤ index ∧ index ≤ 0x3030 ∧ sub = 9 then
    (if (s.slice (index - 0x3020)).role = .failed then St.ok else St.unsafeState)
  else if 0x31B8 ≤ index ∧ index < 0x31C0 ∧ sub = 6 then St.range
  else if key = K.RING_REARM ∧ s.ringEtching then St.busy
  else if key = K.CAP_ARM then
    if s.cap.state ≠ .idle then St.busy
    else if s.conv.catchUp ≠ 0 then St.calibrating
    else if w.obj K.CAP_WHEN = 0 ∧ w.isPast (BitVec.ofNat 32 (w.obj K.CAP_BEAT)) (w.obj K.CAP_OFFSET) then St.timePast
    else St.ok
  else if key = K.CAP_RELEASE ∧ s.cap.state ≠ .done then St.unsafeState
  else St.ok

/-- Elsewhere. -/
def State.blockStatus (s w : State) (p key v : Nat) : Nat :=
  if key = K.RESTORE_DEFAULTS then
    let updating := s.upd.state == .applying || s.upd.state == .applied || s.upd.state == .scheduled || s.upd.state == .trial
    if s.allOff && !updating then St.ok else St.unsafeState
  else if key = K.CLAIM then (match s.holder v with | some q => if q = p then St.ok else St.busy | none => St.ok)
  else if key = K.WAY_REQUEST ∧ s.wayBusy then St.busy
  else if key = K.PROTECT_TOLLS ∧ 505 < v + s.energyGranted + s.gov.coolingSum then St.busy
  else if key = K.INRUSH_SET then
    (if s.convoy.state = .disabled ∧ s.obj K.INRUSH_ISSUED = 0 ∧ s.transit = 0 then St.ok else St.unsafeState)
  else if key = K.FEED_CLEAR 0 ∨ key = K.FEED_CLEAR 1 then
    let st := (s.feedTick (key / 256 - 0x3810)).was
    if st = .lockout ∨ st = .damaged then St.ok else St.unsafeState
  else if key = K.TEST_MODE ∧ v = 1 then (if s.seqSafe then St.ok else St.unsafeState)
  else if key = K.FAULT_ACK then (if s.coll.state = .latched then St.ok else St.unsafeState)
  else if key = K.ETCH_ABORT then
    (if s.store.etch.any (fun e => e.cause == 1 || e.cause == 2) then St.ok else St.unsafeState)
  else if key = K.LEDGER_CLEAR then
    if s.coll.state ≠ .clear then St.unsafeState
    else if s.ledger.suspended || s.ledger.reconciling then St.busy else St.ok
  else if key = K.UPD_CMD then (((w.updCmdRefused v).filter (fun c => c != St.constraint)).getD St.ok)
  else if key = K.UPD_BLOCK then (((w.updBlockRefused v).filter (fun c => c != St.constraint)).getD St.ok)
  else St.ok

/-- The object-specific status of an access that has passed checks 3 to 10. -/
def State.boundStatus (s w : State) (p key v : Nat) : Nat :=
  match railIndex (key / 256) with
  | some t => s.railCommandStatus w key v t.2
  | none =>
    let a := s.converterStatus w key
    if a = St.ok then s.blockStatus w p key v else a

/-- The object-specific status of a read that has passed checks 3 to 5 (check 12): conditions of the tables that refuse a write do not
apply. -/
def State.readRefusal (s : State) (key : Nat) : Nat :=
  if (key = K.RECORD_DATA ∨ key = K.FF_DATA) ∧ s.ledger.reconciling then St.busy else St.ok

/-! ### DP_WINDOW (R312, R325, R326) -/

/-- Longest DP_WINDOW access of a port (R325). -/
def windowLimit (p : Nat) : Nat := if p = 2 then 60 else 4096

/-- May the data port write n bytes from address a (Table 11.1, R383)? -/
def State.spanOpen (s : State) (a n : Nat) : Bool :=
  (spanPages a n).all (fun p => decide (2496 ≤ p) || (regionOf p == 4 && s.p4Open (max a (16384 * p))))

/-- Status of a DP_WINDOW access of n bytes from address a, of a length that R325 admits. -/
def State.windowStatus (s : State) (write : Bool) (a n : Nat) : Nat :=
  if 0x04000000 < a + n then St.range
  else if write && !s.spanOpen a n then St.range
  else if s.spanBusy a n then St.busy
  else St.ok

/-! ### One member (Table 2.4) -/

/-- The status of the first check, 3 to 12, that a member of the session x on port p fails. -/
def State.memberStatus (s w : State) (p : Nat) (x : Session) (m : Member) : Nat :=
  let key := m.key
  let a := w.own p K.DP_ADDR
  match objRow m.index m.sub with
  | none => St.noObject
  | some r =>
    if !s.admitted p x.level a m then St.stencil
    else if m.write && r.acc == .ro then St.readOnly
    else if !m.write && r.acc == .wo then St.writeOnly
    else if m.write && r.acc == .own && x.level != 2 then St.privilege
    else if m.write && s.claimedFrom p key then St.claimed
    else if m.window then
      if m.span = 0 ∨ windowLimit p < m.span then St.tooLarge else s.windowStatus m.write a m.span
    else if !m.write then s.readRefusal key
    else if m.data.length != r.ty.bytes then St.length
    else if !reservedOk key m.value then St.reservedField
    else if !r.rangeOk key m.value then St.range
    else if r.acc == .rws && !s.writeSafe key then St.unsafeState
    else s.boundStatus w p key m.value

/-! ### Cross-object conditions (R47), judged on the values as the transaction leaves them -/

/-- R132. -/
def State.railsOk (s : State) : Bool :=
  let pres := railNos.filter s.isPresent
  let pmb (n : Nat) : Nat × Nat × Nat := (s.obj (K.PMB_PORT n), s.obj (K.PMB_ADDR n), s.obj (K.PMB_PAGE n))
  pres.all (fun n =>
    let q := s.obj (K.PREREQ n)
    (q == 0xFF || (q != n && s.isPresent q && decide (s.obj (K.ON_WAY q) ≤ s.obj (K.ON_WAY n)) && !s.reaches 64 n q))
    && (s.obj (K.CONTROL n) == 1 || s.obj (K.PMB_ADDR n) != 0)
    && (s.obj (K.PMB_ADDR n) == 0 || pres.all (fun m => m == n || pmb m != pmb n)))
  && railNos.all (fun n => decide (s.obj (K.DISCH_CURRENT n) ≤ s.obj (K.DISCH_FULL n)))

/-- R255 for feed f. -/
def State.feedOk (s : State) (f : Nat) : Bool :=
  decide (s.codeFast f ≤ 1023) && decide (1 ≤ s.codeSlow f) && decide (s.codeSlow f < s.codeFast f)
  && decide (1 ≤ s.codeRev f) && decide (s.codeRev f ≤ 255) && decide (s.obj (K.FEED_UV f) < s.obj (K.FEED_OV f))
  && decide (s.obj (K.RAMP_DONE_VDS f) < s.obj (K.SOA_VDS f))

/-- R255. -/
def State.feedsOk (s : State) : Bool :=
  s.feedOk 0 && s.feedOk 1 && decide (s.obj K.HU_READY < s.obj K.HU_TARGET) && decide (s.obj K.COLLAPSE_V < s.obj K.BUS_GOOD)

/-- R194: LEN of a bank covers its highest entry that is not 0xFF. -/
def State.bankOk (s : State) (b : Nat) : Bool :=
  (List.range 768).all (fun i => decide (i < s.scanLen b) || s.scanEntry b i == 0xFF)

/-- R164: a bank that would become active holds no 0xFF below its length. -/
def State.bankFull (s : State) (b : Nat) : Bool := (s.scanEntries b).all (fun e => e != 0xFF)

/-- R180. -/
def State.captureOk (s : State) : Bool :=
  let chs := (List.range (s.obj K.CAP_K)).map (fun j => s.obj (K.CAP_CH j))
  decide (s.obj K.CAP_K ≤ s.obj K.CAP_G) && decide chs.Nodup

/-- The conditions that a write of v to an object brings into play. -/
def State.crossOk (s : State) (key v : Nat) : Bool :=
  let index := key / 256
  let sub := key % 256
  match railIndex index with
  | some t =>
    let n := t.2
    if t.1 = 0x20 ∨ t.1 = 0x22 then s.railsOk
    else if t.1 = 0x21 then s.thresholdsOk n
    else if key = K.MRG_CMD n then s.marginAllowed n
    else if t.1 = 0x25 then s.stipSettingsOk n && (key != K.STIP_CMD n || v != 1 || s.guardAllowed n)
    else true
  | none =>
    if index = 0x1201 then s.rulesOk
    else if index = 0x1400 then
      decide (2 * s.obj K.BEAT_PERIOD ≤ s.obj K.LOSS_TIMEOUT) && decide (s.obj K.SEG_ID < s.obj K.SEG_COUNT)
    else if index = 0x3000 then decide (170000 ≤ s.obj K.ROT_PERIOD)
    else if key = K.SCAN_SELECT then s.bankFull v
    else if index = 0x3010 ∨ index = 0x3011 ∨ index = 0x3001 then s.bankOk 0 && s.bankOk 1
    else if 0x3100 ≤ index ∧ index < 0x31C0 then s.obj (K.FORMAT (index - 0x3100)) == 0 || isDiff (index - 0x3100)
    else if index = 0x3201 then s.captureOk
    else if index = 0x2800 ∨ index = 0x3800 ∨ index = 0x3810 ∨ index = 0x3811 then s.feedsOk
    else if 0x5000 ≤ index ∧ index < 0x5100 then
      sub != 0x0B || (serviceClass (index - 0x5000) (s.obj (K.FORCE_KIND (index - 0x5000)))).isSome
    else if index = 0x7002 then decide (s.obj K.CONFIRM_SPAN < s.obj K.TRIAL_TIME)
    else if key = K.UPD_CMD then s.updCmdRefused v != some St.constraint
    else if key = K.UPD_BLOCK then s.updBlockRefused v != some St.constraint
    else true

end Sys2Proof.Machine
end

