-- ==== Sys2Proof/Machine/Startup.lean ====
section
/-! DEFINITION. Start-up, reset and loss of supply (R403 to R408, R432). -/

namespace Sys2Proof.Machine

/-! ### OFF (Table 15.2, Table 11.7) -/

/-- The shadow as a stop leaves it: the page in flight keeps its other copy, and has no complete COMMIT in the one that was being
written. -/
def Store.cut (t : Store) : FMap Copy :=
  match t.etch with
  | none => t.shadow
  | some e =>
    if e.phase = .starting then t.shadow
    else match e.todo with
      | [] => t.shadow
      | p :: _ =>
        let tgt := t.etchTarget p
        fset t.shadow (2 * p + tgt.1)
          { copySeq := tgt.2, etchSeq := e.seq, blockN := if e.block.contains p then e.blockN else 0,
            blockI := 0, hdrOk := Config.tornHeader p tgt.1, dataOk := false, stripes := [], commit := false,
            data := fget e.snap p ⟨[], []⟩ }

/-- OFF (R403, R404): working memory, sessions, captures, etches and the hand-off buffer are lost; the shadow, the image store, the
filter clock and the pins stay. Class P and C values that no etch has carried are lost, at RESET_N as well (R408, Table 15.2; Table 2.2 calls
them kept: log entry 85). `supplies` and `cause` are what the supplies are now and the cause that the next start latches. -/
def State.goOff (s : State) (supplies : Bool) (cause : Nat) : State :=
  { State.reset with
    pending := s.pending
    store := { Store.reset with shadow := s.store.cut }
    loader := s.loader
    upd := { Upd.reset with state := s.upd.state, running := s.upd.running }
    hosts := { Hosts.reset with draws := s.hosts.draws }
    convoy := { Convoy.reset with
      cscIn := s.convoy.cscIn, cscOut := s.convoy.cscOut || !supplies, dataLow := s.convoy.dataLow && supplies, holdIn := s.convoy.holdIn,
      dataIn := s.convoy.dataIn, relayEdge := s.convoy.relayEdge }
    supplies := supplies
    resetCause := cause
    filterClk := s.filterClk
    freezeLow := s.freezeLow }

/-- RESET_LOW (R404, R406): RESET_N goes low, or supplies fail. A device that runs from VHU stays up through a loss of supply. A start
counts as a RESET_N start when RESET_N was low while supplies were good. Without VIO the pin reads high (R432). -/
def State.resetLow (s : State) (powerLost : Bool) : State :=
  if powerLost then (if s.input.onVhu then s else s.goOff false 0)
  else if s.supplies then s.goOff (!s.input.onVhu) (if s.input.onVhu then 0 else 1)
  else s

/-- Does reserve keep the device up without VIO (R432, Table 15.2): it runs from VHU, or, from the end of start-up on, input is not good? -/
def State.vioReserve (s : State) : Bool := s.input.onVhu || (s.serving && !s.input.good)

/-- VIO_LOSS (R432): on reserve every EN and the convoy pins are released, and the VIO inputs read high; otherwise OFF, where the cause latch
stands (R406). The levels of EARLY_N, LATE_N and PFAIL_N then qualify as any high level does. A released EN bars a reversal (R121). -/
def State.vioLoss (s : State) : State :=
  if s.vioReserve then
    let drop (st : State) (n : Nat) : State := st.setRail n { st.rail n with en := false }
    let driven := railNos.filter (fun n => (s.rail n).en)
    let s1 := driven.foldl drop s
    ({ s1 with supplies := false, freezeLow := false,
               seq := { s1.seq with releasedAt := if driven.isEmpty then s1.seq.releasedAt else s1.fab.tick + 1 },
               convoy := { s1.convoy with cscIn := true, holdIn := true, dataIn := true } }).releasePins
  else s.goOff false (if s.phase = .off then s.resetCause else 0)

/-- HOLD_UP_EXHAUSTED (R274): on VHU the reservoir falls below 16 V. -/
def State.holdUpExhausted (s : State) : State := if s.input.onVhu then s.goOff false 0 else s

/-- VAUX_RETURN (R314): with VIO still lost the supplies are not good, and a device that is no longer on reserve goes to OFF (Table 15.2). -/
def State.vauxBack (s : State) : State :=
  if s.input.onVhu then
    if s.vauxReturn.vioGone && !s.vauxReturn.vioReserve then s.goOff false 0 else s.vauxReturn
  else s

/-! ### OFF to RECALL (Table 15.2) -/

/-- SUPPLIES_GOOD: supplies good and RESET_N high. POWER_ON latches the VIO class (R430), which no command gives. On reserve it is VIO that
returns; supplies may rise in any order (R429). -/
def State.suppliesGood (s : State) : State :=
  if s.phase = .off then { s with phase := .powerOn, supplies := true, vioClass := some (Config.vioClass33 s.filterClk), startClk := 0 }
  else { s with supplies := true }

/-- POWER_ON_END: relay forwarding starts (R407). -/
def State.powerOnEnd (s : State) : State := if s.phase = .powerOn then { s with phase := .clocks } else s

/-- CLOCKS_END: this tick is 0 and the edge of beat 0; the collector is released, recall and the start-up calibration start. The
loader has read the activation record, which names the area that recall loads the settings from. -/
def State.clocksEnd (s : State) : State :=
  if s.phase = .clocks then
    let s1 := { s with
      phase := .recall
      fab := { tick := 0, count := 0, edgeTick := 0, edges := [(0, 0)], kept := [] }
      coll := { s.coll with released := true }
      store := { s.store with recalling := true, opDue := 200000 }
      conv := { s.conv with calStart := 0 } }
    s1.loaderBoot
  else s

/-! ### Recall (R319 to R322) -/

/-- Class C values that count up (the collector's, the slices', the store's): what they counted before recall ended adds to what recall
found, since nothing is written while recall runs (R319). -/
def countsUp (key : Nat) : Bool :=
  let index := key / 256
  (decide (0x5000 ≤ index) && decide (index < 0x5100)) || index == 0x5103 || (decide (0x3020 ≤ index) && decide (index ≤ 0x3030))
  || index == 0x6004 || key == K.EPISODE || key == K.OVERFLOWS

/-- Bring in one class C value that was formed before recall ended. -/
def mergeCount (s : State) (kv : Nat × Nat) : State :=
  if kv.1 = H.cellLo K.HANDED ∨ kv.1 = H.cellHi K.HANDED then s
  else if countsUp kv.1 then s.setPers kv.1 (sat32 (s.obj kv.1 + kv.2))
  else s.setPers kv.1 kv.2

/-- Renumber a hand-off by the messages handed before (R334). -/
def Hand.shift (d : Nat) (h : Hand) : Hand := { h with order := h.order + d, partner := h.partner.map (fun p => p + d) }
def Recent.shift (d : Nat) (r : Recent) : Recent := { r with order := r.order + d }

/-- RECALL: store recall (R319 to R321), and the state that the blocks take up then: ring (R192), collector (R290), the inrush account
(R246), the ledger's window (R343). -/
def State.recallStore (s : State) : State :=
  if s.phase = .recall ∧ s.store.recalling then
    let early := s.objs.filter (fun kv => keyClass kv.1 == PClass.c)
    let handed := s.wide K.HANDED
    let s1 := ({ s with objs := s.objs.filter (fun kv => keyClass kv.1 != PClass.c) }).storeRecall
    let hr := s1.wide K.HANDED
    let s2 := (early.foldl mergeCount s1).wideAdd K.HANDED handed
    let s3 := { s2 with
      ledger := { s2.ledger with recalledHanded := hr, buffer := s2.ledger.buffer.map (Hand.shift hr) }
      coll := { s2.coll with recents := s2.coll.recents.map (Recent.shift hr) }
      store := { s2.store with scrubDue := s2.fab.tick + s2.scrubSpacing } }
    let s4 := (s3.setLive K.INRUSH_ISSUED 0).setLive K.INRUSH_FREE (s3.obj K.INRUSH_HELD - s3.transit)
    (s4.recallColl.noteWindow s.collWindow).recallRing
  else s

/-! ### RECALL to CORES, and the end of start-up (R170, R404, R405) -/

/-- Did recall raise kind 0x14: a LOST page in P0 or P1 (R319)? -/
def State.recallLost (s : State) : Bool := s.store.info.any (fun x => decide (x.1 < 192) && x.2.source == 3)

/-- RECALL ends with recall and the start-up calibration (Table 15.2): scanning starts with the default list, the cores boot. The first swap
falls due ROT_PERIOD / 17 after scanning starts (R173 counts from the previous swap; DESIGN CHOICE, log entry 94). -/
def State.phaseSettle (s : State) : State :=
  if s.phase = .recall ∧ s.store.recalling = false ∧ ((List.range 17).all fun i => (s.slice i).role != .calibrating) then
    let s1 := { s with
      phase := .cores
      conv := { s.conv with scanning := true, bank := 0, listPos := 0,
                            swapDue := s.fab.tick + usTicks (s.obj K.ROT_PERIOD / 17) } }
    s1.bootPower s1.recallLost
  else s

/-- The card at the end of start-up: SETUP, IDLE, or SHUTDOWN under a recalled LOCAL_HOLD (R124, R405, R445). -/
def State.startCard (s : State) : State :=
  let s1 := { s with seq := { s.seq with state := .idle } }
  if s1.objB K.LOCAL_HOLD then s1.localShutdown 5 s1.now else s1.enterSetup

/-- The convoy at the end of start-up (R91, R98, R405). -/
def State.startConvoy (s : State) : State :=
  let set := s.convoySettings
  { s with convoy := { s.convoy with
    set := set, state := if set.enable then .solo else .disabled, soloDue := s.fab.tick + 200000, soloSince := s.fab.tick } }

/-- A recalled frozen ring rearms under R192. -/
def State.startRing (s : State) : State :=
  if s.ring.state = .frozen ∧ s.obj K.REARM_MODE = 1 ∧ s.obj K.TRIG_SOURCE = 0xFD then s.rearmRing else s

/-- The scan at the end of start-up (R170): bank A from its first entry, and a new ring page. -/
def State.startScan (s : State) : State :=
  let s1 := { s with conv := { s.conv with bank := 0, listPos := 0, switch := none } }
  s1.closeRingPage

/-- The start-up objects (Table 15.11). -/
def State.countStart (s : State) : State :=
  let s1 := s.setLive K.STARTUP_TIME (min 1000000 (s.startClk / 200))
  if s.resetCause = 1 then s1.bump K.RESET_STARTS else s1

/-- END_OF_STARTUP (R405), up to the freeze that a low FREEZE_N starts. -/
def State.endOfStartup (s : State) : State :=
  if s.phase = .cores ∧ s.coresUp then
    let s0 := { s with
      phase := if s.objB K.CONVOY_ENABLE then .joining else .running
      coll := { s.coll with endOfStart := some s.fab.tick }
      power := .full
      gov := { s.gov with measureAt := some (s.fab.tick + 2000000), reserveAt := s.fab.tick + 200000 }
      dwellFrom := some s.fab.tick }
    let s1 := s0.startConvoy
    let s2 := railNos.foldl (fun st n => st.setPresent n (st.isPresent n)) s1
    let s3 := ((s2.startCard.startFeed 0).startFeed 1).startRing.startScan
    (s3.setProtect (s3.obj K.PROTECT_TOLLS)).rebuildUpdate.countStart
  else s

end Sys2Proof.Machine
end

