-- ==== Sys2Proof/Machine/Commit.lean ====
section
/-! DEFINITION. The commit of a transaction (R48, R51): values, hooks, commands, the data window, and reads with split pairs. -/

namespace Sys2Proof.Machine

/-! ### Values (R41, R43, R351, R389) -/

/-- Set the value of an object that a session on port p writes: the session's own copy, a class P value with its mirror, or another
value. -/
def State.writeValue (s : State) (p key v : Nat) : State :=
  if ownKey key then
    match (s.port p).session with
    | some x => s.setPort p { s.port p with session := some { x with own := fset x.own key v } }
    | none => s
  else if keyClass key = .p then (s.setPers key v).mirror key v
  else s.setLive key v

/-- The value alone, for the conditions judged on what a transaction leaves (R47). -/
def State.previewValue (s : State) (p key v : Nat) : State :=
  if ownKey key then s.writeValue p key v else s.setLive key v

/-! ### What a new value starts at once -/

/-- Blocks that act on a written value: by rail. -/
def State.railHook (s : State) (key v n : Nat) : State :=
  if key = K.RAIL_PRESENT n then s.setPresent n (v != 0)
  else if key = K.AVG_SAMPLES n then s.restartMeans n
  else if key / 256 = 0x2100 + n ∧ 0x0A ≤ key % 256 ∧ key % 256 ≤ 0x0E then s.filterWritten n (key % 256 - 0x0A)
  else s

/-- Blocks that act on a written value (R69, R98, R118, R138, R155, R168, R241, R256, R283). `old` is the state before the transaction. -/
def State.writeHook (s old : State) (p key v : Nat) : State :=
  let index := key / 256
  match railIndex index with
  | some t => s.railHook key v t.2
  | none =>
    if key = K.HALT_REQUEST then s.haltWritten.drive
    else if key = K.LOCAL_HOLD then (if v = 1 ∧ s.seq.causes.contains 5 = false then s.localShutdown 5 s.now else s)
    else if key = K.FEED_ENABLE 0 ∨ key = K.FEED_ENABLE 1 then s.enableFeed (index - 0x3810) (v != 0)
    else if 0x3100 ≤ index ∧ index < 0x31C0 ∧ key % 256 = 1 then
      let c := index - 0x3100
      ({ s with conv := { s.conv with formatAt := fset s.conv.formatAt c (2 * s.fab.tick + b2n (old.isSigned c)) } }).closeRingPage
    else if key = K.PROTECT_TOLLS then s.setProtect v
    else if key = K.BUS_GOOD then s.inputReview
    else if key = K.TEST_MODE then
      { s with coll := { s.coll with testOwner := if v = 1 then some p else none } }
    else s

/-! ### Commands (R51) -/

/-- SCAN_SELECT b (R164). -/
def State.scanSelect (s : State) (b : Nat) : State :=
  if s.conv.bank = b then
    { s with conv := { s.conv with switch := some { bank := b, commit := s.fab.tick, atZero := false, restart := none } } }
  else if s.conv.pendingBank = some b then s
  else
    let due (w : BankSwitch) : Option Nat := if w.atZero then w.restart else some w.commit
    { s with conv := { s.conv with switch := some { bank := b, commit := s.fab.tick, atZero := true, restart := s.conv.switch.bind due } } }

/-- CAP_ARM by the session on port p (Table 6.6). -/
def State.hostArm (s : State) (p : Nat) : State :=
  s.armCapture (.port p) (s.obj K.CAP_G) (s.obj K.CAP_K) ((List.range 4).map (fun j => s.obj (K.CAP_CH j))) (s.obj K.CAP_SAMPLES)
    (s.obj K.CAP_WHEN) (BitVec.ofNat 32 (s.obj K.CAP_BEAT)) (s.obj K.CAP_OFFSET)

/-- CAP_ABORT (Table 6.6). -/
def State.abortCapture (s : State) : State :=
  match s.cap.state with
  | .armed => s.withdrawCapture
  | .running => s.endCapture 10
  | .idle => s
  | .done => s

/-- The class P objects of 0x2000 to 0x7FFF that are not at their Default (R44). -/
def State.changedKeys (s : State) : List Nat :=
  (s.objs.filter (fun kv => isClassP kv.1 && decide (0x2000 ≤ kv.1 / 256) && decide (kv.1 / 256 ≤ 0x7FFF)
    && kv.2 != objDefault kv.1)).map Prod.fst

/-- Every class P object of 0x2000 to 0x7FFF at its Default (R44). -/
def State.defaultValues (s : State) : State := s.changedKeys.foldl (fun st k => st.setPers k (objDefault k)) s

/-- RESTORE_DEFAULTS (R44): the Defaults, and what the blocks do on each changed value. -/
def State.restoreDefaults (s : State) (p : Nat) : State :=
  s.changedKeys.foldl (fun st k => st.writeHook s p k (objDefault k)) s.defaultValues

/-- STENCIL_RESET: the default rules (Table 13.12). -/
def State.resetStencil (s : State) : State :=
  ruleNos.foldl (fun st r =>
    if st.rule r = ruleDefault r then st else (st.setPers (K.RULE (r - 1)) (ruleDefault r)).mirror (K.RULE (r - 1)) (ruleDefault r)) s

/-- A command on rail n. -/
def State.railCommand (s : State) (p key v n : Nat) : State :=
  if key = K.CLEAR_FLAGS n then s.setLive (K.RAIL_FLAGS n) 0
  else if key = K.CLEAR_LATCH n then s.setLive (K.COMP_LATCH n) 0
  else if key = K.MRG_CMD n then (if v = 0 then s.marginNominal n else s.marginMove n v)
  else if key = K.STIP_CMD n then (if v = 1 then s.stipSchedule n (s.stipBeat n) else s.stipCancel n)
  else if key = K.LOAD_CMD n then (if v = 1 then s.applyLoad n p else s.removeLoad n)
  else s

/-- A command of the converter, the scan, the ring or the capture. -/
def State.converterCommand (s : State) (p key v : Nat) : State :=
  let index := key / 256
  if key = K.SCAN_SELECT then s.scanSelect v
  else if 0x3020 ≤ index ∧ index ≤ 0x3030 then s.postCal (index - 0x3020)
  else if 0x3100 ≤ index ∧ index < 0x31C0 then s.urgent (index - 0x3100) 1000 false
  else if key = K.RING_REARM then (if s.ring.state = .frozen then s.rearmRing else s)
  else if key = K.RING_TRIGGER then s.ringTrigger 0xFE 0 s.now
  else if key = K.CAP_ARM then s.hostArm p
  else if key = K.CAP_ABORT then s.abortCapture
  else if key = K.CAP_RELEASE then s.releaseCapture
  else s

/-- Any other command. -/
def State.blockCommand (s : State) (p key v : Nat) : State :=
  if key = K.RESTORE_DEFAULTS then (s.restoreDefaults p).startAutoTimer
  else if key = K.CLAIM then s.claim p v
  else if key = K.RELEASE then s.release_ p v
  else if key = K.CLAIM_BREAK then s.dropClaim v
  else if key = K.STENCIL_RESET then s.resetStencil.startAutoTimer
  else if key = K.WAY_REQUEST then s.wayRequest v
  else if key = K.INRUSH_SET then (s.setInrush v).startAutoTimer
  else if key = K.FEED_CLEAR 0 ∨ key = K.FEED_CLEAR 1 then (s.clearFeed (key / 256 - 0x3810)).startAutoTimer
  else if 0x5000 ≤ key / 256 ∧ key / 256 < 0x5100 then s.forceMsg (key / 256 - 0x5000)
  else if key = K.FAULT_ACK then s.faultAck.startAutoTimer
  else if key = K.ETCH_CMD then s.postEtch 1 (s.obj K.ETCH_MASK) []
  else if key = K.ETCH_ABORT then s.abortEtch
  else if key = K.LEDGER_CLEAR then (s.ledgerClear v p).startAutoTimer
  else if key = K.UPD_CMD then s.updCmd v
  else if key = K.UPD_BLOCK then s.updBlock v
  else s

/-- Issue a command that has passed its checks. One that an earlier command of the same transaction has made inadmissible has no effect
(DESIGN CHOICE). -/
def State.command (s : State) (p key v : Nat) : State :=
  if s.boundStatus s p key v != St.ok then s
  else match railIndex (key / 256) with
    | some t => s.railCommand p key v t.2
    | none => if 0x3000 ≤ key / 256 ∧ key / 256 < 0x3800 then s.converterCommand p key v else s.blockCommand p key v

/-! ### The commit (R48) -/

/-- Is a member a command that is issued after the other writes: a WO command (R48), or CLAIM_BREAK, one of the claim commands (R368)? -/
def Member.isLate (m : Member) : Bool :=
  match objRow m.index m.sub with
  | some r => r.acc == .wo || m.key == K.CLAIM_BREAK
  | none => false

/-- The writes of the data window (R325, R326). -/
def State.windowWrite (s : State) (p : Nat) (m : Member) : State :=
  let a := s.own p K.DP_ADDR
  (s.portWrite a m.data).writeValue p K.DP_ADDR (dpNext a m.data.length)

/-- The writes of a transaction: values, then what they start and the OWN commands, then the data window (R325), and last the commands of
R48 in the order listed. -/
def State.commitWrites (s : State) (p : Nat) (ms : List Member) : State :=
  let ws := ms.filter Member.write
  let plain := ws.filter (fun m => !isCommand m.key && !m.window)
  let cmds := ws.filter (fun m => isCommand m.key)
  let s1 := plain.foldl (fun st m => st.writeValue p m.key m.value) s
  let s2 := plain.foldl (fun st m => st.writeHook s p m.key m.value) s1
  let s3 := if plain.any (fun m => m.index == 0x1400 && decide (m.sub ≤ 6)) then s2.convoyWritten.drive else s2
  let s4 := if plain.any (fun m => keyClass m.key == .p) then s3.startAutoTimer else s3
  let issue := fun (st : State) (m : Member) => st.command p m.key m.value
  let s5 := (cmds.filter (fun m => !m.isLate)).foldl issue s4
  let s6 := (ws.filter Member.window).foldl (fun st m => st.windowWrite p m) s5
  ((cmds.filter Member.isLate).foldl issue s6).noteWindow s.collWindow

/-! ### Reads (R48, R53 to R57, R325) -/

/-- The key that names the split pair of an object (R53), and whether the object is its high half. -/
def splitOf (key : Nat) : Option (Nat × Bool) :=
  let index := key / 256
  let sub := key % 256
  if 0x2400 ≤ index ∧ index < 0x2440 ∧ (sub = 0x0A ∨ sub = 0x0B) then some (objKey index 0x0A, sub == 0x0B)
  else if index = 0x5104 ∧ (sub = 1 ∨ sub = 2) then some (objKey index 1, sub == 2)
  else if index = 0x6004 ∧ (sub = 1 ∨ sub = 2) then some (objKey index 1, sub == 2)
  else none

/-- Replace the latches of the session on port p. -/
def State.setLatches (s : State) (p : Nat) (ls : List Latch) : State :=
  match (s.port p).session with
  | some x => s.setPort p { s.port p with session := some { x with latches := ls } }
  | none => s

/-- The latches of the session on port p. -/
def State.latches (s : State) (p : Nat) : List Latch := ((s.port p).session.map Session.latches).getD []

/-- A latch added behind the others, in place of the pair's own or, at eight, of the oldest (R57). -/
def addLatch (ls : List Latch) (l : Latch) : List Latch :=
  let rest := ls.filter (fun x => x.key != l.key)
  (if 8 ≤ rest.length then rest.drop 1 else rest) ++ [l]

/-- Read a half of the split pair named by `pair` (R55, R56). -/
def State.readHalf (s : State) (p key pair : Nat) (high : Bool) : State × Answer :=
  let tag := s.obj (H.tag pair)
  let live := leBytes 4 (s.readObj p key)
  if !high then
    (s.setLatches p (addLatch (s.latches p) { key := pair, hi := s.readObj p (pair + 1), tag := tag }), ⟨St.ok, tag, live⟩)
  else match (s.latches p).find? (fun l => l.key == pair) with
    | some l => (s.setLatches p ((s.latches p).filter (fun x => x.key != pair)), ⟨St.ok, l.tag, leBytes 4 l.hi⟩)
    | none => (s, ⟨St.okUnpaired, tag, live⟩)

/-- The answer of a member of an accepted transaction. -/
def State.answerMember (s : State) (p : Nat) (m : Member) : State × Answer :=
  if m.write then (s, ⟨St.ok, 0, []⟩)
  else if m.window then
    let a := s.own p K.DP_ADDR
    ((s.readBadGroups a m.len).writeValue p K.DP_ADDR (dpNext a m.len), ⟨St.ok, 0, s.portRead a m.len⟩)
  else match splitOf m.key with
    | some t => s.readHalf p m.key t.1 t.2
    | none => (s, ⟨St.ok, 0, leBytes (((objRow m.index m.sub).map (fun r => r.ty.bytes)).getD 0) (s.readObj p m.key)⟩)

/-- The answers of all members, in order. -/
def State.answerAll (s : State) (p : Nat) (ms : List Member) : State × List Answer :=
  match ms with
  | [] => (s, [])
  | m :: r =>
    let a := s.answerMember p m
    let b := a.1.answerAll p r
    (b.1, a.2 :: b.2)

end Sys2Proof.Machine
end

