-- ==== Sys2Proof/Machine/Freeze.lean ====
section
/-! DEFINITION. Freeze and the proof (R413 to R420). -/

namespace Sys2Proof.Machine

/-! ### PORT_STATUS (Table 13.7) -/

/-- PORT_STATUS of a port. -/
def PortState.status (x : PortState) : Nat :=
  128 * b2n x.ready + 64 * b2n x.request.isSome + 32 * b2n x.session.isSome + 16 * b2n x.frameErr + 8 * b2n x.lockedUntil.isSome

/-! ### The proof image (R420) -/

/-- A byte string cut or filled with 0x00 to n bytes. -/
def padTo (n : Nat) (bs : List Byte) : List Byte := bs.take n ++ List.replicate (n - bs.length) 0#8

/-- An object's value at its type length (Table 2.1). -/
def State.objBytes (s : State) (key : Nat) : List Byte :=
  match objRowOfKey key with
  | some r => leBytes r.ty.bytes (s.readObj 3 key)
  | none => []

/-- The objects at subindices lo to hi of an index. -/
def State.objRange (s : State) (index lo hi : Nat) : List Byte :=
  (List.range (hi + 1 - lo)).flatMap (fun i => s.objBytes (objKey index (lo + i)))

/-- A section: header, data, CRC-32C of both. -/
def proofSection (id len : Nat) (data : List Byte) : List Byte :=
  let body := packLE [(2, id), (2, 0), (4, len)] ++ padTo len data
  body ++ leBytes 4 (crc32c body).toNat

/-- Section FABRIC. -/
def State.proofFabric (s : State) : List Byte :=
  packLE [(8, s.fab.tick), (4, s.fab.count.toNat), (4, s.offset)]
  ++ (s.fab.edges.take 1024).flatMap (fun e : Count × Int => leBytes 8 (e.2 % 2 ^ 64).toNat)

/-- The tick to which the time of a scheduled operation on a lane resolved (R13, R15). An operation that no time schedules has none. -/
def State.resolvedTick (s : State) (o : LaneOp) : Option Nat :=
  match o.kind with
  | .margin => s.resolve (s.margin o.target).beat (s.margin o.target).offset
  | .stipple => some (s.stip o.target).schedTick
  | .capture => s.cap.startTick.or (s.cap.startBeat.bind (fun p => s.resolve p.1 p.2))
  | .ramp => (s.rail o.target).slot
  | .discharge | .etch | .pmbus | .cal | .scrub => none

/-- One lane of section LANES. -/
def State.proofLane (s : State) (lane : Nat) : List Byte :=
  match (if lane < 64 then flook s.lanes.rail lane else flook s.lanes.shared lane) with
  | none => List.replicate 32 0#8
  | some o =>
    packLE [(4, o.status), (2, min 65535 o.denials), (2, Config.proofField 0 lane s.fab.tick), (8, o.posted),
      (8, (s.resolvedTick o).getD (Config.proofField 1 lane s.fab.tick)), (4, sat32 ((s.fab.tick - o.posted) / 200)), (4, 0)]

/-- A filter's count in 10 ns (Table 15.10): the run that is being counted, F where it is complete, 0 inside. -/
def State.filterCount (s : State) (n c : Nat) : Nat :=
  let f := (s.rail n).filter c
  match f.phase with
  | .inside => 0
  | .counting => (s.filterClk - f.onsetClk) / 2
  | .qualified => s.obj (filterKey n c)
  | .clearing => (s.filterClk - f.clearClk) / 2

/-- What is left of the timeout that runs on rail n, in µs. -/
def State.timeoutLeft (s : State) (n : Nat) : Nat :=
  let r := s.rail n
  let left (us : Nat) : Nat := cdiv (r.timer + usTicks us - s.fab.tick) 200
  match r.state with
  | .waiting => left (s.obj (K.PREREQ_WAIT n))
  | .ramping => left (s.obj (K.RAMP_TIMEOUT n))
  | .discharging => left (s.obj (K.DISCH_TIMEOUT n))
  | .forced => left (s.obj (K.DISCH_TIMEOUT n))
  | .absent => 0
  | .off => 0
  | .armed => 0
  | .on => 0
  | .stopping => 0
  | .locked => 0

/-- A rail entry (Table 15.10). -/
def State.proofRail (s : State) (n : Nat) : List Byte :=
  packLE [(1, (s.rail n).state.code), (1, (s.margin n).state.code), (1, (s.stip n).state.code), (1, (s.sink n).use.code),
    (2, s.obj (K.RAIL_FLAGS n)), (1, s.compRaw n), (1, s.compQual n)]
  ++ (List.range 5).flatMap (fun c => leBytes 2 (min 65535 (s.filterCount n c)))
  ++ packLE [(2, rawOf 16 (s.margin n).code), (4, (s.sink n).cmd), (4, s.sinkCeil n), (2, s.sinkGrant n), (2, 0),
    (4, s.obj (K.V_NOW n)), (4, s.obj (K.I_NOW n)), (8, (s.rail n).slot.getD 0), (4, s.timeoutLeft n), (12, 0)]

/-- Section CONVERTER. -/
def State.proofConverter (s : State) : List Byte :=
  s.objRange 0x3000 4 10 ++ s.objRange 0x3001 1 1 ++ s.objRange 0x3001 3 7
  ++ (List.range 17).flatMap (fun i => s.objRange (0x3020 + i) 1 8)
  ++ (List.range 192).flatMap (fun c => s.objRange (0x3100 + c) 7 8)
  ++ s.objRange 0x3200 1 1 ++ s.objRange 0x3200 6 14 ++ s.objRange 0x3202 1 8 ++ s.objRange 0x3300 1 8

/-- Section GOVERNOR. -/
def State.proofGovernor (s : State) : List Byte :=
  s.objRange 0x4000 1 11 ++ s.objRange 0x4001 1 9 ++ s.objRange 0x4002 1 9
  ++ (List.range 64).flatMap (fun n => s.objRange (0x2600 + n) 5 10)

/-- The collector's queue in release order (R281). -/
def Coll.ordered (c : Coll) : List QMsg :=
  c.queue.foldl (fun l q => l.filter (fun x => !q.before x) ++ [q] ++ l.filter (fun x => q.before x)) []

/-- Section COLLECTOR. -/
def State.proofCollector (s : State) : List Byte :=
  s.objRange 0x5101 1 9 ++ s.objRange 0x5102 1 9 ++ s.objRange 0x5103 1 9 ++ s.objRange 0x6800 9 10
  ++ s.coll.ordered.flatMap (fun q =>
    packLE [(8, msgWord q.msg q.acted q.cls q.phase), (4, q.msg.stamp.beat.toNat), (4, q.msg.stamp.offset), (8, q.arrived)])

/-- Section HANDOFF. -/
def State.proofHandoff (s : State) : List Byte :=
  s.ledger.buffer.flatMap (fun h =>
    packLE [(8, h.word), (4, h.stamp.beat.toNat), (4, h.stamp.offset), (8, h.stamp.tick),
      (1, b2n h.folded + 2 * b2n h.partner.isSome + 4 * b2n h.opening), (3, 0),
      (4, h.partner.getD (Config.proofField 2 h.order s.fab.tick))])

/-- Section PORTS. -/
def State.proofPorts (s : State) : List Byte :=
  (List.range 3).flatMap (fun p =>
    leBytes 1 (s.port p).status ++ s.objRange (0x1101 + p) 1 4
    ++ leBytes 2 (((s.port p).session.map Session.lastSeq).getD 0))

/-- The proof header (Table 15.8). -/
def State.proofHeader (s : State) : List Byte :=
  let body := packLE [(4, 0x46504259), (2, 1), (2, 12), (4, 171748), (4, s.fab.count.toNat), (4, s.offset), (8, s.fab.tick),
    (4, s.fwRunning)] ++ serialBytes ++ packLE [(4, (s.obj K.FREEZE_COUNT + 1) % 2 ^ 32), (12, 0)]
  body ++ leBytes 4 (crc32c body).toNat

/-- Section CORES: two dumps of 204 bytes, each filled to 256. -/
def State.proofCores (s : State) : List Byte :=
  (List.range 512).map (fun i => if i % 256 < 204 then Config.coreByte i s.fab.tick else 0#8)

/-- The proof (R418, R420). -/
def State.proofImage (s : State) : List Byte :=
  let body := s.proofHeader
    ++ proofSection 0x0001 8208 s.proofFabric
    ++ proofSection 0x0002 4096 ((List.range 128).flatMap s.proofLane)
    ++ proofSection 0x0003 4096 ((List.range 64).flatMap s.proofRail)
    ++ proofSection 0x0004 4096 s.proofConverter
    ++ proofSection 0x0005 2048 s.proofGovernor
    ++ proofSection 0x0006 256 (s.objRange 0x3801 1 7 ++ s.objRange 0x3820 1 14 ++ s.objRange 0x3821 1 14)
    ++ proofSection 0x0007 256 (s.objRange 0x1401 1 10 ++ s.objRange 0x1402 1 9 ++ s.objRange 0x1404 1 4)
    ++ proofSection 0x0008 16384 s.proofCollector
    ++ proofSection 0x0009 131072 s.proofHandoff
    ++ proofSection 0x000A 256 (s.objRange 0x6000 1 10)
    ++ proofSection 0x000B 256 s.proofPorts
    ++ proofSection 0x000C 512 s.proofCores
  body ++ leBytes 4 (crc32c body).toNat

/-! ### Freezing (R413 to R416) -/

/-- The functional clocks stop: this is the last clocked tick. The power die removes stipple and host loads (Table 8.3). A halt hold of
HALT_REQUEST stands under HOLD; under ABSENT the pin engine never drives CVY_HOLD (R69, R416). -/
def State.stopClocks (s : State) : State :=
  let frz : Freeze := {
    beat := s.fab.count, offset := s.offset, beats := 0, edges := [], edgeClk := (s.filterClk - (s.fab.tick - s.fab.edgeTick)).toNat,
    hold := false, proof := s.proofImage, status := (s.port 0).status }
  let s1 := (s.setLive K.PROOF_READS 0).freezeSinks
  ({ s1 with frozen := some s.filterClk, frz := frz, convoy := { s1.convoy with
    held := false, objecting := false, halting := s1.convoy.halting && s1.obj K.FREEZE_CONVOY == 0 } }).drive

/-- Freeze where FREEZE_N is low and FREEZE_ENABLE set, from the end of start-up on (R413). -/
def State.freezeIfLow (s : State) : State :=
  if s.freezeLow ∧ s.serving ∧ s.frozen.isNone ∧ s.objB K.FREEZE_ENABLE then s.stopClocks else s

/-- FREEZE: FREEZE_N goes low. -/
def State.freeze (s : State) : State := ({ s with freezeLow := true }).freezeIfLow

/-- FROZEN_BEAT_EDGE (R416): the unit is absent for the beat. Counted by a unit that listens on CVY_DATA; one in DISABLED does not, and one outside a convoy never drives
CVY_HOLD (R91). -/
def State.frozenBeatEdge (s : State) : State :=
  if s.frozen.isSome ∧ s.convoy.state ≠ .disabled ∧ s.frz.edgeClk + 72000 ≤ s.filterClk then
    ({ s with
      frz := { s.frz with
        beats := s.frz.beats + 1, edges := s.filterClk :: s.frz.edges, edgeClk := s.filterClk,
        hold := s.frz.hold || (s.convoy.state.inConvoy && s.obj K.FREEZE_CONVOY == 0) },
      convoy := { s.convoy with present := false } }).drive
  else s

/-! ### The first clocked tick (R415, R417) -/

/-- Step 1: count, offset and history. -/
def State.thawFabric (s : State) : State :=
  let n := s.fab.count + BitVec.ofNat 32 s.frz.beats
  let back (c : Nat) : Int := s.fab.tick - (s.filterClk - c)
  let seen := (s.frz.edges.zipIdx).map (fun e : Nat × Nat => (n - BitVec.ofNat 32 e.2, back e.1))
  let s1 := s.keepEdges seen
  { s1 with fab := { s1.fab with count := n, edgeTick := back s.frz.edgeClk } }

/-- Step 2: CVY_HOLD, readiness, and the return of a leader to SOLO (Table 3.8). -/
def State.thawConvoy (s : State) : State :=
  let c := s.convoy
  let s1 := { s with
    frz := { s.frz with hold := false },
    convoy := { c with
      matched := false, frameThisBeat := false, held := false, readyFrame := false,
      halting := c.halting && s.objB K.HALT_REQUEST, lowAt := s.fab.tick,
      edgeFrom := c.edgeFrom.map (fun _ => s.fab.edgeTick), lastEdge := if s.frz.beats = 0 then c.lastEdge else s.fab.edgeTick } }
  if c.state = .leader then s1.leaveConvoy .solo (max (s1.fab.edgeTick + 200000) s1.fab.tick).toNat else s1

/-- A program that ran in the die has completed under freeze; its COMMIT is written on the first clocked tick (Table 11.6). -/
def State.thawEtch (s : State) : State :=
  match s.store.etch with
  | some e =>
    if e.phase = .starting then s else { s with store := { s.store with etch := some { e with due := min e.due s.fab.tick } } }
  | none => s

/-- Step 3: what the blocks record: feeds (R275), sinks (Table 8.3), stipple runs (Table 7.4), the capture and the PMBus transfers
(R415), whether input is good (R272), and the messages, candidates, triggers and requests of the freeze (R297). -/
def State.thawBlocks (s : State) : State :=
  let s1 := (((s.thawFeed 0).thawFeed 1).inputReview.thawSinks).thawEtch
  let s2 := railNos.foldl (fun st n => st.stipAbort n 8) s1
  let s3 := if s2.cap.state = .running then s2.endCapture 2 else s2
  let s4 := (s3.pmb.running.map Prod.fst).foldl (fun st p => st.pmbDone p false 0) s3
  let s5 := s4.coll.held.foldl (fun st m => st.raiseAt m.1 m.2.1 m.2.2 st.now) s4
  let s6 := { s5 with
    coll := { s5.coll with held := [] }, ring := { s5.ring with held := [] },
    railWins := s5.railWins.map (fun w => { w with
      cands := w.cands.map (fun k => if k.held then { k with stamp := s5.now, held := false } else k) }) }
  s5.ring.held.foldl State.sendQual s6

/-- Scheduled operations whose resolved tick has gone by (R417). -/
def State.passedSchedules (s : State) : Nat :=
  let gone (b : Count) (k : Nat) : Bool :=
    match s.resolve b k with
    | some t => decide (t < s.fab.tick)
    | none => countEarlier b s.fab.count
  (s.margins.filter (fun p => p.2.state == .pending && gone p.2.beat p.2.offset)).length
  + (s.stips.filter (fun p => p.2.state == .scheduled && gone p.2.beat p.2.offset)).length
  + b2n (s.cap.state == .armed && s.cap.startBeat.any (fun p => gone p.1 p.2))
  + b2n (s.upd.act.any (fun p => gone p.1 p.2))

/-- Late starts of n operations (R16). -/
def State.lateStarts (n : Nat) (s : State) : State :=
  match n with
  | 0 => s
  | k + 1 => State.lateStarts k s.lateStart

/-- Steps 5 and 6: the power-fail etch, and what the freeze leaves in the objects. -/
def State.thawRecord (s : State) (since : Nat) : State :=
  let us := (s.filterClk - since) / 200
  let s1 := if s.input.freezeReserve then ({ s with input := { s.input with freezeReserve := false } }).powerFail else s
  let s2 := ((s1.setPers K.LAST_FREEZE_BEAT s.frz.beat.toNat).setPers K.LAST_FREEZE_OFFSET s.frz.offset).setPers K.LAST_FREEZE_TIME (sat32 us)
  ((s2.setPers K.LAST_FROZEN_BEATS (sat32 s.frz.beats)).wideAdd K.FROZEN_TIME us).bump K.FREEZE_COUNT

/-- FIRST_CLOCKED_TICK: FREEZE_N has been high for 1 µs. Rails that moved on the last clocked tick do what they still have to do (R105). -/
def State.firstClockedTick (s : State) : State :=
  let s0 := { s with freezeLow := false }
  match s.frozen with
  | none => s0
  | some since =>
    let s1 := s0.thawFabric.thawConvoy
    let s2 := (({ s1 with frozen := none }).drive).thawBlocks.railsNext
    ((State.lateStarts s2.passedSchedules s2).thawRecord since).postDeferred

end Sys2Proof.Machine
end

