-- ==== Sys2Proof/Machine/Tick.lean ====
section
/-! DEFINITION. What follows every command on its tick, and what the blocks do on a tick of their own accord. -/

namespace Sys2Proof.Machine

/-! ### When the fabric runs -/

/-- Do the functional clocks run (Table 15.2, Table 15.6): from the end of CLOCKS on, and not under freeze? -/
def State.clocked (s : State) : Bool := s.frozen.isNone && (s.phase == .recall || s.phase == .cores || s.serving)

/-- Latches are cleared while the cores are held: NOT_READY has begun (R57). -/
def State.heldLatches (s : State) : State := if s.cores.hold.isSome then s.clearLatches else s

/-- The YB6400 has left reserve: a chain of follow-on etches may start again (R315). -/
def State.leftReserve (s : State) : State :=
  if s.store.chainEnded && !s.onReserve then { s with store := { s.store with chainEnded := false } } else s

/-- The governor follows the tick: the reserve (R241), and the rails that leave standby (R237). -/
def State.governed (s : State) : State := s.reserveReview.reviewStandby

/-- What follows on a tick at once: phases end, rails and card come to rest, the update and the trial proceed, a changed choice of power
state takes effect. -/
def State.rest (s : State) : State := s.phaseSettle.joined.settle.applySettle.healthSettle.powerReview.heldLatches.leftReserve.governed

/-- What follows a command on its tick: phases end, rails and card come to rest, the update and the trial proceed, a changed choice of
power state takes effect, and a low FREEZE_N freezes. -/
def State.after (s : State) : State :=
  if s.frozen.isSome then s.settle
  else if s.clocked then s.rest.freezeIfLow
  else s

/-! ### The blocks on a tick -/

/-- CAPTURE_START; a stipple run's t0 is its capture's (R210). -/
def State.captureStart (s : State) : State :=
  let s1 := s.startCapture
  if s1.cap.state = .running ∧ s.cap.state ≠ .running then
    match s1.cap.owner with
    | .stipple n => s1.stipT0 n
    | .none => s1
    | .port _ => s1
    | .trigger => s1
  else s1

/-- The slot of this tick starts, after a capture that is due on it (R177); on VHU the slices stop once the ring is frozen (R314). -/
def State.slotTick (s : State) : State :=
  if s.input.onVhu && s.ring.state == .frozen then s.dropUrgents s.fab.tick else s.captureStart.startSlot

/-- What the blocks do on this tick of their own accord. -/
def State.ownWork (s : State) : State := s.slotTick.postScrub.dueTurnOns.tickFeeds.tickSinks

/-- The blocks' own work of this tick, once a tick. -/
def State.tickBlocks (s : State) : State := if s.ticked then s else ({ s.ownWork with ticked := true }).after

/-- What hardware changes on the commit tick stands before the reads of a transaction (R52): the consequences of its writes, and the blocks'
own work of this tick. A freeze waits until the transaction has ended. -/
def State.hardware (s : State) : State :=
  if s.clocked = false then s else if s.ticked then s.rest else ({ s.rest.ownWork with ticked := true }).rest

end Sys2Proof.Machine
end

