-- ==== Sys2Proof/Machine/Server.lean ====
section
/-! DEFINITION. The object server: request bodies (Tables 13.2, 13.3), the checks of R355, transactions (R47, R49, R50), and the rows
of the opcode table that are one-member transactions. -/

namespace Sys2Proof.Machine

/-! ### Request bodies (R352, R354) -/

/-- A request body that is well formed. -/
inductive Body where
  | transaction (seq : Nat) (ms : List Member)
  | opening (seq level : Nat) (nh : List Byte)
  | proof (seq : Nat) (proof : List Byte)
  deriving DecidableEq, Repr

/-- Members that fill a byte string exactly; none otherwise. -/
def parseMembers (fuel : Nat) (bs : List Byte) : Option (List Member) :=
  match fuel, bs with
  | _, [] => some []
  | 0, _ => none
  | f + 1, bs =>
    if bs.length < 6 then none
    else
      let op := leAt bs 0 1
      let sub := leAt bs 1 1
      let index := leAt bs 2 2
      let len := leAt bs 4 2
      let rest := bs.drop 6
      if op = 1 then (parseMembers f rest).map (fun ms => { write := false, index := index, sub := sub, len := len, data := [] } :: ms)
      else if op = 2 ∧ len ≤ rest.length then
        (parseMembers f (rest.drop len)).map (fun ms =>
          { write := true, index := index, sub := sub, len := len, data := rest.take len } :: ms)
      else none

/-- Longest body of a port: R357 for SPI, 32 segments of 60 bytes for H2 (R359). -/
def bodyLimit (p : Nat) : Nat := if p = 2 then 1920 else 5376

/-- SEQ of a body; 0xFFFF where it cannot be read (R375). -/
def seqOf (bs : List Byte) : Nat := if bs.length < 4 then 0xFFFF else leAt bs 2 2

/-- A body's form (R352); none is MALFORMED. -/
def parseBody (p : Nat) (bs : List Byte) : Option Body :=
  let seq := seqOf bs
  if bs.length < 4 ∨ bodyLimit p < bs.length ∨ leAt bs 1 1 ≠ 0 then none
  else if leAt bs 0 1 = 1 then
    if bs.length < 14 ∨ leAt bs 5 1 ≠ 0 then none
    else match parseMembers 1024 ((bs.take (bs.length - 8)).drop 6) with
      | some ms => if ms.length = leAt bs 4 1 then some (.transaction seq ms) else none
      | none => none
  else if leAt bs 0 1 = 2 then
    if bs.length = 22 ∧ leAt bs 5 1 = 0 then some (.opening seq (leAt bs 4 1) (slice bs 6 16)) else none
  else if leAt bs 0 1 = 3 then (if bs.length = 36 then some (.proof seq (slice bs 4 32)) else none)
  else none

/-- Does the MAC at the end of a TRANSACTION body verify under a key (R363)? -/
def macOk (key bs : List Byte) : Bool := macOf (some key) 0#8 (bs.take (bs.length - 8)) == bs.drop (bs.length - 8)

/-! ### Arrival (R50, R365) -/

/-- Does a port receive (Table 15.1, R372, R405): the SPI ports from the end of CLOCKS, H2 from the end of RECALL, and only with VIO
(R432)? -/
def State.receives (s : State) (p : Nat) : Bool :=
  s.supplies && s.frozen.isNone && (s.serving || s.phase == .cores || (p != 2 && s.phase == .recall))

/-- The session on a port, if its lease is current on a tick (R365). -/
def State.current (s : State) (p t : Nat) : Option Session := (s.port p).session.filter (fun x => decide (t < s.lapseTick x))

/-- Renew the lease of the session on port p on this tick. -/
def State.renew (s : State) (p : Nat) : State :=
  match (s.port p).session with
  | some x => s.setPort p { s.port p with session := some { x with renewed := s.fab.tick } }
  | none => s

/-- Is a SEQ the last or the next of a session (R364)? -/
def Session.takes (x : Session) (seq : Nat) : Bool := seq == x.lastSeq || seq == (x.lastSeq + 1) % 65536

/-- A request body finishes arriving on port p, and its port is not busy: it waits for its checks. One whose session, MAC and SEQ checks
pass renews the lease now (R365). -/
def State.accept (s : State) (p : Nat) (bs : List Byte) : State :=
  let s1 := s.setPort p { s.port p with request := some { body := bs, arrived := s.fab.tick }, ready := false, frameErr := false }
  match parseBody p bs, s.current p s.fab.tick with
  | some (.transaction seq _), some x => if macOk x.key bs && x.takes seq then s1.renew p else s1
  | _, _ => s1

/-- A frame or a body is discarded before its checks (R357, R359): FRAME_ERR, kind 0x04. -/
def State.discard (s : State) (p seq : Nat) : State :=
  (s.setPort p { s.port p with frameErr := true }).frameError p 0 seq

/-! ### A transaction (R46, R47, R49) -/

/-- Data bytes that a member counts (R49): none for DP_WINDOW. -/
def Member.counted (m : Member) : Nat :=
  if m.window then 0
  else if m.write then m.data.length
  else ((objRow m.index m.sub).map (fun r => r.ty.bytes)).getD 0

/-- Does a transaction break R49? -/
def tooLarge (ms : List Member) : Bool :=
  decide (32 < ms.length) || decide (1024 < (ms.map Member.counted).foldl (fun a b => a + b) 0)
  || decide (1 < (ms.filter Member.window).length)

/-- The values w that a transaction on the state s would leave, with the accounts after a change of PROTECT_TOLLS, which the governor applies before
it serves a host load (R239). -/
def State.foreseen (w s : State) : State :=
  if w.obj K.PROTECT_TOLLS = s.obj K.PROTECT_TOLLS then w else w.setProtect (w.obj K.PROTECT_TOLLS)

/-- The values that a member would leave on w: of an object that it writes, or of every object that a RESTORE_DEFAULTS or a STENCIL_RESET
sets back, when `resets` asks for these two. -/
def State.previewMember (w : State) (resets : Bool) (p : Nat) (m : Member) : State :=
  match objRow m.index m.sub with
  | some r =>
    if !m.write || m.window || m.data.length != r.ty.bytes then w
    else if resets then
      if m.key = K.RESTORE_DEFAULTS then w.changedKeys.foldl (fun st k => st.setLive k (objDefault k)) w
      else if m.key = K.STENCIL_RESET then ruleNos.foldl (fun st n => st.setLive (K.RULE (n - 1)) (ruleDefault n)) w
      else w
    else if isCommand m.key then w
    else w.previewValue p m.key m.value
  | none => w

/-- The values as the transaction would leave them: the written ones, then what its RESTORE_DEFAULTS and STENCIL_RESET set back. -/
def State.preview (s : State) (p : Nat) (ms : List Member) : State :=
  (ms.foldl (fun w m => w.previewMember true p m) (ms.foldl (fun w m => w.previewMember false p m) s)).foreseen s

/-- The statuses of the members in order, and the preview with the host loads that they apply. -/
def State.statuses (s w : State) (p : Nat) (x : Session) (ms : List Member) : State × List Nat :=
  match ms with
  | [] => (w, [])
  | m :: r =>
    let st := s.memberStatus w p x m
    let n := m.index % 256
    let w1 := if st = St.ok ∧ m.write ∧ m.key = K.LOAD_CMD n ∧ m.value = 1 then w.applyLoad n p else w
    let rest := s.statuses w1 p x r
    (rest.1, st :: rest.2)

/-- Do the cross-object conditions of the written objects hold on what the transaction leaves (R47)? The manifest that UPD_CMD OPEN is
judged by is the one before the data window, which acts after it (R325). -/
def State.conditionsHold (w : State) (ms : List Member) : Bool :=
  (ms.filter Member.write).all (fun m => w.crossOk m.key m.value)

/-- What a transaction comes to: the state, the answers, whether it changed a rule and whether it closes the session. -/
structure Served where
  st : State
  answers : List Answer
  rules : Bool
  close : Bool

/-- Every member is answered with one status, and none is performed. -/
def State.answerEach (s : State) (status : Nat) (ms : List Member) : Served :=
  { st := s, answers := ms.map (fun _ => ⟨status, 0, []⟩), rules := false, close := false }

/-- Count the refusals that objects count: PAST_REFUSALS (R16), CAL_REFUSALS (R175). -/
def State.countRefusals (s : State) (sts : List Nat) : State :=
  sts.foldl (fun st c =>
    if c = St.timePast then st.bumpLive K.PAST_REFUSALS else if c = St.calibrating then st.bump K.CAL_REFUSALS else st) s

/-- The rules of the stencil in order. -/
def State.rules (s : State) : List Nat := ruleNos.map s.rule

/-- May a member change a rule: a write of RULE or of STENCIL_RESET (R370)? -/
def Member.ofStencil (m : Member) : Bool := m.write && (m.index == 0x1201 || m.key == K.STENCIL_RESET)

/-- A transaction of the session x on port p that is ready and not too large: applied whole or not at all (R47). -/
def State.perform (s : State) (p : Nat) (x : Session) (ms : List Member) : Served :=
  let r := s.statuses (s.preview p ms) p x ms
  if r.2.any (fun c => c != St.ok) then
    { st := s.countRefusals r.2, answers := r.2.map (fun c => ⟨if c = St.ok then St.aborted else c, 0, []⟩), rules := false,
      close := false }
  else if !r.1.conditionsHold ms then
    { st := s, answers := ms.map (fun m => ⟨if m.write then St.constraint else St.aborted, 0, []⟩), rules := false, close := false }
  else
    let s1 := s.commitWrites p ms
    let changed := ms.any Member.ofStencil && s1.rules != s.rules
    let s2 := if changed then s1.stencilChanged p else s1
    let a := (if ms.any (fun m => !m.write) then s2.hardware else s2).answerAll p ms
    { st := a.1, answers := a.2, rules := changed, close := ms.any (fun m => m.write && m.key == K.CLOSE) }

/-- A new TRANSACTION of the session x on port p (R355, R364): its SEQ becomes the last, its response is stored. -/
def State.serveNew (s : State) (p : Nat) (x : Session) (seq : Nat) (ms : List Member) : State :=
  let s0 := s.setPort p { s.port p with session := some { x with lastSeq := seq } }
  let r :=
    if s0.coresUp = false then s0.answerEach St.notReady ms
    else if tooLarge ms then s0.answerEach St.tooLarge ms
    else s0.perform p x ms
  let body := r.st.response 0 seq x.level r.answers [] (some x.key)
  let s1 := (r.st.setPort p { r.st.port p with stored := some (body, r.answers) }).deliver p body r.answers
  let s2 := if r.rules then s1.reviewClaims else s1
  if r.close then s2.endSession p else s2

/-- A TRANSACTION on a port with no open session (R355). -/
def State.serveNone (s : State) (p seq : Nat) (ms : List Member) : State :=
  let as := ms.map (fun _ => (⟨St.noSession, 0, []⟩ : Answer))
  s.deliver p (s.response 0 seq 0xFF as [] none) as

/-- The body that waits on port p is MALFORMED (R354). -/
def State.malformed (s : State) (p : Nat) (bs : List Byte) : State :=
  (s.frameError p 1 (seqOf bs)).deliver p (s.plainResponse p 1 (seqOf bs)) []

/-- The stored response is returned, byte for byte (R364). -/
def State.serveAgain (s : State) (p : Nat) : State :=
  match (s.port p).stored with
  | some r => s.deliver p r.1 r.2
  | none => s

/-- The checks of session, MAC and SEQ (R355), for a TRANSACTION that arrived on a given tick. -/
def State.serve (s : State) (p arrived seq : Nat) (bs : List Byte) (ms : List Member) : State :=
  match s.current p arrived with
  | none => s.serveNone p seq ms
  | some x =>
    if !macOk x.key bs then (s.frameError p 2 seq).deliver p (s.plainResponse p 2 seq) []
    else if seq = (x.lastSeq + 1) % 65536 then s.serveNew p x seq ms
    else if seq = x.lastSeq then s.serveAgain p
    else (s.frameError p 4 seq).deliver p (s.response 4 seq x.level [] [] (some x.key)) []

/-- The KIND of the body that waits on port p. -/
def State.waitingKind (s : State) (p : Nat) : Option Nat := (s.port p).request.map (fun r => leAt r.body 0 1)

/-- Does an earlier request for the object server wait on another port (R50)? -/
def State.earlierWaits (s : State) (p arrived : Nat) : Bool :=
  [0, 1, 2].any (fun q => q != p &&
    match (s.port q).request with
    | some r => decide (r.arrived < arrived ∨ (r.arrived = arrived ∧ q < p)) && leAt r.body 0 1 != 2 && leAt r.body 0 1 != 3
    | none => false)

/-- TRANSACTION: the request on port p is checked and answered, once no earlier one waits; it wakes the device (R411). -/
def State.transaction (s : State) (p : Nat) : State :=
  match (s.port p).request with
  | none => s
  | some r =>
    if leAt r.body 0 1 = 2 ∨ leAt r.body 0 1 = 3 ∨ s.earlierWaits p r.arrived then s
    else match parseBody p r.body with
      | some (.transaction seq ms) => s.wake.serve p r.arrived seq r.body ms
      | _ => s.wake.malformed p r.body

/-- OPEN on port p. -/
def State.openSession (s : State) (p : Nat) : State :=
  match (s.port p).request with
  | none => s
  | some r =>
    if leAt r.body 0 1 ≠ 2 then s
    else match parseBody p r.body with
      | some (.opening seq level nh) => s.wake.openAnswer p seq level nh
      | _ => s.wake.malformed p r.body

/-- PROOF on port p. -/
def State.proveSession (s : State) (p : Nat) : State :=
  match (s.port p).request with
  | none => s
  | some r =>
    if leAt r.body 0 1 ≠ 3 then s
    else match parseBody p r.body with
      | some (.proof seq proof) => s.wake.proofAnswer p seq r.arrived proof
      | _ => s.wake.malformed p r.body

/-! ### One-member transactions -/

/-- SEQ of a one-member TRANSACTION that finishes arriving on port p now: the session's next, or 0 without a session. -/
def State.nextSeq (s : State) (p : Nat) : Nat :=
  match s.current p s.fab.tick with
  | some x => (x.lastSeq + 1) % 65536
  | none => 0

/-- FRAME_ERR goes out with an accepted request (Table 13.7); on H2 its frames carry this unit's NODE and SEQ [7:0] (R359). -/
def State.clearFrameErr (s : State) (p seq : Nat) : State :=
  let s1 := s.setPort p { s.port p with frameErr := false }
  { s1 with hosts := { s1.hosts with bale := { s1.hosts.bale with node := s.node, reqSeq := seq % 256 } } }

/-- A one-member TRANSACTION of the session on port p, with the next SEQ and a good MAC, that finishes arriving and commits on this tick.
It needs a port that receives and no request waiting on any port (R50). -/
def State.direct (s : State) (p : Nat) (m : Member) : State :=
  if !s.receives p || s.requestWaits then s
  else
    let s1 := s.wake.clearFrameErr p (s.wake.nextSeq p)
    match s1.current p s1.fab.tick with
    | none => s1.serveNone p 0 [m]
    | some x => s1.serveNew p { x with renewed := s1.fab.tick } ((x.lastSeq + 1) % 65536) [m]

/-- A write of a number to an object, at its type length. -/
def State.writeObj (s : State) (p key v : Nat) : State :=
  s.direct p { write := true, index := key / 256, sub := key % 256, len := 0,
               data := leBytes (((objRowOfKey key).map (fun r => r.ty.bytes)).getD 1) v }

/-- A read of an object. -/
def State.readDirect (s : State) (p key n : Nat) : State :=
  s.direct p { write := false, index := key / 256, sub := key % 256, len := n, data := [] }

end Sys2Proof.Machine
end

