-- ==== Sys2Proof/Machine/Ports.lean ====
section
/-! DEFINITION. The wire: SPI frames of H0 and H1 (R356, R357, R419) and bale frames of H2 (R358 to R360). -/

namespace Sys2Proof.Machine

/-- Code of an SPI port. -/
def spiNum : SpiPort → Nat
  | .h0 => 0 | .h1 => 1

/-! ### SPI (R356, R357) -/

/-- Do the bytes of a WRITE_REQUEST frame after its opcode carry LEN, LEN body bytes and their CRC (Table 13.6)? -/
def frameOk (bs : List Byte) : Bool :=
  let n := leAt bs 0 2
  decide (2 ≤ bs.length) && decide (n ≤ 5376) && decide (n + 6 ≤ bs.length)
  && leAt bs (2 + n) 4 == (crc32c (bs.take (2 + n))).toNat

/-- SEQ of the body in a WRITE_REQUEST frame, where it could be read (R375). -/
def frameSeq (bs : List Byte) : Nat := if 6 ≤ bs.length ∧ 4 ≤ leAt bs 0 2 then leAt bs 4 2 else 0xFFFF

/-- A WRITE_REQUEST frame ends (R357): its body is accepted, or the frame discarded. -/
def State.writeRequest (s : State) (p : Nat) (bs : List Byte) : State :=
  if !s.receives p then s
  else if (s.port p).request.isSome || !frameOk bs then s.discard p (frameSeq bs)
  else s.accept p ((bs.drop 2).take (leAt bs 0 2))

/-- Note what a frame read from a port shifted out. -/
def State.shiftOut (s : State) (p : Nat) (bs : List Byte) : State := s.setPort p { s.port p with out := bs }

/-- READ_RESPONSE (R357): the latest response formed, with LEN 0 where there is none. -/
def State.readResponse (s : State) (p : Nat) : State :=
  if !s.receives p then s
  else
    let body := (s.port p).response.getD []
    let head := leBytes 2 body.length ++ body
    s.shiftOut p (head ++ leBytes 4 (crc32c head).toNat)

/-- READ_STATUS (R356, R419): n bytes of PORT_STATUS; while the device is frozen, H0 shows it as it stood. -/
def State.readPortStatus (s : State) (p n : Nat) : State :=
  if s.frozen.isSome then
    if p = 0 ∧ s.supplies then s.shiftOut 0 (List.replicate n (BitVec.ofNat 8 s.frz.status)) else s
  else if !s.receives p then s
  else s.shiftOut p (List.replicate n (BitVec.ofNat 8 (s.port p).status))

/-- A proof frame on H0 while the device is frozen (R419): n bytes from byte START, 0x00 beyond the proof. -/
def State.proofFrame (s : State) (start n : Nat) : State :=
  if s.frozen.isNone || !s.supplies then s
  else ((s.shiftOut 0 ((List.range n).map (fun i => s.frz.proof.getD (start + i) 0#8))).setLive K.PROOF_READS
    (sat32 (s.obj K.PROOF_READS + 1)))

/-! ### Bale frames (R358 to R360) -/

/-- Replace the bale state of H2. -/
def State.setBale (s : State) (b : Bale) : State := { s with hosts := { s.hosts with bale := b } }

/-- No body is being rebuilt. -/
def Bale.clear (b : Bale) : Bale := { b with open_ := false, next := 0, body := [] }

/-- A partial body is discarded (R359). -/
def State.dropBale (s : State) : State := (s.setBale s.hosts.bale.clear).discard 2 (seqOf s.hosts.bale.body)

/-- Has the time between segments run out? -/
def State.baleLate (s : State) : Bool :=
  s.hosts.bale.open_ && decide (s.hosts.bale.lastAt + usTicks (s.obj K.H2_SEG_TIMEOUT) < s.fab.tick)

/-- SEGMENT_TIMEOUT (R359). -/
def State.segmentTimeout (s : State) : State := if s.baleLate then s.dropBale else s

/-- May segment `seg` with a SEQ byte and a data field join the body being rebuilt? -/
def Bale.takes (b : Bale) (seg seq : Nat) (data : List Byte) : Bool :=
  (if b.open_ then seg == b.next && seq == b.seq else seg == 0)
  && decide (1 ≤ leAt data 0 1) && decide (leAt data 0 1 ≤ 60) && leAt data 1 3 == 0

/-- A request segment of this unit (R359). -/
def State.baleSegment (s0 : State) (seg seq : Nat) (last : Bool) (data : List Byte) : State :=
  let s := s0.segmentTimeout
  let b := s.hosts.bale
  if !b.takes seg seq data then s.dropBale
  else
    let body := b.body ++ (data.drop 4).take (leAt data 0 1)
    if last then
      if (s.port 2).request.isSome then (s.setBale b.clear).discard 2 (seqOf body)
      else (s.setBale { b.clear with node := s.node, reqSeq := seq }).accept 2 body
    else s.setBale { b with open_ := true, seq := seq, next := seg + 1, body := body, lastAt := s.fab.tick }

/-- BALE_FRAME: a frame on the bus (Tables 13.8, 13.9). Frames of other lengths, of other units and responses are ignored. -/
def State.baleFrame (s : State) (id : Nat) (data : List Byte) : State :=
  if !s.receives 2 || s.hosts.bale.busOff || data.length != 64 || nbit id 28 || field id 27 14 != s.node then s
  else s.baleSegment (field id 13 9) (field id 7 0) (nbit id 8) data

/-- BUS_OFF (R360). -/
def State.busOff (s : State) : State :=
  if !s.receives 2 || s.hosts.bale.busOff then s
  else (s.setBale { s.hosts.bale with busOff := true }).raise 0x7A 0x06 (Config.busOffSeq s.fab.tick).toNat

/-- BUS_OFF_RECOVERY (R360): the waiting segments are sent. -/
def State.busOffEnd (s : State) : State :=
  if !s.receives 2 || !s.hosts.bale.busOff then s
  else
    let b := s.hosts.bale
    s.setBale { b with busOff := false, sent := if b.waiting.isEmpty then b.sent else b.waiting, waiting := [] }

end Sys2Proof.Machine
end

