-- ==== Sys2Proof/Machine/Enclosure.lean ====
section
/-! DEFINITION. What a real quantity of the stipple analysis is: intervals of rational numbers that hold it, as narrow as one asks. A field
that reports a quantity holds one of the whole numbers next to it, and a comparison of two quantities follows their intervals; the manual
states no rounding (log entry 10). -/

namespace Sys2Proof.Machine

/-- A real quantity. -/
abbrev Quant := Config.Quantity

/-! ### Intervals -/

/-- The real numbers from `lo` to `hi`. -/
structure Span where
  lo : Rat
  hi : Rat
  deriving DecidableEq, Repr

/-- One rational number. -/
def Span.point (x : Rat) : Span := ⟨x, x⟩

/-- The interval at k bits after the point, rounded outward. -/
def Span.trim (k : Nat) (s : Span) : Span := ⟨mkRat (s.lo * 2 ^ k).floor (2 ^ k), mkRat (s.hi * 2 ^ k).ceil (2 ^ k)⟩

/-- The interval with a margin of 2⁻ᵏ on both sides. -/
def Span.widen (k : Nat) (s : Span) : Span := ⟨s.lo - mkRat 1 (2 ^ k), s.hi + mkRat 1 (2 ^ k)⟩

def Span.neg (s : Span) : Span := ⟨-s.hi, -s.lo⟩
def Span.add (s t : Span) : Span := ⟨s.lo + t.lo, s.hi + t.hi⟩

/-- The products of two intervals lie between those of their ends. -/
def Span.mul (s t : Span) : Span :=
  let ends := [s.lo * t.hi, s.hi * t.lo, s.hi * t.hi]
  ⟨ends.foldl min (s.lo * t.lo), ends.foldl max (s.lo * t.lo)⟩

/-- An interval times a rational number. -/
def Span.scale (s : Span) (x : Rat) : Span := s.mul (.point x)

/-- Reciprocals; none where 0 may lie in the interval. -/
def Span.inv (s : Span) : Option Span := if 0 < s.lo ∨ s.hi < 0 then some ⟨1 / s.hi, 1 / s.lo⟩ else none

def Span.abs (s : Span) : Span := if 0 ≤ s.lo then s else if s.hi ≤ 0 then s.neg else ⟨0, max (-s.lo) s.hi⟩
def Span.max (s t : Span) : Span := ⟨Max.max s.lo t.lo, Max.max s.hi t.hi⟩

/-- Square roots at k bits; none where every number is negative. -/
def Span.sqrt (k : Nat) (s : Span) : Option Span :=
  let top := (s.hi * 4 ^ k).ceil.toNat
  let r := Nat.sqrt top
  if s.hi < 0 then none
  else some ⟨mkRat (Nat.sqrt (s.lo * 4 ^ k).floor.toNat) (2 ^ k), mkRat (if r * r = top then r else r + 1) (2 ^ k)⟩

/-! ### Series -/

/-- n terms of a series from term i on: the first is p, each next one the one before times y and `step`, and each counts by its `weight`. -/
def powerSum (k : Nat) (y : Span) (step weight : Nat → Rat) (n i : Nat) (p : Span) : Span :=
  match n with
  | 0 => .point 0
  | m + 1 => (p.scale (weight i)).add (powerSum k y step weight m (i + 1) (((p.mul y).scale (step i)).trim k))

/-- The arc tangent of a number of at most 1/2, in radians: k terms leave less than 2⁻ᵏ. -/
def atanNear (k : Nat) (x : Rat) : Span :=
  let s := (Span.point x).trim k
  (powerSum k (s.mul s).neg (fun _ => 1) (fun i => mkRat 1 (2 * i + 1)) k 0 s).widen k

/-- π, by Machin's formula. -/
def piSpan (k : Nat) : Span := ((atanNear k (1 / 5)).scale 16).add ((atanNear k (1 / 239)).scale (-4))

/-- The arc tangent of a number, in radians. -/
def atanAt (k : Nat) (x : Rat) : Span :=
  let far (y : Rat) : Span :=
    if y ≤ 1 / 2 then atanNear k y
    else if y < 2 then ((piSpan k).scale (1 / 4)).add (atanNear k ((y - 1) / (y + 1)))
    else ((piSpan k).scale (1 / 2)).add (atanNear k (1 / y)).neg
  if x < 0 then (far (-x)).neg else far x

/-- The arc tangent of an interval, in degrees. -/
def Span.atan (k : Nat) (s : Span) : Option Span :=
  (piSpan k).inv.map (fun q => (Span.mk (atanAt k s.lo).lo (atanAt k s.hi).hi).mul (q.scale 180))

/-- The angle of a complex number in degrees, above -180 and at most 180; none where the intervals do not tell on which side of 0 it lies. -/
def Span.arg (k : Nat) (re im : Span) : Option Span :=
  let ratio (x y : Span) : Option Span := y.inv.bind (fun q => (x.mul q).atan k)
  if 0 < re.lo then ratio im re
  else if 0 < im.lo then (ratio re im).map (fun a => (Span.point 90).add a.neg)
  else if im.hi < 0 then (ratio re im).map (fun a => (Span.point (-90)).add a.neg)
  else if re.hi < 0 ∧ im = .point 0 then some (.point 180)
  else none

/-- The angle p / q of a turn in radians, below one turn. -/
def turnSpan (k p q : Nat) : Span := (piSpan k).scale (mkRat (2 * (p % q)) q)

/-- Cosine and sine of p / q of a turn: k + 20 terms leave less than 2⁻ᵏ. -/
def cosSpan (k p q : Nat) : Span :=
  let x := turnSpan k p q
  (powerSum k (x.mul x).neg (fun i => mkRat 1 ((2 * i + 1) * (2 * i + 2))) (fun _ => 1) (k + 20) 0 (.point 1)).widen k
def sinSpan (k p q : Nat) : Span :=
  let x := turnSpan k p q
  (powerSum k (x.mul x).neg (fun i => mkRat 1 ((2 * i + 2) * (2 * i + 3))) (fun _ => 1) (k + 20) 0 x).widen k

/-- n terms of the power series of `rise` from term i on, a being term i and b term i + 1: term i + 2 is
-2ζx / (i + 2) times term i + 1 less x² / ((i + 1)(i + 2)) times term i. -/
def riseSum (k : Nat) (x z : Span) (n i : Nat) (a b : Span) : Span :=
  match n with
  | 0 => .point 0
  | m + 1 =>
    let c := (((z.mul x).mul b).scale (mkRat (-2) (i + 2))).add (((x.mul x).mul a).scale (mkRat (-1) ((i + 1) * (i + 2))))
    a.add (riseSum k x z m (i + 1) b (c.trim k))

/-- The unit step response of a second-order low pass of damping ζ when ω t is x: y = (2|ζ| + 1)|x| bounds its terms by yⁱ / i!, so that
6 y + k terms leave less than 2⁻ᵏ, and the terms carry 2 y bits more. -/
def Span.rise (k : Nat) (x z : Span) : Span :=
  let y := ((z.abs.hi * 2 + 1) * x.abs.hi).ceil.toNat
  let bits := k + 2 * y
  (riseSum bits x z (6 * y + k) 1 (.point 0) ((x.mul x).scale (1 / 2))).widen k

/-! ### Quantities -/

/-- An interval that holds a quantity, formed at k bits; none where it has no value or the intervals do not show one. -/
def quantSpan (k : Nat) (q : Quant) : Option Span :=
  match q with
  | .ratio a b => if b = 0 then none else some (.point (a / b))
  | .pi => some (piSpan k)
  | .add x y => do return (← quantSpan k x).add (← quantSpan k y)
  | .sub x y => do return (← quantSpan k x).add (← quantSpan k y).neg
  | .mul x y => do return (← quantSpan k x).mul (← quantSpan k y)
  | .div x y => do return (← quantSpan k x).mul (← (← quantSpan k y).inv)
  | .sqrt x => do (← quantSpan k x).sqrt k
  | .abs x => do return (← quantSpan k x).abs
  | .max x y => do return (← quantSpan k x).max (← quantSpan k y)
  | .atan x => do (← quantSpan k x).atan k
  | .arg x y => do Span.arg k (← quantSpan k x) (← quantSpan k y)
  | .cosTurn p q => if q = 0 then none else some (cosSpan k p q)
  | .sinTurn p q => if q = 0 then none else some (sinSpan k p q)
  | .rise x z => do return Span.rise k (← quantSpan k x) (← quantSpan k z)

/-- The precisions tried, in bits. -/
def spanBits : List Nat := [64, 256, 1024, 4096]

/-- The whole numbers between which a quantity lies: one number where it is that number, and two that follow one another as soon as a
precision shows them. -/
def quantBetween (q : Quant) : Option (Int × Int) :=
  let ends (s : Span) : Int × Int := (s.lo.floor, s.hi.ceil)
  let near (k : Nat) : Option (Int × Int) := ((quantSpan k q).map ends).filter (fun e => decide (e.2 ≤ e.1 + 1))
  match spanBits.findSome? near with
  | some e => some e
  | none => (quantSpan 4096 q).map ends

/-- The whole number that a field from `lo` to `hi` reports for a quantity: one of those next to it. Free is which one, and what a field
holds that cannot hold it. -/
def report (lo hi : Int) (q : Quant) : Int :=
  let free := lo + Int.ofNat (Config.noNumber q) % (hi - lo + 1)
  match quantBetween q with
  | some (a, b) =>
    let v := a + Int.ofNat (Config.rounding q) % (b - a + 1)
    if lo ≤ v ∧ v ≤ hi then v else free
  | none => free

/-- Is one quantity at most another, as the analysis compares them (R220 to R223)? Free where no precision tells them apart. -/
def atMost (x y : Quant) : Bool :=
  let told (k : Nat) : Option Bool :=
    match quantSpan k x, quantSpan k y with
    | some s, some t => if s.hi ≤ t.lo then some true else if t.hi < s.lo then some false else none
    | _, _ => none
  (spanBits.findSome? told).getD (Config.atMost x y)

/-- Fields of Table 7.11 and Table 7.6 that report a quantity. -/
def reportU32 (q : Quant) : Nat := (report 0 0xFFFFFFFF q).toNat
def reportU16 (q : Quant) : Nat := (report 0 0xFFFF q).toNat
def reportI32 (q : Quant) : Int := report (-2147483648) 2147483647 q

end Sys2Proof.Machine
end

