-- ==== Sys2Proof/Machine/Analysis.lean ====
section
/-! DEFINITION. The real quantities of the stipple analysis (R219 to R224): spectra, lines, the fitted model, its covariance and its response
to a step. Each is the expression that the rule gives. -/

namespace Sys2Proof.Machine

/-- An integer as a quantity. -/
def qInt (n : Int) : Quant := .ratio n 1

/-- Sum of quantities. -/
def qSum (l : List Quant) : Quant := l.foldl .add (qInt 0)

/-- Square of a quantity. -/
def qSq (x : Quant) : Quant := .mul x x

/-- The greatest of quantities that are not negative. -/
def qMost (l : List Quant) : Quant := l.foldl .max (qInt 0)

/-- Sum of the elements at positions [a, b). -/
def sumSpan (l : List Int) (a b : Nat) : Int := ((l.drop a).take (b - a)).foldl (fun x y => x + y) 0

/-- Mean of integers. -/
def qMean (l : List Int) : Quant := .ratio (sumSpan l 0 l.length) (Int.ofNat l.length)

/-- Standard deviation of integers (R219). -/
def deviation (l : List Int) : Quant :=
  let n := Int.ofNat l.length
  let sum := sumSpan l 0 l.length
  let squares := (l.map (fun x => x * x)).foldl (fun x y => x + y) 0
  .sqrt (.ratio (n * squares - sum * sum) (n * Int.ofNat (Config.deviationDivisor l.length)))

/-! ### Spectra and lines (R220) -/

/-- A complex quantity. -/
structure Cx where
  re : Quant
  im : Quant
  deriving DecidableEq, Repr

/-- Squared magnitude. -/
def Cx.power (z : Cx) : Quant := .add (qSq z.re) (qSq z.im)

/-- Magnitude. -/
def Cx.mag (z : Cx) : Quant := .sqrt z.power

/-- Bin m of the discrete Fourier transform of a record. -/
def dft (x : List Int) (m : Nat) : Cx :=
  let n := x.length
  { re := qSum (x.zipIdx.map (fun p => .mul (qInt p.1) (.cosTurn (m * p.2) n))),
    im := qSum (x.zipIdx.map (fun p => .mul (qInt (-p.1)) (.sinTurn (m * p.2) n))) }

/-- Z_m = −V_m / I_m × 100,000, in µΩ: the records count 10 µV and 100 µA. -/
def impedance (v i : Cx) : Cx :=
  let scaled (x : Quant) : Quant := .div (.mul (qInt (-100000)) x) i.power
  { re := scaled (.add (.mul v.re i.re) (.mul v.im i.im)), im := scaled (.sub (.mul v.im i.re) (.mul v.re i.im)) }

/-- The 16 non-excited bins nearest to m, bin 0 excluded; of two equally near the lower counts first (DESIGN CHOICE: log entry 99). -/
def quietBins (excited : Nat → Bool) (len m : Nat) : List Nat :=
  let near := (List.range (len / 2)).flatMap (fun d => (if d + 1 < m then [m - (d + 1)] else []) ++ [m + d + 1])
  (near.filter (fun b => decide (2 * b ≤ len) && !excited b)).take 16

/-- Noise power of a record over some bins: their mean squared magnitude. -/
def noisePower (x : List Int) (bins : List Nat) : Quant :=
  .div (qSum (bins.map (fun b => (dft x b).power))) (qInt (Int.ofNat bins.length))

/-- u_m of an excited bin. -/
def lineSpread (v i : List Int) (quiet : List Nat) (m : Nat) : Quant :=
  .mul (qInt 2) (.sqrt (.add (.div (noisePower v quiet) (dft v m).power) (.div (noisePower i quiet) (dft i m).power)))

/-- A line: its bin, its frequency in Hz, Z_m in µΩ, u_m. -/
structure Line where
  bin : Nat
  freq : Quant
  z : Cx
  u : Quant
  deriving DecidableEq, Repr

/-- Weight of a line in the fit (R222): 1 / (u_m × |Z_m| / 2)². -/
def Line.weight (l : Line) : Quant := .div (qInt 1) (qSq (.div (.mul l.u l.z.mag) (qInt 2)))

/-! ### The fitted model (R222) -/

/-- The parameters of the model. -/
structure Fit where
  rdc : Quant
  rpk : Quant
  fn : Quant
  zeta : Quant
  deriving DecidableEq, Repr

/-- The parameters in the order of the covariance. -/
def Fit.params (p : Fit) : List Quant := [p.rdc, p.rpk, p.fn, p.zeta]

/-- Parameters from a list in that order. -/
def fitOf (l : List Quant) : Fit := ⟨l.getD 0 (qInt 0), l.getD 1 (qInt 0), l.getD 2 (qInt 0), l.getD 3 (qInt 0)⟩

/-- a = 2ζ f / f_n and b = 1 − (f / f_n)², of which the model is R_dc + (R_pk − R_dc) × j a / (b + j a). -/
def Fit.a (p : Fit) (f : Quant) : Quant := .div (.mul (.mul (qInt 2) p.zeta) f) p.fn
def Fit.b (p : Fit) (f : Quant) : Quant := .sub (qInt 1) (qSq (.div f p.fn))

/-- |b + j a|². -/
def Fit.den (p : Fit) (f : Quant) : Quant := .add (qSq (p.a f)) (qSq (p.b f))

/-- j a / (b + j a), which is (a² + j a b) / |b + j a|². -/
def Fit.shape (p : Fit) (f : Quant) : Cx := ⟨.div (qSq (p.a f)) (p.den f), .div (.mul (p.a f) (p.b f)) (p.den f)⟩

/-- Z_fit at a frequency. -/
def Fit.z (p : Fit) (f : Quant) : Cx :=
  let k : Quant := .sub p.rpk p.rdc
  ⟨.add p.rdc (.mul k (p.shape f).re), .mul k (p.shape f).im⟩

/-- Partial derivatives of Z_fit by R_dc, R_pk, f_n and ζ, with ∂a/∂ζ = a / ζ, ∂a/∂f_n = −a / f_n, ∂b/∂f_n = 2 f² / f_n³. -/
def Fit.slopes (p : Fit) (f : Quant) : List Cx :=
  let k : Quant := .sub p.rpk p.rdc
  let g := p.shape f
  let a := p.a f
  let b := p.b f
  let sq := qSq (p.den f)
  let byA : Cx := ⟨.div (.mul (.mul (qInt 2) a) (qSq b)) sq, .div (.mul b (.sub (qSq b) (qSq a))) sq⟩
  let byB : Cx := ⟨.div (.mul (.mul (qInt (-2)) (qSq a)) b) sq, .div (.mul a (.sub (qSq a) (qSq b))) sq⟩
  let aZeta : Quant := .div a p.zeta
  let aFn : Quant := .sub (qInt 0) (.div a p.fn)
  let bFn : Quant := .div (.mul (qInt 2) (qSq f)) (.mul p.fn (qSq p.fn))
  [⟨.sub (qInt 1) g.re, .sub (qInt 0) g.im⟩, g,
   ⟨.mul k (.add (.mul byA.re aFn) (.mul byB.re bFn)), .mul k (.add (.mul byA.im aFn) (.mul byB.im bFn))⟩,
   ⟨.mul k (.mul byA.re aZeta), .mul k (.mul byA.im aZeta)⟩]

/-- Where the fit starts: f_n and R_pk at the line of largest |Z_m|, R_dc at the lowest line, ζ from the half-power width. -/
def fitStart (ls : List Line) : List Quant :=
  let peak := ls.foldl (fun (best : Option Line) l =>
    match best with
    | some x => if atMost l.z.power x.z.power then some x else some l
    | none => some l) none
  [(ls.head?.map (fun l => l.z.re)).getD (qInt 0), (peak.map (fun l => l.z.mag)).getD (qInt 0),
   (peak.map Line.freq).getD (qInt 0), Config.halfPowerZeta (ls.map (fun l => (l.freq, l.z.mag)))]

/-- The fit of the lines, at most 50 iterations. -/
def fitLines (ls : List Line) : Fit :=
  fitOf (Config.levenbergMarquardt (ls.map (fun l => (l.freq, l.z.re, l.z.im, l.weight))) (fitStart ls) 50)

/-- χ²: the weighted squares of what the model leaves. -/
def chiSquared (ls : List Line) (p : Fit) : Quant :=
  qSum (ls.map (fun l =>
    let z := p.z l.freq
    .mul l.weight (.add (qSq (.sub l.z.re z.re)) (qSq (.sub l.z.im z.im)))))

/-- χ² / (2L − 4). -/
def chiReduced (ls : List Line) (p : Fit) : Quant := .div (chiSquared ls p) (qInt (2 * Int.ofNat ls.length - 4))

/-- Determinant of a matrix of n rows, by its first row. -/
def qDet (n : Nat) (rows : List (List Quant)) : Quant :=
  match n, rows with
  | 0, _ => qInt 1
  | _, [] => qInt 1
  | k + 1, row :: rest =>
    qSum (row.zipIdx.map (fun x =>
      .mul (.mul (qInt (if x.2 % 2 = 0 then 1 else -1)) x.1) (qDet k (rest.map (fun r => ldrop r x.2)))))

/-- Element (i, j) of the inverse of a 4 × 4 matrix. -/
def qInverse (m : List (List Quant)) (i j : Nat) : Quant :=
  let minor := (ldrop m j).map (fun r => ldrop r i)
  .div (.mul (qInt (if (i + j) % 2 = 0 then 1 else -1)) (qDet 3 minor)) (qDet 4 m)

/-- JᵀWJ of the lines. -/
def normalMatrix (ls : List Line) (p : Fit) : List (List Quant) :=
  (List.range 4).map (fun i => (List.range 4).map (fun j =>
    qSum (ls.map (fun l =>
      let d := p.slopes l.freq
      let x := d.getD i ⟨qInt 0, qInt 0⟩
      let y := d.getD j ⟨qInt 0, qInt 0⟩
      .mul l.weight (.add (.mul x.re y.re) (.mul x.im y.im))))))

/-- C = (JᵀWJ)⁻¹ × max(1, χ² / (2L − 4)). -/
def covariance (ls : List Line) (p : Fit) (i j : Nat) : Quant :=
  .mul (qInverse (normalMatrix ls p) i j) (.max (qInt 1) (chiReduced ls p))

/-- Expanded uncertainty (k = 2) of a figure with a gradient over the parameters, correlations included. -/
def spreadOf (ls : List Line) (p : Fit) (grad : List Quant) : Quant :=
  .mul (qInt 2) (.sqrt (qSum (grad.zipIdx.flatMap (fun x => grad.zipIdx.map (fun y =>
    .mul (.mul x.1 (covariance ls p x.2 y.2)) y.1)))))

/-- The gradient of one parameter. -/
def unitGrad (i : Nat) : List Quant := (List.range 4).map (fun j => qInt (if j = i then 1 else 0))

/-- q of the crossover, and its derivative by ζ. -/
def Fit.root (p : Fit) : Quant := .sqrt (.add (qInt 1) (.mul (qInt 4) (qSq (qSq p.zeta))))
def Fit.q (p : Fit) : Quant := .sqrt (.sub p.root (.mul (qInt 2) (qSq p.zeta)))
def Fit.qSlope (p : Fit) : Quant :=
  .div (.sub (.div (.mul (qInt 4) (.mul p.zeta (qSq p.zeta))) p.root) (.mul (qInt 2) p.zeta)) p.q

/-- The crossover in Hz, and its uncertainty. -/
def Fit.crossover (p : Fit) : Quant := .mul p.fn p.q
def Fit.crossoverU (p : Fit) (ls : List Line) : Quant := spreadOf ls p [qInt 0, qInt 0, p.q, .mul p.fn p.qSlope]

/-- The phase margin in degrees, and its uncertainty. -/
def Fit.phaseMargin (p : Fit) : Quant := .atan (.div (.mul (qInt 2) p.zeta) p.q)
def Fit.phaseMarginU (p : Fit) (ls : List Line) : Quant :=
  let y : Quant := .div (.mul (qInt 2) p.zeta) p.q
  let dy : Quant := .sub (.div (qInt 2) p.q) (.div (.mul (.mul (qInt 2) p.zeta) p.qSlope) (qSq p.q))
  spreadOf ls p [qInt 0, qInt 0, qInt 0, .mul (.div (qInt 180) .pi) (.div dy (.add (qInt 1) (qSq y)))]

/-- How far the rail stands above its end t ns after an unloading step of STIP_STEP at STIP_SLEW begins, in 10 µV (R223): the response of
Z_fit to a current that takes 100 × STIP_STEP / STIP_SLEW ns (R209). The term in R_pk − R_dc is a band pass, whose response to a ramp is the
low pass of the same f_n and ζ times 2ζ / ω. A loading step mirrors it. -/
def Fit.excess (p : Fit) (step slew t : Nat) : Quant :=
  let x (num den : Nat) : Quant := .mul (.mul .pi p.fn) (.ratio (2 * num) (1000000000 * den))
  let size : Quant := .div (.mul (.sub p.rpk p.rdc) (.mul p.zeta (qInt (10000000 * slew)))) (.mul .pi p.fn)
  let rung : Quant := .mul size (.sub (.rise (x t 1) p.zeta) (.rise (x (slew * t - 100 * step) slew) p.zeta))
  .div (.sub rung (.mul p.rdc (.ratio (100 * step - slew * t : Nat) 100))) (qInt 100000)

/-- The ns over which the response is taken: the ramp, and then until what rings has fallen by more than e⁻⁶⁴, since the slower pole decays at
least by 1 / max(1/ζ, 2ζ) per ω t (DESIGN CHOICE: log entry 10). -/
def Fit.span (p : Fit) (step slew : Nat) : Nat :=
  let slow : Quant := .max (.div (qInt 1) p.zeta) (.mul (qInt 2) p.zeta)
  let rings : Quant := .div (.mul (qInt 32000000000) slow) (.mul .pi p.fn)
  ((quantBetween (.add (.ratio (100 * step) slew) rings)).map (fun e => e.2.toNat)).getD 0

/-- A figure of the model's response to a step (R223), on its ns: 0 the overshoot in 10 µV, 1 the settling in ns, the first after the last that
lies more than SETTLE_BAND from the end. -/
def Fit.response (p : Fit) (which step slew band : Nat) : Quant :=
  let times := List.range (p.span step slew + 1)
  if which = 0 then qMost (times.map (p.excess step slew))
  else
    let far := times.filter (fun t => !atMost (.abs (p.excess step slew t)) (qInt band))
    qInt ((far.getLast?.map (fun t => t + 1)).getD 0 : Nat)

/-- Its uncertainty: the largest change as each parameter moves by its own uncertainty, up or down. -/
def Fit.responseU (p : Fit) (ls : List Line) (which step slew band : Nat) : Quant :=
  let at0 := p.response which step slew band
  qMost ((List.range 4).flatMap (fun i => [1, -1].map (fun sign =>
    let moved := p.params.zipIdx.map (fun x =>
      if x.2 = i then .add x.1 (.mul (qInt sign) (spreadOf ls p (unitGrad i))) else x.1)
    .abs (.sub ((fitOf moved).response which step slew band) at0))))

end Sys2Proof.Machine
end

