-- ==== Sys2Proof/Machine/StippleFigures.lean ====
section
/-! DEFINITION. The stipple analysis (spec/07: R219 to R226): samples, step estimators, lines, chosen frequencies, limits and
the trend record. Each figure reports the real quantity that its rule gives. -/

namespace Sys2Proof.Machine

/-- Sample k of the capture buffer as a stored code. -/
def State.capCode (s : State) (k : Nat) : Nat := leNat (s.readBytes (captureAddr k) 2)

/-- The code of a channel as converted by R161: two's complement on a signed channel. -/
def State.capPhysical (s : State) (c k : Nat) : Int :=
  let raw := s.capCode k
  if s.isSigned c then s.physical c (signedOf 16 raw) true else s.physical c (Int.ofNat raw) false

/-- Per-channel sample period T in ticks (R210). -/
def State.stipT (s : State) (n : Nat) : Nat := 32 / s.obj (K.STIP_G n)

/-- The voltage samples of a run. -/
def State.stipV (s : State) (n : Nat) : List Int :=
  (List.range (s.stipSamples n / 2)).map (fun j => s.capPhysical n (2 * j))

/-- The current samples of a run. -/
def State.stipI (s : State) (n : Nat) : List Int :=
  (List.range (s.stipSamples n / 2)).map (fun j => s.capPhysical (64 + n) (2 * j + 1))

/-- First sample at or after the end of PRELOAD. -/
def State.stipFirst (s : State) (n : Nat) : Nat := cdiv (s.obj (K.STIP_PRELOAD n)) (s.stipT n)

/-- The samples of a record in the second half of PRELOAD, from which means and standard deviations are taken (R219). -/
def State.settledSpan (s : State) (n : Nat) (l : List Int) : List Int :=
  let a := cdiv (s.obj (K.STIP_PRELOAD n)) (2 * s.stipT n)
  (l.drop a).take (s.stipFirst n - a)

/-- Mean over the second half of PRELOAD (R219). -/
def State.preloadMean (s : State) (n : Nat) (l : List Int) : Nat := rawI32 (reportI32 (qMean (s.settledSpan n l)))

/-- Sum over all periods of sample j of a half: `start` is the first sample of the first such half (R221). -/
def foldHalf (l : List Int) (start period cycles j : Nat) : Int :=
  (List.range cycles).foldl (fun a c => a + l.getD (start + c * period + j) 0) 0

/-- The figures of one run, in the units of Table 7.11. -/
structure Figures where
  settle : Nat
  settleU : Nat
  overshoot : Int
  overshootU : Nat
  reg : Int
  regU : Nat
  unsettled : Bool
  deriving DecidableEq, Repr

/-- The last sample of a folded half that lies more than SETTLE_BAND from its plateau mean, by exact comparison. -/
def lastOutside (h : List Int) (m cycles band : Nat) : Option Nat :=
  let plateau := sumSpan h (h.length - m) h.length
  let far := (List.range h.length).filter (fun j =>
    decide (Int.ofNat (band * cycles * m) < Int.ofNat (h.getD j 0 * Int.ofNat m - plateau).natAbs))
  far.getLast?

/-- slope of R221 at the last sample outside: half the difference of its neighbours over 2 T, or the noise over T, per ns. `h` is the half
folded over `cyc` periods. -/
def settleSlope (h : List Int) (cyc t : Nat) (sigma : Quant) (j : Option Nat) : Quant :=
  match j with
  | some (k + 1) =>
    .max (.abs (.ratio (h.getD (k + 2) 0 - h.getD k 0) (Int.ofNat (cyc * 10 * t)))) (.div sigma (qInt (Int.ofNat (5 * t))))
  | some 0 => Config.edgeSlope h
  | none => Config.edgeSlope h

/-- The step estimators (R221); none where a divisor is 0. The halves are sums over the periods: a plateau mean is its sum over
STIP_CYCLES × M. -/
def State.stepFigures (s : State) (n : Nat) (v i : List Int) : Option Figures :=
  let t := s.stipT n
  let half := s.obj (K.STIP_HALF n) / t
  let cyc := s.obj (K.STIP_CYCLES n)
  let m := half / 4
  let p := s.stipFirst n
  let up := (List.range half).map (foldHalf v p (2 * half) cyc)
  let dn := (List.range half).map (foldHalf v (p + half) (2 * half) cyc)
  let iu := (List.range half).map (foldHalf i p (2 * half) cyc)
  let id := (List.range half).map (foldHalf i (p + half) (2 * half) cyc)
  let vl := sumSpan up (half - m) half
  let vu := sumSpan dn (half - m) half
  let dV := vu - vl
  let dI := sumSpan iu (half - m) half - sumSpan id (half - m) half
  if dV = 0 ∨ dI = 0 then none
  else
    let n4 := Int.ofNat (cyc * m)
    let rootCyc : Quant := .sqrt (qInt (Int.ofNat cyc))
    let sigmaA : Quant := .div (deviation (s.settledSpan n v)) rootCyc
    let sigmaI := deviation (s.settledSpan n i)
    let pair : Quant := .sqrt (.ratio 2 (Int.ofNat m))
    let reg : Quant := .div (qInt (100000 * dV)) (qInt dI)
    let ofV : Quant := .div (.mul pair sigmaA) (.ratio dV n4)
    let ofI : Quant := .div (.mul pair sigmaI) (.mul rootCyc (.ratio dI n4))
    let lowest := up.foldl min (up.headD 0)
    let highest := dn.foldl max (dn.headD 0)
    let under := vl - lowest * Int.ofNat m
    let high := highest * Int.ofNat m - vu
    let band := s.obj (K.SETTLE_BAND n)
    let ju := lastOutside up m cyc band
    let jd := lastOutside dn m cyc band
    let late (j : Option Nat) : Bool := match j with | some x => decide (half - m ≤ x) | none => false
    let ts (j : Option Nat) : Nat := match j with | some x => (x + 1) * t * 5 | none => 0
    let uns := late ju || late jd
    let slope := if ts ju < ts jd then settleSlope dn cyc t sigmaA jd else settleSlope up cyc t sigmaA ju
    let settleU : Quant := .add (qInt (Int.ofNat (5 * t))) (.div (.mul (qInt 2) sigmaA) slope)
    some {
      settle := if uns then 0xFFFFFFFF else max (ts ju) (ts jd),
      settleU := if uns then 0xFFFFFFFF else reportU32 settleU,
      overshoot := reportI32 (.ratio (if under ≤ high then high else -under) n4),
      overshootU := reportU32 (.mul (.mul (qInt 2) sigmaA) (.sqrt (.ratio (Int.ofNat m + 1) (Int.ofNat m)))),
      reg := reportI32 reg,
      regU := reportU32 (.mul (.mul (qInt 2) (.abs reg)) (.sqrt (.add (qSq ofV) (qSq ofI)))),
      unsettled := uns }

/-- The same figures from the fit (R223): REG := R_dc, the others from the model's response to a step of STIP_STEP at STIP_SLEW. -/
def State.modelFigures (s : State) (n : Nat) (ls : List Line) (p : Fit) : Figures :=
  let step := s.obj (K.STIP_STEP n)
  let slew := s.obj (K.STIP_SLEW n)
  let band := s.obj (K.SETTLE_BAND n)
  { settle := reportU32 (p.response 1 step slew band),
    settleU := reportU32 (p.responseU ls 1 step slew band),
    overshoot := reportI32 (p.response 0 step slew band),
    overshootU := reportU32 (p.responseU ls 0 step slew band),
    reg := reportI32 p.rdc,
    regU := reportU32 (spreadOf ls p (unitGrad 0)),
    unsettled := false }

/-! ### Lines (R220, R224) -/

/-- Samples of the ACQUIRE record per channel. -/
def State.acquireLen (s : State) (n : Nat) : Nat := s.stipSamples n / 2 - s.stipFirst n

/-- Per-channel rate f_s in Hz. -/
def State.stipFs (s : State) (n : Nat) : Nat := 200000000 / s.stipT n

/-- Is a bin excited (R220): an odd multiple of STIP_CYCLES, or a non-zero multiple of STIP_REPEATS? -/
def State.excited (s : State) (n m : Nat) : Bool :=
  if s.obj (K.STIP_PATTERN n) = 1 then
    m % s.obj (K.STIP_CYCLES n) == 0 && m / s.obj (K.STIP_CYCLES n) % 2 == 1
  else m != 0 && m % s.obj (K.STIP_REPEATS n) == 0

/-- The excited bins, up to half the sample rate. -/
def State.excitedBins (s : State) (n : Nat) : List Nat := (List.range (s.acquireLen n / 2 + 1)).filter (s.excited n)

/-- May an excited bin be a line: at or below f_s / 4, and for PRBS at or below 0.4 / (STIP_CHIP × 5 ns) (R220)? -/
def State.lineBand (s : State) (n m : Nat) : Bool :=
  let len := s.acquireLen n
  decide (4 * m ≤ len)
  && (s.obj (K.STIP_PATTERN n) == 1 || decide (m * s.stipFs n * s.obj (K.STIP_CHIP n) ≤ 80000000 * len))

/-- What R220 forms for an excited bin. -/
def State.lineAt (s : State) (n : Nat) (v i : List Int) (m : Nat) : Line :=
  { bin := m, freq := .ratio (Int.ofNat (m * s.stipFs n)) (Int.ofNat (s.acquireLen n)), z := impedance (dft v m) (dft i m),
    u := lineSpread v i (quietBins (s.excited n) (s.acquireLen n) m) m }

/-- The lines: the lowest 1,024 excited bins in the band whose u_m is at most 0.5 (R220). -/
def State.stipLines (s : State) (n : Nat) (v i : List Int) : List Line :=
  ((((s.excitedBins n).filter (s.lineBand n)).map (s.lineAt n v i)).filter (fun l => atMost l.u (.ratio 1 2))).take 1024

/-- The bin of a list nearest to a frequency, ties to the lower frequency, if within ±10 % of it (R224). -/
def nearestBin (bins : List Nat) (fs len zf : Nat) : Option Nat :=
  let dist (m : Nat) : Nat := (Int.ofNat (m * fs) - Int.ofNat (zf * len)).natAbs
  match leastBy (fun a b => decide (dist a < dist b)) bins with
  | some m => if 10 * dist m ≤ zf * len then some m else none
  | none => none

/-- Frequency of a bin in Hz (R224). -/
def binHz (m fs len : Nat) : Nat := (report 0 25000000 (.ratio (Int.ofNat (m * fs)) (Int.ofNat len))).toNat

/-- Publish ZLINE_j, ZMAG_j = |Z_m|, ZPH_j = arg Z_m in 0.01° and ZMAG_U_j = u_m in 0.01 % (R224). -/
def State.publishZ (s : State) (n j : Nat) (ls : List Line) : State :=
  let zf := s.obj (K.ZF n j)
  let fs := s.stipFs n
  let len := s.acquireLen n
  let put (line mag ph u : Nat) : State :=
    (((s.setLive (K.ZLINE n j) line).setLive (K.ZMAG n j) mag).setLive (K.ZPH n j) ph).setLive (K.ZMAG_U n j) u
  let near := nearestBin (ls.map Line.bin) fs len zf
  if zf = 0 then s
  else match ls.find? (fun l => near == some l.bin) with
    | some l => put (binHz l.bin fs len) (reportU32 l.z.mag)
        (rawOf 16 (report (-18000) 18000 (.mul (qInt 100) (.arg l.z.re l.z.im)))) (reportU16 (.mul (qInt 10000) l.u))
    | none => put (((nearestBin (s.excitedBins n) fs len zf).map (fun m => binHz m fs len)).getD 0) 0xFFFFFFFF 0 0xFFFF

/-! ### Limits and publication (R225, R226) -/

/-- Bits of STIP_FLAGS (Table 7.7). -/
def stipFlags (model poor limit unsettled swapped margined : Bool) : Nat :=
  b2n model + 2 * b2n poor + 4 * b2n limit + 8 * b2n unsettled + 16 * b2n swapped + 32 * b2n margined

/-- Data-port address of the trend record of a run number (R226). -/
def trendAddr (seq : Nat) : Nat := 0x02500000 + 128 * (seq % 16384)

/-- The trend record (Table 7.6), without its CRC. -/
def State.trendBytes (s : State) (n seq vMean iMean : Nat) : List Byte :=
  let r := s.stip n
  let o (k : Nat) : Nat := s.obj k
  packLE ([(4, seq), (4, r.t0Beat.toNat), (4, r.t0Offset), (1, n), (1, o (K.STIP_PATTERN n)), (1, o (K.STIP_FLAGS n)),
    (1, r.position), (4, vMean), (4, iMean), (2, o (K.STIP_STEP n)), (2, rawOf 16 r.temp),
    (4, o (K.SETTLE n)), (4, o (K.SETTLE_U n)), (4, o (K.OVERSHOOT n)), (2, min 65535 (o (K.OVERSHOOT_U n))),
    (2, o (K.PM n)), (2, o (K.PM_U n)), (2, o (K.ZETA n)), (2, o (K.ZETA_U n)), (2, o (K.LINES n)),
    (4, o (K.FC n)), (4, o (K.FC_U n)), (4, o (K.REG n)), (4, o (K.REG_U n)), (4, o (K.PEAK n)), (4, o (K.CHI2 n))]
    ++ (List.range 4).flatMap (fun j =>
      [(4, o (K.ZLINE n j)), (4, o (K.ZMAG n j)), (2, o (K.ZPH n j)), (2, o (K.ZMAG_U n j))]))

/-- Set a list of live objects. -/
def State.setAll (s : State) (l : List (Nat × Nat)) : State := l.foldl (fun st p => st.setLive p.1 p.2) s

/-- The figures of the fit (R222), with the objects that show them. -/
def fitObjects (n : Nat) (ls : List Line) (p : Fit) : List (Nat × Nat) :=
  [(K.FC n, (report 0 25000000 p.crossover).toNat), (K.FC_U n, reportU32 (p.crossoverU ls)),
    (K.PM n, (report 0 9000 (.mul (qInt 100) p.phaseMargin)).toNat), (K.PM_U n, reportU16 (.mul (qInt 100) (p.phaseMarginU ls))),
    (K.PEAK n, reportU32 p.rpk), (K.ZETA n, reportU16 (.mul (qInt 10000) p.zeta)),
    (K.ZETA_U n, reportU16 (.mul (qInt 10000) (spreadOf ls p (unitGrad 3)))),
    (K.CHI2 n, reportU32 (.mul (qInt 1000) (chiReduced ls p))), (K.LINES n, ls.length)]

/-- Does a run break one of its limits (R225)? With POOR_FIT the phase margin and the crossover are not checked. -/
def State.limitBroken (s : State) (n : Nat) (f : Figures) (poor : Bool) : Bool :=
  let below (key lim : Nat) : Bool := !poor && decide (s.obj lim ≠ 0) && decide (s.obj key < s.obj lim)
  below (K.PM n) (K.PM_MIN n) || below (K.FC n) (K.FC_MIN n)
  || (decide (s.obj (K.SETTLE_MAX n) ≠ 0) && decide (s.obj (K.SETTLE_MAX n) < f.settle))
  || (decide (s.obj (K.OVERSHOOT_MAX n) ≠ 0) && decide (s.obj (K.OVERSHOOT_MAX n) < f.overshoot.natAbs))

/-- A run with its lines reaches DONE (R219 to R226, Table 7.5): the figures, the limits, the run number, the trend record and
CAP_RELEASE. -/
def State.runDone (s : State) (n : Nat) (v i : List Int) (ls : List Line) : State :=
  let r := s.stip n
  let p := fitLines ls
  let step := if s.obj (K.STIP_PATTERN n) = 1 then s.stepFigures n v i else none
  let f := step.getD (s.modelFigures n ls p)
  let s1 := s.setAll (fitObjects n ls p)
  let poor := decide (s1.obj (K.FIT_LIMIT n) < s1.obj (K.CHI2 n))
  let limit := s1.limitBroken n f poor
  let flags := stipFlags step.isNone poor limit f.unsettled (nbit (s.obj K.CAP_FLAGS) 0) r.margined
  let seq := (s.obj H.runSeq + 1) % 2 ^ 32
  let s2 := s1.setAll [(K.STIP_REASON n, 0), (K.STIP_FLAGS n, flags), (K.RUN_SEQ n, seq), (K.RUN_BEAT n, r.t0Beat.toNat),
    (K.RUN_OFFSET n, r.t0Offset), (K.SETTLE n, f.settle), (K.SETTLE_U n, f.settleU), (K.OVERSHOOT n, rawI32 f.overshoot),
    (K.OVERSHOOT_U n, f.overshootU), (K.REG n, rawI32 f.reg), (K.REG_U n, f.regU)]
  let s3 := (List.range 4).foldl (fun st j => st.publishZ n j ls) s2
  let body := s3.trendBytes n seq (s3.preloadMean n v) (s3.preloadMean n i)
  let s4 := (s3.writeBytes (trendAddr seq) (body ++ leBytes 4 (crc32c body).toNat)).setPers H.runSeq seq
  let s5 := (s4.bump (K.RUNS n)).setStip n { r with state := .done }
  let s6 := if poor then s5.raise n 0x39 (seq % 65536) else s5
  let s7 := if limit then s6.raise n 0x3A (seq % 65536) else s6
  (s7.releaseCapture).stipNext n

/-- STIP_ANALYSIS_DONE: with fewer than 4 lines the run FAILs (Table 7.4). -/
def State.analysisDone (s : State) (n : Nat) : State :=
  if (s.stip n).state = .analyse ∧ s.coresUp = true then
    let v := s.stipV n
    let i := s.stipI n
    let ls := s.stipLines n (v.drop (s.stipFirst n)) (i.drop (s.stipFirst n))
    if ls.length < 4 then s.stipEnd n 0x15 .failed else s.runDone n v i ls
  else s

end Sys2Proof.Machine
end

