-- ==== Sys2Proof/Machine/Clock.lean ====
section
/-! DEFINITION. Events of the blocks, one clock tick, and the results of the converters. -/

namespace Sys2Proof.Machine

/-! ### Events -/

/-- An event of a block that the functional clocks drive. -/
def State.event (s : State) (f : State → State) : State := if s.clocked then (f s).after else s

/-- An event that acts under freeze as well (Table 15.6). -/
def State.freeEvent (s : State) (f : State → State) : State := if s.clocked || s.frozen.isSome then (f s).after else s

/-- What a low level or an edge on a VIO-domain input does: nothing while those inputs read high (R432). -/
def State.onPin (s : State) (f : State → State) : State := if s.vioGone then s else f s

/-! ### The clock tick -/

/-- Slews of the sinks under freeze (Table 15.6): discharges go on in the power die, without metering. -/
def State.slewSinks (s : State) : State :=
  s.sinks.foldl (fun st p => st.setSink p.1 { st.sink p.1 with cur := slewStep (st.sink p.1).cur (st.sink p.1).cmd (st.sink p.1).slew }) s

/-- The next tick begins. -/
def State.advance (s : State) : State :=
  { s with fab := { s.fab with tick := s.fab.tick + 1 }, filterClk := s.filterClk + 1,
           startClk := if s.serving then s.startClk else s.startClk + 1, ticked := false }

/-- A new tick begins for the rails: what they still have to do since they moved on an earlier one (R105). -/
def State.tickRails (s : State) : State := if s.rails.any (fun p => !p.2.next.isEmpty) then s.railsNext.after else s

/-- One tick of the clock (DESIGN CHOICE: what step does when no command waits): under freeze only the filter clock runs and the discharges slew
(R414), in OFF nothing, in POWER_ON and CLOCKS only time passes. The convoy pins follow their timeline (Table 3.1). Without VIO a device that
is no longer on reserve goes to OFF (Table 15.2). -/
def State.clock (s : State) : State :=
  if s.vioGone && !s.vioReserve then ({ s with filterClk := s.filterClk + 1 }).goOff false 0
  else if s.frozen.isSome then ({ s.slewSinks with filterClk := s.filterClk + 1 }).drive
  else match s.phase with
    | .off => ({ s with filterClk := s.filterClk + 1 }).drive
    | .powerOn => ({ s with filterClk := s.filterClk + 1, startClk := s.startClk + 1 }).drive
    | .clocks => ({ s with filterClk := s.filterClk + 1, startClk := s.startClk + 1 }).drive
    | .recall => s.tickBlocks.advance.carrySteps.tickRails.drive
    | .cores => s.tickBlocks.advance.carrySteps.tickRails.drive
    | .joining => s.tickBlocks.advance.carrySteps.tickRails.drive
    | .running => s.tickBlocks.advance.carrySteps.tickRails.drive

/-! ### Results (R112, R154, R161, R185, R186, R213, R261, R270, R298) -/

/-- What the blocks do with a delivered result; checks take scan results. -/
def State.deliverResult (s : State) (d : Delivered) : State :=
  let s1 := (s.liveResult d).noteOwn d.ch d.value
  if !d.scan then s1
  else if d.ch < 64 then s1.offLevelResult d.ch d.value d.slotTick
  else if 128 ≤ d.ch ∧ d.ch < 132 then s1.quickCompare (d.ch - 128) d.value
  else if 132 ≤ d.ch ∧ d.ch < 134 then s1.senseResult (d.ch - 132) d.value
  else if 136 ≤ d.ch ∧ d.ch < 138 then s1.srcResult (d.ch - 136) d.value
  else s1.supplyCheck d.ch d.value

/-- The guard of a stipple run takes the voltage samples that a slot result finished (R213). -/
def State.guardSamples (s : State) : State :=
  match s.cap.owner with
  | .stipple n => s.cap.fresh.foldl (fun st p => if p.1 = n then st.guardSample n p.2 else st) s
  | .none => s
  | .port _ => s
  | .trigger => s

/-- Is a result due: 18 ticks after its slot started (R159)? -/
def State.resultDue (s : State) : Bool :=
  match s.conv.inflight with
  | x :: _ => decide (x.tick + 18 ≤ s.fab.tick)
  | [] => false

/-- SLOT_RESULT (R167). -/
def State.slotResult (s : State) (raw : Nat) : State :=
  if !s.resultDue then s
  else
    let r := s.takeResult raw
    match r.2 with
    | some d => r.1.deliverResult d
    | none => r.1.guardSamples

/-- A quick result below COLLAPSE_V while detection is armed (R122). -/
def State.collapseCheck (s : State) : State :=
  if s.seq.collapseArmed ∧ s.seq.state ≠ .collapsed ∧ Int.ofNat (s.quick 2) < s.objI K.COLLAPSE_V then s.collapse else s

/-- QUICK_RESULT (R185): one conversion every 200 ticks. -/
def State.quickResult (s : State) (a b c d : Nat) : State :=
  if s.frozen.isNone && decide (s.fab.tick < s.conv.quickAt + 200) then s
  else ((s.storeQuick a b c d).quickFeeds.collapseCheck).huAbort

/-! ### Captures and the ring (Tables 6.6, 6.8) -/

/-- CAPTURE_DONE; a run in UNLOAD may now be unloaded. -/
def State.captureDone (s : State) : State :=
  let s1 := s.doneCapture
  match s1.cap.owner with
  | .stipple n => s1.stipUnloaded n
  | .none => s1
  | .port _ => s1
  | .trigger => s1

/-- RING_FREEZE (Table 6.8): the freeze tick is reached; a level 0 etch of the ring, P1 and P2, with P0 as their block. -/
def State.ringFreeze (s : State) : State :=
  if s.ring.started ∧ s.ring.state = .triggered ∧ s.ring.freezeTick ≤ s.fab.tick then
    (s.freezeRing s.ring.freezeTick).postEtch 3 (scopeP01 ||| scopeP2 ||| scopeP3) []
  else s

/-- RING_AUTO_REARM (Table 6.8); a recalled frozen ring waits for RING_REARM (R192). -/
def State.ringAutoRearm (s : State) : State :=
  if s.ring.state = .frozen ∧ s.ring.recalled = false ∧ s.obj K.REARM_MODE = 1 ∧ s.ring.etchDone ∧ s.coll.inFault = false then s.rearmRing else s

end Sys2Proof.Machine
end

