-- ==== Sys2Proof/Machine/AccessRows.lean ====
section
/-! DEFINITION. The commands that read or write objects of the object model, the sessions, the store and the ledger. -/

namespace Sys2Proof.Machine

/-- OBJECT_WRITE (R48). -/
def execObjectWrite (p : Port) (index : BitVec 16) (sub : BitVec 8) (data : List Byte) (s : State) : Host.Outcome State Fault Refusal :=
  .next (s.direct (portNum p) { write := true, index := index.toNat, sub := sub.toNat, len := 0, data := data }).after

/-- SPLIT_PAIR_LO_READ (R55). -/
def execSplitPairLoRead (p : Port) (index : BitVec 16) (sub : BitVec 8) (s : State) : Host.Outcome State Fault Refusal :=
  .next (s.direct (portNum p) { write := false, index := index.toNat, sub := sub.toNat, len := 0, data := [] }).after

/-- SPLIT_PAIR_HI_READ (R56). -/
def execSplitPairHiRead (p : Port) (index : BitVec 16) (sub : BitVec 8) (s : State) : Host.Outcome State Fault Refusal :=
  .next (s.direct (portNum p) { write := false, index := index.toNat, sub := sub.toNat, len := 0, data := [] }).after

/-- CLAIM (R368). -/
def execClaimGroup (p : Port) (g : BitVec 8) (s : State) : Host.Outcome State Fault Refusal :=
  .next (s.writeObj (portNum p) K.CLAIM g.toNat).after

/-- RELEASE (R368). -/
def execReleaseGroup (p : Port) (g : BitVec 8) (s : State) : Host.Outcome State Fault Refusal :=
  .next (s.writeObj (portNum p) K.RELEASE g.toNat).after

/-- CLAIM_BREAK (R368). -/
def execClaimBreak (p : Port) (g : BitVec 8) (s : State) : Host.Outcome State Fault Refusal :=
  .next (s.writeObj (portNum p) K.CLAIM_BREAK g.toNat).after

/-- CLOSE (R371). -/
def execCloseSession (p : Port) (s : State) : Host.Outcome State Fault Refusal := .next (s.writeObj (portNum p) K.CLOSE 1).after

/-- RULE (R369, R370). -/
def execWriteRule (p : Port) (r : BitVec 8) (word : BitVec 64) (s : State) : Host.Outcome State Fault Refusal :=
  .next (s.direct (portNum p) { write := true, index := 0x1201, sub := r.toNat, len := 0, data := leBytes 8 word.toNat }).after

/-- STENCIL_RESET (R370). -/
def execStencilReset (p : Port) (s : State) : Host.Outcome State Fault Refusal :=
  .next (s.writeObj (portNum p) K.STENCIL_RESET 0x5AFE0DEF).after

/-- LATENCY_REQ (R410). -/
def execLatencyReq (p : Port) (us : BitVec 32) (s : State) : Host.Outcome State Fault Refusal :=
  .next (s.writeObj (portNum p) K.LATENCY_REQ us.toNat).after

/-- RESTORE_DEFAULTS (R44, R390). -/
def execRestoreDefaults (p : Port) (s : State) : Host.Outcome State Fault Refusal :=
  .next (s.writeObj (portNum p) K.RESTORE_DEFAULTS 0x5AFE0DEF).after

/-- DP_WINDOW_READ (R325, R326). -/
def execDpWindowRead (p : Port) (n : BitVec 16) (s : State) : Host.Outcome State Fault Refusal :=
  .next (s.readDirect (portNum p) K.DP_WINDOW n.toNat).after

/-- DP_WINDOW_WRITE (R325, R326). -/
def execDpWindowWrite (p : Port) (data : List Byte) (s : State) : Host.Outcome State Fault Refusal :=
  .next (s.direct (portNum p) { write := true, index := 0x6100, sub := 2, len := 0, data := data }).after

/-- RECORD_DATA (R345). -/
def execRecordData (p : Port) (s : State) : Host.Outcome State Fault Refusal := .next (s.readDirect (portNum p) K.RECORD_DATA 0).after

/-- FF_DATA (R345). -/
def execFfData (p : Port) (s : State) : Host.Outcome State Fault Refusal := .next (s.readDirect (portNum p) K.FF_DATA 0).after

/-- LEDGER_CLEAR_RECORDS (R347). -/
def execLedgerClearRecords (p : Port) (s : State) : Host.Outcome State Fault Refusal :=
  .next (s.writeObj (portNum p) K.LEDGER_CLEAR 1).after

/-- LEDGER_CLEAR_ALL (R347). -/
def execLedgerClearAll (p : Port) (s : State) : Host.Outcome State Fault Refusal :=
  .next (s.writeObj (portNum p) K.LEDGER_CLEAR 2).after

/-- CONVOY_ENABLE (R91, R98). -/
def execConvoyEnable (p : Port) (on : Bool) (s : State) : Host.Outcome State Fault Refusal :=
  .next (s.writeObj (portNum p) K.CONVOY_ENABLE (b2n on)).after

/-- WAY_REQUEST (R80). -/
def execWayRequest (p : Port) (w : BitVec 8) (s : State) : Host.Outcome State Fault Refusal :=
  .next (s.writeObj (portNum p) K.WAY_REQUEST w.toNat).after

/-- HALT_REQUEST (R69). -/
def execHaltRequest (p : Port) (on : Bool) (s : State) : Host.Outcome State Fault Refusal :=
  .next (s.writeObj (portNum p) K.HALT_REQUEST (b2n on)).after

end Sys2Proof.Machine
end

