-- ==== Sys2Proof/Machine/CollectorRows.lean ====
section
/-! DEFINITION. The events of the fault collector (spec/10). -/

namespace Sys2Proof.Machine

/-- FILTER_UNLOCK is raised in service only (R298). -/
def State.filterUnlock (s : State) : State := if s.serving then s.raise 0x88 4 0 else s

/-- MESSAGE_ARRIVAL (R281). -/
def execMessageArrival (index : Nat) (s : State) : Host.Outcome State Fault Refusal :=
  .next (s.event (fun t => t.messageArrival index))

/-- MESSAGE_RELEASE (R281). -/
def execMessageRelease (s : State) : Host.Outcome State Fault Refusal := .next (s.event State.messageRelease)

/-- COLLECTOR_DECISION (R288). -/
def execCollectorDecision (s : State) : Host.Outcome State Fault Refusal := .next (s.event State.collectorDecision)

/-- QUIET_TIME_END (R286). -/
def execQuietTimeEnd (s : State) : Host.Outcome State Fault Refusal := .next (s.event State.quietEnd)

/-- RECOVERY_SPAN_END (R286). -/
def execRecoverySpanEnd (s : State) : Host.Outcome State Fault Refusal := .next (s.event State.recoveryEnd)

/-- FAULT_PULSE_END (R291). -/
def execFaultPulseEnd (s : State) : Host.Outcome State Fault Refusal := .next (s.event State.pulseEnd)

/-- STARTUP_SPAN_END (R283). -/
def execStartupSpanEnd (s : State) : Host.Outcome State Fault Refusal := .next (s.event State.startSpanEnd)

/-- REFCLK_LOST (R298): kind 0x01. -/
def execRefclkLost (s : State) : Host.Outcome State Fault Refusal := .next (s.event (fun t => t.raise 0x88 1 0))

/-- REFCLK_FREQ (R298): kind 0x02. -/
def execRefclkFreq (s : State) : Host.Outcome State Fault Refusal := .next (s.event (fun t => t.raise 0x88 2 0))

/-- PLL_UNLOCK (R298): kind 0x03. -/
def execPllUnlock (s : State) : Host.Outcome State Fault Refusal := .next (s.event (fun t => t.raise 0x88 3 0))

/-- FILTER_UNLOCK (R298): kind 0x04, in service. -/
def execFilterUnlock (s : State) : Host.Outcome State Fault Refusal := .next (s.event (fun t => t.filterUnlock))

end Sys2Proof.Machine
end

