-- ==== Sys2Proof/Machine/CommandRows.lean ====
section
/-! DEFINITION. The commands of rails, converter, capture, margins, stipple runs, loads, feeds, collector, etches and updates. -/

namespace Sys2Proof.Machine

/-- LOCAL_HOLD (R118). -/
def execLocalHold (p : Port) (on : Bool) (s : State) : Host.Outcome State Fault Refusal :=
  .next (s.writeObj (portNum p) K.LOCAL_HOLD (b2n on)).after

/-- PRESENT (R105, R131). -/
def execSetPresent (p : Port) (n : Fin 64) (on : Bool) (s : State) : Host.Outcome State Fault Refusal :=
  .next (s.writeObj (portNum p) (K.RAIL_PRESENT n.val) (b2n on)).after

/-- CLEAR_FLAGS (R132). -/
def execClearFlags (p : Port) (n : Fin 64) (s : State) : Host.Outcome State Fault Refusal :=
  .next (s.writeObj (portNum p) (K.CLEAR_FLAGS n.val) 1).after

/-- CLEAR_LATCH (R156). -/
def execClearLatch (p : Port) (n : Fin 64) (s : State) : Host.Outcome State Fault Refusal :=
  .next (s.writeObj (portNum p) (K.CLEAR_LATCH n.val) 1).after

/-- SCAN_SELECT (R164). -/
def execScanSelect (p : Port) (b : BitVec 8) (s : State) : Host.Outcome State Fault Refusal :=
  .next (s.writeObj (portNum p) K.SCAN_SELECT b.toNat).after

/-- READMIT (R176). -/
def execReadmit (p : Port) (s_ : Fin 17) (s : State) : Host.Outcome State Fault Refusal :=
  .next (s.writeObj (portNum p) (K.READMIT s_.val) 1).after

/-- CONVERT (R182). -/
def execConvert (p : Port) (c : Fin 192) (s : State) : Host.Outcome State Fault Refusal :=
  .next (s.writeObj (portNum p) (K.CONVERT c.val) 1).after

/-- RING_REARM (R189). -/
def execRingRearm (p : Port) (s : State) : Host.Outcome State Fault Refusal := .next (s.writeObj (portNum p) K.RING_REARM 1).after

/-- RING_TRIGGER (R189). -/
def execRingTrigger (p : Port) (s : State) : Host.Outcome State Fault Refusal := .next (s.writeObj (portNum p) K.RING_TRIGGER 1).after

/-- CAP_ARM (R179, R180). -/
def execCapArm (p : Port) (s : State) : Host.Outcome State Fault Refusal := .next (s.writeObj (portNum p) K.CAP_ARM 1).after

/-- CAP_ABORT (R179). -/
def execCapAbort (p : Port) (s : State) : Host.Outcome State Fault Refusal := .next (s.writeObj (portNum p) K.CAP_ABORT 1).after

/-- CAP_RELEASE (R179). -/
def execCapRelease (p : Port) (s : State) : Host.Outcome State Fault Refusal := .next (s.writeObj (portNum p) K.CAP_RELEASE 1).after

/-- MRG_CMD_NOMINAL (R199). -/
def execMrgCmdNominal (p : Port) (n : Fin 64) (s : State) : Host.Outcome State Fault Refusal :=
  .next (s.writeObj (portNum p) (K.MRG_CMD n.val) 0).after

/-- MRG_CMD_HIGH (R198, R199). -/
def execMrgCmdHigh (p : Port) (n : Fin 64) (s : State) : Host.Outcome State Fault Refusal :=
  .next (s.writeObj (portNum p) (K.MRG_CMD n.val) 1).after

/-- MRG_CMD_LOW (R198, R199). -/
def execMrgCmdLow (p : Port) (n : Fin 64) (s : State) : Host.Outcome State Fault Refusal :=
  .next (s.writeObj (portNum p) (K.MRG_CMD n.val) 2).after

/-- STIP_CMD_SCHEDULE (R214, R216). -/
def execStipCmdSchedule (p : Port) (n : Fin 64) (s : State) : Host.Outcome State Fault Refusal :=
  .next (s.writeObj (portNum p) (K.STIP_CMD n.val) 1).after

/-- STIP_CMD_CANCEL (R216). -/
def execStipCmdCancel (p : Port) (n : Fin 64) (s : State) : Host.Outcome State Fault Refusal :=
  .next (s.writeObj (portNum p) (K.STIP_CMD n.val) 2).after

/-- LOAD_CMD_APPLY (R243). -/
def execLoadCmdApply (p : Port) (n : Fin 64) (s : State) : Host.Outcome State Fault Refusal :=
  .next (s.writeObj (portNum p) (K.LOAD_CMD n.val) 1).after

/-- LOAD_CMD_REMOVE (R243). -/
def execLoadCmdRemove (p : Port) (n : Fin 64) (s : State) : Host.Outcome State Fault Refusal :=
  .next (s.writeObj (portNum p) (K.LOAD_CMD n.val) 2).after

/-- INRUSH_SET (R249). -/
def execInrushSet (p : Port) (v : BitVec 16) (s : State) : Host.Outcome State Fault Refusal :=
  .next (s.writeObj (portNum p) K.INRUSH_SET v.toNat).after

/-- FEED_ENABLE (R256). -/
def execFeedEnable (p : Port) (f : Fin 2) (on : Bool) (s : State) : Host.Outcome State Fault Refusal :=
  .next (s.writeObj (portNum p) (K.FEED_ENABLE f.val) (b2n on)).after

/-- FEED_CLEAR (R256). -/
def execFeedClear (p : Port) (f : Fin 2) (s : State) : Host.Outcome State Fault Refusal :=
  .next (s.writeObj (portNum p) (K.FEED_CLEAR f.val) 1).after

/-- FORCE (R294). -/
def execForceMessage (p : Port) (src : BitVec 8) (s : State) : Host.Outcome State Fault Refusal :=
  .next (s.writeObj (portNum p) (K.FORCE src.toNat) 1).after

/-- TEST_MODE (R283). -/
def execTestMode (p : Port) (on : Bool) (s : State) : Host.Outcome State Fault Refusal :=
  .next (s.writeObj (portNum p) K.TEST_MODE (b2n on)).after

/-- FAULT_ACK (R286). -/
def execFaultAck (p : Port) (s : State) : Host.Outcome State Fault Refusal := .next (s.writeObj (portNum p) K.FAULT_ACK 1).after

/-- FAULT_N_HOLD (R292). -/
def execFaultNHold (p : Port) (on : Bool) (s : State) : Host.Outcome State Fault Refusal :=
  .next (s.writeObj (portNum p) K.FAULT_N_HOLD (b2n on)).after

/-- ETCH_CMD (R308). -/
def execEtchCmd (p : Port) (s : State) : Host.Outcome State Fault Refusal := .next (s.writeObj (portNum p) K.ETCH_CMD 1).after

/-- ETCH_ABORT (R311). -/
def execEtchAbort (p : Port) (s : State) : Host.Outcome State Fault Refusal := .next (s.writeObj (portNum p) K.ETCH_ABORT 1).after

/-- UPD_CMD_OPEN (R382). -/
def execUpdCmdOpen (p : Port) (s : State) : Host.Outcome State Fault Refusal := .next (s.writeObj (portNum p) K.UPD_CMD 1).after

/-- UPD_BLOCK (R384). -/
def execUpdBlock (p : Port) (index : BitVec 16) (s : State) : Host.Outcome State Fault Refusal :=
  .next (s.writeObj (portNum p) K.UPD_BLOCK index.toNat).after

/-- UPD_CMD_VERIFY (R385). -/
def execUpdCmdVerify (p : Port) (s : State) : Host.Outcome State Fault Refusal := .next (s.writeObj (portNum p) K.UPD_CMD 2).after

/-- UPD_CMD_APPLY (R387). -/
def execUpdCmdApply (p : Port) (s : State) : Host.Outcome State Fault Refusal := .next (s.writeObj (portNum p) K.UPD_CMD 3).after

/-- UPD_CMD_SCHEDULE (R391). -/
def execUpdCmdSchedule (p : Port) (s : State) : Host.Outcome State Fault Refusal := .next (s.writeObj (portNum p) K.UPD_CMD 4).after

/-- UPD_CMD_UNSCHEDULE (R391). -/
def execUpdCmdUnschedule (p : Port) (s : State) : Host.Outcome State Fault Refusal := .next (s.writeObj (portNum p) K.UPD_CMD 5).after

/-- UPD_CMD_CONFIRM (R398). -/
def execUpdCmdConfirm (p : Port) (s : State) : Host.Outcome State Fault Refusal := .next (s.writeObj (portNum p) K.UPD_CMD 6).after

/-- UPD_CMD_ABORT (R397). -/
def execUpdCmdAbort (p : Port) (s : State) : Host.Outcome State Fault Refusal := .next (s.writeObj (portNum p) K.UPD_CMD 7).after

end Sys2Proof.Machine
end

