-- ==== Sys2Proof/Machine/ConverterRows.lean ====
section
/-! DEFINITION. The events of conversion, scan, capture and ring (spec/06). -/

namespace Sys2Proof.Machine

/-- SLOT_RESULT (R167). -/
def execSlotResult (raw : BitVec 16) (s : State) : Host.Outcome State Fault Refusal :=
  .next (s.event (fun t => t.slotResult raw.toNat))

/-- QUICK_RESULT (R185). -/
def execQuickResult (feedA feedB outSns vhu : BitVec 12) (s : State) : Host.Outcome State Fault Refusal :=
  .next (s.freeEvent (fun t => t.quickResult feedA.toNat feedB.toNat outSns.toNat vhu.toNat))

/-- SLICE_SWAP (R173). -/
def execSliceSwap (s : State) : Host.Outcome State Fault Refusal := .next (s.event State.sliceSwap)

/-- FORCED_SWAP (R174). -/
def execForcedSwap (s : State) : Host.Outcome State Fault Refusal := .next (s.event State.forcedSwap)

/-- CAL_STEP_DONE (R171, R172). -/
def execCalStepDone (n : Fin 17) (zero refP refN rise fall : BitVec 24) (s : State) : Host.Outcome State Fault Refusal :=
  .next (s.event (fun t => t.calStepEnd n.val zero.toNat refP.toNat refN.toNat rise.toNat fall.toNat))

/-- CAL_STALE (R176). -/
def execCalStale (n : Fin 17) (s : State) : Host.Outcome State Fault Refusal := .next (s.event (fun t => t.calStale n.val))

/-- CAPTURE_START (R179). -/
def execCaptureStart (s : State) : Host.Outcome State Fault Refusal := .next (s.event State.captureStart)

/-- CAPTURE_DONE (R179). -/
def execCaptureDone (s : State) : Host.Outcome State Fault Refusal := .next (s.event State.captureDone)

/-- RING_FREEZE (R189). -/
def execRingFreeze (s : State) : Host.Outcome State Fault Refusal := .next (s.event State.ringFreeze)

/-- RING_AUTO_REARM (R189). -/
def execRingAutoRearm (s : State) : Host.Outcome State Fault Refusal := .next (s.event State.ringAutoRearm)

end Sys2Proof.Machine
end

