-- ==== Sys2Proof/Machine/ConvoyRows.lean ====
section
/-! DEFINITION. The events of the convoy (spec/03). -/

namespace Sys2Proof.Machine

/-- BEAT_EDGE (R67, R68). -/
def execBeatEdge (s : State) : Host.Outcome State Fault Refusal := .next (s.event (fun t => (t.onPin State.beatEdge).drive))

/-- SPURIOUS_EDGE (R67). -/
def execSpuriousEdge (s : State) : Host.Outcome State Fault Refusal := .next (s.event (fun t => (t.onPin State.spuriousEdge).drive))

/-- FORCED_RELEASE (R68). -/
def execForcedRelease (s : State) : Host.Outcome State Fault Refusal := .next (s.event (fun t => t.forcedRelease.drive))

/-- BEAT_FRAME (R72 to R76). -/
def execBeatFrame (frame : List Byte) (s : State) : Host.Outcome State Fault Refusal :=
  .next ((s.onPin (fun u => u.noteReplySlot frame)).event (fun t => (t.onPin (fun u => u.beatFrame frame)).drive))

/-- SOLO_BEAT (R91). -/
def execSoloBeat (s : State) : Host.Outcome State Fault Refusal := .next (s.event (fun t => t.soloBeat.drive))

/-- LOSS_TIMEOUT (R91). -/
def execLossTimeout (s : State) : Host.Outcome State Fault Refusal := .next (s.event (fun t => t.lossTimeout.drive))

/-- CANDIDATE_WAIT (R93). -/
def execCandidateWait (s : State) : Host.Outcome State Fault Refusal := .next (s.event (fun t => t.candidateWait.drive))

/-- LEADER_BEAT (R70, R94). -/
def execLeaderBeat (s : State) : Host.Outcome State Fault Refusal := .next (s.event (fun t => t.leaderBeat.drive))

/-- BEAT_FRAME_SEND (R72, R94). -/
def execBeatFrameSend (halt : HaltSample) (vote : Bool) (s : State) : Host.Outcome State Fault Refusal :=
  .next (s.event (fun t => (t.beatFrameSend halt vote).drive))

/-- REPLY_SEND (R83). -/
def execReplySend (won : Bool) (s : State) : Host.Outcome State Fault Refusal := .next (s.event (fun t => (t.replySend won).drive))

/-- TOLL_REQUEST (R95). -/
def execTollRequest (reply : BitVec 80) (s : State) : Host.Outcome State Fault Refusal :=
  .next (s.event (fun t => (t.tollRequest reply).drive))

/-- TOLL_OFFER (R95). -/
def execTollOffer (reply : BitVec 80) (s : State) : Host.Outcome State Fault Refusal := .next (s.event (fun t => (t.tollOffer reply).drive))

/-- XFER_SENT (R96). -/
def execXferSent (reply : BitVec 80) (s : State) : Host.Outcome State Fault Refusal := .next (s.event (fun t => (t.xferSent reply).drive))

/-- XFER_RECEIVED (R95). -/
def execXferReceived (reply : BitVec 80) (s : State) : Host.Outcome State Fault Refusal :=
  .next (s.event (fun t => (t.xferReceived reply).drive))

/-- WAY_REQUEST_REPLY (R80). -/
def execWayRequestReply (reply : BitVec 80) (s : State) : Host.Outcome State Fault Refusal :=
  .next (s.event (fun t => (t.wayRequestReply reply).drive))

/-- XFER_PROPOSE (R95). -/
def execXferPropose (s : State) : Host.Outcome State Fault Refusal := .next (s.event (fun t => t.xferPropose.drive))

/-- XFER_DELIVER (R95). -/
def execXferDeliver (s : State) : Host.Outcome State Fault Refusal := .next (s.event (fun t => t.xferDeliver.drive))

/-- XFER_CLOSE (R96). -/
def execXferClose (s : State) : Host.Outcome State Fault Refusal := .next (s.event (fun t => t.xferClose.drive))

/-- XFER_RESEND (R96). -/
def execXferResend (s : State) : Host.Outcome State Fault Refusal := .next (s.event (fun t => t.xferResend.drive))

/-- PROPOSAL_FORGET (R95). -/
def execProposalForget (s : State) : Host.Outcome State Fault Refusal := .next (s.event (fun t => t.proposalForget.drive))

/-- DELIVER_REPEAT (R95). -/
def execDeliverRepeat (s : State) : Host.Outcome State Fault Refusal := .next (s.event (fun t => t.deliverRepeat.drive))

/-- RING_DELAY (R86). -/
def execRingDelay (ticks : BitVec 32) (s : State) : Host.Outcome State Fault Refusal :=
  .next (s.event (fun t => (t.ringDelay ticks.toNat).drive))

/-- RING_OPEN (R86). -/
def execRingOpen (s : State) : Host.Outcome State Fault Refusal := .next (s.event (fun t => t.ringOpen.drive))

/-- CSC_STUCK (R86). -/
def execCscStuck (s : State) : Host.Outcome State Fault Refusal := .next (s.event (fun t => t.cscStuck.drive))

/-- RELAY_FORWARD (R84, R407). -/
def execRelayForward (cscIn holdLine dataLine : Bool) (s : State) : Host.Outcome State Fault Refusal :=
  .next (s.relayForward (cscIn || s.vioGone) (holdLine || s.vioGone) (dataLine || s.vioGone)).after

end Sys2Proof.Machine
end

