-- ==== Sys2Proof/Machine/FeedRows.lean ====
section
/-! DEFINITION. The events of the feeds, the mating pins and the hold-up (spec/09). -/

namespace Sys2Proof.Machine

/-- MATED (R257). -/
def execMated (s : State) : Host.Outcome State Fault Refusal := .next (s.event (fun t => t.onPin State.mateCard))

/-- MATING_LOST (R258). -/
def execMatingLost (early : Bool) (s : State) : Host.Outcome State Fault Refusal := .next (s.event (fun t => t.loseMating early))

/-- EXTRACT_DELAY_END (R258). -/
def execExtractDelayEnd (s : State) : Host.Outcome State Fault Refusal := .next (s.event State.extractDelayEnd)

/-- EARLY_HIGH (R258). -/
def execEarlyHigh (s : State) : Host.Outcome State Fault Refusal := .next (s.event State.earlyHigh)

/-- INRUSH_ISSUE (R246). -/
def execInrushIssue (s : State) : Host.Outcome State Fault Refusal := .next (s.event State.inrushIssue)

/-- FUSE_FAST (R262). -/
def execFuseFast (f : Fin 2) (s : State) : Host.Outcome State Fault Refusal := .next (s.freeEvent (fun t => t.fuseFast f.val))

/-- FUSE_SLOW (R262). -/
def execFuseSlow (f : Fin 2) (s : State) : Host.Outcome State Fault Refusal := .next (s.freeEvent (fun t => t.fuseSlow f.val))

/-- SOA_TIMEOUT (R261). -/
def execSoaTimeout (f : Fin 2) (s : State) : Host.Outcome State Fault Refusal := .next (s.event (fun t => t.soaTimeout f.val))

/-- REVERSE_OFF (R263). -/
def execReverseOff (f : Fin 2) (s : State) : Host.Outcome State Fault Refusal := .next (s.freeEvent (fun t => t.reverseOff f.val))

/-- FORWARD_ON (R263). -/
def execForwardOn (f : Fin 2) (s : State) : Host.Outcome State Fault Refusal := .next (s.freeEvent (fun t => t.forwardOn f.val))

/-- FEED_UV (R265). -/
def execFeedUv (f : Fin 2) (s : State) : Host.Outcome State Fault Refusal :=
  .next (s.event (fun t => t.sourceOut f.val 6 (t.feed f.val).uv (t.obj (K.UV_RIDE f.val))))

/-- FEED_OV (R265). -/
def execFeedOv (f : Fin 2) (s : State) : Host.Outcome State Fault Refusal :=
  .next (s.event (fun t => t.sourceOut f.val 7 (t.feed f.val).ov (t.obj (K.OV_FILTER f.val))))

/-- TRIP_RUN_RESET (R256). -/
def execTripRunReset (f : Fin 2) (s : State) : Host.Outcome State Fault Refusal := .next (s.event (fun t => t.tripRunReset f.val))

/-- RETRY_RELEASE (R268). -/
def execRetryRelease (f : Fin 2) (s : State) : Host.Outcome State Fault Refusal := .next (s.event (fun t => t.retryRelease f.val))

/-- RETRY_FULL (R269). -/
def execRetryFull (f : Fin 2) (s : State) : Host.Outcome State Fault Refusal := .next (s.event (fun t => t.retryFull f.val))

/-- DAMAGED_ELEMENT (R270). -/
def execDamagedElement (f : Fin 2) (s : State) : Host.Outcome State Fault Refusal := .next (s.event (fun t => t.damagedElement f.val))

/-- DAMAGED_PATH (R271). -/
def execDamagedPath (s : State) : Host.Outcome State Fault Refusal := .next (s.event State.damagedPath)

/-- INPUT_LOSS (R272). -/
def execInputLoss (s : State) : Host.Outcome State Fault Refusal := .next (s.event State.inputLoss)

/-- PFAIL (R273). -/
def execPfail (s : State) : Host.Outcome State Fault Refusal := .next (s.event (fun t => t.onPin State.pfailLow))

/-- PFAIL_HIGH (R273). -/
def execPfailHigh (s : State) : Host.Outcome State Fault Refusal := .next (s.event State.pfailHigh)

/-- HU_LOW (R274). -/
def execHuLow (s : State) : Host.Outcome State Fault Refusal := .next (s.freeEvent State.huLow)

/-- HU_ON_RESERVE (R274, R314). -/
def execHuOnReserve (s : State) : Host.Outcome State Fault Refusal := .next (s.freeEvent State.goOnReserve)

/-- VAUX_RETURN (R314). -/
def execVauxReturn (s : State) : Host.Outcome State Fault Refusal := .next (s.freeEvent State.vauxBack)

/-- VIO_LOSS (R432). -/
def execVioLoss (s : State) : Host.Outcome State Fault Refusal := .next (s.vioLoss).after

/-- HOLD_UP_EXHAUSTED (R274). -/
def execHoldUpExhausted (s : State) : Host.Outcome State Fault Refusal := .next (s.holdUpExhausted).after

end Sys2Proof.Machine
end

