-- ==== Sys2Proof/Machine/LaneRows.lean ====
section
/-! DEFINITION. The events of the lanes and the management cores (spec/01). -/

namespace Sys2Proof.Machine

/-- LANE_GRANT (R20). -/
def execLaneGrant (s : State) : Host.Outcome State Fault Refusal := .next (s.event State.laneGrant)

/-- HARD_AGE_PREEMPT (R22). -/
def execHardAgePreempt (s : State) : Host.Outcome State Fault Refusal := .next (s.event State.hardAgePreempt)

/-- PREEMPT_HANDOVER (R24). -/
def execPreemptHandover (lane : Fin 128) (s : State) : Host.Outcome State Fault Refusal :=
  .next (s.event (fun t => t.preemptHandover lane.val))

/-- LOCKSTEP_MISMATCH (R28, R29). -/
def execLockstepMismatch (s : State) : Host.Outcome State Fault Refusal := .next (s.event (fun t => t.coreRestart 1))

/-- WATCHDOG_EXPIRY (R28, R29). -/
def execWatchdogExpiry (s : State) : Host.Outcome State Fault Refusal := .next (s.event (fun t => t.coreRestart 2))

/-- CORE_START (R28, R393). -/
def execCoreStart (s : State) : Host.Outcome State Fault Refusal := .next (s.event State.coreStart)

end Sys2Proof.Machine
end

