-- ==== Sys2Proof/Machine/MarginRows.lean ====
section
/-! DEFINITION. The events of margins and stipple runs (spec/07). -/

namespace Sys2Proof.Machine

/-- MARGIN_MOVE_START (R199). -/
def execMarginMoveStart (n : Fin 64) (s : State) : Host.Outcome State Fault Refusal := .next (s.event (fun t => t.marginStart n.val))

/-- MARGIN_STEP (R200). -/
def execMarginStep (n : Fin 64) (s : State) : Host.Outcome State Fault Refusal := .next (s.event (fun t => t.marginStep n.val))

/-- MRG_SETTLE_END (R201). -/
def execMrgSettleEnd (n : Fin 64) (s : State) : Host.Outcome State Fault Refusal := .next (s.event (fun t => t.settleEnd n.val))

/-- MRG_HOLD_EXPIRED (R199). -/
def execMrgHoldExpired (n : Fin 64) (s : State) : Host.Outcome State Fault Refusal := .next (s.event (fun t => t.holdExpired n.val))

/-- STIP_SCHEDULED_TICK (R216). -/
def execStipScheduledTick (n : Fin 64) (s : State) : Host.Outcome State Fault Refusal :=
  .next (s.event (fun t => t.stipScheduled n.val))

/-- STIP_WAIT_MAX_END (R216). -/
def execStipWaitMaxEnd (n : Fin 64) (s : State) : Host.Outcome State Fault Refusal := .next (s.event (fun t => t.waitMaxEnd n.val))

/-- STIP_PRELOAD_END (R216). -/
def execStipPreloadEnd (n : Fin 64) (s : State) : Host.Outcome State Fault Refusal := .next (s.event (fun t => t.preloadEnd n.val))

/-- STIP_PATTERN_EDGE (R207). -/
def execStipPatternEdge (n : Fin 64) (s : State) : Host.Outcome State Fault Refusal := .next (s.event (fun t => t.patternEdge n.val))

/-- STIP_ACQUIRE_END (R216). -/
def execStipAcquireEnd (n : Fin 64) (s : State) : Host.Outcome State Fault Refusal := .next (s.event (fun t => t.acquireEnd n.val))

/-- STIP_ANALYSIS_DONE (R216). -/
def execStipAnalysisDone (n : Fin 64) (s : State) : Host.Outcome State Fault Refusal := .next (s.event (fun t => t.analysisDone n.val))

end Sys2Proof.Machine
end

