-- ==== Sys2Proof/Machine/PortRows.lean ====
section
/-! DEFINITION. The commands of the ports (spec/13): frames, request bodies, sessions. -/

namespace Sys2Proof.Machine

/-- WRITE_REQUEST (R356, R357). -/
def execWriteRequest (p : SpiPort) (frame : List Byte) (s : State) : Host.Outcome State Fault Refusal :=
  .next (s.writeRequest (spiNum p) frame).after

/-- WRITE_REQUEST_QUAD (R356, R357): the bytes are those of single mode. -/
def execWriteRequestQuad (p : SpiPort) (frame : List Byte) (s : State) : Host.Outcome State Fault Refusal :=
  .next (s.writeRequest (spiNum p) frame).after

/-- READ_RESPONSE (R357). -/
def execReadResponse (p : SpiPort) (s : State) : Host.Outcome State Fault Refusal := .next (s.readResponse (spiNum p)).after

/-- READ_RESPONSE_QUAD (R357). -/
def execReadResponseQuad (p : SpiPort) (s : State) : Host.Outcome State Fault Refusal := .next (s.readResponse (spiNum p)).after

/-- READ_STATUS (R356, R419). -/
def execReadStatus (p : SpiPort) (n : Nat) (s : State) : Host.Outcome State Fault Refusal :=
  .next (s.readPortStatus (spiNum p) n).after

/-- PROOF_READ (R419). -/
def execProofRead (start : BitVec 32) (n : Nat) (s : State) : Host.Outcome State Fault Refusal :=
  .next (s.proofFrame start.toNat n).after

/-- PROOF_READ_QUAD (R419). -/
def execProofReadQuad (start : BitVec 32) (n : Nat) (s : State) : Host.Outcome State Fault Refusal :=
  .next (s.proofFrame start.toNat n).after

/-- BALE_FRAME (R358, R359). -/
def execBaleFrame (id : BitVec 29) (data : List Byte) (s : State) : Host.Outcome State Fault Refusal :=
  .next (s.baleFrame id.toNat data).after

/-- SEGMENT_TIMEOUT (R359). -/
def execSegmentTimeout (s : State) : Host.Outcome State Fault Refusal := .next (s.event State.segmentTimeout)

/-- BUS_OFF (R360). -/
def execBusOff (s : State) : Host.Outcome State Fault Refusal := .next (s.busOff).after

/-- BUS_OFF_RECOVERY (R360). -/
def execBusOffRecovery (s : State) : Host.Outcome State Fault Refusal := .next (s.busOffEnd).after

/-- TRANSACTION (R46 to R50, R355, R364). -/
def execTransaction (p : Port) (s : State) : Host.Outcome State Fault Refusal := .next (s.event (fun t => t.transaction (portNum p)))

/-- OPEN (R361, R362). -/
def execOpenSession (p : Port) (s : State) : Host.Outcome State Fault Refusal := .next (s.event (fun t => t.openSession (portNum p)))

/-- PROOF (R361, R362). -/
def execProveSession (p : Port) (s : State) : Host.Outcome State Fault Refusal := .next (s.event (fun t => t.proveSession (portNum p)))

/-- AUTH_LOCKOUT_END (R362). -/
def execAuthLockoutEnd (p : Port) (s : State) : Host.Outcome State Fault Refusal := .next (s.event (fun t => t.lockoutEnd (portNum p)))

/-- CHALLENGE_EXPIRY (R361). -/
def execChallengeExpiry (p : Port) (s : State) : Host.Outcome State Fault Refusal :=
  .next (s.event (fun t => t.challengeExpiry (portNum p)))

/-- LEASE_LAPSE (R366). -/
def execLeaseLapse (p : Port) (s : State) : Host.Outcome State Fault Refusal := .next (s.event (fun t => t.leaseLapse (portNum p)))

end Sys2Proof.Machine
end

