-- ==== Sys2Proof/Machine/PowerRows.lean ====
section
/-! DEFINITION. The events of updates (spec/14), start-up, power states and freeze (spec/15). -/

namespace Sys2Proof.Machine

/-- VERIFY_DONE (R385). -/
def execVerifyDone (s : State) : Host.Outcome State Fault Refusal := .next (s.event State.verifyDone)

/-- APPLY_OUTPUT_DONE (R387). -/
def execApplyOutputDone (s : State) : Host.Outcome State Fault Refusal := .next (s.event State.applyOutputDone)

/-- ACTIVATION (R392). -/
def execActivation (s : State) : Host.Outcome State Fault Refusal := .next (s.event State.activation)

/-- CONFIRM_SPAN_END (R398). -/
def execConfirmSpanEnd (s : State) : Host.Outcome State Fault Refusal := .next (s.event State.confirmSpanEnd)

/-- CONFIRMATION (R394). -/
def execConfirmation (s : State) : Host.Outcome State Fault Refusal := .next (s.event State.confirmation)

/-- TRIAL_TIME_END (R395). -/
def execTrialTimeEnd (s : State) : Host.Outcome State Fault Refusal := .next (s.event State.trialTimeEnd)

/-- SUPPLIES_GOOD (R404). -/
def execSuppliesGood (s : State) : Host.Outcome State Fault Refusal := .next (s.suppliesGood).after

/-- POWER_ON_END (R404). -/
def execPowerOnEnd (s : State) : Host.Outcome State Fault Refusal := .next (s.powerOnEnd).after

/-- CLOCKS_END (R404). -/
def execClocksEnd (s : State) : Host.Outcome State Fault Refusal := .next (s.clocksEnd).after

/-- RESET_LOW (R404). -/
def execResetLow (powerLost : Bool) (s : State) : Host.Outcome State Fault Refusal := .next (s.resetLow powerLost).after

/-- END_OF_STARTUP (R405). -/
def execEndOfStartup (s : State) : Host.Outcome State Fault Refusal := .next (s.event State.endOfStartup)

/-- POWER_STATE_ENTER (R412). -/
def execPowerStateEnter (s : State) : Host.Outcome State Fault Refusal := .next (s.event State.powerStateEnter)

/-- FULL_REACHED (R412). -/
def execFullReached (s : State) : Host.Outcome State Fault Refusal := .next (s.event State.fullReached)

/-- DWELL_END (R411). -/
def execDwellEnd (s : State) : Host.Outcome State Fault Refusal := .next (s.event State.dwellEnd)

/-- FREEZE (R413). -/
def execFreeze (s : State) : Host.Outcome State Fault Refusal := .next (s.onPin State.freeze).after

/-- FROZEN_BEAT_EDGE (R416). -/
def execFrozenBeatEdge (s : State) : Host.Outcome State Fault Refusal := .next (s.onPin State.frozenBeatEdge).after

/-- FIRST_CLOCKED_TICK (R417). -/
def execFirstClockedTick (s : State) : Host.Outcome State Fault Refusal := .next (s.firstClockedTick).after

end Sys2Proof.Machine
end

