-- ==== Sys2Proof/Machine/RailRows.lean ====
section
/-! DEFINITION. The events of the rails: sequencing (spec/04), comparators (spec/05) and PMBus. -/

namespace Sys2Proof.Machine

/-- A cause of local shutdown arises now (R118), in an operating card: one that its line of the table says stands, and that does not stand
already. Causes 0x03, 0x04 and 0x06 arise only where ON_FAIL, TRIP_SCOPE or the collector acts. -/
def State.causeArises (s : State) (cause : Nat) : State :=
  let stands := (cause == 1 && s.input.lossDone && !s.input.good) || (cause == 2 && s.objB K.PFAIL_SHUTDOWN && s.input.pfailLow)
    || (cause == 5 && s.objB K.LOCAL_HOLD)
  if s.serving && stands && !s.seq.causes.contains cause then s.localShutdown cause s.now else s

/-- STEP_START (R106). -/
def execStepStart (s : State) : Host.Outcome State Fault Refusal := .next (s.event State.stepStart)

/-- ON_SLOT (R105). -/
def execOnSlot (n : Fin 64) (s : State) : Host.Outcome State Fault Refusal := .next (s.event (fun t => t.railSlot n.val))

/-- PREREQ_TIMEOUT (R105). -/
def execPrereqTimeout (n : Fin 64) (s : State) : Host.Outcome State Fault Refusal := .next (s.event (fun t => t.prereqTimeout n.val))

/-- RAIL_QUALIFY (R108). -/
def execRailQualify (n : Fin 64) (s : State) : Host.Outcome State Fault Refusal := .next (s.event (fun t => t.railQualify n.val))

/-- RAMP_TIMEOUT (R105). -/
def execRampTimeout (n : Fin 64) (s : State) : Host.Outcome State Fault Refusal := .next (s.event (fun t => t.rampTimeout n.val))

/-- FALLING_PASS (R110). -/
def execFallingPass (s : State) : Host.Outcome State Fault Refusal := .next (s.event State.fallingPass)

/-- OFF_SLOT (R110). -/
def execOffSlot (n : Fin 64) (s : State) : Host.Outcome State Fault Refusal := .next (s.event (fun t => t.offSlotRow n.val))

/-- DISCH_TIMEOUT (R105). -/
def execDischTimeout (n : Fin 64) (s : State) : Host.Outcome State Fault Refusal := .next (s.event (fun t => t.dischTimeout n.val))

/-- DISCH_FAILED (R105). -/
def execDischFailed (n : Fin 64) (s : State) : Host.Outcome State Fault Refusal := .next (s.event (fun t => t.dischFailed n.val))

/-- LOCAL_SHUTDOWN (R118). -/
def execLocalShutdown (cause : BitVec 8) (s : State) : Host.Outcome State Fault Refusal :=
  .next (s.event (fun t => t.causeArises cause.toNat))

/-- HOLDOFF_END (R119). -/
def execHoldoffEnd (s : State) : Host.Outcome State Fault Refusal := .next (s.event State.holdoffEnd)

/-- PMBUS_TRANSACTION_DONE (R129). -/
def execPmbusTransactionDone (bus : Fin 4) (ok : Bool) (data : BitVec 16) (s : State) : Host.Outcome State Fault Refusal :=
  .next (s.event (fun t => t.pmbDone bus.val ok data.toNat))

/-- COMPARATOR_CROSS (R140). -/
def execComparatorCross (n : Fin 64) (c : Fin 5) (s : State) : Host.Outcome State Fault Refusal :=
  .next (s.freeEvent (fun t => t.cross n.val c.val))

/-- COMPARATOR_QUALIFY (R142). -/
def execComparatorQualify (n : Fin 64) (c : Fin 5) (s : State) : Host.Outcome State Fault Refusal :=
  .next (s.freeEvent (fun t => t.qualifyDue n.val c.val))

/-- FILTER_CLEAR (R140). -/
def execFilterClear (n : Fin 64) (c : Fin 5) (s : State) : Host.Outcome State Fault Refusal :=
  .next (s.freeEvent (fun t => t.filterClear n.val c.val))

/-- COMPARATOR_RETURN (R140). -/
def execComparatorReturn (n : Fin 64) (c : Fin 5) (s : State) : Host.Outcome State Fault Refusal :=
  .next (s.freeEvent (fun t => t.goBack n.val c.val))

/-- RAIL_DECISION_WINDOW (R153). -/
def execRailDecisionWindow (s : State) : Host.Outcome State Fault Refusal := .next (s.event State.railWindowEnd)

/-- ENERGY_PERIOD (R155). -/
def execEnergyPeriod (n : Fin 64) (s : State) : Host.Outcome State Fault Refusal := .next (s.event (fun t => t.energyPeriod n.val))

end Sys2Proof.Machine
end

