-- ==== Sys2Proof/Machine/StoreRows.lean ====
section
/-! DEFINITION. The events of the store (spec/11) and the ledger (spec/12). -/

namespace Sys2Proof.Machine

/-- AUTO_ETCH_DUE (R308). -/
def execAutoEtchDue (s : State) : Host.Outcome State Fault Refusal := .next (s.event State.autoEtchDue)

/-- ETCH_SNAPSHOT (R309). -/
def execEtchSnapshot (s : State) : Host.Outcome State Fault Refusal := .next (s.event State.etchSnapshot)

/-- ETCH_PAGE_COMMIT (R311). -/
def execEtchPageCommit (ok : Bool) (ch : Fin 8) (s : State) : Host.Outcome State Fault Refusal :=
  .next (s.event (fun t => t.etchPageCommit ok ch.val))

/-- ECC_PATROL (R305). -/
def execEccPatrol (page : BitVec 12) (ch : Fin 8) (group : BitVec 8) (uncorrectable : Bool) (s : State) : Host.Outcome State Fault Refusal :=
  .next (s.event (fun t => t.eccPatrol page.toNat ch.val group.toNat uncorrectable))

/-- PAGE_RELOAD (R305). -/
def execPageReload (page : BitVec 12) (s : State) : Host.Outcome State Fault Refusal :=
  .next (s.event (fun t => t.pageReload page.toNat))

/-- SCRUB_STEP (R324). -/
def execScrubStep (corrected : BitVec 9) (uncorrectable : Bool) (group : BitVec 8) (s : State) : Host.Outcome State Fault Refusal :=
  .next (s.event (fun t => t.scrubStep corrected.toNat uncorrectable group.toNat))

/-- OP_TIME_ADD (R323). -/
def execOpTimeAdd (s : State) : Host.Outcome State Fault Refusal := .next (s.event State.opTimeAdd)

/-- RECALL (R319). -/
def execRecall (s : State) : Host.Outcome State Fault Refusal := .next (s.event State.recallStore)

/-- LEDGER_ENTRY (R337). -/
def execLedgerEntry (s : State) : Host.Outcome State Fault Refusal := .next (s.event State.ledgerEntry)

/-- LEDGER_FIRST_MARK (R341). -/
def execLedgerFirstMark (s : State) : Host.Outcome State Fault Refusal := .next (s.event State.firstMark)

/-- LEDGER_LINK (R342). -/
def execLedgerLink (s : State) : Host.Outcome State Fault Refusal := .next (s.event State.linkRecords)

/-- LEDGER_RECONCILE (R343). -/
def execLedgerReconcile (s : State) : Host.Outcome State Fault Refusal := .next (s.event State.reconcile)

end Sys2Proof.Machine
end

