-- ==== Sys2Proof/Machine/TollRows.lean ====
section
/-! DEFINITION. The events of sinks and tolls (spec/08). -/

namespace Sys2Proof.Machine

/-- POWER_GRANT (R239). -/
def execPowerGrant (s : State) : Host.Outcome State Fault Refusal := .next (s.event State.servePower)

/-- ENERGY_GRANT (R212, R239). -/
def execEnergyGrant (s : State) : Host.Outcome State Fault Refusal := .next (s.event State.energyGrants)

/-- SINK_SLEW_DONE (R242); a run in UNLOAD may now be unloaded. -/
def execSinkSlewDone (n : Fin 64) (s : State) : Host.Outcome State Fault Refusal :=
  .next (s.event (fun t => (t.sinkSlewDone n.val).stipUnloaded n.val))

/-- ENERGY_OVERRUN (R234). -/
def execEnergyOverrun (n : Fin 64) (s : State) : Host.Outcome State Fault Refusal := .next (s.event (fun t => t.energyOverrun n.val))

/-- COOLING_EXPIRY (R234). -/
def execCoolingExpiry (s : State) : Host.Outcome State Fault Refusal := .next (s.event State.coolingExpiry)

/-- POWER_GRANT_REEVAL (R240). -/
def execPowerGrantReeval (s : State) : Host.Outcome State Fault Refusal := .next (s.event State.reevalPower)

/-- RESERVE_UPDATE (R241). -/
def execReserveUpdate (s : State) : Host.Outcome State Fault Refusal := .next (s.event State.reserveUpdate)

/-- LOAD_TIME_END (R243). -/
def execLoadTimeEnd (n : Fin 64) (s : State) : Host.Outcome State Fault Refusal := .next (s.event (fun t => t.loadTimeEnd n.val))

end Sys2Proof.Machine
end

