-- ==== Sys2Proof/Machine/Dispatch.lean ====
section
/-! DEFINITION. One arm for each command: a direct call of its meaning. -/

namespace Sys2Proof.Machine

/-- The effect of a command on everything but the queue. -/
def exec (i : Instr) (s : State) : Host.Outcome State Fault Refusal :=
  match i with
  | .writeRequest p frame => Sys2Proof.Machine.execWriteRequest p frame s
  | .writeRequestQuad p frame => Sys2Proof.Machine.execWriteRequestQuad p frame s
  | .readResponse p => Sys2Proof.Machine.execReadResponse p s
  | .readResponseQuad p => Sys2Proof.Machine.execReadResponseQuad p s
  | .readStatus p n => Sys2Proof.Machine.execReadStatus p n s
  | .proofRead start n => Sys2Proof.Machine.execProofRead start n s
  | .proofReadQuad start n => Sys2Proof.Machine.execProofReadQuad start n s
  | .baleFrame id data => Sys2Proof.Machine.execBaleFrame id data s
  | .segmentTimeout => Sys2Proof.Machine.execSegmentTimeout s
  | .busOff => Sys2Proof.Machine.execBusOff s
  | .busOffRecovery => Sys2Proof.Machine.execBusOffRecovery s
  | .transaction p => Sys2Proof.Machine.execTransaction p s
  | .openSession p => Sys2Proof.Machine.execOpenSession p s
  | .proveSession p => Sys2Proof.Machine.execProveSession p s
  | .authLockoutEnd p => Sys2Proof.Machine.execAuthLockoutEnd p s
  | .challengeExpiry p => Sys2Proof.Machine.execChallengeExpiry p s
  | .leaseLapse p => Sys2Proof.Machine.execLeaseLapse p s
  | .objectWrite p index sub data => Sys2Proof.Machine.execObjectWrite p index sub data s
  | .splitPairLoRead p index sub => Sys2Proof.Machine.execSplitPairLoRead p index sub s
  | .splitPairHiRead p index sub => Sys2Proof.Machine.execSplitPairHiRead p index sub s
  | .claimGroup p g => Sys2Proof.Machine.execClaimGroup p g s
  | .releaseGroup p g => Sys2Proof.Machine.execReleaseGroup p g s
  | .claimBreak p g => Sys2Proof.Machine.execClaimBreak p g s
  | .closeSession p => Sys2Proof.Machine.execCloseSession p s
  | .writeRule p r word => Sys2Proof.Machine.execWriteRule p r word s
  | .stencilReset p => Sys2Proof.Machine.execStencilReset p s
  | .latencyReq p us => Sys2Proof.Machine.execLatencyReq p us s
  | .restoreDefaults p => Sys2Proof.Machine.execRestoreDefaults p s
  | .dpWindowRead p n => Sys2Proof.Machine.execDpWindowRead p n s
  | .dpWindowWrite p data => Sys2Proof.Machine.execDpWindowWrite p data s
  | .recordData p => Sys2Proof.Machine.execRecordData p s
  | .ffData p => Sys2Proof.Machine.execFfData p s
  | .ledgerClearRecords p => Sys2Proof.Machine.execLedgerClearRecords p s
  | .ledgerClearAll p => Sys2Proof.Machine.execLedgerClearAll p s
  | .convoyEnable p on => Sys2Proof.Machine.execConvoyEnable p on s
  | .wayRequest p w => Sys2Proof.Machine.execWayRequest p w s
  | .haltRequest p on => Sys2Proof.Machine.execHaltRequest p on s
  | .localHold p on => Sys2Proof.Machine.execLocalHold p on s
  | .setPresent p n on => Sys2Proof.Machine.execSetPresent p n on s
  | .clearFlags p n => Sys2Proof.Machine.execClearFlags p n s
  | .clearLatch p n => Sys2Proof.Machine.execClearLatch p n s
  | .scanSelect p b => Sys2Proof.Machine.execScanSelect p b s
  | .readmit p s_ => Sys2Proof.Machine.execReadmit p s_ s
  | .convert p c => Sys2Proof.Machine.execConvert p c s
  | .ringRearm p => Sys2Proof.Machine.execRingRearm p s
  | .ringTrigger p => Sys2Proof.Machine.execRingTrigger p s
  | .capArm p => Sys2Proof.Machine.execCapArm p s
  | .capAbort p => Sys2Proof.Machine.execCapAbort p s
  | .capRelease p => Sys2Proof.Machine.execCapRelease p s
  | .mrgCmdNominal p n => Sys2Proof.Machine.execMrgCmdNominal p n s
  | .mrgCmdHigh p n => Sys2Proof.Machine.execMrgCmdHigh p n s
  | .mrgCmdLow p n => Sys2Proof.Machine.execMrgCmdLow p n s
  | .stipCmdSchedule p n => Sys2Proof.Machine.execStipCmdSchedule p n s
  | .stipCmdCancel p n => Sys2Proof.Machine.execStipCmdCancel p n s
  | .loadCmdApply p n => Sys2Proof.Machine.execLoadCmdApply p n s
  | .loadCmdRemove p n => Sys2Proof.Machine.execLoadCmdRemove p n s
  | .inrushSet p v => Sys2Proof.Machine.execInrushSet p v s
  | .feedEnable p f on => Sys2Proof.Machine.execFeedEnable p f on s
  | .feedClear p f => Sys2Proof.Machine.execFeedClear p f s
  | .forceMessage p src => Sys2Proof.Machine.execForceMessage p src s
  | .testMode p on => Sys2Proof.Machine.execTestMode p on s
  | .faultAck p => Sys2Proof.Machine.execFaultAck p s
  | .faultNHold p on => Sys2Proof.Machine.execFaultNHold p on s
  | .etchCmd p => Sys2Proof.Machine.execEtchCmd p s
  | .etchAbort p => Sys2Proof.Machine.execEtchAbort p s
  | .updCmdOpen p => Sys2Proof.Machine.execUpdCmdOpen p s
  | .updBlock p index => Sys2Proof.Machine.execUpdBlock p index s
  | .updCmdVerify p => Sys2Proof.Machine.execUpdCmdVerify p s
  | .updCmdApply p => Sys2Proof.Machine.execUpdCmdApply p s
  | .updCmdSchedule p => Sys2Proof.Machine.execUpdCmdSchedule p s
  | .updCmdUnschedule p => Sys2Proof.Machine.execUpdCmdUnschedule p s
  | .updCmdConfirm p => Sys2Proof.Machine.execUpdCmdConfirm p s
  | .updCmdAbort p => Sys2Proof.Machine.execUpdCmdAbort p s
  | .beatEdge => Sys2Proof.Machine.execBeatEdge s
  | .spuriousEdge => Sys2Proof.Machine.execSpuriousEdge s
  | .forcedRelease => Sys2Proof.Machine.execForcedRelease s
  | .beatFrame frame => Sys2Proof.Machine.execBeatFrame frame s
  | .soloBeat => Sys2Proof.Machine.execSoloBeat s
  | .lossTimeout => Sys2Proof.Machine.execLossTimeout s
  | .candidateWait => Sys2Proof.Machine.execCandidateWait s
  | .leaderBeat => Sys2Proof.Machine.execLeaderBeat s
  | .beatFrameSend halt vote => Sys2Proof.Machine.execBeatFrameSend halt vote s
  | .replySend won => Sys2Proof.Machine.execReplySend won s
  | .tollRequest reply => Sys2Proof.Machine.execTollRequest reply s
  | .tollOffer reply => Sys2Proof.Machine.execTollOffer reply s
  | .xferSent reply => Sys2Proof.Machine.execXferSent reply s
  | .xferReceived reply => Sys2Proof.Machine.execXferReceived reply s
  | .wayRequestReply reply => Sys2Proof.Machine.execWayRequestReply reply s
  | .xferPropose => Sys2Proof.Machine.execXferPropose s
  | .xferDeliver => Sys2Proof.Machine.execXferDeliver s
  | .xferClose => Sys2Proof.Machine.execXferClose s
  | .xferResend => Sys2Proof.Machine.execXferResend s
  | .proposalForget => Sys2Proof.Machine.execProposalForget s
  | .deliverRepeat => Sys2Proof.Machine.execDeliverRepeat s
  | .ringDelay ticks => Sys2Proof.Machine.execRingDelay ticks s
  | .ringOpen => Sys2Proof.Machine.execRingOpen s
  | .cscStuck => Sys2Proof.Machine.execCscStuck s
  | .laneGrant => Sys2Proof.Machine.execLaneGrant s
  | .hardAgePreempt => Sys2Proof.Machine.execHardAgePreempt s
  | .preemptHandover lane => Sys2Proof.Machine.execPreemptHandover lane s
  | .lockstepMismatch => Sys2Proof.Machine.execLockstepMismatch s
  | .watchdogExpiry => Sys2Proof.Machine.execWatchdogExpiry s
  | .coreStart => Sys2Proof.Machine.execCoreStart s
  | .stepStart => Sys2Proof.Machine.execStepStart s
  | .onSlot n => Sys2Proof.Machine.execOnSlot n s
  | .prereqTimeout n => Sys2Proof.Machine.execPrereqTimeout n s
  | .railQualify n => Sys2Proof.Machine.execRailQualify n s
  | .rampTimeout n => Sys2Proof.Machine.execRampTimeout n s
  | .fallingPass => Sys2Proof.Machine.execFallingPass s
  | .offSlot n => Sys2Proof.Machine.execOffSlot n s
  | .dischTimeout n => Sys2Proof.Machine.execDischTimeout n s
  | .dischFailed n => Sys2Proof.Machine.execDischFailed n s
  | .localShutdown cause => Sys2Proof.Machine.execLocalShutdown cause s
  | .holdoffEnd => Sys2Proof.Machine.execHoldoffEnd s
  | .pmbusTransactionDone bus ok data => Sys2Proof.Machine.execPmbusTransactionDone bus ok data s
  | .comparatorCross n c => Sys2Proof.Machine.execComparatorCross n c s
  | .comparatorQualify n c => Sys2Proof.Machine.execComparatorQualify n c s
  | .filterClear n c => Sys2Proof.Machine.execFilterClear n c s
  | .railDecisionWindow => Sys2Proof.Machine.execRailDecisionWindow s
  | .energyPeriod n => Sys2Proof.Machine.execEnergyPeriod n s
  | .slotResult raw => Sys2Proof.Machine.execSlotResult raw s
  | .quickResult feedA feedB outSns vhu => Sys2Proof.Machine.execQuickResult feedA feedB outSns vhu s
  | .sliceSwap => Sys2Proof.Machine.execSliceSwap s
  | .forcedSwap => Sys2Proof.Machine.execForcedSwap s
  | .calStepDone n zero refP refN rise fall => Sys2Proof.Machine.execCalStepDone n zero refP refN rise fall s
  | .calStale n => Sys2Proof.Machine.execCalStale n s
  | .captureStart => Sys2Proof.Machine.execCaptureStart s
  | .captureDone => Sys2Proof.Machine.execCaptureDone s
  | .ringFreeze => Sys2Proof.Machine.execRingFreeze s
  | .ringAutoRearm => Sys2Proof.Machine.execRingAutoRearm s
  | .marginMoveStart n => Sys2Proof.Machine.execMarginMoveStart n s
  | .marginStep n => Sys2Proof.Machine.execMarginStep n s
  | .mrgSettleEnd n => Sys2Proof.Machine.execMrgSettleEnd n s
  | .mrgHoldExpired n => Sys2Proof.Machine.execMrgHoldExpired n s
  | .stipScheduledTick n => Sys2Proof.Machine.execStipScheduledTick n s
  | .stipWaitMaxEnd n => Sys2Proof.Machine.execStipWaitMaxEnd n s
  | .stipPreloadEnd n => Sys2Proof.Machine.execStipPreloadEnd n s
  | .stipPatternEdge n => Sys2Proof.Machine.execStipPatternEdge n s
  | .stipAcquireEnd n => Sys2Proof.Machine.execStipAcquireEnd n s
  | .stipAnalysisDone n => Sys2Proof.Machine.execStipAnalysisDone n s
  | .powerGrant => Sys2Proof.Machine.execPowerGrant s
  | .energyGrant => Sys2Proof.Machine.execEnergyGrant s
  | .sinkSlewDone n => Sys2Proof.Machine.execSinkSlewDone n s
  | .energyOverrun n => Sys2Proof.Machine.execEnergyOverrun n s
  | .coolingExpiry => Sys2Proof.Machine.execCoolingExpiry s
  | .powerGrantReeval => Sys2Proof.Machine.execPowerGrantReeval s
  | .reserveUpdate => Sys2Proof.Machine.execReserveUpdate s
  | .loadTimeEnd n => Sys2Proof.Machine.execLoadTimeEnd n s
  | .mated => Sys2Proof.Machine.execMated s
  | .matingLost early => Sys2Proof.Machine.execMatingLost early s
  | .extractDelayEnd => Sys2Proof.Machine.execExtractDelayEnd s
  | .earlyHigh => Sys2Proof.Machine.execEarlyHigh s
  | .inrushIssue => Sys2Proof.Machine.execInrushIssue s
  | .fuseFast f => Sys2Proof.Machine.execFuseFast f s
  | .fuseSlow f => Sys2Proof.Machine.execFuseSlow f s
  | .soaTimeout f => Sys2Proof.Machine.execSoaTimeout f s
  | .reverseOff f => Sys2Proof.Machine.execReverseOff f s
  | .forwardOn f => Sys2Proof.Machine.execForwardOn f s
  | .feedUv f => Sys2Proof.Machine.execFeedUv f s
  | .feedOv f => Sys2Proof.Machine.execFeedOv f s
  | .tripRunReset f => Sys2Proof.Machine.execTripRunReset f s
  | .retryRelease f => Sys2Proof.Machine.execRetryRelease f s
  | .retryFull f => Sys2Proof.Machine.execRetryFull f s
  | .damagedElement f => Sys2Proof.Machine.execDamagedElement f s
  | .damagedPath => Sys2Proof.Machine.execDamagedPath s
  | .inputLoss => Sys2Proof.Machine.execInputLoss s
  | .pfail => Sys2Proof.Machine.execPfail s
  | .pfailHigh => Sys2Proof.Machine.execPfailHigh s
  | .huLow => Sys2Proof.Machine.execHuLow s
  | .huOnReserve => Sys2Proof.Machine.execHuOnReserve s
  | .vauxReturn => Sys2Proof.Machine.execVauxReturn s
  | .vioLoss => Sys2Proof.Machine.execVioLoss s
  | .messageArrival index => Sys2Proof.Machine.execMessageArrival index s
  | .messageRelease => Sys2Proof.Machine.execMessageRelease s
  | .collectorDecision => Sys2Proof.Machine.execCollectorDecision s
  | .quietTimeEnd => Sys2Proof.Machine.execQuietTimeEnd s
  | .recoverySpanEnd => Sys2Proof.Machine.execRecoverySpanEnd s
  | .faultPulseEnd => Sys2Proof.Machine.execFaultPulseEnd s
  | .startupSpanEnd => Sys2Proof.Machine.execStartupSpanEnd s
  | .refclkLost => Sys2Proof.Machine.execRefclkLost s
  | .refclkFreq => Sys2Proof.Machine.execRefclkFreq s
  | .pllUnlock => Sys2Proof.Machine.execPllUnlock s
  | .filterUnlock => Sys2Proof.Machine.execFilterUnlock s
  | .autoEtchDue => Sys2Proof.Machine.execAutoEtchDue s
  | .etchSnapshot => Sys2Proof.Machine.execEtchSnapshot s
  | .etchPageCommit ok ch => Sys2Proof.Machine.execEtchPageCommit ok ch s
  | .eccPatrol page ch group uncorrectable => Sys2Proof.Machine.execEccPatrol page ch group uncorrectable s
  | .pageReload page => Sys2Proof.Machine.execPageReload page s
  | .scrubStep corrected uncorrectable group => Sys2Proof.Machine.execScrubStep corrected uncorrectable group s
  | .opTimeAdd => Sys2Proof.Machine.execOpTimeAdd s
  | .storeRecall => Sys2Proof.Machine.execRecall s
  | .ledgerEntry => Sys2Proof.Machine.execLedgerEntry s
  | .ledgerFirstMark => Sys2Proof.Machine.execLedgerFirstMark s
  | .ledgerLink => Sys2Proof.Machine.execLedgerLink s
  | .ledgerReconcile => Sys2Proof.Machine.execLedgerReconcile s
  | .verifyDone => Sys2Proof.Machine.execVerifyDone s
  | .applyOutputDone => Sys2Proof.Machine.execApplyOutputDone s
  | .activation => Sys2Proof.Machine.execActivation s
  | .confirmSpanEnd => Sys2Proof.Machine.execConfirmSpanEnd s
  | .confirmation => Sys2Proof.Machine.execConfirmation s
  | .trialTimeEnd => Sys2Proof.Machine.execTrialTimeEnd s
  | .suppliesGood => Sys2Proof.Machine.execSuppliesGood s
  | .resetLow powerLost => Sys2Proof.Machine.execResetLow powerLost s
  | .powerOnEnd => Sys2Proof.Machine.execPowerOnEnd s
  | .clocksEnd => Sys2Proof.Machine.execClocksEnd s
  | .endOfStartup => Sys2Proof.Machine.execEndOfStartup s
  | .powerStateEnter => Sys2Proof.Machine.execPowerStateEnter s
  | .fullReached => Sys2Proof.Machine.execFullReached s
  | .dwellEnd => Sys2Proof.Machine.execDwellEnd s
  | .freeze => Sys2Proof.Machine.execFreeze s
  | .frozenBeatEdge => Sys2Proof.Machine.execFrozenBeatEdge s
  | .firstClockedTick => Sys2Proof.Machine.execFirstClockedTick s
  | .relayForward cscIn holdLine dataLine => Sys2Proof.Machine.execRelayForward cscIn holdLine dataLine s
  | .comparatorReturn n c => Sys2Proof.Machine.execComparatorReturn n c s
  | .holdUpExhausted => Sys2Proof.Machine.execHoldUpExhausted s

end Sys2Proof.Machine
end

