-- ==== Sys2Proof/Safety.lean ====
section
/-! DEFINITION. What counts as a legal state, a state at rest, and a command that is admitted: the terms of the claims. -/

namespace Sys2Proof.Machine

/-! ### Legal states -/

/-- The shared lanes are lanes 64 to 127, each listed once; a hand-over names one of them (R18, R24). -/
def lanesOk (shared : FMap LaneOp) (hs : List Handover) : Prop :=
  FMap.sorted shared ∧ (∀ p ∈ shared, 64 ≤ p.1 ∧ p.1 < 128) ∧ (∀ h ∈ hs, 64 ≤ h.lane ∧ h.lane < 128)

/-- Working memory is canonical (R302, R319), the fabric records at most 1,024 beat edges (R13), and only lanes 64 to 127 carry
shared operations (R18). -/
structure State.Inv (s : State) : Prop where
  mem : Memory.wf s.mem = true
  edges : s.fab.edges.length ≤ 1024
  lanes : lanesOk s.lanes.shared s.lanes.handovers

/-! ### Frames -/

/-- The names of the fields of State. -/
inductive Fld where
  | pending | phase | fab | objs | mem | lanes | coll | ledger | store | cores | conv | cap | ring | activeArea | otherArea |
    input | rails | seq | pmb | railWins | live | margins | stips | sinks | gov | feeds | convoy | loader | upd | hosts | power |
    dwellFrom | supplies | vioClass | startClk | resetCause | filterClk | frozen | freezeLow | frz | ticked
  deriving DecidableEq, Repr

/-- Does one list of fields lie within another? -/
def within (a b : List Fld) : Bool := a.all (fun x => b.contains x)

/-- The state b agrees with the state a in every field that the list does not name. -/
structure State.SameBut (a : State) (l : List Fld) (b : State) : Prop where
  pending : l.contains .pending = false → b.pending = a.pending
  phase : l.contains .phase = false → b.phase = a.phase
  fab : l.contains .fab = false → b.fab = a.fab
  objs : l.contains .objs = false → b.objs = a.objs
  mem : l.contains .mem = false → b.mem = a.mem
  lanes : l.contains .lanes = false → b.lanes = a.lanes
  coll : l.contains .coll = false → b.coll = a.coll
  ledger : l.contains .ledger = false → b.ledger = a.ledger
  store : l.contains .store = false → b.store = a.store
  cores : l.contains .cores = false → b.cores = a.cores
  conv : l.contains .conv = false → b.conv = a.conv
  cap : l.contains .cap = false → b.cap = a.cap
  ring : l.contains .ring = false → b.ring = a.ring
  activeArea : l.contains .activeArea = false → b.activeArea = a.activeArea
  otherArea : l.contains .otherArea = false → b.otherArea = a.otherArea
  input : l.contains .input = false → b.input = a.input
  rails : l.contains .rails = false → b.rails = a.rails
  seq : l.contains .seq = false → b.seq = a.seq
  pmb : l.contains .pmb = false → b.pmb = a.pmb
  railWins : l.contains .railWins = false → b.railWins = a.railWins
  live : l.contains .live = false → b.live = a.live
  margins : l.contains .margins = false → b.margins = a.margins
  stips : l.contains .stips = false → b.stips = a.stips
  sinks : l.contains .sinks = false → b.sinks = a.sinks
  gov : l.contains .gov = false → b.gov = a.gov
  feeds : l.contains .feeds = false → b.feeds = a.feeds
  convoy : l.contains .convoy = false → b.convoy = a.convoy
  loader : l.contains .loader = false → b.loader = a.loader
  upd : l.contains .upd = false → b.upd = a.upd
  hosts : l.contains .hosts = false → b.hosts = a.hosts
  power : l.contains .power = false → b.power = a.power
  dwellFrom : l.contains .dwellFrom = false → b.dwellFrom = a.dwellFrom
  supplies : l.contains .supplies = false → b.supplies = a.supplies
  vioClass : l.contains .vioClass = false → b.vioClass = a.vioClass
  startClk : l.contains .startClk = false → b.startClk = a.startClk
  resetCause : l.contains .resetCause = false → b.resetCause = a.resetCause
  filterClk : l.contains .filterClk = false → b.filterClk = a.filterClk
  frozen : l.contains .frozen = false → b.frozen = a.frozen
  freezeLow : l.contains .freezeLow = false → b.freezeLow = a.freezeLow
  frz : l.contains .frz = false → b.frz = a.frz
  ticked : l.contains .ticked = false → b.ticked = a.ticked

/-! ### The parts of working memory -/

/-- The parts of working memory that the device itself writes, by the writer's own addresses; `all` is the whole of it, which the data
port and a page's reload may reach. -/
inductive Zone where
  | areaHead | area | manifest | etchLog | ledger | firstFault | capture | trend | ring | all
  deriving DecidableEq, Repr

/-- Does a part of working memory hold an address? -/
def Zone.covers (z : Zone) (a : Nat) : Prop :=
  match z with
  | .areaHead => ∃ k, areaAt k ≤ a ∧ a < areaAt k + 16
  | .area => ∃ k, areaAt k ≤ a ∧ a < areaAt k + 3 * 16384
  | .manifest => manifestAt ≤ a ∧ a < manifestAt + 4
  | .etchLog => ∃ n, etchLogAddr n ≤ a ∧ a < etchLogAddr n + 32
  | .ledger => ∃ r, recAddr r ≤ a ∧ a < recAddr r + 64
  | .firstFault => ∃ j, ffAddr j ≤ a ∧ a < ffAddr j + 64
  | .capture => ∃ k, captureAddr k ≤ a ∧ a < captureAddr k + 2
  | .trend => ∃ n, trendAddr n ≤ a ∧ a < trendAddr n + 128
  | .ring => ∃ n, ringPageAddr n ≤ a ∧ a < ringPageAddr n + 16384
  | .all => True

/-- Every byte outside the listed parts of working memory reads as before. -/
def State.MemBut (a : State) (zs : List Zone) (b : State) : Prop :=
  ∀ i, (∀ z ∈ zs, ¬ z.covers i) → memByte b.mem i = memByte a.mem i

/-- The fields of State that a command may change, what follows on its tick included. -/
def mayChange (c : Instr) : List Fld :=
  match c with
  | .writeRequest _ _ | .writeRequestQuad _ _ | .readResponse _ | .readResponseQuad _ | .readStatus _ _ | .proofRead _ _
  | .proofReadQuad _ _ | .baleFrame _ _ | .segmentTimeout | .busOff | .busOffRecovery | .authLockoutEnd _ | .challengeExpiry _
  | .leaseLapse _ | .spuriousEdge | .forcedRelease | .beatFrameSend _ _ | .replySend _ | .tollRequest _ | .tollOffer _
  | .xferSent _ | .xferReceived _ | .wayRequestReply _ | .xferPropose | .xferDeliver | .xferClose | .xferResend
  | .proposalForget | .deliverRepeat | .ringDelay _ | .ringOpen | .cscStuck | .laneGrant | .hardAgePreempt | .preemptHandover _
  | .lockstepMismatch | .watchdogExpiry | .stepStart | .onSlot _ | .prereqTimeout _ | .railQualify _ | .rampTimeout _
  | .fallingPass | .offSlot _ | .dischTimeout _ | .dischFailed _ | .localShutdown _ | .holdoffEnd | .pmbusTransactionDone _ _ _
  | .comparatorCross _ _ | .comparatorQualify _ _ | .filterClear _ _ | .railDecisionWindow | .quickResult _ _ _ _ | .sliceSwap
  | .forcedSwap | .calStepDone _ _ _ _ _ _ | .calStale _ | .captureStart | .captureDone | .ringFreeze | .ringAutoRearm
  | .marginMoveStart _ | .marginStep _ | .mrgSettleEnd _ | .mrgHoldExpired _ | .stipScheduledTick _ | .stipWaitMaxEnd _
  | .stipPreloadEnd _ | .stipPatternEdge _ | .stipAcquireEnd _ | .stipAnalysisDone _ | .powerGrant | .sinkSlewDone _
  | .energyOverrun _ | .coolingExpiry | .powerGrantReeval | .reserveUpdate | .loadTimeEnd _ | .mated | .matingLost _
  | .extractDelayEnd | .earlyHigh | .inrushIssue | .fuseFast _ | .fuseSlow _ | .soaTimeout _ | .reverseOff _ | .forwardOn _
  | .feedUv _ | .feedOv _ | .tripRunReset _ | .retryRelease _ | .retryFull _ | .damagedElement _ | .damagedPath | .inputLoss
  | .pfail | .pfailHigh | .huLow | .huOnReserve | .messageArrival _ | .messageRelease | .collectorDecision | .quietTimeEnd
  | .recoverySpanEnd | .faultPulseEnd | .startupSpanEnd | .refclkLost | .refclkFreq | .pllUnlock | .filterUnlock | .autoEtchDue
  | .etchSnapshot | .etchPageCommit _ _ | .eccPatrol _ _ _ _ | .scrubStep _ _ _ | .opTimeAdd | .ledgerEntry | .ledgerFirstMark
  | .ledgerLink | .ledgerReconcile | .verifyDone | .activation | .confirmSpanEnd | .confirmation | .trialTimeEnd | .powerOnEnd
  | .powerStateEnter | .fullReached | .frozenBeatEdge | .relayForward _ _ _ | .comparatorReturn _ _ =>
    [.phase, .objs, .mem, .lanes, .coll, .ledger, .store, .cores, .conv, .cap, .ring, .input, .rails, .seq, .pmb, .railWins,
      .margins, .stips, .sinks, .gov, .feeds, .convoy, .loader, .upd, .hosts, .power, .frozen, .frz]
  | .transaction _ | .objectWrite _ _ _ _ | .splitPairLoRead _ _ _ | .splitPairHiRead _ _ _ | .claimGroup _ _
  | .releaseGroup _ _ | .claimBreak _ _ | .closeSession _ | .writeRule _ _ _ | .stencilReset _ | .latencyReq _ _
  | .restoreDefaults _ | .dpWindowRead _ _ | .dpWindowWrite _ _ | .recordData _ | .ffData _ | .ledgerClearRecords _
  | .ledgerClearAll _ | .convoyEnable _ _ | .wayRequest _ _ | .haltRequest _ _ | .localHold _ _ | .setPresent _ _ _
  | .clearFlags _ _ | .clearLatch _ _ | .scanSelect _ _ | .readmit _ _ | .convert _ _ | .ringRearm _ | .ringTrigger _
  | .capArm _ | .capAbort _ | .capRelease _ | .mrgCmdNominal _ _ | .mrgCmdHigh _ _ | .mrgCmdLow _ _ | .stipCmdSchedule _ _
  | .stipCmdCancel _ _ | .loadCmdApply _ _ | .loadCmdRemove _ _ | .inrushSet _ _ | .feedEnable _ _ _ | .feedClear _ _
  | .forceMessage _ _ | .testMode _ _ | .faultAck _ | .faultNHold _ _ | .etchCmd _ | .etchAbort _ | .updCmdOpen _
  | .updBlock _ _ | .updCmdVerify _ | .updCmdApply _ | .updCmdSchedule _ | .updCmdUnschedule _ | .updCmdConfirm _
  | .updCmdAbort _ =>
    [.phase, .objs, .mem, .lanes, .coll, .ledger, .store, .cores, .conv, .cap, .ring, .otherArea, .input, .rails, .seq, .pmb,
      .railWins, .live, .margins, .stips, .sinks, .gov, .feeds, .convoy, .loader, .upd, .hosts, .power, .dwellFrom, .frozen,
      .frz, .ticked]
  | .openSession _ | .proveSession _ | .endOfStartup | .dwellEnd =>
    [.phase, .objs, .mem, .lanes, .coll, .ledger, .store, .cores, .conv, .cap, .ring, .input, .rails, .seq, .pmb, .railWins,
      .margins, .stips, .sinks, .gov, .feeds, .convoy, .loader, .upd, .hosts, .power, .dwellFrom, .frozen, .frz]
  | .beatEdge | .beatFrame _ | .soloBeat | .lossTimeout | .candidateWait | .leaderBeat =>
    [.phase, .fab, .objs, .mem, .lanes, .coll, .ledger, .store, .cores, .conv, .cap, .ring, .input, .rails, .seq, .pmb,
      .railWins, .margins, .stips, .sinks, .gov, .feeds, .convoy, .loader, .upd, .hosts, .power, .frozen, .frz]
  | .coreStart =>
    [.phase, .objs, .mem, .lanes, .coll, .ledger, .store, .cores, .conv, .cap, .ring, .activeArea, .otherArea, .input,
      .rails, .seq, .pmb, .railWins, .margins, .stips, .sinks, .gov, .feeds, .convoy, .loader, .upd, .hosts, .power, .frozen,
      .frz]
  | .energyPeriod _ | .slotResult _ =>
    [.phase, .objs, .mem, .lanes, .coll, .ledger, .store, .cores, .conv, .cap, .ring, .input, .rails, .seq, .pmb, .railWins,
      .live, .margins, .stips, .sinks, .gov, .feeds, .convoy, .loader, .upd, .hosts, .power, .frozen, .frz]
  | .energyGrant | .pageReload _ | .storeRecall | .applyOutputDone =>
    [.phase, .objs, .mem, .lanes, .coll, .ledger, .store, .cores, .conv, .cap, .ring, .otherArea, .input, .rails, .seq, .pmb,
      .railWins, .margins, .stips, .sinks, .gov, .feeds, .convoy, .loader, .upd, .hosts, .power, .frozen, .frz]
  | .vauxReturn | .resetLow _ | .holdUpExhausted =>
    [.phase, .fab, .objs, .mem, .lanes, .coll, .ledger, .store, .cores, .conv, .cap, .ring, .activeArea, .otherArea, .input,
      .rails, .seq, .pmb, .railWins, .live, .margins, .stips, .sinks, .gov, .feeds, .convoy, .loader, .upd, .hosts, .power,
      .dwellFrom, .supplies, .vioClass, .startClk, .resetCause, .frozen, .frz, .ticked]
  | .vioLoss =>
    [.phase, .fab, .objs, .mem, .lanes, .coll, .ledger, .store, .cores, .conv, .cap, .ring, .activeArea, .otherArea, .input,
      .rails, .seq, .pmb, .railWins, .live, .margins, .stips, .sinks, .gov, .feeds, .convoy, .loader, .upd, .hosts, .power,
      .dwellFrom, .supplies, .vioClass, .startClk, .resetCause, .frozen, .freezeLow, .frz, .ticked]
  | .suppliesGood =>
    [.phase, .objs, .mem, .lanes, .coll, .ledger, .store, .cores, .conv, .cap, .ring, .input, .rails, .seq, .pmb, .railWins,
      .margins, .stips, .sinks, .gov, .feeds, .convoy, .loader, .upd, .hosts, .power, .supplies, .vioClass, .startClk,
      .frozen, .frz]
  | .clocksEnd =>
    [.phase, .fab, .objs, .mem, .lanes, .coll, .ledger, .store, .cores, .conv, .cap, .ring, .activeArea, .input, .rails,
      .seq, .pmb, .railWins, .margins, .stips, .sinks, .gov, .feeds, .convoy, .loader, .upd, .hosts, .power, .frozen, .frz]
  | .freeze =>
    [.phase, .objs, .mem, .lanes, .coll, .ledger, .store, .cores, .conv, .cap, .ring, .input, .rails, .seq, .pmb, .railWins,
      .margins, .stips, .sinks, .gov, .feeds, .convoy, .loader, .upd, .hosts, .power, .frozen, .freezeLow, .frz]
  | .firstClockedTick =>
    [.phase, .fab, .objs, .mem, .lanes, .coll, .ledger, .store, .cores, .conv, .cap, .ring, .input, .rails, .seq, .pmb,
      .railWins, .margins, .stips, .sinks, .gov, .feeds, .convoy, .loader, .upd, .hosts, .power, .frozen, .freezeLow, .frz]

/-- The parts of working memory that a command may write, what follows on its tick included. -/
def mayWrite (c : Instr) : List Zone :=
  match c with
  | .writeRequest _ _ | .writeRequestQuad _ _ | .readResponse _ | .readResponseQuad _ | .readStatus _ _ | .proofRead _ _
  | .proofReadQuad _ _ | .baleFrame _ _ | .segmentTimeout | .busOff | .busOffRecovery | .openSession _ | .proveSession _
  | .authLockoutEnd _ | .challengeExpiry _ | .leaseLapse _ | .spuriousEdge | .forcedRelease | .beatFrame _ | .beatFrameSend _ _
  | .replySend _ | .tollRequest _ | .tollOffer _ | .xferSent _ | .xferReceived _ | .wayRequestReply _ | .xferPropose
  | .xferDeliver | .xferClose | .xferResend | .proposalForget | .deliverRepeat | .ringDelay _ | .ringOpen | .cscStuck
  | .laneGrant | .hardAgePreempt | .preemptHandover _ | .lockstepMismatch | .watchdogExpiry | .coreStart | .stepStart
  | .onSlot _ | .prereqTimeout _ | .railQualify _ | .rampTimeout _ | .fallingPass | .offSlot _ | .dischTimeout _
  | .dischFailed _ | .localShutdown _ | .holdoffEnd | .pmbusTransactionDone _ _ _ | .comparatorCross _ _
  | .comparatorQualify _ _ | .filterClear _ _ | .railDecisionWindow | .energyPeriod _ | .quickResult _ _ _ _ | .sliceSwap
  | .forcedSwap | .calStepDone _ _ _ _ _ _ | .calStale _ | .captureStart | .captureDone | .ringFreeze | .ringAutoRearm
  | .marginMoveStart _ | .marginStep _ | .mrgSettleEnd _ | .mrgHoldExpired _ | .stipScheduledTick _ | .stipWaitMaxEnd _
  | .stipPreloadEnd _ | .stipPatternEdge _ | .stipAcquireEnd _ | .powerGrant | .sinkSlewDone _ | .energyOverrun _
  | .coolingExpiry | .powerGrantReeval | .reserveUpdate | .loadTimeEnd _ | .mated | .matingLost _ | .extractDelayEnd
  | .earlyHigh | .inrushIssue | .fuseFast _ | .fuseSlow _ | .soaTimeout _ | .reverseOff _ | .forwardOn _ | .feedUv _
  | .feedOv _ | .tripRunReset _ | .retryRelease _ | .retryFull _ | .damagedElement _ | .damagedPath | .inputLoss | .pfail
  | .pfailHigh | .huLow | .huOnReserve | .messageArrival _ | .messageRelease | .quietTimeEnd | .recoverySpanEnd
  | .faultPulseEnd | .startupSpanEnd | .refclkLost | .refclkFreq | .pllUnlock | .filterUnlock | .autoEtchDue
  | .eccPatrol _ _ _ _ | .scrubStep _ _ _ | .opTimeAdd | .verifyDone | .activation | .confirmSpanEnd | .confirmation
  | .trialTimeEnd | .suppliesGood | .powerOnEnd | .clocksEnd | .powerStateEnter | .fullReached | .dwellEnd | .freeze
  | .frozenBeatEdge | .firstClockedTick | .relayForward _ _ _ | .comparatorReturn _ _ =>
    [.areaHead]
  | .transaction _ | .objectWrite _ _ _ _ | .dpWindowWrite _ _ | .vauxReturn | .vioLoss | .pageReload _ | .storeRecall
  | .resetLow _ | .holdUpExhausted =>
    [.all]
  | .splitPairLoRead _ _ _ | .splitPairHiRead _ _ _ | .claimGroup _ _ | .releaseGroup _ _ | .claimBreak _ _ | .closeSession _
  | .writeRule _ _ _ | .stencilReset _ | .latencyReq _ _ | .restoreDefaults _ | .dpWindowRead _ _ | .recordData _ | .ffData _
  | .ledgerClearRecords _ | .ledgerClearAll _ | .convoyEnable _ _ | .wayRequest _ _ | .haltRequest _ _ | .localHold _ _
  | .setPresent _ _ _ | .clearFlags _ _ | .clearLatch _ _ | .scanSelect _ _ | .readmit _ _ | .convert _ _ | .ringRearm _
  | .ringTrigger _ | .capArm _ | .capAbort _ | .capRelease _ | .mrgCmdNominal _ _ | .mrgCmdHigh _ _ | .mrgCmdLow _ _
  | .stipCmdSchedule _ _ | .stipCmdCancel _ _ | .loadCmdApply _ _ | .loadCmdRemove _ _ | .inrushSet _ _ | .feedEnable _ _ _
  | .feedClear _ _ | .forceMessage _ _ | .testMode _ _ | .faultAck _ | .faultNHold _ _ | .etchCmd _ | .etchAbort _
  | .updCmdOpen _ | .updBlock _ _ | .updCmdVerify _ | .updCmdApply _ | .updCmdSchedule _ | .updCmdUnschedule _
  | .updCmdConfirm _ | .updCmdAbort _ =>
    [.areaHead, .manifest, .ledger, .capture, .ring]
  | .beatEdge | .soloBeat | .lossTimeout | .candidateWait | .leaderBeat =>
    [.areaHead, .etchLog, .ledger]
  | .slotResult _ | .energyGrant =>
    [.areaHead, .capture, .ring]
  | .stipAnalysisDone _ =>
    [.areaHead, .trend]
  | .collectorDecision =>
    [.areaHead, .firstFault]
  | .etchSnapshot =>
    [.areaHead, .etchLog, .ring]
  | .etchPageCommit _ _ =>
    [.areaHead, .ring]
  | .ledgerEntry | .ledgerLink | .ledgerReconcile =>
    [.areaHead, .ledger]
  | .ledgerFirstMark =>
    [.areaHead, .ledger, .firstFault]
  | .applyOutputDone =>
    [.areaHead, .area]
  | .endOfStartup =>
    [.areaHead, .manifest]

/-! ### States in which nothing follows on the tick -/

/-- Nothing is left to follow on this tick: start-up is over, no rail has an unreviewed role, no cause of shutdown has gone, no pass
or card transition is due, no etch of an apply has completed, no trial judges its health, the power state is the chosen one or Full, the
cores run, FREEZE_N is high, no chain of follow-on etches has ended, the reserve stands where it has to, and no rail leaves standby. -/
structure State.AtRest (s : State) : Prop where
  running : s.phase = .running
  roles : ∀ n ∈ railNos, s.roleStale n = false
  causes : s.clearCauses = s
  dependents : s.depRule = none
  card : s.cardRule = none
  rows : ∀ n ∈ railNos, s.rowWaits n = false
  noApply : s.upd.state ≠ .applying
  noTrial : s.upd.state ≠ .trial
  power : s.power = .full ∨ s.power = s.chosenState
  cores : s.cores.hold = none
  freeze : s.freezeLow = false
  chain : s.store.chainEnded = false
  reserve : s.reserveHigh = s.gov.high
  standby : ∀ n ∈ s.sinks.map Prod.fst, s.leavesStandby n = false

/-! ### Commands that a host sends as a one-member transaction -/

/-- A host row can be sent on port p: the port receives, no request waits on any port (R50), the session x is open and its lease runs
(R365), and the management cores run (R355). -/
structure State.Ready (s : State) (p : Nat) (x : Session) : Prop where
  receives : s.receives p = true
  quiet : s.requestWaits = false
  session : s.wake.current p s.fab.tick = some x
  cores : s.coresUp = true

/-- The session after its SEQ is taken and its lease renewed (R364, R365). -/
def State.nextSession (s : State) (x : Session) : Session :=
  { x with renewed := s.fab.tick, lastSeq := (x.lastSeq + 1) % 65536 }

/-- The state in which a host row of the session x on port p is judged: awake (R411), FRAME_ERR clear, SEQ taken, lease renewed, and the
response frames' NODE and SEQ [7:0] noted (R359). -/
def State.taken (s : State) (p : Nat) (x : Session) : State :=
  let w := s.wake.clearFrameErr p ((x.lastSeq + 1) % 65536)
  w.setPort p { w.port p with session := some (s.nextSession x) }

/-- The state t with the one-member transaction of the session x on port p answered by `a`: the response is formed under the session's
SEQ and key, stored (R364) and sent (R357, R359). -/
def State.answered (t : State) (p : Nat) (x : Session) (a : Answer) : State :=
  let body := t.response 0 ((x.lastSeq + 1) % 65536) x.level [a] [] (some x.key)
  (t.setPort p { t.port p with stored := some (body, [a]) }).deliver p body [a]

/-- The answer OK without data (Table 2.3). -/
def okAnswer : Answer := ⟨0, 0, []⟩

/-- The write of the number v to an object, as a member. -/
def writeOf (key v : Nat) : Member :=
  { write := true, index := key / 256, sub := key % 256, len := 0,
    data := leBytes (((objRowOfKey key).map (fun r => r.ty.bytes)).getD 1) v }

/-- The stencil admits a member of a session of a level on port p (R369), and no other port claims its object's group (R367). -/
abbrev State.permits (t : State) (p level : Nat) (m : Member) : Prop :=
  t.admitted p level (t.own p K.DP_ADDR) m = true ∧ t.claimedFrom p m.key = false

/-- The read of an object, as a member. -/
def readOf (key : Nat) : Member := { write := false, index := key / 256, sub := key % 256, len := 0, data := [] }

/-- The stencil admits a read of a session of a level on port p (R369); claims do not bear on reads (R367). -/
abbrev State.mayRead (t : State) (p level : Nat) (m : Member) : Prop := t.admitted p level (t.own p K.DP_ADDR) m = true

/-- May a session of a level write an object of a row now (Table 2.4, checks 5, 6 and 11): never an RO one, an OWN one only as owner, an
RWS one only in its safe state? -/
def State.writable (t : State) (r : ObjRow) (key level : Nat) : Bool :=
  match r.acc with
  | .ro => false
  | .rw => true
  | .wo => true
  | .rws => t.writeSafe key
  | .own => level == 2

/-- The commit of one plain value (R48): the value, what it starts, the convoy settings, the auto-etch timer. -/
def State.plainCommit (t : State) (p key v : Nat) : State :=
  let s1 := (t.writeValue p key v).writeHook t p key v
  let s2 := if key / 256 = 0x1400 ∧ key % 256 ≤ 6 then s1.convoyWritten.drive else s1
  (if keyClass key = .p then s2.startAutoTimer else s2).noteWindow t.collWindow

end Sys2Proof.Machine
end

