-- ==== Sys2Proof/Certificates/Slice0/Obligations.lean ====
section
/-! DEFINITION. The statements for the provers, with the rules of spec/ that they formalise. -/

open Sys2Proof Sys2Proof.Machine

/-- The claim commands (R368): the holder of the group changes, and nothing else but the session and its answer. CLOSE ends the
session (R371): its claims are released, its stored response is gone, the answer OK stays. LATENCY_REQ sets the own copy (R351,
R410). -/
def Obligations.ClaimAndSessionCommandsTakeEffect : Prop :=
  ∀ (s : State) (p : Port) (x : Session) (g : BitVec 8) (us : BitVec 32), s.Ready (portNum p) x →
    let q := portNum p
    let t := s.taken q x
    (g.toNat ≤ 0x4E →
      (t.permits q x.level (writeOf K.CLAIM g.toNat) → (t.holder g.toNat = none ∨ t.holder g.toNat = some q) →
        exec (.claimGroup p g) s
          = .next (({ t with hosts := { t.hosts with claims := fset t.hosts.claims g.toNat q } }).answered q x okAnswer).after)
      ∧ (t.permits q x.level (writeOf K.RELEASE g.toNat) →
        exec (.releaseGroup p g) s
          = .next ((if t.holder g.toNat = some q then { t with hosts := { t.hosts with claims := fdel t.hosts.claims g.toNat } }
              else t).answered q x okAnswer).after)
      ∧ (t.permits q x.level (writeOf K.CLAIM_BREAK g.toNat) → x.level = 2 →
        exec (.claimBreak p g) s
          = .next (({ t with hosts := { t.hosts with claims := fdel t.hosts.claims g.toNat } }).answered q x okAnswer).after))
    ∧ (t.permits q x.level (writeOf K.CLOSE 1) →
      ∃ u, exec (.closeSession p) s = .next u.after
        ∧ t.SameBut [.objs, .coll, .store, .cap, .sinks, .gov, .hosts, .dwellFrom] u
        ∧ (u.port q).session = none ∧ (u.port q).challenge = none ∧ (u.port q).stored = none
        ∧ (u.port q).answers = [okAnswer] ∧ (u.port q).ready = true ∧ ∀ g, u.holder g ≠ some q)
    ∧ (t.permits q x.level (writeOf K.LATENCY_REQ us.toNat) → us.toNat ≤ 4000000000 →
      exec (.latencyReq p us) s
        = .next ((t.setPort q { t.port q with session := some { s.nextSession x with own := fset x.own K.LATENCY_REQ us.toNat }
            }).answered
            q x okAnswer).after)

/-- A write of RULE, and STENCIL_RESET (R369, R370): the rules, STENCIL_GEN and the claims that the new stencil no longer admits.
That rules which keep the values they hold leave STENCIL_GEN, the collector and the claims as they stand is the choice of the model
(log entry 27), not the spec's. -/
def Obligations.RuleAndStencilResetTakeEffect : Prop :=
  ∀ (s : State) (p : Port) (x : Session) (r : BitVec 8) (word : BitVec 64), s.Ready (portNum p) x → x.level = 2 →
    let q := portNum p
    let t := s.taken q x
    let raised (e : State) : Prop :=
      (e.rules ≠ t.rules → e.obj K.STENCIL_GEN = (t.obj K.STENCIL_GEN + 1) % 2 ^ 32
        ∧ e.coll = (t.raise (portSource q) 0x05 (e.obj K.STENCIL_GEN % 65536)).coll ∧ ∀ c ∈ e.hosts.claims, e.mayHold c.1 c.2 =
            true)
      ∧ (e.rules = t.rules → e.obj K.STENCIL_GEN = t.obj K.STENCIL_GEN ∧ e.coll = t.coll ∧ e.hosts.claims = t.hosts.claims)
    (t.permits q x.level (writeOf (K.RULE (r.toNat - 1)) word.toNat) → 1 ≤ r.toNat → r.toNat ≤ 32 →
      (field word.toNat 47 32 = 0) → ((t.setLive (K.RULE (r.toNat - 1)) word.toNat).rulesOk = true) →
      ∃ e, exec (.writeRule p r word) s = .next e.after
        ∧ t.SameBut [.objs, .coll, .store, .otherArea, .hosts, .dwellFrom] e
        ∧ e.rule r.toNat = word.toNat ∧ (∀ k, 1 ≤ k → k ≤ 32 → k ≠ r.toNat → e.rule k = t.rule k)
        ∧ (e.port q).answers = [okAnswer] ∧ raised e)
    ∧ (t.permits q x.level (writeOf K.STENCIL_RESET 0x5AFE0DEF) →
      ∃ e, exec (.stencilReset p) s = .next e.after
        ∧ t.SameBut [.objs, .coll, .store, .otherArea, .hosts, .dwellFrom] e
        ∧ (∀ k, 1 ≤ k → k ≤ 32 → e.rule k = ruleDefault k) ∧ (e.port q).answers = [okAnswer] ∧ raised e)

/-- OBJECT_WRITE of a plain value (R39, R40, R43, R48, R351), and RESTORE_DEFAULTS (R44, R390). -/
def Obligations.ObjectWriteAndRestoreDefaultsTakeEffect : Prop :=
  ∀ (s : State) (p : Port) (x : Session) (index : BitVec 16) (sub : BitVec 8) (data : List Byte) (r : ObjRow),
    s.Ready (portNum p) x →
    let q := portNum p
    let t := s.taken q x
    let key := objKey index.toNat sub.toNat
    let v := leNat data
    let m : Member := { write := true, index := index.toNat, sub := sub.toNat, len := 0, data := data }
    let w := t.preview q [m]
    (objRow index.toNat sub.toNat = some r → isCommand key = false → key ≠ K.DP_WINDOW → index.toNat ≠ 0x1201 →
      t.writable r key x.level = true → data.length = r.ty.bytes → reservedOk key v = true → r.rangeOk key v = true →
      t.permits q x.level m → t.boundStatus w q key v = St.ok → w.crossOk key v = true →
      exec (.objectWrite p index sub data) s = .next ((t.plainCommit q key v).answered q x okAnswer).after
      ∧ (ownKey key = true → (t.writeValue q key v).own q key = v)
      ∧ (ownKey key = false → (t.writeValue q key v).obj key = v)
      ∧ (∀ k, k ≠ key → k ≠ K.MIRROR_SKIPS → (t.writeValue q key v).obj k = t.obj k)
      ∧ (keyClass key = .p → (t.writeValue q key v).store.dirty.contains (homePage t.area key) = true
          ∧ (t.plainCommit q key v).store.autoFrom.isSome = true))
    ∧ (x.level = 2 → t.permits q x.level (writeOf K.RESTORE_DEFAULTS 0x5AFE0DEF) → t.allOff = true →
      t.upd.state ≠ .applying → t.upd.state ≠ .applied → t.upd.state ≠ .scheduled → t.upd.state ≠ .trial →
      exec (.restoreDefaults p) s
        = .next ((((t.restoreDefaults q).startAutoTimer).noteWindow t.collWindow).answered q x okAnswer).after
      ∧ ∀ k, t.defaultValues.obj k
          = if isClassP k = true ∧ 0x2000 ≤ k / 256 ∧ k / 256 ≤ 0x7FFF then objDefault k else t.obj k)

/-- R55: the read of the low half latches the live high half and the tag; the read of the high half returns and clears the latch.
The state h is the one that stands on the commit tick for the reads (R48, R52). -/
def Obligations.SplitPairLowHalfLatches : Prop :=
  ∀ (s : State) (p : Port) (x : Session) (index : BitVec 16) (sub : BitVec 8) (pair : Nat),
    s.Ready (portNum p) x →
    let q := portNum p
    let t := s.taken q x
    let h := t.hardware
    let key := objKey index.toNat sub.toNat
    t.mayRead q x.level (readOf key) →
    (splitOf key = some (pair, false) →
      let l : Latch := { key := pair, hi := h.readObj q (pair + 1), tag := h.obj (H.tag pair) }
      exec (.splitPairLoRead p index sub) s
        = .next ((h.setLatches q (addLatch (h.latches q) l)).answered q x ⟨0, h.obj (H.tag pair), leBytes 4 (h.readObj q
            key)⟩).after
      ∧ (addLatch (h.latches q) l).find? (fun y => y.key == pair) = some l)
    ∧ (∀ l, splitOf key = some (pair, true) → (h.latches q).find? (fun y => y.key == pair) = some l →
      exec (.splitPairHiRead p index sub) s
        = .next ((h.setLatches q ((h.latches q).filter (fun y => y.key != pair))).answered q x ⟨0, l.tag, leBytes 4 l.hi⟩).after
      ∧ ((h.latches q).filter (fun y => y.key != pair)).find? (fun y => y.key == pair) = none)

/-- R56: a read of the high half without a latch. -/
def Obligations.UnlatchedHighHalfReadsLive : Prop :=
  ∀ (s : State) (p : Port) (x : Session) (index : BitVec 16) (sub : BitVec 8) (pair : Nat),
    s.Ready (portNum p) x →
    let q := portNum p
    let t := s.taken q x
    let h := t.hardware
    let key := objKey index.toNat sub.toNat
    t.mayRead q x.level (readOf key) → splitOf key = some (pair, true) → (h.latches q).find? (fun y => y.key == pair) = none →
    exec (.splitPairHiRead p index sub) s
      = .next (h.answered q x ⟨1, h.obj (H.tag pair), leBytes 4 (h.readObj q key)⟩).after

/-- R345: the record that RECORD_SELECT selects, and the entry that FF_SELECT selects. The state h stands on the commit tick for the
reads (R48, R52). -/
def Obligations.RecordReadsAnswer : Prop :=
  ∀ (s : State) (p : Port) (x : Session) (n : BitVec 32), s.Ready (portNum p) x →
    let q := portNum p
    let t := s.taken q x
    let h := t.hardware
    let record : List Byte :=
      let r := h.own q K.RECORD_SELECT
      let b := h.readBytes (recAddr r) 64
      if h.inWindow r = true ∧ leAt b 60 4 = (crc32c (b.take 60)).toNat ∧ leAt b 0 4 = r ∧ (leAt b 4 1 = 1 ∨ leAt b 4 1 = 2) then b
      else List.replicate 64 0#8
    let entry : List Byte :=
      match ffSlot (h.own q K.FF_SELECT) (h.obj K.FF_BASE) with
      | some j =>
        let b := h.readBytes (ffAddr j) 64
        if leAt b 60 4 = (crc32c (b.take 60)).toNat ∧ leAt b 4 1 = 3 ∧ leAt b 48 4 = h.own q K.FF_SELECT then b
        else List.replicate 64 0#8
      | none => List.replicate 64 0#8
    (t.mayRead q x.level (readOf K.RECORD_DATA) →
      (t.ledger.reconciling = false → exec (.recordData p) s = .next (h.answered q x ⟨0, 0, record⟩).after)
      ∧ (t.ledger.reconciling = true → exec (.recordData p) s = .next (t.answered q x ⟨St.busy, 0, []⟩).after))
    ∧ (t.mayRead q x.level (readOf K.FF_DATA) →
      (t.ledger.reconciling = false → exec (.ffData p) s = .next (h.answered q x ⟨0, 0, entry⟩).after)
      ∧ (t.ledger.reconciling = true → exec (.ffData p) s = .next (t.answered q x ⟨St.busy, 0, []⟩).after))
    ∧ (∀ key, (key = K.RECORD_SELECT ∨ key = K.FF_SELECT) → t.permits q x.level (writeOf key n.toNat) →
      let e := t.setPort q { t.port q with session := some { s.nextSession x with own := fset x.own key n.toNat } }
      exec (.objectWrite p (BitVec.ofNat 16 (key / 256)) (BitVec.ofNat 8 (key % 256)) (leBytes 4 n.toNat)) s
        = .next (e.answered q x okAnswer).after
      ∧ e.own q key = n.toNat)

/-- DP_WINDOW (R325, R326): the bytes read, the bytes stored, every other byte of working memory, and DP_ADDR after it. The state h
stands on the commit tick for the reads (R48, R52). -/
def Obligations.DataWindowReadsAndStores : Prop :=
  ∀ (s : State) (p : Port) (x : Session) (n : BitVec 16) (data : List Byte), s.Ready (portNum p) x →
    let q := portNum p
    let t := s.taken q x
    let a := t.own q K.DP_ADDR
    (t.mayRead q x.level { write := false, index := 0x6100, sub := 2, len := n.toNat, data := [] } →
      1 ≤ n.toNat → n.toNat ≤ windowLimit q → a + n.toNat ≤ 0x04000000 → t.spanBusy a n.toNat = false →
      let h := t.hardware
      let b := h.own q K.DP_ADDR
      exec (.dpWindowRead p n) s
        = .next (((h.readBadGroups b n.toNat).writeValue q K.DP_ADDR (dpNext b n.toNat)).answered q x ⟨0, 0, h.portRead b
            n.toNat⟩).after
      ∧ (h.readBadGroups b n.toNat).mem = h.mem)
    ∧ (t.permits q x.level { write := true, index := 0x6100, sub := 2, len := 0, data := data } →
      1 ≤ data.length → data.length ≤ windowLimit q → a + data.length ≤ 0x04000000 → t.spanOpen a data.length = true →
      t.spanBusy a data.length = false →
      exec (.dpWindowWrite p data) s = .next (((t.portWrite a data).writeValue q K.DP_ADDR (dpNext a data.length)).answered q x
          okAnswer).after
      ∧ (∀ i (h : i < data.length), memByte (t.portWrite a data).mem (a + i) = data[i])
      ∧ ∀ b, (b < a ∨ a + data.length ≤ b) → memByte (t.portWrite a data).mem b = memByte t.mem b)

/-- LEDGER_CLEAR (R347) with its etch request (R308) and the records of R344 that go before it; the state b stands after those. The
record is read back where NEXT_RSEQ is a 32-bit number, as it is in every state of the hardware. -/
def Obligations.LedgerClearTakesEffect : Prop :=
  ∀ (s : State) (p : Port) (x : Session), s.Ready (portNum p) x → x.level = 2 →
    let q := portNum p
    let t := s.taken q x
    let b := t.restartRecs
    let cleared (scope : Nat) (e : State) : Prop :=
      e.store.autoFrom.isSome = true ∧ e.obj K.CLEARS = sat32 (t.obj K.CLEARS + 1)
      ∧ e.obj K.OLDEST_RSEQ = b.obj K.NEXT_RSEQ ∧ e.obj K.NEXT_RSEQ = (b.obj K.NEXT_RSEQ + 1) % 2 ^ 32
      ∧ e.wide K.RETIRED = (b.wide K.RETIRED + b.wide K.WINDOW_COUNT) % 2 ^ 64 ∧ e.wide K.WINDOW_COUNT = 0
      ∧ (b.obj K.NEXT_RSEQ < 2 ^ 32 → ∃ r, e.readRec (b.obj K.NEXT_RSEQ) = some r ∧ r.type = 2 ∧ e.records = 1
          ∧ r.body = 3 + 256 * scope + 65536 * q + 2 ^ 32 * b.records)
      ∧ t.MemBut [.ledger] b
      ∧ (∀ a, (a < recAddr (b.obj K.NEXT_RSEQ) ∨ recAddr (b.obj K.NEXT_RSEQ) + 64 ≤ a) → memByte e.mem a = memByte b.mem a)
      ∧ (t.store.waiting = [] → (∀ r ∈ t.lanes.queue, r.kind ≠ .etch) → (∀ h ∈ t.lanes.handovers, h.req.kind ≠ .etch) →
          e.lanes.queue.length = t.lanes.queue.length + 1 ∧ ∃ r ∈ e.lanes.queue, r.kind = .etch ∧ r.ref = 1 ∧ r.base = 2
            ∧ r.mask = scopeP01 ||| scopeP2 ∧ r.pages = [] ∧ r.posted = t.fab.tick)
      ∧ (t.lanes.queued .etch 1 = true →
          e.lanes.queue = t.lanes.queue.map (fun r => r.joinEtch 1 (scopeP01 ||| scopeP2) []))
    t.coll.state = .clear → t.ledger.suspended = false → t.ledger.reconciling = false →
    (t.permits q x.level (writeOf K.LEDGER_CLEAR 1) →
      ∃ e, exec (.ledgerClearRecords p) s = .next (e.answered q x okAnswer).after
        ∧ t.SameBut [.objs, .mem, .lanes, .ledger, .store] e ∧ cleared 1 e ∧ e.obj K.FF_BASE = t.obj K.FF_BASE)
    ∧ (t.permits q x.level (writeOf K.LEDGER_CLEAR 2) →
      ∃ e, exec (.ledgerClearAll p) s = .next (e.answered q x okAnswer).after
        ∧ t.SameBut [.objs, .mem, .lanes, .ledger, .store] e ∧ cleared 2 e ∧ e.obj K.FF_BASE = t.obj K.EPISODE)

/-- The convoy commands of a host: CONVOY_ENABLE (R91, R98), WAY_REQUEST (R80), HALT_REQUEST (R69). That WAY_REQUEST acts in HALTED
as in MEMBER is the choice of the model (log entry 84): Table 3.12 and R80 do not name HALTED. -/
def Obligations.ConvoyHostCommandsTakeEffect : Prop :=
  ∀ (s : State) (p : Port) (x : Session) (on : Bool) (w : BitVec 8), s.Ready (portNum p) x →
    let q := portNum p
    let t := s.taken q x
    (x.level = 2 → t.permits q x.level (writeOf K.CONVOY_ENABLE (b2n on)) →
      2 * t.obj K.BEAT_PERIOD ≤ t.obj K.LOSS_TIMEOUT → t.obj K.SEG_ID < t.obj K.SEG_COUNT →
      let e := (t.setPers K.CONVOY_ENABLE (b2n on)).mirror K.CONVOY_ENABLE (b2n on)
      let u := e.convoyWritten
      exec (.convoyEnable p on) s = .next (((u.drive).startAutoTimer).answered q x okAnswer).after
      ∧ e.SameBut [.objs, .convoy] u ∧ u.objB K.CONVOY_ENABLE = on
      ∧ (t.convoy.state = .disabled → u.convoy.state = (if on then .solo else .disabled) ∧ u.convoy.set = e.convoySettings
          ∧ u.convoy.soloDue = t.convoy.soloDue)
      ∧ (t.convoy.state ≠ .disabled → u.convoy = { t.convoy with
            offAt := if on then none else some (t.convoy.offAt.getD t.fab.tick) }))
    ∧ (t.permits q x.level (writeOf K.WAY_REQUEST w.toNat) → t.wayBusy = false →
      exec (.wayRequest p w) s = .next (({ t with convoy := match t.convoy.state with
          | .leader => { t.convoy with lead := { t.convoy.lead with queue := t.convoy.lead.queue ++ [w.toNat] } }
          | .member => { t.convoy with wayPending := some w.toNat }
          | .halted => { t.convoy with wayPending := some w.toNat }
          | .solo => { t.convoy with soloWay := some w.toNat }
          | .disabled => { t.convoy with soloWay := some w.toNat } }).answered q x okAnswer).after)
    ∧ (x.level = 2 → t.permits q x.level (writeOf K.HALT_REQUEST (b2n on)) →
      exec (.haltRequest p on) s
        = .next ((({ t.setLive K.HALT_REQUEST (b2n on) with
            convoy := if on then t.convoy else { t.convoy with
              halting := false, lowAt := if t.convoy.halting then t.fab.tick else t.convoy.lowAt } }).drive).answered q x
                  okAnswer).after)

/-- The rail commands of a host: LOCAL_HOLD (R118), PRESENT (R105, R131), CLEAR_FLAGS (R132), CLEAR_LATCH (R156). -/
def Obligations.RailHostCommandsTakeEffect : Prop :=
  ∀ (s : State) (p : Port) (x : Session) (on : Bool) (n : Fin 64), s.Ready (portNum p) x →
    let q := portNum p
    let t := s.taken q x
    (x.level = 2 → t.permits q x.level (writeOf K.LOCAL_HOLD (b2n on)) → t.feedsOk = true →
      let e := (t.setPers K.LOCAL_HOLD (b2n on)).mirror K.LOCAL_HOLD (b2n on)
      exec (.localHold p on) s
        = .next (((if on = true ∧ t.seq.causes.contains 5 = false then e.localShutdown 5 e.now else e).startAutoTimer).answered
            q x okAnswer).after)
    ∧ (t.permits q x.level (writeOf (K.RAIL_PRESENT n.val) (b2n on)) →
      ((t.rail n.val).state = .off ∨ (t.rail n.val).state = .absent) →
      (t.setLive (K.RAIL_PRESENT n.val) (b2n on)).railsOk = true →
      let e := (t.setPers (K.RAIL_PRESENT n.val) (b2n on)).mirror (K.RAIL_PRESENT n.val) (b2n on)
      exec (.setPresent p n on) s = .next ((((e.setPresent n.val on).startAutoTimer).noteWindow t.collWindow).answered q x
          okAnswer).after
      ∧ ((e.setPresent n.val on).rail n.val).state = (if on then .off else .absent)
      ∧ ((t.rail n.val).state = (if on then .absent else .off) → ((e.setPresent n.val on).rail n.val).filters = []))
    ∧ (t.permits q x.level (writeOf (K.CLEAR_FLAGS n.val) 1) →
      t.railsOk = true →
      exec (.clearFlags p n) s = .next ((t.setLive (K.RAIL_FLAGS n.val) 0).answered q x okAnswer).after)
    ∧ (t.permits q x.level (writeOf (K.CLEAR_LATCH n.val) 1) →
      exec (.clearLatch p n) s = .next ((t.setLive (K.COMP_LATCH n.val) 0).answered q x okAnswer).after)

/-- The converter commands of a host: SCAN_SELECT (R164), READMIT (R176), CONVERT (R182), RING_REARM and RING_TRIGGER (R189). -/
def Obligations.ConverterHostCommandsTakeEffect : Prop :=
  ∀ (s : State) (p : Port) (x : Session) (b : BitVec 8) (i : Fin 17) (c : Fin 192), s.Ready (portNum p) x →
    let q := portNum p
    let t := s.taken q x
    (b.toNat ≤ 1 → t.permits q x.level (writeOf K.SCAN_SELECT b.toNat) → t.bankFull b.toNat = true →
      exec (.scanSelect p b) s
        = .next ((if t.conv.bank = b.toNat then
              { t with conv := { t.conv with switch := some {
                  bank := b.toNat, commit := t.fab.tick, atZero := false, restart := none } } }
            else if t.conv.pendingBank = some b.toNat then t
            else { t with conv := { t.conv with switch := some {
                bank := b.toNat, commit := t.fab.tick, atZero := true,
                restart := t.conv.switch.bind (fun w => if w.atZero then w.restart else some w.commit) } } }).answered
            q x okAnswer).after)
    ∧ (t.permits q x.level (writeOf (K.READMIT i.val) 1) → (t.slice i.val).role = .failed →
      exec (.readmit p i) s
        = .next (((t.setSlice i.val { t.slice i.val with role := .calibrating, pos := 0xFF }).postLane .cal 3 (0x40 + i.val) i.val 0
            []).answered q x okAnswer).after)
    ∧ (c.val < 184 → t.permits q x.level (writeOf (K.CONVERT c.val) 1) →
      (t.obj (K.FORMAT c.val) = 0 ∨ isDiff c.val = true) →
      exec (.convert p c) s
        = .next (({ t with conv := { t.conv with urgents := insertUrgent t.conv.urgents ⟨c.val, t.fab.tick, 1000⟩ } }).answered
            q x okAnswer).after)
    ∧ (t.permits q x.level (writeOf K.RING_REARM 1) → t.ringEtching = false →
      let seq := (t.obj K.LAST_SEQ + 1) % 2 ^ 32
      exec (.ringRearm p) s
        = .next ((if t.ring.state = .frozen then { t.setLive K.FIRST_SEQ seq with
              ring := { t.ring with
                state := .running, nextSeq := seq, opened := none, recalled := false, etchSeq := none, etchDone := false },
              ledger := { t.ledger with link := none } } else t).answered q x okAnswer).after)
    ∧ (t.permits q x.level (writeOf K.RING_TRIGGER 1) →
      ∃ e, exec (.ringTrigger p) s = .next (e.answered q x okAnswer).after ∧ t.SameBut [.objs, .lanes, .ledger, .cap, .ring] e
        ∧ (t.ring.started = false → e = t)
        ∧ (t.ring.started = true → t.ring.state = .running → e.ring.state = .triggered ∧ e.obj K.TRIG_SOURCE = 0xFE
            ∧ e.obj K.TRIG_BEAT = t.fab.count.toNat ∧ e.obj K.TRIG_OFFSET = t.offset
            ∧ e.ring.freezeTick = t.fab.tick + usTicks (t.obj K.POST_SPAN))
        ∧ (t.ring.started = true → t.ring.state ≠ .running → e.ring = t.ring ∧ e.cap = t.cap
            ∧ e.obj K.LATE_TRIGGERS = min (t.obj K.LATE_TRIGGERS + 1) (2 ^ 32 - 1)))

/-- The capture commands of a host (Table 6.6): CAP_ARM, CAP_ABORT, CAP_RELEASE. That CAP_ABORT and CAP_RELEASE of the capture of a
stipple run leave the run going is the choice of the model (log entry 113): Table 7.4 does not list them. -/
def Obligations.CaptureHostCommandsTakeEffect : Prop :=
  ∀ (s : State) (p : Port) (x : Session), s.Ready (portNum p) x →
    let q := portNum p
    let t := s.taken q x
    (t.permits q x.level (writeOf K.CAP_ARM 1) → t.cap.state = .idle → t.conv.catchUp = 0 → t.captureOk = true →
      (t.obj K.CAP_WHEN = 0 → t.isPast (BitVec.ofNat 32 (t.obj K.CAP_BEAT)) (t.obj K.CAP_OFFSET) = false) →
      ∃ e, exec (.capArm p) s = .next (e.answered q x okAnswer).after
        ∧ t.SameBut [.objs, .mem, .lanes, .store, .conv, .cap] e
        ∧ e.cap.state = .armed ∧ e.cap.owner = .port q ∧ e.cap.g = t.obj K.CAP_G ∧ e.cap.k = t.obj K.CAP_K
        ∧ e.cap.chs = (List.range 4).map (fun j => t.obj (K.CAP_CH j)) ∧ e.cap.samples = t.obj K.CAP_SAMPLES
        ∧ e.cap.whenMode = t.obj K.CAP_WHEN ∧ e.cap.xs = [] ∧ e.obj K.CAP_FLAGS = 0 ∧ e.obj K.CAP_TAKEN = 0
        ∧ e.cap.startTick = (if t.obj K.CAP_WHEN = 1 then some (t.fab.tick + 1) else none)
        ∧ e.lanes.queue.length = t.lanes.queue.length + (if t.obj K.CAP_WHEN = 2 then 0 else 1))
    ∧ (t.permits q x.level (writeOf K.CAP_ABORT 1) → t.captureOk = true →
      exec (.capAbort p) s = .next ((match t.cap.state with
          | .armed => ({ t with cap := { t.cap with state := .idle, owner := .none } }).freeLaneOf .capture 0
          | .running => t.endCapture 10
          | .idle => t
          | .done => t).answered q x okAnswer).after)
    ∧ (t.permits q x.level (writeOf K.CAP_RELEASE 1) → t.captureOk = true → t.cap.state = .done →
      exec (.capRelease p) s
        = .next (({ t with cap := { t.cap with state := .idle, owner := .none } }).answered q x okAnswer).after)

/-- MRG_CMD (Table 7.1): nominal, high, low. The choice of the model, not the spec's (log entry 53): MARGIN_METHOD 0 gives MRG_CMD
no effect; 0x01 and 0x02 in MOVING, SETTLING and RETURNING start at once, in PENDING they schedule again, in FAILED they have no
effect; 0x00 in MOVING starts the return. -/
def Obligations.MarginHostCommandsTakeEffect : Prop :=
  ∀ (s : State) (p : Port) (x : Session) (n : Fin 64), s.Ready (portNum p) x →
    let q := portNum p
    let t := s.taken q x
    let m := t.margin n.val
    (t.rail n.val).state = .on → (t.stip n.val).state.busy = false → t.marginAllowed n.val = true →
    (t.permits q x.level (writeOf (K.MRG_CMD n.val) 0) →
      exec (.mrgCmdNominal p n) s = .next ((match m.state with
          | .pending => t.setMargin n.val { m with state := m.prior }
          | .settling => t.startReturn n.val
          | .held => t.startReturn n.val
          | .failed => t.startReturn n.val
          | .moving => t.startReturn n.val
          | .nominal => t
          | .returning => t).answered q x okAnswer).after)
    ∧ (∀ pos, (pos = 1 ∨ pos = 2) → t.permits q x.level (writeOf (K.MRG_CMD n.val) pos) →
      let waits := t.obj (K.MARGIN_METHOD n.val) ≠ 0 ∧ t.obj (K.MRG_WHEN n.val) = 1
        ∧ (m.state = .nominal ∨ m.state = .held ∨ m.state = .pending)
      let still := t.obj (K.MARGIN_METHOD n.val) = 0 ∨ m.state = .failed
      let goal := if pos = 1 then t.objI (K.MRG_HIGH n.val) else t.objI (K.MRG_LOW n.val)
      (waits → t.isPast (BitVec.ofNat 32 (t.obj (K.MRG_BEAT n.val))) (t.obj (K.MRG_OFFSET n.val)) = false) →
      ∃ e, exec (if pos = 1 then .mrgCmdHigh p n else .mrgCmdLow p n) s = .next (e.answered q x okAnswer).after
        ∧ t.SameBut [.objs, .lanes, .coll, .store, .pmb, .margins] e
        ∧ (still → e = t)
        ∧ (waits → ∃ pr, e = t.setMargin n.val { m with
              want := pos, goal := goal, trims := t.obj (K.MRG_TRIM_ITER n.val), state := .pending, prior := pr,
              beat := BitVec.ofNat 32 (t.obj (K.MRG_BEAT n.val)), offset := t.obj (K.MRG_OFFSET n.val) })
        ∧ (¬ still → ¬ waits → t.obj (K.MARGIN_METHOD n.val) = 1 →
            (e.margin n.val).state = .moving ∧ (e.margin n.val).position = pos ∧ (e.margin n.val).code = m.code
            ∧ (e.margin n.val).codeTo = t.marginCode n.val goal ∧ (e.margin n.val).due = t.fab.tick
            ∧ (e.margin n.val).trims = t.obj (K.MRG_TRIM_ITER n.val))
        ∧ (¬ still → ¬ waits → t.modeRefuses n.val goal = true → e = (t.bump (K.MRG_FAILS n.val)).raise n.val 0x33 0)
        ∧ (¬ still → ¬ waits → t.obj (K.MARGIN_METHOD n.val) = 2 → t.modeRefuses n.val goal = false →
            (e.margin n.val).state = .moving ∧ (e.margin n.val).want = pos ∧ (e.margin n.val).goal = goal))

/-- STIP_CMD (R214, R216) and LOAD_CMD (R231, R243). The choice of the model: STIP_CMD 0x02 has no effect in the states for which
Table 7.5 has no row (log entry 114), and a host load takes SINK[n] while the load of an ended run still drains (log entry 119). -/
def Obligations.StippleAndLoadCommandsTakeEffect : Prop :=
  ∀ (s : State) (p : Port) (x : Session) (n : Fin 64), s.Ready (portNum p) x →
    let q := portNum p
    let t := s.taken q x
    let r := t.stip n.val
    (t.permits q x.level (writeOf (K.STIP_CMD n.val) 1) → (t.rail n.val).state = .on →
      (r.state = .idle ∨ r.state = .done ∨ r.state = .aborted ∨ r.state = .failed) →
      t.stipSettingsOk n.val = true → t.guardAllowed n.val = true →
      t.isPast (t.stipBeat n.val) (t.obj (K.STIP_OFFSET n.val)) = false →
      exec (.stipCmdSchedule p n) s
        = .next ((t.setStip n.val { r with
              state := .scheduled, beat := t.stipBeat n.val, offset := t.obj (K.STIP_OFFSET n.val),
              retry := false, wait := .lane }).answered q x okAnswer).after)
    ∧ (t.permits q x.level (writeOf (K.STIP_CMD n.val) 2) → t.stipSettingsOk n.val = true →
      ∃ e, exec (.stipCmdCancel p n) s = .next (e.answered q x okAnswer).after
        ∧ t.SameBut [.objs, .lanes, .coll, .store, .cap, .stips, .sinks, .gov] e
        ∧ ((r.state = .scheduled ∨ r.state = .waiting) → e.stip n.val = { r with state := .idle, retry := false })
        ∧ (r.state.running = true → e.obj (K.STIP_REASON n.val) = 7
            ∧ ((e.stip n.val).state = .aborted ∨ (e.stip n.val).state = .scheduled))
        ∧ (r.state ≠ .scheduled → r.state ≠ .waiting → r.state.running = false → e = t))
    ∧ (t.permits q x.level (writeOf (K.LOAD_CMD n.val) 1) → (t.rail n.val).state = .on → r.state.busy = false →
      t.loadFits n.val = true →
      ∃ e, exec (.loadCmdApply p n) s = .next (e.answered q x okAnswer).after
        ∧ t.SameBut [.objs, .coll, .store, .sinks, .gov] e
        ∧ (e.sink n.val).use = .load ∧ (e.sink n.val).cmd = t.obj (K.LOAD_CURRENT n.val)
        ∧ (e.sink n.val).slew = t.obj (K.SINK_SLEW n.val) ∧ (e.sink n.val).owner = some q
        ∧ (e.sink n.val).loadFrom = t.fab.tick ∧ (e.sink n.val).amps = t.obj (K.LOAD_CURRENT n.val)
        ∧ (e.sink n.val).energy = (t.sink n.val).energy
        ∧ (e.sink n.val).drain.isSome = decide ((t.sink n.val).energy ≠ 0))
    ∧ (t.permits q x.level (writeOf (K.LOAD_CMD n.val) 2) →
      ∃ e, exec (.loadCmdRemove p n) s = .next (e.answered q x okAnswer).after
        ∧ t.SameBut [.objs, .coll, .store, .sinks, .gov] e
        ∧ ((t.sink n.val).use ≠ .load → e = t)
        ∧ ((t.sink n.val).use = .load → (e.sink n.val).cmd = 0
            ∧ (e.sink n.val).use = (if (t.sink n.val).cur = 0 then .idle else .removing)
            ∧ ((t.sink n.val).cur ≠ 0 → (e.sink n.val).slew = t.obj (K.SINK_SLEW n.val))))

/-- INRUSH_SET (R249), FEED_ENABLE and FEED_CLEAR (R256). What a write does on the tick of an earlier transition of the feed rests
on the reading of R256 in log entry 120. -/
def Obligations.TollAndFeedHostCommandsTakeEffect : Prop :=
  ∀ (s : State) (p : Port) (x : Session) (v : BitVec 16) (f : Fin 2) (on : Bool), s.Ready (portNum p) x →
    let q := portNum p
    let t := s.taken q x
    (x.level = 2 → t.permits q x.level (writeOf K.INRUSH_SET v.toNat) → t.convoy.state = .disabled →
      t.obj K.INRUSH_ISSUED = 0 → t.transit = 0 →
      exec (.inrushSet p v) s
        = .next (((((t.setPers K.INRUSH_HELD v.toNat).setLive K.INRUSH_FREE v.toNat).bump K.SETS).startAutoTimer).answered
            q x okAnswer).after)
    ∧ (t.permits q x.level (writeOf (K.FEED_ENABLE f.val) (b2n on)) → t.feedsOk = true →
      ∃ e, exec (.feedEnable p f on) s = .next (e.answered q x okAnswer).after
        ∧ t.SameBut [.objs, .coll, .store, .otherArea, .input, .seq, .feeds] e
        ∧ (on = false → (t.feedMoved f.val = false ∨ t.tripActed f.val = true) →
            (e.feed f.val).state = .disabled ∧ (e.feed f.val).gateIsOff = true)
        ∧ (on = false → t.feedMoved f.val = true → t.tripActed f.val = false →
            e.feed f.val = { t.feed f.val with closing := true })
        ∧ (on = true → (t.feed f.val).state = .disabled → t.feedMoved f.val = false → (e.feed f.val).state = .unmated)
        ∧ (on = true → ((t.feed f.val).state ≠ .disabled ∨ t.feedMoved f.val = true) → e.feed f.val = t.feed f.val)
        ∧ e.obj (K.FEED_ENABLE f.val) = b2n on)
    ∧ (x.level = 2 → t.permits q x.level (writeOf (K.FEED_CLEAR f.val) 1) → t.feedsOk = true →
      ((t.feedTick f.val).was = .lockout ∨ (t.feedTick f.val).was = .damaged) →
      ∃ e, exec (.feedClear p f) s = .next (e.answered q x okAnswer).after
        ∧ t.SameBut [.objs, .coll, .store, .input, .seq, .feeds] e
        ∧ (t.feedMoved f.val = false → e.obj (K.TRIP_RUN f.val) = 0 ∧ e.obj (K.RETRY_BASIS f.val) = 0
            ∧ e.obj (K.DMG_LATCH f.val) = 0 ∧ (e.feed f.val).state = .waitSource ∧ (e.feed f.val).armed = false)
        ∧ (t.feedMoved f.val = true → e = t.startAutoTimer))

/-- The collector and store commands of a host: FORCE (R294), TEST_MODE (R283), FAULT_ACK (R286), FAULT_N_HOLD (R292), ETCH_CMD
(R308), ETCH_ABORT (R311). -/
def Obligations.CollectorAndEtchHostCommandsTakeEffect : Prop :=
  ∀ (s : State) (p : Port) (x : Session) (src : BitVec 8) (on : Bool), s.Ready (portNum p) x →
    let q := portNum p
    let t := s.taken q x
    (t.permits q x.level (writeOf (K.FORCE src.toNat) 1) → (objRowOfKey (K.FORCE src.toNat)).isSome = true →
      (serviceClass src.toNat (t.obj (K.FORCE_KIND src.toNat))).isSome = true →
      let m : Msg := ⟨src.toNat, t.obj (K.FORCE_KIND src.toNat), t.obj (K.FORCE_ADDR src.toNat), true, t.now⟩
      exec (.forceMessage p src) s
        = .next (({ t with coll := { t.coll with inflight := t.coll.inflight ++ [m] } }).answered q x okAnswer).after)
    ∧ (x.level = 2 → t.permits q x.level (writeOf K.TEST_MODE (b2n on)) → (on = true → t.seqSafe = true) →
      exec (.testMode p on) s
        = .next (({ t.setLive K.TEST_MODE (b2n on) with
            coll := { t.coll with testOwner := if on then some q else none } }).answered q x okAnswer).after)
    ∧ (x.level = 2 → t.permits q x.level (writeOf K.FAULT_ACK 1) → t.coll.state = .latched →
      exec (.faultAck p) s
        = .next ((({ t.setPers H.latched 0 with
            coll := { t.coll with state := .faulted, quietFrom := t.fab.tick } }).startAutoTimer).answered
            q x okAnswer).after)
    ∧ (t.permits q x.level (writeOf K.FAULT_N_HOLD (b2n on)) →
      exec (.faultNHold p on) s = .next ((t.setLive K.FAULT_N_HOLD (b2n on)).answered q x okAnswer).after)
    ∧ (t.permits q x.level (writeOf K.ETCH_CMD 1) →
      ∃ e, exec (.etchCmd p) s = .next (e.answered q x okAnswer).after
        ∧ t.SameBut [.lanes, .store] e
        ∧ (t.store.waiting = [] → (∀ r ∈ t.lanes.queue, r.kind ≠ .etch) → (∀ h ∈ t.lanes.handovers, h.req.kind ≠ .etch) →
            e.store = t.store ∧ ∃ r ∈ e.lanes.queue, r.kind = .etch ∧ r.ref = 1 ∧ r.base = etchLevel 1
              ∧ r.mask = t.obj K.ETCH_MASK ∧ r.posted = t.fab.tick ∧ e.lanes.queue.length = t.lanes.queue.length + 1)
        ∧ (t.lanes.queued .etch 1 = true → e.lanes.queue = t.lanes.queue.map (fun r => r.joinEtch 1 (t.obj K.ETCH_MASK) [])))
    ∧ (∀ o, t.permits q x.level (writeOf K.ETCH_ABORT 1) → t.store.etch = some o → (o.cause = 1 ∨ o.cause = 2) →
      exec (.etchAbort p) s = .next (((t.stopEtch false).etchIdle).answered q x okAnswer).after)

/-- The update commands of a host (Table 14.3): each leads to its state. -/
def Obligations.UpdateHostCommandsTakeEffect : Prop :=
  ∀ (s : State) (p : Port) (x : Session) (i : BitVec 16), s.Ready (portNum p) x →
    let q := portNum p
    let t := s.taken q x
    (x.level = 2 →
      (t.permits q x.level (writeOf K.UPD_CMD 1) → (t.upd.state = .idle ∨ t.upd.state = .failed) → t.manifestOk = true →
        exec (.updCmdOpen p) s = .next (({ ((((t.setLive K.NEXT_BLOCK 0).setLive K.STAGED_BLOCKS (t.mf 6 2)).setLive
            K.STAGED_VERSION (t.mf 12 4)).setLive K.STAGED_SCHEMA (t.mf 18 2)).setLive K.STAGED_VOTE (t.mf 20 1) with
            upd := { t.upd with state := .downloading } }).answered q x okAnswer).after)
      ∧ (t.permits q x.level (writeOf K.UPD_CMD 2) → t.upd.state = .downloaded →
        exec (.updCmdVerify p) s = .next (({ t with upd := { t.upd with state := .verifying } }).answered q x okAnswer).after)
      ∧ (t.permits q x.level (writeOf K.UPD_CMD 3) → t.upd.state = .verified →
        ∃ e, exec (.updCmdApply p) s = .next (e.answered q x okAnswer).after ∧ t.SameBut [.loader, .upd] e
          ∧ e.upd = { t.upd with state := .applying, etchPosted := false, etched := false }
          ∧ e.record = { t.record.setBank t.newBank { t.record.bank t.newBank with state := .writing } with
              seq := t.record.seq + 1, crcOk := true }
          ∧ fget e.loader.images t.newBank [] = []
          ∧ ∀ b, b ≠ t.newBank → fget e.loader.images b [] = fget t.loader.images b [])
      ∧ (t.permits q x.level (writeOf K.UPD_CMD 4) → t.upd.state = .applied →
        t.isPast t.actBeat (t.obj K.ACT_OFFSET) = false →
        exec (.updCmdSchedule p) s
          = .next (({ t with upd := { t.upd with state := .scheduled, act := some (t.actBeat, t.obj K.ACT_OFFSET) } }).answered
              q x okAnswer).after)
      ∧ (t.permits q x.level (writeOf K.UPD_CMD 5) → t.upd.state = .scheduled →
        exec (.updCmdUnschedule p) s
          = .next (({ t with upd := { t.upd with state := .applied, act := none } }).answered q x okAnswer).after)
      ∧ (t.permits q x.level (writeOf K.UPD_CMD 6) → t.upd.state = .trial →
        exec (.updCmdConfirm p) s
          = .next (({ t with upd := { t.upd with health := t.upd.health ||| 2 ^ 3 } }).answered q x okAnswer).after)
      ∧ (t.permits q x.level (writeOf K.UPD_CMD 7) → t.upd.state ≠ .idle → t.upd.state ≠ .trial →
        ∃ e, exec (.updCmdAbort p) s = .next (e.answered q x okAnswer).after ∧ t.SameBut [.objs, .mem, .store, .loader, .upd] e
          ∧ e.upd = { t.upd with state := .idle, act := none, etchPosted := false, etched := false }
          ∧ e.obj K.UPD_REASON = 0x0D ∧ e.mf 0 4 = 0 ∧ e.areaState (1 - t.activeArea) ≠ 2
          ∧ (let st := (t.record.bank t.newBank).state
             (st = .writing ∨ st = .valid → (e.record.bank t.newBank).state = .empty ∧ fget e.loader.images t.newBank [] = [])
             ∧ (st ≠ .writing → st ≠ .valid → e.loader = t.loader))
          ∧ (∀ a, (a < manifestAt ∨ manifestAt + 4 ≤ a) →
              (a < areaAt (1 - t.activeArea) ∨ areaAt (1 - t.activeArea) + 16 ≤ a) → memByte e.mem a = memByte t.mem a)))
    ∧ (t.permits q x.level (writeOf K.UPD_BLOCK i.toNat) → i.toNat ≤ 2043 → t.upd.state = .downloading →
      i.toNat = t.obj K.NEXT_BLOCK →
      exec (.updBlock p i) s
        = .next ((if t.blockPasses i.toNat then
              (if i.toNat + 1 = t.mf 6 2 then (t.setLive K.NEXT_BLOCK (i.toNat + 1)).setUpd .downloaded
               else t.setLive K.NEXT_BLOCK (i.toNat + 1))
            else (t.raise 0x80 0x01 i.toNat).bump K.BLOCK_CRC_FAILS).answered q x okAnswer).after)

/-- The SPI frames (R356, R357) and the proof frame (R419), in single and quad mode. RESULT 0 in [23:16] of kind 0x04 for a
discarded frame is the choice of the model (log entry 28): R375 gives no value. -/
def Obligations.PortFramesTakeEffect : Prop :=
  ∀ (s : State) (p : SpiPort) (frame : List Byte) (n : Nat) (start : BitVec 32),
    let q := spiNum p
    let x := s.port q
    (s.receives q = true →
      ((x.request.isSome = true ∨ frameOk frame = false) →
        exec (.writeRequest p frame) s = .next (s.discard q (frameSeq frame)).after
        ∧ exec (.writeRequestQuad p frame) s = .next (s.discard q (frameSeq frame)).after
        ∧ (s.discard q (frameSeq frame)).port q = { x with frameErr := true }
        ∧ (s.discard q (frameSeq frame)).coll
          = ((s.bump (K.PORT_FRAME_ERRORS q)).raise (portSource q) 0x04 (frameSeq frame % 65536)).coll
        ∧ (s.discard q (frameSeq frame)).obj (K.PORT_FRAME_ERRORS q) = sat32 (s.obj (K.PORT_FRAME_ERRORS q) + 1))
      ∧ (x.request = none → frameOk frame = true →
        ∃ u, exec (.writeRequest p frame) s = .next u.after ∧ exec (.writeRequestQuad p frame) s = .next u.after
          ∧ s.SameBut [.hosts] u
          ∧ (u.port q).request = some { body := (frame.drop 2).take (leAt frame 0 2), arrived := s.fab.tick }
          ∧ (u.port q).ready = false ∧ (u.port q).frameErr = false ∧ (u.port q).response = x.response
          ∧ ∀ r, r ≠ q → u.port r = s.port r)
      ∧ (let body := x.response.getD []
        let head := leBytes 2 body.length ++ body
        let u := s.setPort q { x with out := head ++ leBytes 4 (crc32c head).toNat }
        exec (.readResponse p) s = .next u.after ∧ exec (.readResponseQuad p) s = .next u.after)
      ∧ exec (.readStatus p n) s = .next (s.setPort q { x with out := List.replicate n (BitVec.ofNat 8 x.status) }).after)
    ∧ (s.frozen = none → exec (.proofRead start n) s = .next s.after ∧ exec (.proofReadQuad start n) s = .next s.after)
    ∧ (s.frozen.isSome = true → s.supplies = true →
      exec (.readStatus .h0 n) s
        = .next (s.setPort 0 { s.port 0 with out := List.replicate n (BitVec.ofNat 8 s.frz.status) }).after
      ∧ ∃ u, exec (.proofRead start n) s = .next u.after ∧ exec (.proofReadQuad start n) s = .next u.after
        ∧ s.SameBut [.objs, .hosts] u
        ∧ u.port 0 = { s.port 0 with out := (List.range n).map (fun i => s.frz.proof.getD (start.toNat + i) 0#8) }
        ∧ u.obj K.PROOF_READS = min (s.obj K.PROOF_READS + 1) (2 ^ 32 - 1)
        ∧ ∀ k, k ≠ K.PROOF_READS → u.obj k = s.obj k)

/-- Bale frames (R358, R359), the segment timeout (R359) and bus-off (R360). The choice of the model: an out-of-order frame is
discarded with the partial body, a late segment is also noticed at the next one, and kind 0x04 carries RESULT 0 (log entry 28); the
SEQ of kind 0x06 is a free value (log entry 14). -/
def Obligations.BaleRowsTakeEffect : Prop :=
  ∀ (s : State) (id : BitVec 29) (data : List Byte),
    let seg := field id.toNat 13 9
    let seq := field id.toNat 7 0
    (s.receives 2 = true → s.hosts.bale.busOff = false → data.length = 64 → nbit id.toNat 28 = false →
      field id.toNat 27 14 = s.node →
      let t := if s.baleLate = true then (s.setBale s.hosts.bale.clear).discard 2 (seqOf s.hosts.bale.body) else s
      let b := t.hosts.bale
      let body := b.body ++ (data.drop 4).take (leAt data 0 1)
      (b.takes seg seq data = false → exec (.baleFrame id data) s = .next ((t.setBale b.clear).discard 2 (seqOf b.body)).after)
      ∧ (b.takes seg seq data = true → nbit id.toNat 8 = false →
        exec (.baleFrame id data) s
          = .next (t.setBale { b with
              open_ := true, seq := seq, next := seg + 1, body := body, lastAt := s.fab.tick }).after)
      ∧ (b.takes seg seq data = true → nbit id.toNat 8 = true → (t.port 2).request.isSome = true →
        exec (.baleFrame id data) s = .next ((t.setBale b.clear).discard 2 (seqOf body)).after)
      ∧ (b.takes seg seq data = true → nbit id.toNat 8 = true → (t.port 2).request = none →
        ∃ u, exec (.baleFrame id data) s = .next u.after ∧ t.SameBut [.hosts] u
          ∧ (u.port 2).request = some { body := body, arrived := s.fab.tick } ∧ (u.port 2).ready = false
          ∧ (u.port 2).frameErr = false ∧ u.hosts.bale = { b.clear with node := t.node, reqSeq := seq } ∧ ∀ r, r ≠ 2 → u.port r =
              t.port r))
    ∧ (s.receives 2 = true → (data.length ≠ 64 ∨ nbit id.toNat 28 = true ∨ field id.toNat 27 14 ≠ s.node) →
      exec (.baleFrame id data) s = .next s.after)
    ∧ (s.clocked = true → s.baleLate = true →
      exec .segmentTimeout s = .next ((s.setBale s.hosts.bale.clear).discard 2 (seqOf s.hosts.bale.body)).after)
    ∧ (s.receives 2 = true → s.hosts.bale.busOff = false →
      exec .busOff s
        = .next ((s.setBale { s.hosts.bale with busOff := true }).raise 0x7A 0x06 (Config.busOffSeq s.fab.tick).toNat).after)
    ∧ (s.receives 2 = true → s.hosts.bale.busOff = true →
      ∃ u, exec .busOffRecovery s = .next u.after ∧ s.SameBut [.hosts] u ∧ u.hosts.bale.busOff = false
        ∧ u.hosts.bale.waiting = [] ∧ (s.hosts.bale.waiting ≠ [] → u.hosts.bale.sent = s.hosts.bale.waiting) ∧ u.hosts.ports =
            s.hosts.ports)

/-- The timers of a port: lockout (R362), challenge (R361), lease (R365, R366). -/
def Obligations.SessionTimersTakeEffect : Prop :=
  ∀ (s : State) (p : Port), s.clocked = true →
    let q := portNum p
    let x := s.port q
    (∀ t, x.lockedUntil = some t → t ≤ s.fab.tick →
      exec (.authLockoutEnd p) s = .next (s.setPort q { x with lockedUntil := none }).after)
    ∧ (∀ c, x.challenge = some c → c.at_ + 200000000 ≤ s.fab.tick →
      exec (.challengeExpiry p) s = .next (s.setPort q { x with challenge := none }).after)
    ∧ (∀ y, x.session = some y → s.lapseTick y ≤ s.fab.tick →
      let u := ((s.bump (K.LAPSES q)).raise (portSource q) 0x03 (y.level * 65536 + y.lastSeq)).endSession q
      exec (.leaseLapse p) s = .next u.after
      ∧ s.SameBut [.objs, .coll, .store, .cap, .sinks, .gov, .hosts] u
      ∧ u.port q = { x with session := none, challenge := none, stored := none } ∧ ∀ g, u.holder g ≠ some q)

/-- TRANSACTION (R47, R355, R364), OPEN and PROOF (R361, R362) on a request that waits. The choice of the model: which answers carry
a MAC (log entry 25); LOCKED_OUT before NOT_READY, and the fail count that restarts at a lockout (log entry 26); that a write whose
own condition fails only in the commit is answered OK (log entry 19). -/
def Obligations.ServerRowsTakeEffect : Prop :=
  ∀ (s : State) (p : Port) (r : Request), s.clocked = true → (s.port (portNum p)).request = some r →
    let q := portNum p
    let w := s.wake
    (leAt r.body 0 1 ≠ 2 → leAt r.body 0 1 ≠ 3 → s.earlierWaits q r.arrived = false →
      (parseBody q r.body = none →
        exec (.transaction p) s = .next ((w.frameError q 1 (seqOf r.body)).deliver q (w.plainResponse q 1 (seqOf r.body)) []).after)
      ∧ (∀ seq ms, parseBody q r.body = some (.transaction seq ms) →
        (w.current q r.arrived = none →
          exec (.transaction p) s = .next (w.deliver q (w.response 0 seq 0xFF (ms.map (fun _ => ⟨St.noSession, 0, []⟩)) [] none)
            (ms.map (fun _ => ⟨St.noSession, 0, []⟩))).after)
        ∧ (∀ x, w.current q r.arrived = some x → macOk x.key r.body = false →
          exec (.transaction p) s = .next ((w.frameError q 2 seq).deliver q (w.plainResponse q 2 seq) []).after)
        ∧ (∀ x b as, w.current q r.arrived = some x → macOk x.key r.body = true → seq ≠ (x.lastSeq + 1) % 65536 →
          seq = x.lastSeq → (w.port q).stored = some (b, as) → exec (.transaction p) s = .next (w.deliver q b as).after)
        ∧ (∀ x, w.current q r.arrived = some x → macOk x.key r.body = true → seq ≠ (x.lastSeq + 1) % 65536 →
          seq ≠ x.lastSeq →
          exec (.transaction p) s
            = .next ((w.frameError q 4 seq).deliver q (w.response 4 seq x.level [] [] (some x.key)) []).after)
        ∧ (∀ x, w.current q r.arrived = some x → macOk x.key r.body = true → seq = (x.lastSeq + 1) % 65536 →
          let t := w.setPort q { w.port q with session := some { x with lastSeq := seq } }
          ∃ u, exec (.transaction p) s = .next u.after
            ∧ (w.coresUp = false → (u.port q).answers = ms.map (fun _ => ⟨St.notReady, 0, []⟩) ∧ t.SameBut [.hosts, .dwellFrom] u)
            ∧ (w.coresUp = true → tooLarge ms = true →
              (u.port q).answers = ms.map (fun _ => ⟨St.tooLarge, 0, []⟩) ∧ t.SameBut [.hosts, .dwellFrom] u)
            ∧ (w.coresUp = true → tooLarge ms = false →
              (t.statuses (t.preview q ms) q x ms).2.any (fun c => c != St.ok) = true →
              (u.port q).answers = (t.statuses (t.preview q ms) q x ms).2.map (fun c => ⟨if c = St.ok then St.aborted else c, 0,
                  []⟩)
              ∧ t.SameBut [.objs, .store, .hosts, .dwellFrom] u
              ∧ ∀ k, k ≠ K.PAST_REFUSALS → k ≠ K.CAL_REFUSALS → u.obj k = t.obj k)
            ∧ (w.coresUp = true → tooLarge ms = false →
              (t.statuses (t.preview q ms) q x ms).2.any (fun c => c != St.ok) = false →
              let pre := (t.statuses (t.preview q ms) q x ms).1
              (pre.conditionsHold ms = false →
                (u.port q).answers = ms.map (fun m => ⟨if m.write then St.constraint else St.aborted, 0, []⟩)
                ∧ t.SameBut [.hosts, .dwellFrom] u)
              ∧ (pre.conditionsHold ms = true →
                let c := t.commitWrites q ms
                let changed := ms.any Member.ofStencil && c.rules != t.rules
                let d := if changed then c.stencilChanged q else c
                let a := (if ms.any (fun m => !m.write) then d.hardware else d).answerAll q ms
                let b := a.1.response 0 seq x.level a.2 [] (some x.key)
                let v := (a.1.setPort q { a.1.port q with stored := some (b, a.2) }).deliver q b a.2
                let z := if changed then v.reviewClaims else v
                u = (if ms.any (fun (m : Member) => m.write && m.key == K.CLOSE) then z.endSession q else z)
                ∧ a.2.length = ms.length ∧ (∀ (i : Nat) (m : Member), ms[i]? = some m → m.write = true → a.2[i]? = some okAnswer)
                ∧ (ms.any Member.write = false → c = t))))))
    ∧ (leAt r.body 0 1 = 2 →
      (parseBody q r.body = none →
        exec (.openSession p) s = .next ((w.frameError q 1 (seqOf r.body)).deliver q (w.plainResponse q 1 (seqOf r.body)) []).after)
      ∧ ∀ seq level nh, parseBody q r.body = some (.opening seq level nh) →
        ((w.port q).lockedUntil.isSome = true → exec (.openSession p) s = .next (w.deliver q (w.plainResponse q 5 seq) []).after)
        ∧ ((w.port q).lockedUntil = none → w.authReady = false →
          exec (.openSession p) s = .next (w.deliver q (w.plainResponse q 6 seq) []).after)
        ∧ ((w.port q).lockedUntil = none → w.authReady = true →
          ∃ u c, exec (.openSession p) s = .next u.after ∧ w.SameBut [.hosts, .dwellFrom] u
            ∧ (u.port q).challenge = some c ∧ c.level = level ∧ c.nh = nh ∧ c.nd.length = 16 ∧ c.at_ = s.fab.tick
            ∧ (u.port q).session = (w.port q).session
            ∧ (u.port q).response = some (w.response 0 seq (w.levelOf q) []
                (c.nd ++ serialBytes ++ [BitVec.ofNat 8 w.keyStatus] ++ List.replicate 3 0#8) none)))
    ∧ (leAt r.body 0 1 = 3 →
      (parseBody q r.body = none →
        exec (.proveSession p) s = .next ((w.frameError q 1 (seqOf r.body)).deliver q (w.plainResponse q 1 (seqOf r.body))
            []).after)
      ∧ ∀ seq proof, parseBody q r.body = some (.proof seq proof) →
        ((w.port q).lockedUntil.isSome = true → exec (.proveSession p) s = .next (w.deliver q (w.plainResponse q 5 seq) []).after)
        ∧ ((w.port q).lockedUntil = none → w.authReady = false →
          exec (.proveSession p) s = .next (w.deliver q (w.plainResponse q 6 seq) []).after)
        ∧ ((w.port q).lockedUntil = none → w.authReady = true →
          (∀ (c : Challenge) key, w.proofKey q c proof = some key →
            key = leBytes 32 (w.obj (K.KEY c.level)) ∧ c.level ≤ 2
            ∧ ((key ≠ zeroKey ∧ proof = hmac256 key (ascii "YB64OPEN" ++ [BitVec.ofNat 8 q, BitVec.ofNat 8 c.level] ++ c.nh ++ c.nd
                  ++ serialBytes))
              ∨ (key = zeroKey ∧ proof = zeroKey ∧ c.level = 2 ∧ q ≠ 2)))
          ∧ (∀ c key, (w.port q).challenge = some c → r.arrived < c.at_ + 200000000 → w.proofKey q c proof = some key →
            ∃ u y, exec (.proveSession p) s = .next u.after ∧ w.SameBut [.objs, .coll, .store, .cap, .sinks, .gov, .hosts,
                .dwellFrom] u ∧ (u.port q).session = some y
              ∧ y.level = c.level ∧ y.lastSeq = seq ∧ y.renewed = s.fab.tick ∧ y.own = [] ∧ y.latches = []
              ∧ y.key = hmac256 key (ascii "YB64SESS" ++ [BitVec.ofNat 8 q, BitVec.ofNat 8 c.level] ++ c.nh ++ c.nd)
              ∧ u.obj (K.OPENS q) = sat32 (w.obj (K.OPENS q) + 1)
              ∧ (u.port q).challenge = none ∧ (u.port q).fails = 0
              ∧ ((w.port q).session.isSome = true → ∀ g, u.holder g ≠ some q))
          ∧ ((w.port q).challenge.all (fun c =>
              decide (c.at_ + 200000000 ≤ r.arrived) || (w.proofKey q c proof).isNone) = true →
            exec (.proveSession p) s = .next (w.authFail q seq).after
            ∧ ((w.obj K.AUTH_LIMIT ≤ (w.port q).fails + 1 →
                ((w.authFail q seq).port q).fails = 0
                ∧ ((w.authFail q seq).port q).lockedUntil = some (s.fab.tick + usTicks (w.obj K.AUTH_LOCKOUT)))
              ∧ ((w.port q).fails + 1 < w.obj K.AUTH_LIMIT →
                ((w.authFail q seq).port q).fails = (w.port q).fails + 1 ∧ ((w.authFail q seq).port q).lockedUntil = none)
              ∧ ((w.authFail q seq).port q).session = (w.port q).session))))

/-- An edge of CVY_DATA that is taken (R4, R13, R67, R69, R76, R79, R91), one that is not (R67), and the forced release (R68). The
choice of the model: the edges that a SOLO unit takes, keeps as candidates and counts its next solo beat from (log entry 33), and
the solo beat after a leave (log entry 34). -/
def Obligations.BeatEdgeRowsTakeEffect : Prop :=
  ∀ (s : State), s.clocked = true → s.serving = true →
    (s.vioGone = true → exec .beatEdge s = .next s.drive.after ∧ exec .spuriousEdge s = .next s.drive.after)
    ∧ (s.vioGone = false → s.takesEdge = true → (s.convoy.state = .member ∨ s.convoy.state = .halted) → s.objB K.CONVOY_ENABLE =
        true →
      ∃ u, exec .beatEdge s = .next u.after ∧ s.SameBut [.phase, .fab, .objs, .mem, .lanes, .coll, .store, .conv, .cap, .ring,
          .rails, .seq, .pmb, .railWins, .margins, .stips, .feeds, .convoy, .upd] u
        ∧ u.fab = { s.fab with count := s.fab.count + 1, edgeTick := s.fab.tick,
                               edges := ((s.fab.count + 1, (s.fab.tick : Int)) :: s.fab.edges).take 1024,
                               kept := (((s.fab.count + 1, (s.fab.tick : Int)) :: s.fab.edges).drop 1024 ++ s.fab.kept).filter
                                 (fun e => s.awaits e.1) }
        ∧ u.obj K.BEATS = min (s.obj K.BEATS + 1) (2 ^ 32 - 1)
        ∧ u.convoy.state = .member ∧ u.convoy.set = s.convoySettings
        ∧ u.convoy.present = (s.convoy.matched && s.coresUp) ∧ u.convoy.held = !(s.convoy.matched && s.coresUp)
        ∧ u.convoy.halting = s.objB K.HALT_REQUEST
        ∧ u.convoy.way = s.convoy.wayNew.getD s.convoy.way ∧ u.convoy.wayNew = none
        ∧ (∀ f, s.convoy.frameThisBeat = true → s.convoy.lastFrame = some f → f.version ≠ 0 → u.convoy.version = f.version)
        ∧ u.convoy.frameThisBeat = false ∧ u.convoy.edgeFrom = some (s.fab.tick : Int) ∧ u.convoy.lastEdge = s.fab.tick)
    ∧ (s.vioGone = false → s.takesEdge = true → (s.convoy.state = .member ∨ s.convoy.state = .halted) →
      s.objB K.CONVOY_ENABLE = false →
      ∃ u, exec .beatEdge s = .next u.after ∧ s.SameBut [.phase, .fab, .objs, .mem, .lanes, .coll, .store, .conv, .cap, .ring,
          .rails, .seq, .pmb, .railWins, .margins, .stips, .feeds, .convoy, .upd] u ∧ u.fab = s.fab ∧ u.convoy.state = .disabled
        ∧ u.convoy.set = s.convoySettings ∧ u.convoy.present = false ∧ u.convoy.held = false
        ∧ u.convoy.soloDue = max (s.convoy.offAt.getD s.fab.tick + 200000) s.fab.tick)
    ∧ (s.vioGone = false → s.takesEdge = true → s.convoy.state = .solo → s.convoy.held = false → s.convoy.join = none →
      s.objB K.CONVOY_ENABLE = true →
      exec .beatEdge s
        = .next (({ s.bumpLive K.BEATS with convoy := { s.convoy with
            set := s.convoySettings, offAt := none,
            edgeFrom := some (s.fab.tick : Int), lastEdge := s.fab.tick,
            soloDue := (max s.fab.edgeTick (s.fab.tick : Int)).toNat + 200000,
            frameThisBeat := false, maybe := s.convoy.maybe.filter (fun e => decide (s.fab.tick < e)) } }).drive).after)
    ∧ (s.vioGone = false → s.takesEdge = true → s.convoy.state = .solo → s.objB K.CONVOY_ENABLE = false →
      ∃ u, exec .beatEdge s = .next u.after ∧ s.SameBut [.phase, .fab, .objs, .mem, .lanes, .coll, .store, .conv, .cap, .ring,
          .rails, .seq, .pmb, .railWins, .margins, .stips, .feeds, .convoy, .upd] u ∧ u.fab = s.fab ∧ u.convoy.state = .disabled
        ∧ u.convoy.set = s.convoySettings ∧ u.convoy.soloDue = s.convoy.soloDue)
    ∧ (∀ t : Int, s.vioGone = false → s.convoy.state = .solo → s.convoy.edgeFrom = some t → s.fab.tick < t + 68000 →
      exec .beatEdge s
        = .next (({ s with convoy := { s.convoy with
            maybe := s.fab.tick :: s.convoy.maybe.filter (fun e => decide (s.fab.tick < e + 72000)) } }).drive).after)
    ∧ (∀ f, s.vioGone = false → s.takesEdge = true → s.convoy.state = .solo → s.convoy.join = some f → s.objB K.CONVOY_ENABLE =
        true →
      ∃ u, exec .beatEdge s = .next u.after ∧ s.SameBut [.phase, .fab, .objs, .mem, .lanes, .coll, .store, .conv, .cap, .ring,
          .rails, .seq, .pmb, .railWins, .margins, .stips, .feeds, .convoy, .upd] u
        ∧ u.fab.count = f.count + 1 ∧ u.fab.edgeTick = s.fab.tick ∧ u.convoy.state = .member ∧ u.convoy.way = f.wayNext
        ∧ u.convoy.leaderAddr = f.leaderAddr ∧ u.convoy.present = s.coresUp ∧ u.convoy.join = none)
    ∧ (∀ t : Int, s.vioGone = false → s.convoy.edgeFrom = some t → s.convoy.state ≠ .disabled → t + 68000 ≤ s.fab.tick → s.fab.tick
        < t + 72000 →
      exec .spuriousEdge s = .next (((s.bumpLive K.SPURIOUS_EDGES).raise 0x70 0x04 0).drive).after)
    ∧ (s.convoy.held = true → 400 ≤ s.offset →
      exec .forcedRelease s
        = .next (((({ s with convoy := { s.convoy with held := false } }).bumpLive K.ABSENCES).raise 0x70 0x01 0).drive).after)

/-- A received frame (R74, R75): valid or not, in SOLO, MEMBER, HALTED and LEADER. -/
def Obligations.BeatFramesAreReceived : Prop :=
  ∀ (s : State) (bs : List Byte), s.clocked = true → s.serving = true → s.coresUp = true → s.convoy.state ≠ .disabled →
    (s.vioGone = true → exec (.beatFrame bs) s = .next s.drive.after)
    ∧ (s.vioGone = false → (s.convoy.state = .leader ∨ s.convoy.edgeFrom.any (fun t : Int => decide (t + 50400 ≤ s.fab.tick)) =
        true) → parseFrame bs = none →
      (s.convoy.state ≠ .solo →
        exec (.beatFrame bs) s = .next (((s.bumpLive K.CVY_FRAME_ERRORS).raise 0x70 0x02 0).drive).after)
      ∧ (s.convoy.state = .solo →
        ∃ u, exec (.beatFrame bs) s = .next u.after ∧ s.SameBut [.objs, .coll, .convoy] u
          ∧ u.obj K.CVY_FRAME_ERRORS = min (s.obj K.CVY_FRAME_ERRORS + 1) (2 ^ 32 - 1)
          ∧ u.convoy.lastFrame = none ∧ u.convoy.join = none ∧ u.convoy.state = .solo))
    ∧ ∀ f, s.vioGone = false → parseFrame bs = some f →
      (s.convoy.state = .solo →
        s.objB K.CONVOY_ENABLE = true →
        ((s.convoy.edgeFrom.any (fun t : Int => decide (t + 50400 ≤ s.fab.tick)) = true) ∨ s.convoy.maybe.any (fun e => decide (e +
            50400 ≤ s.fab.tick)) = true) →
        ∃ u, exec (.beatFrame bs) s = .next u.after ∧ s.SameBut [.objs, .convoy] u
          ∧ u.convoy.heardFrame = true ∧ u.convoy.lastFrame = some f ∧ u.convoy.state = .solo
          ∧ u.convoy.join = (if s.convoy.lastFrame.any (fun p : Frame => p.count + 1 == f.count) then some f else none)
          ∧ u.convoy.edgeFrom = (match s.convoy.maybe.find? (fun e => decide (e + 50400 ≤ s.fab.tick)) with
              | some e => some (e : Int)
              | none => s.convoy.edgeFrom))
      ∧ (s.convoy.state = .solo → s.objB K.CONVOY_ENABLE = false →
        s.convoy.maybe.any (fun e => decide (e + 50400 ≤ s.fab.tick)) = true →
        ∃ u, exec (.beatFrame bs) s = .next u.after ∧ s.SameBut [.fab, .objs, .coll, .store, .cap, .margins, .stips, .feeds,
            .convoy, .upd] u ∧ u.fab = s.fab ∧ u.convoy.state = .disabled
          ∧ u.convoy.set = s.convoySettings)
      ∧ ((s.convoy.edgeFrom.any (fun t : Int => decide (t + 50400 ≤ s.fab.tick)) = true) →
        (s.convoy.state = .member ∨ s.convoy.state = .halted) →
        (s.convoy.frameThisBeat = true → exec (.beatFrame bs) s = .next ((s.noteReplySlot bs).drive).after)
        ∧ (s.convoy.frameThisBeat = false →
          ∃ u, exec (.beatFrame bs) s = .next u.after ∧ s.SameBut [.fab, .objs, .coll, .store, .cap, .margins, .stips, .feeds,
              .convoy, .upd] u
            ∧ u.fab.count = f.count ∧ u.fab.tick = s.fab.tick
            ∧ (f.count = s.fab.count → u.fab = s.fab) ∧ u.obj K.PENDING_VOTE = f.voteKind * 256 + f.voteArg
            ∧ u.convoy.lastFrame = some f ∧ u.convoy.frameThisBeat = true ∧ u.convoy.matched = (f.count == s.fab.count)
            ∧ u.convoy.leaderAddr = f.leaderAddr ∧ u.convoy.msgOpen = true ∧ u.convoy.way = s.convoy.way
            ∧ (f.wayNext = s.convoy.way → u.convoy.wayNew = none) ∧ (f.wayNext ≠ s.convoy.way → u.convoy.wayNew = some f.wayNext)
            ∧ (f.halt = true → u.convoy.state = .halted ∧ u.convoy.wayPending = none
                ∧ u.obj K.HALTS = min (s.obj K.HALTS + 1) (2 ^ 32 - 1)
                ∧ (f.count = s.fab.count → u.coll = (s.raise 0x70 0x07 0).coll))
            ∧ (f.halt = false → u.convoy.state = s.convoy.state
                ∧ u.convoy.wayPending = s.convoy.wayPending.filter (fun w => !(f.voteKind == 1 && f.voteArg == w) && f.wayNext != w)
                ∧ (f.count = s.fab.count → u.coll = s.coll)
                ∧ (f.count ≠ s.fab.count → u.obj K.REBASES = min (s.obj K.REBASES + 1) (2 ^ 32 - 1)))))
      ∧ (s.convoy.state = .leader → f.leaderAddr < s.convoy.set.unitAddr →
        ∃ u, exec (.beatFrame bs) s = .next u.after ∧ s.SameBut [.fab, .objs, .coll, .store, .cap, .margins, .stips, .feeds,
            .convoy, .upd] u
          ∧ u.convoy.state = (if f.halt = true then .halted else .member) ∧ u.fab.count = f.count
          ∧ u.convoy.leaderAddr = f.leaderAddr ∧ u.convoy.lead = Leading.none ∧ u.convoy.matched = (f.count == s.fab.count)
          ∧ (f.count = s.fab.count → f.halt = false → u.coll = (s.raise 0x70 0x06 0).coll))
      ∧ (s.convoy.state = .leader → s.convoy.set.unitAddr ≤ f.leaderAddr →
        exec (.beatFrame bs) s = .next ((s.noteReplySlot bs).drive).after)

/-- The beats that a unit makes itself: solo beats (R91), after a loss (Table 3.8), as a candidate (R93), as the leader (R70, R94).
The choice of the model: a new leader is absent on its first beat (log entry 35), and a solo beat takes a waystation only while the
cores run (log entry 36). -/
def Obligations.SoloAndLeadingRowsTakeEffect : Prop :=
  ∀ (s : State), s.clocked = true → s.serving = true →
    ((s.convoy.state = .solo ∨ s.convoy.state = .disabled) → s.convoy.soloDue ≤ s.fab.tick →
      ∃ u, exec .soloBeat s = .next u.after ∧ s.SameBut [.phase, .fab, .objs, .mem, .lanes, .coll, .store, .conv, .ring, .rails,
          .seq, .pmb, .railWins, .stips, .feeds, .convoy, .upd] u
        ∧ u.fab = { s.fab with count := s.fab.count + 1, edgeTick := s.fab.tick,
                               edges := ((s.fab.count + 1, (s.fab.tick : Int)) :: s.fab.edges).take 1024,
                               kept := (((s.fab.count + 1, (s.fab.tick : Int)) :: s.fab.edges).drop 1024 ++ s.fab.kept).filter
                                 (fun e => s.awaits e.1) }
        ∧ u.convoy.soloDue = s.fab.tick + 200000
        ∧ u.convoy.way = (if s.coresUp = true then s.convoy.soloWay.getD s.convoy.way else s.convoy.way))
    ∧ (s.convoy.state = .member → s.convoy.lastEdge + usTicks (s.obj K.LOSS_TIMEOUT) ≤ s.fab.tick →
      ∃ u, exec .lossTimeout s = .next u.after ∧ s.SameBut [.fab, .objs, .mem, .lanes, .coll, .store, .conv, .ring, .rails, .seq,
          .pmb, .railWins, .stips, .feeds, .convoy, .upd] u
        ∧ u.convoy.state = (if s.objB K.CONVOY_ENABLE = true then .solo else .disabled)
        ∧ u.obj K.LEADER_LOSSES = min (s.obj K.LEADER_LOSSES + 1) (2 ^ 32 - 1) ∧ u.obj K.PENDING_VOTE = 0
        ∧ u.fab.count = s.fab.count + 1 ∧ u.convoy.soloDue = s.fab.tick + 200000 ∧ u.convoy.present = false
        ∧ u.convoy.held = false ∧ u.convoy.wayPending = none ∧ u.convoy.replies = [])
    ∧ (s.coresUp = true → s.convoy.state = .solo → s.convoy.set.candidate = true → s.convoy.heardFrame = false →
      s.convoy.soloSince + s.convoy.set.wait ≤ s.fab.tick → s.objB K.CONVOY_ENABLE = true →
      ∃ u, exec .candidateWait s = .next u.after ∧ s.SameBut [.phase, .fab, .objs, .mem, .lanes, .coll, .store, .conv, .ring,
          .rails, .seq, .pmb, .railWins, .stips, .feeds, .convoy, .upd] u
        ∧ u.convoy.state = .leader ∧ u.convoy.leaderAddr = s.obj K.UNIT_ADDR ∧ u.convoy.lead.first = true
        ∧ u.convoy.lead.frameSent = false ∧ u.fab.count = s.fab.count + 1 ∧ u.fab.edgeTick = s.fab.tick
        ∧ u.convoy.lastEdge = s.fab.tick)
    ∧ (s.coresUp = true → s.convoy.state = .leader →
      s.fab.edgeTick + max 72000 (usTicks (s.obj K.BEAT_PERIOD)) ≤ s.fab.tick →
      (s.convoy.lead.halted = true → s.linesHigh = true) →
      ∃ u, exec .leaderBeat s = .next u.after ∧ s.SameBut [.fab, .objs, .mem, .lanes, .coll, .store, .conv, .ring, .rails, .seq,
          .pmb, .railWins, .stips, .feeds, .convoy, .upd] u
        ∧ (s.objB K.CONVOY_ENABLE = false → u.convoy.state = .disabled ∧ u.fab = s.fab)
        ∧ (s.objB K.CONVOY_ENABLE = true → u.convoy.state = .leader ∧ u.fab.count = s.fab.count + 1 ∧ u.fab.edgeTick = s.fab.tick
        ∧ u.convoy.lead.asked = s.convoy.question ∧ u.convoy.lead.frameSent = false ∧ u.convoy.lead.queue = s.convoy.lead.queue
        ∧ u.convoy.present = (s.convoy.matched && s.coresUp) ∧ u.convoy.way = s.convoy.wayNew.getD s.convoy.way))

/-- The leader's frame (R72, R76, R78) and the reply of a unit (R83). -/
def Obligations.FramesAndRepliesAreSent : Prop :=
  ∀ (s : State), s.clocked = true → s.serving = true →
    (∀ (halt : HaltSample) (vote : Bool), s.coresUp = true → s.convoy.state = .leader → s.convoy.lead.frameSent = false → 12000 ≤
        s.offset →
      let l := s.convoy.lead
      let passed := l.asked.isSome && !(vote || s.convoy.objecting || l.ringOpen) && !l.first
      ∃ u f, exec (.beatFrameSend halt vote) s = .next u.after ∧ s.SameBut [.objs, .coll, .convoy] u
        ∧ u.convoy.frameOut = some f ∧ u.convoy.lastFrame = some f ∧ u.convoy.lead.frameSent = true ∧ u.convoy.lead.first = false
        ∧ u.convoy.lead.halted = f.halt ∧ u.convoy.lead.outbox = l.outbox.drop 1
        ∧ f.count = s.fab.count ∧ f.leaderAddr = s.convoy.set.unitAddr ∧ f.leaderNew = l.first ∧ f.commit = passed
        ∧ f.halt = (halt.segment || s.convoy.halting || (halt.slot && decide (1 < s.convoy.set.segCount) && !l.ringOpen)) ∧
            f.replyOpen = !f.halt
        ∧ f.replySeg = s.fab.count.toNat % s.convoy.set.segCount % 256
        ∧ (passed = true → ∀ w, l.asked = some (1, w) → f.wayNext = w ∧ u.convoy.lead.queue = l.queue.drop 1)
        ∧ (passed = false → f.wayNext = s.convoy.way)
        ∧ (∀ m, l.outbox.head? = some m → f.msgKind = m.kind ∧ f.msgAmount = m.amount ∧ f.msgId = m.id ∧ f.msgFrom = m.from_
            ∧ f.msgTo = m.dest)
        ∧ (l.outbox = [] → f.msgKind = 0) ∧ u.obj K.PENDING_VOTE = f.voteKind * 256 + f.voteArg)
    ∧ (∀ r queued, s.slotOpen = true → s.pendingReply = some (r, queued) →
      exec (.replySend true) s = .next (({ s with convoy := { s.convoy with
          replied := true, sent := some r, sending := true,
          replies := if queued then s.convoy.replies.drop 1 else s.convoy.replies } }).drive).after
      ∧ exec (.replySend false) s = .next (({ s with convoy := { s.convoy with replied := true } }).drive).after)

/-- Toll passing and waystation requests at the leader (R80, R95, R96). R95 does not say which of two requests or offers stands:
that the leader keeps the latest is the choice of the model (log entry 38). -/
def Obligations.TollPassingByTheLeader : Prop :=
  ∀ (s : State) (w : BitVec 80) (r : Reply), s.clocked = true → s.serving = true → s.coresUp = true →
    s.convoy.state = .leader →
    let l := s.convoy.lead
    let lead (x : Leading) : State := ({ s with convoy := { s.convoy with lead := x } }).drive
    (parseReply w = some r → r.kind = 1 → 0 < r.arg8 →
      (l.offer.all (fun a => a.1 == r.addr) = true →
        exec (.tollRequest w) s = .next (lead { l with request := some (r.addr, r.arg8) }).after)
      ∧ (∀ b a, l.offer = some (b, a) → b ≠ r.addr →
        exec (.tollRequest w) s = .next (lead { l with
            request := none, offer := none, nextProposal := (l.nextProposal + 1) % 65536,
            proposals := l.proposals ++ [⟨l.nextProposal, b, r.addr, s.fab.count⟩],
            outbox := l.outbox ++ [⟨1, min r.arg8 a, l.nextProposal, b, r.addr⟩] }).after))
    ∧ (parseReply w = some r → r.kind = 2 → 0 < r.arg8 →
      (l.request.all (fun a => a.1 == r.addr) = true →
        exec (.tollOffer w) s = .next (lead { l with offer := some (r.addr, r.arg8) }).after)
      ∧ (∀ b a, l.request = some (b, a) → b ≠ r.addr →
        exec (.tollOffer w) s = .next (lead { l with
            request := none, offer := none, nextProposal := (l.nextProposal + 1) % 65536,
            proposals := l.proposals ++ [⟨l.nextProposal, r.addr, b, s.fab.count⟩],
            outbox := l.outbox ++ [⟨1, min a r.arg8, l.nextProposal, r.addr, b⟩] }).after))
    ∧ (parseReply w = some r → r.kind = 3 →
      let kept := l.proposals.filter (fun p => !(p.sender == r.addr && p.receiver == r.argB))
      exec (.xferSent w) s = .next (lead (if l.deliveries.any (fun d => d.sender == r.addr && d.id == r.argA) = true
        then { l with proposals := kept }
        else { l with proposals := kept,
                      deliveries := l.deliveries ++ [⟨r.addr, r.argA, r.argB, r.arg8, s.fab.count⟩],
                      outbox := l.outbox ++ [⟨2, r.arg8, r.argA, r.addr, r.argB⟩] })).after)
    ∧ (parseReply w = some r → r.kind = 4 →
      exec (.xferReceived w) s = .next (lead { l with
        deliveries := l.deliveries.filter (fun d => !(d.sender == r.argB && d.id == r.argA)),
        outbox := l.outbox ++ [⟨3, r.arg8, r.argA, r.argB, r.addr⟩] }).after)
    ∧ (parseReply w = some r → r.kind = 5 →
      exec (.wayRequestReply w) s = .next (if l.queue.contains r.arg8 = true then s.drive
        else if l.queue.length < 8 then lead { l with queue := l.queue ++ [r.arg8] }
        else lead { l with dropped := l.dropped + 1 }).after)
    ∧ exec .proposalForget s
        = .next (lead { l with proposals := l.proposals.filter (fun p => decide ((s.fab.count - p.beat).toNat < s.obj
            K.XFER_RESEND)) }).after
    ∧ exec .deliverRepeat s = .next (lead { l with
        deliveries := l.deliveries.map (fun d => if s.resendDue d.beat then { d with beat := s.fab.count } else d),
        outbox := l.outbox ++ (l.deliveries.filter (fun d => s.resendDue d.beat)).map
          (fun d => ⟨2, d.amount, d.id, d.sender, d.receiver⟩) }).after

/-- The transfer messages at the sender and at the receiver (R95 to R97, R246, R247), and the sum they keep. -/
def Obligations.TollTransfersConserveTolls : Prop :=
  ∀ (s : State) (f : Frame), s.clocked = true →
    let r := s.convoy.set.unitAddr
    (s.openMsg 1 = some f → f.msgFrom = r → 1 ≤ f.msgAmount → s.transit = 0 →
      f.msgAmount + s.obj K.INRUSH_KEEP ≤ s.obj K.INRUSH_FREE →
      ∃ u, exec .xferPropose s = .next u.after ∧ s.SameBut [.objs, .store, .convoy] u
        ∧ u.obj K.INRUSH_FREE + f.msgAmount = s.obj K.INRUSH_FREE ∧ u.transit = f.msgAmount
        ∧ u.obj K.INRUSH_HELD = s.obj K.INRUSH_HELD ∧ u.obj K.XFER_NEXT_ID = (s.obj K.XFER_NEXT_ID + 1) % 65536
        ∧ u.convoy.replies = s.convoy.replies ++ [⟨r, 3, f.msgAmount, s.obj K.XFER_NEXT_ID, f.msgTo⟩]
        ∧ u.convoy.msgOpen = false ∧ u.convoy.xferBeat = s.fab.count)
    ∧ (s.openMsg 2 = some f → f.msgTo = r →
      ∃ u, exec .xferDeliver s = .next u.after ∧ s.SameBut [.objs, .store, .convoy] u
        ∧ (s.xferSeen f.msgFrom f.msgId = true →
            u.obj K.INRUSH_HELD = s.obj K.INRUSH_HELD ∧ u.obj K.INRUSH_FREE = s.obj K.INRUSH_FREE)
        ∧ (s.xferSeen f.msgFrom f.msgId = false →
            u.obj K.INRUSH_HELD = s.obj K.INRUSH_HELD + f.msgAmount ∧ u.obj K.INRUSH_FREE = s.obj K.INRUSH_FREE + f.msgAmount
            ∧ u.xferSeen f.msgFrom f.msgId = true)
        ∧ u.transit = s.transit ∧ u.convoy.replies = s.convoy.replies ++ [⟨r, 4, f.msgAmount, f.msgId, f.msgFrom⟩])
    ∧ (s.openMsg 3 = some f → f.msgFrom = r → 0 < s.transit → s.obj (H.xfer 0 0) = f.msgId → s.transit ≤ s.obj K.INRUSH_HELD →
      ∃ u, exec .xferClose s = .next u.after ∧ s.SameBut [.objs, .store, .convoy] u
        ∧ u.obj K.INRUSH_HELD + s.transit = s.obj K.INRUSH_HELD ∧ u.transit = 0 ∧ u.obj K.INRUSH_FREE = s.obj K.INRUSH_FREE
        ∧ ∀ x ∈ u.convoy.replies, ¬ (x.kind = 3 ∧ x.argA = f.msgId))
    ∧ (s.serving = true → s.coresUp = true → 0 < s.transit → s.resendDue s.convoy.xferBeat = true →
      exec .xferResend s = .next (({ s with convoy := { s.convoy with
        xferBeat := s.fab.count,
        replies := if s.convoy.replies.contains s.sentReply then s.convoy.replies else s.convoy.replies ++ [s.sentReply] }
            }).drive).after)

/-- The relay cascade (R64, R84, R407) and its checks (R86). -/
def Obligations.RelayRowsTakeEffect : Prop :=
  ∀ (s : State) (cscIn holdLine dataLine : Bool),
    (∃ u, exec (.relayForward cscIn holdLine dataLine) s = .next u.after ∧ s.SameBut [.convoy] u
      ∧ u.convoy.cscIn = (cscIn || s.vioGone) ∧ u.convoy.holdIn = (holdLine || s.vioGone)
      ∧ u.convoy.dataIn = (dataLine || s.vioGone)
      ∧ (s.supplies = false → u.convoy.cscOut = true ∧ u.convoy.dataLow = false ∧ u.convoy.holdLow = false)
      ∧ (s.supplies = true → s.relays = true →
          u.convoy.cscOut = (cscIn && u.convoy.segmentLevel u.relayOffset s.filterClk)
          ∧ (cscIn = false → carriesData u.relayOffset s.filterClk u.convoy.relayEdge = true → u.convoy.dataLow = true))
      ∧ (s.supplies = true →
          u.convoy.haltSample = (if u.relayOffset = 500 then u.convoy.holdIn && !s.ownHalt else s.convoy.haltSample)
          ∧ u.convoy.voteSample = (if u.relayOffset = 1900 then u.convoy.holdIn && !s.ownHalt && !s.convoy.objecting
              else s.convoy.voteSample))
      ∧ (s.supplies = true → s.relays = false → s.convoy.state = .leader → s.convoy.set.relay = true → 1 < s.convoy.set.segCount →
          u.convoy.cscOut = (!u.convoy.leaderLow u.relayOffset
            && (!u.convoy.replyOpen u.relayOffset s.filterClk || (u.convoy.dataIn && !u.convoy.dataLow))))
      ∧ (s.supplies = true → s.relays = false → s.convoy.state ≠ .leader → u.convoy.cscOut = true
          ∧ u.convoy.dataLow = (u.convoy.state.inConvoy && s.frozen.isNone && u.convoy.replyLow u.relayOffset)))
    ∧ (∀ ticks : BitVec 32, s.clocked = true → s.serving = true → s.convoy.state = .leader → 1 < s.convoy.set.segCount →
      s.convoy.lead.ringBack = false → s.convoy.lead.ringOpen = false → ticks.toNat ≤ 8000 →
      let t := ({ s with convoy := { s.convoy with lead := { s.convoy.lead with ringBack := true } } }).setLive K.RING_DELAY
          ticks.toNat
      exec (.ringDelay ticks) s = .next ((if 7680 < ticks.toNat then t.raise 0x71 0x02 0 else t).drive).after)
    ∧ (s.clocked = true → s.serving = true → s.convoy.state = .leader → 1 < s.convoy.set.segCount →
      s.convoy.lead.ringBack = false → s.convoy.lead.ringOpen = false → 8000 ≤ s.offset →
      exec .ringOpen s
        = .next ((({ s with convoy := { s.convoy with lead := { s.convoy.lead with ringOpen := true } } }).raise 0x71 0x01
            0).drive).after)
    ∧ (∀ t, s.clocked = true → s.serving = true → s.convoy.stuckFrom = some t → s.convoy.set.relay = true →
      s.convoy.inHalt = false → t + 72000 < s.fab.tick →
      exec .cscStuck s = .next ((({ s with convoy := { s.convoy with stuckFrom := none } }).raise 0x71 0x03 0).drive).after)

/-- Grants (R20, R21), hard age (R22), protection (R23) and hand-over (R24) of the shared lanes. That a hand-over counts as a grant
is the model's choice (assumption 86). -/
def Obligations.LaneRowsTakeEffect : Prop :=
  ∀ (s : State), s.clocked = true →
    (∀ lane, s.lanes.lowestFree = some lane →
      (((0 < s.lanes.grants ∧ s.fab.tick ≤ s.lanes.lastGrant) ∨ s.lanes.best = none) → exec .laneGrant s = .next s.after)
      ∧ ∀ r, (s.lanes.grants = 0 ∨ s.lanes.lastGrant < s.fab.tick) → s.lanes.best = some r →
        let u := s.placeOnLane lane r
        exec .laneGrant s = .next (u.laneOpened r lane).after
        ∧ r ∈ s.lanes.queue ∧ (∀ x ∈ s.lanes.queue, x.before r = false)
        ∧ 64 ≤ lane ∧ lane < 128 ∧ s.lanes.isFree lane = true ∧ (∀ k, 64 ≤ k → k < lane → s.lanes.isFree k = false)
        ∧ s.SameBut [.objs, .lanes] u
        ∧ (∃ o, flook u.lanes.shared lane = some o ∧ o.kind = r.kind ∧ o.base = r.base ∧ o.eff = r.eff ∧ o.target = r.target
            ∧ o.ref = r.ref ∧ o.posted = r.posted ∧ o.granted = s.fab.tick)
        ∧ (∀ k, k ≠ lane → flook u.lanes.shared k = flook s.lanes.shared k)
        ∧ u.lanes.queue = (s.lanes.queue.erase r).map (denyOne (s.obj K.PROMOTE_DENIALS)) ∧ u.lanes.lastGrant = s.fab.tick)
    ∧ (s.lanes.lowestFree = none → exec .laneGrant s = .next (s.lanes.protections.foldl State.protect s).after)
    ∧ (∀ r, r ∈ s.lanes.protections ↔ r ∈ s.lanes.queue ∧ r.base = 0)
    ∧ (∀ r v, s.victim (fun o => o.base != 0) = some v →
      s.protect r = (s.bumpLive K.PROTECT_PREEMPTS).startHandover r v
      ∧ v ∈ s.lanes.shared ∧ v.2.base ≠ 0 ∧ ∀ x ∈ s.lanes.shared, x.2.base ≠ 0 →
          (s.lanes.handovers.any (fun h => h.lane == x.1)) = false → x.2.eff ≤ v.2.eff)
    ∧ (∀ r : LaneReq, s.victim (fun o => o.base != 0) = none →
      (r.waitCounted = true → s.protect r = s)
      ∧ (r.waitCounted = false → s.SameBut [.objs, .lanes, .coll] (s.protect r)
        ∧ (s.protect r).obj K.PROTECT_WAITS = min (s.obj K.PROTECT_WAITS + 1) (2 ^ 32 - 1)
        ∧ (s.protect r).coll = (s.raise 0x8A 0x02 0).coll
        ∧ (s.protect r).lanes.queue = s.lanes.queue.map (fun x => if x = r then { x with waitCounted := true } else x)))
    ∧ (∀ r v, s.lanes.lowestFree = none →
      leastBy LaneReq.before (s.lanes.queue.filter (fun x =>
        x.promoted && decide (x.posted + s.hardAgeOf x < s.fab.tick) && (s.hardVictim x).isSome)) = some r →
      s.hardVictim r = some v →
      exec .hardAgePreempt s = .next ((s.bumpLive K.HARD_PREEMPTS).startHandover r v).after
      ∧ r ∈ s.lanes.queue ∧ v ∈ s.lanes.shared ∧ v.2.eff = r.eff)
    ∧ (∀ (lane : Fin 128) h, s.lanes.handovers.find? (fun x => x.lane == lane.val) = some h →
      (s.handoverReady h = true →
        exec (.preemptHandover lane) s
          = .next (({ s with lanes := { s.lanes with handovers := s.lanes.handovers.erase h } }).grantLane lane.val h.req).after)
      ∧ (s.handoverReady h = false → exec (.preemptHandover lane) s = .next s.after))

/-- Restarts of the management cores (R28, R29, R57, R395) and their start (R28, R117, R314, R344). -/
def Obligations.CoreRowsTakeEffect : Prop :=
  ∀ (s : State), s.clocked = true →
    (∀ cause, (cause = 1 ∨ cause = 2) →
      let c : Instr := if cause = 1 then .lockstepMismatch else .watchdogExpiry
      ((s.coresStarted = false ∨ s.cores.hold.isSome = true) → exec c s = .next s.after)
      ∧ (s.coresStarted = true → s.cores.hold = none →
        let recent := s.fab.tick :: s.cores.restarts.filter (fun t => decide (s.fab.tick < t + 2000000000))
        ∃ u, exec c s = .next (if s.record.pending.isSome = true ∧ s.record.ran = true then u.trialFail 0x09 else u).after
          ∧ s.SameBut [.coll, .cores, .hosts] u
          ∧ u.cores.hold = some (if 3 ≤ recent.length then .limit else .restart cause) ∧ u.cores.restarts = recent
          ∧ (recent.length < 3 → u.coll = (s.raise 0x8B cause 0).coll)
          ∧ (3 ≤ recent.length → u.coll = ((s.raise 0x8B cause 0).raise 0x8B 0x03 0).coll)
          ∧ ∀ p x, (u.port p).session = some x →
              x.latches = [] ∧ ∃ y, (s.port p).session = some y ∧ x = { y with latches := [] }))
    ∧ ((s.cores.hold = none ∨ s.cores.hold = some .limit ∨ s.input.onVhu = true) → exec .coreStart s = .next s.after)
    ∧ (∀ h, s.cores.hold = some h → h ≠ .limit → s.input.onVhu = false →
      ∃ u, exec .coreStart s = .next u.after ∧ s.SameBut [.objs, .mem, .lanes, .coll, .ledger, .store, .cores, .cap, .activeArea,
          .otherArea, .rails, .seq, .pmb, .stips, .sinks, .gov, .convoy, .loader, .upd] u
        ∧ u.cores = { s.cores with hold := none } ∧ u.seq.deferred = []
        ∧ u.ledger.restartCauses = s.ledger.restartCauses ++ (match h with
            | .restart c => [c]
            | .reserve => [3]
            | .activation => []
            | .limit => [])
        ∧ u.convoy.state = (if s.convoy.state = .leader then .solo else s.convoy.state))

/-- The rising rows of Tables 4.2 and 4.4 (R104 to R109, R128). -/
def Obligations.RisingRowsTakeEffect : Prop :=
  ∀ (s : State) (n : Fin 64), s.clocked = true →
    let r := s.rail n.val
    let moved (x : RailState) : Rail := { r with state := x, movedAt := s.filterClk + 1, before := r.state }
    let idle := s.seq.state = .idle ∨ s.seq.state = .blocked ∨ (s.seq.state = .rising ∧ s.seq.stepOpen = false)
    let starts := idle ∧ s.seq.way < s.target ∧ s.risingOk = true ∧ s.fab.tick = s.fab.edgeTick ∧ s.seq.rearm = []
    (¬ starts → exec .stepStart s = .next s.after)
    ∧ (starts →
      let late := s.seq.way + 1 = s.target ∧ s.seq.wayAt.tick = s.fab.tick ∧ s.seq.lateStep.isSome = true
      ∃ u, exec .stepStart s = .next u.after ∧ s.SameBut [.objs, .lanes, .coll, .rails, .seq, .pmb] u
        ∧ u.seq.state = .rising ∧ u.seq.way = s.seq.way + 1 ∧ u.seq.stepOpen = true ∧ u.seq.anchor = s.now
        ∧ u.seq.stepRails = railNos.filter (fun m => (s.rail m).state == .off && s.obj (K.ON_WAY m) == s.seq.way + 1)
        ∧ ∀ m ∈ u.seq.stepRails, s.mayMove m = true →
            let d := usTicks (s.obj (K.ON_DELAY m) + s.stagger)
            (late → (u.rail m).state = .armed ∧ (u.rail m).slot = some (s.fab.tick + 1 + d))
            ∧ (¬ late → 0 < d → (u.rail m).state = .armed ∧ (u.rail m).slot = some (s.fab.tick + d))
            ∧ (¬ late → d = 0 → (u.rail m).slot = none ∧ (u.rail m).timer = s.fab.tick
                ∧ ((64 ≤ s.obj (K.PREREQ m) ∨ (s.rail (s.obj (K.PREREQ m))).state = .on) →
                    (u.rail m).state = .ramping ∧ (u.rail m).en = (s.obj (K.CONTROL m) != 2 && !s.vioGone))
                ∧ (s.obj (K.PREREQ m) < 64 → (s.rail (s.obj (K.PREREQ m))).state ≠ .on → (u.rail m).state = .waiting)))
    ∧ (∀ t, r.state = .armed → r.slot = some t → t ≤ s.fab.tick → (s.mayMove n.val = true ∨ t = s.fab.tick) →
      ((64 ≤ s.obj (K.PREREQ n.val) ∨ (s.rail (s.obj (K.PREREQ n.val))).state = .on) →
        ∃ u, exec (.onSlot n) s = .next u.after ∧ s.SameBut [.lanes, .rails, .pmb] u
          ∧ (u.rail n.val).state = .ramping ∧ (u.rail n.val).timer = s.fab.tick ∧ (u.rail n.val).slot = none
          ∧ (u.rail n.val).en = (s.obj (K.CONTROL n.val) != 2 && !s.vioGone) ∧ (∀ m, m ≠ n.val → u.rail m = s.rail m)
          ∧ (∃ o, flook u.lanes.rail n.val = some o ∧ o.kind = .ramp ∧ o.base = 1)
          ∧ (s.obj (K.CONTROL n.val) = 2 → r.noPmb = false →
              ∃ j, u.pmb.jobs = s.pmb.jobs ++ [j] ∧ j.rail = n.val ∧ j.what = .turnOn ∧ j.code = 0x01 ∧ j.data = 0x80)
          ∧ (s.obj (K.CONTROL n.val) ≠ 2 → u.pmb = s.pmb))
      ∧ (s.obj (K.PREREQ n.val) < 64 → (s.rail (s.obj (K.PREREQ n.val))).state ≠ .on →
        exec (.onSlot n) s
          = .next (s.setRail n.val { moved .waiting with slot := none, timer := s.fab.tick, turnOnAt := none }).after))
    ∧ (∀ w, r.state = .ramping → r.window = some w → w + usTicks (s.obj (K.QUAL_HOLD n.val)) ≤ s.fab.tick →
      s.mayMove n.val = true →
      exec (.railQualify n) s = .next (s.enterOn n.val).after
      ∧ s.SameBut [.lanes, .rails] (s.enterOn n.val) ∧ ((s.enterOn n.val).rail n.val).state = .on
      ∧ (∀ m, m ≠ n.val → ((s.enterOn n.val).rail m).state = (s.rail m).state)
      ∧ (∀ m ∈ s.dependents n.val, m ≠ n.val → (s.rail m).state = .waiting →
          ((s.enterOn n.val).rail m).turnOnAt = some (s.fab.tick + 1))
      ∧ (r.timer + usTicks (s.obj (K.RAMP_TIMEOUT n.val)) ≤ s.fab.tick →
          exec (.rampTimeout n) s = .next (s.enterOn n.val).after))
    ∧ (r.state = .waiting → r.turnOnAt = none → r.timer + usTicks (s.obj (K.PREREQ_WAIT n.val)) ≤ s.fab.tick →
      s.mayMove n.val = true →
      let t := (s.bump K.RAMP_FAILS).raise n.val 0x20 0
      (s.obj (K.ON_FAIL n.val) = 0 → exec (.prereqTimeout n) s = .next ((t.setFlag n.val 1).turnOn n.val).after)
      ∧ (s.obj (K.ON_FAIL n.val) = 1 → exec (.prereqTimeout n) s = .next ((t.setFlag n.val 3).moveRail n.val .off).after)
      ∧ (s.obj (K.ON_FAIL n.val) = 2 →
        exec (.prereqTimeout n) s
          = .next (((t.setFlag n.val 3).moveRail n.val .off).localShutdown 3 s.now).after))
    ∧ (r.state = .ramping → r.timer + usTicks (s.obj (K.RAMP_TIMEOUT n.val)) ≤ s.fab.tick → s.qualDone n.val = false →
      s.mayMove n.val = true →
      let t := ((s.bump K.RAMP_FAILS).raise n.val 0x21 0).readStatus n.val
      (s.obj (K.ON_FAIL n.val) = 0 → exec (.rampTimeout n) s = .next ((t.setFlag n.val 2).enterOn n.val).after)
      ∧ (s.obj (K.ON_FAIL n.val) = 1 → exec (.rampTimeout n) s = .next ((t.setFlag n.val 3).release n.val false true).after)
      ∧ (s.obj (K.ON_FAIL n.val) = 2 →
        exec (.rampTimeout n) s
          = .next (((t.setFlag n.val 3).release n.val false true).localShutdown 3 s.now).after))

/-- The falling rows of Table 4.2 (R105, R110 to R114, R149). -/
def Obligations.FallingRowsTakeEffect : Prop :=
  ∀ (s : State) (n : Fin 64), s.clocked = true →
    let r := s.rail n.val
    ((s.seq.state = .idle ∨ s.seq.state = .blocked ∨ s.seq.state = .rising) → s.target < s.seq.way → s.coresUp = true →
      ∃ u, exec .fallingPass s = .next u.after ∧ s.SameBut [.objs, .lanes, .coll, .store, .cap, .rails, .seq, .stips, .sinks, .gov]
          u
        ∧ u.seq.state = .falling ∧ u.seq.way = s.target ∧ u.seq.stepOpen = false ∧ u.seq.anchor = s.seq.wayAt
        ∧ (∃ p, u.seq.pass = some p ∧ p.anchor = s.seq.wayAt
            ∧ ∀ m ∈ railNos, s.isPresent m = true → s.target < s.obj (K.ON_WAY m) → m ∈ p.rails)
        ∧ ∀ m ∈ railNos,
          let stays := u.rail m = { s.rail m with depDone := (u.rail m).depDone }
          ((s.isPresent m = false ∨ s.obj (K.ON_WAY m) ≤ s.target) → stays)
          ∧ (s.isPresent m = true → s.target < s.obj (K.ON_WAY m) →
            let x := (s.rail m).state
            let off := s.seq.wayAt.tick + usTicks (s.obj (K.OFF_DELAY m))
            let free := s.mayMove m = true ∧ s.rowFirst m = false
            ((x = .discharging ∨ x = .forced) → stays)
            ∧ (free → (x = .armed ∨ x = .waiting) → (u.rail m).state = .off)
            ∧ (free → (x = .ramping ∨ x = .on) → (u.rail m).state = .stopping
                ∧ (u.rail m).slot = some (if off < s.fab.tick then s.fab.tick + 1 else off))
            ∧ (free → (x = .stopping ∨ x = .off ∨ x = .locked) → stays)
            ∧ (¬ free → x ≠ .discharging → x ≠ .forced →
                u.rail m = { s.rail m with
                  next := (s.rail m).next ++ [.enter s.seq.wayAt false], depDone := (u.rail m).depDone })))
    ∧ (∀ t, r.state = .stopping → r.slot = some t → t ≤ s.fab.tick → r.depDone < s.fab.tick → s.mayMove n.val = true →
      (s.dependents n.val).all (fun m => (s.rail m).state.done) = true →
      (s.tripDue n.val = false →
        ∃ u, exec (.offSlot n) s = .next u.after ∧ s.SameBut [.objs, .lanes, .coll, .store, .cap, .rails, .seq, .pmb, .margins,
            .stips, .sinks, .gov] u
          ∧ u.rail n.val = { r with
              state := .discharging, slot := none, timer := s.fab.tick, dischFrom := s.fab.tick, below := 0, en := false,
              window := none, turnOnAt := none, movedAt := s.filterClk + 1, before := .stopping }
          ∧ (∀ m, m ≠ n.val → u.rail m = s.rail m) ∧ u.seq = { s.seq with releasedAt := s.fab.tick + 1 }
          ∧ (∃ o, flook u.lanes.rail n.val = some o ∧ o.kind = .discharge ∧ o.base = s.railLevel n.val)
          ∧ (u.sink n.val).use = .discharge ∧ (u.sink n.val).cmd = s.obj (K.DISCH_CURRENT n.val)
          ∧ (u.sink n.val).slew = s.obj (K.SINK_SLEW n.val) ∧ (u.sink n.val).standby = true
          ∧ (u.sink n.val).level = some (s.railLevel n.val))
      ∧ (s.tripDue n.val = true →
        exec (.offSlot n) s = .next (s.qualifyAll n.val).after ∧ ((s.qualifyAll n.val).rail n.val).state = .discharging
        ∧ (s.qualifyAll n.val).flag n.val 4 = true))
    ∧ (r.state = .discharging → r.timer + usTicks (s.obj (K.DISCH_TIMEOUT n.val)) ≤ s.fab.tick → s.mayMove n.val = true →
      ∃ u, exec (.dischTimeout n) s = .next u.after ∧ s.SameBut [.objs, .lanes, .coll, .store, .rails, .pmb, .sinks] u
        ∧ (u.rail n.val).state = .forced ∧ (u.rail n.val).timer = s.fab.tick
        ∧ (u.sink n.val).use = .discharge ∧ (u.sink n.val).cmd = s.obj (K.DISCH_FULL n.val)
        ∧ (u.sink n.val).slew = s.obj (K.SINK_SLEW n.val) ∧ (u.sink n.val).level = some (s.railLevel n.val)
        ∧ (u.sink n.val).want = s.wantOf n.val (s.obj (K.DISCH_FULL n.val))
        ∧ u.obj (K.RAIL_FLAGS n.val) = s.obj (K.RAIL_FLAGS n.val) ||| 2 ^ 5
        ∧ u.obj K.DISCH_TIMEOUTS = min (s.obj K.DISCH_TIMEOUTS + 1) (2 ^ 32 - 1) ∧ u.coll = (s.raise n.val 0x22 0).coll)
    ∧ (r.state = .forced → r.timer + usTicks (s.obj (K.DISCH_TIMEOUT n.val)) ≤ s.fab.tick → s.mayMove n.val = true →
      ∃ u, exec (.dischFailed n) s = .next u.after ∧ s.SameBut [.objs, .lanes, .coll, .store, .rails, .sinks, .gov] u
        ∧ (u.rail n.val).state = (if nbit (s.obj (K.RAIL_FLAGS n.val)) 4 = true then .locked else .off)
        ∧ u.obj (K.RAIL_FLAGS n.val) = s.obj (K.RAIL_FLAGS n.val) ||| 2 ^ 6 ∧ u.coll = (s.raise n.val 0x23 0).coll)

/-- Local shutdowns (R118), the hold-off (R119) and PMBus transactions (R24, R122, R126, R127, R129). The model's choices:
assumptions 87, 88, 91, 123. -/
def Obligations.ShutdownAndPmbusRowsTakeEffect : Prop :=
  ∀ (s : State), s.clocked = true →
    (∀ c : BitVec 8,
      let stands := s.serving = true ∧ c.toNat ∉ s.seq.causes
        ∧ ((c = 1 ∧ s.input.lossDone = true ∧ s.input.good = false)
          ∨ (c = 2 ∧ s.objB K.PFAIL_SHUTDOWN = true ∧ s.input.pfailLow = true) ∨ (c = 5 ∧ s.objB K.LOCAL_HOLD = true))
      let waits := s.seq.deferred.any (fun (d : Deferred) => match d with
        | .shutdown _ _ => true
        | .dependent _ _ => false)
      let t := { s with seq := { s.seq with causes := nins s.seq.causes c.toNat } }
      let v := ((t.noteCause c.toNat).bump K.LOCAL_SHUTDOWNS).raiseAt 0x8A 0x10 0 s.now
      let off := s.seq.state = .collapsed ∨ s.seq.state = .shutdown ∨ waits = true
      (¬ stands → exec (.localShutdown c) s = .next s.after)
      ∧ (stands → off → exec (.localShutdown c) s = .next t.after)
      ∧ (stands → ¬ off →
        v.obj K.LOCAL_SHUTDOWNS = min (s.obj K.LOCAL_SHUTDOWNS + 1) (2 ^ 32 - 1)
        ∧ v.obj K.SHUTDOWN_CAUSE = (if s.obj K.SHUTDOWN_CAUSE = 0 then c.toNat else s.obj K.SHUTDOWN_CAUSE)
        ∧ (s.coresUp = false →
          exec (.localShutdown c) s
            = .next ({ v with seq := { v.seq with deferred := s.seq.deferred ++ [Deferred.shutdown c.toNat s.now] } }).after)
        ∧ (s.coresUp = true →
          let u := v.postShutdown s.now
          exec (.localShutdown c) s = .next u.after ∧ s.SameBut [.objs, .lanes, .coll, .store, .cap, .rails, .seq, .pmb, .stips,
              .sinks, .gov] u
          ∧ u.seq.state = .shutdown ∧ u.seq.way = 0 ∧ u.seq.causes = nins s.seq.causes c.toNat ∧ u.seq.anchor = s.now)))
    ∧ (∀ t, s.seq.state = .holdoff → s.seq.holdFrom = some t → s.seq.causes = [] →
      t + usTicks (s.obj K.REENTRY_HOLDOFF) ≤ s.fab.tick →
      ∃ u, exec .holdoffEnd s = .next u.after ∧ s.SameBut [.objs, .lanes, .rails, .seq, .pmb, .margins] u
        ∧ u.obj K.SHUTDOWN_CAUSE = 0 ∧ u.seq.holdFrom = none
        ∧ u.seq.state = (if s.objB K.PMB_SETUP = true then .setup else .idle))
    ∧ (∀ (bus : Fin 4) (ok : Bool) (data : BitVec 16), s.vioGone = true →
      exec (.pmbusTransactionDone bus ok data) s = exec (.pmbusTransactionDone bus false data) s)
    ∧ (∀ (bus : Fin 4) (ok : Bool) (data : BitVec 16) (id : Nat) (j : PmbJob), s.vioGone = false →
      flook s.pmb.running bus.val = some id → s.pmb.job id = some j →
      let t := if ok = true then s.notePage j.rail else s.forgetPage bus.val
      let ended := (t.endJob bus.val j).startPort bus.val
      let done := if j.what.sequencing = true then ended.seqPmbDone j data.toNat else ended.marginDone j.rail j data.toNat
      let c := Instr.pmbusTransactionDone bus ok data
      (j.fate = .normal →
        (ok = true → j.paging = true → exec c s = .next (t.setJob { j with paging := false }).after)
        ∧ (ok = true → j.paging = false → exec c s = .next done.after)
        ∧ (ok = false → j.tries < s.obj K.PMB_RETRIES → 
          exec c s = .next (t.setJob { j with tries := j.tries + 1, paging := t.needsPage j.rail }).after)
        ∧ (ok = false → s.obj K.PMB_RETRIES ≤ j.tries →
          exec c s = .next (if j.what.sequencing = true then ended.seqPmbFailed j else ended.marginFailed j.rail).after))
      ∧ (j.fate = .last →
        (ok = true → j.paging = false →
          let w := ended.pmbRead j data.toNat
          exec c s
            = .next (if j.what.sequencing = true then (w.reportPmb j.rail).setupDone j.rail else w.marginFailed j.rail).after)
        ∧ ((ok = false ∨ j.paging = true) →
          exec c s
            = .next (if j.what.sequencing = true then (ended.reportPmb j.rail).setupDone j.rail else ended.marginFailed
                j.rail).after))
      ∧ (j.fate = .mute → exec c s = .next ended.after)
      ∧ (s.notePage j.rail).needsPage j.rail = false
      ∧ (s.pmbPort j.rail = bus.val → s.obj (K.PMB_PAGE j.rail) ≠ 0xFF → (s.forgetPage bus.val).needsPage j.rail = true))

/-- The glitch filters (R138, R141), a qualification (R142, R144 to R146) and the rails' decision window (R152, R153). That the fast
path acts on the tick on which the rail entered its state is read from R143 (log entry 107). -/
def Obligations.ComparatorRowsTakeEffect : Prop :=
  ∀ (s : State) (n : Fin 64) (c : Fin 5), (s.clocked = true ∨ s.frozen.isSome = true) →
    let r := s.rail n.val
    let f := r.filter c.val
    let start : Filter := { f with phase := .counting, onset := s.now, onsetClk := s.filterClk, raw := true }
    let due := (List.range 5).filter (fun k => s.filterDue n.val k)
    let b := s.rampRow n.val
    let t := due.foldl (fun st k => st.setFilter n.val k { (st.rail n.val).filter k with phase := .qualified }) b
    ((r.state = .absent ∨ f.phase = .counting ∨ f.phase = .qualified) → exec (.comparatorCross n c) s = .next s.after)
    ∧ (r.state ≠ .absent → f.phase = .inside →
      let u := s.setFilter n.val c.val start
      (0 < s.obj (filterKey n.val c.val) → exec (.comparatorCross n c) s = .next u.after)
      ∧ (s.obj (filterKey n.val c.val) = 0 → exec (.comparatorCross n c) s = .next (u.qualifyAll n.val).after
        ∧ u.filterDue n.val c.val = true))
    ∧ (r.state ≠ .absent → f.phase = .clearing →
      exec (.comparatorCross n c) s = .next (s.setFilter n.val c.val { f with phase := .qualified, raw := true }).after)
    ∧ (due ≠ [] → s.qualifyAll n.val = t.qualify n.val due ∧ t.filterClk = s.filterClk
      ∧ (∀ k ∈ due, ((t.rail n.val).filter k).phase = .qualified)
      ∧ (∀ k, k ∉ due → (t.rail n.val).filter k = (b.rail n.val).filter k))
    ∧ ((r.state ≠ .ramping ∨ s.frozen.isSome = true) → b = s)
    ∧ (r.state = .ramping → s.frozen = none → s.qualDone n.val = true → s.mayMove n.val = true → b = s.enterOn n.val)
    ∧ (f.phase = .counting → f.onsetClk + 2 * s.obj (filterKey n.val c.val) ≤ s.filterClk →
      exec (.comparatorQualify n c) s = .next (s.qualifyAll n.val).after ∧ c.val ∈ due
      ∧ (r.state ≠ .absent →
        let u := s.qualifyAll n.val
        exec (.comparatorReturn n c) s
          = .next (u.setFilter n.val c.val
              { (u.rail n.val).filter c.val with phase := .clearing, clearClk := u.filterClk, raw := false }).after)
      ∧ (r.state = .on → c.val = 0 → nbit (s.obj (K.ACTION_OVF n.val)) 0 = true →
        ((s.qualifyAll n.val).rail n.val).state = .discharging ∧ ((s.qualifyAll n.val).rail n.val).en = false
        ∧ (s.qualifyAll n.val).flag n.val 4 = true))
    ∧ ((s.recordQual n.val c.val).obj (K.QUAL_COUNT n.val c.val) = min (s.obj (K.QUAL_COUNT n.val c.val) + 1) (2 ^ 32 - 1)
      ∧ nbit ((s.recordQual n.val c.val).obj (K.COMP_LATCH n.val)) c.val = true)
    ∧ (r.state ≠ .absent → f.phase = .counting → s.filterDue n.val c.val = false →
      exec (.comparatorReturn n c) s = .next (s.setFilter n.val c.val { f with phase := .inside, raw := false }).after)
    ∧ (r.state ≠ .absent → f.phase = .qualified →
      exec (.comparatorReturn n c) s
        = .next (s.setFilter n.val c.val { f with phase := .clearing, clearClk := s.filterClk, raw := false }).after)
    ∧ (f.phase = .clearing → f.clearClk + 2 * s.obj (filterKey n.val c.val) ≤ s.filterClk →
      exec (.filterClear n c) s = .next (s.setFilter n.val c.val { f with phase := .inside }).after)
    ∧ (∀ w rest k, s.clocked = true → s.railWins = w :: rest → w.q0 + w.window ≤ s.fab.tick →
      leastBy RailCand.before w.cands = some k →
      exec .railDecisionWindow s = .next (({ s with railWins := rest }).takeClaim k).after
      ∧ k ∈ w.cands ∧ ∀ x ∈ w.cands, x.before k = false)

/-- ENERGY_PERIOD (R155): the mean product, and the 64-bit sum modulo 2^64 (R322). The wait of 18 ticks for the late slots (log
entry 46) and a carry in progress that is finished first (log entry 98) are the choice of the model. -/
def Obligations.EnergyMeteringTakesEffect : Prop :=
  ∀ (s : State) (n : Fin 64), s.clocked = true →
    let x := s.liveOf n.val
    let p := tdiv x.vSum (Int.ofNat x.vCount) * tdiv x.iSum (Int.ofNat x.iCount)
    let key := K.ENERGY_LO n.val
    let e := (p.toNat + x.rest) / 1000000
    let b := s.finishCarry key
    (s.fab.tick < x.next + 18 → exec (.energyPeriod n) s = .next s.after)
    ∧ (x.next + 18 ≤ s.fab.tick →
      ∃ u, exec (.energyPeriod n) s = .next u.after ∧ s.SameBut [.objs, .store, .live] u
        ∧ (u.liveOf n.val).next = x.next + 200000 ∧ (∀ m, m ≠ n.val → u.liveOf m = s.liveOf m)
        ∧ ((x.vCount = 0 ∨ x.iCount = 0 ∨ p < 0) → u.objs = s.objs)
        ∧ ((s.store.carries.any (fun c => c.1 == key)) = false → b = s)
        ∧ (0 < x.vCount → 0 < x.iCount → 0 ≤ p → (u.liveOf n.val).rest = (p.toNat + x.rest) % 1000000
            ∧ u.wide key % 2 ^ 64 = (b.obj (H.cellLo key) % 2 ^ 32 + 2 ^ 32 * b.obj (H.cellHi key) + e) % 2 ^ 64)
        ∧ (0 < x.vCount → 0 < x.iCount → p < 0 → (u.liveOf n.val).rest = 0))

/-- Results of the slices (R161, R166, R167, R178, R184) and of the quick converters (R185), with the collapse they may start
(R122). -/
def Obligations.ConverterResultsTakeEffect : Prop :=
  ∀ (s : State),
    (∀ raw : BitVec 16, s.clocked = true → s.resultDue = false → exec (.slotResult raw) s = .next s.after)
    ∧ (∀ (raw : BitVec 16) x rest c (urgent : Bool), s.clocked = true → s.conv.inflight = x :: rest → x.tick + 18 ≤ s.fab.tick →
      (x.use = if urgent = true then .urgent c else .scan c) → c < 192 →
      let y := s.channelLevel c x.signed (sliceLevel (s.slice x.slice) raw.toNat)
      ∃ u d, exec (.slotResult raw) s = .next (u.deliverResult d).after
        ∧ s.SameBut [.objs, .mem, .store, .conv, .cap, .ring] u
        ∧ u.conv.inflight = rest
        ∧ flook u.conv.last c = some
            { code := rawOf 16 y.1, slice := x.slice, urgent := urgent, gang := false, sat := y.2, signed := x.signed }
        ∧ u.obj (K.VALUE c) = rawI32 (s.physical c y.1 x.signed)
        ∧ (urgent = true → u.obj (K.URGENTS c) = min (s.obj (K.URGENTS c) + 1) (2 ^ 32 - 1))
        ∧ (if x.signed = true then -32768 ≤ y.1 ∧ y.1 ≤ 32767 else 0 ≤ y.1 ∧ y.1 ≤ 65535)
        ∧ d = { ch := c, value := s.physical c y.1 x.signed, slotTick := x.tick, scan := !urgent, urgent := urgent })
    ∧ (∀ (raw : BitVec 16) x rest, s.clocked = true → s.conv.inflight = x :: rest → x.tick + 18 ≤ s.fab.tick → x.use = .zero →
      let old := (s.slice x.slice).offset
      ∃ u, exec (.slotResult raw) s = .next (u.guardSamples).after ∧ s.SameBut [.objs, .mem, .store, .conv, .cap, .ring] u ∧
          u.conv.inflight = rest
        ∧ (u.slice x.slice).offset = (if s.objB K.ZERO_TRACK = true then
            old + tdiv (Int.ofNat raw.toNat * 256 - 8388608 - old) 1024 else old))
    ∧ (∀ (raw : BitVec 16) x rest k c, s.clocked = true → s.conv.inflight = x :: rest → x.tick + 18 ≤ s.fab.tick →
      x.use = .gang k c →
      let t := { s with conv := { s.conv with inflight := rest }, cap := { s.cap with fresh := [] } }
      let g : GangSample := { k := k, ch := c, slice := x.slice, x := sliceLevel (s.slice x.slice) raw.toNat, signed := x.signed,
                              page := x.page }
      ∃ u, exec (.slotResult raw) s = .next (u.guardSamples).after ∧ s.SameBut [.objs, .mem, .store, .conv, .cap, .ring] u ∧
          u.conv.inflight = rest
        ∧ (s.cap.waiting = [] → s.cap.t0 ≤ x.tick → s.cap.ran = true → u = (t.presentSample (some g)).finishRingPages))
    ∧ (∀ (r : GangRun) (g : GangSample), g.ch < 192 →
      (State.finishGang r true s g).obj K.CAP_TAKEN = s.obj K.CAP_TAKEN + 1
      ∧ (State.finishGang r true s g).readBytes (captureAddr g.k) 2 = leBytes 2 (rawOf 16 (s.gangCode r g).1)
      ∧ ∀ a, (a < captureAddr g.k ∨ captureAddr g.k + 2 ≤ a) →
          (∀ p, g.page = some p → a < ringCellAddr p ∨ ringCellAddr p + 2 ≤ a) →
          memByte (State.finishGang r true s g).mem a = memByte s.mem a)
    ∧ (∀ c code sat sg urg gang slc st (place : Option (Nat × Nat)) (a : Nat), (∀ p, place = some p → a < ringCellAddr p ∨
        ringCellAddr p + 2 ≤ a) →
      memByte (s.storeResult c code sat sg urg gang slc st place).mem a = memByte s.mem a)
    ∧ (∀ raw, s.MemBut [.capture, .ring] (s.takeResult raw).1)
    ∧ (∀ a b o v : BitVec 12, s.clocked = true → s.fab.tick < s.conv.quickAt + 200 →
      exec (.quickResult a b o v) s = .next s.after)
    ∧ (∀ a b o v : BitVec 12, ((s.clocked = true ∧ s.conv.quickAt + 200 ≤ s.fab.tick) ∨ s.frozen.isSome = true) →
      let u := s.storeQuick a.toNat b.toNat o.toNat v.toNat
      exec (.quickResult a b o v) s = .next ((u.quickFeeds.collapseCheck).huAbort).after
      ∧ s.SameBut [.objs, .conv] u ∧ u.conv.quickAt = s.fab.tick
      ∧ (u.obj (K.QUICK_WORD 0) = a.toNat ∧ u.obj (K.QUICK_WORD 1) = b.toNat ∧ u.obj (K.QUICK_WORD 2) = o.toNat
          ∧ u.obj (K.QUICK_WORD 3) = v.toNat)
      ∧ (u.obj (K.QUICK_VALUE 0) = 2000 * a.toNat ∧ u.obj (K.QUICK_VALUE 1) = 2000 * b.toNat
          ∧ u.obj (K.QUICK_VALUE 2) = 2000 * o.toNat ∧ u.obj (K.QUICK_VALUE 3) = 2000 * v.toNat))
    ∧ (s.seq.collapseArmed = true → s.seq.state ≠ .collapsed → Int.ofNat (s.quick 2) < s.objI K.COLLAPSE_V →
      let w := s.collapseCheck
      w.seq.state = .collapsed ∧ w.seq.way = 0 ∧ w.obj K.COLLAPSES = min (s.obj K.COLLAPSES + 1) (2 ^ 32 - 1)
      ∧ ∀ n ∈ railNos, (s.rail n).state ≠ .absent → (s.rail n).state ≠ .locked →
          (w.rail n).state = .off ∧ (w.rail n).en = false ∧ w.flag n 9 = true)

/-- Rotation (R173 to R175) and calibration steps (R170 to R172, R176). The place of a slice after several failed start-up steps is
the choice of the model (log entry 109), as is what ROTATIONS counts (log entry 110). -/
def Obligations.CalibrationRowsTakeEffect : Prop :=
  ∀ (s : State), s.clocked = true →
    (∀ i, s.spare = some i → s.conv.scanning = true → s.anyFailed = false → s.swapTick i = true → s.conv.swapDue ≤ s.fab.tick →
      let k := nextSlice i
      ((s.conv.catchUp ≠ 0 ∨ s.reserved (s.slice k).pos = false) →
        ∃ u, exec .sliceSwap s = .next u.after ∧ s.SameBut [.objs, .lanes, .conv] u
          ∧ (u.slice i).role = .inRound ∧ (u.slice i).pos = (s.slice k).pos ∧ (u.slice k).role = .calibrating
          ∧ u.lanes.queue.length = s.lanes.queue.length + 1
          ∧ u.conv.swapDue = s.fab.tick + usTicks (s.obj K.ROT_PERIOD / 17))
      ∧ (s.conv.catchUp = 0 → s.reserved (s.slice k).pos = true → exec .sliceSwap s = .next s.after)
      ∧ (s.conv.catchUp = 0 → s.reserved (s.slice k).pos = true → s.hardAge ≤ s.calAge k →
        ∃ u, exec .forcedSwap s = .next u.after ∧ s.SameBut [.objs, .lanes, .coll, .store, .conv] u
          ∧ (u.slice i).role = .inRound ∧ (u.slice i).pos = (s.slice k).pos ∧ (u.slice k).role = .calibrating
          ∧ u.obj K.FORCED_SWAPS = min (s.obj K.FORCED_SWAPS + 1) (2 ^ 32 - 1)
          ∧ u.conv.catchUp = 17 ∧ u.coll = (s.raise (0x40 + k) 0x02 0).coll))
    ∧ ((s.fab.tick < s.conv.swapDue ∨ s.spare = none) →
      exec .sliceSwap s = .next s.after ∧ exec .forcedSwap s = .next s.after)
    ∧ (∀ (n : Fin 17) (zero refP refN rise fall : BitVec 24), (s.slice n.val).role = .calibrating →
      let e := calEstimates zero.toNat refP.toNat refN.toNat rise.toNat fall.toNat
      let x : Slice := { role := .spare, pos := 0xFF, offset := e.1, gain := e.2.1, skew := e.2.2, calTick := s.fab.tick, stale :=
          false }
      let place := s.passPlace
      (∀ lane op, ¬ (s.phase = .recall ∧ s.conv.scanning = false) →
        s.lanes.laneOf .cal n.val = some lane → flook s.lanes.shared lane = some op → op.granted + 400000 ≤ s.fab.tick →
        ∃ u, exec (.calStepDone n zero refP refN rise fall) s = .next u.after ∧ s.SameBut [.objs, .lanes, .coll, .store, .conv] u
          ∧ flook u.lanes.shared lane = none
          ∧ (calPasses e = true → u.slice n.val = { x with role := place.1, pos := place.2 }
              ∧ place = (match s.emptyPlace with
                | some p => (.inRound, p)
                | none => (.spare, 0xFF))
              ∧ u.obj (K.CAL_COUNT n.val) = min (s.obj (K.CAL_COUNT n.val) + 1) (2 ^ 32 - 1))
          ∧ (calPasses e = false → u.slice n.val = { s.slice n.val with role := .failed, pos := 0xFF } ∧ u.conv.catchUp = 0
              ∧ u.coll = (s.raise (0x40 + n.val) 0x01 0).coll))
      ∧ (s.phase = .recall → s.conv.scanning = false → s.conv.calStart + 400000 ≤ s.fab.tick →
        ∃ u, exec (.calStepDone n zero refP refN rise fall) s = .next u.after ∧ s.SameBut [.objs, .lanes, .coll, .store, .conv] u
          ∧ (calPasses e = true → n.val < 16 → u.slice n.val = { x with role := .inRound, pos := n.val })
          ∧ (calPasses e = true → n.val = 16 → s.anyFailed = false → u.slice 16 = x)
          ∧ (calPasses e = true → n.val = 16 → ∀ i, (List.range 16).find? (fun k => (s.slice k).role == .failed) = some i →
              u.slice 16 = { x with role := .inRound, pos := i })
          ∧ (calPasses e = false → u.coll = (s.raise (0x40 + n.val) 0x01 0).coll
              ∧ u.slice n.val = { s.slice n.val with role := .failed, pos := 0xFF })))
    ∧ (∀ n : Fin 17, s.anyFailed = true → (s.slice n.val).stale = false → s.hardAge ≤ s.calAge n.val →
      exec (.calStale n) s
        = .next ((s.setSlice n.val { s.slice n.val with stale := true }).raise (0x40 + n.val) 0x03 0).after)

/-- Tables 6.6 and 6.8: the rows that start and end a capture, and freeze and re-arm the ring. -/
def Obligations.CaptureAndRingRowsTakeEffect : Prop :=
  ∀ (s : State), s.clocked = true →
    let starts := s.cap.state = .armed ∧ s.ticked = false ∧ s.captureDue = true ∧ (s.lanes.laneOf .capture 0).isSome = true
      ∧ s.fab.tick % (16 / s.cap.g) = 0
    (¬ starts → exec .captureStart s = .next s.after)
    ∧ (starts →
      ∃ u, exec .captureStart s = .next u.after ∧ s.SameBut [.objs, .cap, .stips, .sinks] u
        ∧ u.cap = { s.cap with state := .running, t0 := s.fab.tick }
        ∧ u.obj K.CAP_FIRST_BEAT = s.now.beat.toNat ∧ u.obj K.CAP_FIRST_OFFSET = s.now.offset
        ∧ ∀ n, s.cap.owner = .stipple n → (s.stip n).state = .preload →
            (u.stip n).t0 = s.fab.tick ∧ (u.sink n).use = .stipple ∧ (u.sink n).cmd = s.obj (K.STIP_BASE n))
    ∧ (s.cap.state = .running → s.cap.samples ≤ s.obj K.CAP_TAKEN →
      ∃ u, exec .captureDone s = .next u.after ∧ s.SameBut [.objs, .lanes, .cap, .stips] u
        ∧ u.cap.state = (if s.cap.orphan = true then .idle else .done) ∧ u.cap.ended = true
        ∧ u.obj K.CAP_FLAGS = s.obj K.CAP_FLAGS
        ∧ ∀ lane, s.lanes.laneOf .capture 0 = some lane → flook u.lanes.shared lane = none)
    ∧ (s.ring.started = true → s.ring.state = .triggered → s.ring.freezeTick ≤ s.fab.tick →
      ∃ u, exec .ringFreeze s = .next u.after ∧ s.SameBut [.objs, .lanes, .store, .conv, .cap, .ring] u
        ∧ u.ring.state = .frozen ∧ u.ring.opened = none ∧ u.ring.freezeTick = s.ring.freezeTick
        ∧ u.obj K.RING_FREEZES = min (s.obj K.RING_FREEZES + 1) (2 ^ 32 - 1)
        ∧ (u.lanes.queued .etch 3 || u.store.waiting.any (fun w => w.cause == 3)) = true)
    ∧ (s.ring.state = .frozen → s.ring.recalled = true → exec .ringAutoRearm s = .next s.after)
    ∧ (s.ring.state = .frozen → s.ring.recalled = false → s.obj K.REARM_MODE = 1 → s.ring.etchDone = true → s.coll.inFault = false →
      let seq := (s.obj K.LAST_SEQ + 1) % 2 ^ 32
      exec .ringAutoRearm s
        = .next ({ s.setLive K.FIRST_SEQ seq with
            ring := { s.ring with
              state := .running, nextSeq := seq, opened := none, recalled := false, etchSeq := none, etchDone := false },
            ledger := { s.ledger with link := none } }).after)

/-- Margins (Table 7.1, R199 to R201, R204). -/
def Obligations.MarginRowsTakeEffect : Prop :=
  ∀ (s : State) (n : Fin 64), s.clocked = true →
    let m := s.margin n.val
    let due := m.state = .pending ∧ s.reached m.beat m.offset = true ∧ s.railLaneOpen n.val 2 = true
    (¬ due → exec (.marginMoveStart n) s = .next s.after)
    ∧ (due → s.obj (K.MARGIN_METHOD n.val) = 1 →
      exec (.marginMoveStart n) s
        = .next ((s.setMargin n.val
            { m with state := .moving, position := m.want, codeTo := s.marginCode n.val m.goal, due := s.fab.tick }).takeRailLane
            n.val .margin 2).after)
    ∧ (due → s.obj (K.MARGIN_METHOD n.val) ≠ 1 →
      let t := (s.setMargin n.val { m with state := .moving }).dropJobs (fun j => j.rail == n.val && !j.what.sequencing)
      exec (.marginMoveStart n) s = .next (if t.pmb.jobs.any (fun j => j.rail == n.val && !j.what.sequencing) = true then t
        else if m.modeRead = true then t.sendMarginWord n.val else t.postPmb n.val .voutMode 0x20 0 2).after)
    ∧ (∀ op, (m.state = .moving ∨ m.state = .returning) → flook s.lanes.rail n.val = some op → op.kind = .margin →
      m.due ≤ s.fab.tick →
      let c := dacStep m.code m.codeTo (s.obj (K.MRG_SLEW n.val))
      (c ≠ m.codeTo →
        exec (.marginStep n) s = .next (s.setMargin n.val { m with code := c, due := s.fab.tick + 200 }).after)
      ∧ (c = m.codeTo →
        ∃ u, exec (.marginStep n) s = .next u.after ∧ s.SameBut [.objs, .lanes, .store, .margins] u
          ∧ u.obj (K.MRG_MOVES n.val) = min (s.obj (K.MRG_MOVES n.val) + 1) (2 ^ 32 - 1)
          ∧ flook u.lanes.rail n.val = none
          ∧ u.margin n.val = (if m.state = .moving then
              { m with code := c, state := .settling, due := s.fab.tick + usTicks (s.obj (K.MRG_SETTLE n.val)) }
            else { m with code := c, due := s.fab.tick + 200, state := .nominal, position := 0 }))
      ∧ (c - m.code).natAbs ≤ s.obj (K.MRG_SLEW n.val))
    ∧ (m.state = .settling → m.due ≤ s.fab.tick →
      let err := s.objI (K.V_AVG n.val) - m.goal
      let out := decide (s.objI (K.MRG_TRIM_TOL n.val) < Int.ofNat err.natAbs)
      (s.obj (K.MARGIN_METHOD n.val) = 1 → out = true → 0 < m.trims →
        let d := roundDiv (err * 1280) (Int.ofNat (s.obj (K.MRG_RTOP n.val)))
        exec (.mrgSettleEnd n) s
          = .next ((s.setMargin n.val { m with
              state := .moving, trims := m.trims - 1, codeTo := clampI (-32768) 32767 (m.code + d),
              due := s.fab.tick }).takeRailLane n.val .margin 2).after)
      ∧ ((s.obj (K.MARGIN_METHOD n.val) ≠ 1 ∨ out = false ∨ m.trims = 0) →
        let t := (s.setMargin n.val { m with state := .held, due := s.fab.tick + usTicks (s.obj (K.MRG_HOLD_MAX n.val)) }).setLive
          (K.MRG_ERROR n.val) (rawI32 err)
        exec (.mrgSettleEnd n) s = .next (if out then t.raise n.val 0x31 0 else t).after))
    ∧ (m.state = .held → s.obj (K.MRG_HOLD_MAX n.val) ≠ 0 → m.due ≤ s.fab.tick →
      ((s.stip n.val).state.busy = false →
        exec (.mrgHoldExpired n) s = .next ((s.startReturn n.val).raise n.val 0x32 0).after
        ∧ ((s.startReturn n.val).margin n.val).state = .returning)
      ∧ ((s.stip n.val).state.busy = true → exec (.mrgHoldExpired n) s = .next s.after))

/-- The run state machine of Table 7.5 (R207 to R210, R216, R219, R226). -/
def Obligations.StippleRowsTakeEffect : Prop :=
  ∀ (s : State) (n : Fin 64), s.clocked = true →
    let r := s.stip n.val
    let waits := s.setStip n.val { r with state := .waiting, schedTick := s.fab.tick, wait := .lane, retry := false }
    ((r.state ≠ .scheduled ∨ s.reached r.beat r.offset = false) → exec (.stipScheduledTick n) s = .next s.after)
    ∧ (r.state = .scheduled → s.reached r.beat r.offset = true →
      (((s.margin n.val).state = .nominal ∨ (s.margin n.val).state = .held) →
        exec (.stipScheduledTick n) s = .next (waits.postLane .stipple 2 n.val n.val 0 []).after)
      ∧ ((s.margin n.val).state ≠ .nominal → (s.margin n.val).state ≠ .held →
        exec (.stipScheduledTick n) s = .next (waits.stipFail n.val 0x14).after))
    ∧ (r.state = .waiting → (s.fab.count - r.beat).toNat < 2 ^ 31 → s.obj (K.STIP_WAIT_MAX n.val) ≤ (s.fab.count - r.beat).toNat →
      exec (.stipWaitMaxEnd n) s = .next (s.stipFail n.val (match r.wait with
        | .lane => 0x10
        | .tolls => 0x11
        | .capture => 0x12
        | .calibration => 0x13)).after)
    ∧ (∀ reason,
      ((s.stipFail n.val reason).stip n.val).state = (if s.obj (K.STIP_EVERY n.val) = 0 then .failed else .scheduled)
      ∧ (s.stipFail n.val reason).obj (K.STIP_REASON n.val) = reason
      ∧ (s.stipFail n.val reason).obj (K.ABORTS n.val) = min (s.obj (K.ABORTS n.val) + 1) (2 ^ 32 - 1))
    ∧ (r.state = .preload → s.cap.owner = .stipple n.val → s.cap.state ≠ .armed → r.t0 + s.obj (K.STIP_PRELOAD n.val) ≤ s.fab.tick →
      exec (.stipPreloadEnd n) s
        = .next ((s.setStip n.val { r with state := .acquire, edges := 1 }).setSink n.val
            { s.sink n.val with cmd := s.stipLevel n.val 0 }).after)
    ∧ (r.state = .acquire → r.edges < s.stipEdges n.val →
      r.t0 + s.obj (K.STIP_PRELOAD n.val) + r.edges * s.stipPeriod n.val ≤ s.fab.tick →
      exec (.stipPatternEdge n) s
        = .next ((s.setStip n.val { r with edges := r.edges + 1 }).setSink n.val
            { s.sink n.val with cmd := s.stipLevel n.val r.edges }).after)
    ∧ (r.state = .acquire → r.t0 + s.stipLength n.val ≤ s.fab.tick →
      exec (.stipAcquireEnd n) s
        = .next (((s.setStip n.val { r with state := .unload }).removeSink n.val (s.obj (K.STIP_SLEW n.val))).stipUnloaded
            n.val).after
      ∧ ((s.sink n.val).cur ≠ 0 → (s.sink n.val).use = .stipple →
          ((s.removeSink n.val (s.obj (K.STIP_SLEW n.val))).sink n.val).cmd = 0
          ∧ ((s.removeSink n.val (s.obj (K.STIP_SLEW n.val))).sink n.val).use = .removing))
    ∧ (r.state = .analyse → s.coresUp = true →
      let lines := s.stipLines n.val ((s.stipV n.val).drop (s.stipFirst n.val)) ((s.stipI n.val).drop (s.stipFirst n.val))
      let seq := (s.obj H.runSeq + 1) % 2 ^ 32
      if lines.length < 4 then exec (.stipAnalysisDone n) s = .next (s.stipEnd n.val 0x15 .failed).after
      else
        ∃ u, exec (.stipAnalysisDone n) s = .next u.after ∧ s.SameBut [.objs, .mem, .coll, .store, .cap, .stips] u
          ∧ u.obj H.runSeq = seq ∧ u.obj (K.RUNS n.val) = min (s.obj (K.RUNS n.val) + 1) (2 ^ 32 - 1)
          ∧ u.cap = { s.cap with state := .idle, owner := .none }
          ∧ (u.stip n.val).state = (if s.obj (K.STIP_EVERY n.val) = 0 then .done else .scheduled)
          ∧ (let bs := u.readBytes (trendAddr seq) 128
             leAt bs 0 4 = seq ∧ leAt bs 124 4 = (crc32c (bs.take 124)).toNat)
          ∧ ∀ a, (a < trendAddr seq ∨ trendAddr seq + 128 ≤ a) → memByte u.mem a = memByte s.mem a)

/-- The toll governor and the sinks (R32, R212, R234 to R243). -/
def Obligations.TollRowsTakeEffect : Prop :=
  ∀ (s : State) (n : Fin 64), s.clocked = true →
    let k := s.sink n.val
    (exec .powerGrant s = .next (State.serveFrom 64 s []).reviewStandby.after
      ∧ s.SameBut [.objs, .coll, .store, .sinks, .gov] (State.serveFrom 64 s []).reviewStandby
      ∧ (k.level ≠ some 0 →
          ((s.serveOne n.val).sink n.val).power = k.power + min (k.want - k.power) s.gov.free
          ∧ (s.serveOne n.val).gov.free = s.gov.free - min (k.want - k.power) s.gov.free
          ∧ ((s.serveOne n.val).sink n.val).queued = decide (k.power + s.gov.free < k.want)))
    ∧ (exec .energyGrant s = .next s.energyGrants.after ∧ s.SameBut [.objs, .mem, .lanes, .coll, .store, .conv, .cap, .otherArea,
        .stips, .sinks, .gov] s.energyGrants
      ∧ (s.energyQueue = [] → s.energyGrants = s))
    ∧ (s.energyQueue = [n.val] →
      let fits := k.ePosted.isSome = true ∧ k.use = .idle ∧ s.energyGranted + s.gov.coolingSum + k.eWant ≤ s.gov.energyCap
        ∧ k.eWant ≤ s.gov.free
      (¬ fits → exec .energyGrant s = .next s.after)
      ∧ (fits →
        let t := (s.grantEnergy n.val).1
        exec .energyGrant s = .next (t.stipArm n.val).after
        ∧ (t.sink n.val).energy = k.eWant ∧ (t.sink n.val).ePosted = none ∧ t.gov.free = s.gov.free - k.eWant
        ∧ t.gov.issued = s.gov.issued + k.eWant))
    ∧ (k.use = .removing → k.cur = 0 →
      let t := s.sinkDone n.val
      exec (.sinkSlewDone n) s = .next (t.stipUnloaded n.val).after
      ∧ (t.sink n.val).use = .idle ∧ (t.sink n.val).power = 0 ∧ (t.sink n.val).energy = 0 ∧ t.gov.free = s.gov.free + k.power
      ∧ t.gov.cooling = (if k.energy = 0 then s.gov.cooling else s.gov.cooling ++ [(s.fab.tick, k.energy)])
      ∧ t.coll = (if k.lapsed = true then (s.raise 0x68 0x04 0).coll else s.coll)
      ∧ (k.lapsed = true → t.obj K.LEASE_RETURNS = min (s.obj K.LEASE_RETURNS + 1) (2 ^ 32 - 1)))
    ∧ (k.use = .discharge → k.cmd = 0 → k.cur = 0 →
      exec (.sinkSlewDone n) s = .next ((s.freePower n.val k.power).stipUnloaded n.val).after
      ∧ ((s.freePower n.val k.power).sink n.val).power = 0 ∧ (s.freePower n.val k.power).gov.free = s.gov.free + k.power)
    ∧ (k.overrun = true → k.cut = false →
      let t := ((s.setSink n.val { k with cut := true }).bump K.OVERRUNS).raise 0x68 0x03 0
      exec (.energyOverrun n) s
        = .next (if (s.stip n.val).state.running = true then t.stipAbort n.val 6 else t.removeSink n.val 2000).after)
    ∧ (let due := s.gov.cooling.filter (fun p => decide (p.1 + 2000000 ≤ s.fab.tick))
      let sum := due.foldl (fun a p => a + p.2) 0
      exec .coolingExpiry s = .next ({ s with gov := { s.gov with
        cooling := s.gov.cooling.filter (fun p => !decide (p.1 + 2000000 ≤ s.fab.tick)), free := s.gov.free + sum,
        freed := s.gov.freed + sum } }).after)
    ∧ (s.fab.tick < s.gov.reevalAt → exec .powerGrantReeval s = .next s.after)
    ∧ (s.gov.reevalAt ≤ s.fab.tick →
      ∃ u, exec .powerGrantReeval s = .next u.after ∧ s.SameBut [.objs, .coll, .store, .sinks, .gov] u ∧ u.gov.reevalAt =
          s.fab.tick + 200000
        ∧ (0 < k.power → (u.sink n.val).want = s.wantOf n.val k.amps) ∧ (k.power = 0 → (u.sink n.val).want = k.want))
    ∧ (s.fab.tick < s.gov.reserveAt → exec .reserveUpdate s = .next s.after)
    ∧ (s.gov.reserveAt ≤ s.fab.tick →
      let t := s.setLive K.OWN_ENERGY s.ownEnergy
      let high := s.store.etch.isSome = true ∨ s.input.onVhu = true ∨ s.gov.measureAt.all (fun x => decide (s.fab.tick < x)) = true
      exec .reserveUpdate s
        = .next (({ t with gov := { s.gov with reserveAt := s.fab.tick + 200000 } }).setReserve
            (if high then 95 else cdiv s.ownEnergy 1000)).after)
    ∧ (∀ v,
      (v ≤ s.gov.reserved → (s.setReserve v).gov.reserved = v
        ∧ (s.setReserve v).gov.free + v = s.gov.free + s.gov.reserved)
      ∧ (s.gov.reserved ≤ v → v - s.gov.reserved ≤ s.gov.free → (s.setReserve v).gov.reserved = v
        ∧ (s.setReserve v).gov.free + v = s.gov.free + s.gov.reserved ∧ (s.setReserve v).sinks = s.sinks))
    ∧ (k.use = .load → s.obj (K.LOAD_TIME n.val) ≠ 0 → k.loadFrom + usTicks (s.obj (K.LOAD_TIME n.val)) ≤ s.fab.tick →
      exec (.loadTimeEnd n) s = .next (s.removeSink n.val (s.obj (K.SINK_SLEW n.val))).after)

/-- Mating (R257, R258, R272) and the issue of inrush tolls (R246). -/
def Obligations.MatingRowsTakeEffect : Prop :=
  ∀ (s : State), s.clocked = true →
    let ready := s.input.mated = false ∧ s.input.lowFrom + usTicks (s.obj K.MATE_DEBOUNCE) ≤ s.fab.tick
    let live (f : Nat) : Bool := (s.feedTick f).live || (s.feed f).state == .ramping
    let extraction := live 0 = true ∨ live 1 = true ∨ s.input.good = true
    let may (f : Nat) : Prop := s.tripActed f = true ∨ s.feedMoved f = false
    let gated (f : Nat) : Prop := (s.feed f).state = .on ∨ (s.tripActed f = true ∧ (s.feedTick f).was = .on)
    ((¬ ready ∨ s.vioGone = true) → exec .mated s = .next s.after)
    ∧ (ready → s.vioGone = false → ∃ u, exec .mated s = .next u.after ∧ s.SameBut [.objs, .coll, .store, .input, .seq, .feeds] u ∧
        u.input.mated = true ∧ u.input.earlyLow = true
      ∧ u.input.lateLow = true
      ∧ ∀ f, f < 2 → (u.feed f).state = (if (s.feed f).state = .unmated ∧ s.serving = true ∧ s.feedMoved f = false then
          s.matedState f
          else (s.feed f).state))
    ∧ (∀ early : Bool,
      let x := { s.input with
        mated := false, earlyLow := s.input.earlyLow && !early, lateLow := s.input.lateLow && early, lowFrom := s.fab.tick }
      let now := early = true ∨ s.obj K.EXTRACT_DELAY = 0
      let at_ := s.fab.tick + usTicks (s.obj K.EXTRACT_DELAY)
      ∃ u, exec (.matingLost early) s = .next u.after ∧ s.SameBut [.objs, .lanes, .coll, .store, .cap, .input, .rails, .seq, .pmb,
          .stips, .sinks, .gov, .feeds] u
        ∧ u.input.mated = false ∧ u.input.earlyLow = x.earlyLow ∧ u.input.lateLow = x.lateLow ∧ u.input.lowFrom = s.fab.tick
        ∧ (s.input.mated = false → u = { s with input := x })
        ∧ (s.input.mated = true → ¬ extraction →
            ∀ f, f < 2 → (s.feed f).state ≠ .on →
              (u.feed f).state = (if (s.feed f).state ≠ .disabled ∧ s.feedMoved f = false then .unmated else (s.feed f).state))
        ∧ (s.input.mated = true → extraction →
            u.obj K.EXTRACTIONS = min (s.obj K.EXTRACTIONS + 1) (2 ^ 32 - 1)
            ∧ u.obj K.INPUT_LOSSES = min (s.obj K.INPUT_LOSSES + 1) (2 ^ 32 - 1)
            ∧ ⟨0x5A, 0x02, 0, false, s.now⟩ ∈ u.coll.inflight ∧ ⟨0x5A, 0x01, 0, false, s.now⟩ ∈ u.coll.inflight
            ∧ (now → u.input.pullAt = none)
            ∧ (¬ now → u.input.pullAt = some (min at_ (s.input.pullAt.getD at_)))
            ∧ ∀ f, f < 2 → ((s.feed f).pulling = true → (s.feed f).state ≠ .disabled) →
                ((s.feed f).state = .disabled → (u.feed f).state = .disabled)
                ∧ ((s.feed f).state ≠ .disabled → gated f → ¬ now → (u.feed f).state = (s.feed f).state)
                ∧ ((s.feed f).state ≠ .disabled → gated f → now → may f → (u.feed f).state = .unmated)
                ∧ ((s.feed f).state ≠ .disabled → ¬ gated f → may f → (u.feed f).state = .unmated)
                ∧ (¬ may f → (u.feed f).state = (s.feed f).state)))
    ∧ (∀ t, s.input.pullAt = some t → t ≤ s.fab.tick → exec .extractDelayEnd s = .next s.pullFeeds.after)
    ∧ s.pullFeeds.input.pullAt = none
    ∧ (∀ f, f < 2 → (s.feed f).pulling = true →
      (may f → (s.pullFeeds.feed f).state = .unmated) ∧ (¬ may f → (s.pullFeeds.feed f).state = (s.feed f).state))
    ∧ (exec .earlyHigh s
        = .next (if s.input.pullAt.isSome = true then (s.loseMating true).pullFeeds else s.loseMating true).after
      ∧ (s.input.pullAt.isSome = true →
          let u := (s.loseMating true).pullFeeds
          u.input.earlyLow = false ∧ u.input.mated = false ∧ u.input.pullAt = none
          ∧ ∀ f, f < 2 → (s.feed f).pulling = true → may f → (u.feed f).state = .unmated))
    ∧ ((s.rampReady 0 = false ∧ s.rampReady 1 = false) → exec .inrushIssue s = .next s.after)
    ∧ (∀ f, f < 2 → s.rampReady f = true → (f = 1 → s.rampReady 0 = false) →
      ∃ u, exec .inrushIssue s = .next u.after ∧ s.SameBut [.objs, .feeds] u
        ∧ u.obj K.INRUSH_FREE + (s.feed f).need = s.obj K.INRUSH_FREE
        ∧ u.obj K.INRUSH_ISSUED = s.obj K.INRUSH_ISSUED + (s.feed f).need
        ∧ (u.feed f).state = .ramping ∧ (u.feed f).issued = (s.feed f).need ∧ (u.feed f).rampFrom = s.fab.tick
        ∧ u.obj (K.SOA_USED f) = 0 ∧ u.feed (1 - f) = s.feed (1 - f))

/-- Trips of a feed (R256, R261, R262, R266, R275, R278), reverse current (R263), the source out of range (R265). The order of trips
of one tick: assumption 101. -/
def Obligations.FeedTripRowsTakeEffect : Prop :=
  ∀ (s : State) (f : Fin 2),
    let x := s.feed f.val
    let n := s.feedTick f.val
    let run := min 255 (n.run + 1)
    let locks := s.obj (K.RETRY_LIMIT f.val) ≤ run
    let told (u : State) (kind r : Nat) : Prop := ⟨0x58 + f.val, kind, n.was.code * 65536 + r, false, s.now⟩ ∈ u.coll.inflight
    let inConvoy := s.convoy.state = .member ∨ s.convoy.state = .leader ∨ s.convoy.state = .halted
    let trips (kind : Nat) (u : State) : Prop :=
      s.SameBut [.objs, .lanes, .coll, .store, .input, .seq, .feeds] u ∧ u.obj (K.TRIP_RUN f.val) = run ∧ u.obj (K.LAST_TRIP f.val)
          = kind
      ∧ u.obj (K.TRIPS f.val) = min (s.obj (K.TRIPS f.val) + 1) (2 ^ 32 - 1) ∧ told u kind run
      ∧ (u.feed f.val).state = (if locks then .lockout else .tripped)
      ∧ (u.feed f.val).gateIsOff = true ∧ (u.feed f.val).gateOff = (if x.gateIsOff = true then x.gateOff else s.fab.tick)
      ∧ (locks → told u 0x09 run ∧ u.obj (K.LOCKOUTS f.val) = min (s.obj (K.LOCKOUTS f.val) + 1) (2 ^ 32 - 1)
          ∧ (u.feed f.val).armed = false)
      ∧ (∀ m ∈ u.coll.inflight, s.feedMsg f.val m = true → m.kind ≠ 8 → m.addr % 256 = run)
      ∧ (¬ locks → u.obj (K.RETRY_DEADLINE f.val) = (s.fab.count.toNat + s.obj (K.RETRY_BEATS f.val)) % 2 ^ 32
          ∧ u.obj (K.RETRY_BASIS f.val) = (if inConvoy then 2 else 1) ∧ (u.feed f.val).armed = true)
    let rank (k : Nat) : Nat := if k = 3 then 1 else k
    let tells (kind : Nat) (u : State) : Prop :=
      s.SameBut [.objs, .lanes, .coll, .store, .input, .seq, .feeds] u ∧ told u kind (s.obj (K.TRIP_RUN f.val)) ∧ (u.feed
          f.val).state = x.state
      ∧ u.obj (K.TRIP_RUN f.val) = s.obj (K.TRIP_RUN f.val) ∧ u.obj (K.TRIPS f.val) = s.obj (K.TRIPS f.val)
      ∧ u.obj (K.LAST_TRIP f.val) = (if s.tripActed f.val = true ∧ rank kind < rank (s.obj (K.LAST_TRIP f.val)) then kind
          else s.obj (K.LAST_TRIP f.val))
    let acts := n.moved = false ∨ (n.kinds = [] ∧ x.state = .waitSource)
    let event (kind : Nat) (c : Instr) : Prop :=
      (kind ∈ n.kinds → exec c s = .next s.after)
      ∧ (kind ∉ n.kinds → acts → ∃ u, exec c s = .next u.after ∧ trips kind u)
      ∧ (kind ∉ n.kinds → ¬ acts → ∃ u, exec c s = .next u.after ∧ tells kind u)
    (s.clocked = true →
      (n.driven = true → event (if n.was = .ramping then 3 else 1) (.fuseFast f) ∧ event 2 (.fuseSlow f))
      ∧ (n.driven = false → exec (.fuseFast f) s = .next s.after ∧ exec (.fuseSlow f) s = .next s.after)
      ∧ ((n.was = .ramping ∨ n.was = .on) → s.obj (K.SOA_TIME f.val) ≤ x.soa → event 4 (.soaTimeout f))
      ∧ (x.state = .ramping → n.moved = false →
        exec (.reverseOff f) s = .next ((s.raiseFeed f.val 0x05).openFeed f.val .waitSource).after)
      ∧ (x.state = .waitSource → n.was = .ramping → s.raisedNow f.val [6, 7] = true →
        exec (.reverseOff f) s = .next ((s.unraise f.val [6, 7]).raiseFeed f.val 0x05).after)
      ∧ (∀ t, (x.state = .ramping ∨ x.state = .on) → x.uv = some t → t + usTicks (s.obj (K.UV_RIDE f.val)) ≤ s.fab.tick →
        n.moved = false → exec (.feedUv f) s = .next ((s.raiseFeed f.val 6).openFeed f.val .waitSource).after)
      ∧ (∀ t, (x.state = .ramping ∨ x.state = .on) → x.ov = some t → t + usTicks (s.obj (K.OV_FILTER f.val)) ≤ s.fab.tick →
        n.moved = false → exec (.feedOv f) s = .next ((s.raiseFeed f.val 7).openFeed f.val .waitSource).after))
    ∧ (s.frozen.isSome = true → x.driven = true → s.pullable f.val = true →
      let noted (kind : Nat) : State := s.setFeed f.val { x with frozenTrip := some (x.frozenTrip.getD kind) }
      exec (.fuseFast f) s = .next (noted 1).after ∧ exec (.fuseSlow f) s = .next (noted 2).after)
    ∧ ((s.clocked = true ∨ s.frozen.isSome = true) → s.pullable f.val = true → x.state = .on →
      (x.blocking = false →
        exec (.reverseOff f) s
          = .next (((s.setFeed f.val { x with blocking := true, soa := 0, last := some n }).bump (K.BLOCKS f.val)).raiseFeed f.val
              0x05).after)
      ∧ (x.blocking = true → exec (.forwardOn f) s = .next (s.setFeed f.val { x with blocking := false }).after))
    ∧ ∀ st : FeedState, st ≠ .ramping → st ≠ .on → ((s.openFeed f.val st).feed f.val).state = st
        ∧ ((s.openFeed f.val st).feed f.val).gateIsOff = true

/-- Retry (R256, R266 to R269), damage (R270, R271, R278) and input loss (R272). The address of kind 0x08: assumption 103. -/
def Obligations.FeedRetryRowsTakeEffect : Prop :=
  ∀ (s : State) (f : Fin 2), s.clocked = true →
    let x := s.feed f.val
    let d := u32Sub (s.obj (K.RETRY_DEADLINE f.val)) s.fab.count.toNat
    (s.fab.edgeTick ≠ s.fab.tick → exec (.retryRelease f) s = .next s.after)
    ∧ (x.state = .tripped → x.armed = true → s.fab.edgeTick = s.fab.tick → s.feedMoved f.val = false → (d = 0 ∨ 2 ^ 31 ≤ d) →
      ∃ u, exec (.retryRelease f) s = .next u.after ∧ s.SameBut [.objs, .coll, .store, .input, .seq, .feeds] u
        ∧ u.obj (K.RETRY_BASIS f.val) = 0 ∧ (u.feed f.val).state = .waitSource ∧ (u.feed f.val).armed = false
        ∧ u.obj (K.TRIP_RUN f.val) = s.obj (K.TRIP_RUN f.val))
    ∧ (x.full = some 0 → s.feedMoved f.val = false →
      ∃ u, exec (.retryFull f) s = .next u.after ∧ s.SameBut [.objs, .coll, .store, .input, .seq, .feeds] u
        ∧ u.obj (K.RETRY_BASIS f.val) = 0 ∧ (u.feed f.val).full = none
        ∧ ⟨0x58 + f.val, 0x0B, x.state.code * 65536 + s.obj (K.TRIP_RUN f.val), false, s.now⟩ ∈ u.coll.inflight
        ∧ (u.feed f.val).state = (if x.state = .tripped then .waitSource else x.state))
    ∧ (x.state = .on → s.obj (K.RETRY_BEATS f.val) ≤ x.edges → s.feedMoved f.val = false →
      exec (.tripRunReset f) s
        = .next ((s.setPers (K.TRIP_RUN f.val) 0).setFeed f.val { x with edges := 0, last := some (s.feedTick f.val) }).after)
    ∧ ((x.state = .waitSource ∨ x.state = .tripped ∨ x.state = .lockout) → 16 ≤ x.dmg → s.feedMoved f.val = false →
      let near (v : Nat) : Bool := decide ((s.objI (K.VALUE (136 + f.val)) - Int.ofNat v).natAbs ≤ v / 20)
      let latch := b2n (near (s.quick f.val)) + 2 * b2n (near (s.quick 2))
      exec (.damagedElement f) s
        = .next (((s.setPers (K.DMG_LATCH f.val) latch).openFeed f.val .damaged).raise (0x58 + f.val) 0x08
            (x.state.code * 65536 + latch)).after)
    ∧ (let span := usTicks (s.obj K.DMG_PATH_TIME)
      let stands := s.input.pathDone = false ∧ s.obj K.DMG_LEVEL ≤ s.quick 2
        ∧ (∀ g : Fin 2, (s.feed g.val).gateIsOff = true ∧ (s.feed g.val).gateOff + span ≤ s.fab.tick)
        ∧ (∀ t, s.input.outLow = some t → t + span < s.fab.tick)
      (stands → exec .damagedPath s = .next (({ s with input := { s.input with pathDone := true } }).raise 0x5A 0x04 0).after)
      ∧ (¬ stands → exec .damagedPath s = .next s.after))
    ∧ (∀ t, s.input.lostAt = some t → s.input.good = false → s.input.everGood = true → s.input.lossDone = false →
      t + usTicks (s.obj K.INPUT_RIDE) ≤ s.fab.tick →
      let e := (s.raise 0x5A 0x01 0).bump K.INPUT_LOSSES
      exec .inputLoss s = .next (({ e with input := { s.input with lossDone := true } }).localShutdown 1 s.now).after)

/-- Power fail (R273), the hold-up (R274, R314, R344), VIO (R432) and OFF (R403, R404). The choice of the model: which levels OFF
keeps and which are judged anew after it (log entry 5); what counts as reserve when VIO goes or VAUX returns (log entries 61 and
121); that a hold of an activation becomes one of reserve, and others stay (log entry 73); what the pins do without VIO (log entry
106). -/
def Obligations.PowerLossRowsTakeEffect : Prop :=
  ∀ (s : State),
    (s.clocked = true → (s.input.pfailLow = true ∨ s.vioGone = true) → exec .pfail s = .next s.after)
    ∧ (s.clocked = true → s.input.pfailLow = false → s.vioGone = false →
      let t := ({ s with input := { s.input with pfailLow := true } }).raise 0x5A 0x03 0
      let v := if s.objB K.PFAIL_SHUTDOWN = true then t.localShutdown 2 s.now else t
      exec .pfail s = .next (if v.objB K.PF_ON_PFAIL = true then v.powerFail else v).after)
    ∧ (s.clocked = true → exec .pfailHigh s = .next ({ s with input := { s.input with pfailLow := false } }).after)
    ∧ ((s.clocked = true ∨ s.frozen.isSome = true) → s.input.huFell = true →
      exec .huLow s = .next (({ s with input := { s.input with huFell := false } }).raise 0x5B 0x01 0).after)
    ∧ ((s.clocked = true ∨ s.frozen.isSome = true) → s.input.huFell = false → s.input.huWait = true → s.input.good = true →
      s.input.goodAt + 2000000000 ≤ s.filterClk →
      exec .huLow s = .next (({ s with input := { s.input with huWait := false } }).raise 0x5B 0x01 0).after)
    ∧ (s.input.onVhu = false →
      let hold := match s.cores.hold with
        | some (.restart n) => CoreHold.restart n
        | some .limit => .limit
        | some .activation => .reserve
        | some .reserve => .reserve
        | none => .reserve
      let t := ({ s with
        input := { s.input with onVhu := true }, cores := { s.cores with hold := some hold } }).raise 0x5B 0x02 0
      (s.clocked = true → exec .huOnReserve s = .next t.powerFail.after)
      ∧ (s.frozen.isSome = true →
        exec .huOnReserve s = .next ({ t with input := { s.input with onVhu := true, freezeReserve := true } }).after))
    ∧ (s.input.onVhu = true → (s.clocked = true ∨ s.frozen.isSome = true) →
      exec .huOnReserve s = .next s.after
      ∧ ((s.supplies = true ∨ (s.serving = true ∧ s.input.good = false)) →
          exec .vauxReturn s = .next ({ s with input := { s.input with onVhu := false } }).after)
      ∧ (s.supplies = false → (s.serving = false ∨ s.input.good = true) → exec .vauxReturn s = .next (s.goOff false 0).after))
    ∧ ((s.input.onVhu = true ∨ (s.serving = true ∧ s.input.good = false)) →
      (∃ u, exec .vioLoss s = .next u.after ∧ s.SameBut [.rails, .seq, .supplies, .freezeLow, .convoy] u ∧ u.supplies = false
        ∧ u.seq = { s.seq with
            releasedAt := if railNos.any (fun n => (s.rail n).en) = true then s.fab.tick + 1 else s.seq.releasedAt }
        ∧ u.freezeLow = false ∧ (∀ n ∈ railNos, (u.rail n).en = false) ∧ (∀ n, (u.rail n).state = (s.rail n).state)
        ∧ u.convoy = { s.convoy with
            cscIn := true, holdIn := true, dataIn := true, holdLow := false, dataLow := false, cscOut := true }))
    ∧ (s.input.onVhu = true → exec .holdUpExhausted s = .next (s.goOff false 0).after)
    ∧ (s.input.onVhu = false → exec .holdUpExhausted s = .next s.after)
    ∧ (s.input.onVhu = false → (s.serving = false ∨ s.input.good = true) →
      exec .vioLoss s = .next (s.goOff false (if s.phase = .off then s.resetCause else 0)).after)
    ∧ (let u := s.goOff false 0
      u.phase = .off ∧ u.mem = [] ∧ u.objs = [] ∧ u.hosts.ports = State.reset.hosts.ports ∧ u.loader = s.loader
      ∧ u.filterClk = s.filterClk ∧ u.input = State.reset.input ∧ u.store.shadow = s.store.cut ∧ u.pending = s.pending
      ∧ u.after = u)

/-- Messages at the collector: arrival (R281, R282, R285, R286, R289), release (R281, R287, R296), first fault (R286, R288). The
choice of the model: that a decision during a recall writes nothing (log entry 97), and a carry of HANDED that is finished first
(log entry 98). -/
def Obligations.CollectorMessagesTakeEffect : Prop :=
  ∀ (s : State), s.clocked = true →
    (∀ i, s.coll.inflight[i]?.all (fun m => decide (s.fab.tick < m.stamp.tick + (if m.injected = true then 1 else 4))) = true →
      exec (.messageArrival i) s = .next s.after)
    ∧ (∀ i m, s.coll.inflight[i]? = some m → m.source < 256 → m.stamp.tick + (if m.injected = true then 1 else 4) ≤ s.fab.tick →
      let cls := s.resolve_ m.source m.kind
      let react := s.reactClass m cls
      let acts := s.actsNow m = true ∧ (react = .contained ∨ react = .fatal)
      let latching := react == .fatal && s.objB (K.FATAL_LATCH m.source)
      let reopens := s.holdsFirst = false ∧ mayLead m s.collPhase = true ∧ s.coll.full = false
      ∃ x y : State, exec (.messageArrival i) s = .next y.after
        ∧ s.SameBut [.objs, .lanes, .coll, .ledger, .store, .cap, .ring, .rails, .seq, .pmb, .railWins, .stips, .sinks, .gov] y
        ∧ x.coll.inflight = ldrop s.coll.inflight i
        ∧ x.obj (if m.injected = true then K.INJ_COUNT m.source else K.REAL_COUNT m.source)
            = min (s.obj (if m.injected = true then K.INJ_COUNT m.source else K.REAL_COUNT m.source) + 1) (2 ^ 32 - 1)
        ∧ x.obj (K.LAST_KIND m.source) = m.kind ∧ x.obj (K.LAST_BEAT m.source) = m.stamp.beat.toNat
        ∧ (s.coll.full = false → ∃ q, x.coll.queue = s.coll.queue ++ [q] ∧ q.msg = m ∧ q.cls = cls ∧ q.react = react ∧ q.acted =
            s.actsNow m
            ∧ q.arrived = s.fab.tick ∧ q.phase = s.collPhase)
        ∧ (s.coll.full = true → x.coll.queue = s.coll.queue
            ∧ x.obj (K.FOLDED m.source) = min (s.obj (K.FOLDED m.source) + 1) (2 ^ 32 - 1))
        ∧ (¬ acts → y = x ∧ x.coll.state = s.coll.state ∧ x.coll.quietFrom = s.coll.quietFrom)
        ∧ (acts → x.coll.quietFrom = m.stamp.tick
            ∧ x.coll.state = (if s.coll.state = .clear ∨ s.coll.state = .recovery ∨ s.coll.state = .deciding then .deciding
                else if s.coll.state = .latched then .latched
                else if reopens then .deciding else if latching = true then .latched else .faulted)
            ∧ ((s.coll.state = .clear ∨ s.coll.state = .recovery) →
                x.obj K.EPISODE = (s.obj K.EPISODE + 1) % 2 ^ 32 ∧ x.coll.latchActed = latching)
            ∧ ((s.coll.state = .clear ∨ s.coll.state = .recovery ∨ (s.coll.state = .faulted ∧ reopens)) →
                x.coll.e0 = m.stamp ∧ x.coll.window = s.windowAt m.stamp.tick ∧ x.coll.cands = [])
            ∧ (s.coll.state ≠ .clear → s.coll.state ≠ .recovery → x.coll.latchActed = (s.coll.latchActed || latching))
            ∧ (react = .contained → y = x)
            ∧ (react = .fatal → ∃ z : State, z.coll = { x.coll with fatalOut := true }
                ∧ z.obj K.FATALS = min (x.obj K.FATALS + 1) (2 ^ 32 - 1)
                ∧ y = if s.obj (K.FATAL_ACTION m.source) = 1 then z.localShutdown 6 m.stamp else z)))
    ∧ ((s.fab.tick ≤ s.coll.lastRelease ∨ (leastBy QMsg.before s.coll.queue).all (fun q => decide (s.fab.tick < q.msg.stamp.tick +
        24)) = true) →
      exec .messageRelease s = .next s.after)
    ∧ (∀ q, s.coll.lastRelease < s.fab.tick → leastBy QMsg.before s.coll.queue = some q → q.msg.stamp.tick + 24 ≤ s.fab.tick →
      let m := q.msg
      let word := msgWord m q.acted q.cls q.phase
      let b := s.finishCarry K.HANDED
      ∃ u, exec .messageRelease s = .next u.after ∧ s.SameBut [.objs, .coll, .ledger, .store] u
        ∧ q ∈ s.coll.queue ∧ u.coll.queue = s.coll.queue.erase q ∧ u.coll.lastRelease = s.fab.tick
        ∧ u.obj K.LAST_MSG_LO + 2 ^ 32 * u.obj K.LAST_MSG_HI = word
        ∧ u.obj K.LAST_MSG_BEAT = m.stamp.beat.toNat ∧ u.obj K.LAST_MSG_OFFSET = m.stamp.offset
        ∧ u.coll.cands = s.coll.cands ++ (if s.isCandidate q = true then
            [{ injected := m.injected, rank := m.stamp, fatal := q.react == .fatal, source := m.source,
               kind := m.kind, addr := m.addr, word := word, stamp := m.stamp, claimRail := none }] else [])
        ∧ (u.obj K.COINCIDENCES = if (s.partnerOf m).isSome = true then min (s.obj K.COINCIDENCES + 1) (2 ^ 32 - 1)
            else s.obj K.COINCIDENCES)
        ∧ u.wide K.HANDED % 2 ^ 64
          = (b.obj (H.cellLo K.HANDED) % 2 ^ 32 + 2 ^ 32 * b.obj (H.cellHi K.HANDED) + 1) % 2 ^ 64)
    ∧ ((s.coll.state ≠ .deciding ∨ s.fab.tick < s.coll.e0.tick + s.coll.window) → exec .collectorDecision s = .next s.after)
    ∧ (s.coll.state = .deciding → s.coll.e0.tick + s.coll.window ≤ s.fab.tick →
      ∃ u, exec .collectorDecision s = .next u.after ∧ s.SameBut [.objs, .mem, .lanes, .coll, .ledger, .store] u
        ∧ u.coll = { s.coll with state := if s.coll.latchActed = true then .latched else .faulted, cands := [] }
        ∧ (leastBy Candidate.before s.coll.cands = none → u.ledger = s.ledger ∧ u.mem = s.mem)
        ∧ (∀ c, leastBy Candidate.before s.coll.cands = some c →
            c ∈ s.coll.cands ∧ u.ledger.marks = s.ledger.marks ++ [⟨s.obj K.EPISODE, c.word, c.stamp⟩]
            ∧ (s.store.recalling = true → u.mem = s.mem)
            ∧ (∀ a, (∀ j, ffSlot (s.obj K.EPISODE) (s.obj K.FF_BASE) = some j → a < ffAddr j ∨ ffAddr j + 64 ≤ a) →
                memByte u.mem a = memByte s.mem a)
            ∧ (s.store.recalling = false → (∀ n, c.claimRail = some n → n < 64) →
              u.obj K.FIRST_EPISODE = s.obj K.EPISODE ∧ u.obj K.FIRST_SOURCE = c.source
              ∧ u.obj K.FIRST_KIND = c.kind ∧ u.obj K.FIRST_ADDR = c.addr ∧ u.obj K.FIRST_BEAT = c.stamp.beat.toNat)))

/-- Timers of the collector (R283, R286, R291) and the clock faults (R298). -/
def Obligations.CollectorTimersAndClockFaults : Prop :=
  ∀ (s : State), s.clocked = true →
    (exec .quietTimeEnd s
      = .next (if s.coll.state = .faulted ∧ s.coll.quietFrom + usTicks (s.obj K.QUIET_TIME) ≤ s.fab.tick then
          ({ s.bump K.EXITS with coll := { s.coll with
            state := .recovery, fatalOut := false, recoveryFrom := s.fab.tick, latchActed := false } }).after
        else s.after))
    ∧ (exec .recoverySpanEnd s
      = .next (if s.coll.state = .recovery ∧ s.coll.recoveryFrom + usTicks (s.obj K.RECOVERY_SPAN) ≤ s.fab.tick then
          ({ s with coll := { s.coll with state := .clear } }).after
        else s.after))
    ∧ (∀ t, s.coll.pulseUntil = some t → t ≤ s.fab.tick →
      exec .faultPulseEnd s = .next ({ s with coll := { s.coll with pulseUntil := none } }).after)
    ∧ (s.coll.pulseUntil.all (fun t => decide (s.fab.tick < t)) = true → exec .faultPulseEnd s = .next s.after)
    ∧ (∀ t, s.coll.endOfStart = some t → t + usTicks (s.obj K.STARTUP_SPAN) ≤ s.fab.tick →
      exec .startupSpanEnd s = .next ({ s with coll := { s.coll with spanDone := true } }).after)
    ∧ (s.coll.endOfStart.all (fun t => decide (s.fab.tick < t + usTicks (s.obj K.STARTUP_SPAN))) = true →
      exec .startupSpanEnd s = .next s.after)
    ∧ (let told (kind : Nat) : State :=
        { s with coll := { s.coll with inflight := s.coll.inflight ++ [⟨0x88, kind, 0, false, s.now⟩] } }
      exec .refclkLost s = .next (told 1).after ∧ exec .refclkFreq s = .next (told 2).after
      ∧ exec .pllUnlock s = .next (told 3).after ∧ (s.serving = true → exec .filterUnlock s = .next (told 4).after)
      ∧ (s.serving = false → exec .filterUnlock s = .next s.after))

/-- The etch (Table 11.6, R307 to R311). -/
def Obligations.EtchRowsTakeEffect : Prop :=
  ∀ (s : State), s.clocked = true →
    (exec .autoEtchDue s
      = .next (if (s.store.autoFrom.any (fun t => decide (t + usTicks (s.obj K.AUTO_DELAY) ≤ s.fab.tick))) = true
            ∧ s.lanes.queued .etch 2 = false ∧ (s.store.waiting.any (fun w => w.cause == 2)) = false
            ∧ (∀ e, s.store.etch = some e → e.cause ≠ 2) then
          (s.postLane .etch 2 0x60 2 scopeP01 []).after
        else s.after))
    ∧ (s.store.etch.all (fun e => e.phase != .starting || decide (s.fab.tick < e.due)) = true → exec .etchSnapshot s = .next
        s.after)
    ∧ (∀ e, s.store.etch = some e → e.phase = .starting → e.due ≤ s.fab.tick →
      let t := { s with store := s.store.touch 128 }
      let block := t.etchBlock e.mask e.pages
      let listed := block ++ t.etchRest e.mask e.pages
      let admitted := if e.maxPages < block.length then block.length else min e.maxPages listed.length
      let at_ := etchLogAddr e.seq.toNat
      ∃ v x, exec .etchSnapshot s
          = .next (if listed.take admitted = [] then (v.bump K.ETCHES).endEtch x [] else v.startPage x).after
        ∧ s.SameBut [.objs, .mem, .coll, .ledger, .store, .ring] v
        ∧ v.ring = { s.ring with etchSeq := if s.ringOwn e = true then some e.seq else s.ring.etchSeq }
        ∧ x.phase = .writing ∧ x.todo = listed.take admitted ∧ x.block = block ∧ x.blockN = block.length ∧ x.seq = e.seq
        ∧ x.cause = e.cause ∧ x.admitted = admitted
        ∧ v.obj K.ETCH_LISTED = listed.length ∧ v.obj K.ETCH_ADMITTED = admitted ∧ v.obj K.ETCH_DONE = 0
        ∧ v.readBytes at_ 32 = etchLogEntry e block.length listed.length admitted s.now
        ∧ (∀ a, a < at_ ∨ at_ + 32 ≤ a → memByte v.mem a = memByte s.mem a)
        ∧ v.ledger.suspended = (nbit e.mask 1 || e.pages.any (fun p => decide (192 ≤ p) && decide (p < 704))))
    ∧ (∀ ok (ch : Fin 8),
      s.store.etch.all (fun e => e.todo.isEmpty || e.phase == .starting || decide (s.fab.tick < e.due)) = true →
      exec (.etchPageCommit ok ch) s = .next s.after)
    ∧ (∀ e p rest (ch : Fin 8), s.store.etch = some e → e.todo = p :: rest → e.phase ≠ .starting → e.due ≤ s.fab.tick →
      let side := (s.store.etchTarget p).1
      let t := s.programPage e p
      (exec (.etchPageCommit true ch) s
        = .next (((t.setLive K.ETCH_DONE (s.obj K.ETCH_DONE + 1)).bump K.PAGES_ETCHED).afterPage e rest []).after
      ∧ (∃ c, t.store.copy p side = some c ∧ c.done = true ∧ c.copySeq = (s.store.etchTarget p).2 ∧ c.etchSeq = e.seq
          ∧ c.data = fget e.snap p ⟨[], []⟩)
      ∧ latestDone (s.store.validCopy p 0) (s.store.validCopy p 1) ≠ some side
      ∧ t.store.copy p (1 - side) = s.store.copy p (1 - side)
      ∧ (∀ q i, q ≠ p → i < 2 → t.store.copy q i = s.store.copy q i))
      ∧ (e.retry = false → e.phase ≠ .stopping →
        exec (.etchPageCommit false ch) s
          = .next ({ s with store := { s.store with etch := some { e with retry := true, due := s.fab.tick + 8192 } } }).after)
      ∧ (e.retry = false → e.phase = .stopping → exec (.etchPageCommit false ch) s = .next (s.afterPage e rest [p]).after)
      ∧ (e.retry = true →
        exec (.etchPageCommit false ch) s
          = .next ((s.raise (0x60 + ch.val) 0x03 (storeAddr p (1 + side) 0)).afterPage e rest [p]).after))

/-- Error correction (R305), scrub (R324), operating time (R322, R323) and store recall (R319, R290). The choice of the model: a
pass of the patrol and its weak copy (log entry 96), and a carry of OP_TIME that is finished first (log entry 98). -/
def Obligations.ReloadKeepsTheOtherPages : Prop :=
  ∀ (s : State), s.clocked = true →
    (∀ (page : BitVec 12) (ch : Fin 8) (group : BitVec 8),
      let t := (s.bump K.ECC_UNCORRECTABLE).raise (0x60 + ch.val) 0x02 (storeAddr page.toNat 0 group.toNat)
      exec (.eccPatrol page ch group true) s
        = .next ({ t with store := { t.store with bad := nins t.store.bad (groupNo page.toNat ch.val group.toNat) } }).after
      ∧ exec (.eccPatrol page ch group false) s
        = .next ((s.bump K.ECC_CORRECTED).correctedOnce page.toNat ch.val 0 group.toNat).after)
    ∧ (∀ (page : BitVec 12), (s.store.bad.any (fun g => g * 8 / 16384 == page.toNat) = false
        ∨ s.store.dirty.contains page.toNat = true) → exec (.pageReload page) s = .next s.after)
    ∧ (∀ (page : BitVec 12), s.store.bad.any (fun g => g * 8 / 16384 == page.toNat) = true →
      s.store.dirty.contains page.toNat = false →
      let u := s.loadPage page.toNat (s.store.recallChoice page.toNat).data
      exec (.pageReload page) s = .next u.after ∧ s.SameBut [.objs, .mem, .store, .otherArea] u
        ∧ (∀ a, pageOf a ≠ page.toNat → memByte u.mem a = memByte s.mem a)
        ∧ (∀ g, g ∈ u.store.bad → g * 8 / 16384 ≠ page.toNat))
    ∧ (∀ (corrected : BitVec 9) (bad : Bool) (group : BitVec 8),
      (s.lanes.laneOf .scrub 0 = none ∨ s.store.busyPage = some (s.store.scrubAt / 16)) →
      exec (.scrubStep corrected bad group) s = .next s.after)
    ∧ (∀ (corrected : BitVec 9) (bad : Bool) (group : BitVec 8) lane, s.lanes.laneOf .scrub 0 = some lane →
      s.store.busyPage ≠ some (s.store.scrubAt / 16) →
      ∃ u, exec (.scrubStep corrected bad group) s = .next u.after ∧ s.SameBut [.objs, .lanes, .coll, .store] u
        ∧ u.store.scrubAt = (s.store.scrubAt + 1) % 65536 ∧ flook u.lanes.shared lane = none
        ∧ (copyWeak (s.obj K.SCRUB_LIMIT) (u.store.copy (s.store.scrubAt / 16) (s.store.scrubAt / 8 % 2)) = true →
            s.store.scrubAt / 16 ∈ u.store.dirty
            ∧ (u.lanes.queued .etch 6 || u.store.waiting.any (fun w => w.cause == 6)) = true))
    ∧ ((s.store.recalling = true ∨ s.fab.tick < s.store.opDue) → exec .opTimeAdd s = .next s.after)
    ∧ (s.store.recalling = false → s.store.opDue ≤ s.fab.tick →
      let b := s.finishCarry K.OP_TIME_LO
      ∃ u, exec .opTimeAdd s = .next u.after ∧ s.SameBut [.objs, .store] u ∧ u.store.opDue = s.store.opDue + 200000
        ∧ ((s.store.carries.any (fun c => c.1 == K.OP_TIME_LO)) = false → b = s)
        ∧ u.wide K.OP_TIME_LO % 2 ^ 64
          = (b.obj (H.cellLo K.OP_TIME_LO) % 2 ^ 32 + 2 ^ 32 * b.obj (H.cellHi K.OP_TIME_LO) + 1) % 2 ^ 64)
    ∧ ((s.phase ≠ .recall ∨ s.store.recalling = false) → exec .storeRecall s = .next s.after)
    ∧ (s.phase = .recall → s.store.recalling = true →
      ∃ u, exec .storeRecall s = .next u.after ∧ s.SameBut [.objs, .mem, .lanes, .coll, .ledger, .store, .ring, .otherArea] u ∧
          u.store.recalling = false
        ∧ u.obj K.INRUSH_ISSUED = 0
        ∧ u.coll.state = (if u.obj H.latched = 1 then .latched else .clear))

/-- The ledger (R332 to R344): what each row enters. The overflow that was pending at reconciliation: assumption 65. -/
def Obligations.LedgerRowsTakeEffect : Prop :=
  ∀ (s : State), s.clocked = true →
    ((s.ledgerReady = false ∨ s.fab.tick < s.ledger.lastEntry + 40
        ∨ (s.ledger.restartCauses = [] ∧ s.ledger.buffer = [] ∧ s.ledger.overflow = [])) → exec .ledgerEntry s = .next s.after)
    ∧ (s.ledgerReady = true → s.ledger.lastEntry + 40 ≤ s.fab.tick →
      (∀ c r, s.ledger.restartCauses = c :: r →
        exec .ledgerEntry s = .next (({ s with ledger := { s.ledger with restartCauses := r } }).systemRec (2 + 256 * c) 0).after)
      ∧ (∀ h r, s.ledger.restartCauses = [] → s.ledger.buffer = h :: r →
        exec .ledgerEntry s = .next (({ s with ledger := { s.ledger with buffer := r } }).enterHand h).after
        ∧ s.SameBut [.objs, .mem, .ledger, .store] (({ s with ledger := { s.ledger with buffer := r } }).enterHand h)
        ∧ s.MemBut [.ledger] (({ s with ledger := { s.ledger with buffer := r } }).enterHand h))
      ∧ (∀ src n r, s.ledger.restartCauses = [] → s.ledger.buffer = [] → s.ledger.overflow = (src, n) :: r →
        exec .ledgerEntry s
          = .next (({ s with ledger := { s.ledger with overflow := r } }).enterCount src n flagOverflow (src * 2 ^ 56)).after))
    ∧ ((s.ledgerReady = false ∨ s.ledger.marks.head?.all s.markWaits = true) →
      exec .ledgerFirstMark s = .next s.after)
    ∧ (∀ m r, s.ledgerReady = true → s.ledger.marks = m :: r → s.markWaits m = false →
      let s0 := { s with ledger := { s.ledger with marks := r } }
      let hit := s.ledger.recents.find? (fun y => y.first.all (fun t => decide (t ≤ m.stamp.tick))
        && decide (m.stamp.tick ≤ y.last)
        && (s.readRec y.rseq).any (fun z => z.type == 1 && z.body / 2 ^ 24 == m.word / 2 ^ 24))
      (hit = none → exec .ledgerFirstMark s = .next s0.after)
      ∧ (∀ q x, hit = some q → s.readRec q.rseq = some x →
        let s1 := s0.writeBytes (recAddr q.rseq) ({ x with flags := x.flags ||| flagFirst }).bytes
        (s.readFF m.episode = none → exec .ledgerFirstMark s = .next s1.after)
        ∧ ∀ e j, s.readFF m.episode = some e → ffSlot m.episode (s.obj K.FF_BASE) = some j →
          exec .ledgerFirstMark s = .next (s1.writeBytes (ffAddr j) ({ e with rseq := q.rseq }).bytes).after))
    ∧ ((s.ledgerReady = false ∨ s.ledger.link = none) → exec .ledgerLink s = .next s.after)
    ∧ (∀ l, s.ledgerReady = true → s.ledger.link = some l →
      ∃ u, exec .ledgerLink s = .next u.after ∧ s.SameBut [.mem, .store] u
        ∧ ((s.ledger.recents.map (fun q => recAddr q.rseq)).Nodup →
          ∀ q x, q ∈ s.ledger.recents → q.inSpan l = true → s.readRec q.rseq = some x →
            u.readBytes (recAddr q.rseq) 64 = (s.linked x).bytes)
        ∧ (∀ a, (∀ q ∈ s.ledger.recents, q.inSpan l = true → a < recAddr q.rseq ∨ recAddr q.rseq + 64 ≤ a) →
            memByte u.mem a = memByte s.mem a))
    ∧ ((s.ledger.reconciling = false ∨ s.ledger.suspended = true ∨ s.coresUp = false ∨ s.store.recalling = true ∨ s.phase =
        .recall) →
      exec .ledgerReconcile s = .next s.after)
    ∧ (s.ledger.reconciling = true → s.ledger.suspended = false → s.coresUp = true → s.store.recalling = false →
      (s.phase = .cores ∨ s.phase = .joining ∨ s.phase = .running) →
      ∃ u, exec .ledgerReconcile s = .next u.after ∧ s.SameBut [.objs, .mem, .ledger, .store] u ∧ s.MemBut [.ledger] u ∧
          u.ledger.reconciling = false
        ∧ u.ledger.overflow = []
        ∧ u.wide K.ENTERED = (s.ledger.recalledHanded + s.ledger.overflowPending) % 2 ^ 64)

/-- Verification (R385), application (R387), activation (R391, R392), trial (R394 to R396, R398). -/
def Obligations.UpdateRowsTakeEffect : Prop :=
  ∀ (s : State), s.clocked = true →
    ((s.upd.state ≠ .verifying ∨ s.coresUp = false) → exec .verifyDone s = .next s.after)
    ∧ (s.upd.state = .verifying → s.coresUp = true →
      ∃ u, exec .verifyDone s = .next u.after ∧ s.SameBut [.objs, .coll, .upd] u
        ∧ (u.upd.state = .verified ∨ u.upd.state = .failed)
        ∧ (ecdsaVerify (s.mf 21 1) (sha384 (s.readBytes manifestAt 192 ++ s.readBytes (manifestAt + 512) (4 * s.mf 6 2)))
              (s.readBytes (manifestAt + 192) 96) = false →
            u.upd.state = .failed ∧ u.obj K.UPD_REASON = 1 ∧ u.coll = (s.raise 0x80 0x03 0x010000).coll))
    ∧ ((s.upd.state ≠ .applying ∨ s.upd.etchPosted = true ∨ s.coresUp = false) → exec .applyOutputDone s = .next s.after)
    ∧ (s.upd.state = .applying → s.upd.etchPosted = false → s.coresUp = true →
      ∃ u, exec .applyOutputDone s = .next u.after ∧ s.SameBut [.objs, .mem, .lanes, .coll, .store, .otherArea, .loader, .upd] u
        ∧ ((u.upd.state = .failed ∧ u.upd.etchPosted = false) ∨ (u.upd.state = .applying ∧ u.upd.etchPosted = true)))
    ∧ ((s.upd.state ≠ .scheduled ∨ s.upd.act.any (fun a => s.reached a.1 a.2) = false) →
      exec .activation s = .next s.after)
    ∧ (∀ b k, s.upd.act = some (b, k) → s.upd.state = .scheduled → s.reached b k = true →
      (s.onReserve = true →
        ∃ u, exec .activation s = .next u.after ∧ s.SameBut [.objs, .upd] u
          ∧ u.upd = { s.upd with act := none, state := .applied } ∧ u.obj K.UPD_REASON = 7)
      ∧ (s.onReserve = false →
        ∃ u, exec .activation s = .next u.after ∧ s.SameBut [.objs, .store, .cores, .loader, .upd] u
          ∧ u.upd = { s.upd with act := none }
          ∧ u.loader = s.loader.write { s.record with pending := some (1 - s.record.active), trial := 1, ran := false }
          ∧ u.cores.hold = some (s.cores.hold.getD .activation)))
    ∧ (exec .confirmSpanEnd s
      = .next (if s.upd.state = .trial ∧ s.coresUp = true ∧ s.upd.startAt + usTicks (s.obj K.CONFIRM_SPAN) ≤ s.fab.tick then
          ({ s with upd := { s.upd with health := s.upd.health ||| 2 ^ 0 } }).after
        else s.after))
    ∧ ((s.upd.state ≠ .trial ∨ s.coresUp = false ∨ s.upd.health ≠ 15) → exec .confirmation s = .next s.after)
    ∧ (s.upd.state = .trial → s.coresUp = true → s.upd.health = 15 →
      let r := s.record
      let b := 1 - r.active
      let r1 := (r.setBank b { r.bank b with state := .confirmed }).setBank r.active { r.bank r.active with state := .superseded }
      ∃ u, exec .confirmation s = .next u.after ∧ s.SameBut [.objs, .mem, .coll, .store, .loader, .upd] u ∧ u.upd.state = .idle
        ∧ u.loader = s.loader.write { r1 with
            active := b, pending := none, trial := 0, ran := false, rollbackMin := max r.rollbackMin (r.bank b).rollback })
    ∧ ((s.upd.state ≠ .trial ∨ s.coresUp = false ∨ s.fab.tick < s.upd.startAt + usTicks (s.obj K.TRIAL_TIME)) →
      exec .trialTimeEnd s = .next s.after)
    ∧ (s.upd.state = .trial → s.coresUp = true → s.upd.startAt + usTicks (s.obj K.TRIAL_TIME) ≤ s.fab.tick →
      ∃ u, exec .trialTimeEnd s = .next u.after ∧ s.SameBut [.objs, .coll, .store, .cores, .loader] u
        
        ∧ u.loader = { s.loader.write s.record.afterTrial with
            fell := s.loader.fell || decide (3 ≤ s.record.trial) }
        ∧ u.cores.hold = some .activation ∧ u.obj K.UPD_REASON = 8
        ∧ u.coll = (s.raise 0x80 0x05 (8 * 65536 + s.record.trial)).coll
        ∧ (3 ≤ s.record.trial → s.record.afterTrial.pending = none)
        ∧ (s.record.trial < 3 → s.record.afterTrial.trial = s.record.trial + 1 ∧ s.record.afterTrial.pending = s.record.pending))

/-- Start-up (Table 15.2, R403 to R407, R430) and RESET_LOW (R404, R406, R408; assumption 85). -/
def Obligations.StartupRowsTakeEffect : Prop :=
  ∀ (s : State),
    (s.phase = .off →
      exec .suppliesGood s = .next ({ s with
        phase := .powerOn, supplies := true, vioClass := some (Config.vioClass33 s.filterClk), startClk := 0 }).after)
    ∧ (s.phase ≠ .off → exec .suppliesGood s = .next ({ s with supplies := true }).after)
    ∧ (exec .powerOnEnd s = .next (if s.phase = .powerOn then ({ s with phase := .clocks }).after else s.after))
    ∧ (s.phase ≠ .clocks → exec .clocksEnd s = .next s.after)
    ∧ (s.phase = .clocks →
      ∃ u, exec .clocksEnd s = .next u.after ∧ s.SameBut [.phase, .fab, .coll, .store, .conv, .activeArea, .loader, .upd] u
        ∧ u.phase = .recall ∧ u.fab = { tick := 0, count := 0, edgeTick := 0, edges := [(0, 0)], kept := [] }
        ∧ u.coll.released = true ∧ u.store.recalling = true)
    ∧ (s.clocked = true → (s.phase ≠ .cores ∨ s.coresUp = false) → exec .endOfStartup s = .next s.after)
    ∧ (s.phase = .cores → s.coresUp = true →
      ∃ u, exec .endOfStartup s = .next u.after ∧ s.SameBut [.phase, .objs, .mem, .lanes, .coll, .ledger, .store, .conv, .cap,
          .ring, .input, .rails, .seq, .pmb, .margins, .stips, .sinks, .gov, .feeds, .convoy, .upd, .power, .dwellFrom] u
        ∧ u.phase = (if s.objB K.CONVOY_ENABLE = true then .joining else .running)
        ∧ u.convoy.state = (if s.objB K.CONVOY_ENABLE = true then .solo else .disabled)
        ∧ u.power = .full ∧ u.dwellFrom = some s.fab.tick)
    ∧ (exec (.resetLow false) s = .next (if s.supplies = true then
        (s.goOff (!s.input.onVhu) (if s.input.onVhu = true then 0 else 1)).after else s.after))
    ∧ (exec (.resetLow true) s = .next (if s.input.onVhu = true then s.after else (s.goOff false 0).after))
    ∧ ∀ (sup : Bool) cause, (s.goOff sup cause).phase = .off ∧ (s.goOff sup cause).mem = [] ∧ (s.goOff sup cause).objs = []
        ∧ (s.goOff sup cause).pending = s.pending ∧ (s.goOff sup cause).loader = s.loader
        ∧ (s.goOff sup cause).filterClk = s.filterClk ∧ (s.goOff sup cause).resetCause = cause
        ∧ (s.store.etch = none → (s.goOff sup cause).store.shadow = s.store.shadow)

/-- The power states (Tables 15.3 to 15.5). -/
def Obligations.PowerStateRowsTakeEffect : Prop :=
  ∀ (s : State), s.clocked = true →
    ((s.serving = false ∨ s.power ≠ .full ∨ s.fullReasons ≠ 0) → exec .powerStateEnter s = .next s.after)
    ∧ (s.serving = true → s.power = .full → s.fullReasons = 0 →
      exec .powerStateEnter s = .next ({ s with power := s.chosenState }).after)
    ∧ (s.chosenState = .still ↔ 20000 ≤ s.latencyInForce ∧ 3 ≤ s.obj K.STATE_MAX)
    ∧ (s.chosenState = .doze ↔ s.chosenState ≠ .still ∧ 1000 ≤ s.latencyInForce ∧ 2 ≤ s.obj K.STATE_MAX)
    ∧ (s.chosenState = .full ↔ s.latencyInForce < 50 ∨ s.obj K.STATE_MAX = 0)
    ∧ (exec .fullReached s
      = .next (if s.serving = true ∧ (s.requestWaits = true ∨ s.fullReasons ≠ 0) ∧ s.power ≠ .full then
          (({ s with power := .full }).bump K.WAKES).after
        else s.after))
    ∧ (∀ t, s.dwellFrom = some t → t + usTicks (s.obj K.DWELL) ≤ s.fab.tick →
      exec .dwellEnd s = .next ({ s with dwellFrom := none }).after)
    ∧ (s.dwellFrom.all (fun t => decide (s.fab.tick < t + usTicks (s.obj K.DWELL))) = true → exec .dwellEnd s = .next s.after)

/-- Freeze (R413 to R418). The choice of the model: DISABLED counts no frozen beats, the length of a freeze counts on the filter
clock (log entry 70), and the halt hold and the offset after a thaw (log entry 71). -/
def Obligations.FreezeRowsTakeEffect : Prop :=
  ∀ (s : State),
    (s.vioGone = true → exec .freeze s = .next s.after ∧ exec .frozenBeatEdge s = .next s.after)
    ∧ (s.vioGone = false → s.frozen = none → s.serving = true → s.objB K.FREEZE_ENABLE = true →
      ∃ u, exec .freeze s = .next u.after ∧ s.SameBut [.objs, .sinks, .convoy, .frozen, .freezeLow, .frz] u
        ∧ u.frozen = some s.filterClk ∧ u.freezeLow = true ∧ u.obj K.PROOF_READS = 0
        ∧ u.convoy.held = false ∧ u.convoy.objecting = false ∧ u.convoy.state = s.convoy.state
        ∧ u.convoy.halting = (s.convoy.halting && s.obj K.FREEZE_CONVOY == 0)
        ∧ u.frz.beats = 0 ∧ u.frz.beat = s.fab.count ∧ u.frz.offset = s.offset
        ∧ u.frz.proof = ({ s with freezeLow := true }).proofImage ∧ u.frz.hold = false
        ∧ ∀ n ∈ railNos, (u.sink n).use ≠ .stipple ∧ (u.sink n).use ≠ .load)
    ∧ (s.vioGone = false → (s.frozen.isSome = true ∨ s.serving = false ∨ s.objB K.FREEZE_ENABLE = false) →
      exec .freeze s = .next ({ s with freezeLow := true }).after)
    ∧ (s.vioGone = false → s.frozen.isSome = true → s.convoy.state ≠ .disabled → s.frz.edgeClk + 72000 ≤ s.filterClk →
      exec .frozenBeatEdge s
        = .next (({ s with
            convoy := { s.convoy with present := false },
            frz := { s.frz with
              beats := s.frz.beats + 1, edges := s.filterClk :: s.frz.edges, edgeClk := s.filterClk,
              hold := s.frz.hold || (s.convoy.state.inConvoy && s.obj K.FREEZE_CONVOY == 0) } }).drive).after)
    ∧ ((s.frozen = none ∨ s.convoy.state = .disabled ∨ s.filterClk < s.frz.edgeClk + 72000) →
      exec .frozenBeatEdge s = .next s.after)
    ∧ (s.frozen = none → exec .firstClockedTick s = .next ({ s with freezeLow := false }).after)
    ∧ (∀ since, s.frozen = some since →
      ∃ v : State,
        let us := (s.filterClk - since) / 200
        let t := ((((((v.setPers K.LAST_FREEZE_BEAT s.frz.beat.toNat).setPers K.LAST_FREEZE_OFFSET s.frz.offset).setPers
          K.LAST_FREEZE_TIME (sat32 us)).setPers K.LAST_FROZEN_BEATS (sat32 s.frz.beats)).wideAdd K.FROZEN_TIME us).bump
          K.FREEZE_COUNT).postDeferred
        exec .firstClockedTick s = .next t.after ∧ s.SameBut [.fab, .objs, .lanes, .coll, .ledger, .store, .conv, .cap, .ring,
            .input, .rails, .seq, .pmb, .railWins, .margins, .stips, .sinks, .gov, .feeds, .convoy, .frozen, .freezeLow, .frz] t
        ∧ t.frozen = none ∧ t.freezeLow = false ∧ t.frz.hold = false ∧ t.convoy.held = false
        ∧ t.fab.count = s.fab.count + BitVec.ofNat 32 s.frz.beats
        ∧ t.fab.edgeTick = (s.fab.tick : Int) - ((s.filterClk : Int) - (s.frz.edgeClk : Int)) ∧ t.fab.tick = s.fab.tick
        ∧ t.fab.edges.length ≤ 1024
        ∧ ∀ e ∈ s.fab.edges ++ s.fab.kept, s.awaits e.1 = true → e ∈ t.fab.edges ++ t.fab.kept)

/-- A step runs exec on the front command with the rest of the queue. The tick on an empty queue is the model's choice (DESIGN
CHOICE, assumption 1). -/
def Obligations.StepRunsTheFrontCommand : Prop :=
  (∀ (c : Instr) (r : List Instr) (s : State), step { s with pending := c :: r } = exec c { s with pending := r })
  ∧ (∀ (c : Instr) (s : State), ∃ t, exec c s = .next t)
  ∧ ∀ s : State, s.pending = [] → step s = .next s.clock ∧ s.clock.pending = [] ∧ s.clock.filterClk = s.filterClk + 1

/-- What reset leaves: the Defaults of the objects (R39), the phase OFF (R403), blank memory. The blank shadow is the model's choice
(assumption 2). -/
def Obligations.ResetLeavesDefaults : Prop :=
  State.reset.Inv ∧ State.reset.pending = [] ∧ State.reset.phase = .off ∧ State.reset.supplies = false ∧ State.reset.mem = []
  ∧ State.reset.frozen = none ∧ State.reset.convoy.state = .disabled ∧ State.reset.store.etch = none
  ∧ (∀ p, (State.reset.port p).session = none ∧ (State.reset.port p).request = none)
  ∧ (∀ n, (State.reset.rail n).en = false ∧ (State.reset.rail n).state = .absent)
  ∧ (∀ key, State.reset.obj key = objDefault key)
  ∧ State.reset.obj K.BEAT_PERIOD = 1000 ∧ State.reset.obj K.LOSS_TIMEOUT = 5000 ∧ State.reset.obj K.LOCAL_HOLD = 0

/-- The invariant of the machine: canonical memory (R302, R319), at most 1,024 recorded edges (R13), shared lanes 64 to 127 (R18,
R24). -/
def Obligations.StepKeepsTheInvariant : Prop :=
  ∀ s : State, ∃ t, step s = .next t ∧ (s.Inv → t.Inv)

/-- The frame of every command, what follows on its tick included: the fields outside mayChange and the bytes outside mayWrite
stand. -/
def Obligations.CommandsKeepTheOtherFields : Prop :=
  ∀ (c : Instr) (s : State), ∃ t, exec c s = .next t ∧ s.SameBut (mayChange c) t ∧ s.MemBut (mayWrite c) t ∧ t.pending = s.pending
    ∧ t.filterClk = s.filterClk

/-- What follows a command on its tick: nothing in a state at rest. Blocks without a clock do not act under freeze (R414); that
commands have no effect in OFF, POWER_ON and CLOCKS is the choice of the model (log entry 80). -/
def Obligations.NothingFollowsAtRest : Prop :=
  (∀ s : State, s.AtRest → s.after = s)
  ∧ ∀ (s : State) (n : Fin 64), s.clocked = false →
    exec .stepStart s = .next s ∧ exec (.onSlot n) s = .next s ∧ exec (.marginStep n) s = .next s
    ∧ exec .laneGrant s = .next s ∧ exec .captureStart s = .next s ∧ exec .verifyDone s = .next s
    ∧ exec .ledgerEntry s = .next s ∧ exec .messageRelease s = .next s ∧ exec .etchSnapshot s = .next s
    ∧ exec .powerGrant s = .next s ∧ exec (.stipScheduledTick n) s = .next s ∧ exec .leaderBeat s = .next s

/-- Encoding and decoding agree: beat frames (R72 to R74), reply words (R83), ledger records (Table 12.2). That a leader refuses a
reply word with nonzero reserved bits, so that every word it accepts is the one that its fields spell, is the choice of the model
(log entry 81). -/
def Obligations.FramesRepliesAndRecordsRoundTrip : Prop :=
  (∀ f : Frame, f.version < 256 → f.wayNext < 256 → f.voteKind < 256 → f.voteArg < 256 → f.replySeg < 256 →
    f.leaderAddr < 2 ^ 14 → f.msgKind < 256 → f.msgAmount < 256 → f.msgId < 2 ^ 16 → f.msgFrom < 2 ^ 14 → f.msgTo < 2 ^ 14 →
    f.bytes.length = 24 ∧ parseFrame f.bytes = some f)
  ∧ (∀ bs f, parseFrame bs = some f → f.bytes = bs)
  ∧ (∀ r : Reply, r.addr < 2 ^ 14 → r.kind < 256 → r.arg8 < 256 → r.argA < 2 ^ 16 → r.argB < 2 ^ 16 → parseReply r.word = some r)
  ∧ (∀ w r, parseReply w = some r → r.word = w)
  ∧ ∀ x : Rec, x.rseq < 2 ^ 32 → x.type < 256 → x.flags < 256 → x.tag < 256 → x.body < 2 ^ 64 → x.beat < 2 ^ 32 →
    x.offset < 2 ^ 32 → x.lastBeat < 2 ^ 32 → x.lastOffset < 2 ^ 32 → x.count < 2 ^ 32 → x.opTime < 2 ^ 64 →
    x.powerCycle < 2 ^ 32 → x.episode < 2 ^ 32 → x.linkSeq < 2 ^ 32 → x.linkBeat < 2 ^ 32 →
    x.bytes.length = 64 ∧ parseRec x.bytes = some x
end

