-- ==== Sys2Proof/Laws/Maps.lean ====
section
/-! SUPPORT. Laws of the sparse maps: reading after writing, and the sorted form, which every operation keeps. -/

namespace Sys2Proof.Machine

variable {α : Type}

theorem FMap.sorted_nil : FMap.sorted ([] : FMap α) := List.Pairwise.nil

theorem FMap.sorted_sublist {l m : FMap α} (h : l.Sublist m) (hm : FMap.sorted m) : FMap.sorted l := List.Pairwise.sublist h hm

/-- Reading the key just written gives the value written. -/
@[simp] theorem fget_fset_same (m : FMap α) (k : Nat) (v d : α) : fget (fset m k v) k d = v := by
  induction m with
  | nil => simp [fset, fget]
  | cons p r ih =>
    simp only [fset]
    split
    · simp [fget]
    · split
      · simp [fget]
      · rename_i h _
        simp [fget, h, ih]

/-- Writing a key leaves every other key alone. -/
theorem fget_fset_other (m : FMap α) {k j : Nat} (h : j ≠ k) (v d : α) : fget (fset m k v) j d = fget m j d := by
  induction m with
  | nil => simp [fset, fget, Ne.symm h]
  | cons p r ih =>
    simp only [fset]
    split
    · rename_i hp
      have : ¬ p.1 = j := fun e => h (e ▸ hp)
      simp [fget, Ne.symm h, this]
    · split
      · simp [fget, Ne.symm h]
      · simp [fget, ih]

@[simp] theorem flook_fset_same (m : FMap α) (k : Nat) (v : α) : flook (fset m k v) k = some v := by
  induction m with
  | nil => simp [fset, flook]
  | cons p r ih =>
    simp only [fset]
    split
    · simp [flook]
    · split
      · simp [flook]
      · rename_i h _
        simp [flook, h, ih]

theorem flook_fset_other (m : FMap α) {k j : Nat} (h : j ≠ k) (v : α) : flook (fset m k v) j = flook m j := by
  induction m with
  | nil => simp [fset, flook, Ne.symm h]
  | cons p r ih =>
    simp only [fset]
    split
    · rename_i hp
      have : ¬ p.1 = j := fun e => h (e ▸ hp)
      simp [flook, Ne.symm h, this]
    · split
      · simp [flook, Ne.symm h]
      · simp [flook, ih]

/-- What a written map lists: the new pair, or a pair it listed before. -/
theorem mem_fset {m : FMap α} {k : Nat} {v : α} {p : Nat × α} (h : p ∈ fset m k v) : p = (k, v) ∨ p ∈ m := by
  induction m with
  | nil => simp only [fset, List.mem_singleton] at h; exact .inl h
  | cons q r ih =>
    simp only [fset] at h
    split at h
    · rcases List.mem_cons.1 h with h | h
      · exact .inl h
      · exact .inr (List.mem_cons_of_mem _ h)
    · split at h
      · rcases List.mem_cons.1 h with h | h
        · exact .inl h
        · exact .inr h
      · rcases List.mem_cons.1 h with h | h
        · exact .inr (h ▸ List.mem_cons_self)
        · rcases ih h with h | h
          · exact .inl h
          · exact .inr (List.mem_cons_of_mem _ h)

theorem FMap.sorted_fset {m : FMap α} (hm : FMap.sorted m) (k : Nat) (v : α) : FMap.sorted (fset m k v) := by
  induction m with
  | nil => simp [fset, FMap.sorted]
  | cons q r ih =>
    obtain ⟨hq, hr⟩ := List.pairwise_cons.1 hm
    simp only [fset]
    split
    · rename_i e
      exact List.pairwise_cons.2 ⟨fun p hp => e ▸ hq p hp, hr⟩
    · split
      · rename_i hk
        refine List.pairwise_cons.2 ⟨fun p hp => ?_, hm⟩
        rcases List.mem_cons.1 hp with rfl | hp
        · exact hk
        · exact Nat.lt_trans hk (hq p hp)
      · rename_i h1 h2
        refine List.pairwise_cons.2 ⟨fun p hp => ?_, ih hr⟩
        rcases mem_fset hp with rfl | hp
        · exact Nat.lt_of_le_of_ne (Nat.le_of_not_lt h2) h1
        · exact hq p hp

theorem fdel_sublist (m : FMap α) (k : Nat) : (fdel m k).Sublist m := by
  induction m with
  | nil => exact List.Sublist.slnil
  | cons q r ih =>
    simp only [fdel]
    split
    · exact ih.cons q
    · exact ih.cons_cons q

theorem FMap.sorted_fdel {m : FMap α} (hm : FMap.sorted m) (k : Nat) : FMap.sorted (fdel m k) :=
  FMap.sorted_sublist (fdel_sublist m k) hm

theorem mem_fdel {m : FMap α} {k : Nat} {p : Nat × α} (h : p ∈ fdel m k) : p ∈ m := (fdel_sublist m k).subset h

end Sys2Proof.Machine
end

