-- ==== Sys2Proof/Laws/Memory.lean ====
section
/-! SUPPORT. Laws of working memory: reading after writing, and the canonical form, which every operation keeps. -/

namespace Sys2Proof.Machine

/-- The canonical form in the terms of the maps. -/
theorem Memory.wf_iff (m : List Host.Cell) :
    Memory.wf m = true ↔ FMap.sorted (α := BitVec 8) m ∧ ∀ c ∈ m, c.2 ≠ 0#8 := by
  induction m with
  | nil => simp [Memory.wf, FMap.sorted]
  | cons c r ih =>
    simp only [Memory.wf, Bool.and_eq_true, bne_iff_ne, ne_eq, ih, FMap.sorted, List.pairwise_cons, List.mem_cons, forall_eq_or_imp]
    constructor
    · rintro ⟨⟨h1, h2⟩, h3, h4⟩
      refine ⟨⟨fun a ha => ?_, h3⟩, h1, h4⟩
      cases r with
      | nil => simp at ha
      | cons d t =>
        simp only [decide_eq_true_eq] at h2
        rcases List.mem_cons.1 ha with rfl | ha
        · exact h2
        · exact Nat.lt_trans h2 ((List.pairwise_cons.1 h3).1 a ha)
    · rintro ⟨⟨h1, h3⟩, h2, h4⟩
      refine ⟨⟨h2, ?_⟩, h3, h4⟩
      cases r with
      | nil => rfl
      | cons d t => simp only [decide_eq_true_eq]; exact h1 d List.mem_cons_self

theorem memDel_sublist (m : List Host.Cell) (a : Nat) : (memDel m a).Sublist m := by
  induction m with
  | nil => exact List.Sublist.slnil
  | cons c r ih =>
    simp only [memDel]
    split
    · exact ih.trans (List.sublist_cons_self c r)
    · exact ih.cons_cons c

theorem Memory.wf_sublist {l m : List Host.Cell} (h : l.Sublist m) (hm : Memory.wf m = true) : Memory.wf l = true := by
  rw [Memory.wf_iff] at *
  exact ⟨FMap.sorted_sublist h hm.1, fun c hc => hm.2 c (h.subset hc)⟩

/-- Writing one byte keeps the canonical form. -/
theorem memSet_wf {m : List Host.Cell} (hm : Memory.wf m = true) (a : Nat) (v : Byte) : Memory.wf (memSet m a v) = true := by
  unfold memSet
  split
  · exact Memory.wf_sublist (memDel_sublist m a) hm
  · rename_i hv
    rw [Memory.wf_iff] at *
    refine ⟨FMap.sorted_fset hm.1 a v, fun c hc => ?_⟩
    rcases mem_fset hc with rfl | hc
    · exact hv
    · exact hm.2 c hc

/-- Writing a byte string keeps the canonical form. -/
theorem memWrite_wf {m : List Host.Cell} (hm : Memory.wf m = true) (a : Nat) (bs : List Byte) :
    Memory.wf (memWrite m a bs) = true := by
  induction bs generalizing m a with
  | nil => exact hm
  | cons b r ih => exact ih (memSet_wf hm a b) (a + 1)

theorem memByte_memDel_other (m : List Host.Cell) {a b : Nat} (h : b ≠ a) : memByte (memDel m a) b = memByte m b := by
  unfold memByte
  induction m with
  | nil => rfl
  | cons c r ih =>
    simp only [memDel]
    split
    · rename_i hc
      have : ¬ c.1 = b := fun e => h (e ▸ hc)
      simp only [fget, this, if_false, ih]
    · simp only [fget, ih]

/-- The address of a removed cell reads 0x00. -/
theorem memByte_memDel_same (m : List Host.Cell) (a : Nat) : memByte (memDel m a) a = 0#8 := by
  unfold memByte
  induction m with
  | nil => rfl
  | cons c r ih =>
    simp only [memDel]
    split
    · exact ih
    · rename_i hc
      simp only [fget, hc, if_false, ih]

/-- Reading the byte just written gives the byte written. -/
theorem memByte_memSet_same (m : List Host.Cell) (a : Nat) (v : Byte) : memByte (memSet m a v) a = v := by
  unfold memSet
  split
  · rename_i hv
    rw [memByte_memDel_same, hv]
  · exact fget_fset_same m a v 0#8

/-- Writing one byte leaves every other address alone. -/
theorem memByte_memSet_other (m : List Host.Cell) {a b : Nat} (h : b ≠ a) (v : Byte) : memByte (memSet m a v) b = memByte m b := by
  unfold memSet
  split
  · exact memByte_memDel_other m h
  · exact fget_fset_other m h v 0#8

/-- Writing a byte string leaves every address outside its span alone. -/
theorem memByte_memWrite_other (m : List Host.Cell) {a b : Nat} (bs : List Byte) (h : b < a ∨ a + bs.length ≤ b) :
    memByte (memWrite m a bs) b = memByte m b := by
  induction bs generalizing m a with
  | nil => rfl
  | cons c r ih =>
    simp only [List.length_cons] at h
    simp only [memWrite]
    rw [ih _ (by omega), memByte_memSet_other _ (by omega)]

/-- Reading a span just written gives the bytes written. -/
theorem memRead_memWrite (m : List Host.Cell) (a : Nat) (bs : List Byte) :
    memRead (memWrite m a bs) a bs.length = bs := by
  induction bs generalizing m a with
  | nil => rfl
  | cons c r ih =>
    simp only [memWrite, List.length_cons, memRead]
    rw [memByte_memWrite_other _ _ (by omega), memByte_memSet_same, ih]

/-- Filtering leaves the byte at an address that the filter keeps. -/
theorem memByte_filter (m : List Host.Cell) (p : Host.Cell → Bool) (a : Nat) (h : ∀ c : Host.Cell, c.1 = a → p c = true) :
    memByte (m.filter p) a = memByte m a := by
  unfold memByte
  induction m with
  | nil => rfl
  | cons c r ih =>
    rw [List.filter_cons]
    by_cases hc : c.1 = a
    · rw [if_pos (h c hc)]
      simp only [fget, hc, if_true]
    · split
      · simp only [fget, hc, if_false, ih]
      · simp only [fget, hc, if_false, ih]

/-- leBytes gives the number of bytes asked for. -/
@[simp] theorem leBytes_length (n v : Nat) : (leBytes n v).length = n := by
  induction n generalizing v with
  | zero => rfl
  | succ k ih => simp [leBytes, ih]

/-- A packed list is as long as its fields together. -/
@[simp] theorem packLE_length (fs : List (Nat × Nat)) : (packLE fs).length = (fs.map Prod.fst).sum := by
  induction fs with
  | nil => rfl
  | cons f r ih => simp [packLE, ih]

end Sys2Proof.Machine
end

