-- ==== Sys2Proof/Laws/Same.lean ====
section
/-! SUPPORT. Frames: states that agree in every field but those of a bit mask, and the record updates. -/

namespace Sys2Proof.Machine

/-- The bit of a part of working memory. -/
def Zone.bit (z : Zone) : Nat := 41 + z.ctorIdx

/-- The state b agrees with the state a in every field whose bit the mask leaves clear, and in every byte
outside the parts of working memory whose bit it sets; the bits follow the order of Fld, then that of Zone. -/
structure Agree (L : Nat) (a b : State) : Prop where
  pending : L.testBit 0 = false → b.pending = a.pending
  phase : L.testBit 1 = false → b.phase = a.phase
  fab : L.testBit 2 = false → b.fab = a.fab
  objs : L.testBit 3 = false → b.objs = a.objs
  mem : L.testBit 4 = false → b.mem = a.mem
  lanes : L.testBit 5 = false → b.lanes = a.lanes
  coll : L.testBit 6 = false → b.coll = a.coll
  ledger : L.testBit 7 = false → b.ledger = a.ledger
  store : L.testBit 8 = false → b.store = a.store
  cores : L.testBit 9 = false → b.cores = a.cores
  conv : L.testBit 10 = false → b.conv = a.conv
  cap : L.testBit 11 = false → b.cap = a.cap
  ring : L.testBit 12 = false → b.ring = a.ring
  activeArea : L.testBit 13 = false → b.activeArea = a.activeArea
  otherArea : L.testBit 14 = false → b.otherArea = a.otherArea
  input : L.testBit 15 = false → b.input = a.input
  rails : L.testBit 16 = false → b.rails = a.rails
  seq : L.testBit 17 = false → b.seq = a.seq
  pmb : L.testBit 18 = false → b.pmb = a.pmb
  railWins : L.testBit 19 = false → b.railWins = a.railWins
  live : L.testBit 20 = false → b.live = a.live
  margins : L.testBit 21 = false → b.margins = a.margins
  stips : L.testBit 22 = false → b.stips = a.stips
  sinks : L.testBit 23 = false → b.sinks = a.sinks
  gov : L.testBit 24 = false → b.gov = a.gov
  feeds : L.testBit 25 = false → b.feeds = a.feeds
  convoy : L.testBit 26 = false → b.convoy = a.convoy
  loader : L.testBit 27 = false → b.loader = a.loader
  upd : L.testBit 28 = false → b.upd = a.upd
  hosts : L.testBit 29 = false → b.hosts = a.hosts
  power : L.testBit 30 = false → b.power = a.power
  dwellFrom : L.testBit 31 = false → b.dwellFrom = a.dwellFrom
  supplies : L.testBit 32 = false → b.supplies = a.supplies
  vioClass : L.testBit 33 = false → b.vioClass = a.vioClass
  startClk : L.testBit 34 = false → b.startClk = a.startClk
  resetCause : L.testBit 35 = false → b.resetCause = a.resetCause
  filterClk : L.testBit 36 = false → b.filterClk = a.filterClk
  frozen : L.testBit 37 = false → b.frozen = a.frozen
  freezeLow : L.testBit 38 = false → b.freezeLow = a.freezeLow
  frz : L.testBit 39 = false → b.frz = a.frz
  ticked : L.testBit 40 = false → b.ticked = a.ticked
  cells : ∀ i, (∀ z : Zone, L.testBit z.bit = true → ¬ z.covers i) → memByte b.mem i = memByte a.mem i

theorem sub_trans {a b c : Nat} (h : a &&& b = a) (g : b &&& c = b) : a &&& c = a := by
  rw [← h, Nat.and_assoc, g]

theorem Agree.refl (L : Nat) (s : State) : Agree L s s := by
  constructor <;> intros <;> rfl

theorem same_ite {L : Nat} {z x y : State} {c : Prop} [Decidable c] (hx : Agree L z x) (hy : Agree L z y) :
    Agree L z (if c then x else y) := by split <;> assumption

theorem same_foldl {α : Type} (f : State → α → State) (l : List α) {L : Nat} {z s : State} (h : Agree L z s)
    (hf : ∀ (t : State) (x : α), Agree L z t → Agree L z (f t x)) : Agree L z (l.foldl f s) := by
  induction l generalizing s with
  | nil => exact h
  | cons x r ih => exact ih (hf _ _ h)

theorem same_foldl_fst {α β : Type} (f : State × β → α → State × β) (l : List α) {L : Nat} {z : State} {s : State × β}
    (h : Agree L z s.1) (hf : ∀ (t : State × β) (x : α), Agree L z t.1 → Agree L z (f t x).1) :
    Agree L z (l.foldl f s).1 := by
  induction l generalizing s with
  | nil => exact h
  | cons x r ih => exact ih (hf _ _ h)

theorem bit_of_sub {a L : Nat} {i : Nat} {p : Prop} (h : a.testBit i = true) (g : a &&& L = a) (n : L.testBit i = false) : p := by
  rw [← g, Nat.testBit_and, n, Bool.and_false] at h
  exact absurd h (by decide)

/-- The bit of a field. -/
def Fld.bit (f : Fld) : Nat := f.ctorIdx

/-- The mask of a list of fields. -/
def maskOf (l : List Fld) : Nat := l.foldl (fun m f => m ||| 2 ^ f.bit) 0

theorem maskOf_testBit (l : List Fld) (f : Fld) (h : (maskOf l).testBit f.bit = true) : l.contains f = true := by
  have key : ∀ (l : List Fld) (m : Nat), (l.foldl (fun m f => m ||| 2 ^ f.bit) m).testBit f.bit = true →
      m.testBit f.bit = true ∨ l.contains f = true := by
    intro l
    induction l with
    | nil => intro m h; exact Or.inl h
    | cons g r ih =>
      intro m h
      rcases ih _ h with h1 | h1
      · rw [Nat.testBit_or, Bool.or_eq_true] at h1
        rcases h1 with h1 | h1
        · exact Or.inl h1
        · rw [Nat.testBit_two_pow] at h1
          have e : g.bit = f.bit := by simpa using h1
          have : g = f := by
            revert e
            cases g <;> cases f <;> intro e <;> first | rfl | exact absurd e (by decide)
          rw [this]
          exact Or.inr (by simp)
      · exact Or.inr (by simp at h1 ⊢; exact Or.inr h1)
  rcases key l 0 h with h1 | h1
  · simp at h1
  · exact h1

/-- Agreement up to a mask is agreement up to a list of fields that covers it. -/
theorem Agree.sameBut {l : List Fld} {L : Nat} {a b : State} (h : Agree L a b) (hm : L &&& maskOf l = L) : a.SameBut l b := by
  have key : ∀ f : Fld, l.contains f = false → L.testBit f.bit = false := by
    intro f hf
    cases hb : L.testBit f.bit with
    | false => rfl
    | true =>
      rw [← hm, Nat.testBit_and, Bool.and_eq_true] at hb
      rw [maskOf_testBit l f hb.2] at hf
      exact absurd hf (by decide)
  constructor <;> intro q
  · exact h.pending (key .pending q)
  · exact h.phase (key .phase q)
  · exact h.fab (key .fab q)
  · exact h.objs (key .objs q)
  · exact h.mem (key .mem q)
  · exact h.lanes (key .lanes q)
  · exact h.coll (key .coll q)
  · exact h.ledger (key .ledger q)
  · exact h.store (key .store q)
  · exact h.cores (key .cores q)
  · exact h.conv (key .conv q)
  · exact h.cap (key .cap q)
  · exact h.ring (key .ring q)
  · exact h.activeArea (key .activeArea q)
  · exact h.otherArea (key .otherArea q)
  · exact h.input (key .input q)
  · exact h.rails (key .rails q)
  · exact h.seq (key .seq q)
  · exact h.pmb (key .pmb q)
  · exact h.railWins (key .railWins q)
  · exact h.live (key .live q)
  · exact h.margins (key .margins q)
  · exact h.stips (key .stips q)
  · exact h.sinks (key .sinks q)
  · exact h.gov (key .gov q)
  · exact h.feeds (key .feeds q)
  · exact h.convoy (key .convoy q)
  · exact h.loader (key .loader q)
  · exact h.upd (key .upd q)
  · exact h.hosts (key .hosts q)
  · exact h.power (key .power q)
  · exact h.dwellFrom (key .dwellFrom q)
  · exact h.supplies (key .supplies q)
  · exact h.vioClass (key .vioClass q)
  · exact h.startClk (key .startClk q)
  · exact h.resetCause (key .resetCause q)
  · exact h.filterClk (key .filterClk q)
  · exact h.frozen (key .frozen q)
  · exact h.freezeLow (key .freezeLow q)
  · exact h.frz (key .frz q)
  · exact h.ticked (key .ticked q)

theorem bits {a L : Nat} (i : Nat) (h : a &&& L = a) (g : a.testBit i = true) : L.testBit i = true := by
  rw [← h, Nat.testBit_and, Bool.and_eq_true] at g
  exact g.2

/-- A write within a part of working memory. -/
theorem writeBytes_same {L : Nat} {z s : State} (hL : 272 &&& L = 272) (h : Agree L z s) (zn : Zone)
    (hz : L.testBit zn.bit = true) (a : Nat) (bs : List Byte) (hc : ∀ i, a ≤ i → i < a + bs.length → zn.covers i) :
    Agree L z (s.writeBytes a bs) where
  pending := h.pending
  phase := h.phase
  fab := h.fab
  objs := h.objs
  mem := fun n => bit_of_sub (by decide) hL n
  lanes := h.lanes
  coll := h.coll
  ledger := h.ledger
  store := fun n => bit_of_sub (by decide) hL n
  cores := h.cores
  conv := h.conv
  cap := h.cap
  ring := h.ring
  activeArea := h.activeArea
  otherArea := h.otherArea
  input := h.input
  rails := h.rails
  seq := h.seq
  pmb := h.pmb
  railWins := h.railWins
  live := h.live
  margins := h.margins
  stips := h.stips
  sinks := h.sinks
  gov := h.gov
  feeds := h.feeds
  convoy := h.convoy
  loader := h.loader
  upd := h.upd
  hosts := h.hosts
  power := h.power
  dwellFrom := h.dwellFrom
  supplies := h.supplies
  vioClass := h.vioClass
  startClk := h.startClk
  resetCause := h.resetCause
  filterClk := h.filterClk
  frozen := h.frozen
  freezeLow := h.freezeLow
  frz := h.frz
  ticked := h.ticked
  cells := fun i q => by
    have hi : i < a ∨ a + bs.length ≤ i := by
      rcases Nat.lt_or_ge i a with h1 | h1
      · exact Or.inl h1
      · rcases Nat.lt_or_ge i (a + bs.length) with h2 | h2
        · exact absurd (hc i h1 h2) (q zn hz)
        · exact Or.inr h2
    have e : memByte (s.writeBytes a bs).mem i = memByte s.mem i := memByte_memWrite_other s.mem bs hi
    rw [e]
    exact h.cells i q

theorem writeAny_same {L : Nat} {z s : State} (hL : 1125899906842896 &&& L = 1125899906842896) (h : Agree L z s) (a : Nat) (bs : List Byte) :
    Agree L z (s.writeBytes a bs) :=
  writeBytes_same (sub_trans rfl hL) h .all (bits _ hL (by decide)) a bs (fun _ _ _ => trivial)

theorem Rec.bytes_length (x : Rec) : x.bytes.length = 64 := by
  simp [Rec.bytes, packLE_length]

theorem writeRec_same {L : Nat} {z s : State} (hL : 35184372089104 &&& L = 35184372089104) (h : Agree L z s) (r : Nat) (x : Rec) :
    Agree L z (s.writeBytes (recAddr r) x.bytes) :=
  writeBytes_same (sub_trans rfl hL) h .ledger (bits _ hL (by decide)) _ _
    (fun i p q => ⟨r, p, by rw [Rec.bytes_length] at q; exact q⟩)

theorem writeBlank_same {L : Nat} {z s : State} (hL : 35184372089104 &&& L = 35184372089104) (h : Agree L z s) (r : Nat) :
    Agree L z (s.writeBytes (recAddr r) (List.replicate 64 0#8)) :=
  writeBytes_same (sub_trans rfl hL) h .ledger (bits _ hL (by decide)) _ _
    (fun i p q => ⟨r, p, by rw [List.length_replicate] at q; exact q⟩)

theorem writeFirst_same {L : Nat} {z s : State} (hL : 70368744177936 &&& L = 70368744177936) (h : Agree L z s) (j : Nat) (x : Rec) :
    Agree L z (s.writeBytes (ffAddr j) x.bytes) :=
  writeBytes_same (sub_trans rfl hL) h .firstFault (bits _ hL (by decide)) _ _
    (fun i p q => ⟨j, p, by rw [Rec.bytes_length] at q; exact q⟩)

theorem writeLog_same {L : Nat} {z s : State} (hL : 17592186044688 &&& L = 17592186044688) (h : Agree L z s) (n : Nat) (e : Etch)
    (b l m : Nat) (st : Stamp) : Agree L z (s.writeBytes (etchLogAddr n) (etchLogEntry e b l m st)) :=
  writeBytes_same (sub_trans rfl hL) h .etchLog (bits _ hL (by decide)) _ _
    (fun i p q => ⟨n, p, by simp [etchLogEntry, packLE_length] at q; exact q⟩)

theorem writeLogBody_same {L : Nat} {z s : State} (hL : 17592186044688 &&& L = 17592186044688) (h : Agree L z s) (n : Nat)
    (l : List Byte) (x y c : Nat) :
    Agree L z (s.writeBytes (etchLogAddr n) (l.take 20 ++ packLE [(4, x), (4, y)] ++ leBytes 4 c)) :=
  writeBytes_same (sub_trans rfl hL) h .etchLog (bits _ hL (by decide)) _ _
    (fun i p q => ⟨n, p, by simp [packLE_length] at q; omega⟩)

theorem writeCell_same {L : Nat} {z s : State} (hL : 562949953421584 &&& L = 562949953421584) (h : Agree L z s) (p : Nat × Nat) (v : Nat) :
    Agree L z (s.writeBytes (ringCellAddr p) (leBytes 2 v)) :=
  writeBytes_same (sub_trans rfl hL) h .ring (bits _ hL (by decide)) _ _
    (fun i a q => ⟨p.1, by unfold ringCellAddr at a; omega, by simp [ringCellAddr] at q; omega⟩)

theorem writeCapture_same {L : Nat} {z s : State} (hL : 140737488355600 &&& L = 140737488355600) (h : Agree L z s) (k v : Nat) :
    Agree L z (s.writeBytes (captureAddr k) (leBytes 2 v)) :=
  writeBytes_same (sub_trans rfl hL) h .capture (bits _ hL (by decide)) _ _
    (fun i p q => ⟨k, p, by simp at q; exact q⟩)

theorem writeTrend_same {L : Nat} {z s : State} (hL : 281474976710928 &&& L = 281474976710928) (h : Agree L z s) (t : State) (n m seq v i : Nat) :
    Agree L z (s.writeBytes (trendAddr seq) (t.trendBytes n m v i ++ leBytes 4 (crc32c (t.trendBytes n m v i)).toNat)) :=
  writeBytes_same (sub_trans rfl hL) h .trend (bits _ hL (by decide)) _ _
    (fun j p q => ⟨seq, p, by simp [State.trendBytes, packLE_length, List.range_succ] at q; exact q⟩)

theorem areaHeader_length (a b c d : Nat) : (areaHeader a b c d).length = 16 := by
  simp [areaHeader, packLE_length]

theorem writeAreaHead_same {L : Nat} {z s : State} (hL : 2199023255824 &&& L = 2199023255824) (h : Agree L z s) (k a b c d : Nat) :
    Agree L z (s.writeBytes (areaAt k) (areaHeader a b c d)) :=
  writeBytes_same (sub_trans rfl hL) h .areaHead (bits _ hL (by decide)) _ _
    (fun i p q => ⟨k, p, by rw [areaHeader_length] at q; exact q⟩)

theorem writeManifest_same {L : Nat} {z s : State} (hL : 8796093022480 &&& L = 8796093022480) (h : Agree L z s) (v : Nat) :
    Agree L z (s.writeBytes manifestAt (leBytes 4 v)) :=
  writeBytes_same (sub_trans rfl hL) h .manifest (bits _ hL (by decide)) _ _
    (fun i p q => ⟨p, by simp at q; exact q⟩)

/-- An area taken out of working memory, with its values in otherArea. -/
theorem clearArea_same {L : Nat} {z s : State} (hL : 4398046527760 &&& L = 4398046527760) (h : Agree L z s) (k : Nat) (o : FMap Nat) (t : Store) :
    Agree L z { s with
      mem := s.mem.filter (fun c => !(decide (areaAt k ≤ c.1) && decide (c.1 < areaAt k + 3 * 16384))), otherArea := o, store := t } where
  pending := h.pending
  phase := h.phase
  fab := h.fab
  objs := h.objs
  mem := fun n => bit_of_sub (by decide) hL n
  lanes := h.lanes
  coll := h.coll
  ledger := h.ledger
  store := fun n => bit_of_sub (by decide) hL n
  cores := h.cores
  conv := h.conv
  cap := h.cap
  ring := h.ring
  activeArea := h.activeArea
  otherArea := fun n => bit_of_sub (by decide) hL n
  input := h.input
  rails := h.rails
  seq := h.seq
  pmb := h.pmb
  railWins := h.railWins
  live := h.live
  margins := h.margins
  stips := h.stips
  sinks := h.sinks
  gov := h.gov
  feeds := h.feeds
  convoy := h.convoy
  loader := h.loader
  upd := h.upd
  hosts := h.hosts
  power := h.power
  dwellFrom := h.dwellFrom
  supplies := h.supplies
  vioClass := h.vioClass
  startClk := h.startClk
  resetCause := h.resetCause
  filterClk := h.filterClk
  frozen := h.frozen
  freezeLow := h.freezeLow
  frz := h.frz
  ticked := h.ticked
  cells := fun i q => by
    refine Eq.trans (memByte_filter s.mem _ i (fun c hc => ?_)) (h.cells i q)
    have hn := q .area (bits _ hL (by decide))
    simp only [hc, Bool.not_eq_true', Bool.and_eq_false_iff, decide_eq_false_iff_not]
    rcases Nat.lt_or_ge i (areaAt k) with h1 | h1
    · exact Or.inl (by omega)
    · exact Or.inr (fun h2 => hn ⟨_, h1, h2⟩)

theorem urgentWords_length (us : List (Nat × Nat)) : (urgentWords us).length = 48 := by
  unfold urgentWords
  rw [List.length_flatten, List.map_map]
  refine (congrArg List.sum (List.map_congr_left (g := fun _ => 4) (fun i _ => ?_))).trans rfl
  simp only [Function.comp_apply]
  split <;> exact leBytes_length 4 _

theorem RingPage.header_length (p : RingPage) (a b c d : Nat) : (p.header a b c d).length = 124 := by
  unfold RingPage.header
  simp only [List.length_append, packLE_length, List.length_map, List.length_range, leBytes_length, urgentWords_length]
  split <;> simp


theorem same_cap {L : Nat} {z s : State} (hL : 2048 &&& L = 2048)
    (cap_ : Capture) :
    Agree L z { s with cap := cap_ } ↔ Agree L z s :=
  ⟨fun h => ⟨h.pending, h.phase, h.fab, h.objs, h.mem, h.lanes, h.coll, h.ledger, h.store, h.cores, h.conv,
    bit_of_sub (by decide) hL, h.ring, h.activeArea, h.otherArea, h.input, h.rails, h.seq, h.pmb, h.railWins, h.live, h.margins,
    h.stips, h.sinks, h.gov, h.feeds, h.convoy, h.loader, h.upd, h.hosts, h.power, h.dwellFrom, h.supplies, h.vioClass,
    h.startClk, h.resetCause, h.filterClk, h.frozen, h.freezeLow, h.frz, h.ticked, h.cells⟩, fun h => ⟨h.pending, h.phase, h.fab,
    h.objs, h.mem, h.lanes, h.coll, h.ledger, h.store, h.cores, h.conv, bit_of_sub (by decide) hL, h.ring, h.activeArea,
    h.otherArea, h.input, h.rails, h.seq, h.pmb, h.railWins, h.live, h.margins, h.stips, h.sinks, h.gov, h.feeds, h.convoy,
    h.loader, h.upd, h.hosts, h.power, h.dwellFrom, h.supplies, h.vioClass, h.startClk, h.resetCause, h.filterClk, h.frozen,
    h.freezeLow, h.frz, h.ticked, h.cells⟩⟩

theorem same_coll {L : Nat} {z s : State} (hL : 64 &&& L = 64)
    (coll_ : Coll) :
    Agree L z { s with coll := coll_ } ↔ Agree L z s :=
  ⟨fun h => ⟨h.pending, h.phase, h.fab, h.objs, h.mem, h.lanes, bit_of_sub (by decide) hL, h.ledger, h.store, h.cores, h.conv,
    h.cap, h.ring, h.activeArea, h.otherArea, h.input, h.rails, h.seq, h.pmb, h.railWins, h.live, h.margins, h.stips, h.sinks,
    h.gov, h.feeds, h.convoy, h.loader, h.upd, h.hosts, h.power, h.dwellFrom, h.supplies, h.vioClass, h.startClk, h.resetCause,
    h.filterClk, h.frozen, h.freezeLow, h.frz, h.ticked, h.cells⟩, fun h => ⟨h.pending, h.phase, h.fab, h.objs, h.mem, h.lanes,
    bit_of_sub (by decide) hL, h.ledger, h.store, h.cores, h.conv, h.cap, h.ring, h.activeArea, h.otherArea, h.input, h.rails,
    h.seq, h.pmb, h.railWins, h.live, h.margins, h.stips, h.sinks, h.gov, h.feeds, h.convoy, h.loader, h.upd, h.hosts, h.power,
    h.dwellFrom, h.supplies, h.vioClass, h.startClk, h.resetCause, h.filterClk, h.frozen, h.freezeLow, h.frz, h.ticked,
    h.cells⟩⟩

theorem same_conv {L : Nat} {z s : State} (hL : 1024 &&& L = 1024)
    (conv_ : Conv) :
    Agree L z { s with conv := conv_ } ↔ Agree L z s :=
  ⟨fun h => ⟨h.pending, h.phase, h.fab, h.objs, h.mem, h.lanes, h.coll, h.ledger, h.store, h.cores, bit_of_sub (by decide) hL,
    h.cap, h.ring, h.activeArea, h.otherArea, h.input, h.rails, h.seq, h.pmb, h.railWins, h.live, h.margins, h.stips, h.sinks,
    h.gov, h.feeds, h.convoy, h.loader, h.upd, h.hosts, h.power, h.dwellFrom, h.supplies, h.vioClass, h.startClk, h.resetCause,
    h.filterClk, h.frozen, h.freezeLow, h.frz, h.ticked, h.cells⟩, fun h => ⟨h.pending, h.phase, h.fab, h.objs, h.mem, h.lanes,
    h.coll, h.ledger, h.store, h.cores, bit_of_sub (by decide) hL, h.cap, h.ring, h.activeArea, h.otherArea, h.input, h.rails,
    h.seq, h.pmb, h.railWins, h.live, h.margins, h.stips, h.sinks, h.gov, h.feeds, h.convoy, h.loader, h.upd, h.hosts, h.power,
    h.dwellFrom, h.supplies, h.vioClass, h.startClk, h.resetCause, h.filterClk, h.frozen, h.freezeLow, h.frz, h.ticked,
    h.cells⟩⟩

theorem same_convoy {L : Nat} {z s : State} (hL : 67108864 &&& L = 67108864)
    (convoy_ : Convoy) :
    Agree L z { s with convoy := convoy_ } ↔ Agree L z s :=
  ⟨fun h => ⟨h.pending, h.phase, h.fab, h.objs, h.mem, h.lanes, h.coll, h.ledger, h.store, h.cores, h.conv, h.cap, h.ring,
    h.activeArea, h.otherArea, h.input, h.rails, h.seq, h.pmb, h.railWins, h.live, h.margins, h.stips, h.sinks, h.gov, h.feeds,
    bit_of_sub (by decide) hL, h.loader, h.upd, h.hosts, h.power, h.dwellFrom, h.supplies, h.vioClass, h.startClk, h.resetCause,
    h.filterClk, h.frozen, h.freezeLow, h.frz, h.ticked, h.cells⟩, fun h => ⟨h.pending, h.phase, h.fab, h.objs, h.mem, h.lanes,
    h.coll, h.ledger, h.store, h.cores, h.conv, h.cap, h.ring, h.activeArea, h.otherArea, h.input, h.rails, h.seq, h.pmb,
    h.railWins, h.live, h.margins, h.stips, h.sinks, h.gov, h.feeds, bit_of_sub (by decide) hL, h.loader, h.upd, h.hosts,
    h.power, h.dwellFrom, h.supplies, h.vioClass, h.startClk, h.resetCause, h.filterClk, h.frozen, h.freezeLow, h.frz, h.ticked,
    h.cells⟩⟩

theorem same_cores {L : Nat} {z s : State} (hL : 512 &&& L = 512)
    (cores_ : Cores) :
    Agree L z { s with cores := cores_ } ↔ Agree L z s :=
  ⟨fun h => ⟨h.pending, h.phase, h.fab, h.objs, h.mem, h.lanes, h.coll, h.ledger, h.store, bit_of_sub (by decide) hL, h.conv,
    h.cap, h.ring, h.activeArea, h.otherArea, h.input, h.rails, h.seq, h.pmb, h.railWins, h.live, h.margins, h.stips, h.sinks,
    h.gov, h.feeds, h.convoy, h.loader, h.upd, h.hosts, h.power, h.dwellFrom, h.supplies, h.vioClass, h.startClk, h.resetCause,
    h.filterClk, h.frozen, h.freezeLow, h.frz, h.ticked, h.cells⟩, fun h => ⟨h.pending, h.phase, h.fab, h.objs, h.mem, h.lanes,
    h.coll, h.ledger, h.store, bit_of_sub (by decide) hL, h.conv, h.cap, h.ring, h.activeArea, h.otherArea, h.input, h.rails,
    h.seq, h.pmb, h.railWins, h.live, h.margins, h.stips, h.sinks, h.gov, h.feeds, h.convoy, h.loader, h.upd, h.hosts, h.power,
    h.dwellFrom, h.supplies, h.vioClass, h.startClk, h.resetCause, h.filterClk, h.frozen, h.freezeLow, h.frz, h.ticked,
    h.cells⟩⟩

theorem same_dwellFrom {L : Nat} {z s : State} (hL : 2147483648 &&& L = 2147483648)
    (dwellFrom_ : Option Nat) :
    Agree L z { s with dwellFrom := dwellFrom_ } ↔ Agree L z s :=
  ⟨fun h => ⟨h.pending, h.phase, h.fab, h.objs, h.mem, h.lanes, h.coll, h.ledger, h.store, h.cores, h.conv, h.cap, h.ring,
    h.activeArea, h.otherArea, h.input, h.rails, h.seq, h.pmb, h.railWins, h.live, h.margins, h.stips, h.sinks, h.gov, h.feeds,
    h.convoy, h.loader, h.upd, h.hosts, h.power, bit_of_sub (by decide) hL, h.supplies, h.vioClass, h.startClk, h.resetCause,
    h.filterClk, h.frozen, h.freezeLow, h.frz, h.ticked, h.cells⟩, fun h => ⟨h.pending, h.phase, h.fab, h.objs, h.mem, h.lanes,
    h.coll, h.ledger, h.store, h.cores, h.conv, h.cap, h.ring, h.activeArea, h.otherArea, h.input, h.rails, h.seq, h.pmb,
    h.railWins, h.live, h.margins, h.stips, h.sinks, h.gov, h.feeds, h.convoy, h.loader, h.upd, h.hosts, h.power,
    bit_of_sub (by decide) hL, h.supplies, h.vioClass, h.startClk, h.resetCause, h.filterClk, h.frozen, h.freezeLow, h.frz,
    h.ticked, h.cells⟩⟩

theorem same_fab {L : Nat} {z s : State} (hL : 4 &&& L = 4)
    (fab_ : Fabric) :
    Agree L z { s with fab := fab_ } ↔ Agree L z s :=
  ⟨fun h => ⟨h.pending, h.phase, bit_of_sub (by decide) hL, h.objs, h.mem, h.lanes, h.coll, h.ledger, h.store, h.cores, h.conv,
    h.cap, h.ring, h.activeArea, h.otherArea, h.input, h.rails, h.seq, h.pmb, h.railWins, h.live, h.margins, h.stips, h.sinks,
    h.gov, h.feeds, h.convoy, h.loader, h.upd, h.hosts, h.power, h.dwellFrom, h.supplies, h.vioClass, h.startClk, h.resetCause,
    h.filterClk, h.frozen, h.freezeLow, h.frz, h.ticked, h.cells⟩, fun h => ⟨h.pending, h.phase, bit_of_sub (by decide) hL,
    h.objs, h.mem, h.lanes, h.coll, h.ledger, h.store, h.cores, h.conv, h.cap, h.ring, h.activeArea, h.otherArea, h.input,
    h.rails, h.seq, h.pmb, h.railWins, h.live, h.margins, h.stips, h.sinks, h.gov, h.feeds, h.convoy, h.loader, h.upd, h.hosts,
    h.power, h.dwellFrom, h.supplies, h.vioClass, h.startClk, h.resetCause, h.filterClk, h.frozen, h.freezeLow, h.frz, h.ticked,
    h.cells⟩⟩

theorem same_feeds {L : Nat} {z s : State} (hL : 33554432 &&& L = 33554432)
    (feeds_ : FMap Feed) :
    Agree L z { s with feeds := feeds_ } ↔ Agree L z s :=
  ⟨fun h => ⟨h.pending, h.phase, h.fab, h.objs, h.mem, h.lanes, h.coll, h.ledger, h.store, h.cores, h.conv, h.cap, h.ring,
    h.activeArea, h.otherArea, h.input, h.rails, h.seq, h.pmb, h.railWins, h.live, h.margins, h.stips, h.sinks, h.gov,
    bit_of_sub (by decide) hL, h.convoy, h.loader, h.upd, h.hosts, h.power, h.dwellFrom, h.supplies, h.vioClass, h.startClk,
    h.resetCause, h.filterClk, h.frozen, h.freezeLow, h.frz, h.ticked, h.cells⟩, fun h => ⟨h.pending, h.phase, h.fab, h.objs,
    h.mem, h.lanes, h.coll, h.ledger, h.store, h.cores, h.conv, h.cap, h.ring, h.activeArea, h.otherArea, h.input, h.rails,
    h.seq, h.pmb, h.railWins, h.live, h.margins, h.stips, h.sinks, h.gov, bit_of_sub (by decide) hL, h.convoy, h.loader, h.upd,
    h.hosts, h.power, h.dwellFrom, h.supplies, h.vioClass, h.startClk, h.resetCause, h.filterClk, h.frozen, h.freezeLow, h.frz,
    h.ticked, h.cells⟩⟩

theorem same_filterClk {L : Nat} {z s : State} (hL : 68719476736 &&& L = 68719476736)
    (filterClk_ : Nat) :
    Agree L z { s with filterClk := filterClk_ } ↔ Agree L z s :=
  ⟨fun h => ⟨h.pending, h.phase, h.fab, h.objs, h.mem, h.lanes, h.coll, h.ledger, h.store, h.cores, h.conv, h.cap, h.ring,
    h.activeArea, h.otherArea, h.input, h.rails, h.seq, h.pmb, h.railWins, h.live, h.margins, h.stips, h.sinks, h.gov, h.feeds,
    h.convoy, h.loader, h.upd, h.hosts, h.power, h.dwellFrom, h.supplies, h.vioClass, h.startClk, h.resetCause,
    bit_of_sub (by decide) hL, h.frozen, h.freezeLow, h.frz, h.ticked, h.cells⟩, fun h => ⟨h.pending, h.phase, h.fab, h.objs,
    h.mem, h.lanes, h.coll, h.ledger, h.store, h.cores, h.conv, h.cap, h.ring, h.activeArea, h.otherArea, h.input, h.rails,
    h.seq, h.pmb, h.railWins, h.live, h.margins, h.stips, h.sinks, h.gov, h.feeds, h.convoy, h.loader, h.upd, h.hosts, h.power,
    h.dwellFrom, h.supplies, h.vioClass, h.startClk, h.resetCause, bit_of_sub (by decide) hL, h.frozen, h.freezeLow, h.frz,
    h.ticked, h.cells⟩⟩

theorem same_freezeLow {L : Nat} {z s : State} (hL : 274877906944 &&& L = 274877906944)
    (freezeLow_ : Bool) :
    Agree L z { s with freezeLow := freezeLow_ } ↔ Agree L z s :=
  ⟨fun h => ⟨h.pending, h.phase, h.fab, h.objs, h.mem, h.lanes, h.coll, h.ledger, h.store, h.cores, h.conv, h.cap, h.ring,
    h.activeArea, h.otherArea, h.input, h.rails, h.seq, h.pmb, h.railWins, h.live, h.margins, h.stips, h.sinks, h.gov, h.feeds,
    h.convoy, h.loader, h.upd, h.hosts, h.power, h.dwellFrom, h.supplies, h.vioClass, h.startClk, h.resetCause, h.filterClk,
    h.frozen, bit_of_sub (by decide) hL, h.frz, h.ticked, h.cells⟩, fun h => ⟨h.pending, h.phase, h.fab, h.objs, h.mem, h.lanes,
    h.coll, h.ledger, h.store, h.cores, h.conv, h.cap, h.ring, h.activeArea, h.otherArea, h.input, h.rails, h.seq, h.pmb,
    h.railWins, h.live, h.margins, h.stips, h.sinks, h.gov, h.feeds, h.convoy, h.loader, h.upd, h.hosts, h.power, h.dwellFrom,
    h.supplies, h.vioClass, h.startClk, h.resetCause, h.filterClk, h.frozen, bit_of_sub (by decide) hL, h.frz, h.ticked,
    h.cells⟩⟩

theorem same_frozen {L : Nat} {z s : State} (hL : 137438953472 &&& L = 137438953472)
    (frozen_ : Option Nat) :
    Agree L z { s with frozen := frozen_ } ↔ Agree L z s :=
  ⟨fun h => ⟨h.pending, h.phase, h.fab, h.objs, h.mem, h.lanes, h.coll, h.ledger, h.store, h.cores, h.conv, h.cap, h.ring,
    h.activeArea, h.otherArea, h.input, h.rails, h.seq, h.pmb, h.railWins, h.live, h.margins, h.stips, h.sinks, h.gov, h.feeds,
    h.convoy, h.loader, h.upd, h.hosts, h.power, h.dwellFrom, h.supplies, h.vioClass, h.startClk, h.resetCause, h.filterClk,
    bit_of_sub (by decide) hL, h.freezeLow, h.frz, h.ticked, h.cells⟩, fun h => ⟨h.pending, h.phase, h.fab, h.objs, h.mem,
    h.lanes, h.coll, h.ledger, h.store, h.cores, h.conv, h.cap, h.ring, h.activeArea, h.otherArea, h.input, h.rails, h.seq,
    h.pmb, h.railWins, h.live, h.margins, h.stips, h.sinks, h.gov, h.feeds, h.convoy, h.loader, h.upd, h.hosts, h.power,
    h.dwellFrom, h.supplies, h.vioClass, h.startClk, h.resetCause, h.filterClk, bit_of_sub (by decide) hL, h.freezeLow, h.frz,
    h.ticked, h.cells⟩⟩

theorem same_gov {L : Nat} {z s : State} (hL : 16777216 &&& L = 16777216)
    (gov_ : Gov) :
    Agree L z { s with gov := gov_ } ↔ Agree L z s :=
  ⟨fun h => ⟨h.pending, h.phase, h.fab, h.objs, h.mem, h.lanes, h.coll, h.ledger, h.store, h.cores, h.conv, h.cap, h.ring,
    h.activeArea, h.otherArea, h.input, h.rails, h.seq, h.pmb, h.railWins, h.live, h.margins, h.stips, h.sinks,
    bit_of_sub (by decide) hL, h.feeds, h.convoy, h.loader, h.upd, h.hosts, h.power, h.dwellFrom, h.supplies, h.vioClass,
    h.startClk, h.resetCause, h.filterClk, h.frozen, h.freezeLow, h.frz, h.ticked, h.cells⟩, fun h => ⟨h.pending, h.phase, h.fab,
    h.objs, h.mem, h.lanes, h.coll, h.ledger, h.store, h.cores, h.conv, h.cap, h.ring, h.activeArea, h.otherArea, h.input,
    h.rails, h.seq, h.pmb, h.railWins, h.live, h.margins, h.stips, h.sinks, bit_of_sub (by decide) hL, h.feeds, h.convoy,
    h.loader, h.upd, h.hosts, h.power, h.dwellFrom, h.supplies, h.vioClass, h.startClk, h.resetCause, h.filterClk, h.frozen,
    h.freezeLow, h.frz, h.ticked, h.cells⟩⟩

theorem same_hosts {L : Nat} {z s : State} (hL : 536870912 &&& L = 536870912)
    (hosts_ : Hosts) :
    Agree L z { s with hosts := hosts_ } ↔ Agree L z s :=
  ⟨fun h => ⟨h.pending, h.phase, h.fab, h.objs, h.mem, h.lanes, h.coll, h.ledger, h.store, h.cores, h.conv, h.cap, h.ring,
    h.activeArea, h.otherArea, h.input, h.rails, h.seq, h.pmb, h.railWins, h.live, h.margins, h.stips, h.sinks, h.gov, h.feeds,
    h.convoy, h.loader, h.upd, bit_of_sub (by decide) hL, h.power, h.dwellFrom, h.supplies, h.vioClass, h.startClk, h.resetCause,
    h.filterClk, h.frozen, h.freezeLow, h.frz, h.ticked, h.cells⟩, fun h => ⟨h.pending, h.phase, h.fab, h.objs, h.mem, h.lanes,
    h.coll, h.ledger, h.store, h.cores, h.conv, h.cap, h.ring, h.activeArea, h.otherArea, h.input, h.rails, h.seq, h.pmb,
    h.railWins, h.live, h.margins, h.stips, h.sinks, h.gov, h.feeds, h.convoy, h.loader, h.upd, bit_of_sub (by decide) hL,
    h.power, h.dwellFrom, h.supplies, h.vioClass, h.startClk, h.resetCause, h.filterClk, h.frozen, h.freezeLow, h.frz, h.ticked,
    h.cells⟩⟩

theorem same_input {L : Nat} {z s : State} (hL : 32768 &&& L = 32768)
    (input_ : CardInput) :
    Agree L z { s with input := input_ } ↔ Agree L z s :=
  ⟨fun h => ⟨h.pending, h.phase, h.fab, h.objs, h.mem, h.lanes, h.coll, h.ledger, h.store, h.cores, h.conv, h.cap, h.ring,
    h.activeArea, h.otherArea, bit_of_sub (by decide) hL, h.rails, h.seq, h.pmb, h.railWins, h.live, h.margins, h.stips, h.sinks,
    h.gov, h.feeds, h.convoy, h.loader, h.upd, h.hosts, h.power, h.dwellFrom, h.supplies, h.vioClass, h.startClk, h.resetCause,
    h.filterClk, h.frozen, h.freezeLow, h.frz, h.ticked, h.cells⟩, fun h => ⟨h.pending, h.phase, h.fab, h.objs, h.mem, h.lanes,
    h.coll, h.ledger, h.store, h.cores, h.conv, h.cap, h.ring, h.activeArea, h.otherArea, bit_of_sub (by decide) hL, h.rails,
    h.seq, h.pmb, h.railWins, h.live, h.margins, h.stips, h.sinks, h.gov, h.feeds, h.convoy, h.loader, h.upd, h.hosts, h.power,
    h.dwellFrom, h.supplies, h.vioClass, h.startClk, h.resetCause, h.filterClk, h.frozen, h.freezeLow, h.frz, h.ticked,
    h.cells⟩⟩

theorem same_lanes {L : Nat} {z s : State} (hL : 32 &&& L = 32)
    (lanes_ : Lanes) :
    Agree L z { s with lanes := lanes_ } ↔ Agree L z s :=
  ⟨fun h => ⟨h.pending, h.phase, h.fab, h.objs, h.mem, bit_of_sub (by decide) hL, h.coll, h.ledger, h.store, h.cores, h.conv,
    h.cap, h.ring, h.activeArea, h.otherArea, h.input, h.rails, h.seq, h.pmb, h.railWins, h.live, h.margins, h.stips, h.sinks,
    h.gov, h.feeds, h.convoy, h.loader, h.upd, h.hosts, h.power, h.dwellFrom, h.supplies, h.vioClass, h.startClk, h.resetCause,
    h.filterClk, h.frozen, h.freezeLow, h.frz, h.ticked, h.cells⟩, fun h => ⟨h.pending, h.phase, h.fab, h.objs, h.mem,
    bit_of_sub (by decide) hL, h.coll, h.ledger, h.store, h.cores, h.conv, h.cap, h.ring, h.activeArea, h.otherArea, h.input,
    h.rails, h.seq, h.pmb, h.railWins, h.live, h.margins, h.stips, h.sinks, h.gov, h.feeds, h.convoy, h.loader, h.upd, h.hosts,
    h.power, h.dwellFrom, h.supplies, h.vioClass, h.startClk, h.resetCause, h.filterClk, h.frozen, h.freezeLow, h.frz, h.ticked,
    h.cells⟩⟩

theorem same_ledger {L : Nat} {z s : State} (hL : 128 &&& L = 128)
    (ledger_ : Ledger) :
    Agree L z { s with ledger := ledger_ } ↔ Agree L z s :=
  ⟨fun h => ⟨h.pending, h.phase, h.fab, h.objs, h.mem, h.lanes, h.coll, bit_of_sub (by decide) hL, h.store, h.cores, h.conv,
    h.cap, h.ring, h.activeArea, h.otherArea, h.input, h.rails, h.seq, h.pmb, h.railWins, h.live, h.margins, h.stips, h.sinks,
    h.gov, h.feeds, h.convoy, h.loader, h.upd, h.hosts, h.power, h.dwellFrom, h.supplies, h.vioClass, h.startClk, h.resetCause,
    h.filterClk, h.frozen, h.freezeLow, h.frz, h.ticked, h.cells⟩, fun h => ⟨h.pending, h.phase, h.fab, h.objs, h.mem, h.lanes,
    h.coll, bit_of_sub (by decide) hL, h.store, h.cores, h.conv, h.cap, h.ring, h.activeArea, h.otherArea, h.input, h.rails,
    h.seq, h.pmb, h.railWins, h.live, h.margins, h.stips, h.sinks, h.gov, h.feeds, h.convoy, h.loader, h.upd, h.hosts, h.power,
    h.dwellFrom, h.supplies, h.vioClass, h.startClk, h.resetCause, h.filterClk, h.frozen, h.freezeLow, h.frz, h.ticked,
    h.cells⟩⟩

theorem same_live {L : Nat} {z s : State} (hL : 1048576 &&& L = 1048576)
    (live_ : FMap Live) :
    Agree L z { s with live := live_ } ↔ Agree L z s :=
  ⟨fun h => ⟨h.pending, h.phase, h.fab, h.objs, h.mem, h.lanes, h.coll, h.ledger, h.store, h.cores, h.conv, h.cap, h.ring,
    h.activeArea, h.otherArea, h.input, h.rails, h.seq, h.pmb, h.railWins, bit_of_sub (by decide) hL, h.margins, h.stips,
    h.sinks, h.gov, h.feeds, h.convoy, h.loader, h.upd, h.hosts, h.power, h.dwellFrom, h.supplies, h.vioClass, h.startClk,
    h.resetCause, h.filterClk, h.frozen, h.freezeLow, h.frz, h.ticked, h.cells⟩, fun h => ⟨h.pending, h.phase, h.fab, h.objs,
    h.mem, h.lanes, h.coll, h.ledger, h.store, h.cores, h.conv, h.cap, h.ring, h.activeArea, h.otherArea, h.input, h.rails,
    h.seq, h.pmb, h.railWins, bit_of_sub (by decide) hL, h.margins, h.stips, h.sinks, h.gov, h.feeds, h.convoy, h.loader, h.upd,
    h.hosts, h.power, h.dwellFrom, h.supplies, h.vioClass, h.startClk, h.resetCause, h.filterClk, h.frozen, h.freezeLow, h.frz,
    h.ticked, h.cells⟩⟩

theorem same_loader {L : Nat} {z s : State} (hL : 134217728 &&& L = 134217728)
    (loader_ : Loader) :
    Agree L z { s with loader := loader_ } ↔ Agree L z s :=
  ⟨fun h => ⟨h.pending, h.phase, h.fab, h.objs, h.mem, h.lanes, h.coll, h.ledger, h.store, h.cores, h.conv, h.cap, h.ring,
    h.activeArea, h.otherArea, h.input, h.rails, h.seq, h.pmb, h.railWins, h.live, h.margins, h.stips, h.sinks, h.gov, h.feeds,
    h.convoy, bit_of_sub (by decide) hL, h.upd, h.hosts, h.power, h.dwellFrom, h.supplies, h.vioClass, h.startClk, h.resetCause,
    h.filterClk, h.frozen, h.freezeLow, h.frz, h.ticked, h.cells⟩, fun h => ⟨h.pending, h.phase, h.fab, h.objs, h.mem, h.lanes,
    h.coll, h.ledger, h.store, h.cores, h.conv, h.cap, h.ring, h.activeArea, h.otherArea, h.input, h.rails, h.seq, h.pmb,
    h.railWins, h.live, h.margins, h.stips, h.sinks, h.gov, h.feeds, h.convoy, bit_of_sub (by decide) hL, h.upd, h.hosts,
    h.power, h.dwellFrom, h.supplies, h.vioClass, h.startClk, h.resetCause, h.filterClk, h.frozen, h.freezeLow, h.frz, h.ticked,
    h.cells⟩⟩

theorem same_margins {L : Nat} {z s : State} (hL : 2097152 &&& L = 2097152)
    (margins_ : FMap Margin) :
    Agree L z { s with margins := margins_ } ↔ Agree L z s :=
  ⟨fun h => ⟨h.pending, h.phase, h.fab, h.objs, h.mem, h.lanes, h.coll, h.ledger, h.store, h.cores, h.conv, h.cap, h.ring,
    h.activeArea, h.otherArea, h.input, h.rails, h.seq, h.pmb, h.railWins, h.live, bit_of_sub (by decide) hL, h.stips, h.sinks,
    h.gov, h.feeds, h.convoy, h.loader, h.upd, h.hosts, h.power, h.dwellFrom, h.supplies, h.vioClass, h.startClk, h.resetCause,
    h.filterClk, h.frozen, h.freezeLow, h.frz, h.ticked, h.cells⟩, fun h => ⟨h.pending, h.phase, h.fab, h.objs, h.mem, h.lanes,
    h.coll, h.ledger, h.store, h.cores, h.conv, h.cap, h.ring, h.activeArea, h.otherArea, h.input, h.rails, h.seq, h.pmb,
    h.railWins, h.live, bit_of_sub (by decide) hL, h.stips, h.sinks, h.gov, h.feeds, h.convoy, h.loader, h.upd, h.hosts, h.power,
    h.dwellFrom, h.supplies, h.vioClass, h.startClk, h.resetCause, h.filterClk, h.frozen, h.freezeLow, h.frz, h.ticked,
    h.cells⟩⟩

theorem same_objs {L : Nat} {z s : State} (hL : 8 &&& L = 8)
    (objs_ : FMap Nat) :
    Agree L z { s with objs := objs_ } ↔ Agree L z s :=
  ⟨fun h => ⟨h.pending, h.phase, h.fab, bit_of_sub (by decide) hL, h.mem, h.lanes, h.coll, h.ledger, h.store, h.cores, h.conv,
    h.cap, h.ring, h.activeArea, h.otherArea, h.input, h.rails, h.seq, h.pmb, h.railWins, h.live, h.margins, h.stips, h.sinks,
    h.gov, h.feeds, h.convoy, h.loader, h.upd, h.hosts, h.power, h.dwellFrom, h.supplies, h.vioClass, h.startClk, h.resetCause,
    h.filterClk, h.frozen, h.freezeLow, h.frz, h.ticked, h.cells⟩, fun h => ⟨h.pending, h.phase, h.fab,
    bit_of_sub (by decide) hL, h.mem, h.lanes, h.coll, h.ledger, h.store, h.cores, h.conv, h.cap, h.ring, h.activeArea,
    h.otherArea, h.input, h.rails, h.seq, h.pmb, h.railWins, h.live, h.margins, h.stips, h.sinks, h.gov, h.feeds, h.convoy,
    h.loader, h.upd, h.hosts, h.power, h.dwellFrom, h.supplies, h.vioClass, h.startClk, h.resetCause, h.filterClk, h.frozen,
    h.freezeLow, h.frz, h.ticked, h.cells⟩⟩

theorem same_otherArea {L : Nat} {z s : State} (hL : 16384 &&& L = 16384)
    (otherArea_ : FMap Nat) :
    Agree L z { s with otherArea := otherArea_ } ↔ Agree L z s :=
  ⟨fun h => ⟨h.pending, h.phase, h.fab, h.objs, h.mem, h.lanes, h.coll, h.ledger, h.store, h.cores, h.conv, h.cap, h.ring,
    h.activeArea, bit_of_sub (by decide) hL, h.input, h.rails, h.seq, h.pmb, h.railWins, h.live, h.margins, h.stips, h.sinks,
    h.gov, h.feeds, h.convoy, h.loader, h.upd, h.hosts, h.power, h.dwellFrom, h.supplies, h.vioClass, h.startClk, h.resetCause,
    h.filterClk, h.frozen, h.freezeLow, h.frz, h.ticked, h.cells⟩, fun h => ⟨h.pending, h.phase, h.fab, h.objs, h.mem, h.lanes,
    h.coll, h.ledger, h.store, h.cores, h.conv, h.cap, h.ring, h.activeArea, bit_of_sub (by decide) hL, h.input, h.rails, h.seq,
    h.pmb, h.railWins, h.live, h.margins, h.stips, h.sinks, h.gov, h.feeds, h.convoy, h.loader, h.upd, h.hosts, h.power,
    h.dwellFrom, h.supplies, h.vioClass, h.startClk, h.resetCause, h.filterClk, h.frozen, h.freezeLow, h.frz, h.ticked,
    h.cells⟩⟩

theorem same_pending {L : Nat} {z s : State} (hL : 1 &&& L = 1)
    (pending_ : List Instr) :
    Agree L z { s with pending := pending_ } ↔ Agree L z s :=
  ⟨fun h => ⟨bit_of_sub (by decide) hL, h.phase, h.fab, h.objs, h.mem, h.lanes, h.coll, h.ledger, h.store, h.cores, h.conv,
    h.cap, h.ring, h.activeArea, h.otherArea, h.input, h.rails, h.seq, h.pmb, h.railWins, h.live, h.margins, h.stips, h.sinks,
    h.gov, h.feeds, h.convoy, h.loader, h.upd, h.hosts, h.power, h.dwellFrom, h.supplies, h.vioClass, h.startClk, h.resetCause,
    h.filterClk, h.frozen, h.freezeLow, h.frz, h.ticked, h.cells⟩, fun h => ⟨bit_of_sub (by decide) hL, h.phase, h.fab, h.objs,
    h.mem, h.lanes, h.coll, h.ledger, h.store, h.cores, h.conv, h.cap, h.ring, h.activeArea, h.otherArea, h.input, h.rails,
    h.seq, h.pmb, h.railWins, h.live, h.margins, h.stips, h.sinks, h.gov, h.feeds, h.convoy, h.loader, h.upd, h.hosts, h.power,
    h.dwellFrom, h.supplies, h.vioClass, h.startClk, h.resetCause, h.filterClk, h.frozen, h.freezeLow, h.frz, h.ticked,
    h.cells⟩⟩

theorem same_phase {L : Nat} {z s : State} (hL : 2 &&& L = 2)
    (phase_ : StartPhase) :
    Agree L z { s with phase := phase_ } ↔ Agree L z s :=
  ⟨fun h => ⟨h.pending, bit_of_sub (by decide) hL, h.fab, h.objs, h.mem, h.lanes, h.coll, h.ledger, h.store, h.cores, h.conv,
    h.cap, h.ring, h.activeArea, h.otherArea, h.input, h.rails, h.seq, h.pmb, h.railWins, h.live, h.margins, h.stips, h.sinks,
    h.gov, h.feeds, h.convoy, h.loader, h.upd, h.hosts, h.power, h.dwellFrom, h.supplies, h.vioClass, h.startClk, h.resetCause,
    h.filterClk, h.frozen, h.freezeLow, h.frz, h.ticked, h.cells⟩, fun h => ⟨h.pending, bit_of_sub (by decide) hL, h.fab, h.objs,
    h.mem, h.lanes, h.coll, h.ledger, h.store, h.cores, h.conv, h.cap, h.ring, h.activeArea, h.otherArea, h.input, h.rails,
    h.seq, h.pmb, h.railWins, h.live, h.margins, h.stips, h.sinks, h.gov, h.feeds, h.convoy, h.loader, h.upd, h.hosts, h.power,
    h.dwellFrom, h.supplies, h.vioClass, h.startClk, h.resetCause, h.filterClk, h.frozen, h.freezeLow, h.frz, h.ticked,
    h.cells⟩⟩

theorem same_pmb {L : Nat} {z s : State} (hL : 262144 &&& L = 262144)
    (pmb_ : Pmb) :
    Agree L z { s with pmb := pmb_ } ↔ Agree L z s :=
  ⟨fun h => ⟨h.pending, h.phase, h.fab, h.objs, h.mem, h.lanes, h.coll, h.ledger, h.store, h.cores, h.conv, h.cap, h.ring,
    h.activeArea, h.otherArea, h.input, h.rails, h.seq, bit_of_sub (by decide) hL, h.railWins, h.live, h.margins, h.stips,
    h.sinks, h.gov, h.feeds, h.convoy, h.loader, h.upd, h.hosts, h.power, h.dwellFrom, h.supplies, h.vioClass, h.startClk,
    h.resetCause, h.filterClk, h.frozen, h.freezeLow, h.frz, h.ticked, h.cells⟩, fun h => ⟨h.pending, h.phase, h.fab, h.objs,
    h.mem, h.lanes, h.coll, h.ledger, h.store, h.cores, h.conv, h.cap, h.ring, h.activeArea, h.otherArea, h.input, h.rails,
    h.seq, bit_of_sub (by decide) hL, h.railWins, h.live, h.margins, h.stips, h.sinks, h.gov, h.feeds, h.convoy, h.loader, h.upd,
    h.hosts, h.power, h.dwellFrom, h.supplies, h.vioClass, h.startClk, h.resetCause, h.filterClk, h.frozen, h.freezeLow, h.frz,
    h.ticked, h.cells⟩⟩

theorem same_power {L : Nat} {z s : State} (hL : 1073741824 &&& L = 1073741824)
    (power_ : PowerState) :
    Agree L z { s with power := power_ } ↔ Agree L z s :=
  ⟨fun h => ⟨h.pending, h.phase, h.fab, h.objs, h.mem, h.lanes, h.coll, h.ledger, h.store, h.cores, h.conv, h.cap, h.ring,
    h.activeArea, h.otherArea, h.input, h.rails, h.seq, h.pmb, h.railWins, h.live, h.margins, h.stips, h.sinks, h.gov, h.feeds,
    h.convoy, h.loader, h.upd, h.hosts, bit_of_sub (by decide) hL, h.dwellFrom, h.supplies, h.vioClass, h.startClk, h.resetCause,
    h.filterClk, h.frozen, h.freezeLow, h.frz, h.ticked, h.cells⟩, fun h => ⟨h.pending, h.phase, h.fab, h.objs, h.mem, h.lanes,
    h.coll, h.ledger, h.store, h.cores, h.conv, h.cap, h.ring, h.activeArea, h.otherArea, h.input, h.rails, h.seq, h.pmb,
    h.railWins, h.live, h.margins, h.stips, h.sinks, h.gov, h.feeds, h.convoy, h.loader, h.upd, h.hosts,
    bit_of_sub (by decide) hL, h.dwellFrom, h.supplies, h.vioClass, h.startClk, h.resetCause, h.filterClk, h.frozen, h.freezeLow,
    h.frz, h.ticked, h.cells⟩⟩

theorem same_railWins {L : Nat} {z s : State} (hL : 524288 &&& L = 524288)
    (railWins_ : List RailWindow) :
    Agree L z { s with railWins := railWins_ } ↔ Agree L z s :=
  ⟨fun h => ⟨h.pending, h.phase, h.fab, h.objs, h.mem, h.lanes, h.coll, h.ledger, h.store, h.cores, h.conv, h.cap, h.ring,
    h.activeArea, h.otherArea, h.input, h.rails, h.seq, h.pmb, bit_of_sub (by decide) hL, h.live, h.margins, h.stips, h.sinks,
    h.gov, h.feeds, h.convoy, h.loader, h.upd, h.hosts, h.power, h.dwellFrom, h.supplies, h.vioClass, h.startClk, h.resetCause,
    h.filterClk, h.frozen, h.freezeLow, h.frz, h.ticked, h.cells⟩, fun h => ⟨h.pending, h.phase, h.fab, h.objs, h.mem, h.lanes,
    h.coll, h.ledger, h.store, h.cores, h.conv, h.cap, h.ring, h.activeArea, h.otherArea, h.input, h.rails, h.seq, h.pmb,
    bit_of_sub (by decide) hL, h.live, h.margins, h.stips, h.sinks, h.gov, h.feeds, h.convoy, h.loader, h.upd, h.hosts, h.power,
    h.dwellFrom, h.supplies, h.vioClass, h.startClk, h.resetCause, h.filterClk, h.frozen, h.freezeLow, h.frz, h.ticked,
    h.cells⟩⟩

theorem same_rails {L : Nat} {z s : State} (hL : 65536 &&& L = 65536)
    (rails_ : FMap Rail) :
    Agree L z { s with rails := rails_ } ↔ Agree L z s :=
  ⟨fun h => ⟨h.pending, h.phase, h.fab, h.objs, h.mem, h.lanes, h.coll, h.ledger, h.store, h.cores, h.conv, h.cap, h.ring,
    h.activeArea, h.otherArea, h.input, bit_of_sub (by decide) hL, h.seq, h.pmb, h.railWins, h.live, h.margins, h.stips, h.sinks,
    h.gov, h.feeds, h.convoy, h.loader, h.upd, h.hosts, h.power, h.dwellFrom, h.supplies, h.vioClass, h.startClk, h.resetCause,
    h.filterClk, h.frozen, h.freezeLow, h.frz, h.ticked, h.cells⟩, fun h => ⟨h.pending, h.phase, h.fab, h.objs, h.mem, h.lanes,
    h.coll, h.ledger, h.store, h.cores, h.conv, h.cap, h.ring, h.activeArea, h.otherArea, h.input, bit_of_sub (by decide) hL,
    h.seq, h.pmb, h.railWins, h.live, h.margins, h.stips, h.sinks, h.gov, h.feeds, h.convoy, h.loader, h.upd, h.hosts, h.power,
    h.dwellFrom, h.supplies, h.vioClass, h.startClk, h.resetCause, h.filterClk, h.frozen, h.freezeLow, h.frz, h.ticked,
    h.cells⟩⟩

theorem same_ring {L : Nat} {z s : State} (hL : 4096 &&& L = 4096)
    (ring_ : Ring) :
    Agree L z { s with ring := ring_ } ↔ Agree L z s :=
  ⟨fun h => ⟨h.pending, h.phase, h.fab, h.objs, h.mem, h.lanes, h.coll, h.ledger, h.store, h.cores, h.conv, h.cap,
    bit_of_sub (by decide) hL, h.activeArea, h.otherArea, h.input, h.rails, h.seq, h.pmb, h.railWins, h.live, h.margins, h.stips,
    h.sinks, h.gov, h.feeds, h.convoy, h.loader, h.upd, h.hosts, h.power, h.dwellFrom, h.supplies, h.vioClass, h.startClk,
    h.resetCause, h.filterClk, h.frozen, h.freezeLow, h.frz, h.ticked, h.cells⟩, fun h => ⟨h.pending, h.phase, h.fab, h.objs,
    h.mem, h.lanes, h.coll, h.ledger, h.store, h.cores, h.conv, h.cap, bit_of_sub (by decide) hL, h.activeArea, h.otherArea,
    h.input, h.rails, h.seq, h.pmb, h.railWins, h.live, h.margins, h.stips, h.sinks, h.gov, h.feeds, h.convoy, h.loader, h.upd,
    h.hosts, h.power, h.dwellFrom, h.supplies, h.vioClass, h.startClk, h.resetCause, h.filterClk, h.frozen, h.freezeLow, h.frz,
    h.ticked, h.cells⟩⟩

theorem same_seq {L : Nat} {z s : State} (hL : 131072 &&& L = 131072)
    (seq_ : Seq) :
    Agree L z { s with seq := seq_ } ↔ Agree L z s :=
  ⟨fun h => ⟨h.pending, h.phase, h.fab, h.objs, h.mem, h.lanes, h.coll, h.ledger, h.store, h.cores, h.conv, h.cap, h.ring,
    h.activeArea, h.otherArea, h.input, h.rails, bit_of_sub (by decide) hL, h.pmb, h.railWins, h.live, h.margins, h.stips,
    h.sinks, h.gov, h.feeds, h.convoy, h.loader, h.upd, h.hosts, h.power, h.dwellFrom, h.supplies, h.vioClass, h.startClk,
    h.resetCause, h.filterClk, h.frozen, h.freezeLow, h.frz, h.ticked, h.cells⟩, fun h => ⟨h.pending, h.phase, h.fab, h.objs,
    h.mem, h.lanes, h.coll, h.ledger, h.store, h.cores, h.conv, h.cap, h.ring, h.activeArea, h.otherArea, h.input, h.rails,
    bit_of_sub (by decide) hL, h.pmb, h.railWins, h.live, h.margins, h.stips, h.sinks, h.gov, h.feeds, h.convoy, h.loader, h.upd,
    h.hosts, h.power, h.dwellFrom, h.supplies, h.vioClass, h.startClk, h.resetCause, h.filterClk, h.frozen, h.freezeLow, h.frz,
    h.ticked, h.cells⟩⟩

theorem same_sinks {L : Nat} {z s : State} (hL : 8388608 &&& L = 8388608)
    (sinks_ : FMap Sink) :
    Agree L z { s with sinks := sinks_ } ↔ Agree L z s :=
  ⟨fun h => ⟨h.pending, h.phase, h.fab, h.objs, h.mem, h.lanes, h.coll, h.ledger, h.store, h.cores, h.conv, h.cap, h.ring,
    h.activeArea, h.otherArea, h.input, h.rails, h.seq, h.pmb, h.railWins, h.live, h.margins, h.stips, bit_of_sub (by decide) hL,
    h.gov, h.feeds, h.convoy, h.loader, h.upd, h.hosts, h.power, h.dwellFrom, h.supplies, h.vioClass, h.startClk, h.resetCause,
    h.filterClk, h.frozen, h.freezeLow, h.frz, h.ticked, h.cells⟩, fun h => ⟨h.pending, h.phase, h.fab, h.objs, h.mem, h.lanes,
    h.coll, h.ledger, h.store, h.cores, h.conv, h.cap, h.ring, h.activeArea, h.otherArea, h.input, h.rails, h.seq, h.pmb,
    h.railWins, h.live, h.margins, h.stips, bit_of_sub (by decide) hL, h.gov, h.feeds, h.convoy, h.loader, h.upd, h.hosts,
    h.power, h.dwellFrom, h.supplies, h.vioClass, h.startClk, h.resetCause, h.filterClk, h.frozen, h.freezeLow, h.frz, h.ticked,
    h.cells⟩⟩

theorem same_stips {L : Nat} {z s : State} (hL : 4194304 &&& L = 4194304)
    (stips_ : FMap Stip) :
    Agree L z { s with stips := stips_ } ↔ Agree L z s :=
  ⟨fun h => ⟨h.pending, h.phase, h.fab, h.objs, h.mem, h.lanes, h.coll, h.ledger, h.store, h.cores, h.conv, h.cap, h.ring,
    h.activeArea, h.otherArea, h.input, h.rails, h.seq, h.pmb, h.railWins, h.live, h.margins, bit_of_sub (by decide) hL, h.sinks,
    h.gov, h.feeds, h.convoy, h.loader, h.upd, h.hosts, h.power, h.dwellFrom, h.supplies, h.vioClass, h.startClk, h.resetCause,
    h.filterClk, h.frozen, h.freezeLow, h.frz, h.ticked, h.cells⟩, fun h => ⟨h.pending, h.phase, h.fab, h.objs, h.mem, h.lanes,
    h.coll, h.ledger, h.store, h.cores, h.conv, h.cap, h.ring, h.activeArea, h.otherArea, h.input, h.rails, h.seq, h.pmb,
    h.railWins, h.live, h.margins, bit_of_sub (by decide) hL, h.sinks, h.gov, h.feeds, h.convoy, h.loader, h.upd, h.hosts,
    h.power, h.dwellFrom, h.supplies, h.vioClass, h.startClk, h.resetCause, h.filterClk, h.frozen, h.freezeLow, h.frz, h.ticked,
    h.cells⟩⟩

theorem same_store {L : Nat} {z s : State} (hL : 256 &&& L = 256)
    (store_ : Store) :
    Agree L z { s with store := store_ } ↔ Agree L z s :=
  ⟨fun h => ⟨h.pending, h.phase, h.fab, h.objs, h.mem, h.lanes, h.coll, h.ledger, bit_of_sub (by decide) hL, h.cores, h.conv,
    h.cap, h.ring, h.activeArea, h.otherArea, h.input, h.rails, h.seq, h.pmb, h.railWins, h.live, h.margins, h.stips, h.sinks,
    h.gov, h.feeds, h.convoy, h.loader, h.upd, h.hosts, h.power, h.dwellFrom, h.supplies, h.vioClass, h.startClk, h.resetCause,
    h.filterClk, h.frozen, h.freezeLow, h.frz, h.ticked, h.cells⟩, fun h => ⟨h.pending, h.phase, h.fab, h.objs, h.mem, h.lanes,
    h.coll, h.ledger, bit_of_sub (by decide) hL, h.cores, h.conv, h.cap, h.ring, h.activeArea, h.otherArea, h.input, h.rails,
    h.seq, h.pmb, h.railWins, h.live, h.margins, h.stips, h.sinks, h.gov, h.feeds, h.convoy, h.loader, h.upd, h.hosts, h.power,
    h.dwellFrom, h.supplies, h.vioClass, h.startClk, h.resetCause, h.filterClk, h.frozen, h.freezeLow, h.frz, h.ticked,
    h.cells⟩⟩

theorem same_supplies {L : Nat} {z s : State} (hL : 4294967296 &&& L = 4294967296)
    (supplies_ : Bool) :
    Agree L z { s with supplies := supplies_ } ↔ Agree L z s :=
  ⟨fun h => ⟨h.pending, h.phase, h.fab, h.objs, h.mem, h.lanes, h.coll, h.ledger, h.store, h.cores, h.conv, h.cap, h.ring,
    h.activeArea, h.otherArea, h.input, h.rails, h.seq, h.pmb, h.railWins, h.live, h.margins, h.stips, h.sinks, h.gov, h.feeds,
    h.convoy, h.loader, h.upd, h.hosts, h.power, h.dwellFrom, bit_of_sub (by decide) hL, h.vioClass, h.startClk, h.resetCause,
    h.filterClk, h.frozen, h.freezeLow, h.frz, h.ticked, h.cells⟩, fun h => ⟨h.pending, h.phase, h.fab, h.objs, h.mem, h.lanes,
    h.coll, h.ledger, h.store, h.cores, h.conv, h.cap, h.ring, h.activeArea, h.otherArea, h.input, h.rails, h.seq, h.pmb,
    h.railWins, h.live, h.margins, h.stips, h.sinks, h.gov, h.feeds, h.convoy, h.loader, h.upd, h.hosts, h.power, h.dwellFrom,
    bit_of_sub (by decide) hL, h.vioClass, h.startClk, h.resetCause, h.filterClk, h.frozen, h.freezeLow, h.frz, h.ticked,
    h.cells⟩⟩

theorem same_ticked {L : Nat} {z s : State} (hL : 1099511627776 &&& L = 1099511627776)
    (ticked_ : Bool) :
    Agree L z { s with ticked := ticked_ } ↔ Agree L z s :=
  ⟨fun h => ⟨h.pending, h.phase, h.fab, h.objs, h.mem, h.lanes, h.coll, h.ledger, h.store, h.cores, h.conv, h.cap, h.ring,
    h.activeArea, h.otherArea, h.input, h.rails, h.seq, h.pmb, h.railWins, h.live, h.margins, h.stips, h.sinks, h.gov, h.feeds,
    h.convoy, h.loader, h.upd, h.hosts, h.power, h.dwellFrom, h.supplies, h.vioClass, h.startClk, h.resetCause, h.filterClk,
    h.frozen, h.freezeLow, h.frz, bit_of_sub (by decide) hL, h.cells⟩, fun h => ⟨h.pending, h.phase, h.fab, h.objs, h.mem,
    h.lanes, h.coll, h.ledger, h.store, h.cores, h.conv, h.cap, h.ring, h.activeArea, h.otherArea, h.input, h.rails, h.seq,
    h.pmb, h.railWins, h.live, h.margins, h.stips, h.sinks, h.gov, h.feeds, h.convoy, h.loader, h.upd, h.hosts, h.power,
    h.dwellFrom, h.supplies, h.vioClass, h.startClk, h.resetCause, h.filterClk, h.frozen, h.freezeLow, h.frz,
    bit_of_sub (by decide) hL, h.cells⟩⟩

theorem same_upd {L : Nat} {z s : State} (hL : 268435456 &&& L = 268435456)
    (upd_ : Upd) :
    Agree L z { s with upd := upd_ } ↔ Agree L z s :=
  ⟨fun h => ⟨h.pending, h.phase, h.fab, h.objs, h.mem, h.lanes, h.coll, h.ledger, h.store, h.cores, h.conv, h.cap, h.ring,
    h.activeArea, h.otherArea, h.input, h.rails, h.seq, h.pmb, h.railWins, h.live, h.margins, h.stips, h.sinks, h.gov, h.feeds,
    h.convoy, h.loader, bit_of_sub (by decide) hL, h.hosts, h.power, h.dwellFrom, h.supplies, h.vioClass, h.startClk,
    h.resetCause, h.filterClk, h.frozen, h.freezeLow, h.frz, h.ticked, h.cells⟩, fun h => ⟨h.pending, h.phase, h.fab, h.objs,
    h.mem, h.lanes, h.coll, h.ledger, h.store, h.cores, h.conv, h.cap, h.ring, h.activeArea, h.otherArea, h.input, h.rails,
    h.seq, h.pmb, h.railWins, h.live, h.margins, h.stips, h.sinks, h.gov, h.feeds, h.convoy, h.loader, bit_of_sub (by decide) hL,
    h.hosts, h.power, h.dwellFrom, h.supplies, h.vioClass, h.startClk, h.resetCause, h.filterClk, h.frozen, h.freezeLow, h.frz,
    h.ticked, h.cells⟩⟩

theorem same_activeArea_upd {L : Nat} {z s : State} (hL : 268443648 &&& L = 268443648)
    (activeArea_ : Nat) (upd_ : Upd) :
    Agree L z { s with activeArea := activeArea_, upd := upd_ } ↔ Agree L z s :=
  ⟨fun h => ⟨h.pending, h.phase, h.fab, h.objs, h.mem, h.lanes, h.coll, h.ledger, h.store, h.cores, h.conv, h.cap, h.ring,
    bit_of_sub (by decide) hL, h.otherArea, h.input, h.rails, h.seq, h.pmb, h.railWins, h.live, h.margins, h.stips, h.sinks,
    h.gov, h.feeds, h.convoy, h.loader, bit_of_sub (by decide) hL, h.hosts, h.power, h.dwellFrom, h.supplies, h.vioClass,
    h.startClk, h.resetCause, h.filterClk, h.frozen, h.freezeLow, h.frz, h.ticked, h.cells⟩, fun h => ⟨h.pending, h.phase, h.fab,
    h.objs, h.mem, h.lanes, h.coll, h.ledger, h.store, h.cores, h.conv, h.cap, h.ring, bit_of_sub (by decide) hL, h.otherArea,
    h.input, h.rails, h.seq, h.pmb, h.railWins, h.live, h.margins, h.stips, h.sinks, h.gov, h.feeds, h.convoy, h.loader,
    bit_of_sub (by decide) hL, h.hosts, h.power, h.dwellFrom, h.supplies, h.vioClass, h.startClk, h.resetCause, h.filterClk,
    h.frozen, h.freezeLow, h.frz, h.ticked, h.cells⟩⟩

theorem same_conv_cap {L : Nat} {z s : State} (hL : 3072 &&& L = 3072)
    (conv_ : Conv) (cap_ : Capture) :
    Agree L z { s with conv := conv_, cap := cap_ } ↔ Agree L z s :=
  ⟨fun h => ⟨h.pending, h.phase, h.fab, h.objs, h.mem, h.lanes, h.coll, h.ledger, h.store, h.cores, bit_of_sub (by decide) hL,
    bit_of_sub (by decide) hL, h.ring, h.activeArea, h.otherArea, h.input, h.rails, h.seq, h.pmb, h.railWins, h.live, h.margins,
    h.stips, h.sinks, h.gov, h.feeds, h.convoy, h.loader, h.upd, h.hosts, h.power, h.dwellFrom, h.supplies, h.vioClass,
    h.startClk, h.resetCause, h.filterClk, h.frozen, h.freezeLow, h.frz, h.ticked, h.cells⟩, fun h => ⟨h.pending, h.phase, h.fab,
    h.objs, h.mem, h.lanes, h.coll, h.ledger, h.store, h.cores, bit_of_sub (by decide) hL, bit_of_sub (by decide) hL, h.ring,
    h.activeArea, h.otherArea, h.input, h.rails, h.seq, h.pmb, h.railWins, h.live, h.margins, h.stips, h.sinks, h.gov, h.feeds,
    h.convoy, h.loader, h.upd, h.hosts, h.power, h.dwellFrom, h.supplies, h.vioClass, h.startClk, h.resetCause, h.filterClk,
    h.frozen, h.freezeLow, h.frz, h.ticked, h.cells⟩⟩

theorem same_convoy_frz {L : Nat} {z s : State} (hL : 549822922752 &&& L = 549822922752)
    (convoy_ : Convoy) (frz_ : Freeze) :
    Agree L z { s with convoy := convoy_, frz := frz_ } ↔ Agree L z s :=
  ⟨fun h => ⟨h.pending, h.phase, h.fab, h.objs, h.mem, h.lanes, h.coll, h.ledger, h.store, h.cores, h.conv, h.cap, h.ring,
    h.activeArea, h.otherArea, h.input, h.rails, h.seq, h.pmb, h.railWins, h.live, h.margins, h.stips, h.sinks, h.gov, h.feeds,
    bit_of_sub (by decide) hL, h.loader, h.upd, h.hosts, h.power, h.dwellFrom, h.supplies, h.vioClass, h.startClk, h.resetCause,
    h.filterClk, h.frozen, h.freezeLow, bit_of_sub (by decide) hL, h.ticked, h.cells⟩, fun h => ⟨h.pending, h.phase, h.fab,
    h.objs, h.mem, h.lanes, h.coll, h.ledger, h.store, h.cores, h.conv, h.cap, h.ring, h.activeArea, h.otherArea, h.input,
    h.rails, h.seq, h.pmb, h.railWins, h.live, h.margins, h.stips, h.sinks, h.gov, h.feeds, bit_of_sub (by decide) hL, h.loader,
    h.upd, h.hosts, h.power, h.dwellFrom, h.supplies, h.vioClass, h.startClk, h.resetCause, h.filterClk, h.frozen, h.freezeLow,
    bit_of_sub (by decide) hL, h.ticked, h.cells⟩⟩

theorem same_cores_input {L : Nat} {z s : State} (hL : 33280 &&& L = 33280)
    (cores_ : Cores) (input_ : CardInput) :
    Agree L z { s with cores := cores_, input := input_ } ↔ Agree L z s :=
  ⟨fun h => ⟨h.pending, h.phase, h.fab, h.objs, h.mem, h.lanes, h.coll, h.ledger, h.store, bit_of_sub (by decide) hL, h.conv,
    h.cap, h.ring, h.activeArea, h.otherArea, bit_of_sub (by decide) hL, h.rails, h.seq, h.pmb, h.railWins, h.live, h.margins,
    h.stips, h.sinks, h.gov, h.feeds, h.convoy, h.loader, h.upd, h.hosts, h.power, h.dwellFrom, h.supplies, h.vioClass,
    h.startClk, h.resetCause, h.filterClk, h.frozen, h.freezeLow, h.frz, h.ticked, h.cells⟩, fun h => ⟨h.pending, h.phase, h.fab,
    h.objs, h.mem, h.lanes, h.coll, h.ledger, h.store, bit_of_sub (by decide) hL, h.conv, h.cap, h.ring, h.activeArea,
    h.otherArea, bit_of_sub (by decide) hL, h.rails, h.seq, h.pmb, h.railWins, h.live, h.margins, h.stips, h.sinks, h.gov,
    h.feeds, h.convoy, h.loader, h.upd, h.hosts, h.power, h.dwellFrom, h.supplies, h.vioClass, h.startClk, h.resetCause,
    h.filterClk, h.frozen, h.freezeLow, h.frz, h.ticked, h.cells⟩⟩

theorem same_input_seq {L : Nat} {z s : State} (hL : 163840 &&& L = 163840)
    (input_ : CardInput) (seq_ : Seq) :
    Agree L z { s with input := input_, seq := seq_ } ↔ Agree L z s :=
  ⟨fun h => ⟨h.pending, h.phase, h.fab, h.objs, h.mem, h.lanes, h.coll, h.ledger, h.store, h.cores, h.conv, h.cap, h.ring,
    h.activeArea, h.otherArea, bit_of_sub (by decide) hL, h.rails, bit_of_sub (by decide) hL, h.pmb, h.railWins, h.live,
    h.margins, h.stips, h.sinks, h.gov, h.feeds, h.convoy, h.loader, h.upd, h.hosts, h.power, h.dwellFrom, h.supplies,
    h.vioClass, h.startClk, h.resetCause, h.filterClk, h.frozen, h.freezeLow, h.frz, h.ticked, h.cells⟩, fun h => ⟨h.pending,
    h.phase, h.fab, h.objs, h.mem, h.lanes, h.coll, h.ledger, h.store, h.cores, h.conv, h.cap, h.ring, h.activeArea, h.otherArea,
    bit_of_sub (by decide) hL, h.rails, bit_of_sub (by decide) hL, h.pmb, h.railWins, h.live, h.margins, h.stips, h.sinks, h.gov,
    h.feeds, h.convoy, h.loader, h.upd, h.hosts, h.power, h.dwellFrom, h.supplies, h.vioClass, h.startClk, h.resetCause,
    h.filterClk, h.frozen, h.freezeLow, h.frz, h.ticked, h.cells⟩⟩

theorem same_ledger_cores {L : Nat} {z s : State} (hL : 640 &&& L = 640)
    (ledger_ : Ledger) (cores_ : Cores) :
    Agree L z { s with ledger := ledger_, cores := cores_ } ↔ Agree L z s :=
  ⟨fun h => ⟨h.pending, h.phase, h.fab, h.objs, h.mem, h.lanes, h.coll, bit_of_sub (by decide) hL, h.store,
    bit_of_sub (by decide) hL, h.conv, h.cap, h.ring, h.activeArea, h.otherArea, h.input, h.rails, h.seq, h.pmb, h.railWins,
    h.live, h.margins, h.stips, h.sinks, h.gov, h.feeds, h.convoy, h.loader, h.upd, h.hosts, h.power, h.dwellFrom, h.supplies,
    h.vioClass, h.startClk, h.resetCause, h.filterClk, h.frozen, h.freezeLow, h.frz, h.ticked, h.cells⟩, fun h => ⟨h.pending,
    h.phase, h.fab, h.objs, h.mem, h.lanes, h.coll, bit_of_sub (by decide) hL, h.store, bit_of_sub (by decide) hL, h.conv, h.cap,
    h.ring, h.activeArea, h.otherArea, h.input, h.rails, h.seq, h.pmb, h.railWins, h.live, h.margins, h.stips, h.sinks, h.gov,
    h.feeds, h.convoy, h.loader, h.upd, h.hosts, h.power, h.dwellFrom, h.supplies, h.vioClass, h.startClk, h.resetCause,
    h.filterClk, h.frozen, h.freezeLow, h.frz, h.ticked, h.cells⟩⟩

theorem same_ledger_ring {L : Nat} {z s : State} (hL : 4224 &&& L = 4224)
    (ledger_ : Ledger) (ring_ : Ring) :
    Agree L z { s with ledger := ledger_, ring := ring_ } ↔ Agree L z s :=
  ⟨fun h => ⟨h.pending, h.phase, h.fab, h.objs, h.mem, h.lanes, h.coll, bit_of_sub (by decide) hL, h.store, h.cores, h.conv,
    h.cap, bit_of_sub (by decide) hL, h.activeArea, h.otherArea, h.input, h.rails, h.seq, h.pmb, h.railWins, h.live, h.margins,
    h.stips, h.sinks, h.gov, h.feeds, h.convoy, h.loader, h.upd, h.hosts, h.power, h.dwellFrom, h.supplies, h.vioClass,
    h.startClk, h.resetCause, h.filterClk, h.frozen, h.freezeLow, h.frz, h.ticked, h.cells⟩, fun h => ⟨h.pending, h.phase, h.fab,
    h.objs, h.mem, h.lanes, h.coll, bit_of_sub (by decide) hL, h.store, h.cores, h.conv, h.cap, bit_of_sub (by decide) hL,
    h.activeArea, h.otherArea, h.input, h.rails, h.seq, h.pmb, h.railWins, h.live, h.margins, h.stips, h.sinks, h.gov, h.feeds,
    h.convoy, h.loader, h.upd, h.hosts, h.power, h.dwellFrom, h.supplies, h.vioClass, h.startClk, h.resetCause, h.filterClk,
    h.frozen, h.freezeLow, h.frz, h.ticked, h.cells⟩⟩

theorem same_loader_upd {L : Nat} {z s : State} (hL : 402653184 &&& L = 402653184)
    (loader_ : Loader) (upd_ : Upd) :
    Agree L z { s with loader := loader_, upd := upd_ } ↔ Agree L z s :=
  ⟨fun h => ⟨h.pending, h.phase, h.fab, h.objs, h.mem, h.lanes, h.coll, h.ledger, h.store, h.cores, h.conv, h.cap, h.ring,
    h.activeArea, h.otherArea, h.input, h.rails, h.seq, h.pmb, h.railWins, h.live, h.margins, h.stips, h.sinks, h.gov, h.feeds,
    h.convoy, bit_of_sub (by decide) hL, bit_of_sub (by decide) hL, h.hosts, h.power, h.dwellFrom, h.supplies, h.vioClass,
    h.startClk, h.resetCause, h.filterClk, h.frozen, h.freezeLow, h.frz, h.ticked, h.cells⟩, fun h => ⟨h.pending, h.phase, h.fab,
    h.objs, h.mem, h.lanes, h.coll, h.ledger, h.store, h.cores, h.conv, h.cap, h.ring, h.activeArea, h.otherArea, h.input,
    h.rails, h.seq, h.pmb, h.railWins, h.live, h.margins, h.stips, h.sinks, h.gov, h.feeds, h.convoy, bit_of_sub (by decide) hL,
    bit_of_sub (by decide) hL, h.hosts, h.power, h.dwellFrom, h.supplies, h.vioClass, h.startClk, h.resetCause, h.filterClk,
    h.frozen, h.freezeLow, h.frz, h.ticked, h.cells⟩⟩

theorem same_objs_store {L : Nat} {z s : State} (hL : 264 &&& L = 264)
    (objs_ : FMap Nat) (store_ : Store) :
    Agree L z { s with objs := objs_, store := store_ } ↔ Agree L z s :=
  ⟨fun h => ⟨h.pending, h.phase, h.fab, bit_of_sub (by decide) hL, h.mem, h.lanes, h.coll, h.ledger, bit_of_sub (by decide) hL,
    h.cores, h.conv, h.cap, h.ring, h.activeArea, h.otherArea, h.input, h.rails, h.seq, h.pmb, h.railWins, h.live, h.margins,
    h.stips, h.sinks, h.gov, h.feeds, h.convoy, h.loader, h.upd, h.hosts, h.power, h.dwellFrom, h.supplies, h.vioClass,
    h.startClk, h.resetCause, h.filterClk, h.frozen, h.freezeLow, h.frz, h.ticked, h.cells⟩, fun h => ⟨h.pending, h.phase, h.fab,
    bit_of_sub (by decide) hL, h.mem, h.lanes, h.coll, h.ledger, bit_of_sub (by decide) hL, h.cores, h.conv, h.cap, h.ring,
    h.activeArea, h.otherArea, h.input, h.rails, h.seq, h.pmb, h.railWins, h.live, h.margins, h.stips, h.sinks, h.gov, h.feeds,
    h.convoy, h.loader, h.upd, h.hosts, h.power, h.dwellFrom, h.supplies, h.vioClass, h.startClk, h.resetCause, h.filterClk,
    h.frozen, h.freezeLow, h.frz, h.ticked, h.cells⟩⟩

theorem same_phase_conv {L : Nat} {z s : State} (hL : 1026 &&& L = 1026)
    (phase_ : StartPhase) (conv_ : Conv) :
    Agree L z { s with phase := phase_, conv := conv_ } ↔ Agree L z s :=
  ⟨fun h => ⟨h.pending, bit_of_sub (by decide) hL, h.fab, h.objs, h.mem, h.lanes, h.coll, h.ledger, h.store, h.cores,
    bit_of_sub (by decide) hL, h.cap, h.ring, h.activeArea, h.otherArea, h.input, h.rails, h.seq, h.pmb, h.railWins, h.live,
    h.margins, h.stips, h.sinks, h.gov, h.feeds, h.convoy, h.loader, h.upd, h.hosts, h.power, h.dwellFrom, h.supplies,
    h.vioClass, h.startClk, h.resetCause, h.filterClk, h.frozen, h.freezeLow, h.frz, h.ticked, h.cells⟩, fun h => ⟨h.pending,
    bit_of_sub (by decide) hL, h.fab, h.objs, h.mem, h.lanes, h.coll, h.ledger, h.store, h.cores, bit_of_sub (by decide) hL,
    h.cap, h.ring, h.activeArea, h.otherArea, h.input, h.rails, h.seq, h.pmb, h.railWins, h.live, h.margins, h.stips, h.sinks,
    h.gov, h.feeds, h.convoy, h.loader, h.upd, h.hosts, h.power, h.dwellFrom, h.supplies, h.vioClass, h.startClk, h.resetCause,
    h.filterClk, h.frozen, h.freezeLow, h.frz, h.ticked, h.cells⟩⟩

theorem same_seq_convoy {L : Nat} {z s : State} (hL : 67239936 &&& L = 67239936)
    (seq_ : Seq) (convoy_ : Convoy) :
    Agree L z { s with seq := seq_, convoy := convoy_ } ↔ Agree L z s :=
  ⟨fun h => ⟨h.pending, h.phase, h.fab, h.objs, h.mem, h.lanes, h.coll, h.ledger, h.store, h.cores, h.conv, h.cap, h.ring,
    h.activeArea, h.otherArea, h.input, h.rails, bit_of_sub (by decide) hL, h.pmb, h.railWins, h.live, h.margins, h.stips,
    h.sinks, h.gov, h.feeds, bit_of_sub (by decide) hL, h.loader, h.upd, h.hosts, h.power, h.dwellFrom, h.supplies, h.vioClass,
    h.startClk, h.resetCause, h.filterClk, h.frozen, h.freezeLow, h.frz, h.ticked, h.cells⟩, fun h => ⟨h.pending, h.phase, h.fab,
    h.objs, h.mem, h.lanes, h.coll, h.ledger, h.store, h.cores, h.conv, h.cap, h.ring, h.activeArea, h.otherArea, h.input,
    h.rails, bit_of_sub (by decide) hL, h.pmb, h.railWins, h.live, h.margins, h.stips, h.sinks, h.gov, h.feeds,
    bit_of_sub (by decide) hL, h.loader, h.upd, h.hosts, h.power, h.dwellFrom, h.supplies, h.vioClass, h.startClk, h.resetCause,
    h.filterClk, h.frozen, h.freezeLow, h.frz, h.ticked, h.cells⟩⟩

theorem same_seq_margins {L : Nat} {z s : State} (hL : 2228224 &&& L = 2228224)
    (seq_ : Seq) (margins_ : FMap Margin) :
    Agree L z { s with seq := seq_, margins := margins_ } ↔ Agree L z s :=
  ⟨fun h => ⟨h.pending, h.phase, h.fab, h.objs, h.mem, h.lanes, h.coll, h.ledger, h.store, h.cores, h.conv, h.cap, h.ring,
    h.activeArea, h.otherArea, h.input, h.rails, bit_of_sub (by decide) hL, h.pmb, h.railWins, h.live, bit_of_sub (by decide) hL,
    h.stips, h.sinks, h.gov, h.feeds, h.convoy, h.loader, h.upd, h.hosts, h.power, h.dwellFrom, h.supplies, h.vioClass,
    h.startClk, h.resetCause, h.filterClk, h.frozen, h.freezeLow, h.frz, h.ticked, h.cells⟩, fun h => ⟨h.pending, h.phase, h.fab,
    h.objs, h.mem, h.lanes, h.coll, h.ledger, h.store, h.cores, h.conv, h.cap, h.ring, h.activeArea, h.otherArea, h.input,
    h.rails, bit_of_sub (by decide) hL, h.pmb, h.railWins, h.live, bit_of_sub (by decide) hL, h.stips, h.sinks, h.gov, h.feeds,
    h.convoy, h.loader, h.upd, h.hosts, h.power, h.dwellFrom, h.supplies, h.vioClass, h.startClk, h.resetCause, h.filterClk,
    h.frozen, h.freezeLow, h.frz, h.ticked, h.cells⟩⟩

theorem same_startClk_filterClk {L : Nat} {z s : State} (hL : 85899345920 &&& L = 85899345920)
    (startClk_ : Nat) (filterClk_ : Nat) :
    Agree L z { s with startClk := startClk_, filterClk := filterClk_ } ↔ Agree L z s :=
  ⟨fun h => ⟨h.pending, h.phase, h.fab, h.objs, h.mem, h.lanes, h.coll, h.ledger, h.store, h.cores, h.conv, h.cap, h.ring,
    h.activeArea, h.otherArea, h.input, h.rails, h.seq, h.pmb, h.railWins, h.live, h.margins, h.stips, h.sinks, h.gov, h.feeds,
    h.convoy, h.loader, h.upd, h.hosts, h.power, h.dwellFrom, h.supplies, h.vioClass, bit_of_sub (by decide) hL, h.resetCause,
    bit_of_sub (by decide) hL, h.frozen, h.freezeLow, h.frz, h.ticked, h.cells⟩, fun h => ⟨h.pending, h.phase, h.fab, h.objs,
    h.mem, h.lanes, h.coll, h.ledger, h.store, h.cores, h.conv, h.cap, h.ring, h.activeArea, h.otherArea, h.input, h.rails,
    h.seq, h.pmb, h.railWins, h.live, h.margins, h.stips, h.sinks, h.gov, h.feeds, h.convoy, h.loader, h.upd, h.hosts, h.power,
    h.dwellFrom, h.supplies, h.vioClass, bit_of_sub (by decide) hL, h.resetCause, bit_of_sub (by decide) hL, h.frozen,
    h.freezeLow, h.frz, h.ticked, h.cells⟩⟩

theorem same_store_otherArea {L : Nat} {z s : State} (hL : 16640 &&& L = 16640)
    (store_ : Store) (otherArea_ : FMap Nat) :
    Agree L z { s with store := store_, otherArea := otherArea_ } ↔ Agree L z s :=
  ⟨fun h => ⟨h.pending, h.phase, h.fab, h.objs, h.mem, h.lanes, h.coll, h.ledger, bit_of_sub (by decide) hL, h.cores, h.conv,
    h.cap, h.ring, h.activeArea, bit_of_sub (by decide) hL, h.input, h.rails, h.seq, h.pmb, h.railWins, h.live, h.margins,
    h.stips, h.sinks, h.gov, h.feeds, h.convoy, h.loader, h.upd, h.hosts, h.power, h.dwellFrom, h.supplies, h.vioClass,
    h.startClk, h.resetCause, h.filterClk, h.frozen, h.freezeLow, h.frz, h.ticked, h.cells⟩, fun h => ⟨h.pending, h.phase, h.fab,
    h.objs, h.mem, h.lanes, h.coll, h.ledger, bit_of_sub (by decide) hL, h.cores, h.conv, h.cap, h.ring, h.activeArea,
    bit_of_sub (by decide) hL, h.input, h.rails, h.seq, h.pmb, h.railWins, h.live, h.margins, h.stips, h.sinks, h.gov, h.feeds,
    h.convoy, h.loader, h.upd, h.hosts, h.power, h.dwellFrom, h.supplies, h.vioClass, h.startClk, h.resetCause, h.filterClk,
    h.frozen, h.freezeLow, h.frz, h.ticked, h.cells⟩⟩

theorem same_coll_ledger_store {L : Nat} {z s : State} (hL : 448 &&& L = 448)
    (coll_ : Coll) (ledger_ : Ledger) (store_ : Store) :
    Agree L z { s with coll := coll_, ledger := ledger_, store := store_ } ↔ Agree L z s :=
  ⟨fun h => ⟨h.pending, h.phase, h.fab, h.objs, h.mem, h.lanes, bit_of_sub (by decide) hL, bit_of_sub (by decide) hL,
    bit_of_sub (by decide) hL, h.cores, h.conv, h.cap, h.ring, h.activeArea, h.otherArea, h.input, h.rails, h.seq, h.pmb,
    h.railWins, h.live, h.margins, h.stips, h.sinks, h.gov, h.feeds, h.convoy, h.loader, h.upd, h.hosts, h.power, h.dwellFrom,
    h.supplies, h.vioClass, h.startClk, h.resetCause, h.filterClk, h.frozen, h.freezeLow, h.frz, h.ticked, h.cells⟩,
    fun h => ⟨h.pending, h.phase, h.fab, h.objs, h.mem, h.lanes, bit_of_sub (by decide) hL, bit_of_sub (by decide) hL,
    bit_of_sub (by decide) hL, h.cores, h.conv, h.cap, h.ring, h.activeArea, h.otherArea, h.input, h.rails, h.seq, h.pmb,
    h.railWins, h.live, h.margins, h.stips, h.sinks, h.gov, h.feeds, h.convoy, h.loader, h.upd, h.hosts, h.power, h.dwellFrom,
    h.supplies, h.vioClass, h.startClk, h.resetCause, h.filterClk, h.frozen, h.freezeLow, h.frz, h.ticked, h.cells⟩⟩

theorem same_coll_ring_railWins {L : Nat} {z s : State} (hL : 528448 &&& L = 528448)
    (coll_ : Coll) (ring_ : Ring) (railWins_ : List RailWindow) :
    Agree L z { s with coll := coll_, ring := ring_, railWins := railWins_ } ↔ Agree L z s :=
  ⟨fun h => ⟨h.pending, h.phase, h.fab, h.objs, h.mem, h.lanes, bit_of_sub (by decide) hL, h.ledger, h.store, h.cores, h.conv,
    h.cap, bit_of_sub (by decide) hL, h.activeArea, h.otherArea, h.input, h.rails, h.seq, h.pmb, bit_of_sub (by decide) hL,
    h.live, h.margins, h.stips, h.sinks, h.gov, h.feeds, h.convoy, h.loader, h.upd, h.hosts, h.power, h.dwellFrom, h.supplies,
    h.vioClass, h.startClk, h.resetCause, h.filterClk, h.frozen, h.freezeLow, h.frz, h.ticked, h.cells⟩, fun h => ⟨h.pending,
    h.phase, h.fab, h.objs, h.mem, h.lanes, bit_of_sub (by decide) hL, h.ledger, h.store, h.cores, h.conv, h.cap,
    bit_of_sub (by decide) hL, h.activeArea, h.otherArea, h.input, h.rails, h.seq, h.pmb, bit_of_sub (by decide) hL, h.live,
    h.margins, h.stips, h.sinks, h.gov, h.feeds, h.convoy, h.loader, h.upd, h.hosts, h.power, h.dwellFrom, h.supplies,
    h.vioClass, h.startClk, h.resetCause, h.filterClk, h.frozen, h.freezeLow, h.frz, h.ticked, h.cells⟩⟩

theorem same_conv_cap_ring {L : Nat} {z s : State} (hL : 7168 &&& L = 7168)
    (conv_ : Conv) (cap_ : Capture) (ring_ : Ring) :
    Agree L z { s with conv := conv_, cap := cap_, ring := ring_ } ↔ Agree L z s :=
  ⟨fun h => ⟨h.pending, h.phase, h.fab, h.objs, h.mem, h.lanes, h.coll, h.ledger, h.store, h.cores, bit_of_sub (by decide) hL,
    bit_of_sub (by decide) hL, bit_of_sub (by decide) hL, h.activeArea, h.otherArea, h.input, h.rails, h.seq, h.pmb, h.railWins,
    h.live, h.margins, h.stips, h.sinks, h.gov, h.feeds, h.convoy, h.loader, h.upd, h.hosts, h.power, h.dwellFrom, h.supplies,
    h.vioClass, h.startClk, h.resetCause, h.filterClk, h.frozen, h.freezeLow, h.frz, h.ticked, h.cells⟩, fun h => ⟨h.pending,
    h.phase, h.fab, h.objs, h.mem, h.lanes, h.coll, h.ledger, h.store, h.cores, bit_of_sub (by decide) hL,
    bit_of_sub (by decide) hL, bit_of_sub (by decide) hL, h.activeArea, h.otherArea, h.input, h.rails, h.seq, h.pmb, h.railWins,
    h.live, h.margins, h.stips, h.sinks, h.gov, h.feeds, h.convoy, h.loader, h.upd, h.hosts, h.power, h.dwellFrom, h.supplies,
    h.vioClass, h.startClk, h.resetCause, h.filterClk, h.frozen, h.freezeLow, h.frz, h.ticked, h.cells⟩⟩

theorem same_convoy_frozen_frz {L : Nat} {z s : State} (hL : 687261876224 &&& L = 687261876224)
    (convoy_ : Convoy) (frozen_ : Option Nat) (frz_ : Freeze) :
    Agree L z { s with convoy := convoy_, frozen := frozen_, frz := frz_ } ↔ Agree L z s :=
  ⟨fun h => ⟨h.pending, h.phase, h.fab, h.objs, h.mem, h.lanes, h.coll, h.ledger, h.store, h.cores, h.conv, h.cap, h.ring,
    h.activeArea, h.otherArea, h.input, h.rails, h.seq, h.pmb, h.railWins, h.live, h.margins, h.stips, h.sinks, h.gov, h.feeds,
    bit_of_sub (by decide) hL, h.loader, h.upd, h.hosts, h.power, h.dwellFrom, h.supplies, h.vioClass, h.startClk, h.resetCause,
    h.filterClk, bit_of_sub (by decide) hL, h.freezeLow, bit_of_sub (by decide) hL, h.ticked, h.cells⟩, fun h => ⟨h.pending,
    h.phase, h.fab, h.objs, h.mem, h.lanes, h.coll, h.ledger, h.store, h.cores, h.conv, h.cap, h.ring, h.activeArea, h.otherArea,
    h.input, h.rails, h.seq, h.pmb, h.railWins, h.live, h.margins, h.stips, h.sinks, h.gov, h.feeds, bit_of_sub (by decide) hL,
    h.loader, h.upd, h.hosts, h.power, h.dwellFrom, h.supplies, h.vioClass, h.startClk, h.resetCause, h.filterClk,
    bit_of_sub (by decide) hL, h.freezeLow, bit_of_sub (by decide) hL, h.ticked, h.cells⟩⟩

theorem same_ledger_store_ring {L : Nat} {z s : State} (hL : 4480 &&& L = 4480)
    (ledger_ : Ledger) (store_ : Store) (ring_ : Ring) :
    Agree L z { s with ledger := ledger_, store := store_, ring := ring_ } ↔ Agree L z s :=
  ⟨fun h => ⟨h.pending, h.phase, h.fab, h.objs, h.mem, h.lanes, h.coll, bit_of_sub (by decide) hL, bit_of_sub (by decide) hL,
    h.cores, h.conv, h.cap, bit_of_sub (by decide) hL, h.activeArea, h.otherArea, h.input, h.rails, h.seq, h.pmb, h.railWins,
    h.live, h.margins, h.stips, h.sinks, h.gov, h.feeds, h.convoy, h.loader, h.upd, h.hosts, h.power, h.dwellFrom, h.supplies,
    h.vioClass, h.startClk, h.resetCause, h.filterClk, h.frozen, h.freezeLow, h.frz, h.ticked, h.cells⟩, fun h => ⟨h.pending,
    h.phase, h.fab, h.objs, h.mem, h.lanes, h.coll, bit_of_sub (by decide) hL, bit_of_sub (by decide) hL, h.cores, h.conv, h.cap,
    bit_of_sub (by decide) hL, h.activeArea, h.otherArea, h.input, h.rails, h.seq, h.pmb, h.railWins, h.live, h.margins, h.stips,
    h.sinks, h.gov, h.feeds, h.convoy, h.loader, h.upd, h.hosts, h.power, h.dwellFrom, h.supplies, h.vioClass, h.startClk,
    h.resetCause, h.filterClk, h.frozen, h.freezeLow, h.frz, h.ticked, h.cells⟩⟩

theorem same_objs_activeArea_otherArea {L : Nat} {z s : State} (hL : 24584 &&& L = 24584)
    (objs_ : FMap Nat) (activeArea_ : Nat) (otherArea_ : FMap Nat) :
    Agree L z { s with objs := objs_, activeArea := activeArea_, otherArea := otherArea_ } ↔ Agree L z s :=
  ⟨fun h => ⟨h.pending, h.phase, h.fab, bit_of_sub (by decide) hL, h.mem, h.lanes, h.coll, h.ledger, h.store, h.cores, h.conv,
    h.cap, h.ring, bit_of_sub (by decide) hL, bit_of_sub (by decide) hL, h.input, h.rails, h.seq, h.pmb, h.railWins, h.live,
    h.margins, h.stips, h.sinks, h.gov, h.feeds, h.convoy, h.loader, h.upd, h.hosts, h.power, h.dwellFrom, h.supplies,
    h.vioClass, h.startClk, h.resetCause, h.filterClk, h.frozen, h.freezeLow, h.frz, h.ticked, h.cells⟩, fun h => ⟨h.pending,
    h.phase, h.fab, bit_of_sub (by decide) hL, h.mem, h.lanes, h.coll, h.ledger, h.store, h.cores, h.conv, h.cap, h.ring,
    bit_of_sub (by decide) hL, bit_of_sub (by decide) hL, h.input, h.rails, h.seq, h.pmb, h.railWins, h.live, h.margins, h.stips,
    h.sinks, h.gov, h.feeds, h.convoy, h.loader, h.upd, h.hosts, h.power, h.dwellFrom, h.supplies, h.vioClass, h.startClk,
    h.resetCause, h.filterClk, h.frozen, h.freezeLow, h.frz, h.ticked, h.cells⟩⟩

theorem same_fab_startClk_filterClk_ticked {L : Nat} {z s : State} (hL : 1185410973700 &&& L = 1185410973700)
    (fab_ : Fabric) (startClk_ : Nat) (filterClk_ : Nat) (ticked_ : Bool) :
    Agree L z { s with fab := fab_, startClk := startClk_, filterClk := filterClk_, ticked := ticked_ } ↔ Agree L z s :=
  ⟨fun h => ⟨h.pending, h.phase, bit_of_sub (by decide) hL, h.objs, h.mem, h.lanes, h.coll, h.ledger, h.store, h.cores, h.conv,
    h.cap, h.ring, h.activeArea, h.otherArea, h.input, h.rails, h.seq, h.pmb, h.railWins, h.live, h.margins, h.stips, h.sinks,
    h.gov, h.feeds, h.convoy, h.loader, h.upd, h.hosts, h.power, h.dwellFrom, h.supplies, h.vioClass, bit_of_sub (by decide) hL,
    h.resetCause, bit_of_sub (by decide) hL, h.frozen, h.freezeLow, h.frz, bit_of_sub (by decide) hL, h.cells⟩,
    fun h => ⟨h.pending, h.phase, bit_of_sub (by decide) hL, h.objs, h.mem, h.lanes, h.coll, h.ledger, h.store, h.cores, h.conv,
    h.cap, h.ring, h.activeArea, h.otherArea, h.input, h.rails, h.seq, h.pmb, h.railWins, h.live, h.margins, h.stips, h.sinks,
    h.gov, h.feeds, h.convoy, h.loader, h.upd, h.hosts, h.power, h.dwellFrom, h.supplies, h.vioClass, bit_of_sub (by decide) hL,
    h.resetCause, bit_of_sub (by decide) hL, h.frozen, h.freezeLow, h.frz, bit_of_sub (by decide) hL, h.cells⟩⟩

theorem same_ledger_store_ring_upd {L : Nat} {z s : State} (hL : 268439936 &&& L = 268439936)
    (ledger_ : Ledger) (store_ : Store) (ring_ : Ring) (upd_ : Upd) :
    Agree L z { s with ledger := ledger_, store := store_, ring := ring_, upd := upd_ } ↔ Agree L z s :=
  ⟨fun h => ⟨h.pending, h.phase, h.fab, h.objs, h.mem, h.lanes, h.coll, bit_of_sub (by decide) hL, bit_of_sub (by decide) hL,
    h.cores, h.conv, h.cap, bit_of_sub (by decide) hL, h.activeArea, h.otherArea, h.input, h.rails, h.seq, h.pmb, h.railWins,
    h.live, h.margins, h.stips, h.sinks, h.gov, h.feeds, h.convoy, h.loader, bit_of_sub (by decide) hL, h.hosts, h.power,
    h.dwellFrom, h.supplies, h.vioClass, h.startClk, h.resetCause, h.filterClk, h.frozen, h.freezeLow, h.frz, h.ticked, h.cells⟩,
    fun h => ⟨h.pending, h.phase, h.fab, h.objs, h.mem, h.lanes, h.coll, bit_of_sub (by decide) hL, bit_of_sub (by decide) hL,
    h.cores, h.conv, h.cap, bit_of_sub (by decide) hL, h.activeArea, h.otherArea, h.input, h.rails, h.seq, h.pmb, h.railWins,
    h.live, h.margins, h.stips, h.sinks, h.gov, h.feeds, h.convoy, h.loader, bit_of_sub (by decide) hL, h.hosts, h.power,
    h.dwellFrom, h.supplies, h.vioClass, h.startClk, h.resetCause, h.filterClk, h.frozen, h.freezeLow, h.frz, h.ticked,
    h.cells⟩⟩

theorem same_objs_activeArea_otherArea_upd {L : Nat} {z s : State} (hL : 268460040 &&& L = 268460040)
    (objs_ : FMap Nat) (activeArea_ : Nat) (otherArea_ : FMap Nat) (upd_ : Upd) :
    Agree L z { s with objs := objs_, activeArea := activeArea_, otherArea := otherArea_, upd := upd_ } ↔ Agree L z s :=
  ⟨fun h => ⟨h.pending, h.phase, h.fab, bit_of_sub (by decide) hL, h.mem, h.lanes, h.coll, h.ledger, h.store, h.cores, h.conv,
    h.cap, h.ring, bit_of_sub (by decide) hL, bit_of_sub (by decide) hL, h.input, h.rails, h.seq, h.pmb, h.railWins, h.live,
    h.margins, h.stips, h.sinks, h.gov, h.feeds, h.convoy, h.loader, bit_of_sub (by decide) hL, h.hosts, h.power, h.dwellFrom,
    h.supplies, h.vioClass, h.startClk, h.resetCause, h.filterClk, h.frozen, h.freezeLow, h.frz, h.ticked, h.cells⟩,
    fun h => ⟨h.pending, h.phase, h.fab, bit_of_sub (by decide) hL, h.mem, h.lanes, h.coll, h.ledger, h.store, h.cores, h.conv,
    h.cap, h.ring, bit_of_sub (by decide) hL, bit_of_sub (by decide) hL, h.input, h.rails, h.seq, h.pmb, h.railWins, h.live,
    h.margins, h.stips, h.sinks, h.gov, h.feeds, h.convoy, h.loader, bit_of_sub (by decide) hL, h.hosts, h.power, h.dwellFrom,
    h.supplies, h.vioClass, h.startClk, h.resetCause, h.filterClk, h.frozen, h.freezeLow, h.frz, h.ticked, h.cells⟩⟩

theorem same_phase_supplies_vioClass_startClk {L : Nat} {z s : State} (hL : 30064771074 &&& L = 30064771074)
    (phase_ : StartPhase) (supplies_ : Bool) (vioClass_ : Option Bool) (startClk_ : Nat) :
    Agree L z { s with phase := phase_, supplies := supplies_, vioClass := vioClass_, startClk := startClk_ } ↔ Agree L z s :=
  ⟨fun h => ⟨h.pending, bit_of_sub (by decide) hL, h.fab, h.objs, h.mem, h.lanes, h.coll, h.ledger, h.store, h.cores, h.conv,
    h.cap, h.ring, h.activeArea, h.otherArea, h.input, h.rails, h.seq, h.pmb, h.railWins, h.live, h.margins, h.stips, h.sinks,
    h.gov, h.feeds, h.convoy, h.loader, h.upd, h.hosts, h.power, h.dwellFrom, bit_of_sub (by decide) hL,
    bit_of_sub (by decide) hL, bit_of_sub (by decide) hL, h.resetCause, h.filterClk, h.frozen, h.freezeLow, h.frz, h.ticked,
    h.cells⟩, fun h => ⟨h.pending, bit_of_sub (by decide) hL, h.fab, h.objs, h.mem, h.lanes, h.coll, h.ledger, h.store, h.cores,
    h.conv, h.cap, h.ring, h.activeArea, h.otherArea, h.input, h.rails, h.seq, h.pmb, h.railWins, h.live, h.margins, h.stips,
    h.sinks, h.gov, h.feeds, h.convoy, h.loader, h.upd, h.hosts, h.power, h.dwellFrom, bit_of_sub (by decide) hL,
    bit_of_sub (by decide) hL, bit_of_sub (by decide) hL, h.resetCause, h.filterClk, h.frozen, h.freezeLow, h.frz, h.ticked,
    h.cells⟩⟩

theorem same_seq_convoy_supplies_freezeLow {L : Nat} {z s : State} (hL : 279240114176 &&& L = 279240114176)
    (seq_ : Seq) (convoy_ : Convoy) (supplies_ : Bool) (freezeLow_ : Bool) :
    Agree L z { s with seq := seq_, convoy := convoy_, supplies := supplies_, freezeLow := freezeLow_ } ↔ Agree L z s :=
  ⟨fun h => ⟨h.pending, h.phase, h.fab, h.objs, h.mem, h.lanes, h.coll, h.ledger, h.store, h.cores, h.conv, h.cap, h.ring,
    h.activeArea, h.otherArea, h.input, h.rails, bit_of_sub (by decide) hL, h.pmb, h.railWins, h.live, h.margins, h.stips,
    h.sinks, h.gov, h.feeds, bit_of_sub (by decide) hL, h.loader, h.upd, h.hosts, h.power, h.dwellFrom,
    bit_of_sub (by decide) hL, h.vioClass, h.startClk, h.resetCause, h.filterClk, h.frozen, bit_of_sub (by decide) hL, h.frz,
    h.ticked, h.cells⟩, fun h => ⟨h.pending, h.phase, h.fab, h.objs, h.mem, h.lanes, h.coll, h.ledger, h.store, h.cores, h.conv,
    h.cap, h.ring, h.activeArea, h.otherArea, h.input, h.rails, bit_of_sub (by decide) hL, h.pmb, h.railWins, h.live, h.margins,
    h.stips, h.sinks, h.gov, h.feeds, bit_of_sub (by decide) hL, h.loader, h.upd, h.hosts, h.power, h.dwellFrom,
    bit_of_sub (by decide) hL, h.vioClass, h.startClk, h.resetCause, h.filterClk, h.frozen, bit_of_sub (by decide) hL, h.frz,
    h.ticked, h.cells⟩⟩

theorem same_phase_coll_gov_power_dwellFrom {L : Nat} {z s : State} (hL : 3238002754 &&& L = 3238002754)
    (phase_ : StartPhase) (coll_ : Coll) (gov_ : Gov) (power_ : PowerState) (dwellFrom_ : Option Nat) :
    Agree L z { s with phase := phase_, coll := coll_, gov := gov_, power := power_, dwellFrom := dwellFrom_ } ↔ Agree L z s :=
  ⟨fun h => ⟨h.pending, bit_of_sub (by decide) hL, h.fab, h.objs, h.mem, h.lanes, bit_of_sub (by decide) hL, h.ledger, h.store,
    h.cores, h.conv, h.cap, h.ring, h.activeArea, h.otherArea, h.input, h.rails, h.seq, h.pmb, h.railWins, h.live, h.margins,
    h.stips, h.sinks, bit_of_sub (by decide) hL, h.feeds, h.convoy, h.loader, h.upd, h.hosts, bit_of_sub (by decide) hL,
    bit_of_sub (by decide) hL, h.supplies, h.vioClass, h.startClk, h.resetCause, h.filterClk, h.frozen, h.freezeLow, h.frz,
    h.ticked, h.cells⟩, fun h => ⟨h.pending, bit_of_sub (by decide) hL, h.fab, h.objs, h.mem, h.lanes, bit_of_sub (by decide) hL,
    h.ledger, h.store, h.cores, h.conv, h.cap, h.ring, h.activeArea, h.otherArea, h.input, h.rails, h.seq, h.pmb, h.railWins,
    h.live, h.margins, h.stips, h.sinks, bit_of_sub (by decide) hL, h.feeds, h.convoy, h.loader, h.upd, h.hosts,
    bit_of_sub (by decide) hL, bit_of_sub (by decide) hL, h.supplies, h.vioClass, h.startClk, h.resetCause, h.filterClk,
    h.frozen, h.freezeLow, h.frz, h.ticked, h.cells⟩⟩

theorem same_phase_fab_coll_store_conv {L : Nat} {z s : State} (hL : 1350 &&& L = 1350)
    (phase_ : StartPhase) (fab_ : Fabric) (coll_ : Coll) (store_ : Store) (conv_ : Conv) :
    Agree L z { s with phase := phase_, fab := fab_, coll := coll_, store := store_, conv := conv_ } ↔ Agree L z s :=
  ⟨fun h => ⟨h.pending, bit_of_sub (by decide) hL, bit_of_sub (by decide) hL, h.objs, h.mem, h.lanes, bit_of_sub (by decide) hL,
    h.ledger, bit_of_sub (by decide) hL, h.cores, bit_of_sub (by decide) hL, h.cap, h.ring, h.activeArea, h.otherArea, h.input,
    h.rails, h.seq, h.pmb, h.railWins, h.live, h.margins, h.stips, h.sinks, h.gov, h.feeds, h.convoy, h.loader, h.upd, h.hosts,
    h.power, h.dwellFrom, h.supplies, h.vioClass, h.startClk, h.resetCause, h.filterClk, h.frozen, h.freezeLow, h.frz, h.ticked,
    h.cells⟩, fun h => ⟨h.pending, bit_of_sub (by decide) hL, bit_of_sub (by decide) hL, h.objs, h.mem, h.lanes,
    bit_of_sub (by decide) hL, h.ledger, bit_of_sub (by decide) hL, h.cores, bit_of_sub (by decide) hL, h.cap, h.ring,
    h.activeArea, h.otherArea, h.input, h.rails, h.seq, h.pmb, h.railWins, h.live, h.margins, h.stips, h.sinks, h.gov, h.feeds,
    h.convoy, h.loader, h.upd, h.hosts, h.power, h.dwellFrom, h.supplies, h.vioClass, h.startClk, h.resetCause, h.filterClk,
    h.frozen, h.freezeLow, h.frz, h.ticked, h.cells⟩⟩

theorem same_fab_cap_margins_stips_convoy_upd {L : Nat} {z s : State} (hL : 341837828 &&& L = 341837828)
    (fab_ : Fabric) (cap_ : Capture) (margins_ : FMap Margin) (stips_ : FMap Stip) (convoy_ : Convoy) (upd_ : Upd) :
    Agree L z { s with fab := fab_, cap := cap_, margins := margins_, stips := stips_, convoy := convoy_, upd := upd_ } ↔ Agree L z s :=
  ⟨fun h => ⟨h.pending, h.phase, bit_of_sub (by decide) hL, h.objs, h.mem, h.lanes, h.coll, h.ledger, h.store, h.cores, h.conv,
    bit_of_sub (by decide) hL, h.ring, h.activeArea, h.otherArea, h.input, h.rails, h.seq, h.pmb, h.railWins, h.live,
    bit_of_sub (by decide) hL, bit_of_sub (by decide) hL, h.sinks, h.gov, h.feeds, bit_of_sub (by decide) hL, h.loader,
    bit_of_sub (by decide) hL, h.hosts, h.power, h.dwellFrom, h.supplies, h.vioClass, h.startClk, h.resetCause, h.filterClk,
    h.frozen, h.freezeLow, h.frz, h.ticked, h.cells⟩, fun h => ⟨h.pending, h.phase, bit_of_sub (by decide) hL, h.objs, h.mem,
    h.lanes, h.coll, h.ledger, h.store, h.cores, h.conv, bit_of_sub (by decide) hL, h.ring, h.activeArea, h.otherArea, h.input,
    h.rails, h.seq, h.pmb, h.railWins, h.live, bit_of_sub (by decide) hL, bit_of_sub (by decide) hL, h.sinks, h.gov, h.feeds,
    bit_of_sub (by decide) hL, h.loader, bit_of_sub (by decide) hL, h.hosts, h.power, h.dwellFrom, h.supplies, h.vioClass,
    h.startClk, h.resetCause, h.filterClk, h.frozen, h.freezeLow, h.frz, h.ticked, h.cells⟩⟩

theorem same_coll_conv_ring_rails_seq_railWins_stips {L : Nat} {z s : State} (hL : 4920384 &&& L = 4920384)
    (coll_ : Coll) (conv_ : Conv) (ring_ : Ring) (rails_ : FMap Rail) (seq_ : Seq) (railWins_ : List RailWindow) (stips_ : FMap Stip) :
    Agree L z { s with coll := coll_, conv := conv_, ring := ring_, rails := rails_, seq := seq_, railWins := railWins_, stips := stips_ } ↔ Agree L z s :=
  ⟨fun h => ⟨h.pending, h.phase, h.fab, h.objs, h.mem, h.lanes, bit_of_sub (by decide) hL, h.ledger, h.store, h.cores,
    bit_of_sub (by decide) hL, h.cap, bit_of_sub (by decide) hL, h.activeArea, h.otherArea, h.input, bit_of_sub (by decide) hL,
    bit_of_sub (by decide) hL, h.pmb, bit_of_sub (by decide) hL, h.live, h.margins, bit_of_sub (by decide) hL, h.sinks, h.gov,
    h.feeds, h.convoy, h.loader, h.upd, h.hosts, h.power, h.dwellFrom, h.supplies, h.vioClass, h.startClk, h.resetCause,
    h.filterClk, h.frozen, h.freezeLow, h.frz, h.ticked, h.cells⟩, fun h => ⟨h.pending, h.phase, h.fab, h.objs, h.mem, h.lanes,
    bit_of_sub (by decide) hL, h.ledger, h.store, h.cores, bit_of_sub (by decide) hL, h.cap, bit_of_sub (by decide) hL,
    h.activeArea, h.otherArea, h.input, bit_of_sub (by decide) hL, bit_of_sub (by decide) hL, h.pmb, bit_of_sub (by decide) hL,
    h.live, h.margins, bit_of_sub (by decide) hL, h.sinks, h.gov, h.feeds, h.convoy, h.loader, h.upd, h.hosts, h.power,
    h.dwellFrom, h.supplies, h.vioClass, h.startClk, h.resetCause, h.filterClk, h.frozen, h.freezeLow, h.frz, h.ticked,
    h.cells⟩⟩

end Sys2Proof.Machine
end

