-- ==== Sys2Proof/Laws/Frame1.lean ====
section
/-! SUPPORT. Frames of the operations, part 1: the mask of each lemma names the fields that the operation may change. -/

namespace Sys2Proof.Machine

theorem State.freeLane_same {L : Nat} {z s : State} (hL : 32 &&& L = 32) (h : Agree L z s) (lane : Nat) :
    Agree L z (State.freeLane s lane) := by
  have r0 : 32 &&& L = 32 := sub_trans rfl hL
  unfold State.freeLane
  repeat' (first
      | intro _ | with_reducible exact h | with_reducible assumption | with_reducible apply same_ite
      | with_reducible apply same_foldl | with_reducible apply same_foldl_fst | simp only [same_lanes r0] | split)

theorem State.freeLaneOf_same {L : Nat} {z s : State} (hL : 32 &&& L = 32) (h : Agree L z s) (kind : LaneKind) (ref : Nat) :
    Agree L z (State.freeLaneOf s kind ref) := by
  have r0 : 32 &&& L = 32 := sub_trans rfl hL
  unfold State.freeLaneOf
  repeat' (first
      | intro _ | with_reducible exact h | with_reducible assumption | with_reducible apply State.freeLane_same hL
      | with_reducible apply same_ite | with_reducible apply same_foldl | with_reducible apply same_foldl_fst
      | simp only [same_lanes r0] | split)

theorem State.withdrawCapture_same {L : Nat} {z s : State} (hL : 2080 &&& L = 2080) (h : Agree L z s)  :
    Agree L z (State.withdrawCapture s) := by
  have q0 : 32 &&& L = 32 := sub_trans rfl hL
  have r0 : 2048 &&& L = 2048 := sub_trans rfl hL
  unfold State.withdrawCapture
  repeat' (first
      | intro _ | with_reducible exact h | with_reducible assumption | with_reducible apply State.freeLaneOf_same q0
      | with_reducible apply same_ite | with_reducible apply same_foldl | with_reducible apply same_foldl_fst
      | simp only [same_cap r0] | split)

theorem State.setLive_same {L : Nat} {z s : State} (hL : 8 &&& L = 8) (h : Agree L z s) (key : Nat) (v : Nat) :
    Agree L z (State.setLive s key v) := by
  have r0 : 8 &&& L = 8 := sub_trans rfl hL
  unfold State.setLive
  repeat' (first
      | intro _ | with_reducible exact h | with_reducible assumption | with_reducible apply same_ite
      | with_reducible apply same_foldl | with_reducible apply same_foldl_fst | simp only [same_objs r0] | split)

theorem State.endCapture_same {L : Nat} {z s : State} (hL : 2088 &&& L = 2088) (h : Agree L z s) (flags : Nat) :
    Agree L z (State.endCapture s flags) := by
  have q0 : 8 &&& L = 8 := sub_trans rfl hL
  have q1 : 32 &&& L = 32 := sub_trans rfl hL
  have r0 : 2048 &&& L = 2048 := sub_trans rfl hL
  unfold State.endCapture
  repeat' (first
      | intro _ | with_reducible exact h | with_reducible assumption | with_reducible apply State.setLive_same q0
      | with_reducible apply State.freeLaneOf_same q1 | with_reducible apply same_ite | with_reducible apply same_foldl
      | with_reducible apply same_foldl_fst | simp only [same_cap r0] | split)

theorem State.abortCapture_same {L : Nat} {z s : State} (hL : 2088 &&& L = 2088) (h : Agree L z s)  :
    Agree L z (State.abortCapture s) := by
  have q0 : 2080 &&& L = 2080 := sub_trans rfl hL
  unfold State.abortCapture
  repeat' (first
      | intro _ | with_reducible exact h | with_reducible assumption | with_reducible apply State.withdrawCapture_same q0
      | with_reducible apply State.endCapture_same hL | with_reducible apply same_ite | with_reducible apply same_foldl
      | with_reducible apply same_foldl_fst | split)

theorem State.stopEtch_same {L : Nat} {z s : State} (hL : 288 &&& L = 288) (h : Agree L z s) (vhu : Bool) :
    Agree L z (State.stopEtch s vhu) := by
  have q0 : 32 &&& L = 32 := sub_trans rfl hL
  have r0 : 256 &&& L = 256 := sub_trans rfl hL
  unfold State.stopEtch
  repeat' (first
      | intro _ | with_reducible exact h | with_reducible assumption | with_reducible apply State.freeLane_same q0
      | with_reducible apply same_ite | with_reducible apply same_foldl | with_reducible apply same_foldl_fst
      | simp only [same_store r0] | split)

theorem State.raiseAt_same {L : Nat} {z s : State} (hL : 64 &&& L = 64) (h : Agree L z s) (src : Nat) (kind : Nat) (addr : Nat)
    (st : Stamp) :
    Agree L z (State.raiseAt s src kind addr st) := by
  have r0 : 64 &&& L = 64 := sub_trans rfl hL
  unfold State.raiseAt
  repeat' (first
      | intro _ | with_reducible exact h | with_reducible assumption | with_reducible apply same_ite
      | with_reducible apply same_foldl | with_reducible apply same_foldl_fst | simp only [same_coll r0] | split)

theorem State.raise_same {L : Nat} {z s : State} (hL : 64 &&& L = 64) (h : Agree L z s) (src : Nat) (kind : Nat) (addr : Nat) :
    Agree L z (State.raise s src kind addr) := by
  unfold State.raise
  repeat' (first
      | intro _ | with_reducible exact h | with_reducible assumption | with_reducible apply State.raiseAt_same hL
      | with_reducible apply same_ite | with_reducible apply same_foldl | with_reducible apply same_foldl_fst | split)

theorem State.setPers_same {L : Nat} {z s : State} (hL : 264 &&& L = 264) (h : Agree L z s) (key : Nat) (v : Nat) :
    Agree L z (State.setPers s key v) := by
  have r0 : 264 &&& L = 264 := sub_trans rfl hL
  unfold State.setPers
  repeat' (first
      | intro _ | with_reducible exact h | with_reducible assumption | with_reducible apply same_ite
      | with_reducible apply same_foldl | with_reducible apply same_foldl_fst | simp only [same_objs_store r0] | split)

theorem State.bump_same {L : Nat} {z s : State} (hL : 264 &&& L = 264) (h : Agree L z s) (key : Nat) :
    Agree L z (State.bump s key) := by
  unfold State.bump
  repeat' (first
      | intro _ | with_reducible exact h | with_reducible assumption | with_reducible apply State.setPers_same hL
      | with_reducible apply same_ite | with_reducible apply same_foldl | with_reducible apply same_foldl_fst | split)

theorem State.postLane_same {L : Nat} {z s : State} (hL : 32 &&& L = 32) (h : Agree L z s) (kind : LaneKind) (base : Nat)
    (target : Nat) (ref : Nat) (mask : Nat) (pages : List Nat) :
    Agree L z (State.postLane s kind base target ref mask pages) := by
  have r0 : 32 &&& L = 32 := sub_trans rfl hL
  unfold State.postLane
  repeat' (first
      | intro _ | with_reducible exact h | with_reducible assumption | with_reducible apply same_ite
      | with_reducible apply same_foldl | with_reducible apply same_foldl_fst | simp only [same_lanes r0] | split)

theorem State.mergeEtch_same {L : Nat} {z s : State} (hL : 288 &&& L = 288) (h : Agree L z s) (cause : Nat) (mask : Nat)
    (pages : List Nat) :
    ∀ t, State.mergeEtch s cause mask pages = some t → Agree L z t := by
  have r0 : 256 &&& L = 256 := sub_trans rfl hL
  have r1 : 32 &&& L = 32 := sub_trans rfl hL
  intro t ht
  unfold State.mergeEtch at ht
  try dsimp only at ht
  repeat' split at ht
  all_goals first
    | contradiction
    | (have e := Option.some.inj ht
       subst e
       repeat' (first
           | intro _ | with_reducible exact h | with_reducible assumption | with_reducible apply same_ite
           | with_reducible apply same_foldl | with_reducible apply same_foldl_fst | simp only [same_store r0, same_lanes r1]
           | split))
    | (refine id  ?_ _ ht
       repeat' (first
           | intro _ | with_reducible exact h | with_reducible assumption | with_reducible apply same_ite
           | with_reducible apply same_foldl | with_reducible apply same_foldl_fst | simp only [same_store r0, same_lanes r1]
           | split))

theorem State.postEtch_same {L : Nat} {z s : State} (hL : 288 &&& L = 288) (h : Agree L z s) (cause : Nat) (mask : Nat)
    (pages : List Nat) :
    Agree L z (State.postEtch s cause mask pages) := by
  unfold State.postEtch
  have h1 : Agree L z ((s.mergeEtch cause mask pages).getD (s.postLane .etch (etchLevel cause) 0x60 cause mask pages)) := by
    cases hm : s.mergeEtch cause mask pages with
    | none => exact State.postLane_same (sub_trans rfl hL) h _ _ _ _ _ _
    | some t => exact State.mergeEtch_same (sub_trans rfl hL) h _ _ _ t hm
  dsimp only
  split
  · exact same_ite (State.stopEtch_same (sub_trans rfl hL) h1 _) h1
  · exact h1

theorem State.postFollowOn_same {L : Nat} {z s : State} (hL : 288 &&& L = 288) (h : Agree L z s) (cause : Nat) :
    Agree L z (State.postFollowOn s cause) := by
  have r0 : 256 &&& L = 256 := sub_trans rfl hL
  unfold State.postFollowOn
  repeat' (first
      | intro _ | with_reducible exact h | with_reducible assumption | with_reducible apply State.postEtch_same hL
      | with_reducible apply same_ite | with_reducible apply same_foldl | with_reducible apply same_foldl_fst
      | simp only [same_store r0] | split)

theorem State.admitEtch_same {L : Nat} {z s : State} (hL : 360 &&& L = 360) (h : Agree L z s) (w : EtchWait) :
    Agree L z (State.admitEtch s w) := by
  have q0 : 64 &&& L = 64 := sub_trans rfl hL
  have q1 : 8 &&& L = 8 := sub_trans rfl hL
  have q2 : 264 &&& L = 264 := sub_trans rfl hL
  have q3 : 264 &&& L = 264 := sub_trans rfl hL
  have q4 : 288 &&& L = 288 := sub_trans rfl hL
  have q5 : 32 &&& L = 32 := sub_trans rfl hL
  have r0 : 256 &&& L = 256 := sub_trans rfl hL
  unfold State.admitEtch
  repeat' (first
      | intro _ | with_reducible exact h | with_reducible assumption | with_reducible apply State.raise_same q0
      | with_reducible apply State.setLive_same q1 | with_reducible apply State.bump_same q2
      | with_reducible apply State.setPers_same q3 | with_reducible apply State.postFollowOn_same q4
      | with_reducible apply State.freeLane_same q5 | with_reducible apply same_ite | with_reducible apply same_foldl
      | with_reducible apply same_foldl_fst | simp only [same_store r0] | split)

theorem State.admitNext_same {L : Nat} {z s : State} (hL : 360 &&& L = 360) (h : Agree L z s) (fuel : Nat) :
    Agree L z (State.admitNext fuel s) := by
  have r0 : 256 &&& L = 256 := sub_trans rfl hL
  induction fuel generalizing s with
  | zero =>
    unfold State.admitNext
    exact h
  | succ f ih =>
    unfold State.admitNext
    repeat' (first
        | intro _ | with_reducible exact h | with_reducible assumption | with_reducible apply ih
        | with_reducible apply State.admitEtch_same hL | with_reducible apply same_ite | with_reducible apply same_foldl
        | with_reducible apply same_foldl_fst | simp only [same_store r0] | split)

theorem State.etchIdle_same {L : Nat} {z s : State} (hL : 360 &&& L = 360) (h : Agree L z s)  :
    Agree L z (State.etchIdle s) := by
  unfold State.etchIdle
  repeat' (first
      | intro _ | with_reducible exact h | with_reducible assumption | with_reducible apply State.admitNext_same hL
      | with_reducible apply same_ite | with_reducible apply same_foldl | with_reducible apply same_foldl_fst | split)

theorem State.abortEtch_same {L : Nat} {z s : State} (hL : 360 &&& L = 360) (h : Agree L z s)  :
    Agree L z (State.abortEtch s) := by
  have q0 : 288 &&& L = 288 := sub_trans rfl hL
  unfold State.abortEtch
  repeat' (first
      | intro _ | with_reducible exact h | with_reducible assumption | with_reducible apply State.stopEtch_same q0
      | with_reducible apply State.etchIdle_same hL | with_reducible apply same_ite | with_reducible apply same_foldl
      | with_reducible apply same_foldl_fst | split)

theorem State.setPort_same {L : Nat} {z s : State} (hL : 536870912 &&& L = 536870912) (h : Agree L z s) (p : Nat) (x : PortState) :
    Agree L z (State.setPort s p x) := by
  have r0 : 536870912 &&& L = 536870912 := sub_trans rfl hL
  unfold State.setPort
  repeat' (first
      | intro _ | with_reducible exact h | with_reducible assumption | with_reducible apply same_ite
      | with_reducible apply same_foldl | with_reducible apply same_foldl_fst | simp only [same_hosts r0] | split)

theorem State.renew_same {L : Nat} {z s : State} (hL : 536870912 &&& L = 536870912) (h : Agree L z s) (p : Nat) :
    Agree L z (State.renew s p) := by
  unfold State.renew
  repeat' (first
      | intro _ | with_reducible exact h | with_reducible assumption | with_reducible apply State.setPort_same hL
      | with_reducible apply same_ite | with_reducible apply same_foldl | with_reducible apply same_foldl_fst | split)

theorem State.accept_same {L : Nat} {z s : State} (hL : 536870912 &&& L = 536870912) (h : Agree L z s) (p : Nat) (bs : List Byte) :
    Agree L z (State.accept s p bs) := by
  unfold State.accept
  repeat' (first
      | intro _ | with_reducible exact h | with_reducible assumption | with_reducible apply State.setPort_same hL
      | with_reducible apply State.renew_same hL | with_reducible apply same_ite | with_reducible apply same_foldl
      | with_reducible apply same_foldl_fst | split)

theorem State.setStip_same {L : Nat} {z s : State} (hL : 4194304 &&& L = 4194304) (h : Agree L z s) (n : Nat) (r : Stip) :
    Agree L z (State.setStip s n r) := by
  have r0 : 4194304 &&& L = 4194304 := sub_trans rfl hL
  unfold State.setStip
  repeat' (first
      | intro _ | with_reducible exact h | with_reducible assumption | with_reducible apply same_ite
      | with_reducible apply same_foldl | with_reducible apply same_foldl_fst | simp only [same_stips r0] | split)

theorem State.stipUnloaded_same {L : Nat} {z s : State} (hL : 4194336 &&& L = 4194336) (h : Agree L z s) (n : Nat) :
    Agree L z (State.stipUnloaded s n) := by
  have q0 : 4194304 &&& L = 4194304 := sub_trans rfl hL
  have q1 : 32 &&& L = 32 := sub_trans rfl hL
  unfold State.stipUnloaded
  repeat' (first
      | intro _ | with_reducible exact h | with_reducible assumption | with_reducible apply State.setStip_same q0
      | with_reducible apply State.freeLaneOf_same q1 | with_reducible apply same_ite | with_reducible apply same_foldl
      | with_reducible apply same_foldl_fst | split)

theorem State.setSink_same {L : Nat} {z s : State} (hL : 8388608 &&& L = 8388608) (h : Agree L z s) (n : Nat) (k : Sink) :
    Agree L z (State.setSink s n k) := by
  have r0 : 8388608 &&& L = 8388608 := sub_trans rfl hL
  unfold State.setSink
  repeat' (first
      | intro _ | with_reducible exact h | with_reducible assumption | with_reducible apply same_ite
      | with_reducible apply same_foldl | with_reducible apply same_foldl_fst | simp only [same_sinks r0] | split)

theorem State.freePower_same {L : Nat} {z s : State} (hL : 25165824 &&& L = 25165824) (h : Agree L z s) (n : Nat) (g : Nat) :
    Agree L z (State.freePower s n g) := by
  have q0 : 8388608 &&& L = 8388608 := sub_trans rfl hL
  have r0 : 16777216 &&& L = 16777216 := sub_trans rfl hL
  unfold State.freePower
  repeat' (first
      | intro _ | with_reducible exact h | with_reducible assumption | with_reducible apply State.setSink_same q0
      | with_reducible apply same_ite | with_reducible apply same_foldl | with_reducible apply same_foldl_fst
      | simp only [same_gov r0] | split)

theorem State.lapseDone_same {L : Nat} {z s : State} (hL : 8388936 &&& L = 8388936) (h : Agree L z s) (n : Nat) :
    Agree L z (State.lapseDone s n) := by
  have q0 : 264 &&& L = 264 := sub_trans rfl hL
  have q1 : 8388608 &&& L = 8388608 := sub_trans rfl hL
  have q2 : 64 &&& L = 64 := sub_trans rfl hL
  unfold State.lapseDone
  repeat' (first
      | intro _ | with_reducible exact h | with_reducible assumption | with_reducible apply State.bump_same q0
      | with_reducible apply State.setSink_same q1 | with_reducible apply State.raise_same q2 | with_reducible apply same_ite
      | with_reducible apply same_foldl | with_reducible apply same_foldl_fst | split)

theorem State.coolEnergy_same {L : Nat} {z s : State} (hL : 25165824 &&& L = 25165824) (h : Agree L z s) (n : Nat) :
    Agree L z (State.coolEnergy s n) := by
  have q0 : 8388608 &&& L = 8388608 := sub_trans rfl hL
  have r0 : 16777216 &&& L = 16777216 := sub_trans rfl hL
  unfold State.coolEnergy
  repeat' (first
      | intro _ | with_reducible exact h | with_reducible assumption | with_reducible apply State.setSink_same q0
      | with_reducible apply same_ite | with_reducible apply same_foldl | with_reducible apply same_foldl_fst
      | simp only [same_gov r0] | split)

theorem State.sinkDone_same {L : Nat} {z s : State} (hL : 25166152 &&& L = 25166152) (h : Agree L z s) (n : Nat) :
    Agree L z (State.sinkDone s n) := by
  have q0 : 8388608 &&& L = 8388608 := sub_trans rfl hL
  have q1 : 25165824 &&& L = 25165824 := sub_trans rfl hL
  have q2 : 8388936 &&& L = 8388936 := sub_trans rfl hL
  have q3 : 25165824 &&& L = 25165824 := sub_trans rfl hL
  unfold State.sinkDone
  repeat' (first
      | intro _ | with_reducible exact h | with_reducible assumption | with_reducible apply State.setSink_same q0
      | with_reducible apply State.freePower_same q1 | with_reducible apply State.lapseDone_same q2
      | with_reducible apply State.coolEnergy_same q3 | with_reducible apply same_ite | with_reducible apply same_foldl
      | with_reducible apply same_foldl_fst | split)

theorem State.removeSink_same {L : Nat} {z s : State} (hL : 25166152 &&& L = 25166152) (h : Agree L z s) (n : Nat) (slew : Nat) :
    Agree L z (State.removeSink s n slew) := by
  have q1 : 8388608 &&& L = 8388608 := sub_trans rfl hL
  unfold State.removeSink
  repeat' (first
      | intro _ | with_reducible exact h | with_reducible assumption | with_reducible apply State.sinkDone_same hL
      | with_reducible apply State.setSink_same q1 | with_reducible apply same_ite | with_reducible apply same_foldl
      | with_reducible apply same_foldl_fst | split)

theorem State.acquireEnd_same {L : Nat} {z s : State} (hL : 29360488 &&& L = 29360488) (h : Agree L z s) (n : Nat) :
    Agree L z (State.acquireEnd s n) := by
  have q0 : 4194304 &&& L = 4194304 := sub_trans rfl hL
  have q1 : 4194336 &&& L = 4194336 := sub_trans rfl hL
  have q2 : 25166152 &&& L = 25166152 := sub_trans rfl hL
  unfold State.acquireEnd
  repeat' (first
      | intro _ | with_reducible exact h | with_reducible assumption | with_reducible apply State.setStip_same q0
      | with_reducible apply State.stipUnloaded_same q1 | with_reducible apply State.removeSink_same q2
      | with_reducible apply same_ite | with_reducible apply same_foldl | with_reducible apply same_foldl_fst | split)

theorem State.restampRun_same {L : Nat} {z s : State} (hL : 64 &&& L = 64) (h : Agree L z s) (f : Nat) :
    Agree L z (State.restampRun s f) := by
  have r0 : 64 &&& L = 64 := sub_trans rfl hL
  unfold State.restampRun
  repeat' (first
      | intro _ | with_reducible exact h | with_reducible assumption | with_reducible apply same_ite
      | with_reducible apply same_foldl | with_reducible apply same_foldl_fst | simp only [same_coll r0] | split)

theorem State.inputReview_same {L : Nat} {z s : State} (hL : 163840 &&& L = 163840) (h : Agree L z s)  :
    Agree L z (State.inputReview s) := by
  have r0 : 32768 &&& L = 32768 := sub_trans rfl hL
  have r1 : 163840 &&& L = 163840 := sub_trans rfl hL
  unfold State.inputReview
  repeat' (first
      | intro _ | with_reducible exact h | with_reducible assumption | with_reducible apply same_ite
      | with_reducible apply same_foldl | with_reducible apply same_foldl_fst | simp only [same_input r0, same_input_seq r1]
      | split)

theorem State.returnInrush_same {L : Nat} {z s : State} (hL : 8 &&& L = 8) (h : Agree L z s) (t : Nat) :
    Agree L z (State.returnInrush s t) := by
  unfold State.returnInrush
  repeat' (first
      | intro _ | with_reducible exact h | with_reducible assumption | with_reducible apply State.setLive_same hL
      | with_reducible apply same_ite | with_reducible apply same_foldl | with_reducible apply same_foldl_fst | split)

theorem State.setFeed_same {L : Nat} {z s : State} (hL : 33554432 &&& L = 33554432) (h : Agree L z s) (f : Nat) (x : Feed) :
    Agree L z (State.setFeed s f x) := by
  have r0 : 33554432 &&& L = 33554432 := sub_trans rfl hL
  unfold State.setFeed
  repeat' (first
      | intro _ | with_reducible exact h | with_reducible assumption | with_reducible apply same_ite
      | with_reducible apply same_foldl | with_reducible apply same_foldl_fst | simp only [same_feeds r0] | split)

theorem State.endRamp_same {L : Nat} {z s : State} (hL : 33554760 &&& L = 33554760) (h : Agree L z s) (f : Nat) :
    Agree L z (State.endRamp s f) := by
  have q0 : 8 &&& L = 8 := sub_trans rfl hL
  have q1 : 264 &&& L = 264 := sub_trans rfl hL
  have q2 : 8 &&& L = 8 := sub_trans rfl hL
  have q3 : 33554432 &&& L = 33554432 := sub_trans rfl hL
  have q4 : 64 &&& L = 64 := sub_trans rfl hL
  unfold State.endRamp
  repeat' (first
      | intro _ | with_reducible exact h | with_reducible assumption | with_reducible apply State.setLive_same q0
      | with_reducible apply State.bump_same q1 | with_reducible apply State.returnInrush_same q2
      | with_reducible apply State.setFeed_same q3 | with_reducible apply State.raise_same q4 | with_reducible apply same_ite
      | with_reducible apply same_foldl | with_reducible apply same_foldl_fst | split)

theorem State.moveFeed_same {L : Nat} {z s : State} (hL : 33554432 &&& L = 33554432) (h : Agree L z s) (f : Nat) (st : FeedState) :
    Agree L z (State.moveFeed s f st) := by
  unfold State.moveFeed
  repeat' (first
      | intro _ | with_reducible exact h | with_reducible assumption | with_reducible apply State.setFeed_same hL
      | with_reducible apply same_ite | with_reducible apply same_foldl | with_reducible apply same_foldl_fst | split)

theorem State.openFeed_same {L : Nat} {z s : State} (hL : 33718600 &&& L = 33718600) (h : Agree L z s) (f : Nat) (st : FeedState) :
    Agree L z (State.openFeed s f st) := by
  have q0 : 163840 &&& L = 163840 := sub_trans rfl hL
  have q1 : 33554760 &&& L = 33554760 := sub_trans rfl hL
  have q2 : 33554432 &&& L = 33554432 := sub_trans rfl hL
  have q3 : 33554432 &&& L = 33554432 := sub_trans rfl hL
  unfold State.openFeed
  repeat' (first
      | intro _ | with_reducible exact h | with_reducible assumption | with_reducible apply State.inputReview_same q0
      | with_reducible apply State.endRamp_same q1 | with_reducible apply State.moveFeed_same q2
      | with_reducible apply State.setFeed_same q3 | with_reducible apply same_ite | with_reducible apply same_foldl
      | with_reducible apply same_foldl_fst | split)

theorem State.raiseFeed_same {L : Nat} {z s : State} (hL : 64 &&& L = 64) (h : Agree L z s) (f : Nat) (kind : Nat) :
    Agree L z (State.raiseFeed s f kind) := by
  unfold State.raiseFeed
  repeat' (first
      | intro _ | with_reducible exact h | with_reducible assumption | with_reducible apply State.raise_same hL
      | with_reducible apply same_ite | with_reducible apply same_foldl | with_reducible apply same_foldl_fst | split)

theorem State.actTrip_same {L : Nat} {z s : State} (hL : 33718632 &&& L = 33718632) (h : Agree L z s) (f : Nat) (kind : Nat) :
    Agree L z (State.actTrip s f kind) := by
  have q0 : 288 &&& L = 288 := sub_trans rfl hL
  have q1 : 64 &&& L = 64 := sub_trans rfl hL
  have q2 : 33718600 &&& L = 33718600 := sub_trans rfl hL
  have q3 : 264 &&& L = 264 := sub_trans rfl hL
  have q4 : 264 &&& L = 264 := sub_trans rfl hL
  have q5 : 64 &&& L = 64 := sub_trans rfl hL
  have q6 : 33554432 &&& L = 33554432 := sub_trans rfl hL
  unfold State.actTrip
  repeat' (first
      | intro _ | with_reducible exact h | with_reducible assumption | with_reducible apply State.postEtch_same q0
      | with_reducible apply State.restampRun_same q1 | with_reducible apply State.openFeed_same q2
      | with_reducible apply State.bump_same q3 | with_reducible apply State.setPers_same q4
      | with_reducible apply State.raiseFeed_same q5 | with_reducible apply State.setFeed_same q6 | with_reducible apply same_ite
      | with_reducible apply same_foldl | with_reducible apply same_foldl_fst | split)

theorem State.setUpd_same {L : Nat} {z s : State} (hL : 268435456 &&& L = 268435456) (h : Agree L z s) (x : UpdState) :
    Agree L z (State.setUpd s x) := by
  have r0 : 268435456 &&& L = 268435456 := sub_trans rfl hL
  unfold State.setUpd
  repeat' (first
      | intro _ | with_reducible exact h | with_reducible assumption | with_reducible apply same_ite
      | with_reducible apply same_foldl | with_reducible apply same_foldl_fst | simp only [same_upd r0] | split)

theorem State.writeRecord_same {L : Nat} {z s : State} (hL : 134217728 &&& L = 134217728) (h : Agree L z s) (r : ActRecord) :
    Agree L z (State.writeRecord s r) := by
  have r0 : 134217728 &&& L = 134217728 := sub_trans rfl hL
  unfold State.writeRecord
  repeat' (first
      | intro _ | with_reducible exact h | with_reducible assumption | with_reducible apply same_ite
      | with_reducible apply same_foldl | with_reducible apply same_foldl_fst | simp only [same_loader r0] | split)

theorem State.holdCores_same {L : Nat} {z s : State} (hL : 512 &&& L = 512) (h : Agree L z s)  :
    Agree L z (State.holdCores s) := by
  have r0 : 512 &&& L = 512 := sub_trans rfl hL
  unfold State.holdCores
  repeat' (first
      | intro _ | with_reducible exact h | with_reducible assumption | with_reducible apply same_ite
      | with_reducible apply same_foldl | with_reducible apply same_foldl_fst | simp only [same_cores r0] | split)

theorem State.updReason_same {L : Nat} {z s : State} (hL : 8 &&& L = 8) (h : Agree L z s) (r : Nat) :
    Agree L z (State.updReason s r) := by
  unfold State.updReason
  repeat' (first
      | intro _ | with_reducible exact h | with_reducible assumption | with_reducible apply State.setLive_same hL
      | with_reducible apply same_ite | with_reducible apply same_foldl | with_reducible apply same_foldl_fst | split)

theorem State.activation_same {L : Nat} {z s : State} (hL : 402653960 &&& L = 402653960) (h : Agree L z s)  :
    Agree L z (State.activation s) := by
  have q0 : 268435456 &&& L = 268435456 := sub_trans rfl hL
  have q1 : 134217728 &&& L = 134217728 := sub_trans rfl hL
  have q2 : 512 &&& L = 512 := sub_trans rfl hL
  have q3 : 264 &&& L = 264 := sub_trans rfl hL
  have q4 : 8 &&& L = 8 := sub_trans rfl hL
  have r0 : 268435456 &&& L = 268435456 := sub_trans rfl hL
  unfold State.activation
  repeat' (first
      | intro _ | with_reducible exact h | with_reducible assumption | with_reducible apply State.setUpd_same q0
      | with_reducible apply State.writeRecord_same q1 | with_reducible apply State.holdCores_same q2
      | with_reducible apply State.bump_same q3 | with_reducible apply State.updReason_same q4 | with_reducible apply same_ite
      | with_reducible apply same_foldl | with_reducible apply same_foldl_fst | simp only [same_upd r0] | split)

theorem State.addCount_same {L : Nat} {z s : State} (hL : 264 &&& L = 264) (h : Agree L z s) (key : Nat) (n : Nat) :
    Agree L z (State.addCount s key n) := by
  unfold State.addCount
  repeat' (first
      | intro _ | with_reducible exact h | with_reducible assumption | with_reducible apply State.setPers_same hL
      | with_reducible apply same_ite | with_reducible apply same_foldl | with_reducible apply same_foldl_fst | split)

theorem State.addHigh_same {L : Nat} {z s : State} (hL : 264 &&& L = 264) (h : Agree L z s) (key : Nat) (d : Nat) :
    Agree L z (State.addHigh s key d) := by
  unfold State.addHigh
  repeat' (first
      | intro _ | with_reducible exact h | with_reducible assumption | with_reducible apply State.setPers_same hL
      | with_reducible apply same_ite | with_reducible apply same_foldl | with_reducible apply same_foldl_fst | split)

theorem State.advance_same {L : Nat} {z s : State} (hL : 1185410973700 &&& L = 1185410973700) (h : Agree L z s)  :
    Agree L z (State.advance s) := by
  have r0 : 1185410973700 &&& L = 1185410973700 := sub_trans rfl hL
  unfold State.advance
  repeat' (first
      | intro _ | with_reducible exact h | with_reducible assumption | with_reducible apply same_ite
      | with_reducible apply same_foldl | with_reducible apply same_foldl_fst | simp only [same_fab_startClk_filterClk_ticked r0]
      | split)

theorem State.joined_same {L : Nat} {z s : State} (hL : 10 &&& L = 10) (h : Agree L z s)  :
    Agree L z (State.joined s) := by
  have q0 : 8 &&& L = 8 := sub_trans rfl hL
  have r0 : 2 &&& L = 2 := sub_trans rfl hL
  unfold State.joined
  repeat' (first
      | intro _ | with_reducible exact h | with_reducible assumption | with_reducible apply State.setLive_same q0
      | with_reducible apply same_ite | with_reducible apply same_foldl | with_reducible apply same_foldl_fst
      | simp only [same_phase r0] | split)

theorem State.wake_same {L : Nat} {z s : State} (hL : 1073742088 &&& L = 1073742088) (h : Agree L z s)  :
    Agree L z (State.wake s) := by
  have q0 : 264 &&& L = 264 := sub_trans rfl hL
  have r0 : 1073741824 &&& L = 1073741824 := sub_trans rfl hL
  unfold State.wake
  repeat' (first
      | intro _ | with_reducible exact h | with_reducible assumption | with_reducible apply State.bump_same q0
      | with_reducible apply same_ite | with_reducible apply same_foldl | with_reducible apply same_foldl_fst
      | simp only [same_power r0] | split)

theorem State.powerReview_same {L : Nat} {z s : State} (hL : 1073742088 &&& L = 1073742088) (h : Agree L z s)  :
    Agree L z (State.powerReview s) := by
  have r0 : 1073741824 &&& L = 1073741824 := sub_trans rfl hL
  unfold State.powerReview
  repeat' (first
      | intro _ | with_reducible exact h | with_reducible assumption | with_reducible apply State.wake_same hL
      | with_reducible apply same_ite | with_reducible apply same_foldl | with_reducible apply same_foldl_fst
      | simp only [same_power r0] | split)

theorem State.setAreaState_same {L : Nat} {z s : State} (hL : 2199023255824 &&& L = 2199023255824) (h : Agree L z s) (area : Nat)
    (st : Nat) :
    Agree L z (State.setAreaState s area st) := by
  have w8 : 2199023255824 &&& L = 2199023255824 := sub_trans rfl hL
  unfold State.setAreaState
  repeat' (first
      | intro _ | with_reducible exact h | with_reducible assumption | with_reducible apply writeAreaHead_same w8
      | with_reducible apply same_ite | with_reducible apply same_foldl | with_reducible apply same_foldl_fst | split)

theorem State.fellBack_same {L : Nat} {z s0 : State} (hL : 2199425909080 &&& L = 2199425909080) (h : Agree L z s0)  :
    Agree L z (State.fellBack s0) := by
  have q0 : 268435456 &&& L = 268435456 := sub_trans rfl hL
  have q1 : 264 &&& L = 264 := sub_trans rfl hL
  have q2 : 8 &&& L = 8 := sub_trans rfl hL
  have q3 : 2199023255824 &&& L = 2199023255824 := sub_trans rfl hL
  have q4 : 64 &&& L = 64 := sub_trans rfl hL
  have r0 : 134217728 &&& L = 134217728 := sub_trans rfl hL
  unfold State.fellBack
  repeat' (first
      | intro _ | with_reducible exact h | with_reducible assumption | with_reducible apply State.setUpd_same q0
      | with_reducible apply State.bump_same q1 | with_reducible apply State.updReason_same q2
      | with_reducible apply State.setAreaState_same q3 | with_reducible apply State.raise_same q4 | with_reducible apply same_ite
      | with_reducible apply same_foldl | with_reducible apply same_foldl_fst | simp only [same_loader r0] | split)

theorem State.trialLost_same {L : Nat} {z s : State} (hL : 134218056 &&& L = 134218056) (h : Agree L z s) (reason : Nat) :
    Agree L z (State.trialLost s reason) := by
  have q0 : 264 &&& L = 264 := sub_trans rfl hL
  have q1 : 8 &&& L = 8 := sub_trans rfl hL
  have q2 : 64 &&& L = 64 := sub_trans rfl hL
  have r0 : 134217728 &&& L = 134217728 := sub_trans rfl hL
  unfold State.trialLost
  repeat' (first
      | intro _ | with_reducible exact h | with_reducible assumption | with_reducible apply State.bump_same q0
      | with_reducible apply State.updReason_same q1 | with_reducible apply State.raise_same q2 | with_reducible apply same_ite
      | with_reducible apply same_foldl | with_reducible apply same_foldl_fst | simp only [same_loader r0] | split)

theorem State.startTrial_same {L : Nat} {z s : State} (hL : 402653248 &&& L = 402653248) (h : Agree L z s)  :
    Agree L z (State.startTrial s) := by
  have q0 : 134217728 &&& L = 134217728 := sub_trans rfl hL
  have q1 : 64 &&& L = 64 := sub_trans rfl hL
  have r0 : 268435456 &&& L = 268435456 := sub_trans rfl hL
  unfold State.startTrial
  repeat' (first
      | intro _ | with_reducible exact h | with_reducible assumption | with_reducible apply State.writeRecord_same q0
      | with_reducible apply State.raise_same q1 | with_reducible apply same_ite | with_reducible apply same_foldl
      | with_reducible apply same_foldl_fst | simp only [same_upd r0] | split)

theorem State.trialFail_same {L : Nat} {z s : State} (hL : 134218568 &&& L = 134218568) (h : Agree L z s) (reason : Nat) :
    Agree L z (State.trialFail s reason) := by
  have q0 : 134218056 &&& L = 134218056 := sub_trans rfl hL
  have q1 : 512 &&& L = 512 := sub_trans rfl hL
  unfold State.trialFail
  repeat' (first
      | intro _ | with_reducible exact h | with_reducible assumption | with_reducible apply State.trialLost_same q0
      | with_reducible apply State.holdCores_same q1 | with_reducible apply same_ite | with_reducible apply same_foldl
      | with_reducible apply same_foldl_fst | split)

theorem State.bootPower_same {L : Nat} {z s : State} (hL : 2199425909592 &&& L = 2199425909592) (h : Agree L z s) (lost : Bool) :
    Agree L z (State.bootPower s lost) := by
  have q0 : 2199425909080 &&& L = 2199425909080 := sub_trans rfl hL
  have q1 : 134218056 &&& L = 134218056 := sub_trans rfl hL
  have q2 : 402653248 &&& L = 402653248 := sub_trans rfl hL
  have q3 : 134218568 &&& L = 134218568 := sub_trans rfl hL
  unfold State.bootPower
  repeat' (first
      | intro _ | with_reducible exact h | with_reducible assumption | with_reducible apply State.fellBack_same q0
      | with_reducible apply State.trialLost_same q1 | with_reducible apply State.startTrial_same q2
      | with_reducible apply State.trialFail_same q3 | with_reducible apply same_ite | with_reducible apply same_foldl
      | with_reducible apply same_foldl_fst | split)

theorem State.phaseSettle_same {L : Nat} {z s : State} (hL : 2199425910618 &&& L = 2199425910618) (h : Agree L z s)  :
    Agree L z (State.phaseSettle s) := by
  have q0 : 2199425909592 &&& L = 2199425909592 := sub_trans rfl hL
  have r0 : 1026 &&& L = 1026 := sub_trans rfl hL
  unfold State.phaseSettle
  repeat' (first
      | intro _ | with_reducible exact h | with_reducible assumption | with_reducible apply State.bootPower_same q0
      | with_reducible apply same_ite | with_reducible apply same_foldl | with_reducible apply same_foldl_fst
      | simp only [same_phase_conv r0] | split)

theorem State.trimGrants_same {L : Nat} {z s : State} (hL : 25166152 &&& L = 25166152) (h : Agree L z s) (fuel : Nat)
    (levels : List Nat) (need : Nat) (count : Nat) (report : Bool) :
    Agree L z (State.trimGrants fuel s levels need count report).1 := by
  have q1 := sub_trans (a := 8388608) rfl hL
  induction fuel generalizing s levels need with
  | zero => unfold State.trimGrants; exact h
  | succ f ih =>
    cases levels with
    | nil => unfold State.trimGrants; exact h
    | cons l rest =>
      unfold State.trimGrants
      split
      · exact h
      · split
        · exact ih h _ _
        · dsimp only
          apply ih
          apply same_ite
          · exact State.raise_same (sub_trans rfl hL) (State.bump_same (sub_trans rfl hL) (State.setSink_same (sub_trans rfl hL) (State.freePower_same (sub_trans rfl hL) h _ _) _ _) _) _ _ _
          · exact State.bump_same (sub_trans rfl hL) (State.setSink_same (sub_trans rfl hL) (State.freePower_same (sub_trans rfl hL) h _ _) _ _) _

theorem State.takeForReserve_same {L : Nat} {z s : State} (hL : 25166152 &&& L = 25166152) (h : Agree L z s) (need : Nat) :
    Agree L z (State.takeForReserve s need).1 := by
  have r0 : 16777216 &&& L = 16777216 := sub_trans rfl hL
  unfold State.takeForReserve
  repeat' (first
      | intro _ | with_reducible exact h | with_reducible assumption | with_reducible apply State.trimGrants_same hL
      | with_reducible apply same_ite | with_reducible apply same_foldl | with_reducible apply same_foldl_fst
      | simp only [same_gov r0] | split)

theorem State.setReserve_same {L : Nat} {z s : State} (hL : 25166152 &&& L = 25166152) (h : Agree L z s) (v : Nat) :
    Agree L z (State.setReserve s v) := by
  have r0 : 16777216 &&& L = 16777216 := sub_trans rfl hL
  unfold State.setReserve
  repeat' (first
      | intro _ | with_reducible exact h | with_reducible assumption | with_reducible apply State.takeForReserve_same hL
      | with_reducible apply same_ite | with_reducible apply same_foldl | with_reducible apply same_foldl_fst
      | simp only [same_gov r0] | split)

theorem State.reserveReview_same {L : Nat} {z s : State} (hL : 25166152 &&& L = 25166152) (h : Agree L z s)  :
    Agree L z (State.reserveReview s) := by
  have r0 : 16777216 &&& L = 16777216 := sub_trans rfl hL
  unfold State.reserveReview
  repeat' (first
      | intro _ | with_reducible exact h | with_reducible assumption | with_reducible apply State.setReserve_same hL
      | with_reducible apply same_ite | with_reducible apply same_foldl | with_reducible apply same_foldl_fst
      | simp only [same_gov r0] | split)

theorem State.reviewStandby_same {L : Nat} {z s : State} (hL : 8388608 &&& L = 8388608) (h : Agree L z s)  :
    Agree L z (State.reviewStandby s) := by
  unfold State.reviewStandby
  repeat' (first
      | intro _ | with_reducible exact h | with_reducible assumption | with_reducible apply State.setSink_same hL
      | with_reducible apply same_ite | with_reducible apply same_foldl | with_reducible apply same_foldl_fst | split)

theorem State.governed_same {L : Nat} {z s : State} (hL : 25166152 &&& L = 25166152) (h : Agree L z s)  :
    Agree L z (State.governed s) := by
  have q1 : 8388608 &&& L = 8388608 := sub_trans rfl hL
  unfold State.governed
  repeat' (first
      | intro _ | with_reducible exact h | with_reducible assumption | with_reducible apply State.reserveReview_same hL
      | with_reducible apply State.reviewStandby_same q1 | with_reducible apply same_ite | with_reducible apply same_foldl
      | with_reducible apply same_foldl_fst | split)

theorem State.setHealth_same {L : Nat} {z s : State} (hL : 268435456 &&& L = 268435456) (h : Agree L z s) (bit : Nat) :
    Agree L z (State.setHealth s bit) := by
  have r0 : 268435456 &&& L = 268435456 := sub_trans rfl hL
  unfold State.setHealth
  repeat' (first
      | intro _ | with_reducible exact h | with_reducible assumption | with_reducible apply same_ite
      | with_reducible apply same_foldl | with_reducible apply same_foldl_fst | simp only [same_upd r0] | split)

theorem State.healthSettle_same {L : Nat} {z s : State} (hL : 268435456 &&& L = 268435456) (h : Agree L z s)  :
    Agree L z (State.healthSettle s) := by
  unfold State.healthSettle
  repeat' (first
      | intro _ | with_reducible exact h | with_reducible assumption | with_reducible apply State.setHealth_same hL
      | with_reducible apply same_ite | with_reducible apply same_foldl | with_reducible apply same_foldl_fst | split)

theorem State.leftReserve_same {L : Nat} {z s : State} (hL : 256 &&& L = 256) (h : Agree L z s)  :
    Agree L z (State.leftReserve s) := by
  have r0 : 256 &&& L = 256 := sub_trans rfl hL
  unfold State.leftReserve
  repeat' (first
      | intro _ | with_reducible exact h | with_reducible assumption | with_reducible apply same_ite
      | with_reducible apply same_foldl | with_reducible apply same_foldl_fst | simp only [same_store r0] | split)

theorem State.unraise_same {L : Nat} {z s : State} (hL : 64 &&& L = 64) (h : Agree L z s) (f : Nat) (kinds : List Nat) :
    Agree L z (State.unraise s f kinds) := by
  have r0 : 64 &&& L = 64 := sub_trans rfl hL
  unfold State.unraise
  repeat' (first
      | intro _ | with_reducible exact h | with_reducible assumption | with_reducible apply same_ite
      | with_reducible apply same_foldl | with_reducible apply same_foldl_fst | simp only [same_coll r0] | split)

theorem State.tripFeed_same {L : Nat} {z s : State} (hL : 33718632 &&& L = 33718632) (h : Agree L z s) (f : Nat) (kind : Nat) :
    Agree L z (State.tripFeed s f kind) := by
  have q1 : 64 &&& L = 64 := sub_trans rfl hL
  have q2 : 264 &&& L = 264 := sub_trans rfl hL
  have q3 : 64 &&& L = 64 := sub_trans rfl hL
  have q4 : 33554432 &&& L = 33554432 := sub_trans rfl hL
  unfold State.tripFeed
  repeat' (first
      | intro _ | with_reducible exact h | with_reducible assumption | with_reducible apply State.actTrip_same hL
      | with_reducible apply State.unraise_same q1 | with_reducible apply State.setPers_same q2
      | with_reducible apply State.raiseFeed_same q3 | with_reducible apply State.setFeed_same q4 | with_reducible apply same_ite
      | with_reducible apply same_foldl | with_reducible apply same_foldl_fst | split)

theorem State.gatesFeed_same {L : Nat} {z s : State} (hL : 33718632 &&& L = 33718632) (h : Agree L z s) (f : Nat) :
    Agree L z (State.gatesFeed s f) := by
  unfold State.gatesFeed
  repeat' (first
      | intro _ | with_reducible exact h | with_reducible assumption | with_reducible apply State.tripFeed_same hL
      | with_reducible apply same_ite | with_reducible apply same_foldl | with_reducible apply same_foldl_fst | split)

theorem State.pullGates_same {L : Nat} {z s : State} (hL : 33718632 &&& L = 33718632) (h : Agree L z s)  :
    Agree L z (State.pullGates s) := by
  unfold State.pullGates
  repeat' (first
      | intro _ | with_reducible exact h | with_reducible assumption | with_reducible apply State.gatesFeed_same hL
      | with_reducible apply same_ite | with_reducible apply same_foldl | with_reducible apply same_foldl_fst | split)

theorem State.noteCandidate_same {L : Nat} {z s : State} (hL : 524288 &&& L = 524288) (h : Agree L z s) (n : Nat) (c : Nat)
    (onset : Stamp) :
    Agree L z (State.noteCandidate s n c onset) := by
  have r0 : 524288 &&& L = 524288 := sub_trans rfl hL
  unfold State.noteCandidate
  repeat' (first
      | intro _ | with_reducible exact h | with_reducible assumption | with_reducible apply same_ite
      | with_reducible apply same_foldl | with_reducible apply same_foldl_fst | simp only [same_railWins r0] | split)

theorem State.bumpLive_same {L : Nat} {z s : State} (hL : 8 &&& L = 8) (h : Agree L z s) (key : Nat) :
    Agree L z (State.bumpLive s key) := by
  unfold State.bumpLive
  repeat' (first
      | intro _ | with_reducible exact h | with_reducible assumption | with_reducible apply State.setLive_same hL
      | with_reducible apply same_ite | with_reducible apply same_foldl | with_reducible apply same_foldl_fst | split)

theorem State.lateTrigger_same {L : Nat} {z s : State} (hL : 8 &&& L = 8) (h : Agree L z s) (source : Nat) (addr : Nat) (st : Stamp) :
    Agree L z (State.lateTrigger s source addr st) := by
  unfold State.lateTrigger
  repeat' (first
      | intro _ | with_reducible exact h | with_reducible assumption | with_reducible apply State.setLive_same hL
      | with_reducible apply State.bumpLive_same hL | with_reducible apply same_ite | with_reducible apply same_foldl
      | with_reducible apply same_foldl_fst | split)

theorem State.armOnTrigger_same {L : Nat} {z s : State} (hL : 2080 &&& L = 2080) (h : Agree L z s)  :
    Agree L z (State.armOnTrigger s) := by
  have q0 : 32 &&& L = 32 := sub_trans rfl hL
  have r0 : 2048 &&& L = 2048 := sub_trans rfl hL
  unfold State.armOnTrigger
  repeat' (first
      | intro _ | with_reducible exact h | with_reducible assumption | with_reducible apply State.postLane_same q0
      | with_reducible apply same_ite | with_reducible apply same_foldl | with_reducible apply same_foldl_fst
      | simp only [same_cap r0] | split)

theorem State.recordTrigger_same {L : Nat} {z s : State} (hL : 4232 &&& L = 4232) (h : Agree L z s) (source : Nat) (addr : Nat)
    (st : Stamp) :
    Agree L z (State.recordTrigger s source addr st) := by
  have q0 : 8 &&& L = 8 := sub_trans rfl hL
  have r0 : 4224 &&& L = 4224 := sub_trans rfl hL
  unfold State.recordTrigger
  repeat' (first
      | intro _ | with_reducible exact h | with_reducible assumption | with_reducible apply State.setLive_same q0
      | with_reducible apply same_ite | with_reducible apply same_foldl | with_reducible apply same_foldl_fst
      | simp only [same_ledger_ring r0] | split)

theorem State.ringTrigger_same {L : Nat} {z s : State} (hL : 6312 &&& L = 6312) (h : Agree L z s) (source : Nat) (addr : Nat)
    (st : Stamp) :
    Agree L z (State.ringTrigger s source addr st) := by
  have q0 : 8 &&& L = 8 := sub_trans rfl hL
  have q1 : 2080 &&& L = 2080 := sub_trans rfl hL
  have q2 : 4232 &&& L = 4232 := sub_trans rfl hL
  unfold State.ringTrigger
  repeat' (first
      | intro _ | with_reducible exact h | with_reducible assumption | with_reducible apply State.lateTrigger_same q0
      | with_reducible apply State.armOnTrigger_same q1 | with_reducible apply State.recordTrigger_same q2
      | with_reducible apply same_ite | with_reducible apply same_foldl | with_reducible apply same_foldl_fst | split)

theorem State.urgent_same {L : Nat} {z s : State} (hL : 1024 &&& L = 1024) (h : Agree L z s) (ch : Nat) (rank : Nat) (crossing : Bool) :
    Agree L z (State.urgent s ch rank crossing) := by
  have r0 : 1024 &&& L = 1024 := sub_trans rfl hL
  unfold State.urgent
  repeat' (first
      | intro _ | with_reducible exact h | with_reducible assumption | with_reducible apply same_ite
      | with_reducible apply same_foldl | with_reducible apply same_foldl_fst | simp only [same_conv r0] | split)

theorem State.urgentCross_same {L : Nat} {z s : State} (hL : 1024 &&& L = 1024) (h : Agree L z s) (n : Nat) :
    Agree L z (State.urgentCross s n) := by
  unfold State.urgentCross
  repeat' (first
      | intro _ | with_reducible exact h | with_reducible assumption | with_reducible apply State.urgent_same hL
      | with_reducible apply same_ite | with_reducible apply same_foldl | with_reducible apply same_foldl_fst | split)

theorem State.sendQual_same {L : Nat} {z s : State} (hL : 7336 &&& L = 7336) (h : Agree L z s) (h : HeldQual) :
    Agree L z (State.sendQual s h) := by
  have q0 : 6312 &&& L = 6312 := sub_trans rfl hL
  have q1 : 1024 &&& L = 1024 := sub_trans rfl hL
  unfold State.sendQual
  repeat' (first
      | intro _ | with_reducible exact h | with_reducible assumption | with_reducible apply State.ringTrigger_same q0
      | with_reducible apply State.urgentCross_same q1 | with_reducible apply same_ite | with_reducible apply same_foldl
      | with_reducible apply same_foldl_fst | split)

theorem State.recordQual_same {L : Nat} {z s : State} (hL : 531944 &&& L = 531944) (h : Agree L z s) (n : Nat) (c : Nat) :
    Agree L z (State.recordQual s n c) := by
  have q0 : 524288 &&& L = 524288 := sub_trans rfl hL
  have q1 : 64 &&& L = 64 := sub_trans rfl hL
  have q2 : 7336 &&& L = 7336 := sub_trans rfl hL
  have q3 : 8 &&& L = 8 := sub_trans rfl hL
  have q4 : 264 &&& L = 264 := sub_trans rfl hL
  have r0 : 4096 &&& L = 4096 := sub_trans rfl hL
  unfold State.recordQual
  repeat' (first
      | intro _ | with_reducible exact h | with_reducible assumption | with_reducible apply State.noteCandidate_same q0
      | with_reducible apply State.raise_same q1 | with_reducible apply State.sendQual_same q2
      | with_reducible apply State.setLive_same q3 | with_reducible apply State.bump_same q4 | with_reducible apply same_ite
      | with_reducible apply same_foldl | with_reducible apply same_foldl_fst | simp only [same_ring r0] | split)

theorem State.stipSchedule_same {L : Nat} {z s : State} (hL : 4194304 &&& L = 4194304) (h : Agree L z s) (n : Nat) (beat : Count) :
    Agree L z (State.stipSchedule s n beat) := by
  unfold State.stipSchedule
  repeat' (first
      | intro _ | with_reducible exact h | with_reducible assumption | with_reducible apply State.setStip_same hL
      | with_reducible apply same_ite | with_reducible apply same_foldl | with_reducible apply same_foldl_fst | split)

theorem State.stipNext_same {L : Nat} {z s : State} (hL : 4194304 &&& L = 4194304) (h : Agree L z s) (n : Nat) :
    Agree L z (State.stipNext s n) := by
  unfold State.stipNext
  repeat' (first
      | intro _ | with_reducible exact h | with_reducible assumption | with_reducible apply State.stipSchedule_same hL
      | with_reducible apply same_ite | with_reducible apply same_foldl | with_reducible apply same_foldl_fst | split)

theorem State.stipEnd_same {L : Nat} {z s : State} (hL : 4194632 &&& L = 4194632) (h : Agree L z s) (n : Nat) (reason : Nat)
    (st : StipState) :
    Agree L z (State.stipEnd s n reason st) := by
  have q0 : 4194304 &&& L = 4194304 := sub_trans rfl hL
  have q1 : 4194304 &&& L = 4194304 := sub_trans rfl hL
  have q2 : 264 &&& L = 264 := sub_trans rfl hL
  have q3 : 8 &&& L = 8 := sub_trans rfl hL
  have q4 : 64 &&& L = 64 := sub_trans rfl hL
  unfold State.stipEnd
  repeat' (first
      | intro _ | with_reducible exact h | with_reducible assumption | with_reducible apply State.setStip_same q0
      | with_reducible apply State.stipNext_same q1 | with_reducible apply State.bump_same q2
      | with_reducible apply State.setLive_same q3 | with_reducible apply State.raise_same q4 | with_reducible apply same_ite
      | with_reducible apply same_foldl | with_reducible apply same_foldl_fst | split)

theorem State.stipAbort_same {L : Nat} {z s : State} (hL : 29362536 &&& L = 29362536) (h : Agree L z s) (n : Nat) (reason : Nat) :
    Agree L z (State.stipAbort s n reason) := by
  have q0 : 2080 &&& L = 2080 := sub_trans rfl hL
  have q1 : 4194632 &&& L = 4194632 := sub_trans rfl hL
  have q2 : 2088 &&& L = 2088 := sub_trans rfl hL
  have q3 : 25166152 &&& L = 25166152 := sub_trans rfl hL
  have q4 : 32 &&& L = 32 := sub_trans rfl hL
  have q5 : 25165824 &&& L = 25165824 := sub_trans rfl hL
  unfold State.stipAbort
  repeat' (first
      | intro _ | with_reducible exact h | with_reducible assumption | with_reducible apply State.withdrawCapture_same q0
      | with_reducible apply State.stipEnd_same q1 | with_reducible apply State.endCapture_same q2
      | with_reducible apply State.removeSink_same q3 | with_reducible apply State.freeLaneOf_same q4
      | with_reducible apply State.coolEnergy_same q5 | with_reducible apply same_ite | with_reducible apply same_foldl
      | with_reducible apply same_foldl_fst | split)

theorem State.freeRailLane_same {L : Nat} {z s : State} (hL : 32 &&& L = 32) (h : Agree L z s) (n : Nat) (kind : LaneKind) :
    Agree L z (State.freeRailLane s n kind) := by
  have r0 : 32 &&& L = 32 := sub_trans rfl hL
  unfold State.freeRailLane
  repeat' (first
      | intro _ | with_reducible exact h | with_reducible assumption | with_reducible apply same_ite
      | with_reducible apply same_foldl | with_reducible apply same_foldl_fst | simp only [same_lanes r0] | split)

theorem State.leaveOn_same {L : Nat} {z s : State} (hL : 29362536 &&& L = 29362536) (h : Agree L z s) (n : Nat) :
    Agree L z (State.leaveOn s n) := by
  unfold State.leaveOn
  repeat' (first
      | intro _ | with_reducible exact h | with_reducible assumption | with_reducible apply State.stipAbort_same hL
      | with_reducible apply same_ite | with_reducible apply same_foldl | with_reducible apply same_foldl_fst | split)

theorem State.lateStart_same {L : Nat} {z s : State} (hL : 72 &&& L = 72) (h : Agree L z s)  :
    Agree L z (State.lateStart s) := by
  have q0 : 8 &&& L = 8 := sub_trans rfl hL
  have q1 : 64 &&& L = 64 := sub_trans rfl hL
  unfold State.lateStart
  repeat' (first
      | intro _ | with_reducible exact h | with_reducible assumption | with_reducible apply State.bumpLive_same q0
      | with_reducible apply State.raise_same q1 | with_reducible apply same_ite | with_reducible apply same_foldl
      | with_reducible apply same_foldl_fst | split)

theorem State.setRail_same {L : Nat} {z s : State} (hL : 65536 &&& L = 65536) (h : Agree L z s) (n : Nat) (r : Rail) :
    Agree L z (State.setRail s n r) := by
  have r0 : 65536 &&& L = 65536 := sub_trans rfl hL
  unfold State.setRail
  repeat' (first
      | intro _ | with_reducible exact h | with_reducible assumption | with_reducible apply same_ite
      | with_reducible apply same_foldl | with_reducible apply same_foldl_fst | simp only [same_rails r0] | split)

theorem State.raiseDischarge_same {L : Nat} {z s : State} (hL : 8388608 &&& L = 8388608) (h : Agree L z s) (n : Nat) :
    Agree L z (State.raiseDischarge s n) := by
  unfold State.raiseDischarge
  repeat' (first
      | intro _ | with_reducible exact h | with_reducible assumption | with_reducible apply State.setSink_same hL
      | with_reducible apply same_ite | with_reducible apply same_foldl | with_reducible apply same_foldl_fst | split)

theorem State.moveRail_same {L : Nat} {z s : State} (hL : 65536 &&& L = 65536) (h : Agree L z s) (n : Nat) (x : RailState) :
    Agree L z (State.moveRail s n x) := by
  unfold State.moveRail
  repeat' (first
      | intro _ | with_reducible exact h | with_reducible assumption | with_reducible apply State.setRail_same hL
      | with_reducible apply same_ite | with_reducible apply same_foldl | with_reducible apply same_foldl_fst | split)

theorem State.takeIn_same {L : Nat} {z s : State} (hL : 29428072 &&& L = 29428072) (h : Agree L z s) (n : Nat) (anchor : Stamp)
    (urgent : Bool) :
    Agree L z (State.takeIn s n anchor urgent) := by
  have q0 : 32 &&& L = 32 := sub_trans rfl hL
  have q1 : 29362536 &&& L = 29362536 := sub_trans rfl hL
  have q2 : 72 &&& L = 72 := sub_trans rfl hL
  have q3 : 65536 &&& L = 65536 := sub_trans rfl hL
  have q4 : 8388608 &&& L = 8388608 := sub_trans rfl hL
  have q5 : 65536 &&& L = 65536 := sub_trans rfl hL
  unfold State.takeIn
  try dsimp only
  repeat' (first
      | intro _ | with_reducible exact h | with_reducible assumption | with_reducible apply State.freeRailLane_same q0
      | with_reducible apply State.leaveOn_same q1 | with_reducible apply State.lateStart_same q2
      | with_reducible apply State.setRail_same q3 | with_reducible apply State.raiseDischarge_same q4
      | with_reducible apply State.moveRail_same q5 | with_reducible apply same_ite | with_reducible apply same_foldl
      | with_reducible apply same_foldl_fst | split | dsimp only)

theorem State.later_same {L : Nat} {z s : State} (hL : 65536 &&& L = 65536) (h : Agree L z s) (n : Nat) (x : RailNext) :
    Agree L z (State.later s n x) := by
  unfold State.later
  repeat' (first
      | intro _ | with_reducible exact h | with_reducible assumption | with_reducible apply State.setRail_same hL
      | with_reducible apply same_ite | with_reducible apply same_foldl | with_reducible apply same_foldl_fst | split)

theorem State.enterPass_same {L : Nat} {z s : State} (hL : 29428072 &&& L = 29428072) (h : Agree L z s) (n : Nat) (anchor : Stamp)
    (urgent : Bool) :
    Agree L z (State.enterPass s n anchor urgent) := by
  have q1 : 65536 &&& L = 65536 := sub_trans rfl hL
  unfold State.enterPass
  try dsimp only
  repeat' (first
      | intro _ | with_reducible exact h | with_reducible assumption | with_reducible apply State.takeIn_same hL
      | with_reducible apply State.later_same q1 | with_reducible apply same_ite | with_reducible apply same_foldl
      | with_reducible apply same_foldl_fst | split | dsimp only)

theorem State.startDependent_same {L : Nat} {z s : State} (hL : 29559144 &&& L = 29559144) (h : Agree L z s) (m : Nat) (anchor : Stamp) :
    Agree L z (State.startDependent s m anchor) := by
  have q0 : 29428072 &&& L = 29428072 := sub_trans rfl hL
  have r0 : 131072 &&& L = 131072 := sub_trans rfl hL
  unfold State.startDependent
  repeat' (first
      | intro _ | with_reducible exact h | with_reducible assumption | with_reducible apply State.enterPass_same q0
      | with_reducible apply same_ite | with_reducible apply same_foldl | with_reducible apply same_foldl_fst
      | simp only [same_seq r0] | split)

theorem State.dropJob_same {L : Nat} {z s : State} (hL : 262176 &&& L = 262176) (h : Agree L z s) (id : Nat) :
    Agree L z (State.dropJob s id) := by
  have q0 : 32 &&& L = 32 := sub_trans rfl hL
  have r0 : 262144 &&& L = 262144 := sub_trans rfl hL
  unfold State.dropJob
  repeat' (first
      | intro _ | with_reducible exact h | with_reducible assumption | with_reducible apply State.freeLaneOf_same q0
      | with_reducible apply same_ite | with_reducible apply same_foldl | with_reducible apply same_foldl_fst
      | simp only [same_pmb r0] | split)

theorem State.dropJobs_same {L : Nat} {z s : State} (hL : 262176 &&& L = 262176) (h : Agree L z s) (test : PmbJob → Bool) :
    Agree L z (State.dropJobs s test) := by
  unfold State.dropJobs
  repeat' (first
      | intro _ | with_reducible exact h | with_reducible assumption | with_reducible apply State.dropJob_same hL
      | with_reducible apply same_ite | with_reducible apply same_foldl | with_reducible apply same_foldl_fst | split)

theorem State.showAnchor_same {L : Nat} {z s : State} (hL : 131080 &&& L = 131080) (h : Agree L z s) (a : Stamp) :
    Agree L z (State.showAnchor s a) := by
  have q0 : 8 &&& L = 8 := sub_trans rfl hL
  have r0 : 131072 &&& L = 131072 := sub_trans rfl hL
  unfold State.showAnchor
  repeat' (first
      | intro _ | with_reducible exact h | with_reducible assumption | with_reducible apply State.setLive_same q0
      | with_reducible apply same_ite | with_reducible apply same_foldl | with_reducible apply same_foldl_fst
      | simp only [same_seq r0] | split)

theorem State.startPass_same {L : Nat} {z s : State} (hL : 29559144 &&& L = 29559144) (h : Agree L z s) (target : Nat)
    (anchor : Stamp) (shut : Bool) :
    Agree L z (State.startPass s target anchor shut) := by
  have q0 : 131080 &&& L = 131080 := sub_trans rfl hL
  have q1 : 29428072 &&& L = 29428072 := sub_trans rfl hL
  have r0 : 131072 &&& L = 131072 := sub_trans rfl hL
  unfold State.startPass
  repeat' (first
      | intro _ | with_reducible exact h | with_reducible assumption | with_reducible apply State.showAnchor_same q0
      | with_reducible apply State.enterPass_same q1 | with_reducible apply same_ite | with_reducible apply same_foldl
      | with_reducible apply same_foldl_fst | simp only [same_seq r0] | split)

theorem State.postShutdown_same {L : Nat} {z s : State} (hL : 29821288 &&& L = 29821288) (h : Agree L z s) (anchor : Stamp) :
    Agree L z (State.postShutdown s anchor) := by
  have q0 : 262176 &&& L = 262176 := sub_trans rfl hL
  have q1 : 29559144 &&& L = 29559144 := sub_trans rfl hL
  have r0 : 131072 &&& L = 131072 := sub_trans rfl hL
  unfold State.postShutdown
  repeat' (first
      | intro _ | with_reducible exact h | with_reducible assumption | with_reducible apply State.dropJobs_same q0
      | with_reducible apply State.startPass_same q1 | with_reducible apply same_ite | with_reducible apply same_foldl
      | with_reducible apply same_foldl_fst | simp only [same_seq r0] | split)

theorem State.noteCause_same {L : Nat} {z s : State} (hL : 8 &&& L = 8) (h : Agree L z s) (cause : Nat) :
    Agree L z (State.noteCause s cause) := by
  unfold State.noteCause
  repeat' (first
      | intro _ | with_reducible exact h | with_reducible assumption | with_reducible apply State.setLive_same hL
      | with_reducible apply same_ite | with_reducible apply same_foldl | with_reducible apply same_foldl_fst | split)

theorem State.localShutdown_same {L : Nat} {z s : State} (hL : 29821288 &&& L = 29821288) (h : Agree L z s) (cause : Nat)
    (anchor : Stamp) :
    Agree L z (State.localShutdown s cause anchor) := by
  have q1 : 264 &&& L = 264 := sub_trans rfl hL
  have q2 : 8 &&& L = 8 := sub_trans rfl hL
  have q3 : 64 &&& L = 64 := sub_trans rfl hL
  have r0 : 131072 &&& L = 131072 := sub_trans rfl hL
  unfold State.localShutdown
  repeat' (first
      | intro _ | with_reducible exact h | with_reducible assumption | with_reducible apply State.postShutdown_same hL
      | with_reducible apply State.bump_same q1 | with_reducible apply State.noteCause_same q2
      | with_reducible apply State.raiseAt_same q3 | with_reducible apply same_ite | with_reducible apply same_foldl
      | with_reducible apply same_foldl_fst | simp only [same_seq r0] | split)

theorem State.tripScope_same {L : Nat} {z s : State} (hL : 29821288 &&& L = 29821288) (h : Agree L z s) (m : Nat) (anchor : Stamp) :
    Agree L z (State.tripScope s m anchor) := by
  have q0 : 29559144 &&& L = 29559144 := sub_trans rfl hL
  have r0 : 131072 &&& L = 131072 := sub_trans rfl hL
  unfold State.tripScope
  repeat' (first
      | intro _ | with_reducible exact h | with_reducible assumption | with_reducible apply State.startDependent_same q0
      | with_reducible apply State.localShutdown_same hL | with_reducible apply same_ite | with_reducible apply same_foldl
      | with_reducible apply same_foldl_fst | simp only [same_seq r0] | split)

theorem State.setFlag_same {L : Nat} {z s : State} (hL : 8 &&& L = 8) (h : Agree L z s) (n : Nat) (b : Nat) :
    Agree L z (State.setFlag s n b) := by
  unfold State.setFlag
  repeat' (first
      | intro _ | with_reducible exact h | with_reducible assumption | with_reducible apply State.setLive_same hL
      | with_reducible apply same_ite | with_reducible apply same_foldl | with_reducible apply same_foldl_fst | split)

theorem State.postPmb_same {L : Nat} {z s : State} (hL : 262176 &&& L = 262176) (h : Agree L z s) (n : Nat) (what : PmbWhat)
    (code : Nat) (data : Nat) (level : Nat) :
    Agree L z (State.postPmb s n what code data level) := by
  have q0 : 32 &&& L = 32 := sub_trans rfl hL
  have r0 : 262144 &&& L = 262144 := sub_trans rfl hL
  unfold State.postPmb
  repeat' (first
      | intro _ | with_reducible exact h | with_reducible assumption | with_reducible apply State.postLane_same q0
      | with_reducible apply same_ite | with_reducible apply same_foldl | with_reducible apply same_foldl_fst
      | simp only [same_pmb r0] | split)

theorem State.muteJobs_same {L : Nat} {z s : State} (hL : 262176 &&& L = 262176) (h : Agree L z s) (test : PmbJob → Bool) :
    Agree L z (State.muteJobs s test) := by
  have r0 : 262144 &&& L = 262144 := sub_trans rfl hL
  unfold State.muteJobs
  repeat' (first
      | intro _ | with_reducible exact h | with_reducible assumption | with_reducible apply State.dropJobs_same hL
      | with_reducible apply same_ite | with_reducible apply same_foldl | with_reducible apply same_foldl_fst
      | simp only [same_pmb r0] | split)

theorem State.takeRailLane_same {L : Nat} {z s : State} (hL : 32 &&& L = 32) (h : Agree L z s) (n : Nat) (kind : LaneKind) (base : Nat) :
    Agree L z (State.takeRailLane s n kind base) := by
  have r0 : 32 &&& L = 32 := sub_trans rfl hL
  unfold State.takeRailLane
  repeat' (first
      | intro _ | with_reducible exact h | with_reducible assumption | with_reducible apply same_ite
      | with_reducible apply same_foldl | with_reducible apply same_foldl_fst | simp only [same_lanes r0] | split)

theorem State.postPower_same {L : Nat} {z s : State} (hL : 8388608 &&& L = 8388608) (h : Agree L z s) (n : Nat) (level : Nat) :
    Agree L z (State.postPower s n level) := by
  unfold State.postPower
  repeat' (first
      | intro _ | with_reducible exact h | with_reducible assumption | with_reducible apply State.setSink_same hL
      | with_reducible apply same_ite | with_reducible apply same_foldl | with_reducible apply same_foldl_fst | split)

theorem State.startDischarge_same {L : Nat} {z s : State} (hL : 25166152 &&& L = 25166152) (h : Agree L z s) (n : Nat) (level : Nat)
    (fast : Bool) (drive : Bool) :
    Agree L z (State.startDischarge s n level fast drive) := by
  have q1 : 8388608 &&& L = 8388608 := sub_trans rfl hL
  have q2 : 25165824 &&& L = 25165824 := sub_trans rfl hL
  have q3 : 8388608 &&& L = 8388608 := sub_trans rfl hL
  unfold State.startDischarge
  repeat' (first
      | intro _ | with_reducible exact h | with_reducible assumption | with_reducible apply State.removeSink_same hL
      | with_reducible apply State.setSink_same q1 | with_reducible apply State.coolEnergy_same q2
      | with_reducible apply State.postPower_same q3 | with_reducible apply same_ite | with_reducible apply same_foldl
      | with_reducible apply same_foldl_fst | split)

theorem State.setMargin_same {L : Nat} {z s : State} (hL : 2097152 &&& L = 2097152) (h : Agree L z s) (n : Nat) (m : Margin) :
    Agree L z (State.setMargin s n m) := by
  have r0 : 2097152 &&& L = 2097152 := sub_trans rfl hL
  unfold State.setMargin
  repeat' (first
      | intro _ | with_reducible exact h | with_reducible assumption | with_reducible apply same_ite
      | with_reducible apply same_foldl | with_reducible apply same_foldl_fst | simp only [same_margins r0] | split)

theorem State.marginRelease_same {L : Nat} {z s : State} (hL : 2359328 &&& L = 2359328) (h : Agree L z s) (n : Nat) (level : Nat) :
    Agree L z (State.marginRelease s n level) := by
  have q0 : 32 &&& L = 32 := sub_trans rfl hL
  have q1 : 262176 &&& L = 262176 := sub_trans rfl hL
  have q2 : 2097152 &&& L = 2097152 := sub_trans rfl hL
  have q3 : 262176 &&& L = 262176 := sub_trans rfl hL
  unfold State.marginRelease
  repeat' (first
      | intro _ | with_reducible exact h | with_reducible assumption | with_reducible apply State.freeRailLane_same q0
      | with_reducible apply State.postPmb_same q1 | with_reducible apply State.setMargin_same q2
      | with_reducible apply State.muteJobs_same q3 | with_reducible apply same_ite | with_reducible apply same_foldl
      | with_reducible apply same_foldl_fst | split)

theorem State.release_same {L : Nat} {z s : State} (hL : 31918440 &&& L = 31918440) (h : Agree L z s) (n : Nat) (fast : Bool)
    (drive : Bool) :
    Agree L z (State.release s n fast drive) := by
  have q0 : 262176 &&& L = 262176 := sub_trans rfl hL
  have q1 : 29362536 &&& L = 29362536 := sub_trans rfl hL
  have q2 : 262176 &&& L = 262176 := sub_trans rfl hL
  have q3 : 65536 &&& L = 65536 := sub_trans rfl hL
  have q4 : 262176 &&& L = 262176 := sub_trans rfl hL
  have q5 : 65536 &&& L = 65536 := sub_trans rfl hL
  have q6 : 32 &&& L = 32 := sub_trans rfl hL
  have q7 : 25166152 &&& L = 25166152 := sub_trans rfl hL
  have q8 : 2359328 &&& L = 2359328 := sub_trans rfl hL
  have r0 : 131072 &&& L = 131072 := sub_trans rfl hL
  unfold State.release
  repeat' (first
      | intro _ | with_reducible exact h | with_reducible assumption | with_reducible apply State.postPmb_same q0
      | with_reducible apply State.leaveOn_same q1 | with_reducible apply State.dropJobs_same q2
      | with_reducible apply State.moveRail_same q3 | with_reducible apply State.muteJobs_same q4
      | with_reducible apply State.setRail_same q5 | with_reducible apply State.takeRailLane_same q6
      | with_reducible apply State.startDischarge_same q7 | with_reducible apply State.marginRelease_same q8
      | with_reducible apply same_ite | with_reducible apply same_foldl | with_reducible apply same_foldl_fst
      | simp only [same_seq r0] | split)

theorem State.fastRelease_same {L : Nat} {z s : State} (hL : 31918440 &&& L = 31918440) (h : Agree L z s) (n : Nat) (drive : Bool)
    (anchor : Stamp) :
    Agree L z (State.fastRelease s n drive anchor) := by
  have q0 : 29821288 &&& L = 29821288 := sub_trans rfl hL
  have q1 : 8 &&& L = 8 := sub_trans rfl hL
  have q3 : 65536 &&& L = 65536 := sub_trans rfl hL
  have q4 : 25166152 &&& L = 25166152 := sub_trans rfl hL
  unfold State.fastRelease
  repeat' (first
      | intro _ | with_reducible exact h | with_reducible assumption | with_reducible apply State.tripScope_same q0
      | with_reducible apply State.setFlag_same q1 | with_reducible apply State.release_same hL
      | with_reducible apply State.setRail_same q3 | with_reducible apply State.startDischarge_same q4
      | with_reducible apply same_ite | with_reducible apply same_foldl | with_reducible apply same_foldl_fst | split)

theorem State.qualify_same {L : Nat} {z s : State} (hL : 66035176 &&& L = 66035176) (h : Agree L z s) (n : Nat) (cs : List Nat) :
    Agree L z (State.qualify s n cs) := by
  have q0 : 33718632 &&& L = 33718632 := sub_trans rfl hL
  have q1 : 531944 &&& L = 531944 := sub_trans rfl hL
  have q2 : 29362536 &&& L = 29362536 := sub_trans rfl hL
  have q3 : 31918440 &&& L = 31918440 := sub_trans rfl hL
  unfold State.qualify
  repeat' (first
      | intro _ | with_reducible exact h | with_reducible assumption | with_reducible apply State.pullGates_same q0
      | with_reducible apply State.recordQual_same q1 | with_reducible apply State.stipAbort_same q2
      | with_reducible apply State.fastRelease_same q3 | with_reducible apply same_ite | with_reducible apply same_foldl
      | with_reducible apply same_foldl_fst | split)

theorem State.reviewRoles_same {L : Nat} {z s : State} (hL : 66035176 &&& L = 66035176) (h : Agree L z s) (n : Nat) :
    Agree L z (State.reviewRoles s n) := by
  have q1 : 65536 &&& L = 65536 := sub_trans rfl hL
  unfold State.reviewRoles
  repeat' (first
      | intro _ | with_reducible exact h | with_reducible assumption | with_reducible apply State.qualify_same hL
      | with_reducible apply State.setRail_same q1 | with_reducible apply same_ite | with_reducible apply same_foldl
      | with_reducible apply same_foldl_fst | split)

theorem State.unlock_same {L : Nat} {z s : State} (hL : 65536 &&& L = 65536) (h : Agree L z s) (n : Nat) :
    Agree L z (State.unlock s n) := by
  unfold State.unlock
  repeat' (first
      | intro _ | with_reducible exact h | with_reducible assumption | with_reducible apply State.moveRail_same hL
      | with_reducible apply State.later_same hL | with_reducible apply same_ite | with_reducible apply same_foldl
      | with_reducible apply same_foldl_fst | split)

theorem State.unlockRails_same {L : Nat} {z s : State} (hL : 65536 &&& L = 65536) (h : Agree L z s)  :
    Agree L z (State.unlockRails s) := by
  unfold State.unlockRails
  repeat' (first
      | intro _ | with_reducible exact h | with_reducible assumption | with_reducible apply State.unlock_same hL
      | with_reducible apply same_ite | with_reducible apply same_foldl | with_reducible apply same_foldl_fst | split)

theorem State.depRule_same {L : Nat} {z s : State} (hL : 196872 &&& L = 196872) (h : Agree L z s)  :
    ∀ t, State.depRule s = some t → Agree L z t := by
  have q0 : 65536 &&& L = 65536 := sub_trans rfl hL
  have q1 : 264 &&& L = 264 := sub_trans rfl hL
  have r0 : 131072 &&& L = 131072 := sub_trans rfl hL
  intro t ht
  unfold State.depRule at ht
  try dsimp only at ht
  repeat' split at ht
  all_goals first
    | contradiction
    | (have e := Option.some.inj ht
       subst e
       repeat' (first
           | intro _ | with_reducible exact h | with_reducible assumption | with_reducible apply State.unlockRails_same q0
           | with_reducible apply State.bump_same q1 | with_reducible apply same_ite | with_reducible apply same_foldl
           | with_reducible apply same_foldl_fst | simp only [same_seq r0] | split))
    | (refine State.unlockRails_same q0 ?_ _ ht
       repeat' (first
           | intro _ | with_reducible exact h | with_reducible assumption | with_reducible apply State.unlockRails_same q0
           | with_reducible apply State.bump_same q1 | with_reducible apply same_ite | with_reducible apply same_foldl
           | with_reducible apply same_foldl_fst | simp only [same_seq r0] | split))

theorem State.clearCauses_same {L : Nat} {z s : State} (hL : 131072 &&& L = 131072) (h : Agree L z s)  :
    Agree L z (State.clearCauses s) := by
  have r0 : 131072 &&& L = 131072 := sub_trans rfl hL
  unfold State.clearCauses
  repeat' (first
      | intro _ | with_reducible exact h | with_reducible assumption | with_reducible apply same_ite
      | with_reducible apply same_foldl | with_reducible apply same_foldl_fst | simp only [same_seq r0] | split)

theorem State.turnOn_same {L : Nat} {z s : State} (hL : 327712 &&& L = 327712) (h : Agree L z s) (n : Nat) :
    Agree L z (State.turnOn s n) := by
  have q0 : 262176 &&& L = 262176 := sub_trans rfl hL
  have q1 : 65536 &&& L = 65536 := sub_trans rfl hL
  have q2 : 65536 &&& L = 65536 := sub_trans rfl hL
  have q3 : 32 &&& L = 32 := sub_trans rfl hL
  unfold State.turnOn
  repeat' (first
      | intro _ | with_reducible exact h | with_reducible assumption | with_reducible apply State.postPmb_same q0
      | with_reducible apply State.moveRail_same q1 | with_reducible apply State.setRail_same q2
      | with_reducible apply State.takeRailLane_same q3 | with_reducible apply same_ite | with_reducible apply same_foldl
      | with_reducible apply same_foldl_fst | split)

theorem State.railSlot_same {L : Nat} {z s : State} (hL : 327712 &&& L = 327712) (h : Agree L z s) (n : Nat) :
    Agree L z (State.railSlot s n) := by
  have q1 : 65536 &&& L = 65536 := sub_trans rfl hL
  have q2 : 65536 &&& L = 65536 := sub_trans rfl hL
  unfold State.railSlot
  try dsimp only
  repeat' (first
      | intro _ | with_reducible exact h | with_reducible assumption | with_reducible apply State.turnOn_same hL
      | with_reducible apply State.setRail_same q1 | with_reducible apply State.moveRail_same q2 | with_reducible apply same_ite
      | with_reducible apply same_foldl | with_reducible apply same_foldl_fst | split | dsimp only)

theorem State.setFilter_same {L : Nat} {z s : State} (hL : 65536 &&& L = 65536) (h : Agree L z s) (n : Nat) (c : Nat) (f : Filter) :
    Agree L z (State.setFilter s n c f) := by
  unfold State.setFilter
  repeat' (first
      | intro _ | with_reducible exact h | with_reducible assumption | with_reducible apply State.setRail_same hL
      | with_reducible apply same_ite | with_reducible apply same_foldl | with_reducible apply same_foldl_fst | split)

theorem State.onFailShutdown_same {L : Nat} {z s : State} (hL : 29821288 &&& L = 29821288) (h : Agree L z s) (n : Nat) :
    Agree L z (State.onFailShutdown s n) := by
  unfold State.onFailShutdown
  repeat' (first
      | intro _ | with_reducible exact h | with_reducible assumption | with_reducible apply State.localShutdown_same hL
      | with_reducible apply same_ite | with_reducible apply same_foldl | with_reducible apply same_foldl_fst | split)

theorem State.enterOn_same {L : Nat} {z s : State} (hL : 65568 &&& L = 65568) (h : Agree L z s) (n : Nat) :
    Agree L z (State.enterOn s n) := by
  have q0 : 32 &&& L = 32 := sub_trans rfl hL
  have q1 : 65536 &&& L = 65536 := sub_trans rfl hL
  have q2 : 65536 &&& L = 65536 := sub_trans rfl hL
  unfold State.enterOn
  repeat' (first
      | intro _ | with_reducible exact h | with_reducible assumption | with_reducible apply State.freeRailLane_same q0
      | with_reducible apply State.moveRail_same q1 | with_reducible apply State.setRail_same q2 | with_reducible apply same_ite
      | with_reducible apply same_foldl | with_reducible apply same_foldl_fst | split)

theorem State.readStatus_same {L : Nat} {z s : State} (hL : 262176 &&& L = 262176) (h : Agree L z s) (n : Nat) :
    Agree L z (State.readStatus s n) := by
  unfold State.readStatus
  repeat' (first
      | intro _ | with_reducible exact h | with_reducible assumption | with_reducible apply State.postPmb_same hL
      | with_reducible apply same_ite | with_reducible apply same_foldl | with_reducible apply same_foldl_fst | split)

theorem State.rampTimeout_same {L : Nat} {z s : State} (hL : 31918440 &&& L = 31918440) (h : Agree L z s) (n : Nat) :
    Agree L z (State.rampTimeout s n) := by
  have q0 : 264 &&& L = 264 := sub_trans rfl hL
  have q1 : 29821288 &&& L = 29821288 := sub_trans rfl hL
  have q2 : 8 &&& L = 8 := sub_trans rfl hL
  have q4 : 65568 &&& L = 65568 := sub_trans rfl hL
  have q5 : 262176 &&& L = 262176 := sub_trans rfl hL
  have q6 : 64 &&& L = 64 := sub_trans rfl hL
  unfold State.rampTimeout
  repeat' (first
      | intro _ | with_reducible exact h | with_reducible assumption | with_reducible apply State.bump_same q0
      | with_reducible apply State.onFailShutdown_same q1 | with_reducible apply State.setFlag_same q2
      | with_reducible apply State.release_same hL | with_reducible apply State.enterOn_same q4
      | with_reducible apply State.readStatus_same q5 | with_reducible apply State.raise_same q6 | with_reducible apply same_ite
      | with_reducible apply same_foldl | with_reducible apply same_foldl_fst | split)

theorem State.railQualify_same {L : Nat} {z s : State} (hL : 65568 &&& L = 65568) (h : Agree L z s) (n : Nat) :
    Agree L z (State.railQualify s n) := by
  unfold State.railQualify
  try dsimp only
  repeat' (first
      | intro _ | with_reducible exact h | with_reducible assumption | with_reducible apply State.enterOn_same hL
      | with_reducible apply same_ite | with_reducible apply same_foldl | with_reducible apply same_foldl_fst | split
      | dsimp only)

theorem State.rampRow_same {L : Nat} {z s : State} (hL : 31918440 &&& L = 31918440) (h : Agree L z s) (n : Nat) :
    Agree L z (State.rampRow s n) := by
  have q1 : 65568 &&& L = 65568 := sub_trans rfl hL
  unfold State.rampRow
  repeat' (first
      | intro _ | with_reducible exact h | with_reducible assumption | with_reducible apply State.rampTimeout_same hL
      | with_reducible apply State.railQualify_same q1 | with_reducible apply same_ite | with_reducible apply same_foldl
      | with_reducible apply same_foldl_fst | split)

theorem State.qualifyAll_same {L : Nat} {z s : State} (hL : 66035176 &&& L = 66035176) (h : Agree L z s) (n : Nat) :
    Agree L z (State.qualifyAll s n) := by
  have q0 : 65536 &&& L = 65536 := sub_trans rfl hL
  have q2 : 31918440 &&& L = 31918440 := sub_trans rfl hL
  unfold State.qualifyAll
  repeat' (first
      | intro _ | with_reducible exact h | with_reducible assumption | with_reducible apply State.setFilter_same q0
      | with_reducible apply State.qualify_same hL | with_reducible apply State.rampRow_same q2 | with_reducible apply same_ite
      | with_reducible apply same_foldl | with_reducible apply same_foldl_fst | split)

theorem State.prereqTimeout_same {L : Nat} {z s : State} (hL : 29821288 &&& L = 29821288) (h : Agree L z s) (n : Nat) :
    Agree L z (State.prereqTimeout s n) := by
  have q0 : 327712 &&& L = 327712 := sub_trans rfl hL
  have q1 : 264 &&& L = 264 := sub_trans rfl hL
  have q3 : 65536 &&& L = 65536 := sub_trans rfl hL
  have q4 : 8 &&& L = 8 := sub_trans rfl hL
  have q5 : 64 &&& L = 64 := sub_trans rfl hL
  unfold State.prereqTimeout
  repeat' (first
      | intro _ | with_reducible exact h | with_reducible assumption | with_reducible apply State.turnOn_same q0
      | with_reducible apply State.bump_same q1 | with_reducible apply State.onFailShutdown_same hL
      | with_reducible apply State.moveRail_same q3 | with_reducible apply State.setFlag_same q4
      | with_reducible apply State.raise_same q5 | with_reducible apply same_ite | with_reducible apply same_foldl
      | with_reducible apply same_foldl_fst | split)

theorem State.ownRow_same {L : Nat} {z s : State} (hL : 66035176 &&& L = 66035176) (h : Agree L z s) (n : Nat) :
    Agree L z (State.ownRow s n) := by
  have q0 : 327712 &&& L = 327712 := sub_trans rfl hL
  have q1 : 327712 &&& L = 327712 := sub_trans rfl hL
  have q3 : 31918440 &&& L = 31918440 := sub_trans rfl hL
  have q4 : 29821288 &&& L = 29821288 := sub_trans rfl hL
  unfold State.ownRow
  repeat' (first
      | intro _ | with_reducible exact h | with_reducible assumption | with_reducible apply State.turnOn_same q0
      | with_reducible apply State.railSlot_same q1 | with_reducible apply State.qualifyAll_same hL
      | with_reducible apply State.rampRow_same q3 | with_reducible apply State.prereqTimeout_same q4
      | with_reducible apply same_ite | with_reducible apply same_foldl | with_reducible apply same_foldl_fst | split)

theorem State.enterHoldoff_same {L : Nat} {z s : State} (hL : 131072 &&& L = 131072) (h : Agree L z s)  :
    Agree L z (State.enterHoldoff s) := by
  have r0 : 131072 &&& L = 131072 := sub_trans rfl hL
  unfold State.enterHoldoff
  repeat' (first
      | intro _ | with_reducible exact h | with_reducible assumption | with_reducible apply same_ite
      | with_reducible apply same_foldl | with_reducible apply same_foldl_fst | simp only [same_seq r0] | split)

theorem State.reverse_same {L : Nat} {z s : State} (hL : 196968 &&& L = 196968) (h : Agree L z s)  :
    Agree L z (State.reverse s) := by
  have q0 : 65536 &&& L = 65536 := sub_trans rfl hL
  have q1 : 64 &&& L = 64 := sub_trans rfl hL
  have q2 : 8 &&& L = 8 := sub_trans rfl hL
  have q3 : 65536 &&& L = 65536 := sub_trans rfl hL
  have q4 : 32 &&& L = 32 := sub_trans rfl hL
  have q5 : 131080 &&& L = 131080 := sub_trans rfl hL
  have q6 : 264 &&& L = 264 := sub_trans rfl hL
  have r0 : 131072 &&& L = 131072 := sub_trans rfl hL
  unfold State.reverse
  repeat' (first
      | intro _ | with_reducible exact h | with_reducible assumption | with_reducible apply State.moveRail_same q0
      | with_reducible apply State.raise_same q1 | with_reducible apply State.setLive_same q2
      | with_reducible apply State.setRail_same q3 | with_reducible apply State.takeRailLane_same q4
      | with_reducible apply State.showAnchor_same q5 | with_reducible apply State.bump_same q6 | with_reducible apply same_ite
      | with_reducible apply same_foldl | with_reducible apply same_foldl_fst | simp only [same_seq r0] | split)

theorem State.setupNext_same {L : Nat} {z s : State} (hL : 262176 &&& L = 262176) (h : Agree L z s)  :
    Agree L z (State.setupNext s) := by
  unfold State.setupNext
  repeat' (first
      | intro _ | with_reducible exact h | with_reducible assumption | with_reducible apply State.postPmb_same hL
      | with_reducible apply same_ite | with_reducible apply same_foldl | with_reducible apply same_foldl_fst | split)

theorem State.enterSetup_same {L : Nat} {z s : State} (hL : 2555936 &&& L = 2555936) (h : Agree L z s)  :
    Agree L z (State.enterSetup s) := by
  have q0 : 262176 &&& L = 262176 := sub_trans rfl hL
  have q1 : 65536 &&& L = 65536 := sub_trans rfl hL
  have r0 : 131072 &&& L = 131072 := sub_trans rfl hL
  have r1 : 2228224 &&& L = 2228224 := sub_trans rfl hL
  unfold State.enterSetup
  repeat' (first
      | intro _ | with_reducible exact h | with_reducible assumption | with_reducible apply State.setupNext_same q0
      | with_reducible apply State.setRail_same q1 | with_reducible apply same_ite | with_reducible apply same_foldl
      | with_reducible apply same_foldl_fst | simp only [same_seq r0, same_seq_margins r1] | split)

theorem State.cardRule_same {L : Nat} {z s : State} (hL : 2556264 &&& L = 2556264) (h : Agree L z s)  :
    ∀ t, State.cardRule s = some t → Agree L z t := by
  have q0 : 131072 &&& L = 131072 := sub_trans rfl hL
  have q1 : 196968 &&& L = 196968 := sub_trans rfl hL
  have q2 : 2555936 &&& L = 2555936 := sub_trans rfl hL
  have q3 : 65536 &&& L = 65536 := sub_trans rfl hL
  have q4 : 264 &&& L = 264 := sub_trans rfl hL
  have r0 : 131072 &&& L = 131072 := sub_trans rfl hL
  intro t ht
  unfold State.cardRule at ht
  try dsimp only at ht
  repeat' split at ht
  all_goals first
    | contradiction
    | (have e := Option.some.inj ht
       subst e
       repeat' (first
           | intro _ | with_reducible exact h | with_reducible assumption | with_reducible apply State.enterHoldoff_same q0
           | with_reducible apply State.reverse_same q1 | with_reducible apply State.enterSetup_same q2
           | with_reducible apply State.unlockRails_same q3 | with_reducible apply State.bump_same q4
           | with_reducible apply same_ite | with_reducible apply same_foldl | with_reducible apply same_foldl_fst
           | simp only [same_seq r0] | split))
    | (refine State.enterHoldoff_same q0 ?_ _ ht
       repeat' (first
           | intro _ | with_reducible exact h | with_reducible assumption | with_reducible apply State.enterHoldoff_same q0
           | with_reducible apply State.reverse_same q1 | with_reducible apply State.enterSetup_same q2
           | with_reducible apply State.unlockRails_same q3 | with_reducible apply State.bump_same q4
           | with_reducible apply same_ite | with_reducible apply same_foldl | with_reducible apply same_foldl_fst
           | simp only [same_seq r0] | split))

theorem State.settleOne_same {L : Nat} {z s : State} (hL : 66035176 &&& L = 66035176) (h : Agree L z s)  :
    ∀ t, State.settleOne s = some t → Agree L z t := by
  intro t ht
  unfold State.settleOne at ht
  dsimp only at ht
  have h1 := State.clearCauses_same (sub_trans rfl hL) h
  split at ht
  · rw [← Option.some.inj ht]
    exact State.ownRow_same (sub_trans rfl hL) h _
  · split at ht
    · rw [← Option.some.inj ht]
      exact State.reviewRoles_same (sub_trans rfl hL) h _
    · split at ht
      · rw [← Option.some.inj ht]
        exact State.depRule_same (sub_trans rfl hL) h1 _ ‹_›
      · exact State.cardRule_same (sub_trans rfl hL) h1 _ ht

theorem State.settleFor_same {L : Nat} {z s : State} (hL : 66035176 &&& L = 66035176) (h : Agree L z s) (fuel : Nat) :
    Agree L z (State.settleFor fuel s) := by
  induction fuel generalizing s with
  | zero => unfold State.settleFor; exact h
  | succ f ih =>
    unfold State.settleFor
    split
    · exact ih (State.settleOne_same (sub_trans rfl hL) h _ ‹_›)
    · exact State.clearCauses_same (sub_trans rfl hL) h

theorem State.settle_same {L : Nat} {z s : State} (hL : 66035176 &&& L = 66035176) (h : Agree L z s)  :
    Agree L z (State.settle s) := by
  unfold State.settle
  repeat' (first
      | intro _ | with_reducible exact h | with_reducible assumption | with_reducible apply State.settleFor_same hL
      | with_reducible apply State.reviewRoles_same hL | with_reducible apply same_ite | with_reducible apply same_foldl
      | with_reducible apply same_foldl_fst | split)

theorem State.clearLatches_same {L : Nat} {z s : State} (hL : 536870912 &&& L = 536870912) (h : Agree L z s)  :
    Agree L z (State.clearLatches s) := by
  have r0 : 536870912 &&& L = 536870912 := sub_trans rfl hL
  unfold State.clearLatches
  repeat' (first
      | intro _ | with_reducible exact h | with_reducible assumption | with_reducible apply same_ite
      | with_reducible apply same_foldl | with_reducible apply same_foldl_fst | simp only [same_hosts r0] | split)

end Sys2Proof.Machine
end

