-- ==== Sys2Proof/Laws/Frame2.lean ====
section
/-! SUPPORT. Frames of the operations, part 2: the mask of each lemma names the fields that the operation may change. -/

namespace Sys2Proof.Machine

theorem State.heldLatches_same {L : Nat} {z s : State} (hL : 536870912 &&& L = 536870912) (h : Agree L z s)  :
    Agree L z (State.heldLatches s) := by
  unfold State.heldLatches
  repeat' (first
      | intro _ | with_reducible exact h | with_reducible assumption | with_reducible apply State.clearLatches_same hL
      | with_reducible apply same_ite | with_reducible apply same_foldl | with_reducible apply same_foldl_fst | split)

theorem State.applySettle_same {L : Nat} {z s : State} (hL : 402653184 &&& L = 402653184) (h : Agree L z s)  :
    Agree L z (State.applySettle s) := by
  have q0 : 268435456 &&& L = 268435456 := sub_trans rfl hL
  have q1 : 134217728 &&& L = 134217728 := sub_trans rfl hL
  have r0 : 268435456 &&& L = 268435456 := sub_trans rfl hL
  unfold State.applySettle
  repeat' (first
      | intro _ | with_reducible exact h | with_reducible assumption | with_reducible apply State.setUpd_same q0
      | with_reducible apply State.writeRecord_same q1 | with_reducible apply same_ite | with_reducible apply same_foldl
      | with_reducible apply same_foldl_fst | simp only [same_upd r0] | split)

theorem State.rest_same {L : Nat} {z s : State} (hL : 2201102557178 &&& L = 2201102557178) (h : Agree L z s)  :
    Agree L z (State.rest s) := by
  have q0 : 10 &&& L = 10 := sub_trans rfl hL
  have q1 : 1073742088 &&& L = 1073742088 := sub_trans rfl hL
  have q2 : 2199425910618 &&& L = 2199425910618 := sub_trans rfl hL
  have q3 : 25166152 &&& L = 25166152 := sub_trans rfl hL
  have q4 : 268435456 &&& L = 268435456 := sub_trans rfl hL
  have q5 : 256 &&& L = 256 := sub_trans rfl hL
  have q6 : 66035176 &&& L = 66035176 := sub_trans rfl hL
  have q7 : 536870912 &&& L = 536870912 := sub_trans rfl hL
  have q8 : 402653184 &&& L = 402653184 := sub_trans rfl hL
  unfold State.rest
  repeat' (first
      | intro _ | with_reducible exact h | with_reducible assumption | with_reducible apply State.joined_same q0
      | with_reducible apply State.powerReview_same q1 | with_reducible apply State.phaseSettle_same q2
      | with_reducible apply State.governed_same q3 | with_reducible apply State.healthSettle_same q4
      | with_reducible apply State.leftReserve_same q5 | with_reducible apply State.settle_same q6
      | with_reducible apply State.heldLatches_same q7 | with_reducible apply State.applySettle_same q8
      | with_reducible apply same_ite | with_reducible apply same_foldl | with_reducible apply same_foldl_fst | split)

theorem State.releasePins_same {L : Nat} {z s : State} (hL : 67108864 &&& L = 67108864) (h : Agree L z s)  :
    Agree L z (State.releasePins s) := by
  have r0 : 67108864 &&& L = 67108864 := sub_trans rfl hL
  unfold State.releasePins
  repeat' (first
      | intro _ | with_reducible exact h | with_reducible assumption | with_reducible apply same_ite
      | with_reducible apply same_foldl | with_reducible apply same_foldl_fst | simp only [same_convoy r0] | split)

theorem State.drive_same {L : Nat} {z s : State} (hL : 67108864 &&& L = 67108864) (h : Agree L z s)  :
    Agree L z (State.drive s) := by
  have r0 : 67108864 &&& L = 67108864 := sub_trans rfl hL
  unfold State.drive
  repeat' (first
      | intro _ | with_reducible exact h | with_reducible assumption | with_reducible apply State.releasePins_same hL
      | with_reducible apply same_ite | with_reducible apply same_foldl | with_reducible apply same_foldl_fst
      | simp only [same_convoy r0] | split)

theorem State.freezeSinks_same {L : Nat} {z s : State} (hL : 8388608 &&& L = 8388608) (h : Agree L z s)  :
    Agree L z (State.freezeSinks s) := by
  unfold State.freezeSinks
  repeat' (first
      | intro _ | with_reducible exact h | with_reducible assumption | with_reducible apply State.setSink_same hL
      | with_reducible apply same_ite | with_reducible apply same_foldl | with_reducible apply same_foldl_fst | split)

theorem State.stopClocks_same {L : Nat} {z s : State} (hL : 687270264840 &&& L = 687270264840) (h : Agree L z s)  :
    Agree L z (State.stopClocks s) := by
  have q0 : 67108864 &&& L = 67108864 := sub_trans rfl hL
  have q1 : 8 &&& L = 8 := sub_trans rfl hL
  have q2 : 8388608 &&& L = 8388608 := sub_trans rfl hL
  have r0 : 687261876224 &&& L = 687261876224 := sub_trans rfl hL
  unfold State.stopClocks
  repeat' (first
      | intro _ | with_reducible exact h | with_reducible assumption | with_reducible apply State.drive_same q0
      | with_reducible apply State.setLive_same q1 | with_reducible apply State.freezeSinks_same q2
      | with_reducible apply same_ite | with_reducible apply same_foldl | with_reducible apply same_foldl_fst
      | simp only [same_convoy_frozen_frz r0] | split)

theorem State.freezeIfLow_same {L : Nat} {z s : State} (hL : 687270264840 &&& L = 687270264840) (h : Agree L z s)  :
    Agree L z (State.freezeIfLow s) := by
  unfold State.freezeIfLow
  repeat' (first
      | intro _ | with_reducible exact h | with_reducible assumption | with_reducible apply State.stopClocks_same hL
      | with_reducible apply same_ite | with_reducible apply same_foldl | with_reducible apply same_foldl_fst | split)

theorem State.after_same {L : Nat} {z s : State} (hL : 2888364433402 &&& L = 2888364433402) (h : Agree L z s)  :
    Agree L z (State.after s) := by
  have q0 : 2201102557178 &&& L = 2201102557178 := sub_trans rfl hL
  have q1 : 687270264840 &&& L = 687270264840 := sub_trans rfl hL
  have q2 : 66035176 &&& L = 66035176 := sub_trans rfl hL
  unfold State.after
  repeat' (first
      | intro _ | with_reducible exact h | with_reducible assumption | with_reducible apply State.rest_same q0
      | with_reducible apply State.freezeIfLow_same q1 | with_reducible apply State.settle_same q2 | with_reducible apply same_ite
      | with_reducible apply same_foldl | with_reducible apply same_foldl_fst | split)

theorem State.writeRingHeader_same {L : Nat} {z s : State} (hL : 562949953421584 &&& L = 562949953421584) (h : Agree L z s)
    (p : RingPage) :
    Agree L z (State.writeRingHeader s p) := by
  unfold State.writeRingHeader
  have hz : L.testBit Zone.ring.bit = true := bits _ hL (by decide)
  dsimp only
  refine writeBytes_same (sub_trans rfl hL) (writeBytes_same (sub_trans rfl hL) h .ring hz _ _ ?_) .ring hz _ _ ?_
  · intro i a b
    simp only [List.length_replicate] at b
    exact ⟨p.seq, by omega, by omega⟩
  · intro i a b
    simp only [List.length_append, RingPage.header_length, leBytes_length] at b
    exact ⟨p.seq, a, by omega⟩

theorem State.flushRingPage_same {L : Nat} {z s : State} (hL : 562949953421584 &&& L = 562949953421584) (h : Agree L z s) (i : Nat) :
    Agree L z (State.flushRingPage s i) := by
  unfold State.flushRingPage
  repeat' (first
      | intro _ | with_reducible exact h | with_reducible assumption | with_reducible apply State.writeRingHeader_same hL
      | with_reducible apply same_ite | with_reducible apply same_foldl | with_reducible apply same_foldl_fst | split)

theorem State.startPage_same {L : Nat} {z s0 : State} (hL : 562949953421584 &&& L = 562949953421584) (h : Agree L z s0) (e : Etch) :
    Agree L z (State.startPage s0 e) := by
  have r0 : 256 &&& L = 256 := sub_trans rfl hL
  unfold State.startPage
  repeat' (first
      | intro _ | with_reducible exact h | with_reducible assumption | with_reducible apply State.flushRingPage_same hL
      | with_reducible apply same_ite | with_reducible apply same_foldl | with_reducible apply same_foldl_fst
      | simp only [same_store r0] | split)

theorem State.endEtch_same {L : Nat} {z s : State} (hL : 268440040 &&& L = 268440040) (h : Agree L z s) (e : Etch)
    (unwritten : List Nat) :
    Agree L z (State.endEtch s e unwritten) := by
  have q0 : 360 &&& L = 360 := sub_trans rfl hL
  have q1 : 288 &&& L = 288 := sub_trans rfl hL
  have q2 : 32 &&& L = 32 := sub_trans rfl hL
  have r0 : 268439936 &&& L = 268439936 := sub_trans rfl hL
  unfold State.endEtch
  repeat' (first
      | intro _ | with_reducible exact h | with_reducible assumption | with_reducible apply State.etchIdle_same q0
      | with_reducible apply State.postFollowOn_same q1 | with_reducible apply State.freeLane_same q2
      | with_reducible apply same_ite | with_reducible apply same_foldl | with_reducible apply same_foldl_fst
      | simp only [same_ledger_store_ring_upd r0] | split)

theorem State.afterPage_same {L : Nat} {z s : State} (hL : 562950221861368 &&& L = 562950221861368) (h : Agree L z s) (e : Etch)
    (rest : List Nat) (failed : List Nat) :
    Agree L z (State.afterPage s e rest failed) := by
  have q0 : 562949953421584 &&& L = 562949953421584 := sub_trans rfl hL
  have q1 : 64 &&& L = 64 := sub_trans rfl hL
  have q2 : 268440040 &&& L = 268440040 := sub_trans rfl hL
  have q3 : 264 &&& L = 264 := sub_trans rfl hL
  have r0 : 256 &&& L = 256 := sub_trans rfl hL
  unfold State.afterPage
  repeat' (first
      | intro _ | with_reducible exact h | with_reducible assumption | with_reducible apply State.startPage_same q0
      | with_reducible apply State.raise_same q1 | with_reducible apply State.endEtch_same q2
      | with_reducible apply State.bump_same q3 | with_reducible apply same_ite | with_reducible apply same_foldl
      | with_reducible apply same_foldl_fst | simp only [same_store r0] | split)

theorem State.releaseCapture_same {L : Nat} {z s : State} (hL : 2048 &&& L = 2048) (h : Agree L z s)  :
    Agree L z (State.releaseCapture s) := by
  have r0 : 2048 &&& L = 2048 := sub_trans rfl hL
  unfold State.releaseCapture
  repeat' (first
      | intro _ | with_reducible exact h | with_reducible assumption | with_reducible apply same_ite
      | with_reducible apply same_foldl | with_reducible apply same_foldl_fst | simp only [same_cap r0] | split)

theorem State.publishZ_same {L : Nat} {z s : State} (hL : 8 &&& L = 8) (h : Agree L z s) (n : Nat) (j : Nat) (ls : List Line) :
    Agree L z (State.publishZ s n j ls) := by
  unfold State.publishZ
  repeat' (first
      | intro _ | with_reducible exact h | with_reducible assumption | with_reducible apply State.setLive_same hL
      | with_reducible apply same_ite | with_reducible apply same_foldl | with_reducible apply same_foldl_fst | split)

theorem State.setAll_same {L : Nat} {z s : State} (hL : 8 &&& L = 8) (h : Agree L z s) (l : List (Nat × Nat)) :
    Agree L z (State.setAll s l) := by
  unfold State.setAll
  repeat' (first
      | intro _ | with_reducible exact h | with_reducible assumption | with_reducible apply State.setLive_same hL
      | with_reducible apply same_ite | with_reducible apply same_foldl | with_reducible apply same_foldl_fst | split)

theorem State.runDone_same {L : Nat} {z s : State} (hL : 281474980907352 &&& L = 281474980907352) (h : Agree L z s) (n : Nat)
    (v : List Int) (i : List Int) (ls : List Line) :
    Agree L z (State.runDone s n v i ls) := by
  have q0 : 2048 &&& L = 2048 := sub_trans rfl hL
  have q1 : 8 &&& L = 8 := sub_trans rfl hL
  have q2 : 64 &&& L = 64 := sub_trans rfl hL
  have q3 : 4194304 &&& L = 4194304 := sub_trans rfl hL
  have q4 : 4194304 &&& L = 4194304 := sub_trans rfl hL
  have q5 : 8 &&& L = 8 := sub_trans rfl hL
  have q6 : 264 &&& L = 264 := sub_trans rfl hL
  have q7 : 264 &&& L = 264 := sub_trans rfl hL
  have w7 : 281474976710928 &&& L = 281474976710928 := sub_trans rfl hL
  unfold State.runDone
  repeat' (first
      | intro _ | with_reducible exact h | with_reducible assumption | with_reducible apply State.releaseCapture_same q0
      | with_reducible apply State.publishZ_same q1 | with_reducible apply State.raise_same q2
      | with_reducible apply State.stipNext_same q3 | with_reducible apply State.setStip_same q4
      | with_reducible apply State.setAll_same q5 | with_reducible apply State.bump_same q6
      | with_reducible apply State.setPers_same q7 | with_reducible apply writeTrend_same w7 | with_reducible apply same_ite
      | with_reducible apply same_foldl | with_reducible apply same_foldl_fst | split)

theorem State.analysisDone_same {L : Nat} {z s : State} (hL : 281474980907352 &&& L = 281474980907352) (h : Agree L z s) (n : Nat) :
    Agree L z (State.analysisDone s n) := by
  have q1 : 4194632 &&& L = 4194632 := sub_trans rfl hL
  unfold State.analysisDone
  repeat' (first
      | intro _ | with_reducible exact h | with_reducible assumption | with_reducible apply State.runDone_same hL
      | with_reducible apply State.stipEnd_same q1 | with_reducible apply same_ite | with_reducible apply same_foldl
      | with_reducible apply same_foldl_fst | split)

theorem State.setLatches_same {L : Nat} {z s : State} (hL : 536870912 &&& L = 536870912) (h : Agree L z s) (p : Nat) (ls : List Latch) :
    Agree L z (State.setLatches s p ls) := by
  unfold State.setLatches
  repeat' (first
      | intro _ | with_reducible exact h | with_reducible assumption | with_reducible apply State.setPort_same hL
      | with_reducible apply same_ite | with_reducible apply same_foldl | with_reducible apply same_foldl_fst | split)

theorem State.readHalf_same {L : Nat} {z s : State} (hL : 536870912 &&& L = 536870912) (h : Agree L z s) (p : Nat) (key : Nat)
    (pair : Nat) (high : Bool) :
    Agree L z (State.readHalf s p key pair high).1 := by
  unfold State.readHalf
  repeat' (first
      | intro _ | with_reducible exact h | with_reducible assumption | with_reducible apply State.setLatches_same hL
      | with_reducible apply same_ite | with_reducible apply same_foldl | with_reducible apply same_foldl_fst | split)

theorem State.readBadGroups_same {L : Nat} {z s : State} (hL : 64 &&& L = 64) (h : Agree L z s) (a : Nat) (n : Nat) :
    Agree L z (State.readBadGroups s a n) := by
  unfold State.readBadGroups
  repeat' (first
      | intro _ | with_reducible exact h | with_reducible assumption | with_reducible apply State.raise_same hL
      | with_reducible apply same_ite | with_reducible apply same_foldl | with_reducible apply same_foldl_fst | split)

theorem State.mirrorOne_same {L : Nat} {z s : State} (hL : 16648 &&& L = 16648) (h : Agree L z s) (key : Nat) (v : Nat) (target : Nat) :
    Agree L z (State.mirrorOne s key v target) := by
  have q0 : 264 &&& L = 264 := sub_trans rfl hL
  have r0 : 16640 &&& L = 16640 := sub_trans rfl hL
  unfold State.mirrorOne
  repeat' (first
      | intro _ | with_reducible exact h | with_reducible assumption | with_reducible apply State.bump_same q0
      | with_reducible apply same_ite | with_reducible apply same_foldl | with_reducible apply same_foldl_fst
      | simp only [same_store_otherArea r0] | split)

theorem State.mirror_same {L : Nat} {z s : State} (hL : 16648 &&& L = 16648) (h : Agree L z s) (key : Nat) (v : Nat) :
    Agree L z (State.mirror s key v) := by
  unfold State.mirror
  repeat' (first
      | intro _ | with_reducible exact h | with_reducible assumption | with_reducible apply State.mirrorOne_same hL
      | with_reducible apply same_ite | with_reducible apply same_foldl | with_reducible apply same_foldl_fst | split)

theorem State.writeValue_same {L : Nat} {z s : State} (hL : 536887560 &&& L = 536887560) (h : Agree L z s) (p : Nat) (key : Nat)
    (v : Nat) :
    Agree L z (State.writeValue s p key v) := by
  have q0 : 536870912 &&& L = 536870912 := sub_trans rfl hL
  have q1 : 264 &&& L = 264 := sub_trans rfl hL
  have q2 : 8 &&& L = 8 := sub_trans rfl hL
  have q3 : 16648 &&& L = 16648 := sub_trans rfl hL
  unfold State.writeValue
  repeat' (first
      | intro _ | with_reducible exact h | with_reducible assumption | with_reducible apply State.setPort_same q0
      | with_reducible apply State.setPers_same q1 | with_reducible apply State.setLive_same q2
      | with_reducible apply State.mirror_same q3 | with_reducible apply same_ite | with_reducible apply same_foldl
      | with_reducible apply same_foldl_fst | split)

theorem State.answerMember_same {L : Nat} {z s : State} (hL : 536887624 &&& L = 536887624) (h : Agree L z s) (p : Nat) (m : Member) :
    Agree L z (State.answerMember s p m).1 := by
  have q0 : 536870912 &&& L = 536870912 := sub_trans rfl hL
  have q1 : 64 &&& L = 64 := sub_trans rfl hL
  have q2 : 536887560 &&& L = 536887560 := sub_trans rfl hL
  unfold State.answerMember
  repeat' (first
      | intro _ | with_reducible exact h | with_reducible assumption | with_reducible apply State.readHalf_same q0
      | with_reducible apply State.readBadGroups_same q1 | with_reducible apply State.writeValue_same q2
      | with_reducible apply same_ite | with_reducible apply same_foldl | with_reducible apply same_foldl_fst | split)

theorem State.answerAll_same {L : Nat} {z s : State} (hL : 536887624 &&& L = 536887624) (h : Agree L z s) (p : Nat) (ms : List Member) :
    Agree L z (State.answerAll s p ms).1 := by
  induction ms generalizing s p with
  | nil =>
    unfold State.answerAll
    exact h
  | cons m r ih =>
    unfold State.answerAll
    repeat' (first
        | intro _ | with_reducible exact h | with_reducible assumption | with_reducible apply ih
        | with_reducible apply State.answerMember_same hL | with_reducible apply same_ite | with_reducible apply same_foldl
        | with_reducible apply same_foldl_fst | split)

theorem State.answerEach_same {L : Nat} {z s : State} (_hL : 0 &&& L = 0) (h : Agree L z s) (status : Nat) (ms : List Member) :
    Agree L z (State.answerEach s status ms).st := by
  unfold State.answerEach
  repeat' (first
      | intro _ | with_reducible exact h | with_reducible assumption | with_reducible apply same_ite
      | with_reducible apply same_foldl | with_reducible apply same_foldl_fst | split)

theorem State.updFail_same {L : Nat} {z s : State} (hL : 268435528 &&& L = 268435528) (h : Agree L z s) (kind : Nat) (addr : Nat)
    (reason : Nat) :
    Agree L z (State.updFail s kind addr reason) := by
  have q0 : 8 &&& L = 8 := sub_trans rfl hL
  have q1 : 268435456 &&& L = 268435456 := sub_trans rfl hL
  have q2 : 64 &&& L = 64 := sub_trans rfl hL
  unfold State.updFail
  repeat' (first
      | intro _ | with_reducible exact h | with_reducible assumption | with_reducible apply State.updReason_same q0
      | with_reducible apply State.setUpd_same q1 | with_reducible apply State.raise_same q2 | with_reducible apply same_ite
      | with_reducible apply same_foldl | with_reducible apply same_foldl_fst | split)

theorem State.setNewBank_same {L : Nat} {z s : State} (hL : 134217728 &&& L = 134217728) (h : Agree L z s) (x : BankState) :
    Agree L z (State.setNewBank s x) := by
  unfold State.setNewBank
  repeat' (first
      | intro _ | with_reducible exact h | with_reducible assumption | with_reducible apply State.writeRecord_same hL
      | with_reducible apply same_ite | with_reducible apply same_foldl | with_reducible apply same_foldl_fst | split)

theorem State.applyFail_same {L : Nat} {z s : State} (hL : 402653256 &&& L = 402653256) (h : Agree L z s) (kind : Nat) (addr : Nat)
    (reason : Nat) :
    Agree L z (State.applyFail s kind addr reason) := by
  have q0 : 268435528 &&& L = 268435528 := sub_trans rfl hL
  have q1 : 134217728 &&& L = 134217728 := sub_trans rfl hL
  have r0 : 134217728 &&& L = 134217728 := sub_trans rfl hL
  unfold State.applyFail
  repeat' (first
      | intro _ | with_reducible exact h | with_reducible assumption | with_reducible apply State.updFail_same q0
      | with_reducible apply State.setNewBank_same q1 | with_reducible apply same_ite | with_reducible apply same_foldl
      | with_reducible apply same_foldl_fst | simp only [same_loader r0] | split)

theorem State.grantPower_same {L : Nat} {z s : State} (hL : 25166088 &&& L = 25166088) (h : Agree L z s) (n : Nat) (g : Nat) :
    Agree L z (State.grantPower s n g) := by
  have q0 : 8388608 &&& L = 8388608 := sub_trans rfl hL
  have q1 : 264 &&& L = 264 := sub_trans rfl hL
  have r0 : 16777216 &&& L = 16777216 := sub_trans rfl hL
  unfold State.grantPower
  repeat' (first
      | intro _ | with_reducible exact h | with_reducible assumption | with_reducible apply State.setSink_same q0
      | with_reducible apply State.bump_same q1 | with_reducible apply same_ite | with_reducible apply same_foldl
      | with_reducible apply same_foldl_fst | simp only [same_gov r0] | split)

theorem State.serveOne_same {L : Nat} {z s : State} (hL : 25166152 &&& L = 25166152) (h : Agree L z s) (n : Nat) :
    Agree L z (State.serveOne s n) := by
  have q0 : 25166088 &&& L = 25166088 := sub_trans rfl hL
  have q1 : 8388608 &&& L = 8388608 := sub_trans rfl hL
  unfold State.serveOne
  repeat' (first
      | intro _ | with_reducible exact h | with_reducible assumption | with_reducible apply State.grantPower_same q0
      | with_reducible apply State.setSink_same q1 | with_reducible apply State.trimGrants_same hL | with_reducible apply same_ite
      | with_reducible apply same_foldl | with_reducible apply same_foldl_fst | split)

theorem State.serveFrom_same {L : Nat} {z s : State} (hL : 25166152 &&& L = 25166152) (h : Agree L z s) (fuel : Nat) (served : List Nat) :
    Agree L z (State.serveFrom fuel s served) := by
  induction fuel generalizing s served with
  | zero =>
    unfold State.serveFrom
    exact h
  | succ f ih =>
    unfold State.serveFrom
    repeat' (first
        | intro _ | with_reducible exact h | with_reducible assumption | with_reducible apply ih
        | with_reducible apply State.serveOne_same hL | with_reducible apply same_ite | with_reducible apply same_foldl
        | with_reducible apply same_foldl_fst | split)

theorem State.servePower_same {L : Nat} {z s : State} (hL : 25166152 &&& L = 25166152) (h : Agree L z s)  :
    Agree L z (State.servePower s) := by
  have q0 : 8388608 &&& L = 8388608 := sub_trans rfl hL
  unfold State.servePower
  repeat' (first
      | intro _ | with_reducible exact h | with_reducible assumption | with_reducible apply State.reviewStandby_same q0
      | with_reducible apply State.serveFrom_same hL | with_reducible apply same_ite | with_reducible apply same_foldl
      | with_reducible apply same_foldl_fst | split)

theorem State.applyLoad_same {L : Nat} {z s : State} (hL : 25166152 &&& L = 25166152) (h : Agree L z s) (n : Nat) (port : Nat) :
    Agree L z (State.applyLoad s n port) := by
  have q0 : 25166088 &&& L = 25166088 := sub_trans rfl hL
  have q1 : 8388608 &&& L = 8388608 := sub_trans rfl hL
  have q2 : 25165824 &&& L = 25165824 := sub_trans rfl hL
  have q3 : 8388936 &&& L = 8388936 := sub_trans rfl hL
  unfold State.applyLoad
  repeat' (first
      | intro _ | with_reducible exact h | with_reducible assumption | with_reducible apply State.grantPower_same q0
      | with_reducible apply State.setSink_same q1 | with_reducible apply State.freePower_same q2
      | with_reducible apply State.lapseDone_same q3 | with_reducible apply State.servePower_same hL
      | with_reducible apply same_ite | with_reducible apply same_foldl | with_reducible apply same_foldl_fst | split)

theorem State.formArea_same {L : Nat} {z s : State} (hL : 4398046527768 &&& L = 4398046527768) (h : Agree L z s) (table : List Byte) :
    Agree L z (State.formArea s table) := by
  unfold State.formArea
  have hz : L.testBit Zone.area.bit = true := bits _ hL (by decide)
  dsimp only
  refine State.setPers_same (sub_trans rfl hL) (writeBytes_same (sub_trans rfl hL) (writeBytes_same (sub_trans rfl hL)
    (clearArea_same (sub_trans rfl hL) h _ _ _) .area hz _ _ ?_) .area hz _ _ ?_) _ _
  · intro i p r
    rw [areaHeader_length] at r
    exact ⟨1 - s.activeArea, p, by omega⟩
  · intro i p r
    simp only [List.length_take] at r
    exact ⟨1 - s.activeArea, by omega, by omega⟩

theorem State.applyOutputDone_same {L : Nat} {z s : State} (hL : 4398449181048 &&& L = 4398449181048) (h : Agree L z s)  :
    Agree L z (State.applyOutputDone s) := by
  have q0 : 288 &&& L = 288 := sub_trans rfl hL
  have q1 : 4398046527768 &&& L = 4398046527768 := sub_trans rfl hL
  have q2 : 402653256 &&& L = 402653256 := sub_trans rfl hL
  have r0 : 268435456 &&& L = 268435456 := sub_trans rfl hL
  have r1 : 134217728 &&& L = 134217728 := sub_trans rfl hL
  unfold State.applyOutputDone
  repeat' (first
      | intro _ | with_reducible exact h | with_reducible assumption | with_reducible apply State.postEtch_same q0
      | with_reducible apply State.formArea_same q1 | with_reducible apply State.applyFail_same q2 | with_reducible apply same_ite
      | with_reducible apply same_foldl | with_reducible apply same_foldl_fst | simp only [same_upd r0, same_loader r1] | split)

theorem State.ringStore_same {L : Nat} {z s : State} (hL : 562949953421584 &&& L = 562949953421584) (h : Agree L z s) (place : Option
    (Nat × Nat)) (code : Nat) :
    Agree L z (State.ringStore s place code) := by
  have w5 : 562949953421584 &&& L = 562949953421584 := sub_trans rfl hL
  unfold State.ringStore
  repeat' (first
      | intro _ | with_reducible exact h | with_reducible assumption | with_reducible apply writeCell_same w5
      | with_reducible apply same_ite | with_reducible apply same_foldl | with_reducible apply same_foldl_fst | split)

theorem State.storeResult_same {L : Nat} {z s : State} (hL : 562949953422616 &&& L = 562949953422616) (h : Agree L z s) (c : Nat)
    (code : Int) (sat : Bool) (signed : Bool) (urgent : Bool) (gang : Bool) (slc : Nat) (st : Stamp) (place : Option (Nat × Nat)) :
    Agree L z (State.storeResult s c code sat signed urgent gang slc st place) := by
  have q0 : 8 &&& L = 8 := sub_trans rfl hL
  have q1 : 562949953421584 &&& L = 562949953421584 := sub_trans rfl hL
  have q2 : 8 &&& L = 8 := sub_trans rfl hL
  have r0 : 1024 &&& L = 1024 := sub_trans rfl hL
  unfold State.storeResult
  repeat' (first
      | intro _ | with_reducible exact h | with_reducible assumption | with_reducible apply State.setLive_same q0
      | with_reducible apply State.ringStore_same q1 | with_reducible apply State.bumpLive_same q2 | with_reducible apply same_ite
      | with_reducible apply same_foldl | with_reducible apply same_foldl_fst | simp only [same_conv r0] | split)

theorem State.finishGang_same {L : Nat} {z s : State} (hL : 703687441779992 &&& L = 703687441779992) (h : Agree L z s) (r : GangRun)
    (present : Bool) (g : GangSample) :
    Agree L z (State.finishGang r present s g) := by
  have q0 : 562949953422616 &&& L = 562949953422616 := sub_trans rfl hL
  have q1 : 8 &&& L = 8 := sub_trans rfl hL
  have r0 : 2048 &&& L = 2048 := sub_trans rfl hL
  have w5 : 562949953421584 &&& L = 562949953421584 := sub_trans rfl hL
  have w6 : 140737488355600 &&& L = 140737488355600 := sub_trans rfl hL
  unfold State.finishGang
  repeat' (first
      | intro _ | with_reducible exact h | with_reducible assumption | with_reducible apply State.storeResult_same q0
      | with_reducible apply State.setLive_same q1 | with_reducible apply writeCell_same w5
      | with_reducible apply writeCapture_same w6 | with_reducible apply same_ite | with_reducible apply same_foldl
      | with_reducible apply same_foldl_fst | simp only [same_cap r0] | split)

theorem State.retireRun_same {L : Nat} {z s : State} (hL : 703687441779992 &&& L = 703687441779992) (h : Agree L z s)  :
    Agree L z (State.retireRun s) := by
  have r0 : 2048 &&& L = 2048 := sub_trans rfl hL
  unfold State.retireRun
  repeat' (first
      | intro _ | with_reducible exact h | with_reducible assumption | with_reducible apply State.finishGang_same hL
      | with_reducible apply same_ite | with_reducible apply same_foldl | with_reducible apply same_foldl_fst
      | simp only [same_cap r0] | split)

theorem State.armCapture_same {L : Nat} {z s : State} (hL : 703687441780024 &&& L = 703687441780024) (h : Agree L z s)
    (owner : CapOwner) (g : Nat) (k : Nat) (chs : List Nat) (samples : Nat) (whenMode : Nat) (beat : Count) (offset : Nat) :
    Agree L z (State.armCapture s owner g k chs samples whenMode beat offset) := by
  have q0 : 703687441779992 &&& L = 703687441779992 := sub_trans rfl hL
  have q1 : 8 &&& L = 8 := sub_trans rfl hL
  have q2 : 32 &&& L = 32 := sub_trans rfl hL
  have r0 : 2048 &&& L = 2048 := sub_trans rfl hL
  unfold State.armCapture
  repeat' (first
      | intro _ | with_reducible exact h | with_reducible assumption | with_reducible apply State.retireRun_same q0
      | with_reducible apply State.setLive_same q1 | with_reducible apply State.postLane_same q2 | with_reducible apply same_ite
      | with_reducible apply same_foldl | with_reducible apply same_foldl_fst | simp only [same_cap r0] | split)

theorem State.armRail_same {L : Nat} {z s : State} (hL : 65608 &&& L = 65608) (h : Agree L z s) (n : Nat) (slot : Nat) (late : Bool) :
    Agree L z (State.armRail s n slot late) := by
  have q0 : 8 &&& L = 8 := sub_trans rfl hL
  have q1 : 65536 &&& L = 65536 := sub_trans rfl hL
  have q2 : 72 &&& L = 72 := sub_trans rfl hL
  have q3 : 8 &&& L = 8 := sub_trans rfl hL
  have q4 : 65536 &&& L = 65536 := sub_trans rfl hL
  unfold State.armRail
  repeat' (first
      | intro _ | with_reducible exact h | with_reducible assumption | with_reducible apply State.setLive_same q0
      | with_reducible apply State.moveRail_same q1 | with_reducible apply State.lateStart_same q2
      | with_reducible apply State.setFlag_same q3 | with_reducible apply State.setRail_same q4 | with_reducible apply same_ite
      | with_reducible apply same_foldl | with_reducible apply same_foldl_fst | split)

theorem State.fatal_same {L : Nat} {z s : State} (hL : 29821288 &&& L = 29821288) (h : Agree L z s) (m : Msg) (latching : Bool) :
    Agree L z (State.fatal s m latching) := by
  have q0 : 264 &&& L = 264 := sub_trans rfl hL
  have q2 : 264 &&& L = 264 := sub_trans rfl hL
  have r0 : 64 &&& L = 64 := sub_trans rfl hL
  unfold State.fatal
  repeat' (first
      | intro _ | with_reducible exact h | with_reducible assumption | with_reducible apply State.bump_same q0
      | with_reducible apply State.localShutdown_same hL | with_reducible apply State.setPers_same q2
      | with_reducible apply same_ite | with_reducible apply same_foldl | with_reducible apply same_foldl_fst
      | simp only [same_coll r0] | split)

theorem State.countMsg_same {L : Nat} {z s : State} (hL : 264 &&& L = 264) (h : Agree L z s) (m : Msg) :
    Agree L z (State.countMsg s m) := by
  have q1 : 8 &&& L = 8 := sub_trans rfl hL
  unfold State.countMsg
  repeat' (first
      | intro _ | with_reducible exact h | with_reducible assumption | with_reducible apply State.bump_same hL
      | with_reducible apply State.setLive_same q1 | with_reducible apply same_ite | with_reducible apply same_foldl
      | with_reducible apply same_foldl_fst | split)

theorem State.pulse_same {L : Nat} {z s : State} (hL : 328 &&& L = 328) (h : Agree L z s)  :
    Agree L z (State.pulse s) := by
  have q0 : 264 &&& L = 264 := sub_trans rfl hL
  have r0 : 64 &&& L = 64 := sub_trans rfl hL
  unfold State.pulse
  repeat' (first
      | intro _ | with_reducible exact h | with_reducible assumption | with_reducible apply State.bump_same q0
      | with_reducible apply same_ite | with_reducible apply same_foldl | with_reducible apply same_foldl_fst
      | simp only [same_coll r0] | split)

theorem State.carryStep_same {L : Nat} {z s : State} (hL : 264 &&& L = 264) (h : Agree L z s) (c : Nat × Bool) :
    Agree L z (State.carryStep s c) := by
  unfold State.carryStep
  repeat' (first
      | intro _ | with_reducible exact h | with_reducible assumption | with_reducible apply State.setPers_same hL
      | with_reducible apply same_ite | with_reducible apply same_foldl | with_reducible apply same_foldl_fst | split)

theorem State.finishCarry_same {L : Nat} {z s : State} (hL : 264 &&& L = 264) (h : Agree L z s) (key : Nat) :
    Agree L z (State.finishCarry s key) := by
  have r0 : 256 &&& L = 256 := sub_trans rfl hL
  unfold State.finishCarry
  repeat' (first
      | intro _ | with_reducible exact h | with_reducible assumption | with_reducible apply State.carryStep_same hL
      | with_reducible apply same_ite | with_reducible apply same_foldl | with_reducible apply same_foldl_fst
      | simp only [same_store r0] | split)

theorem State.noteTag_same {L : Nat} {z s : State} (hL : 8 &&& L = 8) (h : Agree L z s) (key : Nat) :
    Agree L z (State.noteTag s key) := by
  unfold State.noteTag
  repeat' (first
      | intro _ | with_reducible exact h | with_reducible assumption | with_reducible apply State.setLive_same hL
      | with_reducible apply same_ite | with_reducible apply same_foldl | with_reducible apply same_foldl_fst | split)

theorem State.wideAdd_same {L : Nat} {z s0 : State} (hL : 264 &&& L = 264) (h : Agree L z s0) (key : Nat) (d : Nat) :
    Agree L z (State.wideAdd s0 key d) := by
  have q2 : 8 &&& L = 8 := sub_trans rfl hL
  have r0 : 256 &&& L = 256 := sub_trans rfl hL
  unfold State.wideAdd
  repeat' (first
      | intro _ | with_reducible exact h | with_reducible assumption | with_reducible apply State.finishCarry_same hL
      | with_reducible apply State.addHigh_same hL | with_reducible apply State.noteTag_same q2
      | with_reducible apply State.setPers_same hL | with_reducible apply same_ite | with_reducible apply same_foldl
      | with_reducible apply same_foldl_fst | simp only [same_store r0] | split)

theorem State.handOff_same {L : Nat} {z s : State} (hL : 392 &&& L = 392) (h : Agree L z s) (word : Nat) (st : Stamp) (folded : Bool)
    (partner : Option Nat) (opening : Bool) :
    Agree L z (State.handOff s word st folded partner opening) := by
  have q0 : 264 &&& L = 264 := sub_trans rfl hL
  have q1 : 264 &&& L = 264 := sub_trans rfl hL
  have r0 : 128 &&& L = 128 := sub_trans rfl hL
  unfold State.handOff
  repeat' (first
      | intro _ | with_reducible exact h | with_reducible assumption | with_reducible apply State.wideAdd_same q0
      | with_reducible apply State.bump_same q1 | with_reducible apply same_ite | with_reducible apply same_foldl
      | with_reducible apply same_foldl_fst | simp only [same_ledger r0] | split)

theorem State.queueMsg_same {L : Nat} {z s : State} (hL : 456 &&& L = 456) (h : Agree L z s) (m : Msg) (cls : MClass) (react : MClass)
    (acted : Bool) (ph : CollPhase) (opening : Bool) :
    Agree L z (State.queueMsg s m cls react acted ph opening) := by
  have q0 : 264 &&& L = 264 := sub_trans rfl hL
  have q1 : 392 &&& L = 392 := sub_trans rfl hL
  have r0 : 64 &&& L = 64 := sub_trans rfl hL
  unfold State.queueMsg
  repeat' (first
      | intro _ | with_reducible exact h | with_reducible assumption | with_reducible apply State.bump_same q0
      | with_reducible apply State.handOff_same q1 | with_reducible apply same_ite | with_reducible apply same_foldl
      | with_reducible apply same_foldl_fst | simp only [same_coll r0] | split)

theorem State.noteRailWord_same {L : Nat} {z s : State} (hL : 524288 &&& L = 524288) (h : Agree L z s) (m : Msg) (word : Nat)
    (fatal : Bool) :
    Agree L z (State.noteRailWord s m word fatal) := by
  have r0 : 524288 &&& L = 524288 := sub_trans rfl hL
  unfold State.noteRailWord
  repeat' (first
      | intro _ | with_reducible exact h | with_reducible assumption | with_reducible apply same_ite
      | with_reducible apply same_foldl | with_reducible apply same_foldl_fst | simp only [same_railWins r0] | split)

theorem State.keepLatched_same {L : Nat} {z s : State} (hL : 264 &&& L = 264) (h : Agree L z s)  :
    Agree L z (State.keepLatched s) := by
  unfold State.keepLatched
  repeat' (first
      | intro _ | with_reducible exact h | with_reducible assumption | with_reducible apply State.setPers_same hL
      | with_reducible apply same_ite | with_reducible apply same_foldl | with_reducible apply same_foldl_fst | split)

theorem State.openWindow_same {L : Nat} {z s : State} (hL : 64 &&& L = 64) (h : Agree L z s) (st : Stamp) :
    Agree L z (State.openWindow s st) := by
  have r0 : 64 &&& L = 64 := sub_trans rfl hL
  unfold State.openWindow
  repeat' (first
      | intro _ | with_reducible exact h | with_reducible assumption | with_reducible apply same_ite
      | with_reducible apply same_foldl | with_reducible apply same_foldl_fst | simp only [same_coll r0] | split)

theorem State.episode_same {L : Nat} {z s : State} (hL : 328 &&& L = 328) (h : Agree L z s) (m : Msg) (latching : Bool) :
    Agree L z (State.episode s m latching).1 := by
  have q0 : 264 &&& L = 264 := sub_trans rfl hL
  have q1 : 64 &&& L = 64 := sub_trans rfl hL
  have q2 : 264 &&& L = 264 := sub_trans rfl hL
  have q3 : 264 &&& L = 264 := sub_trans rfl hL
  have r0 : 64 &&& L = 64 := sub_trans rfl hL
  unfold State.episode
  repeat' (first
      | intro _ | with_reducible exact h | with_reducible assumption | with_reducible apply State.keepLatched_same q0
      | with_reducible apply State.openWindow_same q1 | with_reducible apply State.bump_same q2
      | with_reducible apply State.setPers_same q3 | with_reducible apply same_ite | with_reducible apply same_foldl
      | with_reducible apply same_foldl_fst | simp only [same_coll r0] | split)

theorem State.arrive_same {L : Nat} {z s : State} (hL : 30349800 &&& L = 30349800) (h : Agree L z s) (m : Msg) :
    Agree L z (State.arrive s m) := by
  have q0 : 6312 &&& L = 6312 := sub_trans rfl hL
  have q1 : 29821288 &&& L = 29821288 := sub_trans rfl hL
  have q2 : 264 &&& L = 264 := sub_trans rfl hL
  have q3 : 328 &&& L = 328 := sub_trans rfl hL
  have q4 : 456 &&& L = 456 := sub_trans rfl hL
  have q5 : 264 &&& L = 264 := sub_trans rfl hL
  have q6 : 524288 &&& L = 524288 := sub_trans rfl hL
  have q7 : 328 &&& L = 328 := sub_trans rfl hL
  unfold State.arrive
  repeat' (first
      | intro _ | with_reducible exact h | with_reducible assumption | with_reducible apply State.ringTrigger_same q0
      | with_reducible apply State.fatal_same q1 | with_reducible apply State.countMsg_same q2
      | with_reducible apply State.pulse_same q3 | with_reducible apply State.queueMsg_same q4
      | with_reducible apply State.bump_same q5 | with_reducible apply State.noteRailWord_same q6
      | with_reducible apply State.episode_same q7 | with_reducible apply same_ite | with_reducible apply same_foldl
      | with_reducible apply same_foldl_fst | split)

theorem State.auditTolls_same {L : Nat} {z s : State} (hL : 16777544 &&& L = 16777544) (h : Agree L z s)  :
    Agree L z (State.auditTolls s) := by
  have q0 : 264 &&& L = 264 := sub_trans rfl hL
  have q1 : 64 &&& L = 64 := sub_trans rfl hL
  have r0 : 16777216 &&& L = 16777216 := sub_trans rfl hL
  unfold State.auditTolls
  repeat' (first
      | intro _ | with_reducible exact h | with_reducible assumption | with_reducible apply State.bump_same q0
      | with_reducible apply State.raise_same q1 | with_reducible apply same_ite | with_reducible apply same_foldl
      | with_reducible apply same_foldl_fst | simp only [same_gov r0] | split)

theorem State.sendBale_same {L : Nat} {z s : State} (hL : 536870912 &&& L = 536870912) (h : Agree L z s) (body : List Byte) :
    Agree L z (State.sendBale s body) := by
  have r0 : 536870912 &&& L = 536870912 := sub_trans rfl hL
  unfold State.sendBale
  repeat' (first
      | intro _ | with_reducible exact h | with_reducible assumption | with_reducible apply same_ite
      | with_reducible apply same_foldl | with_reducible apply same_foldl_fst | simp only [same_hosts r0] | split)

theorem State.deliver_same {L : Nat} {z s : State} (hL : 2684354560 &&& L = 2684354560) (h : Agree L z s) (p : Nat) (body : List Byte)
    (as : List Answer) :
    Agree L z (State.deliver s p body as) := by
  have q0 : 536870912 &&& L = 536870912 := sub_trans rfl hL
  have q1 : 536870912 &&& L = 536870912 := sub_trans rfl hL
  have r0 : 2147483648 &&& L = 2147483648 := sub_trans rfl hL
  unfold State.deliver
  repeat' (first
      | intro _ | with_reducible exact h | with_reducible assumption | with_reducible apply State.sendBale_same q0
      | with_reducible apply State.setPort_same q1 | with_reducible apply same_ite | with_reducible apply same_foldl
      | with_reducible apply same_foldl_fst | simp only [same_dwellFrom r0] | split)

theorem State.authFail_same {L : Nat} {z s : State} (hL : 2684354888 &&& L = 2684354888) (h : Agree L z s) (p : Nat) (seq : Nat) :
    Agree L z (State.authFail s p seq) := by
  have q0 : 536870912 &&& L = 536870912 := sub_trans rfl hL
  have q1 : 264 &&& L = 264 := sub_trans rfl hL
  have q2 : 2684354560 &&& L = 2684354560 := sub_trans rfl hL
  have q3 : 64 &&& L = 64 := sub_trans rfl hL
  unfold State.authFail
  repeat' (first
      | intro _ | with_reducible exact h | with_reducible assumption | with_reducible apply State.setPort_same q0
      | with_reducible apply State.bump_same q1 | with_reducible apply State.deliver_same q2
      | with_reducible apply State.raise_same q3 | with_reducible apply same_ite | with_reducible apply same_foldl
      | with_reducible apply same_foldl_fst | split)

theorem State.autoEtchDue_same {L : Nat} {z s : State} (hL : 288 &&& L = 288) (h : Agree L z s)  :
    Agree L z (State.autoEtchDue s) := by
  unfold State.autoEtchDue
  repeat' (first
      | intro _ | with_reducible exact h | with_reducible assumption | with_reducible apply State.postEtch_same hL
      | with_reducible apply same_ite | with_reducible apply same_foldl | with_reducible apply same_foldl_fst | split)

theorem State.setBale_same {L : Nat} {z s : State} (hL : 536870912 &&& L = 536870912) (h : Agree L z s) (b : Bale) :
    Agree L z (State.setBale s b) := by
  have r0 : 536870912 &&& L = 536870912 := sub_trans rfl hL
  unfold State.setBale
  repeat' (first
      | intro _ | with_reducible exact h | with_reducible assumption | with_reducible apply same_ite
      | with_reducible apply same_foldl | with_reducible apply same_foldl_fst | simp only [same_hosts r0] | split)

theorem State.frameError_same {L : Nat} {z s : State} (hL : 328 &&& L = 328) (h : Agree L z s) (p : Nat) (result : Nat) (seq : Nat) :
    Agree L z (State.frameError s p result seq) := by
  have q0 : 264 &&& L = 264 := sub_trans rfl hL
  have q1 : 64 &&& L = 64 := sub_trans rfl hL
  unfold State.frameError
  repeat' (first
      | intro _ | with_reducible exact h | with_reducible assumption | with_reducible apply State.bump_same q0
      | with_reducible apply State.raise_same q1 | with_reducible apply same_ite | with_reducible apply same_foldl
      | with_reducible apply same_foldl_fst | split)

theorem State.discard_same {L : Nat} {z s : State} (hL : 536871240 &&& L = 536871240) (h : Agree L z s) (p : Nat) (seq : Nat) :
    Agree L z (State.discard s p seq) := by
  have q0 : 536870912 &&& L = 536870912 := sub_trans rfl hL
  have q1 : 328 &&& L = 328 := sub_trans rfl hL
  unfold State.discard
  repeat' (first
      | intro _ | with_reducible exact h | with_reducible assumption | with_reducible apply State.setPort_same q0
      | with_reducible apply State.frameError_same q1 | with_reducible apply same_ite | with_reducible apply same_foldl
      | with_reducible apply same_foldl_fst | split)

theorem State.dropBale_same {L : Nat} {z s : State} (hL : 536871240 &&& L = 536871240) (h : Agree L z s)  :
    Agree L z (State.dropBale s) := by
  have q0 : 536870912 &&& L = 536870912 := sub_trans rfl hL
  unfold State.dropBale
  repeat' (first
      | intro _ | with_reducible exact h | with_reducible assumption | with_reducible apply State.setBale_same q0
      | with_reducible apply State.discard_same hL | with_reducible apply same_ite | with_reducible apply same_foldl
      | with_reducible apply same_foldl_fst | split)

theorem State.segmentTimeout_same {L : Nat} {z s : State} (hL : 536871240 &&& L = 536871240) (h : Agree L z s)  :
    Agree L z (State.segmentTimeout s) := by
  unfold State.segmentTimeout
  repeat' (first
      | intro _ | with_reducible exact h | with_reducible assumption | with_reducible apply State.dropBale_same hL
      | with_reducible apply same_ite | with_reducible apply same_foldl | with_reducible apply same_foldl_fst | split)

theorem State.baleSegment_same {L : Nat} {z s0 : State} (hL : 536871240 &&& L = 536871240) (h : Agree L z s0) (seg : Nat) (seq : Nat)
    (last : Bool) (data : List Byte) :
    Agree L z (State.baleSegment s0 seg seq last data) := by
  have q1 : 536870912 &&& L = 536870912 := sub_trans rfl hL
  have q3 : 536870912 &&& L = 536870912 := sub_trans rfl hL
  unfold State.baleSegment
  repeat' (first
      | intro _ | with_reducible exact h | with_reducible assumption | with_reducible apply State.dropBale_same hL
      | with_reducible apply State.setBale_same q1 | with_reducible apply State.discard_same hL
      | with_reducible apply State.accept_same q3 | with_reducible apply State.segmentTimeout_same hL
      | with_reducible apply same_ite | with_reducible apply same_foldl | with_reducible apply same_foldl_fst | split)

theorem State.baleFrame_same {L : Nat} {z s : State} (hL : 536871240 &&& L = 536871240) (h : Agree L z s) (id : Nat) (data : List Byte) :
    Agree L z (State.baleFrame s id data) := by
  unfold State.baleFrame
  repeat' (first
      | intro _ | with_reducible exact h | with_reducible assumption | with_reducible apply State.baleSegment_same hL
      | with_reducible apply same_ite | with_reducible apply same_foldl | with_reducible apply same_foldl_fst | split)

theorem State.leaveConvoy_same {L : Nat} {z s : State} (hL : 67108872 &&& L = 67108872) (h : Agree L z s) (x : ConvoyState) (due : Nat) :
    Agree L z (State.leaveConvoy s x due) := by
  have q0 : 8 &&& L = 8 := sub_trans rfl hL
  have r0 : 67108864 &&& L = 67108864 := sub_trans rfl hL
  unfold State.leaveConvoy
  repeat' (first
      | intro _ | with_reducible exact h | with_reducible assumption | with_reducible apply State.setLive_same q0
      | with_reducible apply same_ite | with_reducible apply same_foldl | with_reducible apply same_foldl_fst
      | simp only [same_convoy r0] | split)

theorem State.takeSettings_same {L : Nat} {z s : State} (hL : 67108872 &&& L = 67108872) (h : Agree L z s)  :
    Agree L z (State.takeSettings s) := by
  have r0 : 67108864 &&& L = 67108864 := sub_trans rfl hL
  unfold State.takeSettings
  repeat' (first
      | intro _ | with_reducible exact h | with_reducible assumption | with_reducible apply State.leaveConvoy_same hL
      | with_reducible apply same_ite | with_reducible apply same_foldl | with_reducible apply same_foldl_fst
      | simp only [same_convoy r0] | split)

theorem State.soloEdge_same {L : Nat} {z s : State} (hL : 67108872 &&& L = 67108872) (h : Agree L z s) (t : Nat) :
    Agree L z (State.soloEdge s t) := by
  have q0 : 8 &&& L = 8 := sub_trans rfl hL
  have r0 : 67108864 &&& L = 67108864 := sub_trans rfl hL
  unfold State.soloEdge
  repeat' (first
      | intro _ | with_reducible exact h | with_reducible assumption | with_reducible apply State.bumpLive_same q0
      | with_reducible apply State.takeSettings_same hL | with_reducible apply same_ite | with_reducible apply same_foldl
      | with_reducible apply same_foldl_fst | simp only [same_convoy r0] | split)

theorem State.renewLog_same {L : Nat} {z s : State} (hL : 17592186044688 &&& L = 17592186044688) (h : Agree L z s) (n : Count) :
    Agree L z (State.renewLog s n) := by
  have r0 : 256 &&& L = 256 := sub_trans rfl hL
  have w3 : 17592186044688 &&& L = 17592186044688 := sub_trans rfl hL
  have w4 : 17592186044688 &&& L = 17592186044688 := sub_trans rfl hL
  unfold State.renewLog
  repeat' (first
      | intro _ | with_reducible exact h | with_reducible assumption | with_reducible apply writeLog_same w3
      | with_reducible apply writeLogBody_same w4 | with_reducible apply same_ite | with_reducible apply same_foldl
      | with_reducible apply same_foldl_fst | simp only [same_store r0] | split)

theorem State.renewDeadline_same {L : Nat} {z s : State} (hL : 264 &&& L = 264) (h : Agree L z s) (f : Nat) :
    Agree L z (State.renewDeadline s f) := by
  unfold State.renewDeadline
  repeat' (first
      | intro _ | with_reducible exact h | with_reducible assumption | with_reducible apply State.setPers_same hL
      | with_reducible apply same_ite | with_reducible apply same_foldl | with_reducible apply same_foldl_fst | split)

theorem State.setPersOr_same {L : Nat} {z s : State} (hL : 264 &&& L = 264) (h : Agree L z s) (key : Nat) (v : Nat) :
    Agree L z (State.setPersOr s key v) := by
  have q0 : 8 &&& L = 8 := sub_trans rfl hL
  unfold State.setPersOr
  repeat' (first
      | intro _ | with_reducible exact h | with_reducible assumption | with_reducible apply State.setLive_same q0
      | with_reducible apply State.setPers_same hL | with_reducible apply same_ite | with_reducible apply same_foldl
      | with_reducible apply same_foldl_fst | split)

theorem State.renewPair_same {L : Nat} {z s : State} (hL : 264 &&& L = 264) (h : Agree L z s) (st : Stamp) (n : Count) (k : Nat × Nat) :
    Agree L z (State.renewPair st n s k) := by
  unfold State.renewPair
  repeat' (first
      | intro _ | with_reducible exact h | with_reducible assumption | with_reducible apply State.setPersOr_same hL
      | with_reducible apply same_ite | with_reducible apply same_foldl | with_reducible apply same_foldl_fst | split)

theorem State.renewRec_same {L : Nat} {z s : State} (hL : 35184372089104 &&& L = 35184372089104) (h : Agree L z s) (n : Count)
    (q : RecTick) :
    Agree L z (State.renewRec n s q) := by
  have w0 : 35184372089104 &&& L = 35184372089104 := sub_trans rfl hL
  have w1 : 35184372089104 &&& L = 35184372089104 := sub_trans rfl hL
  unfold State.renewRec
  repeat' (first
      | intro _ | with_reducible exact h | with_reducible assumption | with_reducible apply writeRec_same w0
      | with_reducible apply writeBlank_same w1 | with_reducible apply same_ite | with_reducible apply same_foldl
      | with_reducible apply same_foldl_fst | split)

theorem State.renewStamps_same {L : Nat} {z s : State} (hL : 52776563053912 &&& L = 52776563053912) (h : Agree L z s) (n : Count) :
    Agree L z (State.renewStamps s n) := by
  have q0 : 17592186044688 &&& L = 17592186044688 := sub_trans rfl hL
  have q1 : 264 &&& L = 264 := sub_trans rfl hL
  have q2 : 264 &&& L = 264 := sub_trans rfl hL
  have q3 : 35184372089104 &&& L = 35184372089104 := sub_trans rfl hL
  have r0 : 4920384 &&& L = 4920384 := sub_trans rfl hL
  unfold State.renewStamps
  repeat' (first
      | intro _ | with_reducible exact h | with_reducible assumption | with_reducible apply State.renewLog_same q0
      | with_reducible apply State.renewDeadline_same q1 | with_reducible apply State.renewPair_same q2
      | with_reducible apply State.renewRec_same q3 | with_reducible apply same_ite | with_reducible apply same_foldl
      | with_reducible apply same_foldl_fst | simp only [same_coll_conv_ring_rails_seq_railWins_stips r0] | split)

theorem State.keepEdges_same {L : Nat} {z s : State} (hL : 4 &&& L = 4) (h : Agree L z s) (new : List (Count × Int)) :
    Agree L z (State.keepEdges s new) := by
  have r0 : 4 &&& L = 4 := sub_trans rfl hL
  unfold State.keepEdges
  repeat' (first
      | intro _ | with_reducible exact h | with_reducible assumption | with_reducible apply same_ite
      | with_reducible apply same_foldl | with_reducible apply same_foldl_fst | simp only [same_fab r0] | split)

theorem State.recordEdge_same {L : Nat} {z s0 : State} (hL : 52776563053916 &&& L = 52776563053916) (h : Agree L z s0) (n : Count) :
    Agree L z (State.recordEdge s0 n) := by
  have q0 : 4 &&& L = 4 := sub_trans rfl hL
  have q1 : 52776563053912 &&& L = 52776563053912 := sub_trans rfl hL
  have r0 : 4 &&& L = 4 := sub_trans rfl hL
  unfold State.recordEdge
  repeat' (first
      | intro _ | with_reducible exact h | with_reducible assumption | with_reducible apply State.keepEdges_same q0
      | with_reducible apply State.renewStamps_same q1 | with_reducible apply same_ite | with_reducible apply same_foldl
      | with_reducible apply same_foldl_fst | simp only [same_fab r0] | split)

theorem State.enterWay_same {L : Nat} {z s : State} (hL : 67240008 &&& L = 67240008) (h : Agree L z s) (w : Nat) (late : Option Count) :
    Agree L z (State.enterWay s w late) := by
  have q0 : 8 &&& L = 8 := sub_trans rfl hL
  have q1 : 64 &&& L = 64 := sub_trans rfl hL
  have r0 : 67239936 &&& L = 67239936 := sub_trans rfl hL
  unfold State.enterWay
  try dsimp only
  repeat' (first
      | intro _ | with_reducible exact h | with_reducible assumption | with_reducible apply State.bumpLive_same q0
      | with_reducible apply State.raise_same q1 | with_reducible apply same_ite | with_reducible apply same_foldl
      | with_reducible apply same_foldl_fst | simp only [same_seq_convoy r0] | split | dsimp only)

theorem State.updBeat_same {L : Nat} {z s : State} (hL : 268435456 &&& L = 268435456) (h : Agree L z s) (present : Bool) :
    Agree L z (State.updBeat s present) := by
  have r0 : 268435456 &&& L = 268435456 := sub_trans rfl hL
  unfold State.updBeat
  repeat' (first
      | intro _ | with_reducible exact h | with_reducible assumption | with_reducible apply same_ite
      | with_reducible apply same_foldl | with_reducible apply same_foldl_fst | simp only [same_upd r0] | split)

theorem State.judgeBeat_same {L : Nat} {z s : State} (hL : 335544328 &&& L = 335544328) (h : Agree L z s) (ready : Bool)
    (question : Option (Nat × Nat)) :
    Agree L z (State.judgeBeat s ready question) := by
  have q0 : 8 &&& L = 8 := sub_trans rfl hL
  have q1 : 268435456 &&& L = 268435456 := sub_trans rfl hL
  have r0 : 67108864 &&& L = 67108864 := sub_trans rfl hL
  unfold State.judgeBeat
  repeat' (first
      | intro _ | with_reducible exact h | with_reducible assumption | with_reducible apply State.bumpLive_same q0
      | with_reducible apply State.updBeat_same q1 | with_reducible apply same_ite | with_reducible apply same_foldl
      | with_reducible apply same_foldl_fst | simp only [same_convoy r0] | split)

theorem State.feedEdge_same {L : Nat} {z s : State} (hL : 33554432 &&& L = 33554432) (h : Agree L z s) (f : Nat) :
    Agree L z (State.feedEdge s f) := by
  unfold State.feedEdge
  repeat' (first
      | intro _ | with_reducible exact h | with_reducible assumption | with_reducible apply State.setFeed_same hL
      | with_reducible apply same_ite | with_reducible apply same_foldl | with_reducible apply same_foldl_fst | split)

theorem State.stipEdge_same {L : Nat} {z s : State} (hL : 4194336 &&& L = 4194336) (h : Agree L z s)  :
    Agree L z (State.stipEdge s) := by
  have q0 : 4194304 &&& L = 4194304 := sub_trans rfl hL
  have q1 : 32 &&& L = 32 := sub_trans rfl hL
  unfold State.stipEdge
  repeat' (first
      | intro _ | with_reducible exact h | with_reducible assumption | with_reducible apply State.setStip_same q0
      | with_reducible apply State.postLane_same q1 | with_reducible apply same_ite | with_reducible apply same_foldl
      | with_reducible apply same_foldl_fst | split)

theorem State.rearmEdge_same {L : Nat} {z s : State} (hL : 458784 &&& L = 458784) (h : Agree L z s)  :
    Agree L z (State.rearmEdge s) := by
  have q0 : 327712 &&& L = 327712 := sub_trans rfl hL
  have q1 : 65536 &&& L = 65536 := sub_trans rfl hL
  have r0 : 131072 &&& L = 131072 := sub_trans rfl hL
  unfold State.rearmEdge
  repeat' (first
      | intro _ | with_reducible exact h | with_reducible assumption | with_reducible apply State.railSlot_same q0
      | with_reducible apply State.setRail_same q1 | with_reducible apply same_ite | with_reducible apply same_foldl
      | with_reducible apply same_foldl_fst | simp only [same_seq r0] | split)

theorem State.beatWork_same {L : Nat} {z s : State} (hL : 38207520 &&& L = 38207520) (h : Agree L z s)  :
    Agree L z (State.beatWork s) := by
  have q0 : 33554432 &&& L = 33554432 := sub_trans rfl hL
  have q1 : 4194336 &&& L = 4194336 := sub_trans rfl hL
  have q2 : 458784 &&& L = 458784 := sub_trans rfl hL
  unfold State.beatWork
  repeat' (first
      | intro _ | with_reducible exact h | with_reducible assumption | with_reducible apply State.feedEdge_same q0
      | with_reducible apply State.stipEdge_same q1 | with_reducible apply State.rearmEdge_same q2 | with_reducible apply same_ite
      | with_reducible apply same_foldl | with_reducible apply same_foldl_fst | split)

theorem State.enterVersion_same {L : Nat} {z s : State} (hL : 67108928 &&& L = 67108928) (h : Agree L z s) (v : Nat) :
    Agree L z (State.enterVersion s v) := by
  have q0 : 64 &&& L = 64 := sub_trans rfl hL
  have r0 : 67108864 &&& L = 67108864 := sub_trans rfl hL
  unfold State.enterVersion
  repeat' (first
      | intro _ | with_reducible exact h | with_reducible assumption | with_reducible apply State.raise_same q0
      | with_reducible apply same_ite | with_reducible apply same_foldl | with_reducible apply same_foldl_fst
      | simp only [same_convoy r0] | split)

theorem State.unitEdge_same {L : Nat} {z s : State} (hL : 52776932414844 &&& L = 52776932414844) (h : Agree L z s) (question : Option
    (Nat × Nat)) :
    Agree L z (State.unitEdge s question) := by
  have q0 : 52776563053916 &&& L = 52776563053916 := sub_trans rfl hL
  have q1 : 8 &&& L = 8 := sub_trans rfl hL
  have q2 : 67240008 &&& L = 67240008 := sub_trans rfl hL
  have q3 : 335544328 &&& L = 335544328 := sub_trans rfl hL
  have q4 : 38207520 &&& L = 38207520 := sub_trans rfl hL
  have q5 : 67108928 &&& L = 67108928 := sub_trans rfl hL
  have r0 : 67108864 &&& L = 67108864 := sub_trans rfl hL
  unfold State.unitEdge
  repeat' (first
      | intro _ | with_reducible exact h | with_reducible assumption | with_reducible apply State.recordEdge_same q0
      | with_reducible apply State.bumpLive_same q1 | with_reducible apply State.enterWay_same q2
      | with_reducible apply State.judgeBeat_same q3 | with_reducible apply State.beatWork_same q4
      | with_reducible apply State.enterVersion_same q5 | with_reducible apply same_ite | with_reducible apply same_foldl
      | with_reducible apply same_foldl_fst | simp only [same_convoy r0] | split)

theorem State.rebaseFeed_same {L : Nat} {z s : State} (hL : 33554696 &&& L = 33554696) (h : Agree L z s) (d : Nat) (f : Nat) :
    Agree L z (State.rebaseFeed s d f) := by
  have q0 : 264 &&& L = 264 := sub_trans rfl hL
  have q1 : 33554432 &&& L = 33554432 := sub_trans rfl hL
  unfold State.rebaseFeed
  repeat' (first
      | intro _ | with_reducible exact h | with_reducible assumption | with_reducible apply State.setPers_same q0
      | with_reducible apply State.setFeed_same q1 | with_reducible apply same_ite | with_reducible apply same_foldl
      | with_reducible apply same_foldl_fst | split)

theorem State.rebase_same {L : Nat} {z s : State} (hL : 375392524 &&& L = 375392524) (h : Agree L z s) (c : Count) :
    Agree L z (State.rebase s c) := by
  have q0 : 8 &&& L = 8 := sub_trans rfl hL
  have q1 : 33554696 &&& L = 33554696 := sub_trans rfl hL
  have r0 : 341837828 &&& L = 341837828 := sub_trans rfl hL
  unfold State.rebase
  repeat' (first
      | intro _ | with_reducible exact h | with_reducible assumption | with_reducible apply State.bumpLive_same q0
      | with_reducible apply State.rebaseFeed_same q1 | with_reducible apply same_ite | with_reducible apply same_foldl
      | with_reducible apply same_foldl_fst | simp only [same_fab_cap_margins_stips_convoy_upd r0] | split)

theorem State.joinConvoy_same {L : Nat} {z s : State} (hL : 52776934514044 &&& L = 52776934514044) (h : Agree L z s) (f : Frame) :
    Agree L z (State.joinConvoy s f) := by
  have q0 : 52776563053912 &&& L = 52776563053912 := sub_trans rfl hL
  have q1 : 52776932414844 &&& L = 52776932414844 := sub_trans rfl hL
  have q2 : 375392524 &&& L = 375392524 := sub_trans rfl hL
  have r0 : 67108864 &&& L = 67108864 := sub_trans rfl hL
  unfold State.joinConvoy
  repeat' (first
      | intro _ | with_reducible exact h | with_reducible assumption | with_reducible apply State.renewStamps_same q0
      | with_reducible apply State.unitEdge_same q1 | with_reducible apply State.rebase_same q2 | with_reducible apply same_ite
      | with_reducible apply same_foldl | with_reducible apply same_foldl_fst | simp only [same_convoy r0] | split)

theorem State.noteEdge_same {L : Nat} {z s : State} (hL : 67108864 &&& L = 67108864) (h : Agree L z s)  :
    Agree L z (State.noteEdge s) := by
  have r0 : 67108864 &&& L = 67108864 := sub_trans rfl hL
  unfold State.noteEdge
  repeat' (first
      | intro _ | with_reducible exact h | with_reducible assumption | with_reducible apply same_ite
      | with_reducible apply same_foldl | with_reducible apply same_foldl_fst | simp only [same_convoy r0] | split)

theorem State.forcedRelease_same {L : Nat} {z s : State} (hL : 67108936 &&& L = 67108936) (h : Agree L z s)  :
    Agree L z (State.forcedRelease s) := by
  have q0 : 8 &&& L = 8 := sub_trans rfl hL
  have q1 : 64 &&& L = 64 := sub_trans rfl hL
  have r0 : 67108864 &&& L = 67108864 := sub_trans rfl hL
  unfold State.forcedRelease
  repeat' (first
      | intro _ | with_reducible exact h | with_reducible assumption | with_reducible apply State.bumpLive_same q0
      | with_reducible apply State.raise_same q1 | with_reducible apply same_ite | with_reducible apply same_foldl
      | with_reducible apply same_foldl_fst | simp only [same_convoy r0] | split)

theorem State.beatEdge_same {L : Nat} {z s : State} (hL : 52776934514046 &&& L = 52776934514046) (h : Agree L z s)  :
    Agree L z (State.beatEdge s) := by
  have q0 : 10 &&& L = 10 := sub_trans rfl hL
  have q1 : 67108872 &&& L = 67108872 := sub_trans rfl hL
  have q2 : 52776934514044 &&& L = 52776934514044 := sub_trans rfl hL
  have q3 : 67108864 &&& L = 67108864 := sub_trans rfl hL
  have q4 : 52776932414844 &&& L = 52776932414844 := sub_trans rfl hL
  have q5 : 67108936 &&& L = 67108936 := sub_trans rfl hL
  have q6 : 67108872 &&& L = 67108872 := sub_trans rfl hL
  have r0 : 67108864 &&& L = 67108864 := sub_trans rfl hL
  unfold State.beatEdge
  repeat' (first
      | intro _ | with_reducible exact h | with_reducible assumption | with_reducible apply State.joined_same q0
      | with_reducible apply State.soloEdge_same q1 | with_reducible apply State.joinConvoy_same q2
      | with_reducible apply State.noteEdge_same q3 | with_reducible apply State.unitEdge_same q4
      | with_reducible apply State.forcedRelease_same q5 | with_reducible apply State.takeSettings_same q6
      | with_reducible apply same_ite | with_reducible apply same_foldl | with_reducible apply same_foldl_fst
      | simp only [same_convoy r0] | split)

theorem State.locateFrame_same {L : Nat} {z s : State} (hL : 67108872 &&& L = 67108872) (h : Agree L z s)  :
    Agree L z (State.locateFrame s) := by
  unfold State.locateFrame
  repeat' (first
      | intro _ | with_reducible exact h | with_reducible assumption | with_reducible apply State.soloEdge_same hL
      | with_reducible apply same_ite | with_reducible apply same_foldl | with_reducible apply same_foldl_fst | split)

theorem State.takeWay_same {L : Nat} {z s : State} (hL : 67108864 &&& L = 67108864) (h : Agree L z s) (prev : Option Frame) (f : Frame) :
    Agree L z (State.takeWay s prev f) := by
  have r0 : 67108864 &&& L = 67108864 := sub_trans rfl hL
  unfold State.takeWay
  repeat' (first
      | intro _ | with_reducible exact h | with_reducible assumption | with_reducible apply same_ite
      | with_reducible apply same_foldl | with_reducible apply same_foldl_fst | simp only [same_convoy r0] | split)

theorem State.memberFrame_same {L : Nat} {z s : State} (hL : 375392588 &&& L = 375392588) (h : Agree L z s) (f : Frame) :
    Agree L z (State.memberFrame s f) := by
  have q0 : 67108864 &&& L = 67108864 := sub_trans rfl hL
  have q1 : 8 &&& L = 8 := sub_trans rfl hL
  have q2 : 64 &&& L = 64 := sub_trans rfl hL
  have q3 : 8 &&& L = 8 := sub_trans rfl hL
  have q4 : 375392524 &&& L = 375392524 := sub_trans rfl hL
  have r0 : 67108864 &&& L = 67108864 := sub_trans rfl hL
  unfold State.memberFrame
  repeat' (first
      | intro _ | with_reducible exact h | with_reducible assumption | with_reducible apply State.takeWay_same q0
      | with_reducible apply State.bumpLive_same q1 | with_reducible apply State.raise_same q2
      | with_reducible apply State.setLive_same q3 | with_reducible apply State.rebase_same q4 | with_reducible apply same_ite
      | with_reducible apply same_foldl | with_reducible apply same_foldl_fst | simp only [same_convoy r0] | split)

theorem State.beatFrame_same {L : Nat} {z s0 : State} (hL : 375392588 &&& L = 375392588) (h : Agree L z s0) (bs : List Byte) :
    Agree L z (State.beatFrame s0 bs) := by
  have q0 : 8 &&& L = 8 := sub_trans rfl hL
  have q1 : 64 &&& L = 64 := sub_trans rfl hL
  have q2 : 8 &&& L = 8 := sub_trans rfl hL
  have q3 : 375392524 &&& L = 375392524 := sub_trans rfl hL
  have q4 : 67108872 &&& L = 67108872 := sub_trans rfl hL
  have r0 : 67108864 &&& L = 67108864 := sub_trans rfl hL
  unfold State.beatFrame
  repeat' (first
      | intro _ | with_reducible exact h | with_reducible assumption | with_reducible apply State.bumpLive_same q0
      | with_reducible apply State.raise_same q1 | with_reducible apply State.setLive_same q2
      | with_reducible apply State.rebase_same q3 | with_reducible apply State.locateFrame_same q4
      | with_reducible apply State.memberFrame_same hL | with_reducible apply same_ite | with_reducible apply same_foldl
      | with_reducible apply same_foldl_fst | simp only [same_convoy r0] | split)

theorem State.objectWay_same {L : Nat} {z s : State} (hL : 67108928 &&& L = 67108928) (h : Agree L z s)  :
    Agree L z (State.objectWay s) := by
  have q0 : 64 &&& L = 64 := sub_trans rfl hL
  have r0 : 67108864 &&& L = 67108864 := sub_trans rfl hL
  unfold State.objectWay
  repeat' (first
      | intro _ | with_reducible exact h | with_reducible assumption | with_reducible apply State.raise_same q0
      | with_reducible apply same_ite | with_reducible apply same_foldl | with_reducible apply same_foldl_fst
      | simp only [same_convoy r0] | split)

theorem State.voteResult_same {L : Nat} {z s : State} (hL : 67108928 &&& L = 67108928) (h : Agree L z s) (asked : Option (Nat × Nat))
    (passed : Bool) :
    Agree L z (State.voteResult s asked passed).1 := by
  have r0 : 67108864 &&& L = 67108864 := sub_trans rfl hL
  unfold State.voteResult
  repeat' (first
      | intro _ | with_reducible exact h | with_reducible assumption | with_reducible apply State.objectWay_same hL
      | with_reducible apply same_ite | with_reducible apply same_foldl | with_reducible apply same_foldl_fst
      | simp only [same_convoy r0] | split)

theorem State.beatFrameSend_same {L : Nat} {z s : State} (hL : 67108936 &&& L = 67108936) (h : Agree L z s) (halt : HaltSample)
    (vote : Bool) :
    Agree L z (State.beatFrameSend s halt vote) := by
  have q0 : 67108928 &&& L = 67108928 := sub_trans rfl hL
  have q1 : 8 &&& L = 8 := sub_trans rfl hL
  have r0 : 67108864 &&& L = 67108864 := sub_trans rfl hL
  unfold State.beatFrameSend
  repeat' (first
      | intro _ | with_reducible exact h | with_reducible assumption | with_reducible apply State.voteResult_same q0
      | with_reducible apply State.setLive_same q1 | with_reducible apply same_ite | with_reducible apply same_foldl
      | with_reducible apply same_foldl_fst | simp only [same_convoy r0] | split)

theorem State.pruneRecents_same {L : Nat} {z s : State} (hL : 128 &&& L = 128) (h : Agree L z s)  :
    Agree L z (State.pruneRecents s) := by
  have r0 : 128 &&& L = 128 := sub_trans rfl hL
  unfold State.pruneRecents
  repeat' (first
      | intro _ | with_reducible exact h | with_reducible assumption | with_reducible apply same_ite
      | with_reducible apply same_foldl | with_reducible apply same_foldl_fst | simp only [same_ledger r0] | split)

theorem State.wideSet_same {L : Nat} {z s0 : State} (hL : 264 &&& L = 264) (h : Agree L z s0) (key : Nat) (v : Nat) :
    Agree L z (State.wideSet s0 key v) := by
  unfold State.wideSet
  repeat' (first
      | intro _ | with_reducible exact h | with_reducible assumption | with_reducible apply State.finishCarry_same hL
      | with_reducible apply State.setPers_same hL | with_reducible apply same_ite | with_reducible apply same_foldl
      | with_reducible apply same_foldl_fst | split)

theorem State.retireOldest_same {L : Nat} {z s : State} (hL : 264 &&& L = 264) (h : Agree L z s)  :
    Agree L z (State.retireOldest s) := by
  unfold State.retireOldest
  repeat' (first
      | intro _ | with_reducible exact h | with_reducible assumption | with_reducible apply State.wideAdd_same hL
      | with_reducible apply State.wideSet_same hL | with_reducible apply State.setPers_same hL | with_reducible apply same_ite
      | with_reducible apply same_foldl | with_reducible apply same_foldl_fst | split)

theorem State.newRec_same {L : Nat} {z s : State} (hL : 35184372089240 &&& L = 35184372089240) (h : Agree L z s) (f : Rec → Rec)
    (tick : Nat) :
    Agree L z (State.newRec s f tick) := by
  have q0 : 264 &&& L = 264 := sub_trans rfl hL
  have q1 : 264 &&& L = 264 := sub_trans rfl hL
  have q2 : 128 &&& L = 128 := sub_trans rfl hL
  have q3 : 264 &&& L = 264 := sub_trans rfl hL
  have r0 : 128 &&& L = 128 := sub_trans rfl hL
  have w0 : 35184372089104 &&& L = 35184372089104 := sub_trans rfl hL
  have w1 : 35184372089104 &&& L = 35184372089104 := sub_trans rfl hL
  unfold State.newRec
  repeat' (first
      | intro _ | with_reducible exact h | with_reducible assumption | with_reducible apply State.wideAdd_same q0
      | with_reducible apply State.setPers_same q1 | with_reducible apply State.pruneRecents_same q2
      | with_reducible apply State.retireOldest_same q3 | with_reducible apply writeRec_same w0
      | with_reducible apply writeBlank_same w1 | with_reducible apply same_ite | with_reducible apply same_foldl
      | with_reducible apply same_foldl_fst | simp only [same_ledger r0] | split)

theorem State.systemRec_same {L : Nat} {z s : State} (hL : 35184372089240 &&& L = 35184372089240) (h : Agree L z s) (body : Nat)
    (count : Nat) :
    Agree L z (State.systemRec s body count) := by
  unfold State.systemRec
  repeat' (first
      | intro _ | with_reducible exact h | with_reducible assumption | with_reducible apply State.newRec_same hL
      | with_reducible apply same_ite | with_reducible apply same_foldl | with_reducible apply same_foldl_fst | split)

theorem State.restartRecs_same {L : Nat} {z s : State} (hL : 35184372089240 &&& L = 35184372089240) (h : Agree L z s)  :
    Agree L z (State.restartRecs s) := by
  have r0 : 128 &&& L = 128 := sub_trans rfl hL
  unfold State.restartRecs
  repeat' (first
      | intro _ | with_reducible exact h | with_reducible assumption | with_reducible apply State.systemRec_same hL
      | with_reducible apply same_ite | with_reducible apply same_foldl | with_reducible apply same_foldl_fst
      | simp only [same_ledger r0] | split)

theorem State.ledgerClear_same {L : Nat} {z s0 : State} (hL : 35184372089272 &&& L = 35184372089272) (h : Agree L z s0) (scope : Nat)
    (port : Nat) :
    Agree L z (State.ledgerClear s0 scope port) := by
  have q0 : 35184372089240 &&& L = 35184372089240 := sub_trans rfl hL
  have q1 : 264 &&& L = 264 := sub_trans rfl hL
  have q2 : 264 &&& L = 264 := sub_trans rfl hL
  have q3 : 264 &&& L = 264 := sub_trans rfl hL
  have q4 : 288 &&& L = 288 := sub_trans rfl hL
  have q5 : 35184372089240 &&& L = 35184372089240 := sub_trans rfl hL
  unfold State.ledgerClear
  repeat' (first
      | intro _ | with_reducible exact h | with_reducible assumption | with_reducible apply State.systemRec_same q0
      | with_reducible apply State.wideSet_same q1 | with_reducible apply State.bump_same q2
      | with_reducible apply State.setPers_same q3 | with_reducible apply State.postEtch_same q4
      | with_reducible apply State.restartRecs_same q5 | with_reducible apply same_ite | with_reducible apply same_foldl
      | with_reducible apply same_foldl_fst | split)

theorem State.dropClaim_same {L : Nat} {z s : State} (hL : 536870912 &&& L = 536870912) (h : Agree L z s) (g : Nat) :
    Agree L z (State.dropClaim s g) := by
  have r0 : 536870912 &&& L = 536870912 := sub_trans rfl hL
  unfold State.dropClaim
  repeat' (first
      | intro _ | with_reducible exact h | with_reducible assumption | with_reducible apply same_ite
      | with_reducible apply same_foldl | with_reducible apply same_foldl_fst | simp only [same_hosts r0] | split)

theorem State.startAutoTimer_same {L : Nat} {z s : State} (hL : 256 &&& L = 256) (h : Agree L z s)  :
    Agree L z (State.startAutoTimer s) := by
  have r0 : 256 &&& L = 256 := sub_trans rfl hL
  unfold State.startAutoTimer
  repeat' (first
      | intro _ | with_reducible exact h | with_reducible assumption | with_reducible apply same_ite
      | with_reducible apply same_foldl | with_reducible apply same_foldl_fst | simp only [same_store r0] | split)

theorem State.updBlock_same {L : Nat} {z s : State} (hL : 268435784 &&& L = 268435784) (h : Agree L z s) (i : Nat) :
    Agree L z (State.updBlock s i) := by
  have q0 : 8 &&& L = 8 := sub_trans rfl hL
  have q1 : 264 &&& L = 264 := sub_trans rfl hL
  have q2 : 268435456 &&& L = 268435456 := sub_trans rfl hL
  have q3 : 64 &&& L = 64 := sub_trans rfl hL
  unfold State.updBlock
  repeat' (first
      | intro _ | with_reducible exact h | with_reducible assumption | with_reducible apply State.setLive_same q0
      | with_reducible apply State.bump_same q1 | with_reducible apply State.setUpd_same q2
      | with_reducible apply State.raise_same q3 | with_reducible apply same_ite | with_reducible apply same_foldl
      | with_reducible apply same_foldl_fst | split)

theorem State.wayRequest_same {L : Nat} {z s : State} (hL : 67108864 &&& L = 67108864) (h : Agree L z s) (w : Nat) :
    Agree L z (State.wayRequest s w) := by
  have r0 : 67108864 &&& L = 67108864 := sub_trans rfl hL
  unfold State.wayRequest
  repeat' (first
      | intro _ | with_reducible exact h | with_reducible assumption | with_reducible apply same_ite
      | with_reducible apply same_foldl | with_reducible apply same_foldl_fst | simp only [same_convoy r0] | split)

theorem State.claim_same {L : Nat} {z s : State} (hL : 536870912 &&& L = 536870912) (h : Agree L z s) (p : Nat) (g : Nat) :
    Agree L z (State.claim s p g) := by
  have r0 : 536870912 &&& L = 536870912 := sub_trans rfl hL
  unfold State.claim
  repeat' (first
      | intro _ | with_reducible exact h | with_reducible assumption | with_reducible apply same_ite
      | with_reducible apply same_foldl | with_reducible apply same_foldl_fst | simp only [same_hosts r0] | split)

theorem State.clearFeed_same {L : Nat} {z s : State} (hL : 33718600 &&& L = 33718600) (h : Agree L z s) (f : Nat) :
    Agree L z (State.clearFeed s f) := by
  have q0 : 264 &&& L = 264 := sub_trans rfl hL
  have q2 : 33554432 &&& L = 33554432 := sub_trans rfl hL
  unfold State.clearFeed
  repeat' (first
      | intro _ | with_reducible exact h | with_reducible assumption | with_reducible apply State.setPers_same q0
      | with_reducible apply State.openFeed_same hL | with_reducible apply State.setFeed_same q2 | with_reducible apply same_ite
      | with_reducible apply same_foldl | with_reducible apply same_foldl_fst | split)

theorem State.updApply_same {L : Nat} {z s : State} (hL : 402653184 &&& L = 402653184) (h : Agree L z s)  :
    Agree L z (State.updApply s) := by
  have q0 : 268435456 &&& L = 268435456 := sub_trans rfl hL
  have q1 : 134217728 &&& L = 134217728 := sub_trans rfl hL
  have r0 : 402653184 &&& L = 402653184 := sub_trans rfl hL
  unfold State.updApply
  repeat' (first
      | intro _ | with_reducible exact h | with_reducible assumption | with_reducible apply State.setUpd_same q0
      | with_reducible apply State.setNewBank_same q1 | with_reducible apply same_ite | with_reducible apply same_foldl
      | with_reducible apply same_foldl_fst | simp only [same_loader_upd r0] | split)

theorem State.updSchedule_same {L : Nat} {z s : State} (hL : 268435456 &&& L = 268435456) (h : Agree L z s)  :
    Agree L z (State.updSchedule s) := by
  have r0 : 268435456 &&& L = 268435456 := sub_trans rfl hL
  unfold State.updSchedule
  repeat' (first
      | intro _ | with_reducible exact h | with_reducible assumption | with_reducible apply same_ite
      | with_reducible apply same_foldl | with_reducible apply same_foldl_fst | simp only [same_upd r0] | split)

theorem State.updAbort_same {L : Nat} {z s : State} (hL : 10995518931224 &&& L = 10995518931224) (h : Agree L z s)  :
    Agree L z (State.updAbort s) := by
  have q0 : 134217728 &&& L = 134217728 := sub_trans rfl hL
  have q1 : 8 &&& L = 8 := sub_trans rfl hL
  have q2 : 2199023255824 &&& L = 2199023255824 := sub_trans rfl hL
  have r0 : 268435456 &&& L = 268435456 := sub_trans rfl hL
  have r1 : 134217728 &&& L = 134217728 := sub_trans rfl hL
  have w8 : 2199023255824 &&& L = 2199023255824 := sub_trans rfl hL
  have w9 : 8796093022480 &&& L = 8796093022480 := sub_trans rfl hL
  unfold State.updAbort
  repeat' (first
      | intro _ | with_reducible exact h | with_reducible assumption | with_reducible apply State.setNewBank_same q0
      | with_reducible apply State.updReason_same q1 | with_reducible apply State.setAreaState_same q2
      | with_reducible apply writeAreaHead_same w8 | with_reducible apply writeManifest_same w9 | with_reducible apply same_ite
      | with_reducible apply same_foldl | with_reducible apply same_foldl_fst | simp only [same_upd r0, same_loader r1] | split)

theorem State.updOpen_same {L : Nat} {z s : State} (hL : 268435464 &&& L = 268435464) (h : Agree L z s)  :
    Agree L z (State.updOpen s) := by
  have q0 : 8 &&& L = 8 := sub_trans rfl hL
  have q1 : 268435456 &&& L = 268435456 := sub_trans rfl hL
  unfold State.updOpen
  repeat' (first
      | intro _ | with_reducible exact h | with_reducible assumption | with_reducible apply State.setLive_same q0
      | with_reducible apply State.setUpd_same q1 | with_reducible apply same_ite | with_reducible apply same_foldl
      | with_reducible apply same_foldl_fst | split)

theorem State.updUnschedule_same {L : Nat} {z s : State} (hL : 268435456 &&& L = 268435456) (h : Agree L z s)  :
    Agree L z (State.updUnschedule s) := by
  have r0 : 268435456 &&& L = 268435456 := sub_trans rfl hL
  unfold State.updUnschedule
  repeat' (first
      | intro _ | with_reducible exact h | with_reducible assumption | with_reducible apply same_ite
      | with_reducible apply same_foldl | with_reducible apply same_foldl_fst | simp only [same_upd r0] | split)

theorem State.updCmd_same {L : Nat} {z s : State} (hL : 10995518931224 &&& L = 10995518931224) (h : Agree L z s) (c : Nat) :
    Agree L z (State.updCmd s c) := by
  have q0 : 268435456 &&& L = 268435456 := sub_trans rfl hL
  have q1 : 402653184 &&& L = 402653184 := sub_trans rfl hL
  have q2 : 268435456 &&& L = 268435456 := sub_trans rfl hL
  have q4 : 268435464 &&& L = 268435464 := sub_trans rfl hL
  have q5 : 268435456 &&& L = 268435456 := sub_trans rfl hL
  have q6 : 268435456 &&& L = 268435456 := sub_trans rfl hL
  unfold State.updCmd
  repeat' (first
      | intro _ | with_reducible exact h | with_reducible assumption | with_reducible apply State.setHealth_same q0
      | with_reducible apply State.updApply_same q1 | with_reducible apply State.updSchedule_same q2
      | with_reducible apply State.updAbort_same hL | with_reducible apply State.updOpen_same q4
      | with_reducible apply State.updUnschedule_same q5 | with_reducible apply State.setUpd_same q6
      | with_reducible apply same_ite | with_reducible apply same_foldl | with_reducible apply same_foldl_fst | split)

theorem State.setInrush_same {L : Nat} {z s : State} (hL : 264 &&& L = 264) (h : Agree L z s) (v : Nat) :
    Agree L z (State.setInrush s v) := by
  have q0 : 8 &&& L = 8 := sub_trans rfl hL
  unfold State.setInrush
  repeat' (first
      | intro _ | with_reducible exact h | with_reducible assumption | with_reducible apply State.setLive_same q0
      | with_reducible apply State.bump_same hL | with_reducible apply State.setPers_same hL | with_reducible apply same_ite
      | with_reducible apply same_foldl | with_reducible apply same_foldl_fst | split)

theorem State.resetStencil_same {L : Nat} {z s : State} (hL : 16648 &&& L = 16648) (h : Agree L z s)  :
    Agree L z (State.resetStencil s) := by
  have q1 : 264 &&& L = 264 := sub_trans rfl hL
  unfold State.resetStencil
  repeat' (first
      | intro _ | with_reducible exact h | with_reducible assumption | with_reducible apply State.mirror_same hL
      | with_reducible apply State.setPers_same q1 | with_reducible apply same_ite | with_reducible apply same_foldl
      | with_reducible apply same_foldl_fst | split)

theorem State.faultAck_same {L : Nat} {z s : State} (hL : 328 &&& L = 328) (h : Agree L z s)  :
    Agree L z (State.faultAck s) := by
  have q0 : 264 &&& L = 264 := sub_trans rfl hL
  have r0 : 64 &&& L = 64 := sub_trans rfl hL
  unfold State.faultAck
  repeat' (first
      | intro _ | with_reducible exact h | with_reducible assumption | with_reducible apply State.setPers_same q0
      | with_reducible apply same_ite | with_reducible apply same_foldl | with_reducible apply same_foldl_fst
      | simp only [same_coll r0] | split)

theorem State.forceMsg_same {L : Nat} {z s : State} (hL : 64 &&& L = 64) (h : Agree L z s) (src : Nat) :
    Agree L z (State.forceMsg s src) := by
  have r0 : 64 &&& L = 64 := sub_trans rfl hL
  unfold State.forceMsg
  repeat' (first
      | intro _ | with_reducible exact h | with_reducible assumption | with_reducible apply same_ite
      | with_reducible apply same_foldl | with_reducible apply same_foldl_fst | simp only [same_coll r0] | split)

theorem State.release__same {L : Nat} {z s : State} (hL : 536870912 &&& L = 536870912) (h : Agree L z s) (p : Nat) (g : Nat) :
    Agree L z (State.release_ s p g) := by
  unfold State.release_
  repeat' (first
      | intro _ | with_reducible exact h | with_reducible assumption | with_reducible apply State.dropClaim_same hL
      | with_reducible apply same_ite | with_reducible apply same_foldl | with_reducible apply same_foldl_fst | split)

theorem State.defaultValues_same {L : Nat} {z s : State} (hL : 264 &&& L = 264) (h : Agree L z s)  :
    Agree L z (State.defaultValues s) := by
  unfold State.defaultValues
  repeat' (first
      | intro _ | with_reducible exact h | with_reducible assumption | with_reducible apply State.setPers_same hL
      | with_reducible apply same_ite | with_reducible apply same_foldl | with_reducible apply same_foldl_fst | split)

theorem State.untrip_same {L : Nat} {z s : State} (hL : 33554760 &&& L = 33554760) (h : Agree L z s) (f : Nat) :
    Agree L z (State.untrip s f) := by
  have q0 : 264 &&& L = 264 := sub_trans rfl hL
  have q1 : 64 &&& L = 64 := sub_trans rfl hL
  have q2 : 64 &&& L = 64 := sub_trans rfl hL
  have q3 : 33554432 &&& L = 33554432 := sub_trans rfl hL
  unfold State.untrip
  repeat' (first
      | intro _ | with_reducible exact h | with_reducible assumption | with_reducible apply State.setPers_same q0
      | with_reducible apply State.unraise_same q1 | with_reducible apply State.restampRun_same q2
      | with_reducible apply State.setFeed_same q3 | with_reducible apply same_ite | with_reducible apply same_foldl
      | with_reducible apply same_foldl_fst | split)

theorem State.enableFeed_same {L : Nat} {z s : State} (hL : 33718600 &&& L = 33718600) (h : Agree L z s) (f : Nat) (on : Bool) :
    Agree L z (State.enableFeed s f on) := by
  have q0 : 33554760 &&& L = 33554760 := sub_trans rfl hL
  have q1 : 33554432 &&& L = 33554432 := sub_trans rfl hL
  have q3 : 33554432 &&& L = 33554432 := sub_trans rfl hL
  unfold State.enableFeed
  repeat' (first
      | intro _ | with_reducible exact h | with_reducible assumption | with_reducible apply State.untrip_same q0
      | with_reducible apply State.moveFeed_same q1 | with_reducible apply State.openFeed_same hL
      | with_reducible apply State.setFeed_same q3 | with_reducible apply same_ite | with_reducible apply same_foldl
      | with_reducible apply same_foldl_fst | split)

theorem State.closeRingPage_same {L : Nat} {z s : State} (hL : 4104 &&& L = 4104) (h : Agree L z s)  :
    Agree L z (State.closeRingPage s) := by
  have q0 : 8 &&& L = 8 := sub_trans rfl hL
  have r0 : 4096 &&& L = 4096 := sub_trans rfl hL
  unfold State.closeRingPage
  repeat' (first
      | intro _ | with_reducible exact h | with_reducible assumption | with_reducible apply State.setLive_same q0
      | with_reducible apply same_ite | with_reducible apply same_foldl | with_reducible apply same_foldl_fst
      | simp only [same_ring r0] | split)

theorem State.haltWritten_same {L : Nat} {z s : State} (hL : 67108864 &&& L = 67108864) (h : Agree L z s)  :
    Agree L z (State.haltWritten s) := by
  have r0 : 67108864 &&& L = 67108864 := sub_trans rfl hL
  unfold State.haltWritten
  repeat' (first
      | intro _ | with_reducible exact h | with_reducible assumption | with_reducible apply same_ite
      | with_reducible apply same_foldl | with_reducible apply same_foldl_fst | simp only [same_convoy r0] | split)

theorem State.filterClear_same {L : Nat} {z s : State} (hL : 65536 &&& L = 65536) (h : Agree L z s) (n : Nat) (c : Nat) :
    Agree L z (State.filterClear s n c) := by
  unfold State.filterClear
  repeat' (first
      | intro _ | with_reducible exact h | with_reducible assumption | with_reducible apply State.setFilter_same hL
      | with_reducible apply same_ite | with_reducible apply same_foldl | with_reducible apply same_foldl_fst | split)

theorem State.qualifyDue_same {L : Nat} {z s : State} (hL : 66035176 &&& L = 66035176) (h : Agree L z s) (n : Nat) (c : Nat) :
    Agree L z (State.qualifyDue s n c) := by
  unfold State.qualifyDue
  repeat' (first
      | intro _ | with_reducible exact h | with_reducible assumption | with_reducible apply State.qualifyAll_same hL
      | with_reducible apply same_ite | with_reducible apply same_foldl | with_reducible apply same_foldl_fst | split)

theorem State.filterWritten_same {L : Nat} {z s : State} (hL : 66035176 &&& L = 66035176) (h : Agree L z s) (n : Nat) (c : Nat) :
    Agree L z (State.filterWritten s n c) := by
  have q0 : 65536 &&& L = 65536 := sub_trans rfl hL
  unfold State.filterWritten
  repeat' (first
      | intro _ | with_reducible exact h | with_reducible assumption | with_reducible apply State.filterClear_same q0
      | with_reducible apply State.qualifyDue_same hL | with_reducible apply same_ite | with_reducible apply same_foldl
      | with_reducible apply same_foldl_fst | split)

theorem State.setLiveOf_same {L : Nat} {z s : State} (hL : 1048576 &&& L = 1048576) (h : Agree L z s) (n : Nat) (x : Live) :
    Agree L z (State.setLiveOf s n x) := by
  have r0 : 1048576 &&& L = 1048576 := sub_trans rfl hL
  unfold State.setLiveOf
  repeat' (first
      | intro _ | with_reducible exact h | with_reducible assumption | with_reducible apply same_ite
      | with_reducible apply same_foldl | with_reducible apply same_foldl_fst | simp only [same_live r0] | split)

theorem State.restartMeans_same {L : Nat} {z s : State} (hL : 1048576 &&& L = 1048576) (h : Agree L z s) (n : Nat) :
    Agree L z (State.restartMeans s n) := by
  unfold State.restartMeans
  repeat' (first
      | intro _ | with_reducible exact h | with_reducible assumption | with_reducible apply State.setLiveOf_same hL
      | with_reducible apply same_ite | with_reducible apply same_foldl | with_reducible apply same_foldl_fst | split)

theorem State.setPresent_same {L : Nat} {z s : State} (hL : 65536 &&& L = 65536) (h : Agree L z s) (n : Nat) (on : Bool) :
    Agree L z (State.setPresent s n on) := by
  unfold State.setPresent
  repeat' (first
      | intro _ | with_reducible exact h | with_reducible assumption | with_reducible apply State.moveRail_same hL
      | with_reducible apply State.setRail_same hL | with_reducible apply same_ite | with_reducible apply same_foldl
      | with_reducible apply same_foldl_fst | split)

theorem State.railHook_same {L : Nat} {z s : State} (hL : 67083752 &&& L = 67083752) (h : Agree L z s) (key : Nat) (v : Nat) (n : Nat) :
    Agree L z (State.railHook s key v n) := by
  have q0 : 66035176 &&& L = 66035176 := sub_trans rfl hL
  have q1 : 1048576 &&& L = 1048576 := sub_trans rfl hL
  have q2 : 65536 &&& L = 65536 := sub_trans rfl hL
  unfold State.railHook
  repeat' (first
      | intro _ | with_reducible exact h | with_reducible assumption | with_reducible apply State.filterWritten_same q0
      | with_reducible apply State.restartMeans_same q1 | with_reducible apply State.setPresent_same q2
      | with_reducible apply same_ite | with_reducible apply same_foldl | with_reducible apply same_foldl_fst | split)

theorem State.setProtect_same {L : Nat} {z s : State} (hL : 25166152 &&& L = 25166152) (h : Agree L z s) (v : Nat) :
    Agree L z (State.setProtect s v) := by
  have r0 : 16777216 &&& L = 16777216 := sub_trans rfl hL
  unfold State.setProtect
  repeat' (first
      | intro _ | with_reducible exact h | with_reducible assumption | with_reducible apply State.takeForReserve_same hL
      | with_reducible apply same_ite | with_reducible apply same_foldl | with_reducible apply same_foldl_fst
      | simp only [same_gov r0] | split)

end Sys2Proof.Machine
end

