-- ==== Sys2Proof/Laws/Frame3.lean ====
section
/-! SUPPORT. Frames of the operations, part 3: the mask of each lemma names the fields that the operation may change. -/

namespace Sys2Proof.Machine

theorem State.writeHook_same {L : Nat} {z s : State} (hL : 134192616 &&& L = 134192616) (h : Agree L z s) (old : State) (p : Nat)
    (key : Nat) (v : Nat) :
    Agree L z (State.writeHook s old p key v) := by
  have q0 : 33718600 &&& L = 33718600 := sub_trans rfl hL
  have q1 : 4104 &&& L = 4104 := sub_trans rfl hL
  have q2 : 163840 &&& L = 163840 := sub_trans rfl hL
  have q3 : 67108864 &&& L = 67108864 := sub_trans rfl hL
  have q4 : 67108864 &&& L = 67108864 := sub_trans rfl hL
  have q5 : 67083752 &&& L = 67083752 := sub_trans rfl hL
  have q6 : 29821288 &&& L = 29821288 := sub_trans rfl hL
  have q7 : 25166152 &&& L = 25166152 := sub_trans rfl hL
  have r0 : 1024 &&& L = 1024 := sub_trans rfl hL
  have r1 : 64 &&& L = 64 := sub_trans rfl hL
  unfold State.writeHook
  repeat' (first
      | intro _ | with_reducible exact h | with_reducible assumption | with_reducible apply State.enableFeed_same q0
      | with_reducible apply State.closeRingPage_same q1 | with_reducible apply State.inputReview_same q2
      | with_reducible apply State.haltWritten_same q3 | with_reducible apply State.drive_same q4
      | with_reducible apply State.railHook_same q5 | with_reducible apply State.localShutdown_same q6
      | with_reducible apply State.setProtect_same q7 | with_reducible apply same_ite | with_reducible apply same_foldl
      | with_reducible apply same_foldl_fst | simp only [same_conv r0, same_coll r1] | split)

theorem State.restoreDefaults_same {L : Nat} {z s : State} (hL : 134192616 &&& L = 134192616) (h : Agree L z s) (p : Nat) :
    Agree L z (State.restoreDefaults s p) := by
  have q0 : 264 &&& L = 264 := sub_trans rfl hL
  unfold State.restoreDefaults
  repeat' (first
      | intro _ | with_reducible exact h | with_reducible assumption | with_reducible apply State.defaultValues_same q0
      | with_reducible apply State.writeHook_same hL | with_reducible apply same_ite | with_reducible apply same_foldl
      | with_reducible apply same_foldl_fst | split)

theorem State.blockCommand_same {L : Nat} {z s : State} (hL : 46180562099704 &&& L = 46180562099704) (h : Agree L z s) (p : Nat)
    (key : Nat) (v : Nat) :
    Agree L z (State.blockCommand s p key v) := by
  have q0 : 35184372089272 &&& L = 35184372089272 := sub_trans rfl hL
  have q1 : 536870912 &&& L = 536870912 := sub_trans rfl hL
  have q2 : 256 &&& L = 256 := sub_trans rfl hL
  have q3 : 268435784 &&& L = 268435784 := sub_trans rfl hL
  have q4 : 67108864 &&& L = 67108864 := sub_trans rfl hL
  have q5 : 288 &&& L = 288 := sub_trans rfl hL
  have q6 : 536870912 &&& L = 536870912 := sub_trans rfl hL
  have q7 : 33718600 &&& L = 33718600 := sub_trans rfl hL
  have q8 : 10995518931224 &&& L = 10995518931224 := sub_trans rfl hL
  have q9 : 264 &&& L = 264 := sub_trans rfl hL
  have q10 : 16648 &&& L = 16648 := sub_trans rfl hL
  have q11 : 328 &&& L = 328 := sub_trans rfl hL
  have q12 : 360 &&& L = 360 := sub_trans rfl hL
  have q13 : 64 &&& L = 64 := sub_trans rfl hL
  have q14 : 536870912 &&& L = 536870912 := sub_trans rfl hL
  have q15 : 134192616 &&& L = 134192616 := sub_trans rfl hL
  unfold State.blockCommand
  repeat' (first
      | intro _ | with_reducible exact h | with_reducible assumption | with_reducible apply State.ledgerClear_same q0
      | with_reducible apply State.dropClaim_same q1 | with_reducible apply State.startAutoTimer_same q2
      | with_reducible apply State.updBlock_same q3 | with_reducible apply State.wayRequest_same q4
      | with_reducible apply State.postEtch_same q5 | with_reducible apply State.claim_same q6
      | with_reducible apply State.clearFeed_same q7 | with_reducible apply State.updCmd_same q8
      | with_reducible apply State.setInrush_same q9 | with_reducible apply State.resetStencil_same q10
      | with_reducible apply State.faultAck_same q11 | with_reducible apply State.abortEtch_same q12
      | with_reducible apply State.forceMsg_same q13 | with_reducible apply State.release__same q14
      | with_reducible apply State.restoreDefaults_same q15 | with_reducible apply same_ite | with_reducible apply same_foldl
      | with_reducible apply same_foldl_fst | split)

theorem State.runBank_same {L : Nat} {z s : State} (hL : 268460040 &&& L = 268460040) (h : Agree L z s) (b : Nat) :
    Agree L z (State.runBank s b) := by
  have r0 : 268435456 &&& L = 268435456 := sub_trans rfl hL
  have r1 : 268460040 &&& L = 268460040 := sub_trans rfl hL
  unfold State.runBank
  try dsimp only
  repeat' (first
      | intro _ | with_reducible exact h | with_reducible assumption | with_reducible apply same_ite
      | with_reducible apply same_foldl | with_reducible apply same_foldl_fst
      | simp only [same_upd r0, same_objs_activeArea_otherArea_upd r1] | split | dsimp only)

theorem State.bootImage_same {L : Nat} {z s : State} (hL : 2199425933656 &&& L = 2199425933656) (h : Agree L z s)  :
    Agree L z (State.bootImage s) := by
  have q0 : 2199425909080 &&& L = 2199425909080 := sub_trans rfl hL
  have q1 : 402653248 &&& L = 402653248 := sub_trans rfl hL
  have q2 : 268460040 &&& L = 268460040 := sub_trans rfl hL
  unfold State.bootImage
  repeat' (first
      | intro _ | with_reducible exact h | with_reducible assumption | with_reducible apply State.fellBack_same q0
      | with_reducible apply State.startTrial_same q1 | with_reducible apply State.runBank_same q2 | with_reducible apply same_ite
      | with_reducible apply same_foldl | with_reducible apply same_foldl_fst | split)

theorem State.busOff_same {L : Nat} {z s : State} (hL : 536870976 &&& L = 536870976) (h : Agree L z s)  :
    Agree L z (State.busOff s) := by
  have q0 : 536870912 &&& L = 536870912 := sub_trans rfl hL
  have q1 : 64 &&& L = 64 := sub_trans rfl hL
  unfold State.busOff
  repeat' (first
      | intro _ | with_reducible exact h | with_reducible assumption | with_reducible apply State.setBale_same q0
      | with_reducible apply State.raise_same q1 | with_reducible apply same_ite | with_reducible apply same_foldl
      | with_reducible apply same_foldl_fst | split)

theorem State.busOffEnd_same {L : Nat} {z s : State} (hL : 536870912 &&& L = 536870912) (h : Agree L z s)  :
    Agree L z (State.busOffEnd s) := by
  unfold State.busOffEnd
  repeat' (first
      | intro _ | with_reducible exact h | with_reducible assumption | with_reducible apply State.setBale_same hL
      | with_reducible apply same_ite | with_reducible apply same_foldl | with_reducible apply same_foldl_fst | split)

theorem State.setSlice_same {L : Nat} {z s : State} (hL : 1024 &&& L = 1024) (h : Agree L z s) (i : Nat) (x : Slice) :
    Agree L z (State.setSlice s i x) := by
  have r0 : 1024 &&& L = 1024 := sub_trans rfl hL
  unfold State.setSlice
  repeat' (first
      | intro _ | with_reducible exact h | with_reducible assumption | with_reducible apply same_ite
      | with_reducible apply same_foldl | with_reducible apply same_foldl_fst | simp only [same_conv r0] | split)

theorem State.calFail_same {L : Nat} {z s : State} (hL : 1352 &&& L = 1352) (h : Agree L z s) (i : Nat) :
    Agree L z (State.calFail s i) := by
  have q0 : 1024 &&& L = 1024 := sub_trans rfl hL
  have q1 : 264 &&& L = 264 := sub_trans rfl hL
  have q2 : 64 &&& L = 64 := sub_trans rfl hL
  have r0 : 1024 &&& L = 1024 := sub_trans rfl hL
  unfold State.calFail
  repeat' (first
      | intro _ | with_reducible exact h | with_reducible assumption | with_reducible apply State.setSlice_same q0
      | with_reducible apply State.bump_same q1 | with_reducible apply State.raise_same q2 | with_reducible apply same_ite
      | with_reducible apply same_foldl | with_reducible apply same_foldl_fst | simp only [same_conv r0] | split)

theorem State.calPass_same {L : Nat} {z s : State} (hL : 1288 &&& L = 1288) (h : Agree L z s) (i : Nat) (e : Int × Int × Int)
    (role : SliceRole) (pos : Nat) :
    Agree L z (State.calPass s i e role pos) := by
  have q0 : 1024 &&& L = 1024 := sub_trans rfl hL
  have q1 : 264 &&& L = 264 := sub_trans rfl hL
  have q2 : 8 &&& L = 8 := sub_trans rfl hL
  have r0 : 1024 &&& L = 1024 := sub_trans rfl hL
  unfold State.calPass
  repeat' (first
      | intro _ | with_reducible exact h | with_reducible assumption | with_reducible apply State.setSlice_same q0
      | with_reducible apply State.bump_same q1 | with_reducible apply State.bumpLive_same q2 | with_reducible apply same_ite
      | with_reducible apply same_foldl | with_reducible apply same_foldl_fst | simp only [same_conv r0] | split)

theorem State.calStale_same {L : Nat} {z s : State} (hL : 1088 &&& L = 1088) (h : Agree L z s) (i : Nat) :
    Agree L z (State.calStale s i) := by
  have q0 : 1024 &&& L = 1024 := sub_trans rfl hL
  have q1 : 64 &&& L = 64 := sub_trans rfl hL
  unfold State.calStale
  repeat' (first
      | intro _ | with_reducible exact h | with_reducible assumption | with_reducible apply State.setSlice_same q0
      | with_reducible apply State.raise_same q1 | with_reducible apply same_ite | with_reducible apply same_foldl
      | with_reducible apply same_foldl_fst | split)

theorem State.fillPlace_same {L : Nat} {z s : State} (hL : 1024 &&& L = 1024) (h : Agree L z s)  :
    Agree L z (State.fillPlace s) := by
  unfold State.fillPlace
  repeat' (first
      | intro _ | with_reducible exact h | with_reducible assumption | with_reducible apply State.setSlice_same hL
      | with_reducible apply same_ite | with_reducible apply same_foldl | with_reducible apply same_foldl_fst | split)

theorem State.calStepEnd_same {L : Nat} {z s : State} (hL : 1384 &&& L = 1384) (h : Agree L z s) (i : Nat) (zs : Nat) (p : Nat)
    (m : Nat) (rise : Nat) (fall : Nat) :
    Agree L z (State.calStepEnd s i zs p m rise fall) := by
  have q0 : 1288 &&& L = 1288 := sub_trans rfl hL
  have q1 : 1024 &&& L = 1024 := sub_trans rfl hL
  have q2 : 1352 &&& L = 1352 := sub_trans rfl hL
  have q3 : 32 &&& L = 32 := sub_trans rfl hL
  unfold State.calStepEnd
  repeat' (first
      | intro _ | with_reducible exact h | with_reducible assumption | with_reducible apply State.calPass_same q0
      | with_reducible apply State.fillPlace_same q1 | with_reducible apply State.calFail_same q2
      | with_reducible apply State.freeLane_same q3 | with_reducible apply same_ite | with_reducible apply same_foldl
      | with_reducible apply same_foldl_fst | split)

theorem State.issueBeat_same {L : Nat} {z s : State} (hL : 52776932414844 &&& L = 52776932414844) (h : Agree L z s)  :
    Agree L z (State.issueBeat s) := by
  have q0 : 67108864 &&& L = 67108864 := sub_trans rfl hL
  have r0 : 67108864 &&& L = 67108864 := sub_trans rfl hL
  unfold State.issueBeat
  repeat' (first
      | intro _ | with_reducible exact h | with_reducible assumption | with_reducible apply State.noteEdge_same q0
      | with_reducible apply State.unitEdge_same hL | with_reducible apply same_ite | with_reducible apply same_foldl
      | with_reducible apply same_foldl_fst | simp only [same_convoy r0] | split)

theorem State.candidateWait_same {L : Nat} {z s : State} (hL : 52776932414846 &&& L = 52776932414846) (h : Agree L z s)  :
    Agree L z (State.candidateWait s) := by
  have q0 : 10 &&& L = 10 := sub_trans rfl hL
  have q1 : 52776932414844 &&& L = 52776932414844 := sub_trans rfl hL
  have q2 : 67108872 &&& L = 67108872 := sub_trans rfl hL
  have r0 : 67108864 &&& L = 67108864 := sub_trans rfl hL
  unfold State.candidateWait
  repeat' (first
      | intro _ | with_reducible exact h | with_reducible assumption | with_reducible apply State.joined_same q0
      | with_reducible apply State.issueBeat_same q1 | with_reducible apply State.takeSettings_same q2
      | with_reducible apply same_ite | with_reducible apply same_foldl | with_reducible apply same_foldl_fst
      | simp only [same_convoy r0] | split)

theorem State.doneCapture_same {L : Nat} {z s : State} (hL : 2088 &&& L = 2088) (h : Agree L z s)  :
    Agree L z (State.doneCapture s) := by
  unfold State.doneCapture
  repeat' (first
      | intro _ | with_reducible exact h | with_reducible assumption | with_reducible apply State.endCapture_same hL
      | with_reducible apply same_ite | with_reducible apply same_foldl | with_reducible apply same_foldl_fst | split)

theorem State.captureDone_same {L : Nat} {z s : State} (hL : 4196392 &&& L = 4196392) (h : Agree L z s)  :
    Agree L z (State.captureDone s) := by
  have q0 : 4194336 &&& L = 4194336 := sub_trans rfl hL
  have q1 : 2088 &&& L = 2088 := sub_trans rfl hL
  unfold State.captureDone
  try dsimp only
  repeat' (first
      | intro _ | with_reducible exact h | with_reducible assumption | with_reducible apply State.stipUnloaded_same q0
      | with_reducible apply State.doneCapture_same q1 | with_reducible apply same_ite | with_reducible apply same_foldl
      | with_reducible apply same_foldl_fst | split | dsimp only)

theorem State.capturePreempted_same {L : Nat} {z s : State} (hL : 29362536 &&& L = 29362536) (h : Agree L z s)  :
    Agree L z (State.capturePreempted s) := by
  have q1 : 2080 &&& L = 2080 := sub_trans rfl hL
  have q2 : 2088 &&& L = 2088 := sub_trans rfl hL
  unfold State.capturePreempted
  repeat' (first
      | intro _ | with_reducible exact h | with_reducible assumption | with_reducible apply State.stipAbort_same hL
      | with_reducible apply State.withdrawCapture_same q1 | with_reducible apply State.endCapture_same q2
      | with_reducible apply same_ite | with_reducible apply same_foldl | with_reducible apply same_foldl_fst | split)

theorem State.startCapture_same {L : Nat} {z s : State} (hL : 2056 &&& L = 2056) (h : Agree L z s)  :
    Agree L z (State.startCapture s) := by
  have q0 : 8 &&& L = 8 := sub_trans rfl hL
  have r0 : 2048 &&& L = 2048 := sub_trans rfl hL
  unfold State.startCapture
  repeat' (first
      | intro _ | with_reducible exact h | with_reducible assumption | with_reducible apply State.setLive_same q0
      | with_reducible apply same_ite | with_reducible apply same_foldl | with_reducible apply same_foldl_fst
      | simp only [same_cap r0] | split)

theorem State.stipT0_same {L : Nat} {z s : State} (hL : 12582912 &&& L = 12582912) (h : Agree L z s) (n : Nat) :
    Agree L z (State.stipT0 s n) := by
  have q0 : 8388608 &&& L = 8388608 := sub_trans rfl hL
  have q1 : 4194304 &&& L = 4194304 := sub_trans rfl hL
  unfold State.stipT0
  repeat' (first
      | intro _ | with_reducible exact h | with_reducible assumption | with_reducible apply State.setSink_same q0
      | with_reducible apply State.setStip_same q1 | with_reducible apply same_ite | with_reducible apply same_foldl
      | with_reducible apply same_foldl_fst | split)

theorem State.captureStart_same {L : Nat} {z s : State} (hL : 12584968 &&& L = 12584968) (h : Agree L z s)  :
    Agree L z (State.captureStart s) := by
  have q0 : 2056 &&& L = 2056 := sub_trans rfl hL
  have q1 : 12582912 &&& L = 12582912 := sub_trans rfl hL
  unfold State.captureStart
  repeat' (first
      | intro _ | with_reducible exact h | with_reducible assumption | with_reducible apply State.startCapture_same q0
      | with_reducible apply State.stipT0_same q1 | with_reducible apply same_ite | with_reducible apply same_foldl
      | with_reducible apply same_foldl_fst | split)

theorem State.carrySteps_same {L : Nat} {z s : State} (hL : 264 &&& L = 264) (h : Agree L z s)  :
    Agree L z (State.carrySteps s) := by
  have r0 : 256 &&& L = 256 := sub_trans rfl hL
  unfold State.carrySteps
  repeat' (first
      | intro _ | with_reducible exact h | with_reducible assumption | with_reducible apply State.carryStep_same hL
      | with_reducible apply same_ite | with_reducible apply same_foldl | with_reducible apply same_foldl_fst
      | simp only [same_store r0] | split)

theorem State.causeArises_same {L : Nat} {z s : State} (hL : 29821288 &&& L = 29821288) (h : Agree L z s) (cause : Nat) :
    Agree L z (State.causeArises s cause) := by
  unfold State.causeArises
  repeat' (first
      | intro _ | with_reducible exact h | with_reducible assumption | with_reducible apply State.localShutdown_same hL
      | with_reducible apply same_ite | with_reducible apply same_foldl | with_reducible apply same_foldl_fst | split)

theorem State.challengeExpiry_same {L : Nat} {z s : State} (hL : 536870912 &&& L = 536870912) (h : Agree L z s) (p : Nat) :
    Agree L z (State.challengeExpiry s p) := by
  unfold State.challengeExpiry
  repeat' (first
      | intro _ | with_reducible exact h | with_reducible assumption | with_reducible apply State.setPort_same hL
      | with_reducible apply same_ite | with_reducible apply same_foldl | with_reducible apply same_foldl_fst | split)

theorem State.clearFrameErr_same {L : Nat} {z s : State} (hL : 536870912 &&& L = 536870912) (h : Agree L z s) (p : Nat) (seq : Nat) :
    Agree L z (State.clearFrameErr s p seq) := by
  have r0 : 536870912 &&& L = 536870912 := sub_trans rfl hL
  unfold State.clearFrameErr
  repeat' (first
      | intro _ | with_reducible exact h | with_reducible assumption | with_reducible apply State.setPort_same hL
      | with_reducible apply same_ite | with_reducible apply same_foldl | with_reducible apply same_foldl_fst
      | simp only [same_hosts r0] | split)

theorem State.goOff_same {L : Nat} {z s : State} (hL : 2251456082083838 &&& L = 2251456082083838) (h : Agree L z s) (supplies : Bool)
    (cause : Nat) :
    Agree L z (State.goOff s supplies cause) := by
  have b : ∀ {i : Nat} {p : Prop}, Nat.testBit 2251456082083838 i = true → L.testBit i = false → p := fun hb hn => bit_of_sub hb hL hn
  exact ⟨h.pending, b rfl, b rfl, b rfl, b rfl, b rfl, b rfl, b rfl, b rfl, b rfl, b rfl, b rfl, b rfl, b rfl, b rfl, b rfl, b rfl, b rfl, b rfl, b rfl, b rfl, b rfl, b rfl, b rfl, b rfl, b rfl, b rfl, h.loader, b rfl, b rfl, b rfl, b rfl, b rfl, b rfl, b rfl, b rfl, h.filterClk, b rfl, h.freezeLow, b rfl, b rfl, fun i q => absurd trivial (q .all (bits _ hL (by decide)))⟩

theorem State.endDischarge_same {L : Nat} {z s : State} (hL : 25166152 &&& L = 25166152) (h : Agree L z s) (n : Nat) :
    Agree L z (State.endDischarge s n) := by
  have q1 : 8388608 &&& L = 8388608 := sub_trans rfl hL
  unfold State.endDischarge
  repeat' (first
      | intro _ | with_reducible exact h | with_reducible assumption | with_reducible apply State.removeSink_same hL
      | with_reducible apply State.setSink_same q1 | with_reducible apply same_ite | with_reducible apply same_foldl
      | with_reducible apply same_foldl_fst | split)

theorem State.discharged_same {L : Nat} {z s : State} (hL : 25231720 &&& L = 25231720) (h : Agree L z s) (n : Nat) :
    Agree L z (State.discharged s n) := by
  have q0 : 25166152 &&& L = 25166152 := sub_trans rfl hL
  have q1 : 65536 &&& L = 65536 := sub_trans rfl hL
  have q2 : 32 &&& L = 32 := sub_trans rfl hL
  unfold State.discharged
  repeat' (first
      | intro _ | with_reducible exact h | with_reducible assumption | with_reducible apply State.endDischarge_same q0
      | with_reducible apply State.moveRail_same q1 | with_reducible apply State.freeRailLane_same q2
      | with_reducible apply same_ite | with_reducible apply same_foldl | with_reducible apply same_foldl_fst | split)

theorem State.railNext_same {L : Nat} {z s : State} (hL : 29428072 &&& L = 29428072) (h : Agree L z s) (n : Nat) :
    Agree L z (State.railNext s n) := by
  have q1 : 65608 &&& L = 65608 := sub_trans rfl hL
  have q2 : 25231720 &&& L = 25231720 := sub_trans rfl hL
  have q3 : 65536 &&& L = 65536 := sub_trans rfl hL
  have q4 : 65536 &&& L = 65536 := sub_trans rfl hL
  unfold State.railNext
  try dsimp only
  repeat' (first
      | intro _ | with_reducible exact h | with_reducible assumption | with_reducible apply State.enterPass_same hL
      | with_reducible apply State.armRail_same q1 | with_reducible apply State.discharged_same q2
      | with_reducible apply State.unlock_same q3 | with_reducible apply State.setRail_same q4 | with_reducible apply same_ite
      | with_reducible apply same_foldl | with_reducible apply same_foldl_fst | split | dsimp only)

theorem State.railsNext_same {L : Nat} {z s : State} (hL : 29428072 &&& L = 29428072) (h : Agree L z s)  :
    Agree L z (State.railsNext s) := by
  unfold State.railsNext
  repeat' (first
      | intro _ | with_reducible exact h | with_reducible assumption | with_reducible apply State.railNext_same hL
      | with_reducible apply same_ite | with_reducible apply same_foldl | with_reducible apply same_foldl_fst | split)

theorem State.tickRails_same {L : Nat} {z s : State} (hL : 2888364433402 &&& L = 2888364433402) (h : Agree L z s)  :
    Agree L z (State.tickRails s) := by
  have q1 : 29428072 &&& L = 29428072 := sub_trans rfl hL
  unfold State.tickRails
  repeat' (first
      | intro _ | with_reducible exact h | with_reducible assumption | with_reducible apply State.after_same hL
      | with_reducible apply State.railsNext_same q1 | with_reducible apply same_ite | with_reducible apply same_foldl
      | with_reducible apply same_foldl_fst | split)

theorem State.slewSinks_same {L : Nat} {z s : State} (hL : 8388608 &&& L = 8388608) (h : Agree L z s)  :
    Agree L z (State.slewSinks s) := by
  unfold State.slewSinks
  repeat' (first
      | intro _ | with_reducible exact h | with_reducible assumption | with_reducible apply State.setSink_same hL
      | with_reducible apply same_ite | with_reducible apply same_foldl | with_reducible apply same_foldl_fst | split)

theorem State.dueTurnOns_same {L : Nat} {z s : State} (hL : 327712 &&& L = 327712) (h : Agree L z s)  :
    Agree L z (State.dueTurnOns s) := by
  unfold State.dueTurnOns
  try dsimp only
  repeat' (first
      | intro _ | with_reducible exact h | with_reducible assumption | with_reducible apply State.turnOn_same hL
      | with_reducible apply same_ite | with_reducible apply same_foldl | with_reducible apply same_foldl_fst | split
      | dsimp only)

theorem State.tickSink_same {L : Nat} {z s : State} (hL : 25166152 &&& L = 25166152) (h : Agree L z s) (n : Nat) :
    Agree L z (State.tickSink s n) := by
  have q0 : 8388608 &&& L = 8388608 := sub_trans rfl hL
  have q1 : 25165824 &&& L = 25165824 := sub_trans rfl hL
  have q2 : 264 &&& L = 264 := sub_trans rfl hL
  have q3 : 64 &&& L = 64 := sub_trans rfl hL
  unfold State.tickSink
  repeat' (first
      | intro _ | with_reducible exact h | with_reducible assumption | with_reducible apply State.setSink_same q0
      | with_reducible apply State.coolEnergy_same q1 | with_reducible apply State.wideAdd_same q2
      | with_reducible apply State.raise_same q3 | with_reducible apply same_ite | with_reducible apply same_foldl
      | with_reducible apply same_foldl_fst | split)

theorem State.tickSinks_same {L : Nat} {z s : State} (hL : 25166152 &&& L = 25166152) (h : Agree L z s)  :
    Agree L z (State.tickSinks s) := by
  have q0 : 16777544 &&& L = 16777544 := sub_trans rfl hL
  unfold State.tickSinks
  repeat' (first
      | intro _ | with_reducible exact h | with_reducible assumption | with_reducible apply State.auditTolls_same q0
      | with_reducible apply State.tickSink_same hL | with_reducible apply same_ite | with_reducible apply same_foldl
      | with_reducible apply same_foldl_fst | split)

theorem State.dropUrgents_same {L : Nat} {z s : State} (hL : 1288 &&& L = 1288) (h : Agree L z s) (t : Nat) :
    Agree L z (State.dropUrgents s t) := by
  have q0 : 264 &&& L = 264 := sub_trans rfl hL
  have r0 : 1024 &&& L = 1024 := sub_trans rfl hL
  unfold State.dropUrgents
  repeat' (first
      | intro _ | with_reducible exact h | with_reducible assumption | with_reducible apply State.bump_same q0
      | with_reducible apply same_ite | with_reducible apply same_foldl | with_reducible apply same_foldl_fst
      | simp only [same_conv r0] | split)

theorem State.takeSwitch_same {L : Nat} {z s : State} (hL : 1024 &&& L = 1024) (h : Agree L z s) (t : Nat) :
    Agree L z (State.takeSwitch s t) := by
  have r0 : 1024 &&& L = 1024 := sub_trans rfl hL
  unfold State.takeSwitch
  repeat' (first
      | intro _ | with_reducible exact h | with_reducible assumption | with_reducible apply same_ite
      | with_reducible apply same_foldl | with_reducible apply same_foldl_fst | simp only [same_conv r0] | split)

theorem State.openRingPage_same {L : Nat} {z s : State} (hL : 4104 &&& L = 4104) (h : Agree L z s) (t : Nat) :
    Agree L z (State.openRingPage s t) := by
  have q0 : 8 &&& L = 8 := sub_trans rfl hL
  have r0 : 4096 &&& L = 4096 := sub_trans rfl hL
  unfold State.openRingPage
  repeat' (first
      | intro _ | with_reducible exact h | with_reducible assumption | with_reducible apply State.setLive_same q0
      | with_reducible apply same_ite | with_reducible apply same_foldl | with_reducible apply same_foldl_fst
      | simp only [same_ring r0] | split)

theorem State.ringPlace_same {L : Nat} {z s : State} (hL : 4104 &&& L = 4104) (h : Agree L z s) (t : Nat) (use : SlotUse) (pos : Nat) :
    Agree L z (State.ringPlace s t use pos).1 := by
  have q1 : 8 &&& L = 8 := sub_trans rfl hL
  have r0 : 4096 &&& L = 4096 := sub_trans rfl hL
  unfold State.ringPlace
  repeat' (first
      | intro _ | with_reducible exact h | with_reducible assumption | with_reducible apply State.closeRingPage_same hL
      | with_reducible apply State.setLive_same q1 | with_reducible apply State.openRingPage_same hL
      | with_reducible apply same_ite | with_reducible apply same_foldl | with_reducible apply same_foldl_fst
      | simp only [same_ring r0] | split)

theorem State.startSlotAs_same {L : Nat} {z s : State} (hL : 5128 &&& L = 5128) (h : Agree L z s) (t : Nat) (slc : Nat)
    (use : SlotUse) (listPos : Nat) :
    Agree L z (State.startSlotAs s t slc use listPos) := by
  have q0 : 4104 &&& L = 4104 := sub_trans rfl hL
  have r0 : 1024 &&& L = 1024 := sub_trans rfl hL
  unfold State.startSlotAs
  repeat' (first
      | intro _ | with_reducible exact h | with_reducible assumption | with_reducible apply State.ringPlace_same q0
      | with_reducible apply same_ite | with_reducible apply same_foldl | with_reducible apply same_foldl_fst
      | simp only [same_conv r0] | split)

theorem State.startSlot_same {L : Nat} {z s : State} (hL : 5384 &&& L = 5384) (h : Agree L z s)  :
    Agree L z (State.startSlot s) := by
  have q0 : 1024 &&& L = 1024 := sub_trans rfl hL
  have q1 : 8 &&& L = 8 := sub_trans rfl hL
  have q2 : 5128 &&& L = 5128 := sub_trans rfl hL
  have q3 : 1288 &&& L = 1288 := sub_trans rfl hL
  have r0 : 1024 &&& L = 1024 := sub_trans rfl hL
  unfold State.startSlot
  repeat' (first
      | intro _ | with_reducible exact h | with_reducible assumption | with_reducible apply State.takeSwitch_same q0
      | with_reducible apply State.bumpLive_same q1 | with_reducible apply State.startSlotAs_same q2
      | with_reducible apply State.dropUrgents_same q3 | with_reducible apply same_ite | with_reducible apply same_foldl
      | with_reducible apply same_foldl_fst | simp only [same_conv r0] | split)

theorem State.slotTick_same {L : Nat} {z s : State} (hL : 12590344 &&& L = 12590344) (h : Agree L z s)  :
    Agree L z (State.slotTick s) := by
  have q0 : 1288 &&& L = 1288 := sub_trans rfl hL
  have q1 : 12584968 &&& L = 12584968 := sub_trans rfl hL
  have q2 : 5384 &&& L = 5384 := sub_trans rfl hL
  unfold State.slotTick
  repeat' (first
      | intro _ | with_reducible exact h | with_reducible assumption | with_reducible apply State.dropUrgents_same q0
      | with_reducible apply State.captureStart_same q1 | with_reducible apply State.startSlot_same q2
      | with_reducible apply same_ite | with_reducible apply same_foldl | with_reducible apply same_foldl_fst | split)

theorem State.tickFeed_same {L : Nat} {z s : State} (hL : 33718600 &&& L = 33718600) (h : Agree L z s) (f : Nat) :
    Agree L z (State.tickFeed s f) := by
  have q1 : 264 &&& L = 264 := sub_trans rfl hL
  have q2 : 163840 &&& L = 163840 := sub_trans rfl hL
  have q3 : 33554760 &&& L = 33554760 := sub_trans rfl hL
  have q4 : 33554432 &&& L = 33554432 := sub_trans rfl hL
  have q5 : 33554432 &&& L = 33554432 := sub_trans rfl hL
  unfold State.tickFeed
  repeat' (first
      | intro _ | with_reducible exact h | with_reducible assumption | with_reducible apply State.openFeed_same hL
      | with_reducible apply State.bump_same q1 | with_reducible apply State.inputReview_same q2
      | with_reducible apply State.endRamp_same q3 | with_reducible apply State.moveFeed_same q4
      | with_reducible apply State.setFeed_same q5 | with_reducible apply same_ite | with_reducible apply same_foldl
      | with_reducible apply same_foldl_fst | split)

theorem State.tickFeeds_same {L : Nat} {z s : State} (hL : 33718600 &&& L = 33718600) (h : Agree L z s)  :
    Agree L z (State.tickFeeds s) := by
  unfold State.tickFeeds
  repeat' (first
      | intro _ | with_reducible exact h | with_reducible assumption | with_reducible apply State.tickFeed_same hL
      | with_reducible apply same_ite | with_reducible apply same_foldl | with_reducible apply same_foldl_fst | split)

theorem State.postScrub_same {L : Nat} {z s : State} (hL : 288 &&& L = 288) (h : Agree L z s)  :
    Agree L z (State.postScrub s) := by
  have q0 : 32 &&& L = 32 := sub_trans rfl hL
  have r0 : 256 &&& L = 256 := sub_trans rfl hL
  unfold State.postScrub
  repeat' (first
      | intro _ | with_reducible exact h | with_reducible assumption | with_reducible apply State.postLane_same q0
      | with_reducible apply same_ite | with_reducible apply same_foldl | with_reducible apply same_foldl_fst
      | simp only [same_store r0] | split)

theorem State.ownWork_same {L : Nat} {z s : State} (hL : 63413608 &&& L = 63413608) (h : Agree L z s)  :
    Agree L z (State.ownWork s) := by
  have q0 : 327712 &&& L = 327712 := sub_trans rfl hL
  have q1 : 25166152 &&& L = 25166152 := sub_trans rfl hL
  have q2 : 12590344 &&& L = 12590344 := sub_trans rfl hL
  have q3 : 33718600 &&& L = 33718600 := sub_trans rfl hL
  have q4 : 288 &&& L = 288 := sub_trans rfl hL
  unfold State.ownWork
  repeat' (first
      | intro _ | with_reducible exact h | with_reducible assumption | with_reducible apply State.dueTurnOns_same q0
      | with_reducible apply State.tickSinks_same q1 | with_reducible apply State.slotTick_same q2
      | with_reducible apply State.tickFeeds_same q3 | with_reducible apply State.postScrub_same q4
      | with_reducible apply same_ite | with_reducible apply same_foldl | with_reducible apply same_foldl_fst | split)

theorem State.tickBlocks_same {L : Nat} {z s : State} (hL : 3987876061178 &&& L = 3987876061178) (h : Agree L z s)  :
    Agree L z (State.tickBlocks s) := by
  have q0 : 2888364433402 &&& L = 2888364433402 := sub_trans rfl hL
  have q1 : 63413608 &&& L = 63413608 := sub_trans rfl hL
  have r0 : 1099511627776 &&& L = 1099511627776 := sub_trans rfl hL
  unfold State.tickBlocks
  repeat' (first
      | intro _ | with_reducible exact h | with_reducible assumption | with_reducible apply State.after_same q0
      | with_reducible apply State.ownWork_same q1 | with_reducible apply same_ite | with_reducible apply same_foldl
      | with_reducible apply same_foldl_fst | simp only [same_ticked r0] | split)

theorem State.clock_same {L : Nat} {z s : State} (hL : 2251524935778302 &&& L = 2251524935778302) (h : Agree L z s)  :
    Agree L z (State.clock s) := by
  have q0 : 67108864 &&& L = 67108864 := sub_trans rfl hL
  have q1 : 2251456082083838 &&& L = 2251456082083838 := sub_trans rfl hL
  have q2 : 2888364433402 &&& L = 2888364433402 := sub_trans rfl hL
  have q3 : 1185410973700 &&& L = 1185410973700 := sub_trans rfl hL
  have q4 : 8388608 &&& L = 8388608 := sub_trans rfl hL
  have q5 : 264 &&& L = 264 := sub_trans rfl hL
  have q6 : 3987876061178 &&& L = 3987876061178 := sub_trans rfl hL
  have r0 : 68719476736 &&& L = 68719476736 := sub_trans rfl hL
  have r1 : 85899345920 &&& L = 85899345920 := sub_trans rfl hL
  unfold State.clock
  repeat' (first
      | intro _ | with_reducible exact h | with_reducible assumption | with_reducible apply State.drive_same q0
      | with_reducible apply State.goOff_same q1 | with_reducible apply State.tickRails_same q2
      | with_reducible apply State.advance_same q3 | with_reducible apply State.slewSinks_same q4
      | with_reducible apply State.carrySteps_same q5 | with_reducible apply State.tickBlocks_same q6
      | with_reducible apply same_ite | with_reducible apply same_foldl | with_reducible apply same_foldl_fst
      | simp only [same_filterClk r0, same_startClk_filterClk r1] | split)

theorem State.loaderBoot_same {L : Nat} {z s : State} (hL : 402661376 &&& L = 402661376) (h : Agree L z s)  :
    Agree L z (State.loaderBoot s) := by
  have q0 : 134217728 &&& L = 134217728 := sub_trans rfl hL
  have r0 : 134217728 &&& L = 134217728 := sub_trans rfl hL
  have r1 : 268443648 &&& L = 268443648 := sub_trans rfl hL
  unfold State.loaderBoot
  repeat' (first
      | intro _ | with_reducible exact h | with_reducible assumption | with_reducible apply State.setNewBank_same q0
      | with_reducible apply same_ite | with_reducible apply same_foldl | with_reducible apply same_foldl_fst
      | simp only [same_loader r0, same_activeArea_upd r1] | split)

theorem State.clocksEnd_same {L : Nat} {z s : State} (hL : 402662726 &&& L = 402662726) (h : Agree L z s)  :
    Agree L z (State.clocksEnd s) := by
  have q0 : 402661376 &&& L = 402661376 := sub_trans rfl hL
  have r0 : 1350 &&& L = 1350 := sub_trans rfl hL
  unfold State.clocksEnd
  repeat' (first
      | intro _ | with_reducible exact h | with_reducible assumption | with_reducible apply State.loaderBoot_same q0
      | with_reducible apply same_ite | with_reducible apply same_foldl | with_reducible apply same_foldl_fst
      | simp only [same_phase_fab_coll_store_conv r0] | split)

theorem State.closeMsg_same {L : Nat} {z s : State} (hL : 67108864 &&& L = 67108864) (h : Agree L z s)  :
    Agree L z (State.closeMsg s) := by
  have r0 : 67108864 &&& L = 67108864 := sub_trans rfl hL
  unfold State.closeMsg
  repeat' (first
      | intro _ | with_reducible exact h | with_reducible assumption | with_reducible apply same_ite
      | with_reducible apply same_foldl | with_reducible apply same_foldl_fst | simp only [same_convoy r0] | split)

theorem State.collapseSink_same {L : Nat} {z s : State} (hL : 25166152 &&& L = 25166152) (h : Agree L z s) (n : Nat) :
    Agree L z (State.collapseSink s n) := by
  have q1 : 8388608 &&& L = 8388608 := sub_trans rfl hL
  unfold State.collapseSink
  repeat' (first
      | intro _ | with_reducible exact h | with_reducible assumption | with_reducible apply State.sinkDone_same hL
      | with_reducible apply State.setSink_same q1 | with_reducible apply same_ite | with_reducible apply same_foldl
      | with_reducible apply same_foldl_fst | split)

theorem State.collapseSinks_same {L : Nat} {z s : State} (hL : 25166152 &&& L = 25166152) (h : Agree L z s)  :
    Agree L z (State.collapseSinks s) := by
  unfold State.collapseSinks
  repeat' (first
      | intro _ | with_reducible exact h | with_reducible assumption | with_reducible apply State.collapseSink_same hL
      | with_reducible apply same_ite | with_reducible apply same_foldl | with_reducible apply same_foldl_fst | split)

theorem State.freezeRing_same {L : Nat} {z s : State} (hL : 7432 &&& L = 7432) (h : Agree L z s) (freeze : Nat) :
    Agree L z (State.freezeRing s freeze) := by
  have q0 : 8 &&& L = 8 := sub_trans rfl hL
  have q1 : 264 &&& L = 264 := sub_trans rfl hL
  have r0 : 7168 &&& L = 7168 := sub_trans rfl hL
  unfold State.freezeRing
  repeat' (first
      | intro _ | with_reducible exact h | with_reducible assumption | with_reducible apply State.setLive_same q0
      | with_reducible apply State.bump_same q1 | with_reducible apply same_ite | with_reducible apply same_foldl
      | with_reducible apply same_foldl_fst | simp only [same_conv_cap_ring r0] | split)

theorem State.postPowerFail_same {L : Nat} {z s : State} (hL : 7592 &&& L = 7592) (h : Agree L z s)  :
    Agree L z (State.postPowerFail s) := by
  have q0 : 288 &&& L = 288 := sub_trans rfl hL
  have q1 : 4232 &&& L = 4232 := sub_trans rfl hL
  have q2 : 7432 &&& L = 7432 := sub_trans rfl hL
  have q3 : 8 &&& L = 8 := sub_trans rfl hL
  have q4 : 2088 &&& L = 2088 := sub_trans rfl hL
  have r0 : 128 &&& L = 128 := sub_trans rfl hL
  unfold State.postPowerFail
  repeat' (first
      | intro _ | with_reducible exact h | with_reducible assumption | with_reducible apply State.postEtch_same q0
      | with_reducible apply State.recordTrigger_same q1 | with_reducible apply State.freezeRing_same q2
      | with_reducible apply State.bumpLive_same q3 | with_reducible apply State.endCapture_same q4
      | with_reducible apply same_ite | with_reducible apply same_foldl | with_reducible apply same_foldl_fst
      | simp only [same_ledger r0] | split)

theorem State.powerFail_same {L : Nat} {z s : State} (hL : 29367784 &&& L = 29367784) (h : Agree L z s)  :
    Agree L z (State.powerFail s) := by
  have q0 : 29362536 &&& L = 29362536 := sub_trans rfl hL
  have q1 : 7592 &&& L = 7592 := sub_trans rfl hL
  unfold State.powerFail
  repeat' (first
      | intro _ | with_reducible exact h | with_reducible assumption | with_reducible apply State.stipAbort_same q0
      | with_reducible apply State.postPowerFail_same q1 | with_reducible apply same_ite | with_reducible apply same_foldl
      | with_reducible apply same_foldl_fst | split)

theorem State.collapse_same {L : Nat} {z s : State} (hL : 31956456 &&& L = 31956456) (h : Agree L z s)  :
    Agree L z (State.collapse s) := by
  have q0 : 29362536 &&& L = 29362536 := sub_trans rfl hL
  have q1 : 2097152 &&& L = 2097152 := sub_trans rfl hL
  have q2 : 8 &&& L = 8 := sub_trans rfl hL
  have q3 : 8 &&& L = 8 := sub_trans rfl hL
  have q4 : 65536 &&& L = 65536 := sub_trans rfl hL
  have q5 : 25166152 &&& L = 25166152 := sub_trans rfl hL
  have q6 : 64 &&& L = 64 := sub_trans rfl hL
  have q7 : 32 &&& L = 32 := sub_trans rfl hL
  have q8 : 29367784 &&& L = 29367784 := sub_trans rfl hL
  have q9 : 262176 &&& L = 262176 := sub_trans rfl hL
  have q10 : 65536 &&& L = 65536 := sub_trans rfl hL
  have q11 : 264 &&& L = 264 := sub_trans rfl hL
  have r0 : 32768 &&& L = 32768 := sub_trans rfl hL
  have r1 : 131072 &&& L = 131072 := sub_trans rfl hL
  unfold State.collapse
  repeat' (first
      | intro _ | with_reducible exact h | with_reducible assumption | with_reducible apply State.leaveOn_same q0
      | with_reducible apply State.setMargin_same q1 | with_reducible apply State.setFlag_same q2
      | with_reducible apply State.noteCause_same q3 | with_reducible apply State.moveRail_same q4
      | with_reducible apply State.collapseSinks_same q5 | with_reducible apply State.raise_same q6
      | with_reducible apply State.freeRailLane_same q7 | with_reducible apply State.powerFail_same q8
      | with_reducible apply State.muteJobs_same q9 | with_reducible apply State.setRail_same q10
      | with_reducible apply State.bump_same q11 | with_reducible apply same_ite | with_reducible apply same_foldl
      | with_reducible apply same_foldl_fst | simp only [same_input r0, same_seq r1] | split)

theorem State.collapseCheck_same {L : Nat} {z s : State} (hL : 31956456 &&& L = 31956456) (h : Agree L z s)  :
    Agree L z (State.collapseCheck s) := by
  unfold State.collapseCheck
  repeat' (first
      | intro _ | with_reducible exact h | with_reducible assumption | with_reducible apply State.collapse_same hL
      | with_reducible apply same_ite | with_reducible apply same_foldl | with_reducible apply same_foldl_fst | split)

theorem State.showFirst_same {L : Nat} {z s : State} (hL : 264 &&& L = 264) (h : Agree L z s) (c : Candidate) :
    Agree L z (State.showFirst s c) := by
  unfold State.showFirst
  repeat' (first
      | intro _ | with_reducible exact h | with_reducible assumption | with_reducible apply State.setPers_same hL
      | with_reducible apply same_ite | with_reducible apply same_foldl | with_reducible apply same_foldl_fst | split)

theorem State.writeFF_same {L : Nat} {z s : State} (hL : 70368744177936 &&& L = 70368744177936) (h : Agree L z s) (c : Candidate)
    (episode : Nat) :
    Agree L z (State.writeFF s c episode) := by
  have w2 : 70368744177936 &&& L = 70368744177936 := sub_trans rfl hL
  unfold State.writeFF
  repeat' (first
      | intro _ | with_reducible exact h | with_reducible assumption | with_reducible apply writeFirst_same w2
      | with_reducible apply same_ite | with_reducible apply same_foldl | with_reducible apply same_foldl_fst | split)

theorem State.decide__same {L : Nat} {z s : State} (hL : 70368744178104 &&& L = 70368744178104) (h : Agree L z s) (c : Candidate) :
    Agree L z (State.decide_ s c) := by
  have q0 : 288 &&& L = 288 := sub_trans rfl hL
  have q1 : 264 &&& L = 264 := sub_trans rfl hL
  have q2 : 70368744177936 &&& L = 70368744177936 := sub_trans rfl hL
  have q3 : 8 &&& L = 8 := sub_trans rfl hL
  have r0 : 128 &&& L = 128 := sub_trans rfl hL
  unfold State.decide_
  repeat' (first
      | intro _ | with_reducible exact h | with_reducible assumption | with_reducible apply State.postEtch_same q0
      | with_reducible apply State.showFirst_same q1 | with_reducible apply State.writeFF_same q2
      | with_reducible apply State.setLive_same q3 | with_reducible apply same_ite | with_reducible apply same_foldl
      | with_reducible apply same_foldl_fst | simp only [same_ledger r0] | split)

theorem State.collectorDecision_same {L : Nat} {z s : State} (hL : 70368744178168 &&& L = 70368744178168) (h : Agree L z s)  :
    Agree L z (State.collectorDecision s) := by
  have q0 : 264 &&& L = 264 := sub_trans rfl hL
  have q1 : 70368744178104 &&& L = 70368744178104 := sub_trans rfl hL
  have r0 : 64 &&& L = 64 := sub_trans rfl hL
  unfold State.collectorDecision
  repeat' (first
      | intro _ | with_reducible exact h | with_reducible assumption | with_reducible apply State.keepLatched_same q0
      | with_reducible apply State.decide__same q1 | with_reducible apply same_ite | with_reducible apply same_foldl
      | with_reducible apply same_foldl_fst | simp only [same_coll r0] | split)

theorem State.startReturn_same {L : Nat} {z s : State} (hL : 2359328 &&& L = 2359328) (h : Agree L z s) (n : Nat) :
    Agree L z (State.startReturn s n) := by
  have q0 : 262176 &&& L = 262176 := sub_trans rfl hL
  have q1 : 2097152 &&& L = 2097152 := sub_trans rfl hL
  have q2 : 32 &&& L = 32 := sub_trans rfl hL
  have q3 : 262176 &&& L = 262176 := sub_trans rfl hL
  unfold State.startReturn
  repeat' (first
      | intro _ | with_reducible exact h | with_reducible assumption | with_reducible apply State.postPmb_same q0
      | with_reducible apply State.setMargin_same q1 | with_reducible apply State.takeRailLane_same q2
      | with_reducible apply State.dropJobs_same q3 | with_reducible apply same_ite | with_reducible apply same_foldl
      | with_reducible apply same_foldl_fst | split)

theorem State.marginNominal_same {L : Nat} {z s : State} (hL : 2359328 &&& L = 2359328) (h : Agree L z s) (n : Nat) :
    Agree L z (State.marginNominal s n) := by
  have q0 : 2097152 &&& L = 2097152 := sub_trans rfl hL
  unfold State.marginNominal
  try dsimp only
  repeat' (first
      | intro _ | with_reducible exact h | with_reducible assumption | with_reducible apply State.setMargin_same q0
      | with_reducible apply State.startReturn_same hL | with_reducible apply same_ite | with_reducible apply same_foldl
      | with_reducible apply same_foldl_fst | split | dsimp only)

theorem State.removeLoad_same {L : Nat} {z s : State} (hL : 25166152 &&& L = 25166152) (h : Agree L z s) (n : Nat) :
    Agree L z (State.removeLoad s n) := by
  unfold State.removeLoad
  repeat' (first
      | intro _ | with_reducible exact h | with_reducible assumption | with_reducible apply State.removeSink_same hL
      | with_reducible apply same_ite | with_reducible apply same_foldl | with_reducible apply same_foldl_fst | split)

theorem State.refuseMode_same {L : Nat} {z s : State} (hL : 2359656 &&& L = 2359656) (h : Agree L z s) (n : Nat) (m : Margin) :
    Agree L z (State.refuseMode s n m) := by
  have q0 : 264 &&& L = 264 := sub_trans rfl hL
  have q1 : 262176 &&& L = 262176 := sub_trans rfl hL
  have q2 : 2097152 &&& L = 2097152 := sub_trans rfl hL
  have q3 : 64 &&& L = 64 := sub_trans rfl hL
  unfold State.refuseMode
  repeat' (first
      | intro _ | with_reducible exact h | with_reducible assumption | with_reducible apply State.bump_same q0
      | with_reducible apply State.postPmb_same q1 | with_reducible apply State.setMargin_same q2
      | with_reducible apply State.raise_same q3 | with_reducible apply same_ite | with_reducible apply same_foldl
      | with_reducible apply same_foldl_fst | split)

theorem State.sendMarginWord_same {L : Nat} {z s : State} (hL : 2359656 &&& L = 2359656) (h : Agree L z s) (n : Nat) :
    Agree L z (State.sendMarginWord s n) := by
  have q0 : 262176 &&& L = 262176 := sub_trans rfl hL
  have q1 : 2097152 &&& L = 2097152 := sub_trans rfl hL
  unfold State.sendMarginWord
  repeat' (first
      | intro _ | with_reducible exact h | with_reducible assumption | with_reducible apply State.postPmb_same q0
      | with_reducible apply State.setMargin_same q1 | with_reducible apply State.refuseMode_same hL
      | with_reducible apply same_ite | with_reducible apply same_foldl | with_reducible apply same_foldl_fst | split)

theorem State.startMove_same {L : Nat} {z s : State} (hL : 2359656 &&& L = 2359656) (h : Agree L z s) (n : Nat) :
    Agree L z (State.startMove s n) := by
  have q0 : 262176 &&& L = 262176 := sub_trans rfl hL
  have q2 : 2097152 &&& L = 2097152 := sub_trans rfl hL
  have q3 : 32 &&& L = 32 := sub_trans rfl hL
  have q4 : 262176 &&& L = 262176 := sub_trans rfl hL
  unfold State.startMove
  repeat' (first
      | intro _ | with_reducible exact h | with_reducible assumption | with_reducible apply State.postPmb_same q0
      | with_reducible apply State.sendMarginWord_same hL | with_reducible apply State.setMargin_same q2
      | with_reducible apply State.takeRailLane_same q3 | with_reducible apply State.dropJobs_same q4
      | with_reducible apply same_ite | with_reducible apply same_foldl | with_reducible apply same_foldl_fst | split)

theorem State.marginMove_same {L : Nat} {z s : State} (hL : 2359656 &&& L = 2359656) (h : Agree L z s) (n : Nat) (pos : Nat) :
    Agree L z (State.marginMove s n pos) := by
  have q1 : 2097152 &&& L = 2097152 := sub_trans rfl hL
  have q2 : 264 &&& L = 264 := sub_trans rfl hL
  have q3 : 64 &&& L = 64 := sub_trans rfl hL
  unfold State.marginMove
  repeat' (first
      | intro _ | with_reducible exact h | with_reducible assumption | with_reducible apply State.startMove_same hL
      | with_reducible apply State.setMargin_same q1 | with_reducible apply State.bump_same q2
      | with_reducible apply State.raise_same q3 | with_reducible apply same_ite | with_reducible apply same_foldl
      | with_reducible apply same_foldl_fst | split)

theorem State.stipWithdraw_same {L : Nat} {z s : State} (hL : 25165856 &&& L = 25165856) (h : Agree L z s) (n : Nat) :
    Agree L z (State.stipWithdraw s n) := by
  have q0 : 8388608 &&& L = 8388608 := sub_trans rfl hL
  have q1 : 32 &&& L = 32 := sub_trans rfl hL
  have q2 : 25165824 &&& L = 25165824 := sub_trans rfl hL
  unfold State.stipWithdraw
  repeat' (first
      | intro _ | with_reducible exact h | with_reducible assumption | with_reducible apply State.setSink_same q0
      | with_reducible apply State.freeLaneOf_same q1 | with_reducible apply State.coolEnergy_same q2
      | with_reducible apply same_ite | with_reducible apply same_foldl | with_reducible apply same_foldl_fst | split)

theorem State.stipCancel_same {L : Nat} {z s : State} (hL : 29362536 &&& L = 29362536) (h : Agree L z s) (n : Nat) :
    Agree L z (State.stipCancel s n) := by
  have q0 : 4194304 &&& L = 4194304 := sub_trans rfl hL
  have q2 : 25165856 &&& L = 25165856 := sub_trans rfl hL
  unfold State.stipCancel
  try dsimp only
  repeat' (first
      | intro _ | with_reducible exact h | with_reducible assumption | with_reducible apply State.setStip_same q0
      | with_reducible apply State.stipAbort_same hL | with_reducible apply State.stipWithdraw_same q2
      | with_reducible apply same_ite | with_reducible apply same_foldl | with_reducible apply same_foldl_fst | split
      | dsimp only)

theorem State.railCommand_same {L : Nat} {z s : State} (hL : 31721832 &&& L = 31721832) (h : Agree L z s) (p : Nat) (key : Nat)
    (v : Nat) (n : Nat) :
    Agree L z (State.railCommand s p key v n) := by
  have q0 : 2359328 &&& L = 2359328 := sub_trans rfl hL
  have q1 : 8 &&& L = 8 := sub_trans rfl hL
  have q2 : 25166152 &&& L = 25166152 := sub_trans rfl hL
  have q3 : 2359656 &&& L = 2359656 := sub_trans rfl hL
  have q4 : 29362536 &&& L = 29362536 := sub_trans rfl hL
  have q5 : 25166152 &&& L = 25166152 := sub_trans rfl hL
  have q6 : 4194304 &&& L = 4194304 := sub_trans rfl hL
  unfold State.railCommand
  repeat' (first
      | intro _ | with_reducible exact h | with_reducible assumption | with_reducible apply State.marginNominal_same q0
      | with_reducible apply State.setLive_same q1 | with_reducible apply State.removeLoad_same q2
      | with_reducible apply State.marginMove_same q3 | with_reducible apply State.stipCancel_same q4
      | with_reducible apply State.applyLoad_same q5 | with_reducible apply State.stipSchedule_same q6
      | with_reducible apply same_ite | with_reducible apply same_foldl | with_reducible apply same_foldl_fst | split)

theorem State.postCal_same {L : Nat} {z s : State} (hL : 1056 &&& L = 1056) (h : Agree L z s) (i : Nat) :
    Agree L z (State.postCal s i) := by
  have q0 : 32 &&& L = 32 := sub_trans rfl hL
  have q1 : 1024 &&& L = 1024 := sub_trans rfl hL
  unfold State.postCal
  repeat' (first
      | intro _ | with_reducible exact h | with_reducible assumption | with_reducible apply State.postLane_same q0
      | with_reducible apply State.setSlice_same q1 | with_reducible apply same_ite | with_reducible apply same_foldl
      | with_reducible apply same_foldl_fst | split)

theorem State.scanSelect_same {L : Nat} {z s : State} (hL : 1024 &&& L = 1024) (h : Agree L z s) (b : Nat) :
    Agree L z (State.scanSelect s b) := by
  have r0 : 1024 &&& L = 1024 := sub_trans rfl hL
  unfold State.scanSelect
  repeat' (first
      | intro _ | with_reducible exact h | with_reducible assumption | with_reducible apply same_ite
      | with_reducible apply same_foldl | with_reducible apply same_foldl_fst | simp only [same_conv r0] | split)

theorem State.hostArm_same {L : Nat} {z s : State} (hL : 703687441780024 &&& L = 703687441780024) (h : Agree L z s) (p : Nat) :
    Agree L z (State.hostArm s p) := by
  unfold State.hostArm
  repeat' (first
      | intro _ | with_reducible exact h | with_reducible assumption | with_reducible apply State.armCapture_same hL
      | with_reducible apply same_ite | with_reducible apply same_foldl | with_reducible apply same_foldl_fst | split)

theorem State.rearmRing_same {L : Nat} {z s : State} (hL : 4232 &&& L = 4232) (h : Agree L z s)  :
    Agree L z (State.rearmRing s) := by
  have q0 : 8 &&& L = 8 := sub_trans rfl hL
  have r0 : 4224 &&& L = 4224 := sub_trans rfl hL
  unfold State.rearmRing
  repeat' (first
      | intro _ | with_reducible exact h | with_reducible assumption | with_reducible apply State.setLive_same q0
      | with_reducible apply same_ite | with_reducible apply same_foldl | with_reducible apply same_foldl_fst
      | simp only [same_ledger_ring r0] | split)

theorem State.converterCommand_same {L : Nat} {z s : State} (hL : 703687441784248 &&& L = 703687441784248) (h : Agree L z s) (p : Nat)
    (key : Nat) (v : Nat) :
    Agree L z (State.converterCommand s p key v) := by
  have q0 : 6312 &&& L = 6312 := sub_trans rfl hL
  have q1 : 1056 &&& L = 1056 := sub_trans rfl hL
  have q2 : 1024 &&& L = 1024 := sub_trans rfl hL
  have q3 : 2048 &&& L = 2048 := sub_trans rfl hL
  have q4 : 1024 &&& L = 1024 := sub_trans rfl hL
  have q5 : 2088 &&& L = 2088 := sub_trans rfl hL
  have q6 : 703687441780024 &&& L = 703687441780024 := sub_trans rfl hL
  have q7 : 4232 &&& L = 4232 := sub_trans rfl hL
  unfold State.converterCommand
  repeat' (first
      | intro _ | with_reducible exact h | with_reducible assumption | with_reducible apply State.ringTrigger_same q0
      | with_reducible apply State.postCal_same q1 | with_reducible apply State.scanSelect_same q2
      | with_reducible apply State.releaseCapture_same q3 | with_reducible apply State.urgent_same q4
      | with_reducible apply State.abortCapture_same q5 | with_reducible apply State.hostArm_same q6
      | with_reducible apply State.rearmRing_same q7 | with_reducible apply same_ite | with_reducible apply same_foldl
      | with_reducible apply same_foldl_fst | split)

theorem State.command_same {L : Nat} {z s : State} (hL : 749868003876344 &&& L = 749868003876344) (h : Agree L z s) (p : Nat)
    (key : Nat) (v : Nat) :
    Agree L z (State.command s p key v) := by
  have q0 : 31721832 &&& L = 31721832 := sub_trans rfl hL
  have q1 : 703687441784248 &&& L = 703687441784248 := sub_trans rfl hL
  have q2 : 46180562099704 &&& L = 46180562099704 := sub_trans rfl hL
  unfold State.command
  repeat' (first
      | intro _ | with_reducible exact h | with_reducible assumption | with_reducible apply State.railCommand_same q0
      | with_reducible apply State.converterCommand_same q1 | with_reducible apply State.blockCommand_same q2
      | with_reducible apply same_ite | with_reducible apply same_foldl | with_reducible apply same_foldl_fst | split)

theorem State.convoyWritten_same {L : Nat} {z s : State} (hL : 67108872 &&& L = 67108872) (h : Agree L z s)  :
    Agree L z (State.convoyWritten s) := by
  have r0 : 67108864 &&& L = 67108864 := sub_trans rfl hL
  unfold State.convoyWritten
  repeat' (first
      | intro _ | with_reducible exact h | with_reducible assumption | with_reducible apply State.leaveConvoy_same hL
      | with_reducible apply same_ite | with_reducible apply same_foldl | with_reducible apply same_foldl_fst
      | simp only [same_convoy r0] | split)

theorem State.noteWindow_same {L : Nat} {z s : State} (hL : 64 &&& L = 64) (h : Agree L z s) (old : Nat) :
    Agree L z (State.noteWindow s old) := by
  have r0 : 64 &&& L = 64 := sub_trans rfl hL
  unfold State.noteWindow
  repeat' (first
      | intro _ | with_reducible exact h | with_reducible assumption | with_reducible apply same_ite
      | with_reducible apply same_foldl | with_reducible apply same_foldl_fst | simp only [same_coll r0] | split)

theorem State.portWrite_same {L : Nat} {z s : State} (hL : 1125899906842896 &&& L = 1125899906842896) (h : Agree L z s) (a : Nat)
    (bs : List Byte) :
    Agree L z (State.portWrite s a bs) := by
  have r0 : 256 &&& L = 256 := sub_trans rfl hL
  have w10 : 1125899906842896 &&& L = 1125899906842896 := sub_trans rfl hL
  unfold State.portWrite
  repeat' (first
      | intro _ | with_reducible exact h | with_reducible assumption | with_reducible apply writeAny_same w10
      | with_reducible apply same_ite | with_reducible apply same_foldl | with_reducible apply same_foldl_fst
      | simp only [same_store r0] | split)

theorem State.windowWrite_same {L : Nat} {z s : State} (hL : 1125900443730200 &&& L = 1125900443730200) (h : Agree L z s) (p : Nat)
    (m : Member) :
    Agree L z (State.windowWrite s p m) := by
  have q0 : 1125899906842896 &&& L = 1125899906842896 := sub_trans rfl hL
  have q1 : 536887560 &&& L = 536887560 := sub_trans rfl hL
  unfold State.windowWrite
  repeat' (first
      | intro _ | with_reducible exact h | with_reducible assumption | with_reducible apply State.portWrite_same q0
      | with_reducible apply State.writeValue_same q1 | with_reducible apply same_ite | with_reducible apply same_foldl
      | with_reducible apply same_foldl_fst | split)

theorem State.commitWrites_same {L : Nat} {z s : State} (hL : 749868003876344 &&& L = 749868003876344) (h : Agree L z s) (p : Nat)
    (ms : List Member)
    (hw : 1125900443730200 &&& L = 1125900443730200 ∨ ∀ m ∈ ms, (m.write && m.window) = false) :
    Agree L z (State.commitWrites s p ms) := by
  have hc : ∀ (t : State) (m : Member), Agree L z t → Agree L z (t.command p m.key m.value) :=
    fun t m ht => State.command_same (sub_trans rfl hL) ht _ _ _
  unfold State.commitWrites
  dsimp only
  refine State.noteWindow_same (sub_trans rfl hL) (same_foldl _ _ ?_ hc) _
  have h5 : ∀ (l k : List Member) (c d : Bool), Agree L z (l.foldl (fun st m => st.command p m.key m.value)
      (if d then (if c then (((k.foldl (fun st m => st.writeHook s p m.key m.value) (k.foldl (fun st m => st.writeValue p m.key m.value) s)).convoyWritten).drive)
        else (k.foldl (fun st m => st.writeHook s p m.key m.value) (k.foldl (fun st m => st.writeValue p m.key m.value) s))).startAutoTimer
      else (if c then (((k.foldl (fun st m => st.writeHook s p m.key m.value) (k.foldl (fun st m => st.writeValue p m.key m.value) s)).convoyWritten).drive)
        else (k.foldl (fun st m => st.writeHook s p m.key m.value) (k.foldl (fun st m => st.writeValue p m.key m.value) s))))) := by
    intro l k c d
    have h2 : Agree L z (k.foldl (fun st m => st.writeHook s p m.key m.value) (k.foldl (fun st m => st.writeValue p m.key m.value) s)) :=
      same_foldl _ _ (same_foldl _ _ h (fun t m ht => State.writeValue_same (sub_trans rfl hL) ht _ _ _))
        (fun t m ht => State.writeHook_same (sub_trans rfl hL) ht _ _ _ _)
    have h3 := State.drive_same (sub_trans rfl hL) (State.convoyWritten_same (sub_trans rfl hL) h2)
    refine same_foldl _ _ ?_ hc
    cases c <;> cases d <;> simp only [if_true, if_false, Bool.false_eq_true]
    · exact h2
    · exact State.startAutoTimer_same (sub_trans rfl hL) h2
    · exact h3
    · exact State.startAutoTimer_same (sub_trans rfl hL) h3
  rcases hw with hw | hw
  · exact same_foldl _ _ (h5 _ _ _ _) (fun t m ht => State.windowWrite_same hw ht _ _)
  · have e : (ms.filter Member.write).filter Member.window = [] := by
      rw [List.filter_eq_nil_iff]
      intro m hm hn
      rw [List.mem_filter] at hm
      have := hw m hm.1
      rw [hm.2, hn] at this
      exact absurd this (by decide)
    rw [e]
    exact h5 _ _ _ _

theorem State.confirmSpanEnd_same {L : Nat} {z s : State} (hL : 268435456 &&& L = 268435456) (h : Agree L z s)  :
    Agree L z (State.confirmSpanEnd s) := by
  unfold State.confirmSpanEnd
  repeat' (first
      | intro _ | with_reducible exact h | with_reducible assumption | with_reducible apply State.setHealth_same hL
      | with_reducible apply same_ite | with_reducible apply same_foldl | with_reducible apply same_foldl_fst | split)

theorem State.confirmation_same {L : Nat} {z s : State} (hL : 2199425909080 &&& L = 2199425909080) (h : Agree L z s)  :
    Agree L z (State.confirmation s) := by
  have q0 : 268435456 &&& L = 268435456 := sub_trans rfl hL
  have q1 : 134217728 &&& L = 134217728 := sub_trans rfl hL
  have q2 : 264 &&& L = 264 := sub_trans rfl hL
  have q3 : 8 &&& L = 8 := sub_trans rfl hL
  have q4 : 2199023255824 &&& L = 2199023255824 := sub_trans rfl hL
  have q5 : 64 &&& L = 64 := sub_trans rfl hL
  unfold State.confirmation
  repeat' (first
      | intro _ | with_reducible exact h | with_reducible assumption | with_reducible apply State.setUpd_same q0
      | with_reducible apply State.writeRecord_same q1 | with_reducible apply State.bump_same q2
      | with_reducible apply State.updReason_same q3 | with_reducible apply State.setAreaState_same q4
      | with_reducible apply State.raise_same q5 | with_reducible apply same_ite | with_reducible apply same_foldl
      | with_reducible apply same_foldl_fst | split)

theorem State.coolingExpiry_same {L : Nat} {z s : State} (hL : 16777216 &&& L = 16777216) (h : Agree L z s)  :
    Agree L z (State.coolingExpiry s) := by
  have r0 : 16777216 &&& L = 16777216 := sub_trans rfl hL
  unfold State.coolingExpiry
  repeat' (first
      | intro _ | with_reducible exact h | with_reducible assumption | with_reducible apply same_ite
      | with_reducible apply same_foldl | with_reducible apply same_foldl_fst | simp only [same_gov r0] | split)

theorem State.coreRestart_same {L : Nat} {z s : State} (hL : 671089480 &&& L = 671089480) (h : Agree L z s) (cause : Nat) :
    Agree L z (State.coreRestart s cause) := by
  have q0 : 536870912 &&& L = 536870912 := sub_trans rfl hL
  have q1 : 134218568 &&& L = 134218568 := sub_trans rfl hL
  have q2 : 64 &&& L = 64 := sub_trans rfl hL
  have r0 : 512 &&& L = 512 := sub_trans rfl hL
  unfold State.coreRestart
  repeat' (first
      | intro _ | with_reducible exact h | with_reducible assumption | with_reducible apply State.clearLatches_same q0
      | with_reducible apply State.trialFail_same q1 | with_reducible apply State.raise_same q2 | with_reducible apply same_ite
      | with_reducible apply same_foldl | with_reducible apply same_foldl_fst | simp only [same_cores r0] | split)

theorem State.lateReady_same {L : Nat} {z s : State} (hL : 335544328 &&& L = 335544328) (h : Agree L z s)  :
    Agree L z (State.lateReady s) := by
  have q0 : 8 &&& L = 8 := sub_trans rfl hL
  have q1 : 268435456 &&& L = 268435456 := sub_trans rfl hL
  have r0 : 67108864 &&& L = 67108864 := sub_trans rfl hL
  unfold State.lateReady
  repeat' (first
      | intro _ | with_reducible exact h | with_reducible assumption | with_reducible apply State.bumpLive_same q0
      | with_reducible apply State.updBeat_same q1 | with_reducible apply same_ite | with_reducible apply same_foldl
      | with_reducible apply same_foldl_fst | simp only [same_convoy r0] | split)

theorem State.postDeferred_same {L : Nat} {z s : State} (hL : 29821288 &&& L = 29821288) (h : Agree L z s)  :
    Agree L z (State.postDeferred s) := by
  have q0 : 29559144 &&& L = 29559144 := sub_trans rfl hL
  have r0 : 131072 &&& L = 131072 := sub_trans rfl hL
  unfold State.postDeferred
  repeat' (first
      | intro _ | with_reducible exact h | with_reducible assumption | with_reducible apply State.startDependent_same q0
      | with_reducible apply State.postShutdown_same hL | with_reducible apply same_ite | with_reducible apply same_foldl
      | with_reducible apply same_foldl_fst | simp only [same_seq r0] | split)

theorem State.coreStart_same {L : Nat} {z s : State} (hL : 2199522864120 &&& L = 2199522864120) (h : Agree L z s)  :
    Agree L z (State.coreStart s) := by
  have q0 : 64 &&& L = 64 := sub_trans rfl hL
  have q1 : 335544328 &&& L = 335544328 := sub_trans rfl hL
  have q2 : 29821288 &&& L = 29821288 := sub_trans rfl hL
  have q3 : 67108864 &&& L = 67108864 := sub_trans rfl hL
  have q4 : 2199425933656 &&& L = 2199425933656 := sub_trans rfl hL
  have q5 : 67108872 &&& L = 67108872 := sub_trans rfl hL
  have r0 : 640 &&& L = 640 := sub_trans rfl hL
  unfold State.coreStart
  repeat' (first
      | intro _ | with_reducible exact h | with_reducible assumption | with_reducible apply State.noteWindow_same q0
      | with_reducible apply State.lateReady_same q1 | with_reducible apply State.postDeferred_same q2
      | with_reducible apply State.drive_same q3 | with_reducible apply State.bootImage_same q4
      | with_reducible apply State.leaveConvoy_same q5 | with_reducible apply same_ite | with_reducible apply same_foldl
      | with_reducible apply same_foldl_fst | simp only [same_ledger_cores r0] | split)

theorem State.correctedOnce_same {L : Nat} {z s : State} (hL : 320 &&& L = 320) (h : Agree L z s) (page : Nat) (ch : Nat)
    (medium : Nat) (group : Nat) :
    Agree L z (State.correctedOnce s page ch medium group) := by
  have q0 : 64 &&& L = 64 := sub_trans rfl hL
  have r0 : 256 &&& L = 256 := sub_trans rfl hL
  unfold State.correctedOnce
  repeat' (first
      | intro _ | with_reducible exact h | with_reducible assumption | with_reducible apply State.raise_same q0
      | with_reducible apply same_ite | with_reducible apply same_foldl | with_reducible apply same_foldl_fst
      | simp only [same_store r0] | split)

theorem State.countRefusals_same {L : Nat} {z s : State} (hL : 264 &&& L = 264) (h : Agree L z s) (sts : List Nat) :
    Agree L z (State.countRefusals s sts) := by
  have q1 : 8 &&& L = 8 := sub_trans rfl hL
  unfold State.countRefusals
  repeat' (first
      | intro _ | with_reducible exact h | with_reducible assumption | with_reducible apply State.bump_same hL
      | with_reducible apply State.bumpLive_same q1 | with_reducible apply same_ite | with_reducible apply same_foldl
      | with_reducible apply same_foldl_fst | split)

theorem State.countStart_same {L : Nat} {z s : State} (hL : 264 &&& L = 264) (h : Agree L z s)  :
    Agree L z (State.countStart s) := by
  have q0 : 8 &&& L = 8 := sub_trans rfl hL
  unfold State.countStart
  repeat' (first
      | intro _ | with_reducible exact h | with_reducible assumption | with_reducible apply State.setLive_same q0
      | with_reducible apply State.bump_same hL | with_reducible apply same_ite | with_reducible apply same_foldl
      | with_reducible apply same_foldl_fst | split)

theorem State.cross_same {L : Nat} {z s : State} (hL : 66035176 &&& L = 66035176) (h : Agree L z s) (n : Nat) (c : Nat) :
    Agree L z (State.cross s n c) := by
  have q0 : 65536 &&& L = 65536 := sub_trans rfl hL
  unfold State.cross
  repeat' (first
      | intro _ | with_reducible exact h | with_reducible assumption | with_reducible apply State.setFilter_same q0
      | with_reducible apply State.qualifyDue_same hL | with_reducible apply same_ite | with_reducible apply same_foldl
      | with_reducible apply same_foldl_fst | split)

theorem State.cscStuck_same {L : Nat} {z s : State} (hL : 67108928 &&& L = 67108928) (h : Agree L z s)  :
    Agree L z (State.cscStuck s) := by
  have q0 : 64 &&& L = 64 := sub_trans rfl hL
  have r0 : 67108864 &&& L = 67108864 := sub_trans rfl hL
  unfold State.cscStuck
  repeat' (first
      | intro _ | with_reducible exact h | with_reducible assumption | with_reducible apply State.raise_same q0
      | with_reducible apply same_ite | with_reducible apply same_foldl | with_reducible apply same_foldl_fst
      | simp only [same_convoy r0] | split)

theorem State.damagedElement_same {L : Nat} {z s : State} (hL : 33718600 &&& L = 33718600) (h : Agree L z s) (f : Nat) :
    Agree L z (State.damagedElement s f) := by
  have q1 : 264 &&& L = 264 := sub_trans rfl hL
  have q2 : 64 &&& L = 64 := sub_trans rfl hL
  unfold State.damagedElement
  repeat' (first
      | intro _ | with_reducible exact h | with_reducible assumption | with_reducible apply State.openFeed_same hL
      | with_reducible apply State.setPers_same q1 | with_reducible apply State.raise_same q2 | with_reducible apply same_ite
      | with_reducible apply same_foldl | with_reducible apply same_foldl_fst | split)

theorem State.damagedPath_same {L : Nat} {z s : State} (hL : 32832 &&& L = 32832) (h : Agree L z s)  :
    Agree L z (State.damagedPath s) := by
  have q0 : 64 &&& L = 64 := sub_trans rfl hL
  have r0 : 32768 &&& L = 32768 := sub_trans rfl hL
  unfold State.damagedPath
  repeat' (first
      | intro _ | with_reducible exact h | with_reducible assumption | with_reducible apply State.raise_same q0
      | with_reducible apply same_ite | with_reducible apply same_foldl | with_reducible apply same_foldl_fst
      | simp only [same_input r0] | split)

theorem State.setLead_same {L : Nat} {z s : State} (hL : 67108864 &&& L = 67108864) (h : Agree L z s) (l : Leading) :
    Agree L z (State.setLead s l) := by
  have r0 : 67108864 &&& L = 67108864 := sub_trans rfl hL
  unfold State.setLead
  repeat' (first
      | intro _ | with_reducible exact h | with_reducible assumption | with_reducible apply same_ite
      | with_reducible apply same_foldl | with_reducible apply same_foldl_fst | simp only [same_convoy r0] | split)

theorem State.deliverRepeat_same {L : Nat} {z s : State} (hL : 67108864 &&& L = 67108864) (h : Agree L z s)  :
    Agree L z (State.deliverRepeat s) := by
  unfold State.deliverRepeat
  repeat' (first
      | intro _ | with_reducible exact h | with_reducible assumption | with_reducible apply State.setLead_same hL
      | with_reducible apply same_ite | with_reducible apply same_foldl | with_reducible apply same_foldl_fst | split)

theorem State.srcResult_same {L : Nat} {z s : State} (hL : 33554432 &&& L = 33554432) (h : Agree L z s) (f : Nat) (v : Int) :
    Agree L z (State.srcResult s f v) := by
  unfold State.srcResult
  repeat' (first
      | intro _ | with_reducible exact h | with_reducible assumption | with_reducible apply State.setFeed_same hL
      | with_reducible apply same_ite | with_reducible apply same_foldl | with_reducible apply same_foldl_fst | split)

theorem State.quickCompare_same {L : Nat} {z s : State} (hL : 1352 &&& L = 1352) (h : Agree L z s) (q : Nat) (v : Int) :
    Agree L z (State.quickCompare s q v) := by
  have q0 : 64 &&& L = 64 := sub_trans rfl hL
  have q1 : 264 &&& L = 264 := sub_trans rfl hL
  have r0 : 1024 &&& L = 1024 := sub_trans rfl hL
  unfold State.quickCompare
  repeat' (first
      | intro _ | with_reducible exact h | with_reducible assumption | with_reducible apply State.raise_same q0
      | with_reducible apply State.bump_same q1 | with_reducible apply same_ite | with_reducible apply same_foldl
      | with_reducible apply same_foldl_fst | simp only [same_conv r0] | split)

theorem State.limitCheck_same {L : Nat} {z s : State} (hL : 1088 &&& L = 1088) (h : Agree L z s) (c : Nat) (kind : Nat) (out : Bool)
    (back : Bool) :
    Agree L z (State.limitCheck s c kind out back) := by
  have q0 : 64 &&& L = 64 := sub_trans rfl hL
  have r0 : 1024 &&& L = 1024 := sub_trans rfl hL
  unfold State.limitCheck
  repeat' (first
      | intro _ | with_reducible exact h | with_reducible assumption | with_reducible apply State.raise_same q0
      | with_reducible apply same_ite | with_reducible apply same_foldl | with_reducible apply same_foldl_fst
      | simp only [same_conv r0] | split)

theorem State.supplyCheck_same {L : Nat} {z s : State} (hL : 1088 &&& L = 1088) (h : Agree L z s) (c : Nat) (v : Int) :
    Agree L z (State.supplyCheck s c v) := by
  unfold State.supplyCheck
  repeat' (first
      | intro _ | with_reducible exact h | with_reducible assumption | with_reducible apply State.limitCheck_same hL
      | with_reducible apply same_ite | with_reducible apply same_foldl | with_reducible apply same_foldl_fst | split)

theorem State.fallen_same {L : Nat} {z s : State} (hL : 25231720 &&& L = 25231720) (h : Agree L z s) (n : Nat) :
    Agree L z (State.fallen s n) := by
  have q1 : 65536 &&& L = 65536 := sub_trans rfl hL
  unfold State.fallen
  repeat' (first
      | intro _ | with_reducible exact h | with_reducible assumption | with_reducible apply State.discharged_same hL
      | with_reducible apply State.later_same q1 | with_reducible apply same_ite | with_reducible apply same_foldl
      | with_reducible apply same_foldl_fst | split)

theorem State.offLevelResult_same {L : Nat} {z s : State} (hL : 25231720 &&& L = 25231720) (h : Agree L z s) (n : Nat) (v : Int)
    (slotTick : Nat) :
    Agree L z (State.offLevelResult s n v slotTick) := by
  have q1 : 65536 &&& L = 65536 := sub_trans rfl hL
  unfold State.offLevelResult
  repeat' (first
      | intro _ | with_reducible exact h | with_reducible assumption | with_reducible apply State.fallen_same hL
      | with_reducible apply State.setRail_same q1 | with_reducible apply same_ite | with_reducible apply same_foldl
      | with_reducible apply same_foldl_fst | split)

theorem State.senseResult_same {L : Nat} {z s : State} (hL : 33554432 &&& L = 33554432) (h : Agree L z s) (f : Nat) (v : Int) :
    Agree L z (State.senseResult s f v) := by
  unfold State.senseResult
  repeat' (first
      | intro _ | with_reducible exact h | with_reducible assumption | with_reducible apply State.setFeed_same hL
      | with_reducible apply same_ite | with_reducible apply same_foldl | with_reducible apply same_foldl_fst | split)

theorem State.noteOwn_same {L : Nat} {z s : State} (hL : 16777224 &&& L = 16777224) (h : Agree L z s) (c : Nat) (v : Int) :
    Agree L z (State.noteOwn s c v) := by
  have q0 : 8 &&& L = 8 := sub_trans rfl hL
  have r0 : 16777216 &&& L = 16777216 := sub_trans rfl hL
  unfold State.noteOwn
  repeat' (first
      | intro _ | with_reducible exact h | with_reducible assumption | with_reducible apply State.setLive_same q0
      | with_reducible apply same_ite | with_reducible apply same_foldl | with_reducible apply same_foldl_fst
      | simp only [same_gov r0] | split)

theorem State.liveResult_same {L : Nat} {z s : State} (hL : 1048584 &&& L = 1048584) (h : Agree L z s) (d : Delivered) :
    Agree L z (State.liveResult s d) := by
  have q0 : 8 &&& L = 8 := sub_trans rfl hL
  have q1 : 1048576 &&& L = 1048576 := sub_trans rfl hL
  unfold State.liveResult
  repeat' (first
      | intro _ | with_reducible exact h | with_reducible assumption | with_reducible apply State.setLive_same q0
      | with_reducible apply State.setLiveOf_same q1 | with_reducible apply same_ite | with_reducible apply same_foldl
      | with_reducible apply same_foldl_fst | split)

theorem State.deliverResult_same {L : Nat} {z s : State} (hL : 59835752 &&& L = 59835752) (h : Agree L z s) (d : Delivered) :
    Agree L z (State.deliverResult s d) := by
  have q0 : 33554432 &&& L = 33554432 := sub_trans rfl hL
  have q1 : 1352 &&& L = 1352 := sub_trans rfl hL
  have q2 : 1088 &&& L = 1088 := sub_trans rfl hL
  have q3 : 25231720 &&& L = 25231720 := sub_trans rfl hL
  have q4 : 33554432 &&& L = 33554432 := sub_trans rfl hL
  have q5 : 16777224 &&& L = 16777224 := sub_trans rfl hL
  have q6 : 1048584 &&& L = 1048584 := sub_trans rfl hL
  unfold State.deliverResult
  repeat' (first
      | intro _ | with_reducible exact h | with_reducible assumption | with_reducible apply State.srcResult_same q0
      | with_reducible apply State.quickCompare_same q1 | with_reducible apply State.supplyCheck_same q2
      | with_reducible apply State.offLevelResult_same q3 | with_reducible apply State.senseResult_same q4
      | with_reducible apply State.noteOwn_same q5 | with_reducible apply State.liveResult_same q6 | with_reducible apply same_ite
      | with_reducible apply same_foldl | with_reducible apply same_foldl_fst | split)

theorem State.statuses_same {L : Nat} {z w : State} (hL : 25166152 &&& L = 25166152) (h : Agree L z w) (s : State) (p : Nat)
    (x : Session) (ms : List Member) :
    Agree L z (State.statuses s w p x ms).1 := by
  induction ms generalizing w p x with
  | nil =>
    unfold State.statuses
    exact h
  | cons m r ih =>
    unfold State.statuses
    repeat' (first
        | intro _ | with_reducible exact h | with_reducible assumption | with_reducible apply ih
        | with_reducible apply State.applyLoad_same hL | with_reducible apply same_ite | with_reducible apply same_foldl
        | with_reducible apply same_foldl_fst | split)

theorem State.stencilChanged_same {L : Nat} {z s : State} (hL : 72 &&& L = 72) (h : Agree L z s) (p : Nat) :
    Agree L z (State.stencilChanged s p) := by
  have q0 : 8 &&& L = 8 := sub_trans rfl hL
  have q1 : 64 &&& L = 64 := sub_trans rfl hL
  unfold State.stencilChanged
  repeat' (first
      | intro _ | with_reducible exact h | with_reducible assumption | with_reducible apply State.setLive_same q0
      | with_reducible apply State.raise_same q1 | with_reducible apply same_ite | with_reducible apply same_foldl
      | with_reducible apply same_foldl_fst | split)

theorem State.hardware_same {L : Nat} {z s : State} (hL : 3300614184954 &&& L = 3300614184954) (h : Agree L z s)  :
    Agree L z (State.hardware s) := by
  have q0 : 2201102557178 &&& L = 2201102557178 := sub_trans rfl hL
  have q1 : 63413608 &&& L = 63413608 := sub_trans rfl hL
  have r0 : 1099511627776 &&& L = 1099511627776 := sub_trans rfl hL
  unfold State.hardware
  repeat' (first
      | intro _ | with_reducible exact h | with_reducible assumption | with_reducible apply State.rest_same q0
      | with_reducible apply State.ownWork_same q1 | with_reducible apply same_ite | with_reducible apply same_foldl
      | with_reducible apply same_foldl_fst | simp only [same_ticked r0] | split)

theorem State.foreseen_same {L : Nat} {z w : State} (hL : 25166152 &&& L = 25166152) (h : Agree L z w) (s : State) :
    Agree L z (State.foreseen w s) := by
  unfold State.foreseen
  repeat' (first
      | intro _ | with_reducible exact h | with_reducible assumption | with_reducible apply State.setProtect_same hL
      | with_reducible apply same_ite | with_reducible apply same_foldl | with_reducible apply same_foldl_fst | split)

theorem State.previewValue_same {L : Nat} {z s : State} (hL : 536887560 &&& L = 536887560) (h : Agree L z s) (p : Nat) (key : Nat)
    (v : Nat) :
    Agree L z (State.previewValue s p key v) := by
  have q0 : 8 &&& L = 8 := sub_trans rfl hL
  unfold State.previewValue
  repeat' (first
      | intro _ | with_reducible exact h | with_reducible assumption | with_reducible apply State.setLive_same q0
      | with_reducible apply State.writeValue_same hL | with_reducible apply same_ite | with_reducible apply same_foldl
      | with_reducible apply same_foldl_fst | split)

theorem State.previewMember_same {L : Nat} {z w : State} (hL : 536887560 &&& L = 536887560) (h : Agree L z w) (resets : Bool)
    (p : Nat) (m : Member) :
    Agree L z (State.previewMember w resets p m) := by
  have q0 : 8 &&& L = 8 := sub_trans rfl hL
  unfold State.previewMember
  repeat' (first
      | intro _ | with_reducible exact h | with_reducible assumption | with_reducible apply State.setLive_same q0
      | with_reducible apply State.previewValue_same hL | with_reducible apply same_ite | with_reducible apply same_foldl
      | with_reducible apply same_foldl_fst | split)

theorem State.preview_same {L : Nat} {z s : State} (hL : 562053448 &&& L = 562053448) (h : Agree L z s) (p : Nat) (ms : List Member) :
    Agree L z (State.preview s p ms) := by
  have q0 : 25166152 &&& L = 25166152 := sub_trans rfl hL
  have q1 : 536887560 &&& L = 536887560 := sub_trans rfl hL
  unfold State.preview
  repeat' (first
      | intro _ | with_reducible exact h | with_reducible assumption | with_reducible apply State.foreseen_same q0
      | with_reducible apply State.previewMember_same q1 | with_reducible apply same_ite | with_reducible apply same_foldl
      | with_reducible apply same_foldl_fst | split)

theorem State.perform_same {L : Nat} {z s : State} (hL : 750968589246458 &&& L = 750968589246458) (h : Agree L z s) (p : Nat)
    (x : Session) (ms : List Member)
    (hw : 1125900443730200 &&& L = 1125900443730200 ∨ ∀ m ∈ ms, (m.write && m.window) = false) :
    Agree L z (State.perform s p x ms).st := by
  have q0 : 25166152 &&& L = 25166152 := sub_trans rfl hL
  have q1 : 536887624 &&& L = 536887624 := sub_trans rfl hL
  have q2 : 749868003876344 &&& L = 749868003876344 := sub_trans rfl hL
  have q3 : 72 &&& L = 72 := sub_trans rfl hL
  have q4 : 3300614184954 &&& L = 3300614184954 := sub_trans rfl hL
  have q5 : 562053448 &&& L = 562053448 := sub_trans rfl hL
  have q6 : 264 &&& L = 264 := sub_trans rfl hL
  unfold State.perform
  try dsimp only
  repeat' (first
      | intro _ | with_reducible exact h | with_reducible assumption | with_reducible apply State.statuses_same q0
      | with_reducible apply State.answerAll_same q1 | with_reducible apply State.commitWrites_same q2
      | with_reducible apply State.stencilChanged_same q3 | with_reducible apply State.hardware_same q4
      | with_reducible apply State.preview_same q5 | with_reducible apply State.countRefusals_same q6
      | with_reducible apply same_ite | with_reducible apply same_foldl | with_reducible apply same_foldl_fst | split
      | dsimp only)

theorem State.endCaptureOf_same {L : Nat} {z s : State} (hL : 2048 &&& L = 2048) (h : Agree L z s) (p : Nat) :
    Agree L z (State.endCaptureOf s p) := by
  have r0 : 2048 &&& L = 2048 := sub_trans rfl hL
  unfold State.endCaptureOf
  repeat' (first
      | intro _ | with_reducible exact h | with_reducible assumption | with_reducible apply State.releaseCapture_same hL
      | with_reducible apply same_ite | with_reducible apply same_foldl | with_reducible apply same_foldl_fst
      | simp only [same_cap r0] | split)

theorem State.endTest_same {L : Nat} {z s : State} (hL : 72 &&& L = 72) (h : Agree L z s) (p : Nat) :
    Agree L z (State.endTest s p) := by
  have q0 : 8 &&& L = 8 := sub_trans rfl hL
  have r0 : 64 &&& L = 64 := sub_trans rfl hL
  unfold State.endTest
  repeat' (first
      | intro _ | with_reducible exact h | with_reducible assumption | with_reducible apply State.setLive_same q0
      | with_reducible apply same_ite | with_reducible apply same_foldl | with_reducible apply same_foldl_fst
      | simp only [same_coll r0] | split)

theorem State.sessionLoads_same {L : Nat} {z s : State} (hL : 25166152 &&& L = 25166152) (h : Agree L z s) (port : Nat) :
    Agree L z (State.sessionLoads s port) := by
  have q1 : 8388608 &&& L = 8388608 := sub_trans rfl hL
  unfold State.sessionLoads
  repeat' (first
      | intro _ | with_reducible exact h | with_reducible assumption | with_reducible apply State.removeLoad_same hL
      | with_reducible apply State.setSink_same q1 | with_reducible apply same_ite | with_reducible apply same_foldl
      | with_reducible apply same_foldl_fst | split)

theorem State.dropClaims_same {L : Nat} {z s : State} (hL : 536870912 &&& L = 536870912) (h : Agree L z s) (p : Nat) :
    Agree L z (State.dropClaims s p) := by
  have r0 : 536870912 &&& L = 536870912 := sub_trans rfl hL
  unfold State.dropClaims
  repeat' (first
      | intro _ | with_reducible exact h | with_reducible assumption | with_reducible apply same_ite
      | with_reducible apply same_foldl | with_reducible apply same_foldl_fst | simp only [same_hosts r0] | split)

theorem State.endSession_same {L : Nat} {z s : State} (hL : 562039112 &&& L = 562039112) (h : Agree L z s) (p : Nat) :
    Agree L z (State.endSession s p) := by
  have q0 : 536870912 &&& L = 536870912 := sub_trans rfl hL
  have q1 : 2048 &&& L = 2048 := sub_trans rfl hL
  have q2 : 72 &&& L = 72 := sub_trans rfl hL
  have q3 : 25166152 &&& L = 25166152 := sub_trans rfl hL
  have q4 : 536870912 &&& L = 536870912 := sub_trans rfl hL
  unfold State.endSession
  repeat' (first
      | intro _ | with_reducible exact h | with_reducible assumption | with_reducible apply State.setPort_same q0
      | with_reducible apply State.endCaptureOf_same q1 | with_reducible apply State.endTest_same q2
      | with_reducible apply State.sessionLoads_same q3 | with_reducible apply State.dropClaims_same q4
      | with_reducible apply same_ite | with_reducible apply same_foldl | with_reducible apply same_foldl_fst | split)

theorem State.reviewClaims_same {L : Nat} {z s : State} (hL : 536870912 &&& L = 536870912) (h : Agree L z s)  :
    Agree L z (State.reviewClaims s) := by
  have r0 : 536870912 &&& L = 536870912 := sub_trans rfl hL
  unfold State.reviewClaims
  repeat' (first
      | intro _ | with_reducible exact h | with_reducible assumption | with_reducible apply same_ite
      | with_reducible apply same_foldl | with_reducible apply same_foldl_fst | simp only [same_hosts r0] | split)

theorem State.serveNew_same {L : Nat} {z s : State} (hL : 750970736730106 &&& L = 750970736730106) (h : Agree L z s) (p : Nat)
    (x : Session) (seq : Nat) (ms : List Member)
    (hw : 1125900443730200 &&& L = 1125900443730200 ∨ ∀ m ∈ ms, (m.write && m.window) = false) :
    Agree L z (State.serveNew s p x seq ms) := by
  have q0 : 0 &&& L = 0 := sub_trans rfl hL
  have q1 : 750968589246458 &&& L = 750968589246458 := sub_trans rfl hL
  have q2 : 2684354560 &&& L = 2684354560 := sub_trans rfl hL
  have q3 : 536870912 &&& L = 536870912 := sub_trans rfl hL
  have q4 : 562039112 &&& L = 562039112 := sub_trans rfl hL
  have q5 : 536870912 &&& L = 536870912 := sub_trans rfl hL
  unfold State.serveNew
  repeat' (first
      | intro _ | with_reducible exact h | with_reducible assumption | with_reducible apply State.answerEach_same q0
      | with_reducible apply State.perform_same q1 | with_reducible apply State.deliver_same q2
      | with_reducible apply State.setPort_same q3 | with_reducible apply State.endSession_same q4
      | with_reducible apply State.reviewClaims_same q5 | with_reducible apply same_ite | with_reducible apply same_foldl
      | with_reducible apply same_foldl_fst | split)

theorem State.serveNone_same {L : Nat} {z s : State} (hL : 2684354560 &&& L = 2684354560) (h : Agree L z s) (p : Nat) (seq : Nat)
    (ms : List Member) :
    Agree L z (State.serveNone s p seq ms) := by
  unfold State.serveNone
  repeat' (first
      | intro _ | with_reducible exact h | with_reducible assumption | with_reducible apply State.deliver_same hL
      | with_reducible apply same_ite | with_reducible apply same_foldl | with_reducible apply same_foldl_fst | split)

theorem State.direct_same {L : Nat} {z s : State} (hL : 750970736730106 &&& L = 750970736730106) (h : Agree L z s) (p : Nat) (m : Member)
    (hw : 1125900443730200 &&& L = 1125900443730200 ∨ (m.write && m.window) = false) :
    Agree L z (State.direct s p m) := by
  have hw1 : 1125900443730200 &&& L = 1125900443730200 ∨ ∀ x ∈ [m], (x.write && x.window) = false := hw.imp_right (fun e x hx => by rw [List.mem_singleton.1 hx]; exact e)
  have q0 : 536870912 &&& L = 536870912 := sub_trans rfl hL
  have q2 : 2684354560 &&& L = 2684354560 := sub_trans rfl hL
  have q3 : 1073742088 &&& L = 1073742088 := sub_trans rfl hL
  unfold State.direct
  try dsimp only
  repeat' (first
      | intro _ | with_reducible exact h | with_reducible assumption | with_reducible apply State.clearFrameErr_same q0
      | with_reducible apply State.serveNew_same hL | with_reducible apply State.serveNone_same q2
      | with_reducible apply State.wake_same q3 | with_reducible apply same_ite | with_reducible apply same_foldl
      | with_reducible apply same_foldl_fst | split | dsimp only)

theorem State.dischFailed_same {L : Nat} {z s : State} (hL : 25231720 &&& L = 25231720) (h : Agree L z s) (n : Nat) :
    Agree L z (State.dischFailed s n) := by
  have q0 : 8 &&& L = 8 := sub_trans rfl hL
  have q2 : 64 &&& L = 64 := sub_trans rfl hL
  unfold State.dischFailed
  repeat' (first
      | intro _ | with_reducible exact h | with_reducible assumption | with_reducible apply State.setFlag_same q0
      | with_reducible apply State.discharged_same hL | with_reducible apply State.raise_same q2 | with_reducible apply same_ite
      | with_reducible apply same_foldl | with_reducible apply same_foldl_fst | split)

theorem State.forceDischarge_same {L : Nat} {z s : State} (hL : 8388608 &&& L = 8388608) (h : Agree L z s) (n : Nat) (level : Nat) :
    Agree L z (State.forceDischarge s n level) := by
  unfold State.forceDischarge
  repeat' (first
      | intro _ | with_reducible exact h | with_reducible assumption | with_reducible apply State.postPower_same hL
      | with_reducible apply State.setSink_same hL | with_reducible apply same_ite | with_reducible apply same_foldl
      | with_reducible apply same_foldl_fst | split)

theorem State.dischTimeout_same {L : Nat} {z s : State} (hL : 8716648 &&& L = 8716648) (h : Agree L z s) (n : Nat) :
    Agree L z (State.dischTimeout s n) := by
  have q0 : 8388608 &&& L = 8388608 := sub_trans rfl hL
  have q1 : 8 &&& L = 8 := sub_trans rfl hL
  have q2 : 65536 &&& L = 65536 := sub_trans rfl hL
  have q3 : 262176 &&& L = 262176 := sub_trans rfl hL
  have q4 : 264 &&& L = 264 := sub_trans rfl hL
  have q5 : 65536 &&& L = 65536 := sub_trans rfl hL
  have q6 : 64 &&& L = 64 := sub_trans rfl hL
  unfold State.dischTimeout
  repeat' (first
      | intro _ | with_reducible exact h | with_reducible assumption | with_reducible apply State.forceDischarge_same q0
      | with_reducible apply State.setFlag_same q1 | with_reducible apply State.setRail_same q2
      | with_reducible apply State.readStatus_same q3 | with_reducible apply State.bump_same q4
      | with_reducible apply State.moveRail_same q5 | with_reducible apply State.raise_same q6 | with_reducible apply same_ite
      | with_reducible apply same_foldl | with_reducible apply same_foldl_fst | split)

theorem State.dwellEnd_same {L : Nat} {z s : State} (hL : 2147483648 &&& L = 2147483648) (h : Agree L z s)  :
    Agree L z (State.dwellEnd s) := by
  have r0 : 2147483648 &&& L = 2147483648 := sub_trans rfl hL
  unfold State.dwellEnd
  repeat' (first
      | intro _ | with_reducible exact h | with_reducible assumption | with_reducible apply same_ite
      | with_reducible apply same_foldl | with_reducible apply same_foldl_fst | simp only [same_dwellFrom r0] | split)

theorem State.unmate_same {L : Nat} {z s : State} (hL : 33718600 &&& L = 33718600) (h : Agree L z s) (f : Nat) :
    Agree L z (State.unmate s f) := by
  have q0 : 33554760 &&& L = 33554760 := sub_trans rfl hL
  unfold State.unmate
  repeat' (first
      | intro _ | with_reducible exact h | with_reducible assumption | with_reducible apply State.untrip_same q0
      | with_reducible apply State.openFeed_same hL | with_reducible apply same_ite | with_reducible apply same_foldl
      | with_reducible apply same_foldl_fst | split)

theorem State.pullFeeds_same {L : Nat} {z s : State} (hL : 33718600 &&& L = 33718600) (h : Agree L z s)  :
    Agree L z (State.pullFeeds s) := by
  have r0 : 32768 &&& L = 32768 := sub_trans rfl hL
  unfold State.pullFeeds
  repeat' (first
      | intro _ | with_reducible exact h | with_reducible assumption | with_reducible apply State.unmate_same hL
      | with_reducible apply same_ite | with_reducible apply same_foldl | with_reducible apply same_foldl_fst
      | simp only [same_input r0] | split)

theorem State.inputLossEvent_same {L : Nat} {z s : State} (hL : 29854056 &&& L = 29854056) (h : Agree L z s)  :
    Agree L z (State.inputLossEvent s) := by
  have q0 : 264 &&& L = 264 := sub_trans rfl hL
  have q1 : 29821288 &&& L = 29821288 := sub_trans rfl hL
  have q2 : 64 &&& L = 64 := sub_trans rfl hL
  have r0 : 32768 &&& L = 32768 := sub_trans rfl hL
  unfold State.inputLossEvent
  repeat' (first
      | intro _ | with_reducible exact h | with_reducible assumption | with_reducible apply State.bump_same q0
      | with_reducible apply State.localShutdown_same q1 | with_reducible apply State.raise_same q2
      | with_reducible apply same_ite | with_reducible apply same_foldl | with_reducible apply same_foldl_fst
      | simp only [same_input r0] | split)

theorem State.leaveMating_same {L : Nat} {z s : State} (hL : 33718600 &&& L = 33718600) (h : Agree L z s) (f : Nat) :
    Agree L z (State.leaveMating s f) := by
  have q1 : 33554432 &&& L = 33554432 := sub_trans rfl hL
  unfold State.leaveMating
  repeat' (first
      | intro _ | with_reducible exact h | with_reducible assumption | with_reducible apply State.unmate_same hL
      | with_reducible apply State.setFeed_same q1 | with_reducible apply same_ite | with_reducible apply same_foldl
      | with_reducible apply same_foldl_fst | split)

theorem State.loseMating_same {L : Nat} {z s : State} (hL : 63408488 &&& L = 63408488) (h : Agree L z s) (early : Bool) :
    Agree L z (State.loseMating s early) := by
  have q0 : 33718600 &&& L = 33718600 := sub_trans rfl hL
  have q1 : 64 &&& L = 64 := sub_trans rfl hL
  have q2 : 29854056 &&& L = 29854056 := sub_trans rfl hL
  have q3 : 33718600 &&& L = 33718600 := sub_trans rfl hL
  have q4 : 264 &&& L = 264 := sub_trans rfl hL
  have r0 : 32768 &&& L = 32768 := sub_trans rfl hL
  unfold State.loseMating
  repeat' (first
      | intro _ | with_reducible exact h | with_reducible assumption | with_reducible apply State.pullFeeds_same q0
      | with_reducible apply State.raise_same q1 | with_reducible apply State.inputLossEvent_same q2
      | with_reducible apply State.leaveMating_same q3 | with_reducible apply State.bump_same q4 | with_reducible apply same_ite
      | with_reducible apply same_foldl | with_reducible apply same_foldl_fst | simp only [same_input r0] | split)

theorem State.earlyHigh_same {L : Nat} {z s : State} (hL : 63408488 &&& L = 63408488) (h : Agree L z s)  :
    Agree L z (State.earlyHigh s) := by
  have q0 : 33718600 &&& L = 33718600 := sub_trans rfl hL
  unfold State.earlyHigh
  repeat' (first
      | intro _ | with_reducible exact h | with_reducible assumption | with_reducible apply State.pullFeeds_same q0
      | with_reducible apply State.loseMating_same hL | with_reducible apply same_ite | with_reducible apply same_foldl
      | with_reducible apply same_foldl_fst | split)

theorem State.eccPatrol_same {L : Nat} {z s : State} (hL : 328 &&& L = 328) (h : Agree L z s) (page : Nat) (ch : Nat) (group : Nat)
    (bad : Bool) :
    Agree L z (State.eccPatrol s page ch group bad) := by
  have q0 : 320 &&& L = 320 := sub_trans rfl hL
  have q1 : 264 &&& L = 264 := sub_trans rfl hL
  have q2 : 64 &&& L = 64 := sub_trans rfl hL
  have r0 : 256 &&& L = 256 := sub_trans rfl hL
  unfold State.eccPatrol
  repeat' (first
      | intro _ | with_reducible exact h | with_reducible assumption | with_reducible apply State.correctedOnce_same q0
      | with_reducible apply State.bump_same q1 | with_reducible apply State.raise_same q2 | with_reducible apply same_ite
      | with_reducible apply same_foldl | with_reducible apply same_foldl_fst | simp only [same_store r0] | split)

theorem State.endJob_same {L : Nat} {z s : State} (hL : 262176 &&& L = 262176) (h : Agree L z s) (port : Nat) (j : PmbJob) :
    Agree L z (State.endJob s port j) := by
  have q0 : 32 &&& L = 32 := sub_trans rfl hL
  have r0 : 262144 &&& L = 262144 := sub_trans rfl hL
  unfold State.endJob
  repeat' (first
      | intro _ | with_reducible exact h | with_reducible assumption | with_reducible apply State.freeLaneOf_same q0
      | with_reducible apply same_ite | with_reducible apply same_foldl | with_reducible apply same_foldl_fst
      | simp only [same_pmb r0] | split)

theorem State.startConvoy_same {L : Nat} {z s : State} (hL : 67108864 &&& L = 67108864) (h : Agree L z s)  :
    Agree L z (State.startConvoy s) := by
  have r0 : 67108864 &&& L = 67108864 := sub_trans rfl hL
  unfold State.startConvoy
  repeat' (first
      | intro _ | with_reducible exact h | with_reducible assumption | with_reducible apply same_ite
      | with_reducible apply same_foldl | with_reducible apply same_foldl_fst | simp only [same_convoy r0] | split)

theorem State.resumeDownload_same {L : Nat} {z s : State} (hL : 8796361457944 &&& L = 8796361457944) (h : Agree L z s)  :
    Agree L z (State.resumeDownload s) := by
  have q0 : 268435456 &&& L = 268435456 := sub_trans rfl hL
  have q1 : 8 &&& L = 8 := sub_trans rfl hL
  have q2 : 268435464 &&& L = 268435464 := sub_trans rfl hL
  have w9 : 8796093022480 &&& L = 8796093022480 := sub_trans rfl hL
  unfold State.resumeDownload
  repeat' (first
      | intro _ | with_reducible exact h | with_reducible assumption | with_reducible apply State.setUpd_same q0
      | with_reducible apply State.setLive_same q1 | with_reducible apply State.updOpen_same q2
      | with_reducible apply writeManifest_same w9 | with_reducible apply same_ite | with_reducible apply same_foldl
      | with_reducible apply same_foldl_fst | split)

end Sys2Proof.Machine
end

