-- ==== Sys2Proof/Laws/Frame4.lean ====
section
/-! SUPPORT. Frames of the operations, part 4: the mask of each lemma names the fields that the operation may change. -/

namespace Sys2Proof.Machine

theorem State.rebuildUpdate_same {L : Nat} {z s : State} (hL : 10995384713496 &&& L = 10995384713496) (h : Agree L z s)  :
    Agree L z (State.rebuildUpdate s) := by
  have q0 : 268435456 &&& L = 268435456 := sub_trans rfl hL
  have q1 : 8796361457944 &&& L = 8796361457944 := sub_trans rfl hL
  have q2 : 2199023255824 &&& L = 2199023255824 := sub_trans rfl hL
  have r0 : 268435456 &&& L = 268435456 := sub_trans rfl hL
  unfold State.rebuildUpdate
  repeat' (first
      | intro _ | with_reducible exact h | with_reducible assumption | with_reducible apply State.setUpd_same q0
      | with_reducible apply State.resumeDownload_same q1 | with_reducible apply State.setAreaState_same q2
      | with_reducible apply same_ite | with_reducible apply same_foldl | with_reducible apply same_foldl_fst
      | simp only [same_upd r0] | split)

theorem State.startCard_same {L : Nat} {z s : State} (hL : 31918440 &&& L = 31918440) (h : Agree L z s)  :
    Agree L z (State.startCard s) := by
  have q0 : 29821288 &&& L = 29821288 := sub_trans rfl hL
  have q1 : 2555936 &&& L = 2555936 := sub_trans rfl hL
  have r0 : 131072 &&& L = 131072 := sub_trans rfl hL
  unfold State.startCard
  repeat' (first
      | intro _ | with_reducible exact h | with_reducible assumption | with_reducible apply State.localShutdown_same q0
      | with_reducible apply State.enterSetup_same q1 | with_reducible apply same_ite | with_reducible apply same_foldl
      | with_reducible apply same_foldl_fst | simp only [same_seq r0] | split)

theorem State.startFeed_same {L : Nat} {z s : State} (hL : 33718600 &&& L = 33718600) (h : Agree L z s) (f : Nat) :
    Agree L z (State.startFeed s f) := by
  have q1 : 33554432 &&& L = 33554432 := sub_trans rfl hL
  unfold State.startFeed
  repeat' (first
      | intro _ | with_reducible exact h | with_reducible assumption | with_reducible apply State.openFeed_same hL
      | with_reducible apply State.setFeed_same q1 | with_reducible apply same_ite | with_reducible apply same_foldl
      | with_reducible apply same_foldl_fst | split)

theorem State.startRing_same {L : Nat} {z s : State} (hL : 4232 &&& L = 4232) (h : Agree L z s)  :
    Agree L z (State.startRing s) := by
  unfold State.startRing
  repeat' (first
      | intro _ | with_reducible exact h | with_reducible assumption | with_reducible apply State.rearmRing_same hL
      | with_reducible apply same_ite | with_reducible apply same_foldl | with_reducible apply same_foldl_fst | split)

theorem State.startScan_same {L : Nat} {z s : State} (hL : 5128 &&& L = 5128) (h : Agree L z s)  :
    Agree L z (State.startScan s) := by
  have q0 : 4104 &&& L = 4104 := sub_trans rfl hL
  have r0 : 1024 &&& L = 1024 := sub_trans rfl hL
  unfold State.startScan
  repeat' (first
      | intro _ | with_reducible exact h | with_reducible assumption | with_reducible apply State.closeRingPage_same q0
      | with_reducible apply same_ite | with_reducible apply same_foldl | with_reducible apply same_foldl_fst
      | simp only [same_conv r0] | split)

theorem State.endOfStartup_same {L : Nat} {z s : State} (hL : 10998738558458 &&& L = 10998738558458) (h : Agree L z s)  :
    Agree L z (State.endOfStartup s) := by
  have q0 : 67108864 &&& L = 67108864 := sub_trans rfl hL
  have q1 : 10995384713496 &&& L = 10995384713496 := sub_trans rfl hL
  have q2 : 31918440 &&& L = 31918440 := sub_trans rfl hL
  have q3 : 33718600 &&& L = 33718600 := sub_trans rfl hL
  have q4 : 264 &&& L = 264 := sub_trans rfl hL
  have q5 : 65536 &&& L = 65536 := sub_trans rfl hL
  have q6 : 4232 &&& L = 4232 := sub_trans rfl hL
  have q7 : 5128 &&& L = 5128 := sub_trans rfl hL
  have q8 : 25166152 &&& L = 25166152 := sub_trans rfl hL
  have r0 : 3238002754 &&& L = 3238002754 := sub_trans rfl hL
  unfold State.endOfStartup
  repeat' (first
      | intro _ | with_reducible exact h | with_reducible assumption | with_reducible apply State.startConvoy_same q0
      | with_reducible apply State.rebuildUpdate_same q1 | with_reducible apply State.startCard_same q2
      | with_reducible apply State.startFeed_same q3 | with_reducible apply State.countStart_same q4
      | with_reducible apply State.setPresent_same q5 | with_reducible apply State.startRing_same q6
      | with_reducible apply State.startScan_same q7 | with_reducible apply State.setProtect_same q8
      | with_reducible apply same_ite | with_reducible apply same_foldl | with_reducible apply same_foldl_fst
      | simp only [same_phase_coll_gov_power_dwellFrom r0] | split)

theorem State.stipCapSettings_same {L : Nat} {z s : State} (hL : 16648 &&& L = 16648) (h : Agree L z s) (n : Nat) :
    Agree L z (State.stipCapSettings s n) := by
  have q1 : 264 &&& L = 264 := sub_trans rfl hL
  unfold State.stipCapSettings
  repeat' (first
      | intro _ | with_reducible exact h | with_reducible assumption | with_reducible apply State.mirror_same hL
      | with_reducible apply State.setPers_same q1 | with_reducible apply same_ite | with_reducible apply same_foldl
      | with_reducible apply same_foldl_fst | split)

theorem State.stipRefused_same {L : Nat} {z s : State} (hL : 29360160 &&& L = 29360160) (h : Agree L z s) (n : Nat) (why : StipWait) :
    Agree L z (State.stipRefused s n why) := by
  have q0 : 4194304 &&& L = 4194304 := sub_trans rfl hL
  have q1 : 25165856 &&& L = 25165856 := sub_trans rfl hL
  unfold State.stipRefused
  repeat' (first
      | intro _ | with_reducible exact h | with_reducible assumption | with_reducible apply State.setStip_same q0
      | with_reducible apply State.stipWithdraw_same q1 | with_reducible apply same_ite | with_reducible apply same_foldl
      | with_reducible apply same_foldl_fst | split)

theorem State.stipArm_same {L : Nat} {z s : State} (hL : 703687471156600 &&& L = 703687471156600) (h : Agree L z s) (n : Nat) :
    Agree L z (State.stipArm s n) := by
  have q0 : 703687441780024 &&& L = 703687441780024 := sub_trans rfl hL
  have q1 : 16648 &&& L = 16648 := sub_trans rfl hL
  have q2 : 4194304 &&& L = 4194304 := sub_trans rfl hL
  have q3 : 264 &&& L = 264 := sub_trans rfl hL
  have q4 : 29362536 &&& L = 29362536 := sub_trans rfl hL
  have q5 : 29360160 &&& L = 29360160 := sub_trans rfl hL
  unfold State.stipArm
  repeat' (first
      | intro _ | with_reducible exact h | with_reducible assumption | with_reducible apply State.armCapture_same q0
      | with_reducible apply State.stipCapSettings_same q1 | with_reducible apply State.setStip_same q2
      | with_reducible apply State.bump_same q3 | with_reducible apply State.stipAbort_same q4
      | with_reducible apply State.stipRefused_same q5 | with_reducible apply same_ite | with_reducible apply same_foldl
      | with_reducible apply same_foldl_fst | split)

theorem State.grantEnergy_same {L : Nat} {z s : State} (hL : 25166088 &&& L = 25166088) (h : Agree L z s) (n : Nat) :
    Agree L z (State.grantEnergy s n).1 := by
  have q0 : 8388608 &&& L = 8388608 := sub_trans rfl hL
  have q1 : 264 &&& L = 264 := sub_trans rfl hL
  have r0 : 16777216 &&& L = 16777216 := sub_trans rfl hL
  unfold State.grantEnergy
  repeat' (first
      | intro _ | with_reducible exact h | with_reducible assumption | with_reducible apply State.setSink_same q0
      | with_reducible apply State.bump_same q1 | with_reducible apply same_ite | with_reducible apply same_foldl
      | with_reducible apply same_foldl_fst | simp only [same_gov r0] | split)

theorem State.energyGrants_same {L : Nat} {z s : State} (hL : 703687471156600 &&& L = 703687471156600) (h : Agree L z s)  :
    Agree L z (State.energyGrants s) := by
  have q1 : 25166088 &&& L = 25166088 := sub_trans rfl hL
  unfold State.energyGrants
  repeat' (first
      | intro _ | with_reducible exact h | with_reducible assumption | with_reducible apply State.stipArm_same hL
      | with_reducible apply State.grantEnergy_same q1 | with_reducible apply same_ite | with_reducible apply same_foldl
      | with_reducible apply same_foldl_fst | split)

theorem State.energyOverrun_same {L : Nat} {z s : State} (hL : 29362536 &&& L = 29362536) (h : Agree L z s) (n : Nat) :
    Agree L z (State.energyOverrun s n) := by
  have q0 : 25166152 &&& L = 25166152 := sub_trans rfl hL
  have q1 : 8388608 &&& L = 8388608 := sub_trans rfl hL
  have q2 : 264 &&& L = 264 := sub_trans rfl hL
  have q4 : 64 &&& L = 64 := sub_trans rfl hL
  unfold State.energyOverrun
  repeat' (first
      | intro _ | with_reducible exact h | with_reducible assumption | with_reducible apply State.removeSink_same q0
      | with_reducible apply State.setSink_same q1 | with_reducible apply State.bump_same q2
      | with_reducible apply State.stipAbort_same hL | with_reducible apply State.raise_same q4 | with_reducible apply same_ite
      | with_reducible apply same_foldl | with_reducible apply same_foldl_fst | split)

theorem State.energyPeriod_same {L : Nat} {z s : State} (hL : 1048840 &&& L = 1048840) (h : Agree L z s) (n : Nat) :
    Agree L z (State.energyPeriod s n) := by
  have q0 : 264 &&& L = 264 := sub_trans rfl hL
  have q1 : 1048576 &&& L = 1048576 := sub_trans rfl hL
  unfold State.energyPeriod
  repeat' (first
      | intro _ | with_reducible exact h | with_reducible assumption | with_reducible apply State.wideAdd_same q0
      | with_reducible apply State.setLiveOf_same q1 | with_reducible apply same_ite | with_reducible apply same_foldl
      | with_reducible apply same_foldl_fst | split)

theorem State.repeatRec_same {L : Nat} {z s : State} (hL : 35184372089240 &&& L = 35184372089240) (h : Agree L z s) (r : Nat)
    (x : Rec) (n : Nat) (flags : Nat) (st : Option Stamp) :
    Agree L z (State.repeatRec s r x n flags st) := by
  have q0 : 264 &&& L = 264 := sub_trans rfl hL
  have q1 : 264 &&& L = 264 := sub_trans rfl hL
  have r0 : 128 &&& L = 128 := sub_trans rfl hL
  have w0 : 35184372089104 &&& L = 35184372089104 := sub_trans rfl hL
  have w1 : 35184372089104 &&& L = 35184372089104 := sub_trans rfl hL
  unfold State.repeatRec
  repeat' (first
      | intro _ | with_reducible exact h | with_reducible assumption | with_reducible apply State.wideAdd_same q0
      | with_reducible apply State.setPers_same q1 | with_reducible apply writeRec_same w0
      | with_reducible apply writeBlank_same w1 | with_reducible apply same_ite | with_reducible apply same_foldl
      | with_reducible apply same_foldl_fst | simp only [same_ledger r0] | split)

theorem State.enterCount_same {L : Nat} {z s : State} (hL : 35184372089240 &&& L = 35184372089240) (h : Agree L z s) (src : Nat)
    (n : Nat) (flag : Nat) (word : Nat) :
    Agree L z (State.enterCount s src n flag word) := by
  have q1 : 264 &&& L = 264 := sub_trans rfl hL
  unfold State.enterCount
  repeat' (first
      | intro _ | with_reducible exact h | with_reducible assumption | with_reducible apply State.repeatRec_same hL
      | with_reducible apply State.setPers_same q1 | with_reducible apply State.newRec_same hL | with_reducible apply same_ite
      | with_reducible apply same_foldl | with_reducible apply same_foldl_fst | split)

theorem State.noteEntered_same {L : Nat} {z s : State} (hL : 128 &&& L = 128) (h : Agree L z s) (order : Nat) (r : Nat) :
    Agree L z (State.noteEntered s order r) := by
  have r0 : 128 &&& L = 128 := sub_trans rfl hL
  unfold State.noteEntered
  repeat' (first
      | intro _ | with_reducible exact h | with_reducible assumption | with_reducible apply same_ite
      | with_reducible apply same_foldl | with_reducible apply same_foldl_fst | simp only [same_ledger r0] | split)

theorem State.newMessageRec_same {L : Nat} {z s : State} (hL : 35184372089240 &&& L = 35184372089240) (h : Agree L z s) (h : Hand) :
    Agree L z (State.newMessageRec s h) := by
  have q0 : 128 &&& L = 128 := sub_trans rfl hL
  have q1 : 264 &&& L = 264 := sub_trans rfl hL
  unfold State.newMessageRec
  repeat' (first
      | intro _ | with_reducible exact h | with_reducible assumption | with_reducible apply State.noteEntered_same q0
      | with_reducible apply State.setPers_same q1 | with_reducible apply State.newRec_same hL | with_reducible apply same_ite
      | with_reducible apply same_foldl | with_reducible apply same_foldl_fst | split)

theorem State.enterHand_same {L : Nat} {z s : State} (hL : 35184372089240 &&& L = 35184372089240) (h : Agree L z s) (h : Hand) :
    Agree L z (State.enterHand s h) := by
  have q1 : 128 &&& L = 128 := sub_trans rfl hL
  unfold State.enterHand
  try dsimp only
  repeat' (first
      | intro _ | with_reducible exact h | with_reducible assumption | with_reducible apply State.repeatRec_same hL
      | with_reducible apply State.noteEntered_same q1 | with_reducible apply State.newMessageRec_same hL
      | with_reducible apply State.enterCount_same hL | with_reducible apply same_ite | with_reducible apply same_foldl
      | with_reducible apply same_foldl_fst | split | dsimp only)

theorem State.etchGranted_same {L : Nat} {z s : State} (hL : 360 &&& L = 360) (h : Agree L z s) (r : LaneReq) (lane : Nat) :
    Agree L z (State.etchGranted s r lane) := by
  have q0 : 288 &&& L = 288 := sub_trans rfl hL
  have r0 : 256 &&& L = 256 := sub_trans rfl hL
  unfold State.etchGranted
  repeat' (first
      | intro _ | with_reducible exact h | with_reducible assumption | with_reducible apply State.stopEtch_same q0
      | with_reducible apply State.etchIdle_same hL | with_reducible apply same_ite | with_reducible apply same_foldl
      | with_reducible apply same_foldl_fst | simp only [same_store r0] | split)

theorem State.writeCopy_same {L : Nat} {z s : State} (hL : 256 &&& L = 256) (h : Agree L z s) (e : Etch) (p : Nat) (tgt : Nat × Count) :
    Agree L z (State.writeCopy s e p tgt) := by
  have r0 : 256 &&& L = 256 := sub_trans rfl hL
  unfold State.writeCopy
  repeat' (first
      | intro _ | with_reducible exact h | with_reducible assumption | with_reducible apply same_ite
      | with_reducible apply same_foldl | with_reducible apply same_foldl_fst | simp only [same_store r0] | split)

theorem State.programPage_same {L : Nat} {z s : State} (hL : 256 &&& L = 256) (h : Agree L z s) (e : Etch) (p : Nat) :
    Agree L z (State.programPage s e p) := by
  unfold State.programPage
  repeat' (first
      | intro _ | with_reducible exact h | with_reducible assumption | with_reducible apply State.writeCopy_same hL
      | with_reducible apply same_ite | with_reducible apply same_foldl | with_reducible apply same_foldl_fst | split)

theorem State.etchPageCommit_same {L : Nat} {z s : State} (hL : 562950221861368 &&& L = 562950221861368) (h : Agree L z s) (ok : Bool)
    (ch : Nat) :
    Agree L z (State.etchPageCommit s ok ch) := by
  have q1 : 64 &&& L = 64 := sub_trans rfl hL
  have q2 : 8 &&& L = 8 := sub_trans rfl hL
  have q3 : 256 &&& L = 256 := sub_trans rfl hL
  have q4 : 264 &&& L = 264 := sub_trans rfl hL
  have r0 : 256 &&& L = 256 := sub_trans rfl hL
  unfold State.etchPageCommit
  repeat' (first
      | intro _ | with_reducible exact h | with_reducible assumption | with_reducible apply State.afterPage_same hL
      | with_reducible apply State.raise_same q1 | with_reducible apply State.setLive_same q2
      | with_reducible apply State.programPage_same q3 | with_reducible apply State.bump_same q4 | with_reducible apply same_ite
      | with_reducible apply same_foldl | with_reducible apply same_foldl_fst | simp only [same_store r0] | split)

theorem State.etchSnapshot_same {L : Nat} {z s : State} (hL : 580542407905784 &&& L = 580542407905784) (h : Agree L z s)  :
    Agree L z (State.etchSnapshot s) := by
  have q0 : 562949953421584 &&& L = 562949953421584 := sub_trans rfl hL
  have q1 : 64 &&& L = 64 := sub_trans rfl hL
  have q2 : 268440040 &&& L = 268440040 := sub_trans rfl hL
  have q3 : 8 &&& L = 8 := sub_trans rfl hL
  have q4 : 264 &&& L = 264 := sub_trans rfl hL
  have r0 : 256 &&& L = 256 := sub_trans rfl hL
  have r1 : 4480 &&& L = 4480 := sub_trans rfl hL
  have w3 : 17592186044688 &&& L = 17592186044688 := sub_trans rfl hL
  have w4 : 17592186044688 &&& L = 17592186044688 := sub_trans rfl hL
  have w5 : 562949953421584 &&& L = 562949953421584 := sub_trans rfl hL
  unfold State.etchSnapshot
  repeat' (first
      | intro _ | with_reducible exact h | with_reducible assumption | with_reducible apply State.startPage_same q0
      | with_reducible apply State.raise_same q1 | with_reducible apply State.endEtch_same q2
      | with_reducible apply State.setLive_same q3 | with_reducible apply State.bump_same q4
      | with_reducible apply writeLog_same w3 | with_reducible apply writeLogBody_same w4 | with_reducible apply writeCell_same w5
      | with_reducible apply same_ite | with_reducible apply same_foldl | with_reducible apply same_foldl_fst
      | simp only [same_store r0, same_ledger_store_ring r1] | split)

theorem State.event_same {L : Nat} {z s : State} {f : State → State} (hL : 2888364433402 &&& L = 2888364433402) (h : Agree L z s)
    (hf : ∀ t : State, Agree L z t → Agree L z (f t))  :
    Agree L z (State.event s f) := by
  unfold State.event
  exact same_ite (State.after_same (sub_trans rfl hL) (hf _ h)) h

theorem State.extractDelayEnd_same {L : Nat} {z s : State} (hL : 33718600 &&& L = 33718600) (h : Agree L z s)  :
    Agree L z (State.extractDelayEnd s) := by
  unfold State.extractDelayEnd
  repeat' (first
      | intro _ | with_reducible exact h | with_reducible assumption | with_reducible apply State.pullFeeds_same hL
      | with_reducible apply same_ite | with_reducible apply same_foldl | with_reducible apply same_foldl_fst | split)

theorem State.fallingPass_same {L : Nat} {z s : State} (hL : 29559144 &&& L = 29559144) (h : Agree L z s)  :
    Agree L z (State.fallingPass s) := by
  unfold State.fallingPass
  repeat' (first
      | intro _ | with_reducible exact h | with_reducible assumption | with_reducible apply State.startPass_same hL
      | with_reducible apply same_ite | with_reducible apply same_foldl | with_reducible apply same_foldl_fst | split)

theorem State.filterUnlock_same {L : Nat} {z s : State} (hL : 64 &&& L = 64) (h : Agree L z s)  :
    Agree L z (State.filterUnlock s) := by
  unfold State.filterUnlock
  repeat' (first
      | intro _ | with_reducible exact h | with_reducible assumption | with_reducible apply State.raise_same hL
      | with_reducible apply same_ite | with_reducible apply same_foldl | with_reducible apply same_foldl_fst | split)

theorem State.finishRingPages_same {L : Nat} {z s : State} (hL : 562949953425680 &&& L = 562949953425680) (h : Agree L z s)  :
    Agree L z (State.finishRingPages s) := by
  have q0 : 562949953421584 &&& L = 562949953421584 := sub_trans rfl hL
  have r0 : 4096 &&& L = 4096 := sub_trans rfl hL
  unfold State.finishRingPages
  repeat' (first
      | intro _ | with_reducible exact h | with_reducible assumption | with_reducible apply State.writeRingHeader_same q0
      | with_reducible apply same_ite | with_reducible apply same_foldl | with_reducible apply same_foldl_fst
      | simp only [same_ring r0] | split)

theorem State.thawEtch_same {L : Nat} {z s : State} (hL : 256 &&& L = 256) (h : Agree L z s)  :
    Agree L z (State.thawEtch s) := by
  have r0 : 256 &&& L = 256 := sub_trans rfl hL
  unfold State.thawEtch
  repeat' (first
      | intro _ | with_reducible exact h | with_reducible assumption | with_reducible apply same_ite
      | with_reducible apply same_foldl | with_reducible apply same_foldl_fst | simp only [same_store r0] | split)

theorem State.thawSink_same {L : Nat} {z s : State} (hL : 25166152 &&& L = 25166152) (h : Agree L z s) (n : Nat) :
    Agree L z (State.thawSink s n) := by
  have q1 : 8388608 &&& L = 8388608 := sub_trans rfl hL
  have q2 : 25165824 &&& L = 25165824 := sub_trans rfl hL
  have q3 : 264 &&& L = 264 := sub_trans rfl hL
  have q4 : 25165824 &&& L = 25165824 := sub_trans rfl hL
  unfold State.thawSink
  repeat' (first
      | intro _ | with_reducible exact h | with_reducible assumption | with_reducible apply State.sinkDone_same hL
      | with_reducible apply State.setSink_same q1 | with_reducible apply State.coolEnergy_same q2
      | with_reducible apply State.bump_same q3 | with_reducible apply State.freePower_same q4 | with_reducible apply same_ite
      | with_reducible apply same_foldl | with_reducible apply same_foldl_fst | split)

theorem State.thawSinks_same {L : Nat} {z s : State} (hL : 25166152 &&& L = 25166152) (h : Agree L z s)  :
    Agree L z (State.thawSinks s) := by
  unfold State.thawSinks
  repeat' (first
      | intro _ | with_reducible exact h | with_reducible assumption | with_reducible apply State.thawSink_same hL
      | with_reducible apply same_ite | with_reducible apply same_foldl | with_reducible apply same_foldl_fst | split)

theorem State.notePage_same {L : Nat} {z s : State} (hL : 262144 &&& L = 262144) (h : Agree L z s) (n : Nat) :
    Agree L z (State.notePage s n) := by
  have r0 : 262144 &&& L = 262144 := sub_trans rfl hL
  unfold State.notePage
  repeat' (first
      | intro _ | with_reducible exact h | with_reducible assumption | with_reducible apply same_ite
      | with_reducible apply same_foldl | with_reducible apply same_foldl_fst | simp only [same_pmb r0] | split)

theorem State.setJob_same {L : Nat} {z s : State} (hL : 262144 &&& L = 262144) (h : Agree L z s) (j : PmbJob) :
    Agree L z (State.setJob s j) := by
  have r0 : 262144 &&& L = 262144 := sub_trans rfl hL
  unfold State.setJob
  repeat' (first
      | intro _ | with_reducible exact h | with_reducible assumption | with_reducible apply same_ite
      | with_reducible apply same_foldl | with_reducible apply same_foldl_fst | simp only [same_pmb r0] | split)

theorem State.startPort_same {L : Nat} {z s : State} (hL : 262144 &&& L = 262144) (h : Agree L z s) (port : Nat) :
    Agree L z (State.startPort s port) := by
  have r0 : 262144 &&& L = 262144 := sub_trans rfl hL
  unfold State.startPort
  repeat' (first
      | intro _ | with_reducible exact h | with_reducible assumption | with_reducible apply State.setJob_same hL
      | with_reducible apply same_ite | with_reducible apply same_foldl | with_reducible apply same_foldl_fst
      | simp only [same_pmb r0] | split)

theorem State.forgetPage_same {L : Nat} {z s : State} (hL : 262144 &&& L = 262144) (h : Agree L z s) (port : Nat) :
    Agree L z (State.forgetPage s port) := by
  have r0 : 262144 &&& L = 262144 := sub_trans rfl hL
  unfold State.forgetPage
  repeat' (first
      | intro _ | with_reducible exact h | with_reducible assumption | with_reducible apply same_ite
      | with_reducible apply same_foldl | with_reducible apply same_foldl_fst | simp only [same_pmb r0] | split)

theorem State.pmbTransfer_same {L : Nat} {z s : State} (hL : 262176 &&& L = 262176) (h : Agree L z s) (port : Nat) (ok : Bool)
    (data : Nat) :
    Agree L z (State.pmbTransfer s port ok data).1 := by
  have q0 : 262144 &&& L = 262144 := sub_trans rfl hL
  have q2 : 262144 &&& L = 262144 := sub_trans rfl hL
  have q3 : 262144 &&& L = 262144 := sub_trans rfl hL
  have q4 : 262144 &&& L = 262144 := sub_trans rfl hL
  unfold State.pmbTransfer
  repeat' (first
      | intro _ | with_reducible exact h | with_reducible assumption | with_reducible apply State.notePage_same q0
      | with_reducible apply State.endJob_same hL | with_reducible apply State.startPort_same q2
      | with_reducible apply State.setJob_same q3 | with_reducible apply State.forgetPage_same q4 | with_reducible apply same_ite
      | with_reducible apply same_foldl | with_reducible apply same_foldl_fst | split)

theorem State.setupDone_same {L : Nat} {z s : State} (hL : 393248 &&& L = 393248) (h : Agree L z s) (n : Nat) :
    Agree L z (State.setupDone s n) := by
  have q0 : 262176 &&& L = 262176 := sub_trans rfl hL
  have r0 : 131072 &&& L = 131072 := sub_trans rfl hL
  unfold State.setupDone
  repeat' (first
      | intro _ | with_reducible exact h | with_reducible assumption | with_reducible apply State.setupNext_same q0
      | with_reducible apply same_ite | with_reducible apply same_foldl | with_reducible apply same_foldl_fst
      | simp only [same_seq r0] | split)

theorem State.seqPmbDone_same {L : Nat} {z s : State} (hL : 393320 &&& L = 393320) (h : Agree L z s) (j : PmbJob) (data : Nat) :
    Agree L z (State.seqPmbDone s j data) := by
  have q0 : 262176 &&& L = 262176 := sub_trans rfl hL
  have q1 : 8 &&& L = 8 := sub_trans rfl hL
  have q2 : 393248 &&& L = 393248 := sub_trans rfl hL
  have q3 : 64 &&& L = 64 := sub_trans rfl hL
  unfold State.seqPmbDone
  repeat' (first
      | intro _ | with_reducible exact h | with_reducible assumption | with_reducible apply State.postPmb_same q0
      | with_reducible apply State.setFlag_same q1 | with_reducible apply State.setupDone_same q2
      | with_reducible apply State.raise_same q3 | with_reducible apply same_ite | with_reducible apply same_foldl
      | with_reducible apply same_foldl_fst | split)

theorem State.reportPmb_same {L : Nat} {z s : State} (hL : 328 &&& L = 328) (h : Agree L z s) (n : Nat) :
    Agree L z (State.reportPmb s n) := by
  have q0 : 8 &&& L = 8 := sub_trans rfl hL
  have q1 : 264 &&& L = 264 := sub_trans rfl hL
  have q2 : 64 &&& L = 64 := sub_trans rfl hL
  unfold State.reportPmb
  repeat' (first
      | intro _ | with_reducible exact h | with_reducible assumption | with_reducible apply State.setFlag_same q0
      | with_reducible apply State.bump_same q1 | with_reducible apply State.raise_same q2 | with_reducible apply same_ite
      | with_reducible apply same_foldl | with_reducible apply same_foldl_fst | split)

theorem State.seqPmbFailed_same {L : Nat} {z s : State} (hL : 459112 &&& L = 459112) (h : Agree L z s) (j : PmbJob) :
    Agree L z (State.seqPmbFailed s j) := by
  have q0 : 328 &&& L = 328 := sub_trans rfl hL
  have q1 : 393248 &&& L = 393248 := sub_trans rfl hL
  have q2 : 65536 &&& L = 65536 := sub_trans rfl hL
  have q3 : 262176 &&& L = 262176 := sub_trans rfl hL
  unfold State.seqPmbFailed
  repeat' (first
      | intro _ | with_reducible exact h | with_reducible assumption | with_reducible apply State.reportPmb_same q0
      | with_reducible apply State.setupDone_same q1 | with_reducible apply State.setRail_same q2
      | with_reducible apply State.dropJobs_same q3 | with_reducible apply same_ite | with_reducible apply same_foldl
      | with_reducible apply same_foldl_fst | split)

theorem State.marginFailed_same {L : Nat} {z s : State} (hL : 2097480 &&& L = 2097480) (h : Agree L z s) (n : Nat) :
    Agree L z (State.marginFailed s n) := by
  have q0 : 264 &&& L = 264 := sub_trans rfl hL
  have q1 : 2097152 &&& L = 2097152 := sub_trans rfl hL
  have q2 : 64 &&& L = 64 := sub_trans rfl hL
  unfold State.marginFailed
  repeat' (first
      | intro _ | with_reducible exact h | with_reducible assumption | with_reducible apply State.bump_same q0
      | with_reducible apply State.setMargin_same q1 | with_reducible apply State.raise_same q2 | with_reducible apply same_ite
      | with_reducible apply same_foldl | with_reducible apply same_foldl_fst | split)

theorem State.pmbRead_same {L : Nat} {z s : State} (hL : 2097224 &&& L = 2097224) (h : Agree L z s) (j : PmbJob) (data : Nat) :
    Agree L z (State.pmbRead s j data) := by
  have q0 : 8 &&& L = 8 := sub_trans rfl hL
  have q1 : 2097152 &&& L = 2097152 := sub_trans rfl hL
  have q2 : 8 &&& L = 8 := sub_trans rfl hL
  have q3 : 64 &&& L = 64 := sub_trans rfl hL
  unfold State.pmbRead
  repeat' (first
      | intro _ | with_reducible exact h | with_reducible assumption | with_reducible apply State.setLive_same q0
      | with_reducible apply State.setMargin_same q1 | with_reducible apply State.setFlag_same q2
      | with_reducible apply State.raise_same q3 | with_reducible apply same_ite | with_reducible apply same_foldl
      | with_reducible apply same_foldl_fst | split)

theorem State.marginDone_same {L : Nat} {z s : State} (hL : 2359656 &&& L = 2359656) (h : Agree L z s) (n : Nat) (j : PmbJob)
    (data : Nat) :
    Agree L z (State.marginDone s n j data) := by
  have q0 : 262176 &&& L = 262176 := sub_trans rfl hL
  have q1 : 8 &&& L = 8 := sub_trans rfl hL
  have q3 : 2097152 &&& L = 2097152 := sub_trans rfl hL
  have q4 : 264 &&& L = 264 := sub_trans rfl hL
  unfold State.marginDone
  try dsimp only
  repeat' (first
      | intro _ | with_reducible exact h | with_reducible assumption | with_reducible apply State.postPmb_same q0
      | with_reducible apply State.setLive_same q1 | with_reducible apply State.sendMarginWord_same hL
      | with_reducible apply State.setMargin_same q3 | with_reducible apply State.bump_same q4 | with_reducible apply same_ite
      | with_reducible apply same_foldl | with_reducible apply same_foldl_fst | split | dsimp only)

theorem State.pmbEnded_same {L : Nat} {z s : State} (hL : 2556264 &&& L = 2556264) (h : Agree L z s) (r : PmbResult) :
    Agree L z (State.pmbEnded s r) := by
  have q0 : 393320 &&& L = 393320 := sub_trans rfl hL
  have q1 : 459112 &&& L = 459112 := sub_trans rfl hL
  have q2 : 393248 &&& L = 393248 := sub_trans rfl hL
  have q3 : 2097480 &&& L = 2097480 := sub_trans rfl hL
  have q4 : 2097224 &&& L = 2097224 := sub_trans rfl hL
  have q5 : 328 &&& L = 328 := sub_trans rfl hL
  have q6 : 2359656 &&& L = 2359656 := sub_trans rfl hL
  unfold State.pmbEnded
  repeat' (first
      | intro _ | with_reducible exact h | with_reducible assumption | with_reducible apply State.seqPmbDone_same q0
      | with_reducible apply State.seqPmbFailed_same q1 | with_reducible apply State.setupDone_same q2
      | with_reducible apply State.marginFailed_same q3 | with_reducible apply State.pmbRead_same q4
      | with_reducible apply State.reportPmb_same q5 | with_reducible apply State.marginDone_same q6
      | with_reducible apply same_ite | with_reducible apply same_foldl | with_reducible apply same_foldl_fst | split)

theorem State.pmbDone_same {L : Nat} {z s : State} (hL : 2556264 &&& L = 2556264) (h : Agree L z s) (port : Nat) (ok : Bool)
    (data : Nat) :
    Agree L z (State.pmbDone s port ok data) := by
  have q0 : 262176 &&& L = 262176 := sub_trans rfl hL
  unfold State.pmbDone
  try dsimp only
  repeat' (first
      | intro _ | with_reducible exact h | with_reducible assumption | with_reducible apply State.pmbTransfer_same q0
      | with_reducible apply State.pmbEnded_same hL | with_reducible apply same_ite | with_reducible apply same_foldl
      | with_reducible apply same_foldl_fst | split | dsimp only)

theorem State.thawFeed_same {L : Nat} {z s0 : State} (hL : 33718632 &&& L = 33718632) (h : Agree L z s0) (f : Nat) :
    Agree L z (State.thawFeed s0 f) := by
  have q1 : 33718600 &&& L = 33718600 := sub_trans rfl hL
  have q2 : 33554432 &&& L = 33554432 := sub_trans rfl hL
  unfold State.thawFeed
  repeat' (first
      | intro _ | with_reducible exact h | with_reducible assumption | with_reducible apply State.tripFeed_same hL
      | with_reducible apply State.openFeed_same q1 | with_reducible apply State.setFeed_same q2 | with_reducible apply same_ite
      | with_reducible apply same_foldl | with_reducible apply same_foldl_fst | split)

theorem State.thawBlocks_same {L : Nat} {z s : State} (hL : 66035176 &&& L = 66035176) (h : Agree L z s)  :
    Agree L z (State.thawBlocks s) := by
  have q0 : 256 &&& L = 256 := sub_trans rfl hL
  have q1 : 25166152 &&& L = 25166152 := sub_trans rfl hL
  have q2 : 2556264 &&& L = 2556264 := sub_trans rfl hL
  have q3 : 163840 &&& L = 163840 := sub_trans rfl hL
  have q4 : 33718632 &&& L = 33718632 := sub_trans rfl hL
  have q5 : 7336 &&& L = 7336 := sub_trans rfl hL
  have q6 : 2088 &&& L = 2088 := sub_trans rfl hL
  have q7 : 29362536 &&& L = 29362536 := sub_trans rfl hL
  have q8 : 64 &&& L = 64 := sub_trans rfl hL
  have r0 : 528448 &&& L = 528448 := sub_trans rfl hL
  unfold State.thawBlocks
  repeat' (first
      | intro _ | with_reducible exact h | with_reducible assumption | with_reducible apply State.thawEtch_same q0
      | with_reducible apply State.thawSinks_same q1 | with_reducible apply State.pmbDone_same q2
      | with_reducible apply State.inputReview_same q3 | with_reducible apply State.thawFeed_same q4
      | with_reducible apply State.sendQual_same q5 | with_reducible apply State.endCapture_same q6
      | with_reducible apply State.stipAbort_same q7 | with_reducible apply State.raiseAt_same q8 | with_reducible apply same_ite
      | with_reducible apply same_foldl | with_reducible apply same_foldl_fst | simp only [same_coll_ring_railWins r0] | split)

theorem State.thawConvoy_same {L : Nat} {z s : State} (hL : 549822922760 &&& L = 549822922760) (h : Agree L z s)  :
    Agree L z (State.thawConvoy s) := by
  have q0 : 67108872 &&& L = 67108872 := sub_trans rfl hL
  have r0 : 549822922752 &&& L = 549822922752 := sub_trans rfl hL
  unfold State.thawConvoy
  repeat' (first
      | intro _ | with_reducible exact h | with_reducible assumption | with_reducible apply State.leaveConvoy_same q0
      | with_reducible apply same_ite | with_reducible apply same_foldl | with_reducible apply same_foldl_fst
      | simp only [same_convoy_frz r0] | split)

theorem State.thawFabric_same {L : Nat} {z s : State} (hL : 4 &&& L = 4) (h : Agree L z s)  :
    Agree L z (State.thawFabric s) := by
  have r0 : 4 &&& L = 4 := sub_trans rfl hL
  unfold State.thawFabric
  repeat' (first
      | intro _ | with_reducible exact h | with_reducible assumption | with_reducible apply State.keepEdges_same hL
      | with_reducible apply same_ite | with_reducible apply same_foldl | with_reducible apply same_foldl_fst
      | simp only [same_fab r0] | split)

theorem State.lateStarts_same {L : Nat} {z s : State} (hL : 72 &&& L = 72) (h : Agree L z s) (n : Nat) :
    Agree L z (State.lateStarts n s) := by
  induction n generalizing s with
  | zero =>
    unfold State.lateStarts
    exact h
  | succ f ih =>
    unfold State.lateStarts
    repeat' (first
        | intro _ | with_reducible exact h | with_reducible assumption | with_reducible apply ih
        | with_reducible apply State.lateStart_same hL | with_reducible apply same_ite | with_reducible apply same_foldl
        | with_reducible apply same_foldl_fst | split)

theorem State.thawRecord_same {L : Nat} {z s : State} (hL : 29400552 &&& L = 29400552) (h : Agree L z s) (since : Nat) :
    Agree L z (State.thawRecord s since) := by
  have q0 : 29367784 &&& L = 29367784 := sub_trans rfl hL
  have q1 : 264 &&& L = 264 := sub_trans rfl hL
  have q2 : 264 &&& L = 264 := sub_trans rfl hL
  have q3 : 264 &&& L = 264 := sub_trans rfl hL
  have r0 : 32768 &&& L = 32768 := sub_trans rfl hL
  unfold State.thawRecord
  repeat' (first
      | intro _ | with_reducible exact h | with_reducible assumption | with_reducible apply State.powerFail_same q0
      | with_reducible apply State.wideAdd_same q1 | with_reducible apply State.bump_same q2
      | with_reducible apply State.setPers_same q3 | with_reducible apply same_ite | with_reducible apply same_foldl
      | with_reducible apply same_foldl_fst | simp only [same_input r0] | split)

theorem State.firstClockedTick_same {L : Nat} {z s : State} (hL : 962205818348 &&& L = 962205818348) (h : Agree L z s)  :
    Agree L z (State.firstClockedTick s) := by
  have q0 : 67108864 &&& L = 67108864 := sub_trans rfl hL
  have q1 : 66035176 &&& L = 66035176 := sub_trans rfl hL
  have q2 : 549822922760 &&& L = 549822922760 := sub_trans rfl hL
  have q3 : 4 &&& L = 4 := sub_trans rfl hL
  have q4 : 29428072 &&& L = 29428072 := sub_trans rfl hL
  have q5 : 72 &&& L = 72 := sub_trans rfl hL
  have q6 : 29821288 &&& L = 29821288 := sub_trans rfl hL
  have q7 : 29400552 &&& L = 29400552 := sub_trans rfl hL
  have r0 : 137438953472 &&& L = 137438953472 := sub_trans rfl hL
  have r1 : 274877906944 &&& L = 274877906944 := sub_trans rfl hL
  unfold State.firstClockedTick
  repeat' (first
      | intro _ | with_reducible exact h | with_reducible assumption | with_reducible apply State.drive_same q0
      | with_reducible apply State.thawBlocks_same q1 | with_reducible apply State.thawConvoy_same q2
      | with_reducible apply State.thawFabric_same q3 | with_reducible apply State.railsNext_same q4
      | with_reducible apply State.lateStarts_same q5 | with_reducible apply State.postDeferred_same q6
      | with_reducible apply State.thawRecord_same q7 | with_reducible apply same_ite | with_reducible apply same_foldl
      | with_reducible apply same_foldl_fst | simp only [same_frozen r0, same_freezeLow r1] | split)

theorem State.firstMark_same {L : Nat} {z s : State} (hL : 105553116266896 &&& L = 105553116266896) (h : Agree L z s)  :
    Agree L z (State.firstMark s) := by
  have r0 : 128 &&& L = 128 := sub_trans rfl hL
  have w0 : 35184372089104 &&& L = 35184372089104 := sub_trans rfl hL
  have w1 : 35184372089104 &&& L = 35184372089104 := sub_trans rfl hL
  have w2 : 70368744177936 &&& L = 70368744177936 := sub_trans rfl hL
  unfold State.firstMark
  repeat' (first
      | intro _ | with_reducible exact h | with_reducible assumption | with_reducible apply writeRec_same w0
      | with_reducible apply writeBlank_same w1 | with_reducible apply writeFirst_same w2 | with_reducible apply same_ite
      | with_reducible apply same_foldl | with_reducible apply same_foldl_fst | simp only [same_ledger r0] | split)

theorem State.noteGangSwap_same {L : Nat} {z s : State} (hL : 8 &&& L = 8) (h : Agree L z s) (pos : Nat) :
    Agree L z (State.noteGangSwap s pos) := by
  unfold State.noteGangSwap
  repeat' (first
      | intro _ | with_reducible exact h | with_reducible assumption | with_reducible apply State.setLive_same hL
      | with_reducible apply same_ite | with_reducible apply same_foldl | with_reducible apply same_foldl_fst | split)

theorem State.swapIn_same {L : Nat} {z s : State} (hL : 1064 &&& L = 1064) (h : Agree L z s) (spare : Nat) :
    Agree L z (State.swapIn s spare) := by
  have q0 : 1056 &&& L = 1056 := sub_trans rfl hL
  have q1 : 1024 &&& L = 1024 := sub_trans rfl hL
  have q2 : 8 &&& L = 8 := sub_trans rfl hL
  have r0 : 1024 &&& L = 1024 := sub_trans rfl hL
  unfold State.swapIn
  repeat' (first
      | intro _ | with_reducible exact h | with_reducible assumption | with_reducible apply State.postCal_same q0
      | with_reducible apply State.setSlice_same q1 | with_reducible apply State.noteGangSwap_same q2
      | with_reducible apply same_ite | with_reducible apply same_foldl | with_reducible apply same_foldl_fst
      | simp only [same_conv r0] | split)

theorem State.forcedSwap_same {L : Nat} {z s : State} (hL : 1384 &&& L = 1384) (h : Agree L z s)  :
    Agree L z (State.forcedSwap s) := by
  have q0 : 1064 &&& L = 1064 := sub_trans rfl hL
  have q1 : 264 &&& L = 264 := sub_trans rfl hL
  have q2 : 64 &&& L = 64 := sub_trans rfl hL
  have r0 : 1024 &&& L = 1024 := sub_trans rfl hL
  unfold State.forcedSwap
  repeat' (first
      | intro _ | with_reducible exact h | with_reducible assumption | with_reducible apply State.swapIn_same q0
      | with_reducible apply State.bump_same q1 | with_reducible apply State.raise_same q2 | with_reducible apply same_ite
      | with_reducible apply same_foldl | with_reducible apply same_foldl_fst | simp only [same_conv r0] | split)

theorem State.forwardOn_same {L : Nat} {z s : State} (hL : 33554432 &&& L = 33554432) (h : Agree L z s) (f : Nat) :
    Agree L z (State.forwardOn s f) := by
  unfold State.forwardOn
  repeat' (first
      | intro _ | with_reducible exact h | with_reducible assumption | with_reducible apply State.setFeed_same hL
      | with_reducible apply same_ite | with_reducible apply same_foldl | with_reducible apply same_foldl_fst | split)

theorem State.freeEvent_same {L : Nat} {z s : State} {f : State → State} (hL : 2888364433402 &&& L = 2888364433402) (h : Agree L z s)
    (hf : ∀ t : State, Agree L z t → Agree L z (f t))  :
    Agree L z (State.freeEvent s f) := by
  unfold State.freeEvent
  exact same_ite (State.after_same (sub_trans rfl hL) (hf _ h)) h

theorem State.freeze_same {L : Nat} {z s : State} (hL : 962148171784 &&& L = 962148171784) (h : Agree L z s)  :
    Agree L z (State.freeze s) := by
  have q0 : 687270264840 &&& L = 687270264840 := sub_trans rfl hL
  have r0 : 274877906944 &&& L = 274877906944 := sub_trans rfl hL
  unfold State.freeze
  repeat' (first
      | intro _ | with_reducible exact h | with_reducible assumption | with_reducible apply State.freezeIfLow_same q0
      | with_reducible apply same_ite | with_reducible apply same_foldl | with_reducible apply same_foldl_fst
      | simp only [same_freezeLow r0] | split)

theorem State.frozenBeatEdge_same {L : Nat} {z s : State} (hL : 549822922752 &&& L = 549822922752) (h : Agree L z s)  :
    Agree L z (State.frozenBeatEdge s) := by
  have q0 : 67108864 &&& L = 67108864 := sub_trans rfl hL
  have r0 : 549822922752 &&& L = 549822922752 := sub_trans rfl hL
  unfold State.frozenBeatEdge
  repeat' (first
      | intro _ | with_reducible exact h | with_reducible assumption | with_reducible apply State.drive_same q0
      | with_reducible apply same_ite | with_reducible apply same_foldl | with_reducible apply same_foldl_fst
      | simp only [same_convoy_frz r0] | split)

theorem State.fullReached_same {L : Nat} {z s : State} (hL : 1073742088 &&& L = 1073742088) (h : Agree L z s)  :
    Agree L z (State.fullReached s) := by
  unfold State.fullReached
  repeat' (first
      | intro _ | with_reducible exact h | with_reducible assumption | with_reducible apply State.wake_same hL
      | with_reducible apply same_ite | with_reducible apply same_foldl | with_reducible apply same_foldl_fst | split)

theorem State.fuseFast_same {L : Nat} {z s : State} (hL : 33718632 &&& L = 33718632) (h : Agree L z s) (f : Nat) :
    Agree L z (State.fuseFast s f) := by
  unfold State.fuseFast
  repeat' (first
      | intro _ | with_reducible exact h | with_reducible assumption | with_reducible apply State.tripFeed_same hL
      | with_reducible apply same_ite | with_reducible apply same_foldl | with_reducible apply same_foldl_fst | split)

theorem State.fuseSlow_same {L : Nat} {z s : State} (hL : 33718632 &&& L = 33718632) (h : Agree L z s) (f : Nat) :
    Agree L z (State.fuseSlow s f) := by
  unfold State.fuseSlow
  repeat' (first
      | intro _ | with_reducible exact h | with_reducible assumption | with_reducible apply State.tripFeed_same hL
      | with_reducible apply same_ite | with_reducible apply same_foldl | with_reducible apply same_foldl_fst | split)

theorem State.goBack_same {L : Nat} {z s : State} (hL : 66035176 &&& L = 66035176) (h : Agree L z s) (n : Nat) (c : Nat) :
    Agree L z (State.goBack s n c) := by
  have q0 : 65536 &&& L = 65536 := sub_trans rfl hL
  unfold State.goBack
  try dsimp only
  repeat' (first
      | intro _ | with_reducible exact h | with_reducible assumption | with_reducible apply State.setFilter_same q0
      | with_reducible apply State.qualifyDue_same hL | with_reducible apply same_ite | with_reducible apply same_foldl
      | with_reducible apply same_foldl_fst | split | dsimp only)

theorem State.goOnReserve_same {L : Nat} {z s : State} (hL : 29401064 &&& L = 29401064) (h : Agree L z s)  :
    Agree L z (State.goOnReserve s) := by
  have q0 : 29367784 &&& L = 29367784 := sub_trans rfl hL
  have q1 : 64 &&& L = 64 := sub_trans rfl hL
  have r0 : 32768 &&& L = 32768 := sub_trans rfl hL
  have r1 : 33280 &&& L = 33280 := sub_trans rfl hL
  unfold State.goOnReserve
  repeat' (first
      | intro _ | with_reducible exact h | with_reducible assumption | with_reducible apply State.powerFail_same q0
      | with_reducible apply State.raise_same q1 | with_reducible apply same_ite | with_reducible apply same_foldl
      | with_reducible apply same_foldl_fst | simp only [same_input r0, same_cores_input r1] | split)

theorem State.pmbGranted_same {L : Nat} {z s : State} (hL : 262144 &&& L = 262144) (h : Agree L z s) (id : Nat) :
    Agree L z (State.pmbGranted s id) := by
  unfold State.pmbGranted
  repeat' (first
      | intro _ | with_reducible exact h | with_reducible assumption | with_reducible apply State.startPort_same hL
      | with_reducible apply State.setJob_same hL | with_reducible apply same_ite | with_reducible apply same_foldl
      | with_reducible apply same_foldl_fst | split)

theorem State.stipLane_same {L : Nat} {z s : State} (hL : 12582912 &&& L = 12582912) (h : Agree L z s) (n : Nat) :
    Agree L z (State.stipLane s n) := by
  have q0 : 8388608 &&& L = 8388608 := sub_trans rfl hL
  have q1 : 4194304 &&& L = 4194304 := sub_trans rfl hL
  unfold State.stipLane
  repeat' (first
      | intro _ | with_reducible exact h | with_reducible assumption | with_reducible apply State.setSink_same q0
      | with_reducible apply State.setStip_same q1 | with_reducible apply same_ite | with_reducible apply same_foldl
      | with_reducible apply same_foldl_fst | split)

theorem State.laneOpened_same {L : Nat} {z s : State} (hL : 12845416 &&& L = 12845416) (h : Agree L z s) (r : LaneReq) (lane : Nat) :
    Agree L z (State.laneOpened s r lane) := by
  have q0 : 262144 &&& L = 262144 := sub_trans rfl hL
  have q1 : 360 &&& L = 360 := sub_trans rfl hL
  have q2 : 12582912 &&& L = 12582912 := sub_trans rfl hL
  unfold State.laneOpened
  repeat' (first
      | intro _ | with_reducible exact h | with_reducible assumption | with_reducible apply State.pmbGranted_same q0
      | with_reducible apply State.etchGranted_same q1 | with_reducible apply State.stipLane_same q2
      | with_reducible apply same_ite | with_reducible apply same_foldl | with_reducible apply same_foldl_fst | split)

theorem State.placeOnLane_same {L : Nat} {z s : State} (hL : 40 &&& L = 40) (h : Agree L z s) (lane : Nat) (r : LaneReq) :
    Agree L z (State.placeOnLane s lane r) := by
  have q0 : 8 &&& L = 8 := sub_trans rfl hL
  have r0 : 32 &&& L = 32 := sub_trans rfl hL
  unfold State.placeOnLane
  repeat' (first
      | intro _ | with_reducible exact h | with_reducible assumption | with_reducible apply State.setLive_same q0
      | with_reducible apply same_ite | with_reducible apply same_foldl | with_reducible apply same_foldl_fst
      | simp only [same_lanes r0] | split)

theorem State.grantLane_same {L : Nat} {z s : State} (hL : 12845416 &&& L = 12845416) (h : Agree L z s) (lane : Nat) (r : LaneReq) :
    Agree L z (State.grantLane s lane r) := by
  have q1 : 40 &&& L = 40 := sub_trans rfl hL
  unfold State.grantLane
  repeat' (first
      | intro _ | with_reducible exact h | with_reducible assumption | with_reducible apply State.laneOpened_same hL
      | with_reducible apply State.placeOnLane_same q1 | with_reducible apply same_ite | with_reducible apply same_foldl
      | with_reducible apply same_foldl_fst | split)

theorem State.guardSample_same {L : Nat} {z s : State} (hL : 29362536 &&& L = 29362536) (h : Agree L z s) (n : Nat) (v : Int) :
    Agree L z (State.guardSample s n v) := by
  have q0 : 4194304 &&& L = 4194304 := sub_trans rfl hL
  unfold State.guardSample
  repeat' (first
      | intro _ | with_reducible exact h | with_reducible assumption | with_reducible apply State.setStip_same q0
      | with_reducible apply State.stipAbort_same hL | with_reducible apply same_ite | with_reducible apply same_foldl
      | with_reducible apply same_foldl_fst | split)

theorem State.guardSamples_same {L : Nat} {z s : State} (hL : 29362536 &&& L = 29362536) (h : Agree L z s)  :
    Agree L z (State.guardSamples s) := by
  unfold State.guardSamples
  repeat' (first
      | intro _ | with_reducible exact h | with_reducible assumption | with_reducible apply State.guardSample_same hL
      | with_reducible apply same_ite | with_reducible apply same_foldl | with_reducible apply same_foldl_fst | split)

theorem State.requeue_same {L : Nat} {z s : State} (hL : 32 &&& L = 32) (h : Agree L z s) (op : LaneOp) (mask : Nat) (pages : List Nat) :
    Agree L z (State.requeue s op mask pages) := by
  have r0 : 32 &&& L = 32 := sub_trans rfl hL
  unfold State.requeue
  repeat' (first
      | intro _ | with_reducible exact h | with_reducible assumption | with_reducible apply same_ite
      | with_reducible apply same_foldl | with_reducible apply same_foldl_fst | simp only [same_lanes r0] | split)

theorem State.requeueEtch_same {L : Nat} {z s : State} (hL : 288 &&& L = 288) (h : Agree L z s) (op : LaneOp) (mask : Nat)
    (pages : List Nat) :
    Agree L z (State.requeueEtch s op mask pages) := by
  have q0 : 32 &&& L = 32 := sub_trans rfl hL
  unfold State.requeueEtch
  repeat' (first
      | intro _ | with_reducible exact h | with_reducible assumption | with_reducible apply State.requeue_same q0
      | with_reducible apply State.postEtch_same hL | with_reducible apply same_ite | with_reducible apply same_foldl
      | with_reducible apply same_foldl_fst | split)

theorem State.preemptPmb_same {L : Nat} {z s : State} (hL : 262176 &&& L = 262176) (h : Agree L z s) (id : Nat) :
    Agree L z (State.preemptPmb s id).1 := by
  have q1 : 262144 &&& L = 262144 := sub_trans rfl hL
  unfold State.preemptPmb
  repeat' (first
      | intro _ | with_reducible exact h | with_reducible assumption | with_reducible apply State.dropJob_same hL
      | with_reducible apply State.setJob_same q1 | with_reducible apply same_ite | with_reducible apply same_foldl
      | with_reducible apply same_foldl_fst | split)

theorem State.preempted_same {L : Nat} {z s : State} (hL : 31918440 &&& L = 31918440) (h : Agree L z s) (lane : Nat) (op : LaneOp) :
    Agree L z (State.preempted s lane op) := by
  have q0 : 288 &&& L = 288 := sub_trans rfl hL
  have q1 : 262176 &&& L = 262176 := sub_trans rfl hL
  have q2 : 32 &&& L = 32 := sub_trans rfl hL
  have q3 : 288 &&& L = 288 := sub_trans rfl hL
  have q4 : 360 &&& L = 360 := sub_trans rfl hL
  have q5 : 29362536 &&& L = 29362536 := sub_trans rfl hL
  have q6 : 29362536 &&& L = 29362536 := sub_trans rfl hL
  have q7 : 32 &&& L = 32 := sub_trans rfl hL
  have q8 : 2556264 &&& L = 2556264 := sub_trans rfl hL
  have r0 : 256 &&& L = 256 := sub_trans rfl hL
  unfold State.preempted
  repeat' (first
      | intro _ | with_reducible exact h | with_reducible assumption | with_reducible apply State.requeueEtch_same q0
      | with_reducible apply State.preemptPmb_same q1 | with_reducible apply State.requeue_same q2
      | with_reducible apply State.stopEtch_same q3 | with_reducible apply State.etchIdle_same q4
      | with_reducible apply State.stipAbort_same q5 | with_reducible apply State.capturePreempted_same q6
      | with_reducible apply State.freeLane_same q7 | with_reducible apply State.pmbEnded_same q8 | with_reducible apply same_ite
      | with_reducible apply same_foldl | with_reducible apply same_foldl_fst | simp only [same_store r0] | split)

theorem State.startHandover_same {L : Nat} {z s : State} (hL : 31918440 &&& L = 31918440) (h : Agree L z s) (r : LaneReq)
    (v : Nat × LaneOp) :
    Agree L z (State.startHandover s r v) := by
  have r0 : 32 &&& L = 32 := sub_trans rfl hL
  unfold State.startHandover
  repeat' (first
      | intro _ | with_reducible exact h | with_reducible assumption | with_reducible apply State.preempted_same hL
      | with_reducible apply same_ite | with_reducible apply same_foldl | with_reducible apply same_foldl_fst
      | simp only [same_lanes r0] | split)

theorem State.hardAgePreempt_same {L : Nat} {z s : State} (hL : 31918440 &&& L = 31918440) (h : Agree L z s)  :
    Agree L z (State.hardAgePreempt s) := by
  have q1 : 8 &&& L = 8 := sub_trans rfl hL
  unfold State.hardAgePreempt
  try dsimp only
  repeat' (first
      | intro _ | with_reducible exact h | with_reducible assumption | with_reducible apply State.startHandover_same hL
      | with_reducible apply State.bumpLive_same q1 | with_reducible apply same_ite | with_reducible apply same_foldl
      | with_reducible apply same_foldl_fst | split | dsimp only)

theorem State.holdExpired_same {L : Nat} {z s : State} (hL : 2359392 &&& L = 2359392) (h : Agree L z s) (n : Nat) :
    Agree L z (State.holdExpired s n) := by
  have q0 : 2359328 &&& L = 2359328 := sub_trans rfl hL
  have q1 : 64 &&& L = 64 := sub_trans rfl hL
  unfold State.holdExpired
  repeat' (first
      | intro _ | with_reducible exact h | with_reducible assumption | with_reducible apply State.startReturn_same q0
      | with_reducible apply State.raise_same q1 | with_reducible apply same_ite | with_reducible apply same_foldl
      | with_reducible apply same_foldl_fst | split)

theorem State.holdUpExhausted_same {L : Nat} {z s : State} (hL : 2251456082083838 &&& L = 2251456082083838) (h : Agree L z s)  :
    Agree L z (State.holdUpExhausted s) := by
  unfold State.holdUpExhausted
  repeat' (first
      | intro _ | with_reducible exact h | with_reducible assumption | with_reducible apply State.goOff_same hL
      | with_reducible apply same_ite | with_reducible apply same_foldl | with_reducible apply same_foldl_fst | split)

theorem State.holdoffEnd_same {L : Nat} {z s : State} (hL : 2555944 &&& L = 2555944) (h : Agree L z s)  :
    Agree L z (State.holdoffEnd s) := by
  have q0 : 8 &&& L = 8 := sub_trans rfl hL
  have q1 : 2555936 &&& L = 2555936 := sub_trans rfl hL
  have r0 : 131072 &&& L = 131072 := sub_trans rfl hL
  unfold State.holdoffEnd
  repeat' (first
      | intro _ | with_reducible exact h | with_reducible assumption | with_reducible apply State.setLive_same q0
      | with_reducible apply State.enterSetup_same q1 | with_reducible apply same_ite | with_reducible apply same_foldl
      | with_reducible apply same_foldl_fst | simp only [same_seq r0] | split)

theorem State.huAbort_same {L : Nat} {z s : State} (hL : 288 &&& L = 288) (h : Agree L z s)  :
    Agree L z (State.huAbort s) := by
  unfold State.huAbort
  repeat' (first
      | intro _ | with_reducible exact h | with_reducible assumption | with_reducible apply State.stopEtch_same hL
      | with_reducible apply same_ite | with_reducible apply same_foldl | with_reducible apply same_foldl_fst | split)

theorem State.huLow_same {L : Nat} {z s : State} (hL : 32832 &&& L = 32832) (h : Agree L z s)  :
    Agree L z (State.huLow s) := by
  have q0 : 64 &&& L = 64 := sub_trans rfl hL
  have r0 : 32768 &&& L = 32768 := sub_trans rfl hL
  unfold State.huLow
  repeat' (first
      | intro _ | with_reducible exact h | with_reducible assumption | with_reducible apply State.raise_same q0
      | with_reducible apply same_ite | with_reducible apply same_foldl | with_reducible apply same_foldl_fst
      | simp only [same_input r0] | split)

theorem State.inputLoss_same {L : Nat} {z s : State} (hL : 29854056 &&& L = 29854056) (h : Agree L z s)  :
    Agree L z (State.inputLoss s) := by
  unfold State.inputLoss
  repeat' (first
      | intro _ | with_reducible exact h | with_reducible assumption | with_reducible apply State.inputLossEvent_same hL
      | with_reducible apply same_ite | with_reducible apply same_foldl | with_reducible apply same_foldl_fst | split)

theorem State.startRamp_same {L : Nat} {z s : State} (hL : 33554440 &&& L = 33554440) (h : Agree L z s) (f : Nat) :
    Agree L z (State.startRamp s f) := by
  have q0 : 8 &&& L = 8 := sub_trans rfl hL
  have q1 : 33554432 &&& L = 33554432 := sub_trans rfl hL
  have q2 : 33554432 &&& L = 33554432 := sub_trans rfl hL
  unfold State.startRamp
  repeat' (first
      | intro _ | with_reducible exact h | with_reducible assumption | with_reducible apply State.setLive_same q0
      | with_reducible apply State.moveFeed_same q1 | with_reducible apply State.setFeed_same q2 | with_reducible apply same_ite
      | with_reducible apply same_foldl | with_reducible apply same_foldl_fst | split)

theorem State.inrushIssue_same {L : Nat} {z s : State} (hL : 33554440 &&& L = 33554440) (h : Agree L z s)  :
    Agree L z (State.inrushIssue s) := by
  unfold State.inrushIssue
  repeat' (first
      | intro _ | with_reducible exact h | with_reducible assumption | with_reducible apply State.startRamp_same hL
      | with_reducible apply same_ite | with_reducible apply same_foldl | with_reducible apply same_foldl_fst | split)

theorem State.protect_same {L : Nat} {z s : State} (hL : 31918440 &&& L = 31918440) (h : Agree L z s) (r : LaneReq) :
    Agree L z (State.protect s r) := by
  have q1 : 8 &&& L = 8 := sub_trans rfl hL
  have q2 : 64 &&& L = 64 := sub_trans rfl hL
  have r0 : 32 &&& L = 32 := sub_trans rfl hL
  unfold State.protect
  repeat' (first
      | intro _ | with_reducible exact h | with_reducible assumption | with_reducible apply State.startHandover_same hL
      | with_reducible apply State.bumpLive_same q1 | with_reducible apply State.raise_same q2 | with_reducible apply same_ite
      | with_reducible apply same_foldl | with_reducible apply same_foldl_fst | simp only [same_lanes r0] | split)

theorem State.laneGrant_same {L : Nat} {z s : State} (hL : 31918440 &&& L = 31918440) (h : Agree L z s)  :
    Agree L z (State.laneGrant s) := by
  have q0 : 12845416 &&& L = 12845416 := sub_trans rfl hL
  unfold State.laneGrant
  repeat' (first
      | intro _ | with_reducible exact h | with_reducible assumption | with_reducible apply State.grantLane_same q0
      | with_reducible apply State.protect_same hL | with_reducible apply same_ite | with_reducible apply same_foldl
      | with_reducible apply same_foldl_fst | split)

theorem State.lapse_same {L : Nat} {z s : State} (hL : 562039112 &&& L = 562039112) (h : Agree L z s) (p : Nat) (x : Session) :
    Agree L z (State.lapse s p x) := by
  have q1 : 264 &&& L = 264 := sub_trans rfl hL
  have q2 : 64 &&& L = 64 := sub_trans rfl hL
  unfold State.lapse
  repeat' (first
      | intro _ | with_reducible exact h | with_reducible assumption | with_reducible apply State.endSession_same hL
      | with_reducible apply State.bump_same q1 | with_reducible apply State.raise_same q2 | with_reducible apply same_ite
      | with_reducible apply same_foldl | with_reducible apply same_foldl_fst | split)

theorem State.leaderBeat_same {L : Nat} {z s : State} (hL : 52776932414844 &&& L = 52776932414844) (h : Agree L z s)  :
    Agree L z (State.leaderBeat s) := by
  have q0 : 67108936 &&& L = 67108936 := sub_trans rfl hL
  have q1 : 67108872 &&& L = 67108872 := sub_trans rfl hL
  unfold State.leaderBeat
  repeat' (first
      | intro _ | with_reducible exact h | with_reducible assumption | with_reducible apply State.forcedRelease_same q0
      | with_reducible apply State.takeSettings_same q1 | with_reducible apply State.issueBeat_same hL
      | with_reducible apply same_ite | with_reducible apply same_foldl | with_reducible apply same_foldl_fst | split)

theorem State.leaseLapse_same {L : Nat} {z s : State} (hL : 562039112 &&& L = 562039112) (h : Agree L z s) (p : Nat) :
    Agree L z (State.leaseLapse s p) := by
  unfold State.leaseLapse
  repeat' (first
      | intro _ | with_reducible exact h | with_reducible assumption | with_reducible apply State.lapse_same hL
      | with_reducible apply same_ite | with_reducible apply same_foldl | with_reducible apply same_foldl_fst | split)

theorem State.ledgerEntry_same {L : Nat} {z s : State} (hL : 35184372089240 &&& L = 35184372089240) (h : Agree L z s)  :
    Agree L z (State.ledgerEntry s) := by
  have r0 : 128 &&& L = 128 := sub_trans rfl hL
  unfold State.ledgerEntry
  repeat' (first
      | intro _ | with_reducible exact h | with_reducible assumption | with_reducible apply State.systemRec_same hL
      | with_reducible apply State.enterHand_same hL | with_reducible apply State.enterCount_same hL
      | with_reducible apply same_ite | with_reducible apply same_foldl | with_reducible apply same_foldl_fst
      | simp only [same_ledger r0] | split)

theorem State.linkRecords_same {L : Nat} {z s : State} (hL : 35184372089104 &&& L = 35184372089104) (h : Agree L z s)  :
    Agree L z (State.linkRecords s) := by
  have w0 : 35184372089104 &&& L = 35184372089104 := sub_trans rfl hL
  have w1 : 35184372089104 &&& L = 35184372089104 := sub_trans rfl hL
  unfold State.linkRecords
  repeat' (first
      | intro _ | with_reducible exact h | with_reducible assumption | with_reducible apply writeRec_same w0
      | with_reducible apply writeBlank_same w1 | with_reducible apply same_ite | with_reducible apply same_foldl
      | with_reducible apply same_foldl_fst | split)

theorem State.loadPage_same {L : Nat} {z s : State} (hL : 1125899906859288 &&& L = 1125899906859288) (h : Agree L z s) (p : Nat)
    (d : PageData) :
    Agree L z (State.loadPage s p d) := by
  unfold State.loadPage
  have q : ∀ {i : Nat} {p : Prop}, Nat.testBit 1125899906859288 i = true → L.testBit i = false → p := fun hb hn => bit_of_sub hb hL hn
  dsimp only
  split
  · exact ⟨h.pending, h.phase, h.fab, q rfl, q rfl, h.lanes, h.coll, h.ledger, q rfl, h.cores, h.conv, h.cap, h.ring, h.activeArea, q rfl, h.input, h.rails, h.seq, h.pmb, h.railWins, h.live, h.margins, h.stips, h.sinks, h.gov, h.feeds, h.convoy, h.loader, h.upd, h.hosts, h.power, h.dwellFrom, h.supplies, h.vioClass, h.startClk, h.resetCause, h.filterClk, h.frozen, h.freezeLow, h.frz, h.ticked,
      fun i g => absurd trivial (g .all (bits _ hL (by decide)))⟩
  · exact ⟨h.pending, h.phase, h.fab, q rfl, q rfl, h.lanes, h.coll, h.ledger, q rfl, h.cores, h.conv, h.cap, h.ring, h.activeArea, q rfl, h.input, h.rails, h.seq, h.pmb, h.railWins, h.live, h.margins, h.stips, h.sinks, h.gov, h.feeds, h.convoy, h.loader, h.upd, h.hosts, h.power, h.dwellFrom, h.supplies, h.vioClass, h.startClk, h.resetCause, h.filterClk, h.frozen, h.freezeLow, h.frz, h.ticked,
      fun i g => absurd trivial (g .all (bits _ hL (by decide)))⟩

theorem State.loadTimeEnd_same {L : Nat} {z s : State} (hL : 25166152 &&& L = 25166152) (h : Agree L z s) (n : Nat) :
    Agree L z (State.loadTimeEnd s n) := by
  unfold State.loadTimeEnd
  repeat' (first
      | intro _ | with_reducible exact h | with_reducible assumption | with_reducible apply State.removeLoad_same hL
      | with_reducible apply same_ite | with_reducible apply same_foldl | with_reducible apply same_foldl_fst | split)

theorem State.lockoutEnd_same {L : Nat} {z s : State} (hL : 536870912 &&& L = 536870912) (h : Agree L z s) (p : Nat) :
    Agree L z (State.lockoutEnd s p) := by
  unfold State.lockoutEnd
  repeat' (first
      | intro _ | with_reducible exact h | with_reducible assumption | with_reducible apply State.setPort_same hL
      | with_reducible apply same_ite | with_reducible apply same_foldl | with_reducible apply same_foldl_fst | split)

theorem State.soloStep_same {L : Nat} {z s : State} (hL : 52776932414844 &&& L = 52776932414844) (h : Agree L z s)  :
    Agree L z (State.soloStep s) := by
  have q0 : 52776563053916 &&& L = 52776563053916 := sub_trans rfl hL
  have q1 : 67240008 &&& L = 67240008 := sub_trans rfl hL
  have q2 : 268435456 &&& L = 268435456 := sub_trans rfl hL
  have q3 : 38207520 &&& L = 38207520 := sub_trans rfl hL
  have r0 : 67108864 &&& L = 67108864 := sub_trans rfl hL
  unfold State.soloStep
  repeat' (first
      | intro _ | with_reducible exact h | with_reducible assumption | with_reducible apply State.recordEdge_same q0
      | with_reducible apply State.enterWay_same q1 | with_reducible apply State.updBeat_same q2
      | with_reducible apply State.beatWork_same q3 | with_reducible apply same_ite | with_reducible apply same_foldl
      | with_reducible apply same_foldl_fst | simp only [same_convoy r0] | split)

theorem State.lossTimeout_same {L : Nat} {z s : State} (hL : 52776932414844 &&& L = 52776932414844) (h : Agree L z s)  :
    Agree L z (State.lossTimeout s) := by
  have q0 : 67108872 &&& L = 67108872 := sub_trans rfl hL
  have q2 : 8 &&& L = 8 := sub_trans rfl hL
  have q3 : 67108872 &&& L = 67108872 := sub_trans rfl hL
  have q4 : 64 &&& L = 64 := sub_trans rfl hL
  unfold State.lossTimeout
  repeat' (first
      | intro _ | with_reducible exact h | with_reducible assumption | with_reducible apply State.takeSettings_same q0
      | with_reducible apply State.soloStep_same hL | with_reducible apply State.bumpLive_same q2
      | with_reducible apply State.leaveConvoy_same q3 | with_reducible apply State.raise_same q4 | with_reducible apply same_ite
      | with_reducible apply same_foldl | with_reducible apply same_foldl_fst | split)

theorem State.malformed_same {L : Nat} {z s : State} (hL : 2684354888 &&& L = 2684354888) (h : Agree L z s) (p : Nat) (bs : List Byte) :
    Agree L z (State.malformed s p bs) := by
  have q0 : 328 &&& L = 328 := sub_trans rfl hL
  have q1 : 2684354560 &&& L = 2684354560 := sub_trans rfl hL
  unfold State.malformed
  repeat' (first
      | intro _ | with_reducible exact h | with_reducible assumption | with_reducible apply State.frameError_same q0
      | with_reducible apply State.deliver_same q1 | with_reducible apply same_ite | with_reducible apply same_foldl
      | with_reducible apply same_foldl_fst | split)

theorem State.marginStart_same {L : Nat} {z s : State} (hL : 2359656 &&& L = 2359656) (h : Agree L z s) (n : Nat) :
    Agree L z (State.marginStart s n) := by
  unfold State.marginStart
  repeat' (first
      | intro _ | with_reducible exact h | with_reducible assumption | with_reducible apply State.startMove_same hL
      | with_reducible apply same_ite | with_reducible apply same_foldl | with_reducible apply same_foldl_fst | split)

theorem State.marginStep_same {L : Nat} {z s : State} (hL : 2097448 &&& L = 2097448) (h : Agree L z s) (n : Nat) :
    Agree L z (State.marginStep s n) := by
  have q0 : 32 &&& L = 32 := sub_trans rfl hL
  have q1 : 2097152 &&& L = 2097152 := sub_trans rfl hL
  have q2 : 264 &&& L = 264 := sub_trans rfl hL
  unfold State.marginStep
  repeat' (first
      | intro _ | with_reducible exact h | with_reducible assumption | with_reducible apply State.freeRailLane_same q0
      | with_reducible apply State.setMargin_same q1 | with_reducible apply State.bump_same q2 | with_reducible apply same_ite
      | with_reducible apply same_foldl | with_reducible apply same_foldl_fst | split)

theorem State.mateFeed_same {L : Nat} {z s : State} (hL : 33718600 &&& L = 33718600) (h : Agree L z s) (f : Nat) :
    Agree L z (State.mateFeed s f) := by
  unfold State.mateFeed
  repeat' (first
      | intro _ | with_reducible exact h | with_reducible assumption | with_reducible apply State.openFeed_same hL
      | with_reducible apply same_ite | with_reducible apply same_foldl | with_reducible apply same_foldl_fst | split)

theorem State.mateCard_same {L : Nat} {z s : State} (hL : 33718600 &&& L = 33718600) (h : Agree L z s)  :
    Agree L z (State.mateCard s) := by
  have r0 : 32768 &&& L = 32768 := sub_trans rfl hL
  unfold State.mateCard
  repeat' (first
      | intro _ | with_reducible exact h | with_reducible assumption | with_reducible apply State.mateFeed_same hL
      | with_reducible apply same_ite | with_reducible apply same_foldl | with_reducible apply same_foldl_fst
      | simp only [same_input r0] | split)

theorem State.messageArrival_same {L : Nat} {z s : State} (hL : 30349800 &&& L = 30349800) (h : Agree L z s) (i : Nat) :
    Agree L z (State.messageArrival s i) := by
  have r0 : 64 &&& L = 64 := sub_trans rfl hL
  unfold State.messageArrival
  repeat' (first
      | intro _ | with_reducible exact h | with_reducible assumption | with_reducible apply State.arrive_same hL
      | with_reducible apply same_ite | with_reducible apply same_foldl | with_reducible apply same_foldl_fst
      | simp only [same_coll r0] | split)

theorem State.showLast_same {L : Nat} {z s : State} (hL : 8 &&& L = 8) (h : Agree L z s) (word : Nat) (st : Stamp) :
    Agree L z (State.showLast s word st) := by
  unfold State.showLast
  repeat' (first
      | intro _ | with_reducible exact h | with_reducible assumption | with_reducible apply State.noteTag_same hL
      | with_reducible apply State.setLive_same hL | with_reducible apply same_ite | with_reducible apply same_foldl
      | with_reducible apply same_foldl_fst | split)

theorem State.releaseMsg_same {L : Nat} {z s : State} (hL : 456 &&& L = 456) (h : Agree L z s) (q : QMsg) :
    Agree L z (State.releaseMsg s q) := by
  have q0 : 392 &&& L = 392 := sub_trans rfl hL
  have q1 : 8 &&& L = 8 := sub_trans rfl hL
  have q2 : 264 &&& L = 264 := sub_trans rfl hL
  have r0 : 64 &&& L = 64 := sub_trans rfl hL
  unfold State.releaseMsg
  repeat' (first
      | intro _ | with_reducible exact h | with_reducible assumption | with_reducible apply State.handOff_same q0
      | with_reducible apply State.showLast_same q1 | with_reducible apply State.bump_same q2 | with_reducible apply same_ite
      | with_reducible apply same_foldl | with_reducible apply same_foldl_fst | simp only [same_coll r0] | split)

theorem State.messageRelease_same {L : Nat} {z s : State} (hL : 456 &&& L = 456) (h : Agree L z s)  :
    Agree L z (State.messageRelease s) := by
  unfold State.messageRelease
  repeat' (first
      | intro _ | with_reducible exact h | with_reducible assumption | with_reducible apply State.releaseMsg_same hL
      | with_reducible apply same_ite | with_reducible apply same_foldl | with_reducible apply same_foldl_fst | split)

theorem State.noteReplySlot_same {L : Nat} {z s : State} (hL : 67108864 &&& L = 67108864) (h : Agree L z s) (bs : List Byte) :
    Agree L z (State.noteReplySlot s bs) := by
  have r0 : 67108864 &&& L = 67108864 := sub_trans rfl hL
  unfold State.noteReplySlot
  repeat' (first
      | intro _ | with_reducible exact h | with_reducible assumption | with_reducible apply same_ite
      | with_reducible apply same_foldl | with_reducible apply same_foldl_fst | simp only [same_convoy r0] | split)

theorem State.offSlot_same {L : Nat} {z s : State} (hL : 31918440 &&& L = 31918440) (h : Agree L z s) (n : Nat) :
    Agree L z (State.offSlot s n) := by
  unfold State.offSlot
  try dsimp only
  repeat' (first
      | intro _ | with_reducible exact h | with_reducible assumption | with_reducible apply State.release_same hL
      | with_reducible apply same_ite | with_reducible apply same_foldl | with_reducible apply same_foldl_fst | split
      | dsimp only)

theorem State.offSlotRow_same {L : Nat} {z s : State} (hL : 66035176 &&& L = 66035176) (h : Agree L z s) (n : Nat) :
    Agree L z (State.offSlotRow s n) := by
  have q1 : 31918440 &&& L = 31918440 := sub_trans rfl hL
  unfold State.offSlotRow
  repeat' (first
      | intro _ | with_reducible exact h | with_reducible assumption | with_reducible apply State.qualifyAll_same hL
      | with_reducible apply State.offSlot_same q1 | with_reducible apply same_ite | with_reducible apply same_foldl
      | with_reducible apply same_foldl_fst | split)

theorem State.oldSample_same {L : Nat} {z s : State} (hL : 703687441779992 &&& L = 703687441779992) (h : Agree L z s) (r0 : GangRun)
    (g : GangSample) :
    Agree L z (State.oldSample s r0 g) := by
  have r0 : 2048 &&& L = 2048 := sub_trans rfl hL
  unfold State.oldSample
  repeat' (first
      | intro _ | with_reducible exact h | with_reducible assumption | with_reducible apply State.finishGang_same hL
      | with_reducible apply same_ite | with_reducible apply same_foldl | with_reducible apply same_foldl_fst
      | simp only [same_cap r0] | split)

theorem State.onPin_same {L : Nat} {z s : State} {f : State → State} (_hL : 0 &&& L = 0) (h : Agree L z s)
    (hf : ∀ t : State, Agree L z t → Agree L z (f t))  :
    Agree L z (State.onPin s f) := by
  unfold State.onPin
  exact same_ite h (hf _ h)

theorem State.opTimeAdd_same {L : Nat} {z s : State} (hL : 264 &&& L = 264) (h : Agree L z s)  :
    Agree L z (State.opTimeAdd s) := by
  have r0 : 256 &&& L = 256 := sub_trans rfl hL
  unfold State.opTimeAdd
  repeat' (first
      | intro _ | with_reducible exact h | with_reducible assumption | with_reducible apply State.wideAdd_same hL
      | with_reducible apply same_ite | with_reducible apply same_foldl | with_reducible apply same_foldl_fst
      | simp only [same_store r0] | split)

theorem State.openAnswer_same {L : Nat} {z s : State} (hL : 2684354560 &&& L = 2684354560) (h : Agree L z s) (p : Nat) (seq : Nat)
    (level : Nat) (nh : List Byte) :
    Agree L z (State.openAnswer s p seq level nh) := by
  have q1 : 536870912 &&& L = 536870912 := sub_trans rfl hL
  have r0 : 536870912 &&& L = 536870912 := sub_trans rfl hL
  unfold State.openAnswer
  repeat' (first
      | intro _ | with_reducible exact h | with_reducible assumption | with_reducible apply State.deliver_same hL
      | with_reducible apply State.setPort_same q1 | with_reducible apply same_ite | with_reducible apply same_foldl
      | with_reducible apply same_foldl_fst | simp only [same_hosts r0] | split)

theorem State.openAs_same {L : Nat} {z s : State} (hL : 2709522760 &&& L = 2709522760) (h : Agree L z s) (p : Nat) (seq : Nat)
    (c : Challenge) (key : List Byte) :
    Agree L z (State.openAs s p seq c key) := by
  have q0 : 2684354560 &&& L = 2684354560 := sub_trans rfl hL
  have q1 : 536870912 &&& L = 536870912 := sub_trans rfl hL
  have q2 : 562039112 &&& L = 562039112 := sub_trans rfl hL
  have q3 : 264 &&& L = 264 := sub_trans rfl hL
  unfold State.openAs
  repeat' (first
      | intro _ | with_reducible exact h | with_reducible assumption | with_reducible apply State.deliver_same q0
      | with_reducible apply State.setPort_same q1 | with_reducible apply State.endSession_same q2
      | with_reducible apply State.bump_same q3 | with_reducible apply same_ite | with_reducible apply same_foldl
      | with_reducible apply same_foldl_fst | split)

theorem State.openSession_same {L : Nat} {z s : State} (hL : 3758096712 &&& L = 3758096712) (h : Agree L z s) (p : Nat) :
    Agree L z (State.openSession s p) := by
  have q0 : 2684354560 &&& L = 2684354560 := sub_trans rfl hL
  have q1 : 2684354888 &&& L = 2684354888 := sub_trans rfl hL
  have q2 : 1073742088 &&& L = 1073742088 := sub_trans rfl hL
  unfold State.openSession
  repeat' (first
      | intro _ | with_reducible exact h | with_reducible assumption | with_reducible apply State.openAnswer_same q0
      | with_reducible apply State.malformed_same q1 | with_reducible apply State.wake_same q2 | with_reducible apply same_ite
      | with_reducible apply same_foldl | with_reducible apply same_foldl_fst | split)

theorem State.pageReload_same {L : Nat} {z s : State} (hL : 1125899906859288 &&& L = 1125899906859288) (h : Agree L z s) (p : Nat) :
    Agree L z (State.pageReload s p) := by
  unfold State.pageReload
  repeat' (first
      | intro _ | with_reducible exact h | with_reducible assumption | with_reducible apply State.loadPage_same hL
      | with_reducible apply same_ite | with_reducible apply same_foldl | with_reducible apply same_foldl_fst | split)

theorem State.pairTolls_same {L : Nat} {z s : State} (hL : 67108864 &&& L = 67108864) (h : Agree L z s)  :
    Agree L z (State.pairTolls s) := by
  unfold State.pairTolls
  try dsimp only
  repeat' (first
      | intro _ | with_reducible exact h | with_reducible assumption | with_reducible apply State.setLead_same hL
      | with_reducible apply same_ite | with_reducible apply same_foldl | with_reducible apply same_foldl_fst | split
      | dsimp only)

theorem State.patternEdge_same {L : Nat} {z s : State} (hL : 12582912 &&& L = 12582912) (h : Agree L z s) (n : Nat) :
    Agree L z (State.patternEdge s n) := by
  have q0 : 8388608 &&& L = 8388608 := sub_trans rfl hL
  have q1 : 4194304 &&& L = 4194304 := sub_trans rfl hL
  unfold State.patternEdge
  repeat' (first
      | intro _ | with_reducible exact h | with_reducible assumption | with_reducible apply State.setSink_same q0
      | with_reducible apply State.setStip_same q1 | with_reducible apply same_ite | with_reducible apply same_foldl
      | with_reducible apply same_foldl_fst | split)

theorem State.pfailHigh_same {L : Nat} {z s : State} (hL : 32768 &&& L = 32768) (h : Agree L z s)  :
    Agree L z (State.pfailHigh s) := by
  have r0 : 32768 &&& L = 32768 := sub_trans rfl hL
  unfold State.pfailHigh
  repeat' (first
      | intro _ | with_reducible exact h | with_reducible assumption | with_reducible apply same_ite
      | with_reducible apply same_foldl | with_reducible apply same_foldl_fst | simp only [same_input r0] | split)

theorem State.pfailLow_same {L : Nat} {z s : State} (hL : 29859304 &&& L = 29859304) (h : Agree L z s)  :
    Agree L z (State.pfailLow s) := by
  have q0 : 29367784 &&& L = 29367784 := sub_trans rfl hL
  have q1 : 29821288 &&& L = 29821288 := sub_trans rfl hL
  have q2 : 64 &&& L = 64 := sub_trans rfl hL
  have r0 : 32768 &&& L = 32768 := sub_trans rfl hL
  unfold State.pfailLow
  repeat' (first
      | intro _ | with_reducible exact h | with_reducible assumption | with_reducible apply State.powerFail_same q0
      | with_reducible apply State.localShutdown_same q1 | with_reducible apply State.raise_same q2
      | with_reducible apply same_ite | with_reducible apply same_foldl | with_reducible apply same_foldl_fst
      | simp only [same_input r0] | split)

theorem State.postOnSlot_same {L : Nat} {z s : State} (hL : 65608 &&& L = 65608) (h : Agree L z s) (n : Nat) (slot : Nat) (late : Bool) :
    Agree L z (State.postOnSlot s n slot late) := by
  have q0 : 65536 &&& L = 65536 := sub_trans rfl hL
  unfold State.postOnSlot
  repeat' (first
      | intro _ | with_reducible exact h | with_reducible assumption | with_reducible apply State.later_same q0
      | with_reducible apply State.armRail_same hL | with_reducible apply same_ite | with_reducible apply same_foldl
      | with_reducible apply same_foldl_fst | split)

theorem State.powerOnEnd_same {L : Nat} {z s : State} (hL : 2 &&& L = 2) (h : Agree L z s)  :
    Agree L z (State.powerOnEnd s) := by
  have r0 : 2 &&& L = 2 := sub_trans rfl hL
  unfold State.powerOnEnd
  repeat' (first
      | intro _ | with_reducible exact h | with_reducible assumption | with_reducible apply same_ite
      | with_reducible apply same_foldl | with_reducible apply same_foldl_fst | simp only [same_phase r0] | split)

theorem State.powerStateEnter_same {L : Nat} {z s : State} (hL : 1073741824 &&& L = 1073741824) (h : Agree L z s)  :
    Agree L z (State.powerStateEnter s) := by
  have r0 : 1073741824 &&& L = 1073741824 := sub_trans rfl hL
  unfold State.powerStateEnter
  repeat' (first
      | intro _ | with_reducible exact h | with_reducible assumption | with_reducible apply same_ite
      | with_reducible apply same_foldl | with_reducible apply same_foldl_fst | simp only [same_power r0] | split)

theorem State.powerUpRecs_same {L : Nat} {z s : State} (hL : 35184372089240 &&& L = 35184372089240) (h : Agree L z s) (fuel : Nat)
    (total : Nat) (body : Nat) :
    Agree L z (State.powerUpRecs fuel total body s) := by
  induction fuel generalizing s total body with
  | zero =>
    unfold State.powerUpRecs
    exact h
  | succ f ih =>
    unfold State.powerUpRecs
    repeat' (first
        | intro _ | with_reducible exact h | with_reducible assumption | with_reducible apply ih
        | with_reducible apply State.systemRec_same hL | with_reducible apply same_ite | with_reducible apply same_foldl
        | with_reducible apply same_foldl_fst | split)

theorem State.preemptHandover_same {L : Nat} {z s : State} (hL : 12845416 &&& L = 12845416) (h : Agree L z s) (lane : Nat) :
    Agree L z (State.preemptHandover s lane) := by
  have r0 : 32 &&& L = 32 := sub_trans rfl hL
  unfold State.preemptHandover
  repeat' (first
      | intro _ | with_reducible exact h | with_reducible assumption | with_reducible apply State.grantLane_same hL
      | with_reducible apply same_ite | with_reducible apply same_foldl | with_reducible apply same_foldl_fst
      | simp only [same_lanes r0] | split)

theorem State.preloadEnd_same {L : Nat} {z s : State} (hL : 12582912 &&& L = 12582912) (h : Agree L z s) (n : Nat) :
    Agree L z (State.preloadEnd s n) := by
  have q0 : 8388608 &&& L = 8388608 := sub_trans rfl hL
  have q1 : 4194304 &&& L = 4194304 := sub_trans rfl hL
  unfold State.preloadEnd
  repeat' (first
      | intro _ | with_reducible exact h | with_reducible assumption | with_reducible apply State.setSink_same q0
      | with_reducible apply State.setStip_same q1 | with_reducible apply same_ite | with_reducible apply same_foldl
      | with_reducible apply same_foldl_fst | split)

theorem State.presentSample_same {L : Nat} {z s : State} (hL : 703687441779992 &&& L = 703687441779992) (h : Agree L z s)
    (g : Option GangSample) :
    Agree L z (State.presentSample s g) := by
  have r0 : 2048 &&& L = 2048 := sub_trans rfl hL
  unfold State.presentSample
  repeat' (first
      | intro _ | with_reducible exact h | with_reducible assumption | with_reducible apply State.finishGang_same hL
      | with_reducible apply same_ite | with_reducible apply same_foldl | with_reducible apply same_foldl_fst
      | simp only [same_cap r0] | split)

theorem State.proofAnswer_same {L : Nat} {z s : State} (hL : 2709522760 &&& L = 2709522760) (h : Agree L z s) (p : Nat) (seq : Nat)
    (arrived : Nat) (proof : List Byte) :
    Agree L z (State.proofAnswer s p seq arrived proof) := by
  have q1 : 2684354560 &&& L = 2684354560 := sub_trans rfl hL
  have q2 : 2684354888 &&& L = 2684354888 := sub_trans rfl hL
  unfold State.proofAnswer
  repeat' (first
      | intro _ | with_reducible exact h | with_reducible assumption | with_reducible apply State.openAs_same hL
      | with_reducible apply State.deliver_same q1 | with_reducible apply State.authFail_same q2 | with_reducible apply same_ite
      | with_reducible apply same_foldl | with_reducible apply same_foldl_fst | split)

theorem State.shiftOut_same {L : Nat} {z s : State} (hL : 536870912 &&& L = 536870912) (h : Agree L z s) (p : Nat) (bs : List Byte) :
    Agree L z (State.shiftOut s p bs) := by
  unfold State.shiftOut
  repeat' (first
      | intro _ | with_reducible exact h | with_reducible assumption | with_reducible apply State.setPort_same hL
      | with_reducible apply same_ite | with_reducible apply same_foldl | with_reducible apply same_foldl_fst | split)

theorem State.proofFrame_same {L : Nat} {z s : State} (hL : 536870920 &&& L = 536870920) (h : Agree L z s) (start : Nat) (n : Nat) :
    Agree L z (State.proofFrame s start n) := by
  have q0 : 8 &&& L = 8 := sub_trans rfl hL
  have q1 : 536870912 &&& L = 536870912 := sub_trans rfl hL
  unfold State.proofFrame
  repeat' (first
      | intro _ | with_reducible exact h | with_reducible assumption | with_reducible apply State.setLive_same q0
      | with_reducible apply State.shiftOut_same q1 | with_reducible apply same_ite | with_reducible apply same_foldl
      | with_reducible apply same_foldl_fst | split)

theorem State.proposalForget_same {L : Nat} {z s : State} (hL : 67108864 &&& L = 67108864) (h : Agree L z s)  :
    Agree L z (State.proposalForget s) := by
  unfold State.proposalForget
  repeat' (first
      | intro _ | with_reducible exact h | with_reducible assumption | with_reducible apply State.setLead_same hL
      | with_reducible apply same_ite | with_reducible apply same_foldl | with_reducible apply same_foldl_fst | split)

theorem State.proveSession_same {L : Nat} {z s : State} (hL : 3783264584 &&& L = 3783264584) (h : Agree L z s) (p : Nat) :
    Agree L z (State.proveSession s p) := by
  have q0 : 2709522760 &&& L = 2709522760 := sub_trans rfl hL
  have q1 : 2684354888 &&& L = 2684354888 := sub_trans rfl hL
  have q2 : 1073742088 &&& L = 1073742088 := sub_trans rfl hL
  unfold State.proveSession
  repeat' (first
      | intro _ | with_reducible exact h | with_reducible assumption | with_reducible apply State.proofAnswer_same q0
      | with_reducible apply State.malformed_same q1 | with_reducible apply State.wake_same q2 | with_reducible apply same_ite
      | with_reducible apply same_foldl | with_reducible apply same_foldl_fst | split)

theorem State.pulseEnd_same {L : Nat} {z s : State} (hL : 64 &&& L = 64) (h : Agree L z s)  :
    Agree L z (State.pulseEnd s) := by
  have r0 : 64 &&& L = 64 := sub_trans rfl hL
  unfold State.pulseEnd
  repeat' (first
      | intro _ | with_reducible exact h | with_reducible assumption | with_reducible apply same_ite
      | with_reducible apply same_foldl | with_reducible apply same_foldl_fst | simp only [same_coll r0] | split)

theorem State.quickFeed_same {L : Nat} {z s : State} (hL : 33554440 &&& L = 33554440) (h : Agree L z s) (f : Nat) :
    Agree L z (State.quickFeed s f) := by
  have q0 : 8 &&& L = 8 := sub_trans rfl hL
  have q1 : 33554432 &&& L = 33554432 := sub_trans rfl hL
  unfold State.quickFeed
  repeat' (first
      | intro _ | with_reducible exact h | with_reducible assumption | with_reducible apply State.setLive_same q0
      | with_reducible apply State.setFeed_same q1 | with_reducible apply same_ite | with_reducible apply same_foldl
      | with_reducible apply same_foldl_fst | split)

theorem State.quickHoldUp_same {L : Nat} {z s : State} (hL : 33032 &&& L = 33032) (h : Agree L z s)  :
    Agree L z (State.quickHoldUp s) := by
  have q0 : 264 &&& L = 264 := sub_trans rfl hL
  have r0 : 32768 &&& L = 32768 := sub_trans rfl hL
  unfold State.quickHoldUp
  repeat' (first
      | intro _ | with_reducible exact h | with_reducible assumption | with_reducible apply State.setPers_same q0
      | with_reducible apply same_ite | with_reducible apply same_foldl | with_reducible apply same_foldl_fst
      | simp only [same_input r0] | split)

theorem State.quickPath_same {L : Nat} {z s : State} (hL : 32768 &&& L = 32768) (h : Agree L z s)  :
    Agree L z (State.quickPath s) := by
  have r0 : 32768 &&& L = 32768 := sub_trans rfl hL
  unfold State.quickPath
  repeat' (first
      | intro _ | with_reducible exact h | with_reducible assumption | with_reducible apply same_ite
      | with_reducible apply same_foldl | with_reducible apply same_foldl_fst | simp only [same_input r0] | split)

theorem State.quickFeeds_same {L : Nat} {z s : State} (hL : 33718536 &&& L = 33718536) (h : Agree L z s)  :
    Agree L z (State.quickFeeds s) := by
  have q0 : 33554440 &&& L = 33554440 := sub_trans rfl hL
  have q1 : 33032 &&& L = 33032 := sub_trans rfl hL
  have q2 : 163840 &&& L = 163840 := sub_trans rfl hL
  have q3 : 32768 &&& L = 32768 := sub_trans rfl hL
  unfold State.quickFeeds
  repeat' (first
      | intro _ | with_reducible exact h | with_reducible assumption | with_reducible apply State.quickFeed_same q0
      | with_reducible apply State.quickHoldUp_same q1 | with_reducible apply State.inputReview_same q2
      | with_reducible apply State.quickPath_same q3 | with_reducible apply same_ite | with_reducible apply same_foldl
      | with_reducible apply same_foldl_fst | split)

theorem State.storeQuick_same {L : Nat} {z s : State} (hL : 1032 &&& L = 1032) (h : Agree L z s) (a : Nat) (b : Nat) (c : Nat) (d : Nat) :
    Agree L z (State.storeQuick s a b c d) := by
  have q0 : 8 &&& L = 8 := sub_trans rfl hL
  have r0 : 1024 &&& L = 1024 := sub_trans rfl hL
  unfold State.storeQuick
  repeat' (first
      | intro _ | with_reducible exact h | with_reducible assumption | with_reducible apply State.setLive_same q0
      | with_reducible apply same_ite | with_reducible apply same_foldl | with_reducible apply same_foldl_fst
      | simp only [same_conv r0] | split)

theorem State.quickResult_same {L : Nat} {z s : State} (hL : 65510888 &&& L = 65510888) (h : Agree L z s) (a : Nat) (b : Nat)
    (c : Nat) (d : Nat) :
    Agree L z (State.quickResult s a b c d) := by
  have q0 : 1032 &&& L = 1032 := sub_trans rfl hL
  have q1 : 33718536 &&& L = 33718536 := sub_trans rfl hL
  have q2 : 288 &&& L = 288 := sub_trans rfl hL
  have q3 : 31956456 &&& L = 31956456 := sub_trans rfl hL
  unfold State.quickResult
  repeat' (first
      | intro _ | with_reducible exact h | with_reducible assumption | with_reducible apply State.storeQuick_same q0
      | with_reducible apply State.quickFeeds_same q1 | with_reducible apply State.huAbort_same q2
      | with_reducible apply State.collapseCheck_same q3 | with_reducible apply same_ite | with_reducible apply same_foldl
      | with_reducible apply same_foldl_fst | split)

end Sys2Proof.Machine
end

