-- ==== Sys2Proof/Laws/Frame5.lean ====
section
/-! SUPPORT. Frames of the operations, part 5: the mask of each lemma names the fields that the operation may change. -/

namespace Sys2Proof.Machine

theorem State.quietEnd_same {L : Nat} {z s : State} (hL : 328 &&& L = 328) (h : Agree L z s)  :
    Agree L z (State.quietEnd s) := by
  have q0 : 264 &&& L = 264 := sub_trans rfl hL
  have r0 : 64 &&& L = 64 := sub_trans rfl hL
  unfold State.quietEnd
  repeat' (first
      | intro _ | with_reducible exact h | with_reducible assumption | with_reducible apply State.bump_same q0
      | with_reducible apply same_ite | with_reducible apply same_foldl | with_reducible apply same_foldl_fst
      | simp only [same_coll r0] | split)

theorem State.takeClaim_same {L : Nat} {z s : State} (hL : 64 &&& L = 64) (h : Agree L z s) (k : RailCand) :
    Agree L z (State.takeClaim s k) := by
  have r0 : 64 &&& L = 64 := sub_trans rfl hL
  unfold State.takeClaim
  repeat' (first
      | intro _ | with_reducible exact h | with_reducible assumption | with_reducible apply same_ite
      | with_reducible apply same_foldl | with_reducible apply same_foldl_fst | simp only [same_coll r0] | split)

theorem State.railWindowEnd_same {L : Nat} {z s : State} (hL : 524352 &&& L = 524352) (h : Agree L z s)  :
    Agree L z (State.railWindowEnd s) := by
  have q0 : 64 &&& L = 64 := sub_trans rfl hL
  have r0 : 524288 &&& L = 524288 := sub_trans rfl hL
  unfold State.railWindowEnd
  repeat' (first
      | intro _ | with_reducible exact h | with_reducible assumption | with_reducible apply State.takeClaim_same q0
      | with_reducible apply same_ite | with_reducible apply same_foldl | with_reducible apply same_foldl_fst
      | simp only [same_railWins r0] | split)

theorem State.reEtch_same {L : Nat} {z s0 : State} (hL : 17592186044728 &&& L = 17592186044728) (h : Agree L z s0) (rolled : List Nat) :
    Agree L z (State.reEtch s0 rolled) := by
  have q0 : 40 &&& L = 40 := sub_trans rfl hL
  have q1 : 256 &&& L = 256 := sub_trans rfl hL
  have q2 : 264 &&& L = 264 := sub_trans rfl hL
  have q3 : 8 &&& L = 8 := sub_trans rfl hL
  have q4 : 264 &&& L = 264 := sub_trans rfl hL
  have q5 : 264 &&& L = 264 := sub_trans rfl hL
  have q6 : 32 &&& L = 32 := sub_trans rfl hL
  have r0 : 256 &&& L = 256 := sub_trans rfl hL
  have w3 : 17592186044688 &&& L = 17592186044688 := sub_trans rfl hL
  have w4 : 17592186044688 &&& L = 17592186044688 := sub_trans rfl hL
  unfold State.reEtch
  repeat' (first
      | intro _ | with_reducible exact h | with_reducible assumption | with_reducible apply State.placeOnLane_same q0
      | with_reducible apply State.writeCopy_same q1 | with_reducible apply State.addCount_same q2
      | with_reducible apply State.setLive_same q3 | with_reducible apply State.bump_same q4
      | with_reducible apply State.setPers_same q5 | with_reducible apply State.freeLane_same q6
      | with_reducible apply writeLog_same w3 | with_reducible apply writeLogBody_same w4 | with_reducible apply same_ite
      | with_reducible apply same_foldl | with_reducible apply same_foldl_fst | simp only [same_store r0] | split)

theorem State.readDirect_same {L : Nat} {z s : State} (hL : 750970736730106 &&& L = 750970736730106) (h : Agree L z s) (p : Nat)
    (key : Nat) (n : Nat) :
    Agree L z (State.readDirect s p key n) := by
  have hw : 1125900443730200 &&& L = 1125900443730200 ∨ (({ write := false, index := key / 256, sub := key % 256, len := n, data := [] } : Member).write && ({ write := false, index := key / 256, sub := key % 256, len := n, data := [] } : Member).window) = false := Or.inr rfl
  unfold State.readDirect
  repeat' (first
      | intro _ | with_reducible exact h | with_reducible assumption | with_reducible apply State.direct_same hL
      | with_reducible apply same_ite | with_reducible apply same_foldl | with_reducible apply same_foldl_fst | split)

theorem State.readPortStatus_same {L : Nat} {z s : State} (hL : 536870912 &&& L = 536870912) (h : Agree L z s) (p : Nat) (n : Nat) :
    Agree L z (State.readPortStatus s p n) := by
  unfold State.readPortStatus
  repeat' (first
      | intro _ | with_reducible exact h | with_reducible assumption | with_reducible apply State.shiftOut_same hL
      | with_reducible apply same_ite | with_reducible apply same_foldl | with_reducible apply same_foldl_fst | split)

theorem State.readResponse_same {L : Nat} {z s : State} (hL : 536870912 &&& L = 536870912) (h : Agree L z s) (p : Nat) :
    Agree L z (State.readResponse s p) := by
  unfold State.readResponse
  repeat' (first
      | intro _ | with_reducible exact h | with_reducible assumption | with_reducible apply State.shiftOut_same hL
      | with_reducible apply same_ite | with_reducible apply same_foldl | with_reducible apply same_foldl_fst | split)

theorem State.recallColl_same {L : Nat} {z s : State} (hL : 64 &&& L = 64) (h : Agree L z s)  :
    Agree L z (State.recallColl s) := by
  have r0 : 64 &&& L = 64 := sub_trans rfl hL
  unfold State.recallColl
  repeat' (first
      | intro _ | with_reducible exact h | with_reducible assumption | with_reducible apply same_ite
      | with_reducible apply same_foldl | with_reducible apply same_foldl_fst | simp only [same_coll r0] | split)

theorem State.recallCopy_same {L : Nat} {z s : State} (hL : 64 &&& L = 64) (h : Agree L z s) (p : Nat) (i : Nat) :
    Agree L z (State.recallCopy s p i) := by
  unfold State.recallCopy
  repeat' (first
      | intro _ | with_reducible exact h | with_reducible assumption | with_reducible apply State.raise_same hL
      | with_reducible apply same_ite | with_reducible apply same_foldl | with_reducible apply same_foldl_fst | split)

theorem State.recallPage_same {L : Nat} {z s : State} (hL : 1125899906859352 &&& L = 1125899906859352) (h : Agree L z s) (p : Nat) :
    Agree L z (State.recallPage s p) := by
  have q0 : 1125899906859288 &&& L = 1125899906859288 := sub_trans rfl hL
  have q1 : 64 &&& L = 64 := sub_trans rfl hL
  have q2 : 64 &&& L = 64 := sub_trans rfl hL
  have r0 : 256 &&& L = 256 := sub_trans rfl hL
  unfold State.recallPage
  repeat' (first
      | intro _ | with_reducible exact h | with_reducible assumption | with_reducible apply State.loadPage_same q0
      | with_reducible apply State.recallCopy_same q1 | with_reducible apply State.raise_same q2 | with_reducible apply same_ite
      | with_reducible apply same_foldl | with_reducible apply same_foldl_fst | simp only [same_store r0] | split)

theorem State.recallRing_same {L : Nat} {z s : State} (hL : 4104 &&& L = 4104) (h : Agree L z s)  :
    Agree L z (State.recallRing s) := by
  have q0 : 8 &&& L = 8 := sub_trans rfl hL
  have r0 : 4096 &&& L = 4096 := sub_trans rfl hL
  unfold State.recallRing
  repeat' (first
      | intro _ | with_reducible exact h | with_reducible assumption | with_reducible apply State.setLive_same q0
      | with_reducible apply same_ite | with_reducible apply same_foldl | with_reducible apply same_foldl_fst
      | simp only [same_ring r0] | split)

theorem State.recoverWide_same {L : Nat} {z s : State} (hL : 328 &&& L = 328) (h : Agree L z s) (key : Nat) :
    Agree L z (State.recoverWide s key) := by
  have q0 : 264 &&& L = 264 := sub_trans rfl hL
  have q1 : 264 &&& L = 264 := sub_trans rfl hL
  have q2 : 64 &&& L = 64 := sub_trans rfl hL
  unfold State.recoverWide
  repeat' (first
      | intro _ | with_reducible exact h | with_reducible assumption | with_reducible apply State.wideSet_same q0
      | with_reducible apply State.bump_same q1 | with_reducible apply State.raise_same q2 | with_reducible apply same_ite
      | with_reducible apply same_foldl | with_reducible apply same_foldl_fst | split)

theorem State.storeRecall_same {L : Nat} {z s : State} (hL : 1143492092903800 &&& L = 1143492092903800) (h : Agree L z s)  :
    Agree L z (State.storeRecall s) := by
  have q0 : 64 &&& L = 64 := sub_trans rfl hL
  have q1 : 264 &&& L = 264 := sub_trans rfl hL
  have q2 : 1125899906859352 &&& L = 1125899906859352 := sub_trans rfl hL
  have q3 : 256 &&& L = 256 := sub_trans rfl hL
  have q4 : 8 &&& L = 8 := sub_trans rfl hL
  have q5 : 17592186044728 &&& L = 17592186044728 := sub_trans rfl hL
  have q6 : 264 &&& L = 264 := sub_trans rfl hL
  have q7 : 328 &&& L = 328 := sub_trans rfl hL
  have r0 : 256 &&& L = 256 := sub_trans rfl hL
  unfold State.storeRecall
  repeat' (first
      | intro _ | with_reducible exact h | with_reducible assumption | with_reducible apply State.raise_same q0
      | with_reducible apply State.addCount_same q1 | with_reducible apply State.recallPage_same q2
      | with_reducible apply State.startAutoTimer_same q3 | with_reducible apply State.setLive_same q4
      | with_reducible apply State.reEtch_same q5 | with_reducible apply State.bump_same q6
      | with_reducible apply State.recoverWide_same q7 | with_reducible apply same_ite | with_reducible apply same_foldl
      | with_reducible apply same_foldl_fst | simp only [same_store r0] | split)

theorem mergeCount_same {L : Nat} {z s : State} (hL : 264 &&& L = 264) (h : Agree L z s) (kv : Nat × Nat) :
    Agree L z (mergeCount s kv) := by
  unfold mergeCount
  repeat' (first
      | intro _ | with_reducible exact h | with_reducible assumption | with_reducible apply State.setPers_same hL
      | with_reducible apply same_ite | with_reducible apply same_foldl | with_reducible apply same_foldl_fst | split)

theorem State.recallStore_same {L : Nat} {z s : State} (hL : 1143492092908024 &&& L = 1143492092908024) (h : Agree L z s)  :
    Agree L z (State.recallStore s) := by
  have q0 : 64 &&& L = 64 := sub_trans rfl hL
  have q1 : 264 &&& L = 264 := sub_trans rfl hL
  have q2 : 4104 &&& L = 4104 := sub_trans rfl hL
  have q3 : 8 &&& L = 8 := sub_trans rfl hL
  have q4 : 64 &&& L = 64 := sub_trans rfl hL
  have q5 : 1143492092903800 &&& L = 1143492092903800 := sub_trans rfl hL
  have q6 : 264 &&& L = 264 := sub_trans rfl hL
  have r0 : 8 &&& L = 8 := sub_trans rfl hL
  have r1 : 448 &&& L = 448 := sub_trans rfl hL
  unfold State.recallStore
  repeat' (first
      | intro _ | with_reducible exact h | with_reducible assumption | with_reducible apply State.noteWindow_same q0
      | with_reducible apply State.wideAdd_same q1 | with_reducible apply State.recallRing_same q2
      | with_reducible apply State.setLive_same q3 | with_reducible apply State.recallColl_same q4
      | with_reducible apply State.storeRecall_same q5 | with_reducible apply mergeCount_same q6 | with_reducible apply same_ite
      | with_reducible apply same_foldl | with_reducible apply same_foldl_fst
      | simp only [same_objs r0, same_coll_ledger_store r1] | split)

theorem State.reconcile_same {L : Nat} {z s : State} (hL : 35184372089240 &&& L = 35184372089240) (h : Agree L z s)  :
    Agree L z (State.reconcile s) := by
  have q0 : 264 &&& L = 264 := sub_trans rfl hL
  have r0 : 128 &&& L = 128 := sub_trans rfl hL
  have w0 : 35184372089104 &&& L = 35184372089104 := sub_trans rfl hL
  have w1 : 35184372089104 &&& L = 35184372089104 := sub_trans rfl hL
  unfold State.reconcile
  repeat' (first
      | intro _ | with_reducible exact h | with_reducible assumption | with_reducible apply State.wideSet_same q0
      | with_reducible apply State.powerUpRecs_same hL | with_reducible apply writeRec_same w0
      | with_reducible apply writeBlank_same w1 | with_reducible apply same_ite | with_reducible apply same_foldl
      | with_reducible apply same_foldl_fst | simp only [same_ledger r0] | split)

theorem State.recoveryEnd_same {L : Nat} {z s : State} (hL : 64 &&& L = 64) (h : Agree L z s)  :
    Agree L z (State.recoveryEnd s) := by
  have r0 : 64 &&& L = 64 := sub_trans rfl hL
  unfold State.recoveryEnd
  repeat' (first
      | intro _ | with_reducible exact h | with_reducible assumption | with_reducible apply same_ite
      | with_reducible apply same_foldl | with_reducible apply same_foldl_fst | simp only [same_coll r0] | split)

theorem State.reevalPower_same {L : Nat} {z s : State} (hL : 25166152 &&& L = 25166152) (h : Agree L z s)  :
    Agree L z (State.reevalPower s) := by
  have q0 : 8388608 &&& L = 8388608 := sub_trans rfl hL
  have q1 : 264 &&& L = 264 := sub_trans rfl hL
  have q2 : 25165824 &&& L = 25165824 := sub_trans rfl hL
  have r0 : 16777216 &&& L = 16777216 := sub_trans rfl hL
  unfold State.reevalPower
  repeat' (first
      | intro _ | with_reducible exact h | with_reducible assumption | with_reducible apply State.setSink_same q0
      | with_reducible apply State.bump_same q1 | with_reducible apply State.freePower_same q2
      | with_reducible apply State.servePower_same hL | with_reducible apply same_ite | with_reducible apply same_foldl
      | with_reducible apply same_foldl_fst | simp only [same_gov r0] | split)

theorem State.relayForward_same {L : Nat} {z s0 : State} (hL : 67108864 &&& L = 67108864) (h : Agree L z s0) (cscIn : Bool)
    (holdLine : Bool) (dataLine : Bool) :
    Agree L z (State.relayForward s0 cscIn holdLine dataLine) := by
  have r0 : 67108864 &&& L = 67108864 := sub_trans rfl hL
  unfold State.relayForward
  repeat' (first
      | intro _ | with_reducible exact h | with_reducible assumption | with_reducible apply State.drive_same hL
      | with_reducible apply same_ite | with_reducible apply same_foldl | with_reducible apply same_foldl_fst
      | simp only [same_convoy r0] | split)

theorem State.releaseRetry_same {L : Nat} {z s : State} (hL : 33718600 &&& L = 33718600) (h : Agree L z s) (f : Nat) :
    Agree L z (State.releaseRetry s f) := by
  have q0 : 264 &&& L = 264 := sub_trans rfl hL
  have q2 : 33554432 &&& L = 33554432 := sub_trans rfl hL
  unfold State.releaseRetry
  repeat' (first
      | intro _ | with_reducible exact h | with_reducible assumption | with_reducible apply State.setPers_same q0
      | with_reducible apply State.openFeed_same hL | with_reducible apply State.setFeed_same q2 | with_reducible apply same_ite
      | with_reducible apply same_foldl | with_reducible apply same_foldl_fst | split)

theorem State.replySend_same {L : Nat} {z s : State} (hL : 67108864 &&& L = 67108864) (h : Agree L z s) (won : Bool) :
    Agree L z (State.replySend s won) := by
  have r0 : 67108864 &&& L = 67108864 := sub_trans rfl hL
  unfold State.replySend
  repeat' (first
      | intro _ | with_reducible exact h | with_reducible assumption | with_reducible apply same_ite
      | with_reducible apply same_foldl | with_reducible apply same_foldl_fst | simp only [same_convoy r0] | split)

theorem State.reserveUpdate_same {L : Nat} {z s : State} (hL : 25166152 &&& L = 25166152) (h : Agree L z s)  :
    Agree L z (State.reserveUpdate s) := by
  have q1 : 8 &&& L = 8 := sub_trans rfl hL
  have r0 : 16777216 &&& L = 16777216 := sub_trans rfl hL
  unfold State.reserveUpdate
  repeat' (first
      | intro _ | with_reducible exact h | with_reducible assumption | with_reducible apply State.setReserve_same hL
      | with_reducible apply State.setLive_same q1 | with_reducible apply same_ite | with_reducible apply same_foldl
      | with_reducible apply same_foldl_fst | simp only [same_gov r0] | split)

theorem State.resetLow_same {L : Nat} {z s : State} (hL : 2251456082083838 &&& L = 2251456082083838) (h : Agree L z s)
    (powerLost : Bool) :
    Agree L z (State.resetLow s powerLost) := by
  unfold State.resetLow
  repeat' (first
      | intro _ | with_reducible exact h | with_reducible assumption | with_reducible apply State.goOff_same hL
      | with_reducible apply same_ite | with_reducible apply same_foldl | with_reducible apply same_foldl_fst | split)

theorem State.retryFull_same {L : Nat} {z s : State} (hL : 33718600 &&& L = 33718600) (h : Agree L z s) (f : Nat) :
    Agree L z (State.retryFull s f) := by
  have q1 : 64 &&& L = 64 := sub_trans rfl hL
  unfold State.retryFull
  repeat' (first
      | intro _ | with_reducible exact h | with_reducible assumption | with_reducible apply State.releaseRetry_same hL
      | with_reducible apply State.raiseFeed_same q1 | with_reducible apply same_ite | with_reducible apply same_foldl
      | with_reducible apply same_foldl_fst | split)

theorem State.retryRelease_same {L : Nat} {z s : State} (hL : 33718600 &&& L = 33718600) (h : Agree L z s) (f : Nat) :
    Agree L z (State.retryRelease s f) := by
  unfold State.retryRelease
  repeat' (first
      | intro _ | with_reducible exact h | with_reducible assumption | with_reducible apply State.releaseRetry_same hL
      | with_reducible apply same_ite | with_reducible apply same_foldl | with_reducible apply same_foldl_fst | split)

theorem State.reverseOff_same {L : Nat} {z s : State} (hL : 33718600 &&& L = 33718600) (h : Agree L z s) (f : Nat) :
    Agree L z (State.reverseOff s f) := by
  have q0 : 64 &&& L = 64 := sub_trans rfl hL
  have q2 : 264 &&& L = 264 := sub_trans rfl hL
  have q3 : 64 &&& L = 64 := sub_trans rfl hL
  have q4 : 33554432 &&& L = 33554432 := sub_trans rfl hL
  unfold State.reverseOff
  try dsimp only
  repeat' (first
      | intro _ | with_reducible exact h | with_reducible assumption | with_reducible apply State.unraise_same q0
      | with_reducible apply State.openFeed_same hL | with_reducible apply State.bump_same q2
      | with_reducible apply State.raiseFeed_same q3 | with_reducible apply State.setFeed_same q4 | with_reducible apply same_ite
      | with_reducible apply same_foldl | with_reducible apply same_foldl_fst | split | dsimp only)

theorem State.ringAutoRearm_same {L : Nat} {z s : State} (hL : 4232 &&& L = 4232) (h : Agree L z s)  :
    Agree L z (State.ringAutoRearm s) := by
  unfold State.ringAutoRearm
  repeat' (first
      | intro _ | with_reducible exact h | with_reducible assumption | with_reducible apply State.rearmRing_same hL
      | with_reducible apply same_ite | with_reducible apply same_foldl | with_reducible apply same_foldl_fst | split)

theorem State.ringDelay_same {L : Nat} {z s : State} (hL : 67108936 &&& L = 67108936) (h : Agree L z s) (ticks : Nat) :
    Agree L z (State.ringDelay s ticks) := by
  have q0 : 67108864 &&& L = 67108864 := sub_trans rfl hL
  have q1 : 8 &&& L = 8 := sub_trans rfl hL
  have q2 : 64 &&& L = 64 := sub_trans rfl hL
  unfold State.ringDelay
  repeat' (first
      | intro _ | with_reducible exact h | with_reducible assumption | with_reducible apply State.setLead_same q0
      | with_reducible apply State.setLive_same q1 | with_reducible apply State.raise_same q2 | with_reducible apply same_ite
      | with_reducible apply same_foldl | with_reducible apply same_foldl_fst | split)

theorem State.ringFreeze_same {L : Nat} {z s : State} (hL : 7464 &&& L = 7464) (h : Agree L z s)  :
    Agree L z (State.ringFreeze s) := by
  have q0 : 288 &&& L = 288 := sub_trans rfl hL
  have q1 : 7432 &&& L = 7432 := sub_trans rfl hL
  unfold State.ringFreeze
  repeat' (first
      | intro _ | with_reducible exact h | with_reducible assumption | with_reducible apply State.postEtch_same q0
      | with_reducible apply State.freezeRing_same q1 | with_reducible apply same_ite | with_reducible apply same_foldl
      | with_reducible apply same_foldl_fst | split)

theorem State.ringOpen_same {L : Nat} {z s : State} (hL : 67108928 &&& L = 67108928) (h : Agree L z s)  :
    Agree L z (State.ringOpen s) := by
  have q0 : 67108864 &&& L = 67108864 := sub_trans rfl hL
  have q1 : 64 &&& L = 64 := sub_trans rfl hL
  unfold State.ringOpen
  repeat' (first
      | intro _ | with_reducible exact h | with_reducible assumption | with_reducible apply State.setLead_same q0
      | with_reducible apply State.raise_same q1 | with_reducible apply same_ite | with_reducible apply same_foldl
      | with_reducible apply same_foldl_fst | split)

theorem State.scrubPassed_same {L : Nat} {z s : State} (hL : 264 &&& L = 264) (h : Agree L z s) (pos : Nat) :
    Agree L z (State.scrubPassed s pos) := by
  have r0 : 256 &&& L = 256 := sub_trans rfl hL
  unfold State.scrubPassed
  repeat' (first
      | intro _ | with_reducible exact h | with_reducible assumption | with_reducible apply State.bump_same hL
      | with_reducible apply same_ite | with_reducible apply same_foldl | with_reducible apply same_foldl_fst
      | simp only [same_store r0] | split)

theorem State.scrubStep_same {L : Nat} {z s : State} (hL : 360 &&& L = 360) (h : Agree L z s) (corrected : Nat) (uncorrectable : Bool)
    (group : Nat) :
    Agree L z (State.scrubStep s corrected uncorrectable group) := by
  have q0 : 288 &&& L = 288 := sub_trans rfl hL
  have q1 : 264 &&& L = 264 := sub_trans rfl hL
  have q2 : 320 &&& L = 320 := sub_trans rfl hL
  have q3 : 264 &&& L = 264 := sub_trans rfl hL
  have q4 : 32 &&& L = 32 := sub_trans rfl hL
  have r0 : 256 &&& L = 256 := sub_trans rfl hL
  unfold State.scrubStep
  repeat' (first
      | intro _ | with_reducible exact h | with_reducible assumption | with_reducible apply State.postEtch_same q0
      | with_reducible apply State.scrubPassed_same q1 | with_reducible apply State.correctedOnce_same q2
      | with_reducible apply State.setPers_same q3 | with_reducible apply State.freeLane_same q4 | with_reducible apply same_ite
      | with_reducible apply same_foldl | with_reducible apply same_foldl_fst | simp only [same_store r0] | split)

theorem State.serveAgain_same {L : Nat} {z s : State} (hL : 2684354560 &&& L = 2684354560) (h : Agree L z s) (p : Nat) :
    Agree L z (State.serveAgain s p) := by
  unfold State.serveAgain
  repeat' (first
      | intro _ | with_reducible exact h | with_reducible assumption | with_reducible apply State.deliver_same hL
      | with_reducible apply same_ite | with_reducible apply same_foldl | with_reducible apply same_foldl_fst | split)

theorem State.serve_same {L : Nat} {z s : State} (hL : 1876870643572730 &&& L = 1876870643572730) (h : Agree L z s) (p : Nat)
    (arrived : Nat) (seq : Nat) (bs : List Byte) (ms : List Member) :
    Agree L z (State.serve s p arrived seq bs ms) := by
  have hw : 1125900443730200 &&& L = 1125900443730200 ∨ ∀ m ∈ ms, (m.write && m.window) = false := Or.inl (sub_trans rfl hL)
  have q0 : 2684354560 &&& L = 2684354560 := sub_trans rfl hL
  have q1 : 328 &&& L = 328 := sub_trans rfl hL
  have q2 : 750970736730106 &&& L = 750970736730106 := sub_trans rfl hL
  have q3 : 2684354560 &&& L = 2684354560 := sub_trans rfl hL
  have q4 : 2684354560 &&& L = 2684354560 := sub_trans rfl hL
  unfold State.serve
  repeat' (first
      | intro _ | with_reducible exact h | with_reducible assumption | with_reducible apply State.serveAgain_same q0
      | with_reducible apply State.frameError_same q1 | with_reducible apply State.serveNew_same q2
      | with_reducible apply State.serveNone_same q3 | with_reducible apply State.deliver_same q4 | with_reducible apply same_ite
      | with_reducible apply same_foldl | with_reducible apply same_foldl_fst | split)

theorem State.settleEnd_same {L : Nat} {z s : State} (hL : 2097256 &&& L = 2097256) (h : Agree L z s) (n : Nat) :
    Agree L z (State.settleEnd s n) := by
  have q0 : 8 &&& L = 8 := sub_trans rfl hL
  have q1 : 2097152 &&& L = 2097152 := sub_trans rfl hL
  have q2 : 32 &&& L = 32 := sub_trans rfl hL
  have q3 : 64 &&& L = 64 := sub_trans rfl hL
  unfold State.settleEnd
  repeat' (first
      | intro _ | with_reducible exact h | with_reducible assumption | with_reducible apply State.setLive_same q0
      | with_reducible apply State.setMargin_same q1 | with_reducible apply State.takeRailLane_same q2
      | with_reducible apply State.raise_same q3 | with_reducible apply same_ite | with_reducible apply same_foldl
      | with_reducible apply same_foldl_fst | split)

theorem State.sinkSlewDone_same {L : Nat} {z s : State} (hL : 25166152 &&& L = 25166152) (h : Agree L z s) (n : Nat) :
    Agree L z (State.sinkSlewDone s n) := by
  have q0 : 25165824 &&& L = 25165824 := sub_trans rfl hL
  unfold State.sinkSlewDone
  repeat' (first
      | intro _ | with_reducible exact h | with_reducible assumption | with_reducible apply State.freePower_same q0
      | with_reducible apply State.sinkDone_same hL | with_reducible apply same_ite | with_reducible apply same_foldl
      | with_reducible apply same_foldl_fst | split)

theorem State.sliceSwap_same {L : Nat} {z s : State} (hL : 1064 &&& L = 1064) (h : Agree L z s)  :
    Agree L z (State.sliceSwap s) := by
  unfold State.sliceSwap
  repeat' (first
      | intro _ | with_reducible exact h | with_reducible assumption | with_reducible apply State.swapIn_same hL
      | with_reducible apply same_ite | with_reducible apply same_foldl | with_reducible apply same_foldl_fst | split)

theorem State.trackZero_same {L : Nat} {z s : State} (hL : 1024 &&& L = 1024) (h : Agree L z s) (slc : Nat) (raw : Nat) :
    Agree L z (State.trackZero s slc raw) := by
  unfold State.trackZero
  repeat' (first
      | intro _ | with_reducible exact h | with_reducible assumption | with_reducible apply State.setSlice_same hL
      | with_reducible apply same_ite | with_reducible apply same_foldl | with_reducible apply same_foldl_fst | split)

theorem State.takeResult_same {L : Nat} {z s : State} (hL : 703687441784088 &&& L = 703687441784088) (h : Agree L z s) (raw : Nat) :
    Agree L z (State.takeResult s raw).1 := by
  have q0 : 703687441779992 &&& L = 703687441779992 := sub_trans rfl hL
  have q1 : 562949953421584 &&& L = 562949953421584 := sub_trans rfl hL
  have q2 : 562949953422616 &&& L = 562949953422616 := sub_trans rfl hL
  have q3 : 703687441779992 &&& L = 703687441779992 := sub_trans rfl hL
  have q4 : 1024 &&& L = 1024 := sub_trans rfl hL
  have q5 : 562949953425680 &&& L = 562949953425680 := sub_trans rfl hL
  have r0 : 3072 &&& L = 3072 := sub_trans rfl hL
  unfold State.takeResult
  repeat' (first
      | intro _ | with_reducible exact h | with_reducible assumption | with_reducible apply State.oldSample_same q0
      | with_reducible apply State.ringStore_same q1 | with_reducible apply State.storeResult_same q2
      | with_reducible apply State.presentSample_same q3 | with_reducible apply State.trackZero_same q4
      | with_reducible apply State.finishRingPages_same q5 | with_reducible apply same_ite | with_reducible apply same_foldl
      | with_reducible apply same_foldl_fst | simp only [same_conv_cap r0] | split)

theorem State.slotResult_same {L : Nat} {z s : State} (hL : 703687505812856 &&& L = 703687505812856) (h : Agree L z s) (raw : Nat) :
    Agree L z (State.slotResult s raw) := by
  have q0 : 59835752 &&& L = 59835752 := sub_trans rfl hL
  have q1 : 703687441784088 &&& L = 703687441784088 := sub_trans rfl hL
  have q2 : 29362536 &&& L = 29362536 := sub_trans rfl hL
  unfold State.slotResult
  try dsimp only
  repeat' (first
      | intro _ | with_reducible exact h | with_reducible assumption | with_reducible apply State.deliverResult_same q0
      | with_reducible apply State.takeResult_same q1 | with_reducible apply State.guardSamples_same q2
      | with_reducible apply same_ite | with_reducible apply same_foldl | with_reducible apply same_foldl_fst | split
      | dsimp only)

theorem State.soaTimeout_same {L : Nat} {z s : State} (hL : 33718632 &&& L = 33718632) (h : Agree L z s) (f : Nat) :
    Agree L z (State.soaTimeout s f) := by
  unfold State.soaTimeout
  repeat' (first
      | intro _ | with_reducible exact h | with_reducible assumption | with_reducible apply State.tripFeed_same hL
      | with_reducible apply same_ite | with_reducible apply same_foldl | with_reducible apply same_foldl_fst | split)

theorem State.soloBeat_same {L : Nat} {z s : State} (hL : 52776932414846 &&& L = 52776932414846) (h : Agree L z s)  :
    Agree L z (State.soloBeat s) := by
  have q0 : 67108872 &&& L = 67108872 := sub_trans rfl hL
  have q1 : 52776932414844 &&& L = 52776932414844 := sub_trans rfl hL
  have q2 : 10 &&& L = 10 := sub_trans rfl hL
  unfold State.soloBeat
  repeat' (first
      | intro _ | with_reducible exact h | with_reducible assumption | with_reducible apply State.takeSettings_same q0
      | with_reducible apply State.soloStep_same q1 | with_reducible apply State.joined_same q2 | with_reducible apply same_ite
      | with_reducible apply same_foldl | with_reducible apply same_foldl_fst | split)

theorem State.sourceOut_same {L : Nat} {z s : State} (hL : 33718600 &&& L = 33718600) (h : Agree L z s) (f : Nat) (kind : Nat)
    (since : Option Nat) (span : Nat) :
    Agree L z (State.sourceOut s f kind since span) := by
  have q0 : 64 &&& L = 64 := sub_trans rfl hL
  unfold State.sourceOut
  repeat' (first
      | intro _ | with_reducible exact h | with_reducible assumption | with_reducible apply State.raiseFeed_same q0
      | with_reducible apply State.openFeed_same hL | with_reducible apply same_ite | with_reducible apply same_foldl
      | with_reducible apply same_foldl_fst | split)

theorem State.spuriousEdge_same {L : Nat} {z s : State} (hL : 72 &&& L = 72) (h : Agree L z s)  :
    Agree L z (State.spuriousEdge s) := by
  have q0 : 8 &&& L = 8 := sub_trans rfl hL
  have q1 : 64 &&& L = 64 := sub_trans rfl hL
  unfold State.spuriousEdge
  repeat' (first
      | intro _ | with_reducible exact h | with_reducible assumption | with_reducible apply State.bumpLive_same q0
      | with_reducible apply State.raise_same q1 | with_reducible apply same_ite | with_reducible apply same_foldl
      | with_reducible apply same_foldl_fst | split)

theorem State.startSpanEnd_same {L : Nat} {z s : State} (hL : 64 &&& L = 64) (h : Agree L z s)  :
    Agree L z (State.startSpanEnd s) := by
  have r0 : 64 &&& L = 64 := sub_trans rfl hL
  unfold State.startSpanEnd
  repeat' (first
      | intro _ | with_reducible exact h | with_reducible assumption | with_reducible apply same_ite
      | with_reducible apply same_foldl | with_reducible apply same_foldl_fst | simp only [same_coll r0] | split)

theorem State.stepStart_same {L : Nat} {z s : State} (hL : 458856 &&& L = 458856) (h : Agree L z s)  :
    Agree L z (State.stepStart s) := by
  have q0 : 327712 &&& L = 327712 := sub_trans rfl hL
  have q1 : 65608 &&& L = 65608 := sub_trans rfl hL
  have q2 : 131080 &&& L = 131080 := sub_trans rfl hL
  have r0 : 131072 &&& L = 131072 := sub_trans rfl hL
  unfold State.stepStart
  repeat' (first
      | intro _ | with_reducible exact h | with_reducible assumption | with_reducible apply State.railSlot_same q0
      | with_reducible apply State.postOnSlot_same q1 | with_reducible apply State.showAnchor_same q2
      | with_reducible apply same_ite | with_reducible apply same_foldl | with_reducible apply same_foldl_fst
      | simp only [same_seq r0] | split)

theorem State.stipFail_same {L : Nat} {z s : State} (hL : 29360488 &&& L = 29360488) (h : Agree L z s) (n : Nat) (reason : Nat) :
    Agree L z (State.stipFail s n reason) := by
  have q0 : 25165856 &&& L = 25165856 := sub_trans rfl hL
  have q1 : 4194632 &&& L = 4194632 := sub_trans rfl hL
  unfold State.stipFail
  repeat' (first
      | intro _ | with_reducible exact h | with_reducible assumption | with_reducible apply State.stipWithdraw_same q0
      | with_reducible apply State.stipEnd_same q1 | with_reducible apply same_ite | with_reducible apply same_foldl
      | with_reducible apply same_foldl_fst | split)

theorem State.stipScheduled_same {L : Nat} {z s : State} (hL : 29360488 &&& L = 29360488) (h : Agree L z s) (n : Nat) :
    Agree L z (State.stipScheduled s n) := by
  have q0 : 4194304 &&& L = 4194304 := sub_trans rfl hL
  have q1 : 32 &&& L = 32 := sub_trans rfl hL
  unfold State.stipScheduled
  repeat' (first
      | intro _ | with_reducible exact h | with_reducible assumption | with_reducible apply State.setStip_same q0
      | with_reducible apply State.postLane_same q1 | with_reducible apply State.stipFail_same hL | with_reducible apply same_ite
      | with_reducible apply same_foldl | with_reducible apply same_foldl_fst | split)

theorem State.suppliesGood_same {L : Nat} {z s : State} (hL : 30064771074 &&& L = 30064771074) (h : Agree L z s)  :
    Agree L z (State.suppliesGood s) := by
  have r0 : 4294967296 &&& L = 4294967296 := sub_trans rfl hL
  have r1 : 30064771074 &&& L = 30064771074 := sub_trans rfl hL
  unfold State.suppliesGood
  repeat' (first
      | intro _ | with_reducible exact h | with_reducible assumption | with_reducible apply same_ite
      | with_reducible apply same_foldl | with_reducible apply same_foldl_fst
      | simp only [same_supplies r0, same_phase_supplies_vioClass_startClk r1] | split)

theorem State.tollOffer_same {L : Nat} {z s : State} (hL : 67108864 &&& L = 67108864) (h : Agree L z s) (w : BitVec 80) :
    Agree L z (State.tollOffer s w) := by
  unfold State.tollOffer
  repeat' (first
      | intro _ | with_reducible exact h | with_reducible assumption | with_reducible apply State.setLead_same hL
      | with_reducible apply State.pairTolls_same hL | with_reducible apply same_ite | with_reducible apply same_foldl
      | with_reducible apply same_foldl_fst | split)

theorem State.tollRequest_same {L : Nat} {z s : State} (hL : 67108864 &&& L = 67108864) (h : Agree L z s) (w : BitVec 80) :
    Agree L z (State.tollRequest s w) := by
  unfold State.tollRequest
  repeat' (first
      | intro _ | with_reducible exact h | with_reducible assumption | with_reducible apply State.setLead_same hL
      | with_reducible apply State.pairTolls_same hL | with_reducible apply same_ite | with_reducible apply same_foldl
      | with_reducible apply same_foldl_fst | split)

theorem State.transaction_same {L : Nat} {z s : State} (hL : 1876870643572730 &&& L = 1876870643572730) (h : Agree L z s) (p : Nat) :
    Agree L z (State.transaction s p) := by
  have q1 : 2684354888 &&& L = 2684354888 := sub_trans rfl hL
  have q2 : 1073742088 &&& L = 1073742088 := sub_trans rfl hL
  unfold State.transaction
  repeat' (first
      | intro _ | with_reducible exact h | with_reducible assumption | with_reducible apply State.serve_same hL
      | with_reducible apply State.malformed_same q1 | with_reducible apply State.wake_same q2 | with_reducible apply same_ite
      | with_reducible apply same_foldl | with_reducible apply same_foldl_fst | split)

theorem State.trialTimeEnd_same {L : Nat} {z s : State} (hL : 134218568 &&& L = 134218568) (h : Agree L z s)  :
    Agree L z (State.trialTimeEnd s) := by
  unfold State.trialTimeEnd
  repeat' (first
      | intro _ | with_reducible exact h | with_reducible assumption | with_reducible apply State.trialFail_same hL
      | with_reducible apply same_ite | with_reducible apply same_foldl | with_reducible apply same_foldl_fst | split)

theorem State.tripRunReset_same {L : Nat} {z s : State} (hL : 33554696 &&& L = 33554696) (h : Agree L z s) (f : Nat) :
    Agree L z (State.tripRunReset s f) := by
  have q0 : 264 &&& L = 264 := sub_trans rfl hL
  have q1 : 33554432 &&& L = 33554432 := sub_trans rfl hL
  unfold State.tripRunReset
  repeat' (first
      | intro _ | with_reducible exact h | with_reducible assumption | with_reducible apply State.setPers_same q0
      | with_reducible apply State.setFeed_same q1 | with_reducible apply same_ite | with_reducible apply same_foldl
      | with_reducible apply same_foldl_fst | split)

theorem State.vauxReturn_same {L : Nat} {z s : State} (hL : 32768 &&& L = 32768) (h : Agree L z s)  :
    Agree L z (State.vauxReturn s) := by
  have r0 : 32768 &&& L = 32768 := sub_trans rfl hL
  unfold State.vauxReturn
  repeat' (first
      | intro _ | with_reducible exact h | with_reducible assumption | with_reducible apply same_ite
      | with_reducible apply same_foldl | with_reducible apply same_foldl_fst | simp only [same_input r0] | split)

theorem State.vauxBack_same {L : Nat} {z s : State} (hL : 2251456082083838 &&& L = 2251456082083838) (h : Agree L z s)  :
    Agree L z (State.vauxBack s) := by
  have q1 : 32768 &&& L = 32768 := sub_trans rfl hL
  unfold State.vauxBack
  repeat' (first
      | intro _ | with_reducible exact h | with_reducible assumption | with_reducible apply State.goOff_same hL
      | with_reducible apply State.vauxReturn_same q1 | with_reducible apply same_ite | with_reducible apply same_foldl
      | with_reducible apply same_foldl_fst | split)

theorem State.verifyDone_same {L : Nat} {z s : State} (hL : 268435528 &&& L = 268435528) (h : Agree L z s)  :
    Agree L z (State.verifyDone s) := by
  have q1 : 268435456 &&& L = 268435456 := sub_trans rfl hL
  unfold State.verifyDone
  repeat' (first
      | intro _ | with_reducible exact h | with_reducible assumption | with_reducible apply State.updFail_same hL
      | with_reducible apply State.setUpd_same q1 | with_reducible apply same_ite | with_reducible apply same_foldl
      | with_reducible apply same_foldl_fst | split)

theorem State.vioLoss_same {L : Nat} {z s : State} (hL : 2251730959990782 &&& L = 2251730959990782) (h : Agree L z s)  :
    Agree L z (State.vioLoss s) := by
  have q0 : 67108864 &&& L = 67108864 := sub_trans rfl hL
  have q1 : 65536 &&& L = 65536 := sub_trans rfl hL
  have q2 : 2251456082083838 &&& L = 2251456082083838 := sub_trans rfl hL
  have r0 : 279240114176 &&& L = 279240114176 := sub_trans rfl hL
  unfold State.vioLoss
  repeat' (first
      | intro _ | with_reducible exact h | with_reducible assumption | with_reducible apply State.releasePins_same q0
      | with_reducible apply State.setRail_same q1 | with_reducible apply State.goOff_same q2 | with_reducible apply same_ite
      | with_reducible apply same_foldl | with_reducible apply same_foldl_fst | simp only [same_seq_convoy_supplies_freezeLow r0]
      | split)

theorem State.waitMaxEnd_same {L : Nat} {z s : State} (hL : 29360488 &&& L = 29360488) (h : Agree L z s) (n : Nat) :
    Agree L z (State.waitMaxEnd s n) := by
  unfold State.waitMaxEnd
  repeat' (first
      | intro _ | with_reducible exact h | with_reducible assumption | with_reducible apply State.stipFail_same hL
      | with_reducible apply same_ite | with_reducible apply same_foldl | with_reducible apply same_foldl_fst | split)

theorem State.wayRequestReply_same {L : Nat} {z s : State} (hL : 67108864 &&& L = 67108864) (h : Agree L z s) (w : BitVec 80) :
    Agree L z (State.wayRequestReply s w) := by
  unfold State.wayRequestReply
  repeat' (first
      | intro _ | with_reducible exact h | with_reducible assumption | with_reducible apply State.setLead_same hL
      | with_reducible apply same_ite | with_reducible apply same_foldl | with_reducible apply same_foldl_fst | split)

theorem State.writeObj_same {L : Nat} {z s : State} (hL : 750970736730106 &&& L = 750970736730106) (h : Agree L z s) (p : Nat)
    (key : Nat) (v : Nat)
    (hw : 1125900443730200 &&& L = 1125900443730200 ∨ key ≠ K.DP_WINDOW) :
    Agree L z (State.writeObj s p key v) := by
  unfold State.writeObj
  refine State.direct_same hL h _ _ (hw.imp_right (fun e => ?_))
  have k : ∀ b : List Byte, Member.key { write := true, index := key / 256, sub := key % 256, len := 0, data := b } = key := by
    intro b
    simp only [Member.key, objKey]
    omega
  simp only [Member.window, k, Bool.true_and, beq_eq_false_iff_ne]
  exact e

theorem State.writeRequest_same {L : Nat} {z s : State} (hL : 536871240 &&& L = 536871240) (h : Agree L z s) (p : Nat) (bs : List Byte) :
    Agree L z (State.writeRequest s p bs) := by
  have q1 : 536870912 &&& L = 536870912 := sub_trans rfl hL
  unfold State.writeRequest
  repeat' (first
      | intro _ | with_reducible exact h | with_reducible assumption | with_reducible apply State.discard_same hL
      | with_reducible apply State.accept_same q1 | with_reducible apply same_ite | with_reducible apply same_foldl
      | with_reducible apply same_foldl_fst | split)

theorem State.xferClose_same {L : Nat} {z s0 : State} (hL : 67109128 &&& L = 67109128) (h : Agree L z s0)  :
    Agree L z (State.xferClose s0) := by
  have q0 : 67108864 &&& L = 67108864 := sub_trans rfl hL
  have q1 : 264 &&& L = 264 := sub_trans rfl hL
  have q2 : 264 &&& L = 264 := sub_trans rfl hL
  have r0 : 67108864 &&& L = 67108864 := sub_trans rfl hL
  unfold State.xferClose
  repeat' (first
      | intro _ | with_reducible exact h | with_reducible assumption | with_reducible apply State.closeMsg_same q0
      | with_reducible apply State.bump_same q1 | with_reducible apply State.setPers_same q2 | with_reducible apply same_ite
      | with_reducible apply same_foldl | with_reducible apply same_foldl_fst | simp only [same_convoy r0] | split)

theorem State.xferDeliver_same {L : Nat} {z s0 : State} (hL : 67109128 &&& L = 67109128) (h : Agree L z s0)  :
    Agree L z (State.xferDeliver s0) := by
  have q0 : 67108864 &&& L = 67108864 := sub_trans rfl hL
  have q1 : 8 &&& L = 8 := sub_trans rfl hL
  have q2 : 264 &&& L = 264 := sub_trans rfl hL
  have q3 : 264 &&& L = 264 := sub_trans rfl hL
  have r0 : 67108864 &&& L = 67108864 := sub_trans rfl hL
  unfold State.xferDeliver
  repeat' (first
      | intro _ | with_reducible exact h | with_reducible assumption | with_reducible apply State.closeMsg_same q0
      | with_reducible apply State.setLive_same q1 | with_reducible apply State.bump_same q2
      | with_reducible apply State.setPers_same q3 | with_reducible apply same_ite | with_reducible apply same_foldl
      | with_reducible apply same_foldl_fst | simp only [same_convoy r0] | split)

theorem State.xferPropose_same {L : Nat} {z s0 : State} (hL : 67109128 &&& L = 67109128) (h : Agree L z s0)  :
    Agree L z (State.xferPropose s0) := by
  have q0 : 67108864 &&& L = 67108864 := sub_trans rfl hL
  have q1 : 8 &&& L = 8 := sub_trans rfl hL
  have q2 : 264 &&& L = 264 := sub_trans rfl hL
  have r0 : 67108864 &&& L = 67108864 := sub_trans rfl hL
  unfold State.xferPropose
  repeat' (first
      | intro _ | with_reducible exact h | with_reducible assumption | with_reducible apply State.closeMsg_same q0
      | with_reducible apply State.setLive_same q1 | with_reducible apply State.setPers_same q2 | with_reducible apply same_ite
      | with_reducible apply same_foldl | with_reducible apply same_foldl_fst | simp only [same_convoy r0] | split)

theorem State.xferReceived_same {L : Nat} {z s : State} (hL : 67108864 &&& L = 67108864) (h : Agree L z s) (w : BitVec 80) :
    Agree L z (State.xferReceived s w) := by
  unfold State.xferReceived
  repeat' (first
      | intro _ | with_reducible exact h | with_reducible assumption | with_reducible apply State.setLead_same hL
      | with_reducible apply same_ite | with_reducible apply same_foldl | with_reducible apply same_foldl_fst | split)

theorem State.xferResend_same {L : Nat} {z s : State} (hL : 67108864 &&& L = 67108864) (h : Agree L z s)  :
    Agree L z (State.xferResend s) := by
  have r0 : 67108864 &&& L = 67108864 := sub_trans rfl hL
  unfold State.xferResend
  repeat' (first
      | intro _ | with_reducible exact h | with_reducible assumption | with_reducible apply same_ite
      | with_reducible apply same_foldl | with_reducible apply same_foldl_fst | simp only [same_convoy r0] | split)

theorem State.xferSent_same {L : Nat} {z s : State} (hL : 67108864 &&& L = 67108864) (h : Agree L z s) (w : BitVec 80) :
    Agree L z (State.xferSent s w) := by
  unfold State.xferSent
  repeat' (first
      | intro _ | with_reducible exact h | with_reducible assumption | with_reducible apply State.setLead_same hL
      | with_reducible apply same_ite | with_reducible apply same_foldl | with_reducible apply same_foldl_fst | split)

end Sys2Proof.Machine
end

