-- ==== Sys2Proof/Laws/Spine.lean ====
section
/-! SUPPORT. The spine of a state, and what every command keeps of it. -/

namespace Sys2Proof.Machine

/-- What whole-machine rules look at: the waiting commands, the filter clock, working memory, the recorded beat edges, the shared
lanes and the hand-overs. -/
structure Spine where
  pending : List Instr
  filterClk : Nat
  mem : List Host.Cell
  edges : List (Count × Int)
  shared : FMap LaneOp
  handovers : List Handover

/-- The spine of a state. -/
def State.spine (s : State) : Spine := ⟨s.pending, s.filterClk, s.mem, s.fab.edges, s.lanes.shared, s.lanes.handovers⟩

/-- What every command keeps, from spine a to spine b: the waiting commands and the filter clock stand; memory stays canonical; at most
1,024 beat edges are recorded (R13); the shared lanes stay legal. -/
structure Kept (a b : Spine) : Prop where
  pending : b.pending = a.pending
  filterClk : b.filterClk = a.filterClk
  mem : Memory.wf a.mem = true → Memory.wf b.mem = true
  edges : a.edges.length ≤ 1024 → b.edges.length ≤ 1024
  lanes : lanesOk a.shared a.handovers → lanesOk b.shared b.handovers

theorem Kept.refl (a : Spine) : Kept a a := ⟨rfl, rfl, id, id, id⟩
/-- The spine of a record update. -/
theorem spine_mk (pending : List Instr) (phase : StartPhase) (fab : Fabric) (objs : FMap Nat) (mem : List Host.Cell) (lanes : Lanes) (coll : Coll) (ledger : Ledger) (store : Store) (cores : Cores) (conv : Conv) (cap : Capture) (ring : Ring) (activeArea : Nat) (otherArea : FMap Nat) (input : CardInput) (rails : FMap Rail) (seq : Seq) (pmb : Pmb) (railWins : List RailWindow) (live : FMap Live) (margins : FMap Margin) (stips : FMap Stip) (sinks : FMap Sink) (gov : Gov) (feeds : FMap Feed) (convoy : Convoy) (loader : Loader) (upd : Upd) (hosts : Hosts) (power : PowerState) (dwellFrom : Option Nat) (supplies : Bool) (vioClass : Option Bool) (startClk : Nat) (resetCause : Nat) (filterClk : Nat) (frozen : Option Nat) (freezeLow : Bool) (frz : Freeze) (ticked : Bool) :
    (State.mk pending phase fab objs mem lanes coll ledger store cores conv cap ring activeArea otherArea input rails seq pmb railWins live margins stips sinks gov feeds convoy loader upd hosts power dwellFrom supplies vioClass startClk resetCause filterClk frozen freezeLow frz ticked).spine = ⟨pending, filterClk, mem, fab.edges, lanes.shared, lanes.handovers⟩ := Eq.symm (Eq.symm rfl)

theorem spine_fold (s : State) :
    (⟨s.pending, s.filterClk, s.mem, s.fab.edges, s.lanes.shared, s.lanes.handovers⟩ : Spine) = s.spine := Eq.symm (Eq.symm rfl)

theorem kept_ite {a : Spine} {c : Prop} [Decidable c] {x y : State} (hx : Kept a x.spine) (hy : Kept a y.spine) :
    Kept a (if c then x else y).spine := by split <;> assumption

theorem kept_foldl {α : Type} (f : State → α → State) (l : List α) {a : Spine} {s : State} (h : Kept a s.spine)
    (hf : ∀ (t : State) (x : α), Kept a t.spine → Kept a (f t x).spine) : Kept a (l.foldl f s).spine := by
  induction l generalizing s with
  | nil => exact h
  | cons x r ih => exact ih (hf _ _ h)

theorem kept_foldl_fst {α β : Type} (f : State × β → α → State × β) (l : List α) {a : Spine} {s : State × β} (h : Kept a s.1.spine)
    (hf : ∀ (t : State × β) (x : α), Kept a t.1.spine → Kept a (f t x).1.spine) : Kept a (l.foldl f s).1.spine := by
  induction l generalizing s with
  | nil => exact h
  | cons x r ih => exact ih (hf _ _ h)

theorem leastBy_mem {α : Type} {lt : α → α → Bool} {l : List α} {x : α} (h : leastBy lt l = some x) : x ∈ l := by
  cases l with
  | nil => simp [leastBy] at h
  | cons a r =>
    have key : ∀ (r : List α) (a : α), r.foldl (fun best x => if lt x best then x else best) a ∈ a :: r := by
      intro r
      induction r with
      | nil => intro a; exact List.mem_cons_self
      | cons b t ih =>
        intro a
        simp only [List.foldl_cons]
        by_cases hb : lt b a = true
        · rw [if_pos hb]
          exact List.mem_cons_of_mem _ (ih b)
        · rw [if_neg hb]
          rcases List.mem_cons.1 (ih a) with h | h
          · rw [h]
            exact List.mem_cons_self
          · exact List.mem_cons_of_mem _ (List.mem_cons_of_mem _ h)
    rw [← Option.some.inj h]
    exact key r a

theorem victim_range {z : Spine} {s : State} (h : Kept z s.spine) {ok : LaneOp → Bool} {v : Nat × LaneOp} (hv : s.victim ok = some v)
    (hz : lanesOk z.shared z.handovers) : 64 ≤ v.1 ∧ v.1 < 128 :=
  (h.lanes hz).2.1 v (List.mem_filter.1 (leastBy_mem hv)).1

theorem lowestFree_range {l : Lanes} {n : Nat} (h : l.lowestFree = some n) : 64 ≤ n ∧ n < 128 := by
  have hm := List.mem_of_find?_eq_some h
  simp only [sharedLanes, List.mem_map, List.mem_range] at hm
  omega

theorem kept_lanes {z : Spine} {s : State} (h : Kept z s.spine) (l : Lanes)
    (hl : lanesOk s.lanes.shared s.lanes.handovers → lanesOk l.shared l.handovers) : Kept z ({ s with lanes := l }).spine :=
  ⟨h.1, h.2, h.3, h.4, fun a => hl (h.5 a)⟩

end Sys2Proof.Machine
end

