-- ==== Sys2Proof/Laws/Kept1.lean ====
section
/-! SUPPORT. What every operation keeps of the spine (part 1 of 7): one lemma for each operation on the state. -/

set_option linter.unusedSimpArgs false

namespace Sys2Proof.Machine

theorem State.freeLane_kept {z : Spine} {s : State} (h : Kept z s.spine) (lane : Nat) :
    Kept z (State.freeLane s lane).spine := by
  exact ⟨h.1, h.2, h.3, h.4, fun a => have b := h.5 a;
    ⟨FMap.sorted_fdel b.1 _, fun p hp => b.2.1 p (mem_fdel hp), b.2.2⟩⟩

theorem State.freeLaneOf_kept {z : Spine} {s : State} (h : Kept z s.spine) (kind : LaneKind) (ref : Nat) :
    Kept z (State.freeLaneOf s kind ref).spine := by
  unfold State.freeLaneOf
  have key : ∀ t : State, Kept z t.spine → Kept z ({ t with lanes := { t.lanes with
      queue := t.lanes.queue.filter (fun r => !(r.kind == kind && r.ref == ref)),
      handovers := t.lanes.handovers.filter (fun h => !(h.req.kind == kind && h.req.ref == ref)) } }).spine :=
    fun t h => ⟨h.1, h.2, h.3, h.4, fun a => have b := h.5 a;
      ⟨b.1, b.2.1, fun p hp => b.2.2 p ((List.mem_filter.1 hp).1)⟩⟩
  apply key
  split
  · exact State.freeLane_kept h _
  · exact h

theorem State.withdrawCapture_kept {z : Spine} {s : State} (h : Kept z s.spine)  :
    Kept z (State.withdrawCapture s).spine := by
  unfold State.withdrawCapture
  repeat' (first
      | intro _ | with_reducible exact h | with_reducible assumption | with_reducible apply State.freeLaneOf_kept
      | with_reducible apply kept_ite | with_reducible apply kept_foldl | with_reducible apply kept_foldl_fst
      | simp only [spine_mk, spine_fold] | split)

theorem State.setLive_kept {z : Spine} {s : State} (h : Kept z s.spine) (key : Nat) (v : Nat) :
    Kept z (State.setLive s key v).spine := by
  unfold State.setLive
  repeat' (first
      | intro _ | with_reducible exact h | with_reducible assumption | with_reducible apply kept_ite
      | with_reducible apply kept_foldl | with_reducible apply kept_foldl_fst | simp only [spine_mk, spine_fold] | split)

theorem State.endCapture_kept {z : Spine} {s : State} (h : Kept z s.spine) (flags : Nat) :
    Kept z (State.endCapture s flags).spine := by
  unfold State.endCapture
  repeat' (first
      | intro _ | with_reducible exact h | with_reducible assumption | with_reducible apply State.setLive_kept
      | with_reducible apply State.freeLaneOf_kept | with_reducible apply kept_ite | with_reducible apply kept_foldl
      | with_reducible apply kept_foldl_fst | simp only [spine_mk, spine_fold] | split)

theorem State.abortCapture_kept {z : Spine} {s : State} (h : Kept z s.spine)  :
    Kept z (State.abortCapture s).spine := by
  unfold State.abortCapture
  repeat' (first
      | intro _ | with_reducible exact h | with_reducible assumption | with_reducible apply State.withdrawCapture_kept
      | with_reducible apply State.endCapture_kept | with_reducible apply kept_ite | with_reducible apply kept_foldl
      | with_reducible apply kept_foldl_fst | simp only [spine_mk, spine_fold] | split)

theorem State.stopEtch_kept {z : Spine} {s : State} (h : Kept z s.spine) (vhu : Bool) :
    Kept z (State.stopEtch s vhu).spine := by
  unfold State.stopEtch
  repeat' (first
      | intro _ | with_reducible exact h | with_reducible assumption | with_reducible apply State.freeLane_kept
      | with_reducible apply kept_ite | with_reducible apply kept_foldl | with_reducible apply kept_foldl_fst
      | simp only [spine_mk, spine_fold] | split)

theorem State.raiseAt_kept {z : Spine} {s : State} (h : Kept z s.spine) (src : Nat) (kind : Nat) (addr : Nat) (st : Stamp) :
    Kept z (State.raiseAt s src kind addr st).spine := by
  unfold State.raiseAt
  repeat' (first
      | intro _ | with_reducible exact h | with_reducible assumption | with_reducible apply kept_ite
      | with_reducible apply kept_foldl | with_reducible apply kept_foldl_fst | simp only [spine_mk, spine_fold] | split)

theorem State.raise_kept {z : Spine} {s : State} (h : Kept z s.spine) (src : Nat) (kind : Nat) (addr : Nat) :
    Kept z (State.raise s src kind addr).spine := by
  unfold State.raise
  repeat' (first
      | intro _ | with_reducible exact h | with_reducible assumption | with_reducible apply State.raiseAt_kept
      | with_reducible apply kept_ite | with_reducible apply kept_foldl | with_reducible apply kept_foldl_fst
      | simp only [spine_mk, spine_fold] | split)

theorem State.setPers_kept {z : Spine} {s : State} (h : Kept z s.spine) (key : Nat) (v : Nat) :
    Kept z (State.setPers s key v).spine := by
  unfold State.setPers
  repeat' (first
      | intro _ | with_reducible exact h | with_reducible assumption | with_reducible apply kept_ite
      | with_reducible apply kept_foldl | with_reducible apply kept_foldl_fst | simp only [spine_mk, spine_fold] | split)

theorem State.bump_kept {z : Spine} {s : State} (h : Kept z s.spine) (key : Nat) :
    Kept z (State.bump s key).spine := by
  unfold State.bump
  repeat' (first
      | intro _ | with_reducible exact h | with_reducible assumption | with_reducible apply State.setPers_kept
      | with_reducible apply kept_ite | with_reducible apply kept_foldl | with_reducible apply kept_foldl_fst
      | simp only [spine_mk, spine_fold] | split)

theorem State.postLane_kept {z : Spine} {s : State} (h : Kept z s.spine) (kind : LaneKind) (base : Nat) (target : Nat) (ref : Nat)
    (mask : Nat) (pages : List Nat) :
    Kept z (State.postLane s kind base target ref mask pages).spine := by
  unfold State.postLane
  repeat' (first
      | intro _ | with_reducible exact h | with_reducible assumption | with_reducible apply kept_ite
      | with_reducible apply kept_foldl | with_reducible apply kept_foldl_fst | simp only [spine_mk, spine_fold] | split)

theorem State.mergeEtch_kept {z : Spine} {s : State} (h : Kept z s.spine) (cause : Nat) (mask : Nat) (pages : List Nat) :
    ∀ t, State.mergeEtch s cause mask pages = some t → Kept z t.spine := by
  intro t ht
  unfold State.mergeEtch at ht
  split at ht
  · rw [← Option.some.inj ht]
    refine kept_lanes h _ (fun b => ⟨b.1, b.2.1, fun p hp => ?_⟩)
    obtain ⟨q, hq, rfl⟩ := List.mem_map.1 hp
    exact b.2.2 q hq
  · split at ht
    · rw [← Option.some.inj ht, spine_mk, spine_fold]
      exact h
    · contradiction

theorem State.postEtch_kept {z : Spine} {s : State} (h : Kept z s.spine) (cause : Nat) (mask : Nat) (pages : List Nat) :
    Kept z (State.postEtch s cause mask pages).spine := by
  unfold State.postEtch
  have h1 : Kept z ((s.mergeEtch cause mask pages).getD (s.postLane .etch (etchLevel cause) 0x60 cause mask pages)).spine := by
    cases hm : s.mergeEtch cause mask pages with
    | none => exact State.postLane_kept h _ _ _ _ _ _
    | some t => exact State.mergeEtch_kept h _ _ _ t hm
  dsimp only
  split
  · exact kept_ite (State.stopEtch_kept h1 _) h1
  · exact h1

theorem State.postFollowOn_kept {z : Spine} {s : State} (h : Kept z s.spine) (cause : Nat) :
    Kept z (State.postFollowOn s cause).spine := by
  unfold State.postFollowOn
  repeat' (first
      | intro _ | with_reducible exact h | with_reducible assumption | with_reducible apply State.postEtch_kept
      | with_reducible apply kept_ite | with_reducible apply kept_foldl | with_reducible apply kept_foldl_fst
      | simp only [spine_mk, spine_fold] | split)

theorem State.admitEtch_kept {z : Spine} {s : State} (h : Kept z s.spine) (w : EtchWait) :
    Kept z (State.admitEtch s w).spine := by
  unfold State.admitEtch
  repeat' (first
      | intro _ | with_reducible exact h | with_reducible assumption | with_reducible apply State.raise_kept
      | with_reducible apply State.setLive_kept | with_reducible apply State.bump_kept | with_reducible apply State.setPers_kept
      | with_reducible apply State.postFollowOn_kept | with_reducible apply State.freeLane_kept | with_reducible apply kept_ite
      | with_reducible apply kept_foldl | with_reducible apply kept_foldl_fst | simp only [spine_mk, spine_fold] | split)

theorem State.admitNext_kept {z : Spine} {s : State} (h : Kept z s.spine) (fuel : Nat) :
    Kept z (State.admitNext fuel s).spine := by
  induction fuel generalizing s with
  | zero =>
    unfold State.admitNext
    exact h
  | succ f ih =>
    unfold State.admitNext
    repeat' (first
        | intro _ | simp only [spine_mk, spine_fold] | with_reducible exact h | with_reducible assumption
        | with_reducible apply ih | with_reducible apply State.admitEtch_kept | with_reducible apply kept_ite
        | with_reducible apply kept_foldl | with_reducible apply kept_foldl_fst | split | dsimp only)

theorem State.etchIdle_kept {z : Spine} {s : State} (h : Kept z s.spine)  :
    Kept z (State.etchIdle s).spine := by
  unfold State.etchIdle
  repeat' (first
      | intro _ | with_reducible exact h | with_reducible assumption | with_reducible apply State.admitNext_kept
      | with_reducible apply kept_ite | with_reducible apply kept_foldl | with_reducible apply kept_foldl_fst
      | simp only [spine_mk, spine_fold] | split)

theorem State.abortEtch_kept {z : Spine} {s : State} (h : Kept z s.spine)  :
    Kept z (State.abortEtch s).spine := by
  unfold State.abortEtch
  repeat' (first
      | intro _ | with_reducible exact h | with_reducible assumption | with_reducible apply State.stopEtch_kept
      | with_reducible apply State.etchIdle_kept | with_reducible apply kept_ite | with_reducible apply kept_foldl
      | with_reducible apply kept_foldl_fst | simp only [spine_mk, spine_fold] | split)

theorem State.setPort_kept {z : Spine} {s : State} (h : Kept z s.spine) (p : Nat) (x : PortState) :
    Kept z (State.setPort s p x).spine := by
  unfold State.setPort
  repeat' (first
      | intro _ | with_reducible exact h | with_reducible assumption | with_reducible apply kept_ite
      | with_reducible apply kept_foldl | with_reducible apply kept_foldl_fst | simp only [spine_mk, spine_fold] | split)

theorem State.renew_kept {z : Spine} {s : State} (h : Kept z s.spine) (p : Nat) :
    Kept z (State.renew s p).spine := by
  unfold State.renew
  repeat' (first
      | intro _ | with_reducible exact h | with_reducible assumption | with_reducible apply State.setPort_kept
      | with_reducible apply kept_ite | with_reducible apply kept_foldl | with_reducible apply kept_foldl_fst
      | simp only [spine_mk, spine_fold] | split)

theorem State.accept_kept {z : Spine} {s : State} (h : Kept z s.spine) (p : Nat) (bs : List Byte) :
    Kept z (State.accept s p bs).spine := by
  unfold State.accept
  repeat' (first
      | intro _ | with_reducible exact h | with_reducible assumption | with_reducible apply State.setPort_kept
      | with_reducible apply State.renew_kept | with_reducible apply kept_ite | with_reducible apply kept_foldl
      | with_reducible apply kept_foldl_fst | simp only [spine_mk, spine_fold] | split)

theorem State.setStip_kept {z : Spine} {s : State} (h : Kept z s.spine) (n : Nat) (r : Stip) :
    Kept z (State.setStip s n r).spine := by
  unfold State.setStip
  repeat' (first
      | intro _ | with_reducible exact h | with_reducible assumption | with_reducible apply kept_ite
      | with_reducible apply kept_foldl | with_reducible apply kept_foldl_fst | simp only [spine_mk, spine_fold] | split)

theorem State.stipUnloaded_kept {z : Spine} {s : State} (h : Kept z s.spine) (n : Nat) :
    Kept z (State.stipUnloaded s n).spine := by
  unfold State.stipUnloaded
  repeat' (first
      | intro _ | with_reducible exact h | with_reducible assumption | with_reducible apply State.setStip_kept
      | with_reducible apply State.freeLaneOf_kept | with_reducible apply kept_ite | with_reducible apply kept_foldl
      | with_reducible apply kept_foldl_fst | simp only [spine_mk, spine_fold] | split)

theorem State.setSink_kept {z : Spine} {s : State} (h : Kept z s.spine) (n : Nat) (k : Sink) :
    Kept z (State.setSink s n k).spine := by
  unfold State.setSink
  repeat' (first
      | intro _ | with_reducible exact h | with_reducible assumption | with_reducible apply kept_ite
      | with_reducible apply kept_foldl | with_reducible apply kept_foldl_fst | simp only [spine_mk, spine_fold] | split)

theorem State.freePower_kept {z : Spine} {s : State} (h : Kept z s.spine) (n : Nat) (g : Nat) :
    Kept z (State.freePower s n g).spine := by
  unfold State.freePower
  repeat' (first
      | intro _ | with_reducible exact h | with_reducible assumption | with_reducible apply State.setSink_kept
      | with_reducible apply kept_ite | with_reducible apply kept_foldl | with_reducible apply kept_foldl_fst
      | simp only [spine_mk, spine_fold] | split)

theorem State.lapseDone_kept {z : Spine} {s : State} (h : Kept z s.spine) (n : Nat) :
    Kept z (State.lapseDone s n).spine := by
  unfold State.lapseDone
  repeat' (first
      | intro _ | with_reducible exact h | with_reducible assumption | with_reducible apply State.bump_kept
      | with_reducible apply State.setSink_kept | with_reducible apply State.raise_kept | with_reducible apply kept_ite
      | with_reducible apply kept_foldl | with_reducible apply kept_foldl_fst | simp only [spine_mk, spine_fold] | split)

theorem State.coolEnergy_kept {z : Spine} {s : State} (h : Kept z s.spine) (n : Nat) :
    Kept z (State.coolEnergy s n).spine := by
  unfold State.coolEnergy
  repeat' (first
      | intro _ | with_reducible exact h | with_reducible assumption | with_reducible apply State.setSink_kept
      | with_reducible apply kept_ite | with_reducible apply kept_foldl | with_reducible apply kept_foldl_fst
      | simp only [spine_mk, spine_fold] | split)

theorem State.sinkDone_kept {z : Spine} {s : State} (h : Kept z s.spine) (n : Nat) :
    Kept z (State.sinkDone s n).spine := by
  unfold State.sinkDone
  repeat' (first
      | intro _ | with_reducible exact h | with_reducible assumption | with_reducible apply State.setSink_kept
      | with_reducible apply State.freePower_kept | with_reducible apply State.lapseDone_kept
      | with_reducible apply State.coolEnergy_kept | with_reducible apply kept_ite | with_reducible apply kept_foldl
      | with_reducible apply kept_foldl_fst | simp only [spine_mk, spine_fold] | split)

theorem State.removeSink_kept {z : Spine} {s : State} (h : Kept z s.spine) (n : Nat) (slew : Nat) :
    Kept z (State.removeSink s n slew).spine := by
  unfold State.removeSink
  repeat' (first
      | intro _ | with_reducible exact h | with_reducible assumption | with_reducible apply State.sinkDone_kept
      | with_reducible apply State.setSink_kept | with_reducible apply kept_ite | with_reducible apply kept_foldl
      | with_reducible apply kept_foldl_fst | simp only [spine_mk, spine_fold] | split)

theorem State.acquireEnd_kept {z : Spine} {s : State} (h : Kept z s.spine) (n : Nat) :
    Kept z (State.acquireEnd s n).spine := by
  unfold State.acquireEnd
  repeat' (first
      | intro _ | with_reducible exact h | with_reducible assumption | with_reducible apply State.setStip_kept
      | with_reducible apply State.stipUnloaded_kept | with_reducible apply State.removeSink_kept | with_reducible apply kept_ite
      | with_reducible apply kept_foldl | with_reducible apply kept_foldl_fst | simp only [spine_mk, spine_fold] | split)

theorem State.restampRun_kept {z : Spine} {s : State} (h : Kept z s.spine) (f : Nat) :
    Kept z (State.restampRun s f).spine := by
  unfold State.restampRun
  repeat' (first
      | intro _ | with_reducible exact h | with_reducible assumption | with_reducible apply kept_ite
      | with_reducible apply kept_foldl | with_reducible apply kept_foldl_fst | simp only [spine_mk, spine_fold] | split)

theorem State.inputReview_kept {z : Spine} {s : State} (h : Kept z s.spine)  :
    Kept z (State.inputReview s).spine := by
  unfold State.inputReview
  repeat' (first
      | intro _ | with_reducible exact h | with_reducible assumption | with_reducible apply kept_ite
      | with_reducible apply kept_foldl | with_reducible apply kept_foldl_fst | simp only [spine_mk, spine_fold] | split)

theorem State.returnInrush_kept {z : Spine} {s : State} (h : Kept z s.spine) (t : Nat) :
    Kept z (State.returnInrush s t).spine := by
  unfold State.returnInrush
  repeat' (first
      | intro _ | with_reducible exact h | with_reducible assumption | with_reducible apply State.setLive_kept
      | with_reducible apply kept_ite | with_reducible apply kept_foldl | with_reducible apply kept_foldl_fst
      | simp only [spine_mk, spine_fold] | split)

theorem State.setFeed_kept {z : Spine} {s : State} (h : Kept z s.spine) (f : Nat) (x : Feed) :
    Kept z (State.setFeed s f x).spine := by
  unfold State.setFeed
  repeat' (first
      | intro _ | with_reducible exact h | with_reducible assumption | with_reducible apply kept_ite
      | with_reducible apply kept_foldl | with_reducible apply kept_foldl_fst | simp only [spine_mk, spine_fold] | split)

theorem State.endRamp_kept {z : Spine} {s : State} (h : Kept z s.spine) (f : Nat) :
    Kept z (State.endRamp s f).spine := by
  unfold State.endRamp
  repeat' (first
      | intro _ | with_reducible exact h | with_reducible assumption | with_reducible apply State.setLive_kept
      | with_reducible apply State.bump_kept | with_reducible apply State.returnInrush_kept
      | with_reducible apply State.setFeed_kept | with_reducible apply State.raise_kept | with_reducible apply kept_ite
      | with_reducible apply kept_foldl | with_reducible apply kept_foldl_fst | simp only [spine_mk, spine_fold] | split)

theorem State.moveFeed_kept {z : Spine} {s : State} (h : Kept z s.spine) (f : Nat) (st : FeedState) :
    Kept z (State.moveFeed s f st).spine := by
  unfold State.moveFeed
  repeat' (first
      | intro _ | with_reducible exact h | with_reducible assumption | with_reducible apply State.setFeed_kept
      | with_reducible apply kept_ite | with_reducible apply kept_foldl | with_reducible apply kept_foldl_fst
      | simp only [spine_mk, spine_fold] | split)

theorem State.openFeed_kept {z : Spine} {s : State} (h : Kept z s.spine) (f : Nat) (st : FeedState) :
    Kept z (State.openFeed s f st).spine := by
  unfold State.openFeed
  repeat' (first
      | intro _ | with_reducible exact h | with_reducible assumption | with_reducible apply State.inputReview_kept
      | with_reducible apply State.endRamp_kept | with_reducible apply State.moveFeed_kept
      | with_reducible apply State.setFeed_kept | with_reducible apply kept_ite | with_reducible apply kept_foldl
      | with_reducible apply kept_foldl_fst | simp only [spine_mk, spine_fold] | split)

theorem State.raiseFeed_kept {z : Spine} {s : State} (h : Kept z s.spine) (f : Nat) (kind : Nat) :
    Kept z (State.raiseFeed s f kind).spine := by
  unfold State.raiseFeed
  repeat' (first
      | intro _ | with_reducible exact h | with_reducible assumption | with_reducible apply State.raise_kept
      | with_reducible apply kept_ite | with_reducible apply kept_foldl | with_reducible apply kept_foldl_fst
      | simp only [spine_mk, spine_fold] | split)

theorem State.actTrip_kept {z : Spine} {s : State} (h : Kept z s.spine) (f : Nat) (kind : Nat) :
    Kept z (State.actTrip s f kind).spine := by
  unfold State.actTrip
  repeat' (first
      | intro _ | with_reducible exact h | with_reducible assumption | with_reducible apply State.postEtch_kept
      | with_reducible apply State.restampRun_kept | with_reducible apply State.openFeed_kept
      | with_reducible apply State.bump_kept | with_reducible apply State.setPers_kept | with_reducible apply State.raiseFeed_kept
      | with_reducible apply State.setFeed_kept | with_reducible apply kept_ite | with_reducible apply kept_foldl
      | with_reducible apply kept_foldl_fst | simp only [spine_mk, spine_fold] | split)

theorem State.setUpd_kept {z : Spine} {s : State} (h : Kept z s.spine) (x : UpdState) :
    Kept z (State.setUpd s x).spine := by
  unfold State.setUpd
  repeat' (first
      | intro _ | with_reducible exact h | with_reducible assumption | with_reducible apply kept_ite
      | with_reducible apply kept_foldl | with_reducible apply kept_foldl_fst | simp only [spine_mk, spine_fold] | split)

theorem State.writeRecord_kept {z : Spine} {s : State} (h : Kept z s.spine) (r : ActRecord) :
    Kept z (State.writeRecord s r).spine := by
  unfold State.writeRecord
  repeat' (first
      | intro _ | with_reducible exact h | with_reducible assumption | with_reducible apply kept_ite
      | with_reducible apply kept_foldl | with_reducible apply kept_foldl_fst | simp only [spine_mk, spine_fold] | split)

theorem State.holdCores_kept {z : Spine} {s : State} (h : Kept z s.spine)  :
    Kept z (State.holdCores s).spine := by
  unfold State.holdCores
  repeat' (first
      | intro _ | with_reducible exact h | with_reducible assumption | with_reducible apply kept_ite
      | with_reducible apply kept_foldl | with_reducible apply kept_foldl_fst | simp only [spine_mk, spine_fold] | split)

theorem State.updReason_kept {z : Spine} {s : State} (h : Kept z s.spine) (r : Nat) :
    Kept z (State.updReason s r).spine := by
  unfold State.updReason
  repeat' (first
      | intro _ | with_reducible exact h | with_reducible assumption | with_reducible apply State.setLive_kept
      | with_reducible apply kept_ite | with_reducible apply kept_foldl | with_reducible apply kept_foldl_fst
      | simp only [spine_mk, spine_fold] | split)

theorem State.activation_kept {z : Spine} {s : State} (h : Kept z s.spine)  :
    Kept z (State.activation s).spine := by
  unfold State.activation
  repeat' (first
      | intro _ | with_reducible exact h | with_reducible assumption | with_reducible apply State.setUpd_kept
      | with_reducible apply State.writeRecord_kept | with_reducible apply State.holdCores_kept
      | with_reducible apply State.bump_kept | with_reducible apply State.updReason_kept | with_reducible apply kept_ite
      | with_reducible apply kept_foldl | with_reducible apply kept_foldl_fst | simp only [spine_mk, spine_fold] | split)

theorem State.addCount_kept {z : Spine} {s : State} (h : Kept z s.spine) (key : Nat) (n : Nat) :
    Kept z (State.addCount s key n).spine := by
  unfold State.addCount
  repeat' (first
      | intro _ | with_reducible exact h | with_reducible assumption | with_reducible apply State.setPers_kept
      | with_reducible apply kept_ite | with_reducible apply kept_foldl | with_reducible apply kept_foldl_fst
      | simp only [spine_mk, spine_fold] | split)

theorem State.addHigh_kept {z : Spine} {s : State} (h : Kept z s.spine) (key : Nat) (d : Nat) :
    Kept z (State.addHigh s key d).spine := by
  unfold State.addHigh
  repeat' (first
      | intro _ | with_reducible exact h | with_reducible assumption | with_reducible apply State.setPers_kept
      | with_reducible apply kept_ite | with_reducible apply kept_foldl | with_reducible apply kept_foldl_fst
      | simp only [spine_mk, spine_fold] | split)

theorem State.joined_kept {z : Spine} {s : State} (h : Kept z s.spine)  :
    Kept z (State.joined s).spine := by
  unfold State.joined
  repeat' (first
      | intro _ | with_reducible exact h | with_reducible assumption | with_reducible apply State.setLive_kept
      | with_reducible apply kept_ite | with_reducible apply kept_foldl | with_reducible apply kept_foldl_fst
      | simp only [spine_mk, spine_fold] | split)

theorem State.wake_kept {z : Spine} {s : State} (h : Kept z s.spine)  :
    Kept z (State.wake s).spine := by
  unfold State.wake
  repeat' (first
      | intro _ | with_reducible exact h | with_reducible assumption | with_reducible apply State.bump_kept
      | with_reducible apply kept_ite | with_reducible apply kept_foldl | with_reducible apply kept_foldl_fst
      | simp only [spine_mk, spine_fold] | split)

theorem State.powerReview_kept {z : Spine} {s : State} (h : Kept z s.spine)  :
    Kept z (State.powerReview s).spine := by
  unfold State.powerReview
  repeat' (first
      | intro _ | with_reducible exact h | with_reducible assumption | with_reducible apply State.wake_kept
      | with_reducible apply kept_ite | with_reducible apply kept_foldl | with_reducible apply kept_foldl_fst
      | simp only [spine_mk, spine_fold] | split)

theorem State.writeBytes_kept {z : Spine} {s : State} (h : Kept z s.spine) (a : Nat) (bs : List Byte) :
    Kept z (State.writeBytes s a bs).spine := by
  exact ⟨h.1, h.2, fun w => memWrite_wf (h.3 w) a bs, h.4, h.5⟩

theorem State.setAreaState_kept {z : Spine} {s : State} (h : Kept z s.spine) (area : Nat) (st : Nat) :
    Kept z (State.setAreaState s area st).spine := by
  unfold State.setAreaState
  repeat' (first
      | intro _ | with_reducible exact h | with_reducible assumption | with_reducible apply State.writeBytes_kept
      | with_reducible apply kept_ite | with_reducible apply kept_foldl | with_reducible apply kept_foldl_fst
      | simp only [spine_mk, spine_fold] | split)

theorem State.fellBack_kept {z : Spine} {s0 : State} (h : Kept z s0.spine)  :
    Kept z (State.fellBack s0).spine := by
  unfold State.fellBack
  repeat' (first
      | intro _ | with_reducible exact h | with_reducible assumption | with_reducible apply State.setUpd_kept
      | with_reducible apply State.bump_kept | with_reducible apply State.updReason_kept
      | with_reducible apply State.setAreaState_kept | with_reducible apply State.raise_kept | with_reducible apply kept_ite
      | with_reducible apply kept_foldl | with_reducible apply kept_foldl_fst | simp only [spine_mk, spine_fold] | split)

theorem State.trialLost_kept {z : Spine} {s : State} (h : Kept z s.spine) (reason : Nat) :
    Kept z (State.trialLost s reason).spine := by
  unfold State.trialLost
  repeat' (first
      | intro _ | with_reducible exact h | with_reducible assumption | with_reducible apply State.bump_kept
      | with_reducible apply State.updReason_kept | with_reducible apply State.raise_kept | with_reducible apply kept_ite
      | with_reducible apply kept_foldl | with_reducible apply kept_foldl_fst | simp only [spine_mk, spine_fold] | split)

theorem State.startTrial_kept {z : Spine} {s : State} (h : Kept z s.spine)  :
    Kept z (State.startTrial s).spine := by
  unfold State.startTrial
  repeat' (first
      | intro _ | with_reducible exact h | with_reducible assumption | with_reducible apply State.writeRecord_kept
      | with_reducible apply State.raise_kept | with_reducible apply kept_ite | with_reducible apply kept_foldl
      | with_reducible apply kept_foldl_fst | simp only [spine_mk, spine_fold] | split)

theorem State.trialFail_kept {z : Spine} {s : State} (h : Kept z s.spine) (reason : Nat) :
    Kept z (State.trialFail s reason).spine := by
  unfold State.trialFail
  repeat' (first
      | intro _ | with_reducible exact h | with_reducible assumption | with_reducible apply State.trialLost_kept
      | with_reducible apply State.holdCores_kept | with_reducible apply kept_ite | with_reducible apply kept_foldl
      | with_reducible apply kept_foldl_fst | simp only [spine_mk, spine_fold] | split)

theorem State.bootPower_kept {z : Spine} {s : State} (h : Kept z s.spine) (lost : Bool) :
    Kept z (State.bootPower s lost).spine := by
  unfold State.bootPower
  repeat' (first
      | intro _ | with_reducible exact h | with_reducible assumption | with_reducible apply State.fellBack_kept
      | with_reducible apply State.trialLost_kept | with_reducible apply State.startTrial_kept
      | with_reducible apply State.trialFail_kept | with_reducible apply kept_ite | with_reducible apply kept_foldl
      | with_reducible apply kept_foldl_fst | simp only [spine_mk, spine_fold] | split)

theorem State.phaseSettle_kept {z : Spine} {s : State} (h : Kept z s.spine)  :
    Kept z (State.phaseSettle s).spine := by
  unfold State.phaseSettle
  repeat' (first
      | intro _ | with_reducible exact h | with_reducible assumption | with_reducible apply State.bootPower_kept
      | with_reducible apply kept_ite | with_reducible apply kept_foldl | with_reducible apply kept_foldl_fst
      | simp only [spine_mk, spine_fold] | split)

theorem State.trimGrants_kept {z : Spine} {s : State} (h : Kept z s.spine) (fuel : Nat) (levels : List Nat) (need : Nat) (count : Nat)
    (report : Bool) :
    Kept z (State.trimGrants fuel s levels need count report).1.spine := by
  induction fuel generalizing s levels need with
  | zero => unfold State.trimGrants; exact h
  | succ f ih =>
    cases levels with
    | nil => unfold State.trimGrants; exact h
    | cons l rest =>
      unfold State.trimGrants
      split
      · exact h
      · split
        · exact ih h _ _
        · dsimp only
          apply ih
          apply kept_ite
          · exact State.raise_kept (State.bump_kept (State.setSink_kept (State.freePower_kept h _ _) _ _) _) _ _ _
          · exact State.bump_kept (State.setSink_kept (State.freePower_kept h _ _) _ _) _

theorem State.takeForReserve_kept {z : Spine} {s : State} (h : Kept z s.spine) (need : Nat) :
    Kept z (State.takeForReserve s need).1.spine := by
  unfold State.takeForReserve
  repeat' (first
      | intro _ | with_reducible exact h | with_reducible assumption | with_reducible apply State.trimGrants_kept
      | with_reducible apply kept_ite | with_reducible apply kept_foldl | with_reducible apply kept_foldl_fst
      | simp only [spine_mk, spine_fold] | split)

theorem State.setReserve_kept {z : Spine} {s : State} (h : Kept z s.spine) (v : Nat) :
    Kept z (State.setReserve s v).spine := by
  unfold State.setReserve
  repeat' (first
      | intro _ | with_reducible exact h | with_reducible assumption | with_reducible apply State.takeForReserve_kept
      | with_reducible apply kept_ite | with_reducible apply kept_foldl | with_reducible apply kept_foldl_fst
      | simp only [spine_mk, spine_fold] | split)

theorem State.reserveReview_kept {z : Spine} {s : State} (h : Kept z s.spine)  :
    Kept z (State.reserveReview s).spine := by
  unfold State.reserveReview
  repeat' (first
      | intro _ | with_reducible exact h | with_reducible assumption | with_reducible apply State.setReserve_kept
      | with_reducible apply kept_ite | with_reducible apply kept_foldl | with_reducible apply kept_foldl_fst
      | simp only [spine_mk, spine_fold] | split)

theorem State.reviewStandby_kept {z : Spine} {s : State} (h : Kept z s.spine)  :
    Kept z (State.reviewStandby s).spine := by
  unfold State.reviewStandby
  repeat' (first
      | intro _ | with_reducible exact h | with_reducible assumption | with_reducible apply State.setSink_kept
      | with_reducible apply kept_ite | with_reducible apply kept_foldl | with_reducible apply kept_foldl_fst
      | simp only [spine_mk, spine_fold] | split)

theorem State.governed_kept {z : Spine} {s : State} (h : Kept z s.spine)  :
    Kept z (State.governed s).spine := by
  unfold State.governed
  repeat' (first
      | intro _ | with_reducible exact h | with_reducible assumption | with_reducible apply State.reserveReview_kept
      | with_reducible apply State.reviewStandby_kept | with_reducible apply kept_ite | with_reducible apply kept_foldl
      | with_reducible apply kept_foldl_fst | simp only [spine_mk, spine_fold] | split)

theorem State.setHealth_kept {z : Spine} {s : State} (h : Kept z s.spine) (bit : Nat) :
    Kept z (State.setHealth s bit).spine := by
  unfold State.setHealth
  repeat' (first
      | intro _ | with_reducible exact h | with_reducible assumption | with_reducible apply kept_ite
      | with_reducible apply kept_foldl | with_reducible apply kept_foldl_fst | simp only [spine_mk, spine_fold] | split)

theorem State.healthSettle_kept {z : Spine} {s : State} (h : Kept z s.spine)  :
    Kept z (State.healthSettle s).spine := by
  unfold State.healthSettle
  repeat' (first
      | intro _ | with_reducible exact h | with_reducible assumption | with_reducible apply State.setHealth_kept
      | with_reducible apply kept_ite | with_reducible apply kept_foldl | with_reducible apply kept_foldl_fst
      | simp only [spine_mk, spine_fold] | split)

theorem State.leftReserve_kept {z : Spine} {s : State} (h : Kept z s.spine)  :
    Kept z (State.leftReserve s).spine := by
  unfold State.leftReserve
  repeat' (first
      | intro _ | with_reducible exact h | with_reducible assumption | with_reducible apply kept_ite
      | with_reducible apply kept_foldl | with_reducible apply kept_foldl_fst | simp only [spine_mk, spine_fold] | split)

theorem State.unraise_kept {z : Spine} {s : State} (h : Kept z s.spine) (f : Nat) (kinds : List Nat) :
    Kept z (State.unraise s f kinds).spine := by
  unfold State.unraise
  repeat' (first
      | intro _ | with_reducible exact h | with_reducible assumption | with_reducible apply kept_ite
      | with_reducible apply kept_foldl | with_reducible apply kept_foldl_fst | simp only [spine_mk, spine_fold] | split)

theorem State.tripFeed_kept {z : Spine} {s : State} (h : Kept z s.spine) (f : Nat) (kind : Nat) :
    Kept z (State.tripFeed s f kind).spine := by
  unfold State.tripFeed
  repeat' (first
      | intro _ | with_reducible exact h | with_reducible assumption | with_reducible apply State.actTrip_kept
      | with_reducible apply State.unraise_kept | with_reducible apply State.setPers_kept
      | with_reducible apply State.raiseFeed_kept | with_reducible apply State.setFeed_kept | with_reducible apply kept_ite
      | with_reducible apply kept_foldl | with_reducible apply kept_foldl_fst | simp only [spine_mk, spine_fold] | split)

theorem State.gatesFeed_kept {z : Spine} {s : State} (h : Kept z s.spine) (f : Nat) :
    Kept z (State.gatesFeed s f).spine := by
  unfold State.gatesFeed
  repeat' (first
      | intro _ | with_reducible exact h | with_reducible assumption | with_reducible apply State.tripFeed_kept
      | with_reducible apply kept_ite | with_reducible apply kept_foldl | with_reducible apply kept_foldl_fst
      | simp only [spine_mk, spine_fold] | split)

theorem State.pullGates_kept {z : Spine} {s : State} (h : Kept z s.spine)  :
    Kept z (State.pullGates s).spine := by
  unfold State.pullGates
  repeat' (first
      | intro _ | with_reducible exact h | with_reducible assumption | with_reducible apply State.gatesFeed_kept
      | with_reducible apply kept_ite | with_reducible apply kept_foldl | with_reducible apply kept_foldl_fst
      | simp only [spine_mk, spine_fold] | split)

theorem State.noteCandidate_kept {z : Spine} {s : State} (h : Kept z s.spine) (n : Nat) (c : Nat) (onset : Stamp) :
    Kept z (State.noteCandidate s n c onset).spine := by
  unfold State.noteCandidate
  repeat' (first
      | intro _ | with_reducible exact h | with_reducible assumption | with_reducible apply kept_ite
      | with_reducible apply kept_foldl | with_reducible apply kept_foldl_fst | simp only [spine_mk, spine_fold] | split)

theorem State.bumpLive_kept {z : Spine} {s : State} (h : Kept z s.spine) (key : Nat) :
    Kept z (State.bumpLive s key).spine := by
  unfold State.bumpLive
  repeat' (first
      | intro _ | with_reducible exact h | with_reducible assumption | with_reducible apply State.setLive_kept
      | with_reducible apply kept_ite | with_reducible apply kept_foldl | with_reducible apply kept_foldl_fst
      | simp only [spine_mk, spine_fold] | split)

theorem State.lateTrigger_kept {z : Spine} {s : State} (h : Kept z s.spine) (source : Nat) (addr : Nat) (st : Stamp) :
    Kept z (State.lateTrigger s source addr st).spine := by
  unfold State.lateTrigger
  repeat' (first
      | intro _ | with_reducible exact h | with_reducible assumption | with_reducible apply State.setLive_kept
      | with_reducible apply State.bumpLive_kept | with_reducible apply kept_ite | with_reducible apply kept_foldl
      | with_reducible apply kept_foldl_fst | simp only [spine_mk, spine_fold] | split)

theorem State.armOnTrigger_kept {z : Spine} {s : State} (h : Kept z s.spine)  :
    Kept z (State.armOnTrigger s).spine := by
  unfold State.armOnTrigger
  repeat' (first
      | intro _ | with_reducible exact h | with_reducible assumption | with_reducible apply State.postLane_kept
      | with_reducible apply kept_ite | with_reducible apply kept_foldl | with_reducible apply kept_foldl_fst
      | simp only [spine_mk, spine_fold] | split)

theorem State.recordTrigger_kept {z : Spine} {s : State} (h : Kept z s.spine) (source : Nat) (addr : Nat) (st : Stamp) :
    Kept z (State.recordTrigger s source addr st).spine := by
  unfold State.recordTrigger
  repeat' (first
      | intro _ | with_reducible exact h | with_reducible assumption | with_reducible apply State.setLive_kept
      | with_reducible apply kept_ite | with_reducible apply kept_foldl | with_reducible apply kept_foldl_fst
      | simp only [spine_mk, spine_fold] | split)

theorem State.ringTrigger_kept {z : Spine} {s : State} (h : Kept z s.spine) (source : Nat) (addr : Nat) (st : Stamp) :
    Kept z (State.ringTrigger s source addr st).spine := by
  unfold State.ringTrigger
  repeat' (first
      | intro _ | with_reducible exact h | with_reducible assumption | with_reducible apply State.lateTrigger_kept
      | with_reducible apply State.armOnTrigger_kept | with_reducible apply State.recordTrigger_kept
      | with_reducible apply kept_ite | with_reducible apply kept_foldl | with_reducible apply kept_foldl_fst
      | simp only [spine_mk, spine_fold] | split)

theorem State.urgent_kept {z : Spine} {s : State} (h : Kept z s.spine) (ch : Nat) (rank : Nat) (crossing : Bool) :
    Kept z (State.urgent s ch rank crossing).spine := by
  unfold State.urgent
  repeat' (first
      | intro _ | with_reducible exact h | with_reducible assumption | with_reducible apply kept_ite
      | with_reducible apply kept_foldl | with_reducible apply kept_foldl_fst | simp only [spine_mk, spine_fold] | split)

theorem State.urgentCross_kept {z : Spine} {s : State} (h : Kept z s.spine) (n : Nat) :
    Kept z (State.urgentCross s n).spine := by
  unfold State.urgentCross
  repeat' (first
      | intro _ | with_reducible exact h | with_reducible assumption | with_reducible apply State.urgent_kept
      | with_reducible apply kept_ite | with_reducible apply kept_foldl | with_reducible apply kept_foldl_fst
      | simp only [spine_mk, spine_fold] | split)

theorem State.sendQual_kept {z : Spine} {s : State} (h : Kept z s.spine) (h : HeldQual) :
    Kept z (State.sendQual s h).spine := by
  unfold State.sendQual
  repeat' (first
      | intro _ | with_reducible exact h | with_reducible assumption | with_reducible apply State.ringTrigger_kept
      | with_reducible apply State.urgentCross_kept | with_reducible apply kept_ite | with_reducible apply kept_foldl
      | with_reducible apply kept_foldl_fst | simp only [spine_mk, spine_fold] | split)

theorem State.recordQual_kept {z : Spine} {s : State} (h : Kept z s.spine) (n : Nat) (c : Nat) :
    Kept z (State.recordQual s n c).spine := by
  unfold State.recordQual
  repeat' (first
      | intro _ | with_reducible exact h | with_reducible assumption | with_reducible apply State.noteCandidate_kept
      | with_reducible apply State.raise_kept | with_reducible apply State.sendQual_kept | with_reducible apply State.setLive_kept
      | with_reducible apply State.bump_kept | with_reducible apply kept_ite | with_reducible apply kept_foldl
      | with_reducible apply kept_foldl_fst | simp only [spine_mk, spine_fold] | split)

theorem State.stipSchedule_kept {z : Spine} {s : State} (h : Kept z s.spine) (n : Nat) (beat : Count) :
    Kept z (State.stipSchedule s n beat).spine := by
  unfold State.stipSchedule
  repeat' (first
      | intro _ | with_reducible exact h | with_reducible assumption | with_reducible apply State.setStip_kept
      | with_reducible apply kept_ite | with_reducible apply kept_foldl | with_reducible apply kept_foldl_fst
      | simp only [spine_mk, spine_fold] | split)

theorem State.stipNext_kept {z : Spine} {s : State} (h : Kept z s.spine) (n : Nat) :
    Kept z (State.stipNext s n).spine := by
  unfold State.stipNext
  repeat' (first
      | intro _ | with_reducible exact h | with_reducible assumption | with_reducible apply State.stipSchedule_kept
      | with_reducible apply kept_ite | with_reducible apply kept_foldl | with_reducible apply kept_foldl_fst
      | simp only [spine_mk, spine_fold] | split)

theorem State.stipEnd_kept {z : Spine} {s : State} (h : Kept z s.spine) (n : Nat) (reason : Nat) (st : StipState) :
    Kept z (State.stipEnd s n reason st).spine := by
  unfold State.stipEnd
  repeat' (first
      | intro _ | with_reducible exact h | with_reducible assumption | with_reducible apply State.setStip_kept
      | with_reducible apply State.stipNext_kept | with_reducible apply State.bump_kept | with_reducible apply State.setLive_kept
      | with_reducible apply State.raise_kept | with_reducible apply kept_ite | with_reducible apply kept_foldl
      | with_reducible apply kept_foldl_fst | simp only [spine_mk, spine_fold] | split)

theorem State.stipAbort_kept {z : Spine} {s : State} (h : Kept z s.spine) (n : Nat) (reason : Nat) :
    Kept z (State.stipAbort s n reason).spine := by
  unfold State.stipAbort
  repeat' (first
      | intro _ | with_reducible exact h | with_reducible assumption | with_reducible apply State.withdrawCapture_kept
      | with_reducible apply State.stipEnd_kept | with_reducible apply State.endCapture_kept
      | with_reducible apply State.removeSink_kept | with_reducible apply State.freeLaneOf_kept
      | with_reducible apply State.coolEnergy_kept | with_reducible apply kept_ite | with_reducible apply kept_foldl
      | with_reducible apply kept_foldl_fst | simp only [spine_mk, spine_fold] | split)

theorem State.freeRailLane_kept {z : Spine} {s : State} (h : Kept z s.spine) (n : Nat) (kind : LaneKind) :
    Kept z (State.freeRailLane s n kind).spine := by
  unfold State.freeRailLane
  repeat' (first
      | intro _ | with_reducible exact h | with_reducible assumption | with_reducible apply kept_ite
      | with_reducible apply kept_foldl | with_reducible apply kept_foldl_fst | simp only [spine_mk, spine_fold] | split)

theorem State.leaveOn_kept {z : Spine} {s : State} (h : Kept z s.spine) (n : Nat) :
    Kept z (State.leaveOn s n).spine := by
  unfold State.leaveOn
  repeat' (first
      | intro _ | with_reducible exact h | with_reducible assumption | with_reducible apply State.stipAbort_kept
      | with_reducible apply kept_ite | with_reducible apply kept_foldl | with_reducible apply kept_foldl_fst
      | simp only [spine_mk, spine_fold] | split)

theorem State.lateStart_kept {z : Spine} {s : State} (h : Kept z s.spine)  :
    Kept z (State.lateStart s).spine := by
  unfold State.lateStart
  repeat' (first
      | intro _ | with_reducible exact h | with_reducible assumption | with_reducible apply State.bumpLive_kept
      | with_reducible apply State.raise_kept | with_reducible apply kept_ite | with_reducible apply kept_foldl
      | with_reducible apply kept_foldl_fst | simp only [spine_mk, spine_fold] | split)

theorem State.setRail_kept {z : Spine} {s : State} (h : Kept z s.spine) (n : Nat) (r : Rail) :
    Kept z (State.setRail s n r).spine := by
  unfold State.setRail
  repeat' (first
      | intro _ | with_reducible exact h | with_reducible assumption | with_reducible apply kept_ite
      | with_reducible apply kept_foldl | with_reducible apply kept_foldl_fst | simp only [spine_mk, spine_fold] | split)

theorem State.raiseDischarge_kept {z : Spine} {s : State} (h : Kept z s.spine) (n : Nat) :
    Kept z (State.raiseDischarge s n).spine := by
  unfold State.raiseDischarge
  repeat' (first
      | intro _ | with_reducible exact h | with_reducible assumption | with_reducible apply State.setSink_kept
      | with_reducible apply kept_ite | with_reducible apply kept_foldl | with_reducible apply kept_foldl_fst
      | simp only [spine_mk, spine_fold] | split)

theorem State.moveRail_kept {z : Spine} {s : State} (h : Kept z s.spine) (n : Nat) (x : RailState) :
    Kept z (State.moveRail s n x).spine := by
  unfold State.moveRail
  repeat' (first
      | intro _ | with_reducible exact h | with_reducible assumption | with_reducible apply State.setRail_kept
      | with_reducible apply kept_ite | with_reducible apply kept_foldl | with_reducible apply kept_foldl_fst
      | simp only [spine_mk, spine_fold] | split)

theorem State.takeIn_kept {z : Spine} {s : State} (h : Kept z s.spine) (n : Nat) (anchor : Stamp) (urgent : Bool) :
    Kept z (State.takeIn s n anchor urgent).spine := by
  unfold State.takeIn
  repeat' (first
      | intro _ | with_reducible exact h | with_reducible assumption | with_reducible apply State.freeRailLane_kept
      | with_reducible apply State.leaveOn_kept | with_reducible apply State.lateStart_kept
      | with_reducible apply State.setRail_kept | with_reducible apply State.raiseDischarge_kept
      | with_reducible apply State.moveRail_kept | with_reducible apply kept_ite | with_reducible apply kept_foldl
      | with_reducible apply kept_foldl_fst | simp only [spine_mk, spine_fold] | split)

theorem State.later_kept {z : Spine} {s : State} (h : Kept z s.spine) (n : Nat) (x : RailNext) :
    Kept z (State.later s n x).spine := by
  unfold State.later
  repeat' (first
      | intro _ | with_reducible exact h | with_reducible assumption | with_reducible apply State.setRail_kept
      | with_reducible apply kept_ite | with_reducible apply kept_foldl | with_reducible apply kept_foldl_fst
      | simp only [spine_mk, spine_fold] | split)

theorem State.enterPass_kept {z : Spine} {s : State} (h : Kept z s.spine) (n : Nat) (anchor : Stamp) (urgent : Bool) :
    Kept z (State.enterPass s n anchor urgent).spine := by
  unfold State.enterPass
  repeat' (first
      | intro _ | with_reducible exact h | with_reducible assumption | with_reducible apply State.takeIn_kept
      | with_reducible apply State.later_kept | with_reducible apply kept_ite | with_reducible apply kept_foldl
      | with_reducible apply kept_foldl_fst | simp only [spine_mk, spine_fold] | split)

theorem State.startDependent_kept {z : Spine} {s : State} (h : Kept z s.spine) (m : Nat) (anchor : Stamp) :
    Kept z (State.startDependent s m anchor).spine := by
  unfold State.startDependent
  repeat' (first
      | intro _ | with_reducible exact h | with_reducible assumption | with_reducible apply State.enterPass_kept
      | with_reducible apply kept_ite | with_reducible apply kept_foldl | with_reducible apply kept_foldl_fst
      | simp only [spine_mk, spine_fold] | split)

end Sys2Proof.Machine
end

