-- ==== Sys2Proof/Laws/Kept2.lean ====
section
/-! SUPPORT. What every operation keeps of the spine (part 2 of 7): one lemma for each operation on the state. -/

set_option linter.unusedSimpArgs false

namespace Sys2Proof.Machine

theorem State.dropJob_kept {z : Spine} {s : State} (h : Kept z s.spine) (id : Nat) :
    Kept z (State.dropJob s id).spine := by
  unfold State.dropJob
  repeat' (first
      | intro _ | with_reducible exact h | with_reducible assumption | with_reducible apply State.freeLaneOf_kept
      | with_reducible apply kept_ite | with_reducible apply kept_foldl | with_reducible apply kept_foldl_fst
      | simp only [spine_mk, spine_fold] | split)

theorem State.dropJobs_kept {z : Spine} {s : State} (h : Kept z s.spine) (test : PmbJob → Bool) :
    Kept z (State.dropJobs s test).spine := by
  unfold State.dropJobs
  repeat' (first
      | intro _ | with_reducible exact h | with_reducible assumption | with_reducible apply State.dropJob_kept
      | with_reducible apply kept_ite | with_reducible apply kept_foldl | with_reducible apply kept_foldl_fst
      | simp only [spine_mk, spine_fold] | split)

theorem State.showAnchor_kept {z : Spine} {s : State} (h : Kept z s.spine) (a : Stamp) :
    Kept z (State.showAnchor s a).spine := by
  unfold State.showAnchor
  repeat' (first
      | intro _ | with_reducible exact h | with_reducible assumption | with_reducible apply State.setLive_kept
      | with_reducible apply kept_ite | with_reducible apply kept_foldl | with_reducible apply kept_foldl_fst
      | simp only [spine_mk, spine_fold] | split)

theorem State.startPass_kept {z : Spine} {s : State} (h : Kept z s.spine) (target : Nat) (anchor : Stamp) (shut : Bool) :
    Kept z (State.startPass s target anchor shut).spine := by
  unfold State.startPass
  repeat' (first
      | intro _ | with_reducible exact h | with_reducible assumption | with_reducible apply State.showAnchor_kept
      | with_reducible apply State.enterPass_kept | with_reducible apply kept_ite | with_reducible apply kept_foldl
      | with_reducible apply kept_foldl_fst | simp only [spine_mk, spine_fold] | split)

theorem State.postShutdown_kept {z : Spine} {s : State} (h : Kept z s.spine) (anchor : Stamp) :
    Kept z (State.postShutdown s anchor).spine := by
  unfold State.postShutdown
  repeat' (first
      | intro _ | with_reducible exact h | with_reducible assumption | with_reducible apply State.dropJobs_kept
      | with_reducible apply State.startPass_kept | with_reducible apply kept_ite | with_reducible apply kept_foldl
      | with_reducible apply kept_foldl_fst | simp only [spine_mk, spine_fold] | split)

theorem State.noteCause_kept {z : Spine} {s : State} (h : Kept z s.spine) (cause : Nat) :
    Kept z (State.noteCause s cause).spine := by
  unfold State.noteCause
  repeat' (first
      | intro _ | with_reducible exact h | with_reducible assumption | with_reducible apply State.setLive_kept
      | with_reducible apply kept_ite | with_reducible apply kept_foldl | with_reducible apply kept_foldl_fst
      | simp only [spine_mk, spine_fold] | split)

theorem State.localShutdown_kept {z : Spine} {s : State} (h : Kept z s.spine) (cause : Nat) (anchor : Stamp) :
    Kept z (State.localShutdown s cause anchor).spine := by
  unfold State.localShutdown
  repeat' (first
      | intro _ | with_reducible exact h | with_reducible assumption | with_reducible apply State.postShutdown_kept
      | with_reducible apply State.bump_kept | with_reducible apply State.noteCause_kept | with_reducible apply State.raiseAt_kept
      | with_reducible apply kept_ite | with_reducible apply kept_foldl | with_reducible apply kept_foldl_fst
      | simp only [spine_mk, spine_fold] | split)

theorem State.tripScope_kept {z : Spine} {s : State} (h : Kept z s.spine) (m : Nat) (anchor : Stamp) :
    Kept z (State.tripScope s m anchor).spine := by
  unfold State.tripScope
  repeat' (first
      | intro _ | with_reducible exact h | with_reducible assumption | with_reducible apply State.startDependent_kept
      | with_reducible apply State.localShutdown_kept | with_reducible apply kept_ite | with_reducible apply kept_foldl
      | with_reducible apply kept_foldl_fst | simp only [spine_mk, spine_fold] | split)

theorem State.setFlag_kept {z : Spine} {s : State} (h : Kept z s.spine) (n : Nat) (b : Nat) :
    Kept z (State.setFlag s n b).spine := by
  unfold State.setFlag
  repeat' (first
      | intro _ | with_reducible exact h | with_reducible assumption | with_reducible apply State.setLive_kept
      | with_reducible apply kept_ite | with_reducible apply kept_foldl | with_reducible apply kept_foldl_fst
      | simp only [spine_mk, spine_fold] | split)

theorem State.postPmb_kept {z : Spine} {s : State} (h : Kept z s.spine) (n : Nat) (what : PmbWhat) (code : Nat) (data : Nat) (level : Nat) :
    Kept z (State.postPmb s n what code data level).spine := by
  unfold State.postPmb
  repeat' (first
      | intro _ | with_reducible exact h | with_reducible assumption | with_reducible apply State.postLane_kept
      | with_reducible apply kept_ite | with_reducible apply kept_foldl | with_reducible apply kept_foldl_fst
      | simp only [spine_mk, spine_fold] | split)

theorem State.muteJobs_kept {z : Spine} {s : State} (h : Kept z s.spine) (test : PmbJob → Bool) :
    Kept z (State.muteJobs s test).spine := by
  unfold State.muteJobs
  repeat' (first
      | intro _ | with_reducible exact h | with_reducible assumption | with_reducible apply State.dropJobs_kept
      | with_reducible apply kept_ite | with_reducible apply kept_foldl | with_reducible apply kept_foldl_fst
      | simp only [spine_mk, spine_fold] | split)

theorem State.takeRailLane_kept {z : Spine} {s : State} (h : Kept z s.spine) (n : Nat) (kind : LaneKind) (base : Nat) :
    Kept z (State.takeRailLane s n kind base).spine := by
  unfold State.takeRailLane
  repeat' (first
      | intro _ | with_reducible exact h | with_reducible assumption | with_reducible apply kept_ite
      | with_reducible apply kept_foldl | with_reducible apply kept_foldl_fst | simp only [spine_mk, spine_fold] | split)

theorem State.postPower_kept {z : Spine} {s : State} (h : Kept z s.spine) (n : Nat) (level : Nat) :
    Kept z (State.postPower s n level).spine := by
  unfold State.postPower
  repeat' (first
      | intro _ | with_reducible exact h | with_reducible assumption | with_reducible apply State.setSink_kept
      | with_reducible apply kept_ite | with_reducible apply kept_foldl | with_reducible apply kept_foldl_fst
      | simp only [spine_mk, spine_fold] | split)

theorem State.startDischarge_kept {z : Spine} {s : State} (h : Kept z s.spine) (n : Nat) (level : Nat) (fast : Bool) (drive : Bool) :
    Kept z (State.startDischarge s n level fast drive).spine := by
  unfold State.startDischarge
  repeat' (first
      | intro _ | with_reducible exact h | with_reducible assumption | with_reducible apply State.removeSink_kept
      | with_reducible apply State.setSink_kept | with_reducible apply State.coolEnergy_kept
      | with_reducible apply State.postPower_kept | with_reducible apply kept_ite | with_reducible apply kept_foldl
      | with_reducible apply kept_foldl_fst | simp only [spine_mk, spine_fold] | split)

theorem State.setMargin_kept {z : Spine} {s : State} (h : Kept z s.spine) (n : Nat) (m : Margin) :
    Kept z (State.setMargin s n m).spine := by
  unfold State.setMargin
  repeat' (first
      | intro _ | with_reducible exact h | with_reducible assumption | with_reducible apply kept_ite
      | with_reducible apply kept_foldl | with_reducible apply kept_foldl_fst | simp only [spine_mk, spine_fold] | split)

theorem State.marginRelease_kept {z : Spine} {s : State} (h : Kept z s.spine) (n : Nat) (level : Nat) :
    Kept z (State.marginRelease s n level).spine := by
  unfold State.marginRelease
  repeat' (first
      | intro _ | with_reducible exact h | with_reducible assumption | with_reducible apply State.freeRailLane_kept
      | with_reducible apply State.postPmb_kept | with_reducible apply State.setMargin_kept
      | with_reducible apply State.muteJobs_kept | with_reducible apply kept_ite | with_reducible apply kept_foldl
      | with_reducible apply kept_foldl_fst | simp only [spine_mk, spine_fold] | split)

theorem State.release_kept {z : Spine} {s : State} (h : Kept z s.spine) (n : Nat) (fast : Bool) (drive : Bool) :
    Kept z (State.release s n fast drive).spine := by
  unfold State.release
  repeat' (first
      | intro _ | with_reducible exact h | with_reducible assumption | with_reducible apply State.postPmb_kept
      | with_reducible apply State.leaveOn_kept | with_reducible apply State.dropJobs_kept
      | with_reducible apply State.moveRail_kept | with_reducible apply State.muteJobs_kept
      | with_reducible apply State.setRail_kept | with_reducible apply State.takeRailLane_kept
      | with_reducible apply State.startDischarge_kept | with_reducible apply State.marginRelease_kept
      | with_reducible apply kept_ite | with_reducible apply kept_foldl | with_reducible apply kept_foldl_fst
      | simp only [spine_mk, spine_fold] | split)

theorem State.fastRelease_kept {z : Spine} {s : State} (h : Kept z s.spine) (n : Nat) (drive : Bool) (anchor : Stamp) :
    Kept z (State.fastRelease s n drive anchor).spine := by
  unfold State.fastRelease
  repeat' (first
      | intro _ | with_reducible exact h | with_reducible assumption | with_reducible apply State.tripScope_kept
      | with_reducible apply State.setFlag_kept | with_reducible apply State.release_kept
      | with_reducible apply State.setRail_kept | with_reducible apply State.startDischarge_kept | with_reducible apply kept_ite
      | with_reducible apply kept_foldl | with_reducible apply kept_foldl_fst | simp only [spine_mk, spine_fold] | split)

theorem State.qualify_kept {z : Spine} {s : State} (h : Kept z s.spine) (n : Nat) (cs : List Nat) :
    Kept z (State.qualify s n cs).spine := by
  unfold State.qualify
  repeat' (first
      | intro _ | with_reducible exact h | with_reducible assumption | with_reducible apply State.pullGates_kept
      | with_reducible apply State.recordQual_kept | with_reducible apply State.stipAbort_kept
      | with_reducible apply State.fastRelease_kept | with_reducible apply kept_ite | with_reducible apply kept_foldl
      | with_reducible apply kept_foldl_fst | simp only [spine_mk, spine_fold] | split)

theorem State.reviewRoles_kept {z : Spine} {s : State} (h : Kept z s.spine) (n : Nat) :
    Kept z (State.reviewRoles s n).spine := by
  unfold State.reviewRoles
  repeat' (first
      | intro _ | with_reducible exact h | with_reducible assumption | with_reducible apply State.qualify_kept
      | with_reducible apply State.setRail_kept | with_reducible apply kept_ite | with_reducible apply kept_foldl
      | with_reducible apply kept_foldl_fst | simp only [spine_mk, spine_fold] | split)

theorem State.unlock_kept {z : Spine} {s : State} (h : Kept z s.spine) (n : Nat) :
    Kept z (State.unlock s n).spine := by
  unfold State.unlock
  repeat' (first
      | intro _ | with_reducible exact h | with_reducible assumption | with_reducible apply State.moveRail_kept
      | with_reducible apply State.later_kept | with_reducible apply kept_ite | with_reducible apply kept_foldl
      | with_reducible apply kept_foldl_fst | simp only [spine_mk, spine_fold] | split)

theorem State.unlockRails_kept {z : Spine} {s : State} (h : Kept z s.spine)  :
    Kept z (State.unlockRails s).spine := by
  unfold State.unlockRails
  repeat' (first
      | intro _ | with_reducible exact h | with_reducible assumption | with_reducible apply State.unlock_kept
      | with_reducible apply kept_ite | with_reducible apply kept_foldl | with_reducible apply kept_foldl_fst
      | simp only [spine_mk, spine_fold] | split)

theorem State.depRule_kept {z : Spine} {s : State} (h : Kept z s.spine)  :
    ∀ t, State.depRule s = some t → Kept z t.spine := by
  intro t ht
  unfold State.depRule at ht
  try dsimp only at ht
  repeat' split at ht
  all_goals first
    | contradiction
    | (have e := Option.some.inj ht
       subst e
       repeat' (first
           | intro _ | simp only [spine_mk, spine_fold] | with_reducible exact h | with_reducible assumption
           | with_reducible apply State.unlockRails_kept | with_reducible apply State.bump_kept | with_reducible apply kept_ite
           | with_reducible apply kept_foldl | with_reducible apply kept_foldl_fst | split | dsimp only))
    | (refine State.unlockRails_kept ?_ _ ht
       repeat' (first
           | intro _ | simp only [spine_mk, spine_fold] | with_reducible exact h | with_reducible assumption
           | with_reducible apply State.unlockRails_kept | with_reducible apply State.bump_kept | with_reducible apply kept_ite
           | with_reducible apply kept_foldl | with_reducible apply kept_foldl_fst | split | dsimp only))

theorem State.clearCauses_kept {z : Spine} {s : State} (h : Kept z s.spine)  :
    Kept z (State.clearCauses s).spine := by
  unfold State.clearCauses
  repeat' (first
      | intro _ | with_reducible exact h | with_reducible assumption | with_reducible apply kept_ite
      | with_reducible apply kept_foldl | with_reducible apply kept_foldl_fst | simp only [spine_mk, spine_fold] | split)

theorem State.turnOn_kept {z : Spine} {s : State} (h : Kept z s.spine) (n : Nat) :
    Kept z (State.turnOn s n).spine := by
  unfold State.turnOn
  repeat' (first
      | intro _ | with_reducible exact h | with_reducible assumption | with_reducible apply State.postPmb_kept
      | with_reducible apply State.moveRail_kept | with_reducible apply State.setRail_kept
      | with_reducible apply State.takeRailLane_kept | with_reducible apply kept_ite | with_reducible apply kept_foldl
      | with_reducible apply kept_foldl_fst | simp only [spine_mk, spine_fold] | split)

theorem State.railSlot_kept {z : Spine} {s : State} (h : Kept z s.spine) (n : Nat) :
    Kept z (State.railSlot s n).spine := by
  unfold State.railSlot
  repeat' (first
      | intro _ | with_reducible exact h | with_reducible assumption | with_reducible apply State.turnOn_kept
      | with_reducible apply State.setRail_kept | with_reducible apply State.moveRail_kept | with_reducible apply kept_ite
      | with_reducible apply kept_foldl | with_reducible apply kept_foldl_fst | simp only [spine_mk, spine_fold] | split)

theorem State.setFilter_kept {z : Spine} {s : State} (h : Kept z s.spine) (n : Nat) (c : Nat) (f : Filter) :
    Kept z (State.setFilter s n c f).spine := by
  unfold State.setFilter
  repeat' (first
      | intro _ | with_reducible exact h | with_reducible assumption | with_reducible apply State.setRail_kept
      | with_reducible apply kept_ite | with_reducible apply kept_foldl | with_reducible apply kept_foldl_fst
      | simp only [spine_mk, spine_fold] | split)

theorem State.onFailShutdown_kept {z : Spine} {s : State} (h : Kept z s.spine) (n : Nat) :
    Kept z (State.onFailShutdown s n).spine := by
  unfold State.onFailShutdown
  repeat' (first
      | intro _ | with_reducible exact h | with_reducible assumption | with_reducible apply State.localShutdown_kept
      | with_reducible apply kept_ite | with_reducible apply kept_foldl | with_reducible apply kept_foldl_fst
      | simp only [spine_mk, spine_fold] | split)

theorem State.enterOn_kept {z : Spine} {s : State} (h : Kept z s.spine) (n : Nat) :
    Kept z (State.enterOn s n).spine := by
  unfold State.enterOn
  repeat' (first
      | intro _ | with_reducible exact h | with_reducible assumption | with_reducible apply State.freeRailLane_kept
      | with_reducible apply State.moveRail_kept | with_reducible apply State.setRail_kept | with_reducible apply kept_ite
      | with_reducible apply kept_foldl | with_reducible apply kept_foldl_fst | simp only [spine_mk, spine_fold] | split)

theorem State.readStatus_kept {z : Spine} {s : State} (h : Kept z s.spine) (n : Nat) :
    Kept z (State.readStatus s n).spine := by
  unfold State.readStatus
  repeat' (first
      | intro _ | with_reducible exact h | with_reducible assumption | with_reducible apply State.postPmb_kept
      | with_reducible apply kept_ite | with_reducible apply kept_foldl | with_reducible apply kept_foldl_fst
      | simp only [spine_mk, spine_fold] | split)

theorem State.rampTimeout_kept {z : Spine} {s : State} (h : Kept z s.spine) (n : Nat) :
    Kept z (State.rampTimeout s n).spine := by
  unfold State.rampTimeout
  repeat' (first
      | intro _ | with_reducible exact h | with_reducible assumption | with_reducible apply State.bump_kept
      | with_reducible apply State.onFailShutdown_kept | with_reducible apply State.setFlag_kept
      | with_reducible apply State.release_kept | with_reducible apply State.enterOn_kept
      | with_reducible apply State.readStatus_kept | with_reducible apply State.raise_kept | with_reducible apply kept_ite
      | with_reducible apply kept_foldl | with_reducible apply kept_foldl_fst | simp only [spine_mk, spine_fold] | split)

theorem State.railQualify_kept {z : Spine} {s : State} (h : Kept z s.spine) (n : Nat) :
    Kept z (State.railQualify s n).spine := by
  unfold State.railQualify
  repeat' (first
      | intro _ | with_reducible exact h | with_reducible assumption | with_reducible apply State.enterOn_kept
      | with_reducible apply kept_ite | with_reducible apply kept_foldl | with_reducible apply kept_foldl_fst
      | simp only [spine_mk, spine_fold] | split)

theorem State.rampRow_kept {z : Spine} {s : State} (h : Kept z s.spine) (n : Nat) :
    Kept z (State.rampRow s n).spine := by
  unfold State.rampRow
  repeat' (first
      | intro _ | with_reducible exact h | with_reducible assumption | with_reducible apply State.rampTimeout_kept
      | with_reducible apply State.railQualify_kept | with_reducible apply kept_ite | with_reducible apply kept_foldl
      | with_reducible apply kept_foldl_fst | simp only [spine_mk, spine_fold] | split)

theorem State.qualifyAll_kept {z : Spine} {s : State} (h : Kept z s.spine) (n : Nat) :
    Kept z (State.qualifyAll s n).spine := by
  unfold State.qualifyAll
  repeat' (first
      | intro _ | with_reducible exact h | with_reducible assumption | with_reducible apply State.setFilter_kept
      | with_reducible apply State.qualify_kept | with_reducible apply State.rampRow_kept | with_reducible apply kept_ite
      | with_reducible apply kept_foldl | with_reducible apply kept_foldl_fst | simp only [spine_mk, spine_fold] | split)

theorem State.prereqTimeout_kept {z : Spine} {s : State} (h : Kept z s.spine) (n : Nat) :
    Kept z (State.prereqTimeout s n).spine := by
  unfold State.prereqTimeout
  repeat' (first
      | intro _ | with_reducible exact h | with_reducible assumption | with_reducible apply State.turnOn_kept
      | with_reducible apply State.bump_kept | with_reducible apply State.onFailShutdown_kept
      | with_reducible apply State.moveRail_kept | with_reducible apply State.setFlag_kept | with_reducible apply State.raise_kept
      | with_reducible apply kept_ite | with_reducible apply kept_foldl | with_reducible apply kept_foldl_fst
      | simp only [spine_mk, spine_fold] | split)

theorem State.ownRow_kept {z : Spine} {s : State} (h : Kept z s.spine) (n : Nat) :
    Kept z (State.ownRow s n).spine := by
  unfold State.ownRow
  repeat' (first
      | intro _ | with_reducible exact h | with_reducible assumption | with_reducible apply State.turnOn_kept
      | with_reducible apply State.railSlot_kept | with_reducible apply State.qualifyAll_kept
      | with_reducible apply State.rampRow_kept | with_reducible apply State.prereqTimeout_kept | with_reducible apply kept_ite
      | with_reducible apply kept_foldl | with_reducible apply kept_foldl_fst | simp only [spine_mk, spine_fold] | split)

theorem State.enterHoldoff_kept {z : Spine} {s : State} (h : Kept z s.spine)  :
    Kept z (State.enterHoldoff s).spine := by
  unfold State.enterHoldoff
  repeat' (first
      | intro _ | with_reducible exact h | with_reducible assumption | with_reducible apply kept_ite
      | with_reducible apply kept_foldl | with_reducible apply kept_foldl_fst | simp only [spine_mk, spine_fold] | split)

theorem State.reverse_kept {z : Spine} {s : State} (h : Kept z s.spine)  :
    Kept z (State.reverse s).spine := by
  unfold State.reverse
  repeat' (first
      | intro _ | with_reducible exact h | with_reducible assumption | with_reducible apply State.moveRail_kept
      | with_reducible apply State.raise_kept | with_reducible apply State.setLive_kept | with_reducible apply State.setRail_kept
      | with_reducible apply State.takeRailLane_kept | with_reducible apply State.showAnchor_kept
      | with_reducible apply State.bump_kept | with_reducible apply kept_ite | with_reducible apply kept_foldl
      | with_reducible apply kept_foldl_fst | simp only [spine_mk, spine_fold] | split)

theorem State.setupNext_kept {z : Spine} {s : State} (h : Kept z s.spine)  :
    Kept z (State.setupNext s).spine := by
  unfold State.setupNext
  repeat' (first
      | intro _ | with_reducible exact h | with_reducible assumption | with_reducible apply State.postPmb_kept
      | with_reducible apply kept_ite | with_reducible apply kept_foldl | with_reducible apply kept_foldl_fst
      | simp only [spine_mk, spine_fold] | split)

theorem State.enterSetup_kept {z : Spine} {s : State} (h : Kept z s.spine)  :
    Kept z (State.enterSetup s).spine := by
  unfold State.enterSetup
  repeat' (first
      | intro _ | with_reducible exact h | with_reducible assumption | with_reducible apply State.setupNext_kept
      | with_reducible apply State.setRail_kept | with_reducible apply kept_ite | with_reducible apply kept_foldl
      | with_reducible apply kept_foldl_fst | simp only [spine_mk, spine_fold] | split)

theorem State.cardRule_kept {z : Spine} {s : State} (h : Kept z s.spine)  :
    ∀ t, State.cardRule s = some t → Kept z t.spine := by
  intro t ht
  unfold State.cardRule at ht
  try dsimp only at ht
  repeat' split at ht
  all_goals first
    | contradiction
    | (have e := Option.some.inj ht
       subst e
       repeat' (first
           | intro _ | simp only [spine_mk, spine_fold] | with_reducible exact h | with_reducible assumption
           | with_reducible apply State.enterHoldoff_kept | with_reducible apply State.reverse_kept
           | with_reducible apply State.enterSetup_kept | with_reducible apply State.unlockRails_kept
           | with_reducible apply State.bump_kept | with_reducible apply kept_ite | with_reducible apply kept_foldl
           | with_reducible apply kept_foldl_fst | split | dsimp only))
    | (refine State.enterHoldoff_kept ?_ _ ht
       repeat' (first
           | intro _ | simp only [spine_mk, spine_fold] | with_reducible exact h | with_reducible assumption
           | with_reducible apply State.enterHoldoff_kept | with_reducible apply State.reverse_kept
           | with_reducible apply State.enterSetup_kept | with_reducible apply State.unlockRails_kept
           | with_reducible apply State.bump_kept | with_reducible apply kept_ite | with_reducible apply kept_foldl
           | with_reducible apply kept_foldl_fst | split | dsimp only))

theorem State.settleOne_kept {z : Spine} {s : State} (h : Kept z s.spine)  :
    ∀ t, State.settleOne s = some t → Kept z t.spine := by
  intro t ht
  unfold State.settleOne at ht
  dsimp only at ht
  split at ht
  · rw [← Option.some.inj ht]
    exact State.ownRow_kept h _
  · split at ht
    · rw [← Option.some.inj ht]
      exact State.reviewRoles_kept h _
    · split at ht
      · rw [← Option.some.inj ht]
        exact State.depRule_kept (State.clearCauses_kept h) _ ‹_›
      · exact State.cardRule_kept (State.clearCauses_kept h) _ ht

theorem State.settleFor_kept {z : Spine} {s : State} (h : Kept z s.spine) (fuel : Nat) :
    Kept z (State.settleFor fuel s).spine := by
  induction fuel generalizing s with
  | zero => unfold State.settleFor; exact h
  | succ f ih =>
    unfold State.settleFor
    split
    · exact ih (State.settleOne_kept h _ ‹_›)
    · exact State.clearCauses_kept h

theorem State.settle_kept {z : Spine} {s : State} (h : Kept z s.spine)  :
    Kept z (State.settle s).spine := by
  unfold State.settle
  repeat' (first
      | intro _ | with_reducible exact h | with_reducible assumption | with_reducible apply State.settleFor_kept
      | with_reducible apply State.reviewRoles_kept | with_reducible apply kept_ite | with_reducible apply kept_foldl
      | with_reducible apply kept_foldl_fst | simp only [spine_mk, spine_fold] | split)

theorem State.clearLatches_kept {z : Spine} {s : State} (h : Kept z s.spine)  :
    Kept z (State.clearLatches s).spine := by
  unfold State.clearLatches
  repeat' (first
      | intro _ | with_reducible exact h | with_reducible assumption | with_reducible apply kept_ite
      | with_reducible apply kept_foldl | with_reducible apply kept_foldl_fst | simp only [spine_mk, spine_fold] | split)

theorem State.heldLatches_kept {z : Spine} {s : State} (h : Kept z s.spine)  :
    Kept z (State.heldLatches s).spine := by
  unfold State.heldLatches
  repeat' (first
      | intro _ | with_reducible exact h | with_reducible assumption | with_reducible apply State.clearLatches_kept
      | with_reducible apply kept_ite | with_reducible apply kept_foldl | with_reducible apply kept_foldl_fst
      | simp only [spine_mk, spine_fold] | split)

theorem State.applySettle_kept {z : Spine} {s : State} (h : Kept z s.spine)  :
    Kept z (State.applySettle s).spine := by
  unfold State.applySettle
  repeat' (first
      | intro _ | with_reducible exact h | with_reducible assumption | with_reducible apply State.setUpd_kept
      | with_reducible apply State.writeRecord_kept | with_reducible apply kept_ite | with_reducible apply kept_foldl
      | with_reducible apply kept_foldl_fst | simp only [spine_mk, spine_fold] | split)

theorem State.rest_kept {z : Spine} {s : State} (h : Kept z s.spine)  :
    Kept z (State.rest s).spine := by
  unfold State.rest
  repeat' (first
      | intro _ | with_reducible exact h | with_reducible assumption | with_reducible apply State.joined_kept
      | with_reducible apply State.powerReview_kept | with_reducible apply State.phaseSettle_kept
      | with_reducible apply State.governed_kept | with_reducible apply State.healthSettle_kept
      | with_reducible apply State.leftReserve_kept | with_reducible apply State.settle_kept
      | with_reducible apply State.heldLatches_kept | with_reducible apply State.applySettle_kept | with_reducible apply kept_ite
      | with_reducible apply kept_foldl | with_reducible apply kept_foldl_fst | simp only [spine_mk, spine_fold] | split)

theorem State.releasePins_kept {z : Spine} {s : State} (h : Kept z s.spine)  :
    Kept z (State.releasePins s).spine := by
  unfold State.releasePins
  repeat' (first
      | intro _ | with_reducible exact h | with_reducible assumption | with_reducible apply kept_ite
      | with_reducible apply kept_foldl | with_reducible apply kept_foldl_fst | simp only [spine_mk, spine_fold] | split)

theorem State.drive_kept {z : Spine} {s : State} (h : Kept z s.spine)  :
    Kept z (State.drive s).spine := by
  unfold State.drive
  repeat' (first
      | intro _ | with_reducible exact h | with_reducible assumption | with_reducible apply State.releasePins_kept
      | with_reducible apply kept_ite | with_reducible apply kept_foldl | with_reducible apply kept_foldl_fst
      | simp only [spine_mk, spine_fold] | split)

theorem State.freezeSinks_kept {z : Spine} {s : State} (h : Kept z s.spine)  :
    Kept z (State.freezeSinks s).spine := by
  unfold State.freezeSinks
  repeat' (first
      | intro _ | with_reducible exact h | with_reducible assumption | with_reducible apply State.setSink_kept
      | with_reducible apply kept_ite | with_reducible apply kept_foldl | with_reducible apply kept_foldl_fst
      | simp only [spine_mk, spine_fold] | split)

theorem State.stopClocks_kept {z : Spine} {s : State} (h : Kept z s.spine)  :
    Kept z (State.stopClocks s).spine := by
  unfold State.stopClocks
  repeat' (first
      | intro _ | with_reducible exact h | with_reducible assumption | with_reducible apply State.drive_kept
      | with_reducible apply State.setLive_kept | with_reducible apply State.freezeSinks_kept | with_reducible apply kept_ite
      | with_reducible apply kept_foldl | with_reducible apply kept_foldl_fst | simp only [spine_mk, spine_fold] | split)

theorem State.freezeIfLow_kept {z : Spine} {s : State} (h : Kept z s.spine)  :
    Kept z (State.freezeIfLow s).spine := by
  unfold State.freezeIfLow
  repeat' (first
      | intro _ | with_reducible exact h | with_reducible assumption | with_reducible apply State.stopClocks_kept
      | with_reducible apply kept_ite | with_reducible apply kept_foldl | with_reducible apply kept_foldl_fst
      | simp only [spine_mk, spine_fold] | split)

theorem State.after_kept {z : Spine} {s : State} (h : Kept z s.spine)  :
    Kept z (State.after s).spine := by
  unfold State.after
  repeat' (first
      | intro _ | with_reducible exact h | with_reducible assumption | with_reducible apply State.rest_kept
      | with_reducible apply State.freezeIfLow_kept | with_reducible apply State.settle_kept | with_reducible apply kept_ite
      | with_reducible apply kept_foldl | with_reducible apply kept_foldl_fst | simp only [spine_mk, spine_fold] | split)

theorem State.writeRingHeader_kept {z : Spine} {s : State} (h : Kept z s.spine) (p : RingPage) :
    Kept z (State.writeRingHeader s p).spine := by
  unfold State.writeRingHeader
  repeat' (first
      | intro _ | with_reducible exact h | with_reducible assumption | with_reducible apply State.writeBytes_kept
      | with_reducible apply kept_ite | with_reducible apply kept_foldl | with_reducible apply kept_foldl_fst
      | simp only [spine_mk, spine_fold] | split)

theorem State.flushRingPage_kept {z : Spine} {s : State} (h : Kept z s.spine) (i : Nat) :
    Kept z (State.flushRingPage s i).spine := by
  unfold State.flushRingPage
  repeat' (first
      | intro _ | with_reducible exact h | with_reducible assumption | with_reducible apply State.writeRingHeader_kept
      | with_reducible apply kept_ite | with_reducible apply kept_foldl | with_reducible apply kept_foldl_fst
      | simp only [spine_mk, spine_fold] | split)

theorem State.startPage_kept {z : Spine} {s0 : State} (h : Kept z s0.spine) (e : Etch) :
    Kept z (State.startPage s0 e).spine := by
  unfold State.startPage
  repeat' (first
      | intro _ | with_reducible exact h | with_reducible assumption | with_reducible apply State.flushRingPage_kept
      | with_reducible apply kept_ite | with_reducible apply kept_foldl | with_reducible apply kept_foldl_fst
      | simp only [spine_mk, spine_fold] | split)

theorem State.endEtch_kept {z : Spine} {s : State} (h : Kept z s.spine) (e : Etch) (unwritten : List Nat) :
    Kept z (State.endEtch s e unwritten).spine := by
  unfold State.endEtch
  repeat' (first
      | intro _ | with_reducible exact h | with_reducible assumption | with_reducible apply State.etchIdle_kept
      | with_reducible apply State.postFollowOn_kept | with_reducible apply State.freeLane_kept | with_reducible apply kept_ite
      | with_reducible apply kept_foldl | with_reducible apply kept_foldl_fst | simp only [spine_mk, spine_fold] | split)

theorem State.afterPage_kept {z : Spine} {s : State} (h : Kept z s.spine) (e : Etch) (rest : List Nat) (failed : List Nat) :
    Kept z (State.afterPage s e rest failed).spine := by
  unfold State.afterPage
  repeat' (first
      | intro _ | with_reducible exact h | with_reducible assumption | with_reducible apply State.startPage_kept
      | with_reducible apply State.raise_kept | with_reducible apply State.endEtch_kept | with_reducible apply State.bump_kept
      | with_reducible apply kept_ite | with_reducible apply kept_foldl | with_reducible apply kept_foldl_fst
      | simp only [spine_mk, spine_fold] | split)

theorem State.releaseCapture_kept {z : Spine} {s : State} (h : Kept z s.spine)  :
    Kept z (State.releaseCapture s).spine := by
  unfold State.releaseCapture
  repeat' (first
      | intro _ | with_reducible exact h | with_reducible assumption | with_reducible apply kept_ite
      | with_reducible apply kept_foldl | with_reducible apply kept_foldl_fst | simp only [spine_mk, spine_fold] | split)

theorem State.publishZ_kept {z : Spine} {s : State} (h : Kept z s.spine) (n : Nat) (j : Nat) (ls : List Line) :
    Kept z (State.publishZ s n j ls).spine := by
  unfold State.publishZ
  repeat' (first
      | intro _ | with_reducible exact h | with_reducible assumption | with_reducible apply State.setLive_kept
      | with_reducible apply kept_ite | with_reducible apply kept_foldl | with_reducible apply kept_foldl_fst
      | simp only [spine_mk, spine_fold] | split)

theorem State.setAll_kept {z : Spine} {s : State} (h : Kept z s.spine) (l : List (Nat × Nat)) :
    Kept z (State.setAll s l).spine := by
  unfold State.setAll
  repeat' (first
      | intro _ | with_reducible exact h | with_reducible assumption | with_reducible apply State.setLive_kept
      | with_reducible apply kept_ite | with_reducible apply kept_foldl | with_reducible apply kept_foldl_fst
      | simp only [spine_mk, spine_fold] | split)

theorem State.runDone_kept {z : Spine} {s : State} (h : Kept z s.spine) (n : Nat) (v : List Int) (i : List Int) (ls : List Line) :
    Kept z (State.runDone s n v i ls).spine := by
  unfold State.runDone
  repeat' (first
      | intro _ | with_reducible exact h | with_reducible assumption | with_reducible apply State.releaseCapture_kept
      | with_reducible apply State.writeBytes_kept | with_reducible apply State.publishZ_kept
      | with_reducible apply State.raise_kept | with_reducible apply State.stipNext_kept | with_reducible apply State.setStip_kept
      | with_reducible apply State.setAll_kept | with_reducible apply State.bump_kept | with_reducible apply State.setPers_kept
      | with_reducible apply kept_ite | with_reducible apply kept_foldl | with_reducible apply kept_foldl_fst
      | simp only [spine_mk, spine_fold] | split)

theorem State.analysisDone_kept {z : Spine} {s : State} (h : Kept z s.spine) (n : Nat) :
    Kept z (State.analysisDone s n).spine := by
  unfold State.analysisDone
  repeat' (first
      | intro _ | with_reducible exact h | with_reducible assumption | with_reducible apply State.runDone_kept
      | with_reducible apply State.stipEnd_kept | with_reducible apply kept_ite | with_reducible apply kept_foldl
      | with_reducible apply kept_foldl_fst | simp only [spine_mk, spine_fold] | split)

theorem State.setLatches_kept {z : Spine} {s : State} (h : Kept z s.spine) (p : Nat) (ls : List Latch) :
    Kept z (State.setLatches s p ls).spine := by
  unfold State.setLatches
  repeat' (first
      | intro _ | with_reducible exact h | with_reducible assumption | with_reducible apply State.setPort_kept
      | with_reducible apply kept_ite | with_reducible apply kept_foldl | with_reducible apply kept_foldl_fst
      | simp only [spine_mk, spine_fold] | split)

theorem State.readHalf_kept {z : Spine} {s : State} (h : Kept z s.spine) (p : Nat) (key : Nat) (pair : Nat) (high : Bool) :
    Kept z (State.readHalf s p key pair high).1.spine := by
  unfold State.readHalf
  repeat' (first
      | intro _ | with_reducible exact h | with_reducible assumption | with_reducible apply State.setLatches_kept
      | with_reducible apply kept_ite | with_reducible apply kept_foldl | with_reducible apply kept_foldl_fst
      | simp only [spine_mk, spine_fold] | split)

theorem State.readBadGroups_kept {z : Spine} {s : State} (h : Kept z s.spine) (a : Nat) (n : Nat) :
    Kept z (State.readBadGroups s a n).spine := by
  unfold State.readBadGroups
  repeat' (first
      | intro _ | with_reducible exact h | with_reducible assumption | with_reducible apply State.raise_kept
      | with_reducible apply kept_ite | with_reducible apply kept_foldl | with_reducible apply kept_foldl_fst
      | simp only [spine_mk, spine_fold] | split)

theorem State.mirrorOne_kept {z : Spine} {s : State} (h : Kept z s.spine) (key : Nat) (v : Nat) (target : Nat) :
    Kept z (State.mirrorOne s key v target).spine := by
  unfold State.mirrorOne
  repeat' (first
      | intro _ | with_reducible exact h | with_reducible assumption | with_reducible apply State.bump_kept
      | with_reducible apply kept_ite | with_reducible apply kept_foldl | with_reducible apply kept_foldl_fst
      | simp only [spine_mk, spine_fold] | split)

theorem State.mirror_kept {z : Spine} {s : State} (h : Kept z s.spine) (key : Nat) (v : Nat) :
    Kept z (State.mirror s key v).spine := by
  unfold State.mirror
  repeat' (first
      | intro _ | with_reducible exact h | with_reducible assumption | with_reducible apply State.mirrorOne_kept
      | with_reducible apply kept_ite | with_reducible apply kept_foldl | with_reducible apply kept_foldl_fst
      | simp only [spine_mk, spine_fold] | split)

theorem State.writeValue_kept {z : Spine} {s : State} (h : Kept z s.spine) (p : Nat) (key : Nat) (v : Nat) :
    Kept z (State.writeValue s p key v).spine := by
  unfold State.writeValue
  repeat' (first
      | intro _ | with_reducible exact h | with_reducible assumption | with_reducible apply State.setPort_kept
      | with_reducible apply State.setPers_kept | with_reducible apply State.setLive_kept | with_reducible apply State.mirror_kept
      | with_reducible apply kept_ite | with_reducible apply kept_foldl | with_reducible apply kept_foldl_fst
      | simp only [spine_mk, spine_fold] | split)

theorem State.answerMember_kept {z : Spine} {s : State} (h : Kept z s.spine) (p : Nat) (m : Member) :
    Kept z (State.answerMember s p m).1.spine := by
  unfold State.answerMember
  repeat' (first
      | intro _ | with_reducible exact h | with_reducible assumption | with_reducible apply State.readHalf_kept
      | with_reducible apply State.readBadGroups_kept | with_reducible apply State.writeValue_kept | with_reducible apply kept_ite
      | with_reducible apply kept_foldl | with_reducible apply kept_foldl_fst | simp only [spine_mk, spine_fold] | split)

theorem State.answerAll_kept {z : Spine} {s : State} (h : Kept z s.spine) (p : Nat) (ms : List Member) :
    Kept z (State.answerAll s p ms).1.spine := by
  induction ms generalizing s p with
  | nil =>
    unfold State.answerAll
    exact h
  | cons m r ih =>
    unfold State.answerAll
    repeat' (first
        | intro _ | simp only [spine_mk, spine_fold] | with_reducible exact h | with_reducible assumption
        | with_reducible apply ih | with_reducible apply State.answerMember_kept | with_reducible apply kept_ite
        | with_reducible apply kept_foldl | with_reducible apply kept_foldl_fst | split | dsimp only)

theorem State.answerEach_kept {z : Spine} {s : State} (h : Kept z s.spine) (status : Nat) (ms : List Member) :
    Kept z (State.answerEach s status ms).st.spine := by
  unfold State.answerEach
  repeat' (first
      | intro _ | with_reducible exact h | with_reducible assumption | with_reducible apply kept_ite
      | with_reducible apply kept_foldl | with_reducible apply kept_foldl_fst | simp only [spine_mk, spine_fold] | split)

theorem State.updFail_kept {z : Spine} {s : State} (h : Kept z s.spine) (kind : Nat) (addr : Nat) (reason : Nat) :
    Kept z (State.updFail s kind addr reason).spine := by
  unfold State.updFail
  repeat' (first
      | intro _ | with_reducible exact h | with_reducible assumption | with_reducible apply State.updReason_kept
      | with_reducible apply State.setUpd_kept | with_reducible apply State.raise_kept | with_reducible apply kept_ite
      | with_reducible apply kept_foldl | with_reducible apply kept_foldl_fst | simp only [spine_mk, spine_fold] | split)

theorem State.setNewBank_kept {z : Spine} {s : State} (h : Kept z s.spine) (x : BankState) :
    Kept z (State.setNewBank s x).spine := by
  unfold State.setNewBank
  repeat' (first
      | intro _ | with_reducible exact h | with_reducible assumption | with_reducible apply State.writeRecord_kept
      | with_reducible apply kept_ite | with_reducible apply kept_foldl | with_reducible apply kept_foldl_fst
      | simp only [spine_mk, spine_fold] | split)

theorem State.applyFail_kept {z : Spine} {s : State} (h : Kept z s.spine) (kind : Nat) (addr : Nat) (reason : Nat) :
    Kept z (State.applyFail s kind addr reason).spine := by
  unfold State.applyFail
  repeat' (first
      | intro _ | with_reducible exact h | with_reducible assumption | with_reducible apply State.updFail_kept
      | with_reducible apply State.setNewBank_kept | with_reducible apply kept_ite | with_reducible apply kept_foldl
      | with_reducible apply kept_foldl_fst | simp only [spine_mk, spine_fold] | split)

theorem State.grantPower_kept {z : Spine} {s : State} (h : Kept z s.spine) (n : Nat) (g : Nat) :
    Kept z (State.grantPower s n g).spine := by
  unfold State.grantPower
  repeat' (first
      | intro _ | with_reducible exact h | with_reducible assumption | with_reducible apply State.setSink_kept
      | with_reducible apply State.bump_kept | with_reducible apply kept_ite | with_reducible apply kept_foldl
      | with_reducible apply kept_foldl_fst | simp only [spine_mk, spine_fold] | split)

theorem State.serveOne_kept {z : Spine} {s : State} (h : Kept z s.spine) (n : Nat) :
    Kept z (State.serveOne s n).spine := by
  unfold State.serveOne
  repeat' (first
      | intro _ | with_reducible exact h | with_reducible assumption | with_reducible apply State.grantPower_kept
      | with_reducible apply State.setSink_kept | with_reducible apply State.trimGrants_kept | with_reducible apply kept_ite
      | with_reducible apply kept_foldl | with_reducible apply kept_foldl_fst | simp only [spine_mk, spine_fold] | split)

theorem State.serveFrom_kept {z : Spine} {s : State} (h : Kept z s.spine) (fuel : Nat) (served : List Nat) :
    Kept z (State.serveFrom fuel s served).spine := by
  induction fuel generalizing s served with
  | zero =>
    unfold State.serveFrom
    exact h
  | succ f ih =>
    unfold State.serveFrom
    repeat' (first
        | intro _ | simp only [spine_mk, spine_fold] | with_reducible exact h | with_reducible assumption
        | with_reducible apply ih | with_reducible apply State.serveOne_kept | with_reducible apply kept_ite
        | with_reducible apply kept_foldl | with_reducible apply kept_foldl_fst | split | dsimp only)

theorem State.servePower_kept {z : Spine} {s : State} (h : Kept z s.spine)  :
    Kept z (State.servePower s).spine := by
  unfold State.servePower
  repeat' (first
      | intro _ | with_reducible exact h | with_reducible assumption | with_reducible apply State.reviewStandby_kept
      | with_reducible apply State.serveFrom_kept | with_reducible apply kept_ite | with_reducible apply kept_foldl
      | with_reducible apply kept_foldl_fst | simp only [spine_mk, spine_fold] | split)

theorem State.applyLoad_kept {z : Spine} {s : State} (h : Kept z s.spine) (n : Nat) (port : Nat) :
    Kept z (State.applyLoad s n port).spine := by
  unfold State.applyLoad
  repeat' (first
      | intro _ | with_reducible exact h | with_reducible assumption | with_reducible apply State.grantPower_kept
      | with_reducible apply State.setSink_kept | with_reducible apply State.freePower_kept
      | with_reducible apply State.lapseDone_kept | with_reducible apply State.servePower_kept | with_reducible apply kept_ite
      | with_reducible apply kept_foldl | with_reducible apply kept_foldl_fst | simp only [spine_mk, spine_fold] | split)

theorem State.formArea_kept {z : Spine} {s : State} (h : Kept z s.spine) (table : List Byte) :
    Kept z (State.formArea s table).spine := by
  unfold State.formArea
  have key : ∀ (o : FMap Nat) (t : Store), Kept z ({ s with mem := s.mem.filter (fun c => !(decide (areaAt (1 - s.activeArea) ≤ c.1) &&
      decide (c.1 < areaAt (1 - s.activeArea) + 3 * 16384))), otherArea := o, store := t }).spine :=
    fun _ _ => ⟨h.1, h.2, fun w => Memory.wf_sublist List.filter_sublist (h.3 w), h.4, h.5⟩
  exact State.setPers_kept (State.writeBytes_kept (State.writeBytes_kept (key _ _) _ _) _ _) _ _

theorem State.applyOutputDone_kept {z : Spine} {s : State} (h : Kept z s.spine)  :
    Kept z (State.applyOutputDone s).spine := by
  unfold State.applyOutputDone
  repeat' (first
      | intro _ | with_reducible exact h | with_reducible assumption | with_reducible apply State.postEtch_kept
      | with_reducible apply State.formArea_kept | with_reducible apply State.applyFail_kept | with_reducible apply kept_ite
      | with_reducible apply kept_foldl | with_reducible apply kept_foldl_fst | simp only [spine_mk, spine_fold] | split)

theorem State.ringStore_kept {z : Spine} {s : State} (h : Kept z s.spine) (place : Option (Nat × Nat)) (code : Nat) :
    Kept z (State.ringStore s place code).spine := by
  unfold State.ringStore
  repeat' (first
      | intro _ | with_reducible exact h | with_reducible assumption | with_reducible apply State.writeBytes_kept
      | with_reducible apply kept_ite | with_reducible apply kept_foldl | with_reducible apply kept_foldl_fst
      | simp only [spine_mk, spine_fold] | split)

theorem State.storeResult_kept {z : Spine} {s : State} (h : Kept z s.spine) (c : Nat) (code : Int) (sat : Bool) (signed : Bool)
    (urgent : Bool) (gang : Bool) (slc : Nat) (st : Stamp) (place : Option (Nat × Nat)) :
    Kept z (State.storeResult s c code sat signed urgent gang slc st place).spine := by
  unfold State.storeResult
  repeat' (first
      | intro _ | with_reducible exact h | with_reducible assumption | with_reducible apply State.setLive_kept
      | with_reducible apply State.ringStore_kept | with_reducible apply State.bumpLive_kept | with_reducible apply kept_ite
      | with_reducible apply kept_foldl | with_reducible apply kept_foldl_fst | simp only [spine_mk, spine_fold] | split)

theorem State.finishGang_kept {z : Spine} {s : State} (h : Kept z s.spine) (r : GangRun) (present : Bool) (g : GangSample) :
    Kept z (State.finishGang r present s g).spine := by
  unfold State.finishGang
  repeat' (first
      | intro _ | with_reducible exact h | with_reducible assumption | with_reducible apply State.writeBytes_kept
      | with_reducible apply State.storeResult_kept | with_reducible apply State.setLive_kept | with_reducible apply kept_ite
      | with_reducible apply kept_foldl | with_reducible apply kept_foldl_fst | simp only [spine_mk, spine_fold] | split)

theorem State.retireRun_kept {z : Spine} {s : State} (h : Kept z s.spine)  :
    Kept z (State.retireRun s).spine := by
  unfold State.retireRun
  repeat' (first
      | intro _ | with_reducible exact h | with_reducible assumption | with_reducible apply State.finishGang_kept
      | with_reducible apply kept_ite | with_reducible apply kept_foldl | with_reducible apply kept_foldl_fst
      | simp only [spine_mk, spine_fold] | split)

theorem State.armCapture_kept {z : Spine} {s : State} (h : Kept z s.spine) (owner : CapOwner) (g : Nat) (k : Nat) (chs : List Nat)
    (samples : Nat) (whenMode : Nat) (beat : Count) (offset : Nat) :
    Kept z (State.armCapture s owner g k chs samples whenMode beat offset).spine := by
  unfold State.armCapture
  repeat' (first
      | intro _ | with_reducible exact h | with_reducible assumption | with_reducible apply State.retireRun_kept
      | with_reducible apply State.setLive_kept | with_reducible apply State.postLane_kept | with_reducible apply kept_ite
      | with_reducible apply kept_foldl | with_reducible apply kept_foldl_fst | simp only [spine_mk, spine_fold] | split)

theorem State.armRail_kept {z : Spine} {s : State} (h : Kept z s.spine) (n : Nat) (slot : Nat) (late : Bool) :
    Kept z (State.armRail s n slot late).spine := by
  unfold State.armRail
  repeat' (first
      | intro _ | with_reducible exact h | with_reducible assumption | with_reducible apply State.setLive_kept
      | with_reducible apply State.moveRail_kept | with_reducible apply State.lateStart_kept
      | with_reducible apply State.setFlag_kept | with_reducible apply State.setRail_kept | with_reducible apply kept_ite
      | with_reducible apply kept_foldl | with_reducible apply kept_foldl_fst | simp only [spine_mk, spine_fold] | split)

theorem State.fatal_kept {z : Spine} {s : State} (h : Kept z s.spine) (m : Msg) (latching : Bool) :
    Kept z (State.fatal s m latching).spine := by
  unfold State.fatal
  repeat' (first
      | intro _ | with_reducible exact h | with_reducible assumption | with_reducible apply State.bump_kept
      | with_reducible apply State.localShutdown_kept | with_reducible apply State.setPers_kept | with_reducible apply kept_ite
      | with_reducible apply kept_foldl | with_reducible apply kept_foldl_fst | simp only [spine_mk, spine_fold] | split)

theorem State.countMsg_kept {z : Spine} {s : State} (h : Kept z s.spine) (m : Msg) :
    Kept z (State.countMsg s m).spine := by
  unfold State.countMsg
  repeat' (first
      | intro _ | with_reducible exact h | with_reducible assumption | with_reducible apply State.bump_kept
      | with_reducible apply State.setLive_kept | with_reducible apply kept_ite | with_reducible apply kept_foldl
      | with_reducible apply kept_foldl_fst | simp only [spine_mk, spine_fold] | split)

theorem State.pulse_kept {z : Spine} {s : State} (h : Kept z s.spine)  :
    Kept z (State.pulse s).spine := by
  unfold State.pulse
  repeat' (first
      | intro _ | with_reducible exact h | with_reducible assumption | with_reducible apply State.bump_kept
      | with_reducible apply kept_ite | with_reducible apply kept_foldl | with_reducible apply kept_foldl_fst
      | simp only [spine_mk, spine_fold] | split)

theorem State.carryStep_kept {z : Spine} {s : State} (h : Kept z s.spine) (c : Nat × Bool) :
    Kept z (State.carryStep s c).spine := by
  unfold State.carryStep
  repeat' (first
      | intro _ | with_reducible exact h | with_reducible assumption | with_reducible apply State.setPers_kept
      | with_reducible apply kept_ite | with_reducible apply kept_foldl | with_reducible apply kept_foldl_fst
      | simp only [spine_mk, spine_fold] | split)

theorem State.finishCarry_kept {z : Spine} {s : State} (h : Kept z s.spine) (key : Nat) :
    Kept z (State.finishCarry s key).spine := by
  unfold State.finishCarry
  repeat' (first
      | intro _ | with_reducible exact h | with_reducible assumption | with_reducible apply State.carryStep_kept
      | with_reducible apply kept_ite | with_reducible apply kept_foldl | with_reducible apply kept_foldl_fst
      | simp only [spine_mk, spine_fold] | split)

theorem State.noteTag_kept {z : Spine} {s : State} (h : Kept z s.spine) (key : Nat) :
    Kept z (State.noteTag s key).spine := by
  unfold State.noteTag
  repeat' (first
      | intro _ | with_reducible exact h | with_reducible assumption | with_reducible apply State.setLive_kept
      | with_reducible apply kept_ite | with_reducible apply kept_foldl | with_reducible apply kept_foldl_fst
      | simp only [spine_mk, spine_fold] | split)

end Sys2Proof.Machine
end

