-- ==== Sys2Proof/Laws/Kept3.lean ====
section
/-! SUPPORT. What every operation keeps of the spine (part 3 of 7): one lemma for each operation on the state. -/

set_option linter.unusedSimpArgs false

namespace Sys2Proof.Machine

theorem State.wideAdd_kept {z : Spine} {s0 : State} (h : Kept z s0.spine) (key : Nat) (d : Nat) :
    Kept z (State.wideAdd s0 key d).spine := by
  unfold State.wideAdd
  repeat' (first
      | intro _ | with_reducible exact h | with_reducible assumption | with_reducible apply State.finishCarry_kept
      | with_reducible apply State.addHigh_kept | with_reducible apply State.noteTag_kept
      | with_reducible apply State.setPers_kept | with_reducible apply kept_ite | with_reducible apply kept_foldl
      | with_reducible apply kept_foldl_fst | simp only [spine_mk, spine_fold] | split)

theorem State.handOff_kept {z : Spine} {s : State} (h : Kept z s.spine) (word : Nat) (st : Stamp) (folded : Bool) (partner : Option Nat)
    (opening : Bool) :
    Kept z (State.handOff s word st folded partner opening).spine := by
  unfold State.handOff
  repeat' (first
      | intro _ | with_reducible exact h | with_reducible assumption | with_reducible apply State.wideAdd_kept
      | with_reducible apply State.bump_kept | with_reducible apply kept_ite | with_reducible apply kept_foldl
      | with_reducible apply kept_foldl_fst | simp only [spine_mk, spine_fold] | split)

theorem State.queueMsg_kept {z : Spine} {s : State} (h : Kept z s.spine) (m : Msg) (cls : MClass) (react : MClass) (acted : Bool)
    (ph : CollPhase) (opening : Bool) :
    Kept z (State.queueMsg s m cls react acted ph opening).spine := by
  unfold State.queueMsg
  repeat' (first
      | intro _ | with_reducible exact h | with_reducible assumption | with_reducible apply State.bump_kept
      | with_reducible apply State.handOff_kept | with_reducible apply kept_ite | with_reducible apply kept_foldl
      | with_reducible apply kept_foldl_fst | simp only [spine_mk, spine_fold] | split)

theorem State.noteRailWord_kept {z : Spine} {s : State} (h : Kept z s.spine) (m : Msg) (word : Nat) (fatal : Bool) :
    Kept z (State.noteRailWord s m word fatal).spine := by
  unfold State.noteRailWord
  repeat' (first
      | intro _ | with_reducible exact h | with_reducible assumption | with_reducible apply kept_ite
      | with_reducible apply kept_foldl | with_reducible apply kept_foldl_fst | simp only [spine_mk, spine_fold] | split)

theorem State.keepLatched_kept {z : Spine} {s : State} (h : Kept z s.spine)  :
    Kept z (State.keepLatched s).spine := by
  unfold State.keepLatched
  repeat' (first
      | intro _ | with_reducible exact h | with_reducible assumption | with_reducible apply State.setPers_kept
      | with_reducible apply kept_ite | with_reducible apply kept_foldl | with_reducible apply kept_foldl_fst
      | simp only [spine_mk, spine_fold] | split)

theorem State.openWindow_kept {z : Spine} {s : State} (h : Kept z s.spine) (st : Stamp) :
    Kept z (State.openWindow s st).spine := by
  unfold State.openWindow
  repeat' (first
      | intro _ | with_reducible exact h | with_reducible assumption | with_reducible apply kept_ite
      | with_reducible apply kept_foldl | with_reducible apply kept_foldl_fst | simp only [spine_mk, spine_fold] | split)

theorem State.episode_kept {z : Spine} {s : State} (h : Kept z s.spine) (m : Msg) (latching : Bool) :
    Kept z (State.episode s m latching).1.spine := by
  unfold State.episode
  repeat' (first
      | intro _ | with_reducible exact h | with_reducible assumption | with_reducible apply State.keepLatched_kept
      | with_reducible apply State.openWindow_kept | with_reducible apply State.bump_kept
      | with_reducible apply State.setPers_kept | with_reducible apply kept_ite | with_reducible apply kept_foldl
      | with_reducible apply kept_foldl_fst | simp only [spine_mk, spine_fold] | split)

theorem State.arrive_kept {z : Spine} {s : State} (h : Kept z s.spine) (m : Msg) :
    Kept z (State.arrive s m).spine := by
  unfold State.arrive
  repeat' (first
      | intro _ | with_reducible exact h | with_reducible assumption | with_reducible apply State.ringTrigger_kept
      | with_reducible apply State.fatal_kept | with_reducible apply State.countMsg_kept | with_reducible apply State.pulse_kept
      | with_reducible apply State.queueMsg_kept | with_reducible apply State.bump_kept
      | with_reducible apply State.noteRailWord_kept | with_reducible apply State.episode_kept | with_reducible apply kept_ite
      | with_reducible apply kept_foldl | with_reducible apply kept_foldl_fst | simp only [spine_mk, spine_fold] | split)

theorem State.auditTolls_kept {z : Spine} {s : State} (h : Kept z s.spine)  :
    Kept z (State.auditTolls s).spine := by
  unfold State.auditTolls
  repeat' (first
      | intro _ | with_reducible exact h | with_reducible assumption | with_reducible apply State.bump_kept
      | with_reducible apply State.raise_kept | with_reducible apply kept_ite | with_reducible apply kept_foldl
      | with_reducible apply kept_foldl_fst | simp only [spine_mk, spine_fold] | split)

theorem State.sendBale_kept {z : Spine} {s : State} (h : Kept z s.spine) (body : List Byte) :
    Kept z (State.sendBale s body).spine := by
  unfold State.sendBale
  repeat' (first
      | intro _ | with_reducible exact h | with_reducible assumption | with_reducible apply kept_ite
      | with_reducible apply kept_foldl | with_reducible apply kept_foldl_fst | simp only [spine_mk, spine_fold] | split)

theorem State.deliver_kept {z : Spine} {s : State} (h : Kept z s.spine) (p : Nat) (body : List Byte) (as : List Answer) :
    Kept z (State.deliver s p body as).spine := by
  unfold State.deliver
  repeat' (first
      | intro _ | with_reducible exact h | with_reducible assumption | with_reducible apply State.sendBale_kept
      | with_reducible apply State.setPort_kept | with_reducible apply kept_ite | with_reducible apply kept_foldl
      | with_reducible apply kept_foldl_fst | simp only [spine_mk, spine_fold] | split)

theorem State.authFail_kept {z : Spine} {s : State} (h : Kept z s.spine) (p : Nat) (seq : Nat) :
    Kept z (State.authFail s p seq).spine := by
  unfold State.authFail
  repeat' (first
      | intro _ | with_reducible exact h | with_reducible assumption | with_reducible apply State.setPort_kept
      | with_reducible apply State.bump_kept | with_reducible apply State.deliver_kept | with_reducible apply State.raise_kept
      | with_reducible apply kept_ite | with_reducible apply kept_foldl | with_reducible apply kept_foldl_fst
      | simp only [spine_mk, spine_fold] | split)

theorem State.autoEtchDue_kept {z : Spine} {s : State} (h : Kept z s.spine)  :
    Kept z (State.autoEtchDue s).spine := by
  unfold State.autoEtchDue
  repeat' (first
      | intro _ | with_reducible exact h | with_reducible assumption | with_reducible apply State.postEtch_kept
      | with_reducible apply kept_ite | with_reducible apply kept_foldl | with_reducible apply kept_foldl_fst
      | simp only [spine_mk, spine_fold] | split)

theorem State.setBale_kept {z : Spine} {s : State} (h : Kept z s.spine) (b : Bale) :
    Kept z (State.setBale s b).spine := by
  unfold State.setBale
  repeat' (first
      | intro _ | with_reducible exact h | with_reducible assumption | with_reducible apply kept_ite
      | with_reducible apply kept_foldl | with_reducible apply kept_foldl_fst | simp only [spine_mk, spine_fold] | split)

theorem State.frameError_kept {z : Spine} {s : State} (h : Kept z s.spine) (p : Nat) (result : Nat) (seq : Nat) :
    Kept z (State.frameError s p result seq).spine := by
  unfold State.frameError
  repeat' (first
      | intro _ | with_reducible exact h | with_reducible assumption | with_reducible apply State.bump_kept
      | with_reducible apply State.raise_kept | with_reducible apply kept_ite | with_reducible apply kept_foldl
      | with_reducible apply kept_foldl_fst | simp only [spine_mk, spine_fold] | split)

theorem State.discard_kept {z : Spine} {s : State} (h : Kept z s.spine) (p : Nat) (seq : Nat) :
    Kept z (State.discard s p seq).spine := by
  unfold State.discard
  repeat' (first
      | intro _ | with_reducible exact h | with_reducible assumption | with_reducible apply State.setPort_kept
      | with_reducible apply State.frameError_kept | with_reducible apply kept_ite | with_reducible apply kept_foldl
      | with_reducible apply kept_foldl_fst | simp only [spine_mk, spine_fold] | split)

theorem State.dropBale_kept {z : Spine} {s : State} (h : Kept z s.spine)  :
    Kept z (State.dropBale s).spine := by
  unfold State.dropBale
  repeat' (first
      | intro _ | with_reducible exact h | with_reducible assumption | with_reducible apply State.setBale_kept
      | with_reducible apply State.discard_kept | with_reducible apply kept_ite | with_reducible apply kept_foldl
      | with_reducible apply kept_foldl_fst | simp only [spine_mk, spine_fold] | split)

theorem State.segmentTimeout_kept {z : Spine} {s : State} (h : Kept z s.spine)  :
    Kept z (State.segmentTimeout s).spine := by
  unfold State.segmentTimeout
  repeat' (first
      | intro _ | with_reducible exact h | with_reducible assumption | with_reducible apply State.dropBale_kept
      | with_reducible apply kept_ite | with_reducible apply kept_foldl | with_reducible apply kept_foldl_fst
      | simp only [spine_mk, spine_fold] | split)

theorem State.baleSegment_kept {z : Spine} {s0 : State} (h : Kept z s0.spine) (seg : Nat) (seq : Nat) (last : Bool) (data : List Byte) :
    Kept z (State.baleSegment s0 seg seq last data).spine := by
  unfold State.baleSegment
  repeat' (first
      | intro _ | with_reducible exact h | with_reducible assumption | with_reducible apply State.dropBale_kept
      | with_reducible apply State.setBale_kept | with_reducible apply State.discard_kept | with_reducible apply State.accept_kept
      | with_reducible apply State.segmentTimeout_kept | with_reducible apply kept_ite | with_reducible apply kept_foldl
      | with_reducible apply kept_foldl_fst | simp only [spine_mk, spine_fold] | split)

theorem State.baleFrame_kept {z : Spine} {s : State} (h : Kept z s.spine) (id : Nat) (data : List Byte) :
    Kept z (State.baleFrame s id data).spine := by
  unfold State.baleFrame
  repeat' (first
      | intro _ | with_reducible exact h | with_reducible assumption | with_reducible apply State.baleSegment_kept
      | with_reducible apply kept_ite | with_reducible apply kept_foldl | with_reducible apply kept_foldl_fst
      | simp only [spine_mk, spine_fold] | split)

theorem State.leaveConvoy_kept {z : Spine} {s : State} (h : Kept z s.spine) (x : ConvoyState) (due : Nat) :
    Kept z (State.leaveConvoy s x due).spine := by
  unfold State.leaveConvoy
  repeat' (first
      | intro _ | with_reducible exact h | with_reducible assumption | with_reducible apply State.setLive_kept
      | with_reducible apply kept_ite | with_reducible apply kept_foldl | with_reducible apply kept_foldl_fst
      | simp only [spine_mk, spine_fold] | split)

theorem State.takeSettings_kept {z : Spine} {s : State} (h : Kept z s.spine)  :
    Kept z (State.takeSettings s).spine := by
  unfold State.takeSettings
  repeat' (first
      | intro _ | with_reducible exact h | with_reducible assumption | with_reducible apply State.leaveConvoy_kept
      | with_reducible apply kept_ite | with_reducible apply kept_foldl | with_reducible apply kept_foldl_fst
      | simp only [spine_mk, spine_fold] | split)

theorem State.soloEdge_kept {z : Spine} {s : State} (h : Kept z s.spine) (t : Nat) :
    Kept z (State.soloEdge s t).spine := by
  unfold State.soloEdge
  repeat' (first
      | intro _ | with_reducible exact h | with_reducible assumption | with_reducible apply State.bumpLive_kept
      | with_reducible apply State.takeSettings_kept | with_reducible apply kept_ite | with_reducible apply kept_foldl
      | with_reducible apply kept_foldl_fst | simp only [spine_mk, spine_fold] | split)

theorem State.renewLog_kept {z : Spine} {s : State} (h : Kept z s.spine) (n : Count) :
    Kept z (State.renewLog s n).spine := by
  unfold State.renewLog
  repeat' (first
      | intro _ | with_reducible exact h | with_reducible assumption | with_reducible apply State.writeBytes_kept
      | with_reducible apply kept_ite | with_reducible apply kept_foldl | with_reducible apply kept_foldl_fst
      | simp only [spine_mk, spine_fold] | split)

theorem State.renewDeadline_kept {z : Spine} {s : State} (h : Kept z s.spine) (f : Nat) :
    Kept z (State.renewDeadline s f).spine := by
  unfold State.renewDeadline
  repeat' (first
      | intro _ | with_reducible exact h | with_reducible assumption | with_reducible apply State.setPers_kept
      | with_reducible apply kept_ite | with_reducible apply kept_foldl | with_reducible apply kept_foldl_fst
      | simp only [spine_mk, spine_fold] | split)

theorem State.setPersOr_kept {z : Spine} {s : State} (h : Kept z s.spine) (key : Nat) (v : Nat) :
    Kept z (State.setPersOr s key v).spine := by
  unfold State.setPersOr
  repeat' (first
      | intro _ | with_reducible exact h | with_reducible assumption | with_reducible apply State.setLive_kept
      | with_reducible apply State.setPers_kept | with_reducible apply kept_ite | with_reducible apply kept_foldl
      | with_reducible apply kept_foldl_fst | simp only [spine_mk, spine_fold] | split)

theorem State.renewPair_kept {z : Spine} {s : State} (h : Kept z s.spine) (st : Stamp) (n : Count) (k : Nat × Nat) :
    Kept z (State.renewPair st n s k).spine := by
  unfold State.renewPair
  repeat' (first
      | intro _ | with_reducible exact h | with_reducible assumption | with_reducible apply State.setPersOr_kept
      | with_reducible apply kept_ite | with_reducible apply kept_foldl | with_reducible apply kept_foldl_fst
      | simp only [spine_mk, spine_fold] | split)

theorem State.renewRec_kept {z : Spine} {s : State} (h : Kept z s.spine) (n : Count) (q : RecTick) :
    Kept z (State.renewRec n s q).spine := by
  unfold State.renewRec
  repeat' (first
      | intro _ | with_reducible exact h | with_reducible assumption | with_reducible apply State.writeBytes_kept
      | with_reducible apply kept_ite | with_reducible apply kept_foldl | with_reducible apply kept_foldl_fst
      | simp only [spine_mk, spine_fold] | split)

theorem State.renewStamps_kept {z : Spine} {s : State} (h : Kept z s.spine) (n : Count) :
    Kept z (State.renewStamps s n).spine := by
  unfold State.renewStamps
  repeat' (first
      | intro _ | with_reducible exact h | with_reducible assumption | with_reducible apply State.renewLog_kept
      | with_reducible apply State.renewDeadline_kept | with_reducible apply State.renewPair_kept
      | with_reducible apply State.renewRec_kept | with_reducible apply kept_ite | with_reducible apply kept_foldl
      | with_reducible apply kept_foldl_fst | simp only [spine_mk, spine_fold] | split)

theorem State.keepEdges_kept {z : Spine} {s : State} (h : Kept z s.spine) (new : List (Count × Int)) :
    Kept z (State.keepEdges s new).spine := by
  exact ⟨h.1, h.2, h.3, fun _ => List.length_take_le _ _, h.5⟩

theorem State.recordEdge_kept {z : Spine} {s0 : State} (h : Kept z s0.spine) (n : Count) :
    Kept z (State.recordEdge s0 n).spine := by
  have h1 := State.renewStamps_kept h n
  exact ⟨h1.1, h1.2, h1.3, fun _ => List.length_take_le _ _, h1.5⟩

theorem State.enterWay_kept {z : Spine} {s : State} (h : Kept z s.spine) (w : Nat) (late : Option Count) :
    Kept z (State.enterWay s w late).spine := by
  unfold State.enterWay
  repeat' (first
      | intro _ | with_reducible exact h | with_reducible assumption | with_reducible apply State.bumpLive_kept
      | with_reducible apply State.raise_kept | with_reducible apply kept_ite | with_reducible apply kept_foldl
      | with_reducible apply kept_foldl_fst | simp only [spine_mk, spine_fold] | split)

theorem State.updBeat_kept {z : Spine} {s : State} (h : Kept z s.spine) (present : Bool) :
    Kept z (State.updBeat s present).spine := by
  unfold State.updBeat
  repeat' (first
      | intro _ | with_reducible exact h | with_reducible assumption | with_reducible apply kept_ite
      | with_reducible apply kept_foldl | with_reducible apply kept_foldl_fst | simp only [spine_mk, spine_fold] | split)

theorem State.judgeBeat_kept {z : Spine} {s : State} (h : Kept z s.spine) (ready : Bool) (question : Option (Nat × Nat)) :
    Kept z (State.judgeBeat s ready question).spine := by
  unfold State.judgeBeat
  repeat' (first
      | intro _ | with_reducible exact h | with_reducible assumption | with_reducible apply State.bumpLive_kept
      | with_reducible apply State.updBeat_kept | with_reducible apply kept_ite | with_reducible apply kept_foldl
      | with_reducible apply kept_foldl_fst | simp only [spine_mk, spine_fold] | split)

theorem State.feedEdge_kept {z : Spine} {s : State} (h : Kept z s.spine) (f : Nat) :
    Kept z (State.feedEdge s f).spine := by
  unfold State.feedEdge
  repeat' (first
      | intro _ | with_reducible exact h | with_reducible assumption | with_reducible apply State.setFeed_kept
      | with_reducible apply kept_ite | with_reducible apply kept_foldl | with_reducible apply kept_foldl_fst
      | simp only [spine_mk, spine_fold] | split)

theorem State.stipEdge_kept {z : Spine} {s : State} (h : Kept z s.spine)  :
    Kept z (State.stipEdge s).spine := by
  unfold State.stipEdge
  repeat' (first
      | intro _ | with_reducible exact h | with_reducible assumption | with_reducible apply State.setStip_kept
      | with_reducible apply State.postLane_kept | with_reducible apply kept_ite | with_reducible apply kept_foldl
      | with_reducible apply kept_foldl_fst | simp only [spine_mk, spine_fold] | split)

theorem State.rearmEdge_kept {z : Spine} {s : State} (h : Kept z s.spine)  :
    Kept z (State.rearmEdge s).spine := by
  unfold State.rearmEdge
  repeat' (first
      | intro _ | with_reducible exact h | with_reducible assumption | with_reducible apply State.railSlot_kept
      | with_reducible apply State.setRail_kept | with_reducible apply kept_ite | with_reducible apply kept_foldl
      | with_reducible apply kept_foldl_fst | simp only [spine_mk, spine_fold] | split)

theorem State.beatWork_kept {z : Spine} {s : State} (h : Kept z s.spine)  :
    Kept z (State.beatWork s).spine := by
  unfold State.beatWork
  repeat' (first
      | intro _ | with_reducible exact h | with_reducible assumption | with_reducible apply State.feedEdge_kept
      | with_reducible apply State.stipEdge_kept | with_reducible apply State.rearmEdge_kept | with_reducible apply kept_ite
      | with_reducible apply kept_foldl | with_reducible apply kept_foldl_fst | simp only [spine_mk, spine_fold] | split)

theorem State.enterVersion_kept {z : Spine} {s : State} (h : Kept z s.spine) (v : Nat) :
    Kept z (State.enterVersion s v).spine := by
  unfold State.enterVersion
  repeat' (first
      | intro _ | with_reducible exact h | with_reducible assumption | with_reducible apply State.raise_kept
      | with_reducible apply kept_ite | with_reducible apply kept_foldl | with_reducible apply kept_foldl_fst
      | simp only [spine_mk, spine_fold] | split)

theorem State.unitEdge_kept {z : Spine} {s : State} (h : Kept z s.spine) (question : Option (Nat × Nat)) :
    Kept z (State.unitEdge s question).spine := by
  unfold State.unitEdge
  repeat' (first
      | intro _ | with_reducible exact h | with_reducible assumption | with_reducible apply State.recordEdge_kept
      | with_reducible apply State.bumpLive_kept | with_reducible apply State.enterWay_kept
      | with_reducible apply State.judgeBeat_kept | with_reducible apply State.beatWork_kept
      | with_reducible apply State.enterVersion_kept | with_reducible apply kept_ite | with_reducible apply kept_foldl
      | with_reducible apply kept_foldl_fst | simp only [spine_mk, spine_fold] | split)

theorem State.rebaseFeed_kept {z : Spine} {s : State} (h : Kept z s.spine) (d : Nat) (f : Nat) :
    Kept z (State.rebaseFeed s d f).spine := by
  unfold State.rebaseFeed
  repeat' (first
      | intro _ | with_reducible exact h | with_reducible assumption | with_reducible apply State.setPers_kept
      | with_reducible apply State.setFeed_kept | with_reducible apply kept_ite | with_reducible apply kept_foldl
      | with_reducible apply kept_foldl_fst | simp only [spine_mk, spine_fold] | split)

theorem State.rebase_kept {z : Spine} {s : State} (h : Kept z s.spine) (c : Count) :
    Kept z (State.rebase s c).spine := by
  unfold State.rebase
  dsimp only
  refine State.bumpLive_kept (State.rebaseFeed_kept (State.rebaseFeed_kept ?_ _ _) _ _) _
  exact ⟨h.1, h.2, h.3, fun w => by simpa [State.spine] using h.4 w, h.5⟩

theorem State.joinConvoy_kept {z : Spine} {s : State} (h : Kept z s.spine) (f : Frame) :
    Kept z (State.joinConvoy s f).spine := by
  unfold State.joinConvoy
  repeat' (first
      | intro _ | with_reducible exact h | with_reducible assumption | with_reducible apply State.renewStamps_kept
      | with_reducible apply State.unitEdge_kept | with_reducible apply State.rebase_kept | with_reducible apply kept_ite
      | with_reducible apply kept_foldl | with_reducible apply kept_foldl_fst | simp only [spine_mk, spine_fold] | split)

theorem State.noteEdge_kept {z : Spine} {s : State} (h : Kept z s.spine)  :
    Kept z (State.noteEdge s).spine := by
  unfold State.noteEdge
  repeat' (first
      | intro _ | with_reducible exact h | with_reducible assumption | with_reducible apply kept_ite
      | with_reducible apply kept_foldl | with_reducible apply kept_foldl_fst | simp only [spine_mk, spine_fold] | split)

theorem State.forcedRelease_kept {z : Spine} {s : State} (h : Kept z s.spine)  :
    Kept z (State.forcedRelease s).spine := by
  unfold State.forcedRelease
  repeat' (first
      | intro _ | with_reducible exact h | with_reducible assumption | with_reducible apply State.bumpLive_kept
      | with_reducible apply State.raise_kept | with_reducible apply kept_ite | with_reducible apply kept_foldl
      | with_reducible apply kept_foldl_fst | simp only [spine_mk, spine_fold] | split)

theorem State.beatEdge_kept {z : Spine} {s : State} (h : Kept z s.spine)  :
    Kept z (State.beatEdge s).spine := by
  unfold State.beatEdge
  repeat' (first
      | intro _ | with_reducible exact h | with_reducible assumption | with_reducible apply State.joined_kept
      | with_reducible apply State.soloEdge_kept | with_reducible apply State.joinConvoy_kept
      | with_reducible apply State.noteEdge_kept | with_reducible apply State.unitEdge_kept
      | with_reducible apply State.forcedRelease_kept | with_reducible apply State.takeSettings_kept
      | with_reducible apply kept_ite | with_reducible apply kept_foldl | with_reducible apply kept_foldl_fst
      | simp only [spine_mk, spine_fold] | split)

theorem State.locateFrame_kept {z : Spine} {s : State} (h : Kept z s.spine)  :
    Kept z (State.locateFrame s).spine := by
  unfold State.locateFrame
  repeat' (first
      | intro _ | with_reducible exact h | with_reducible assumption | with_reducible apply State.soloEdge_kept
      | with_reducible apply kept_ite | with_reducible apply kept_foldl | with_reducible apply kept_foldl_fst
      | simp only [spine_mk, spine_fold] | split)

theorem State.takeWay_kept {z : Spine} {s : State} (h : Kept z s.spine) (prev : Option Frame) (f : Frame) :
    Kept z (State.takeWay s prev f).spine := by
  unfold State.takeWay
  repeat' (first
      | intro _ | with_reducible exact h | with_reducible assumption | with_reducible apply kept_ite
      | with_reducible apply kept_foldl | with_reducible apply kept_foldl_fst | simp only [spine_mk, spine_fold] | split)

theorem State.memberFrame_kept {z : Spine} {s : State} (h : Kept z s.spine) (f : Frame) :
    Kept z (State.memberFrame s f).spine := by
  unfold State.memberFrame
  repeat' (first
      | intro _ | with_reducible exact h | with_reducible assumption | with_reducible apply State.takeWay_kept
      | with_reducible apply State.bumpLive_kept | with_reducible apply State.raise_kept | with_reducible apply State.setLive_kept
      | with_reducible apply State.rebase_kept | with_reducible apply kept_ite | with_reducible apply kept_foldl
      | with_reducible apply kept_foldl_fst | simp only [spine_mk, spine_fold] | split)

theorem State.beatFrame_kept {z : Spine} {s0 : State} (h : Kept z s0.spine) (bs : List Byte) :
    Kept z (State.beatFrame s0 bs).spine := by
  unfold State.beatFrame
  repeat' (first
      | intro _ | with_reducible exact h | with_reducible assumption | with_reducible apply State.bumpLive_kept
      | with_reducible apply State.raise_kept | with_reducible apply State.setLive_kept | with_reducible apply State.rebase_kept
      | with_reducible apply State.locateFrame_kept | with_reducible apply State.memberFrame_kept | with_reducible apply kept_ite
      | with_reducible apply kept_foldl | with_reducible apply kept_foldl_fst | simp only [spine_mk, spine_fold] | split)

theorem State.objectWay_kept {z : Spine} {s : State} (h : Kept z s.spine)  :
    Kept z (State.objectWay s).spine := by
  unfold State.objectWay
  repeat' (first
      | intro _ | with_reducible exact h | with_reducible assumption | with_reducible apply State.raise_kept
      | with_reducible apply kept_ite | with_reducible apply kept_foldl | with_reducible apply kept_foldl_fst
      | simp only [spine_mk, spine_fold] | split)

theorem State.voteResult_kept {z : Spine} {s : State} (h : Kept z s.spine) (asked : Option (Nat × Nat)) (passed : Bool) :
    Kept z (State.voteResult s asked passed).1.spine := by
  unfold State.voteResult
  repeat' (first
      | intro _ | with_reducible exact h | with_reducible assumption | with_reducible apply State.objectWay_kept
      | with_reducible apply kept_ite | with_reducible apply kept_foldl | with_reducible apply kept_foldl_fst
      | simp only [spine_mk, spine_fold] | split)

theorem State.beatFrameSend_kept {z : Spine} {s : State} (h : Kept z s.spine) (halt : HaltSample) (vote : Bool) :
    Kept z (State.beatFrameSend s halt vote).spine := by
  unfold State.beatFrameSend
  repeat' (first
      | intro _ | with_reducible exact h | with_reducible assumption | with_reducible apply State.voteResult_kept
      | with_reducible apply State.setLive_kept | with_reducible apply kept_ite | with_reducible apply kept_foldl
      | with_reducible apply kept_foldl_fst | simp only [spine_mk, spine_fold] | split)

theorem State.pruneRecents_kept {z : Spine} {s : State} (h : Kept z s.spine)  :
    Kept z (State.pruneRecents s).spine := by
  unfold State.pruneRecents
  repeat' (first
      | intro _ | with_reducible exact h | with_reducible assumption | with_reducible apply kept_ite
      | with_reducible apply kept_foldl | with_reducible apply kept_foldl_fst | simp only [spine_mk, spine_fold] | split)

theorem State.wideSet_kept {z : Spine} {s0 : State} (h : Kept z s0.spine) (key : Nat) (v : Nat) :
    Kept z (State.wideSet s0 key v).spine := by
  unfold State.wideSet
  repeat' (first
      | intro _ | with_reducible exact h | with_reducible assumption | with_reducible apply State.finishCarry_kept
      | with_reducible apply State.setPers_kept | with_reducible apply kept_ite | with_reducible apply kept_foldl
      | with_reducible apply kept_foldl_fst | simp only [spine_mk, spine_fold] | split)

theorem State.retireOldest_kept {z : Spine} {s : State} (h : Kept z s.spine)  :
    Kept z (State.retireOldest s).spine := by
  unfold State.retireOldest
  repeat' (first
      | intro _ | with_reducible exact h | with_reducible assumption | with_reducible apply State.wideAdd_kept
      | with_reducible apply State.wideSet_kept | with_reducible apply State.setPers_kept | with_reducible apply kept_ite
      | with_reducible apply kept_foldl | with_reducible apply kept_foldl_fst | simp only [spine_mk, spine_fold] | split)

theorem State.newRec_kept {z : Spine} {s : State} (h : Kept z s.spine) (f : Rec → Rec) (tick : Nat) :
    Kept z (State.newRec s f tick).spine := by
  unfold State.newRec
  have key : ∀ (t : State) (l : Ledger), Kept z t.spine → Kept z ({ t with ledger := l }).spine := fun _ _ h => h
  exact State.pruneRecents_kept (key _ _ (State.wideAdd_kept (State.wideAdd_kept
    (State.setPers_kept (State.writeBytes_kept (State.retireOldest_kept h) _ _) _ _) _ _) _ _))

theorem State.systemRec_kept {z : Spine} {s : State} (h : Kept z s.spine) (body : Nat) (count : Nat) :
    Kept z (State.systemRec s body count).spine := by
  unfold State.systemRec
  repeat' (first
      | intro _ | with_reducible exact h | with_reducible assumption | with_reducible apply State.newRec_kept
      | with_reducible apply kept_ite | with_reducible apply kept_foldl | with_reducible apply kept_foldl_fst
      | simp only [spine_mk, spine_fold] | split)

theorem State.restartRecs_kept {z : Spine} {s : State} (h : Kept z s.spine)  :
    Kept z (State.restartRecs s).spine := by
  unfold State.restartRecs
  repeat' (first
      | intro _ | with_reducible exact h | with_reducible assumption | with_reducible apply State.systemRec_kept
      | with_reducible apply kept_ite | with_reducible apply kept_foldl | with_reducible apply kept_foldl_fst
      | simp only [spine_mk, spine_fold] | split)

theorem State.ledgerClear_kept {z : Spine} {s0 : State} (h : Kept z s0.spine) (scope : Nat) (port : Nat) :
    Kept z (State.ledgerClear s0 scope port).spine := by
  unfold State.ledgerClear
  repeat' (first
      | intro _ | with_reducible exact h | with_reducible assumption | with_reducible apply State.systemRec_kept
      | with_reducible apply State.wideSet_kept | with_reducible apply State.bump_kept | with_reducible apply State.setPers_kept
      | with_reducible apply State.postEtch_kept | with_reducible apply State.restartRecs_kept | with_reducible apply kept_ite
      | with_reducible apply kept_foldl | with_reducible apply kept_foldl_fst | simp only [spine_mk, spine_fold] | split)

theorem State.dropClaim_kept {z : Spine} {s : State} (h : Kept z s.spine) (g : Nat) :
    Kept z (State.dropClaim s g).spine := by
  unfold State.dropClaim
  repeat' (first
      | intro _ | with_reducible exact h | with_reducible assumption | with_reducible apply kept_ite
      | with_reducible apply kept_foldl | with_reducible apply kept_foldl_fst | simp only [spine_mk, spine_fold] | split)

theorem State.startAutoTimer_kept {z : Spine} {s : State} (h : Kept z s.spine)  :
    Kept z (State.startAutoTimer s).spine := by
  unfold State.startAutoTimer
  repeat' (first
      | intro _ | with_reducible exact h | with_reducible assumption | with_reducible apply kept_ite
      | with_reducible apply kept_foldl | with_reducible apply kept_foldl_fst | simp only [spine_mk, spine_fold] | split)

theorem State.updBlock_kept {z : Spine} {s : State} (h : Kept z s.spine) (i : Nat) :
    Kept z (State.updBlock s i).spine := by
  unfold State.updBlock
  repeat' (first
      | intro _ | with_reducible exact h | with_reducible assumption | with_reducible apply State.setLive_kept
      | with_reducible apply State.bump_kept | with_reducible apply State.setUpd_kept | with_reducible apply State.raise_kept
      | with_reducible apply kept_ite | with_reducible apply kept_foldl | with_reducible apply kept_foldl_fst
      | simp only [spine_mk, spine_fold] | split)

theorem State.wayRequest_kept {z : Spine} {s : State} (h : Kept z s.spine) (w : Nat) :
    Kept z (State.wayRequest s w).spine := by
  unfold State.wayRequest
  repeat' (first
      | intro _ | with_reducible exact h | with_reducible assumption | with_reducible apply kept_ite
      | with_reducible apply kept_foldl | with_reducible apply kept_foldl_fst | simp only [spine_mk, spine_fold] | split)

theorem State.claim_kept {z : Spine} {s : State} (h : Kept z s.spine) (p : Nat) (g : Nat) :
    Kept z (State.claim s p g).spine := by
  unfold State.claim
  repeat' (first
      | intro _ | with_reducible exact h | with_reducible assumption | with_reducible apply kept_ite
      | with_reducible apply kept_foldl | with_reducible apply kept_foldl_fst | simp only [spine_mk, spine_fold] | split)

theorem State.clearFeed_kept {z : Spine} {s : State} (h : Kept z s.spine) (f : Nat) :
    Kept z (State.clearFeed s f).spine := by
  unfold State.clearFeed
  repeat' (first
      | intro _ | with_reducible exact h | with_reducible assumption | with_reducible apply State.setPers_kept
      | with_reducible apply State.openFeed_kept | with_reducible apply State.setFeed_kept | with_reducible apply kept_ite
      | with_reducible apply kept_foldl | with_reducible apply kept_foldl_fst | simp only [spine_mk, spine_fold] | split)

theorem State.updApply_kept {z : Spine} {s : State} (h : Kept z s.spine)  :
    Kept z (State.updApply s).spine := by
  unfold State.updApply
  repeat' (first
      | intro _ | with_reducible exact h | with_reducible assumption | with_reducible apply State.setUpd_kept
      | with_reducible apply State.setNewBank_kept | with_reducible apply kept_ite | with_reducible apply kept_foldl
      | with_reducible apply kept_foldl_fst | simp only [spine_mk, spine_fold] | split)

theorem State.updSchedule_kept {z : Spine} {s : State} (h : Kept z s.spine)  :
    Kept z (State.updSchedule s).spine := by
  unfold State.updSchedule
  repeat' (first
      | intro _ | with_reducible exact h | with_reducible assumption | with_reducible apply kept_ite
      | with_reducible apply kept_foldl | with_reducible apply kept_foldl_fst | simp only [spine_mk, spine_fold] | split)

theorem State.updAbort_kept {z : Spine} {s : State} (h : Kept z s.spine)  :
    Kept z (State.updAbort s).spine := by
  unfold State.updAbort
  repeat' (first
      | intro _ | with_reducible exact h | with_reducible assumption | with_reducible apply State.setNewBank_kept
      | with_reducible apply State.writeBytes_kept | with_reducible apply State.updReason_kept
      | with_reducible apply State.setAreaState_kept | with_reducible apply kept_ite | with_reducible apply kept_foldl
      | with_reducible apply kept_foldl_fst | simp only [spine_mk, spine_fold] | split)

theorem State.updOpen_kept {z : Spine} {s : State} (h : Kept z s.spine)  :
    Kept z (State.updOpen s).spine := by
  unfold State.updOpen
  repeat' (first
      | intro _ | with_reducible exact h | with_reducible assumption | with_reducible apply State.setLive_kept
      | with_reducible apply State.setUpd_kept | with_reducible apply kept_ite | with_reducible apply kept_foldl
      | with_reducible apply kept_foldl_fst | simp only [spine_mk, spine_fold] | split)

theorem State.updUnschedule_kept {z : Spine} {s : State} (h : Kept z s.spine)  :
    Kept z (State.updUnschedule s).spine := by
  unfold State.updUnschedule
  repeat' (first
      | intro _ | with_reducible exact h | with_reducible assumption | with_reducible apply kept_ite
      | with_reducible apply kept_foldl | with_reducible apply kept_foldl_fst | simp only [spine_mk, spine_fold] | split)

theorem State.updCmd_kept {z : Spine} {s : State} (h : Kept z s.spine) (c : Nat) :
    Kept z (State.updCmd s c).spine := by
  unfold State.updCmd
  repeat' (first
      | intro _ | with_reducible exact h | with_reducible assumption | with_reducible apply State.setHealth_kept
      | with_reducible apply State.updApply_kept | with_reducible apply State.updSchedule_kept
      | with_reducible apply State.updAbort_kept | with_reducible apply State.updOpen_kept
      | with_reducible apply State.updUnschedule_kept | with_reducible apply State.setUpd_kept | with_reducible apply kept_ite
      | with_reducible apply kept_foldl | with_reducible apply kept_foldl_fst | simp only [spine_mk, spine_fold] | split)

theorem State.setInrush_kept {z : Spine} {s : State} (h : Kept z s.spine) (v : Nat) :
    Kept z (State.setInrush s v).spine := by
  unfold State.setInrush
  repeat' (first
      | intro _ | with_reducible exact h | with_reducible assumption | with_reducible apply State.setLive_kept
      | with_reducible apply State.bump_kept | with_reducible apply State.setPers_kept | with_reducible apply kept_ite
      | with_reducible apply kept_foldl | with_reducible apply kept_foldl_fst | simp only [spine_mk, spine_fold] | split)

theorem State.resetStencil_kept {z : Spine} {s : State} (h : Kept z s.spine)  :
    Kept z (State.resetStencil s).spine := by
  unfold State.resetStencil
  repeat' (first
      | intro _ | with_reducible exact h | with_reducible assumption | with_reducible apply State.mirror_kept
      | with_reducible apply State.setPers_kept | with_reducible apply kept_ite | with_reducible apply kept_foldl
      | with_reducible apply kept_foldl_fst | simp only [spine_mk, spine_fold] | split)

theorem State.faultAck_kept {z : Spine} {s : State} (h : Kept z s.spine)  :
    Kept z (State.faultAck s).spine := by
  unfold State.faultAck
  repeat' (first
      | intro _ | with_reducible exact h | with_reducible assumption | with_reducible apply State.setPers_kept
      | with_reducible apply kept_ite | with_reducible apply kept_foldl | with_reducible apply kept_foldl_fst
      | simp only [spine_mk, spine_fold] | split)

theorem State.forceMsg_kept {z : Spine} {s : State} (h : Kept z s.spine) (src : Nat) :
    Kept z (State.forceMsg s src).spine := by
  unfold State.forceMsg
  repeat' (first
      | intro _ | with_reducible exact h | with_reducible assumption | with_reducible apply kept_ite
      | with_reducible apply kept_foldl | with_reducible apply kept_foldl_fst | simp only [spine_mk, spine_fold] | split)

theorem State.release__kept {z : Spine} {s : State} (h : Kept z s.spine) (p : Nat) (g : Nat) :
    Kept z (State.release_ s p g).spine := by
  unfold State.release_
  repeat' (first
      | intro _ | with_reducible exact h | with_reducible assumption | with_reducible apply State.dropClaim_kept
      | with_reducible apply kept_ite | with_reducible apply kept_foldl | with_reducible apply kept_foldl_fst
      | simp only [spine_mk, spine_fold] | split)

theorem State.defaultValues_kept {z : Spine} {s : State} (h : Kept z s.spine)  :
    Kept z (State.defaultValues s).spine := by
  unfold State.defaultValues
  repeat' (first
      | intro _ | with_reducible exact h | with_reducible assumption | with_reducible apply State.setPers_kept
      | with_reducible apply kept_ite | with_reducible apply kept_foldl | with_reducible apply kept_foldl_fst
      | simp only [spine_mk, spine_fold] | split)

theorem State.untrip_kept {z : Spine} {s : State} (h : Kept z s.spine) (f : Nat) :
    Kept z (State.untrip s f).spine := by
  unfold State.untrip
  repeat' (first
      | intro _ | with_reducible exact h | with_reducible assumption | with_reducible apply State.setPers_kept
      | with_reducible apply State.unraise_kept | with_reducible apply State.restampRun_kept
      | with_reducible apply State.setFeed_kept | with_reducible apply kept_ite | with_reducible apply kept_foldl
      | with_reducible apply kept_foldl_fst | simp only [spine_mk, spine_fold] | split)

theorem State.enableFeed_kept {z : Spine} {s : State} (h : Kept z s.spine) (f : Nat) (on : Bool) :
    Kept z (State.enableFeed s f on).spine := by
  unfold State.enableFeed
  repeat' (first
      | intro _ | with_reducible exact h | with_reducible assumption | with_reducible apply State.untrip_kept
      | with_reducible apply State.moveFeed_kept | with_reducible apply State.openFeed_kept
      | with_reducible apply State.setFeed_kept | with_reducible apply kept_ite | with_reducible apply kept_foldl
      | with_reducible apply kept_foldl_fst | simp only [spine_mk, spine_fold] | split)

theorem State.closeRingPage_kept {z : Spine} {s : State} (h : Kept z s.spine)  :
    Kept z (State.closeRingPage s).spine := by
  unfold State.closeRingPage
  repeat' (first
      | intro _ | with_reducible exact h | with_reducible assumption | with_reducible apply State.setLive_kept
      | with_reducible apply kept_ite | with_reducible apply kept_foldl | with_reducible apply kept_foldl_fst
      | simp only [spine_mk, spine_fold] | split)

theorem State.haltWritten_kept {z : Spine} {s : State} (h : Kept z s.spine)  :
    Kept z (State.haltWritten s).spine := by
  unfold State.haltWritten
  repeat' (first
      | intro _ | with_reducible exact h | with_reducible assumption | with_reducible apply kept_ite
      | with_reducible apply kept_foldl | with_reducible apply kept_foldl_fst | simp only [spine_mk, spine_fold] | split)

theorem State.filterClear_kept {z : Spine} {s : State} (h : Kept z s.spine) (n : Nat) (c : Nat) :
    Kept z (State.filterClear s n c).spine := by
  unfold State.filterClear
  repeat' (first
      | intro _ | with_reducible exact h | with_reducible assumption | with_reducible apply State.setFilter_kept
      | with_reducible apply kept_ite | with_reducible apply kept_foldl | with_reducible apply kept_foldl_fst
      | simp only [spine_mk, spine_fold] | split)

theorem State.qualifyDue_kept {z : Spine} {s : State} (h : Kept z s.spine) (n : Nat) (c : Nat) :
    Kept z (State.qualifyDue s n c).spine := by
  unfold State.qualifyDue
  repeat' (first
      | intro _ | with_reducible exact h | with_reducible assumption | with_reducible apply State.qualifyAll_kept
      | with_reducible apply kept_ite | with_reducible apply kept_foldl | with_reducible apply kept_foldl_fst
      | simp only [spine_mk, spine_fold] | split)

theorem State.filterWritten_kept {z : Spine} {s : State} (h : Kept z s.spine) (n : Nat) (c : Nat) :
    Kept z (State.filterWritten s n c).spine := by
  unfold State.filterWritten
  repeat' (first
      | intro _ | with_reducible exact h | with_reducible assumption | with_reducible apply State.filterClear_kept
      | with_reducible apply State.qualifyDue_kept | with_reducible apply kept_ite | with_reducible apply kept_foldl
      | with_reducible apply kept_foldl_fst | simp only [spine_mk, spine_fold] | split)

theorem State.setLiveOf_kept {z : Spine} {s : State} (h : Kept z s.spine) (n : Nat) (x : Live) :
    Kept z (State.setLiveOf s n x).spine := by
  unfold State.setLiveOf
  repeat' (first
      | intro _ | with_reducible exact h | with_reducible assumption | with_reducible apply kept_ite
      | with_reducible apply kept_foldl | with_reducible apply kept_foldl_fst | simp only [spine_mk, spine_fold] | split)

theorem State.restartMeans_kept {z : Spine} {s : State} (h : Kept z s.spine) (n : Nat) :
    Kept z (State.restartMeans s n).spine := by
  unfold State.restartMeans
  repeat' (first
      | intro _ | with_reducible exact h | with_reducible assumption | with_reducible apply State.setLiveOf_kept
      | with_reducible apply kept_ite | with_reducible apply kept_foldl | with_reducible apply kept_foldl_fst
      | simp only [spine_mk, spine_fold] | split)

theorem State.setPresent_kept {z : Spine} {s : State} (h : Kept z s.spine) (n : Nat) (on : Bool) :
    Kept z (State.setPresent s n on).spine := by
  unfold State.setPresent
  repeat' (first
      | intro _ | with_reducible exact h | with_reducible assumption | with_reducible apply State.moveRail_kept
      | with_reducible apply State.setRail_kept | with_reducible apply kept_ite | with_reducible apply kept_foldl
      | with_reducible apply kept_foldl_fst | simp only [spine_mk, spine_fold] | split)

theorem State.railHook_kept {z : Spine} {s : State} (h : Kept z s.spine) (key : Nat) (v : Nat) (n : Nat) :
    Kept z (State.railHook s key v n).spine := by
  unfold State.railHook
  repeat' (first
      | intro _ | with_reducible exact h | with_reducible assumption | with_reducible apply State.filterWritten_kept
      | with_reducible apply State.restartMeans_kept | with_reducible apply State.setPresent_kept | with_reducible apply kept_ite
      | with_reducible apply kept_foldl | with_reducible apply kept_foldl_fst | simp only [spine_mk, spine_fold] | split)

theorem State.setProtect_kept {z : Spine} {s : State} (h : Kept z s.spine) (v : Nat) :
    Kept z (State.setProtect s v).spine := by
  unfold State.setProtect
  repeat' (first
      | intro _ | with_reducible exact h | with_reducible assumption | with_reducible apply State.takeForReserve_kept
      | with_reducible apply kept_ite | with_reducible apply kept_foldl | with_reducible apply kept_foldl_fst
      | simp only [spine_mk, spine_fold] | split)

theorem State.writeHook_kept {z : Spine} {s : State} (h : Kept z s.spine) (old : State) (p : Nat) (key : Nat) (v : Nat) :
    Kept z (State.writeHook s old p key v).spine := by
  unfold State.writeHook
  repeat' (first
      | intro _ | with_reducible exact h | with_reducible assumption | with_reducible apply State.enableFeed_kept
      | with_reducible apply State.closeRingPage_kept | with_reducible apply State.inputReview_kept
      | with_reducible apply State.haltWritten_kept | with_reducible apply State.drive_kept
      | with_reducible apply State.railHook_kept | with_reducible apply State.localShutdown_kept
      | with_reducible apply State.setProtect_kept | with_reducible apply kept_ite | with_reducible apply kept_foldl
      | with_reducible apply kept_foldl_fst | simp only [spine_mk, spine_fold] | split)

theorem State.restoreDefaults_kept {z : Spine} {s : State} (h : Kept z s.spine) (p : Nat) :
    Kept z (State.restoreDefaults s p).spine := by
  unfold State.restoreDefaults
  repeat' (first
      | intro _ | with_reducible exact h | with_reducible assumption | with_reducible apply State.defaultValues_kept
      | with_reducible apply State.writeHook_kept | with_reducible apply kept_ite | with_reducible apply kept_foldl
      | with_reducible apply kept_foldl_fst | simp only [spine_mk, spine_fold] | split)

theorem State.blockCommand_kept {z : Spine} {s : State} (h : Kept z s.spine) (p : Nat) (key : Nat) (v : Nat) :
    Kept z (State.blockCommand s p key v).spine := by
  unfold State.blockCommand
  repeat' (first
      | intro _ | with_reducible exact h | with_reducible assumption | with_reducible apply State.ledgerClear_kept
      | with_reducible apply State.dropClaim_kept | with_reducible apply State.startAutoTimer_kept
      | with_reducible apply State.updBlock_kept | with_reducible apply State.wayRequest_kept
      | with_reducible apply State.postEtch_kept | with_reducible apply State.claim_kept
      | with_reducible apply State.clearFeed_kept | with_reducible apply State.updCmd_kept
      | with_reducible apply State.setInrush_kept | with_reducible apply State.resetStencil_kept
      | with_reducible apply State.faultAck_kept | with_reducible apply State.abortEtch_kept
      | with_reducible apply State.forceMsg_kept | with_reducible apply State.release__kept
      | with_reducible apply State.restoreDefaults_kept | with_reducible apply kept_ite | with_reducible apply kept_foldl
      | with_reducible apply kept_foldl_fst | simp only [spine_mk, spine_fold] | split)

theorem State.runBank_kept {z : Spine} {s : State} (h : Kept z s.spine) (b : Nat) :
    Kept z (State.runBank s b).spine := by
  unfold State.runBank
  repeat' (first
      | intro _ | with_reducible exact h | with_reducible assumption | with_reducible apply kept_ite
      | with_reducible apply kept_foldl | with_reducible apply kept_foldl_fst | simp only [spine_mk, spine_fold] | split)

theorem State.bootImage_kept {z : Spine} {s : State} (h : Kept z s.spine)  :
    Kept z (State.bootImage s).spine := by
  unfold State.bootImage
  repeat' (first
      | intro _ | with_reducible exact h | with_reducible assumption | with_reducible apply State.fellBack_kept
      | with_reducible apply State.startTrial_kept | with_reducible apply State.runBank_kept | with_reducible apply kept_ite
      | with_reducible apply kept_foldl | with_reducible apply kept_foldl_fst | simp only [spine_mk, spine_fold] | split)

end Sys2Proof.Machine
end

