-- ==== Sys2Proof/Laws/Kept4.lean ====
section
/-! SUPPORT. What every operation keeps of the spine (part 4 of 7): one lemma for each operation on the state. -/

set_option linter.unusedSimpArgs false

namespace Sys2Proof.Machine

theorem State.busOff_kept {z : Spine} {s : State} (h : Kept z s.spine)  :
    Kept z (State.busOff s).spine := by
  unfold State.busOff
  repeat' (first
      | intro _ | with_reducible exact h | with_reducible assumption | with_reducible apply State.setBale_kept
      | with_reducible apply State.raise_kept | with_reducible apply kept_ite | with_reducible apply kept_foldl
      | with_reducible apply kept_foldl_fst | simp only [spine_mk, spine_fold] | split)

theorem State.busOffEnd_kept {z : Spine} {s : State} (h : Kept z s.spine)  :
    Kept z (State.busOffEnd s).spine := by
  unfold State.busOffEnd
  repeat' (first
      | intro _ | with_reducible exact h | with_reducible assumption | with_reducible apply State.setBale_kept
      | with_reducible apply kept_ite | with_reducible apply kept_foldl | with_reducible apply kept_foldl_fst
      | simp only [spine_mk, spine_fold] | split)

theorem State.setSlice_kept {z : Spine} {s : State} (h : Kept z s.spine) (i : Nat) (x : Slice) :
    Kept z (State.setSlice s i x).spine := by
  unfold State.setSlice
  repeat' (first
      | intro _ | with_reducible exact h | with_reducible assumption | with_reducible apply kept_ite
      | with_reducible apply kept_foldl | with_reducible apply kept_foldl_fst | simp only [spine_mk, spine_fold] | split)

theorem State.calFail_kept {z : Spine} {s : State} (h : Kept z s.spine) (i : Nat) :
    Kept z (State.calFail s i).spine := by
  unfold State.calFail
  repeat' (first
      | intro _ | with_reducible exact h | with_reducible assumption | with_reducible apply State.setSlice_kept
      | with_reducible apply State.bump_kept | with_reducible apply State.raise_kept | with_reducible apply kept_ite
      | with_reducible apply kept_foldl | with_reducible apply kept_foldl_fst | simp only [spine_mk, spine_fold] | split)

theorem State.calPass_kept {z : Spine} {s : State} (h : Kept z s.spine) (i : Nat) (e : Int × Int × Int) (role : SliceRole) (pos : Nat) :
    Kept z (State.calPass s i e role pos).spine := by
  unfold State.calPass
  repeat' (first
      | intro _ | with_reducible exact h | with_reducible assumption | with_reducible apply State.setSlice_kept
      | with_reducible apply State.bump_kept | with_reducible apply State.bumpLive_kept | with_reducible apply kept_ite
      | with_reducible apply kept_foldl | with_reducible apply kept_foldl_fst | simp only [spine_mk, spine_fold] | split)

theorem State.calStale_kept {z : Spine} {s : State} (h : Kept z s.spine) (i : Nat) :
    Kept z (State.calStale s i).spine := by
  unfold State.calStale
  repeat' (first
      | intro _ | with_reducible exact h | with_reducible assumption | with_reducible apply State.setSlice_kept
      | with_reducible apply State.raise_kept | with_reducible apply kept_ite | with_reducible apply kept_foldl
      | with_reducible apply kept_foldl_fst | simp only [spine_mk, spine_fold] | split)

theorem State.fillPlace_kept {z : Spine} {s : State} (h : Kept z s.spine)  :
    Kept z (State.fillPlace s).spine := by
  unfold State.fillPlace
  repeat' (first
      | intro _ | with_reducible exact h | with_reducible assumption | with_reducible apply State.setSlice_kept
      | with_reducible apply kept_ite | with_reducible apply kept_foldl | with_reducible apply kept_foldl_fst
      | simp only [spine_mk, spine_fold] | split)

theorem State.calStepEnd_kept {z : Spine} {s : State} (h : Kept z s.spine) (i : Nat) (zs : Nat) (p : Nat) (m : Nat) (rise : Nat)
    (fall : Nat) :
    Kept z (State.calStepEnd s i zs p m rise fall).spine := by
  unfold State.calStepEnd
  repeat' (first
      | intro _ | with_reducible exact h | with_reducible assumption | with_reducible apply State.calPass_kept
      | with_reducible apply State.fillPlace_kept | with_reducible apply State.calFail_kept
      | with_reducible apply State.freeLane_kept | with_reducible apply kept_ite | with_reducible apply kept_foldl
      | with_reducible apply kept_foldl_fst | simp only [spine_mk, spine_fold] | split)

theorem State.issueBeat_kept {z : Spine} {s : State} (h : Kept z s.spine)  :
    Kept z (State.issueBeat s).spine := by
  unfold State.issueBeat
  repeat' (first
      | intro _ | with_reducible exact h | with_reducible assumption | with_reducible apply State.noteEdge_kept
      | with_reducible apply State.unitEdge_kept | with_reducible apply kept_ite | with_reducible apply kept_foldl
      | with_reducible apply kept_foldl_fst | simp only [spine_mk, spine_fold] | split)

theorem State.candidateWait_kept {z : Spine} {s : State} (h : Kept z s.spine)  :
    Kept z (State.candidateWait s).spine := by
  unfold State.candidateWait
  repeat' (first
      | intro _ | with_reducible exact h | with_reducible assumption | with_reducible apply State.joined_kept
      | with_reducible apply State.issueBeat_kept | with_reducible apply State.takeSettings_kept | with_reducible apply kept_ite
      | with_reducible apply kept_foldl | with_reducible apply kept_foldl_fst | simp only [spine_mk, spine_fold] | split)

theorem State.doneCapture_kept {z : Spine} {s : State} (h : Kept z s.spine)  :
    Kept z (State.doneCapture s).spine := by
  unfold State.doneCapture
  repeat' (first
      | intro _ | with_reducible exact h | with_reducible assumption | with_reducible apply State.endCapture_kept
      | with_reducible apply kept_ite | with_reducible apply kept_foldl | with_reducible apply kept_foldl_fst
      | simp only [spine_mk, spine_fold] | split)

theorem State.captureDone_kept {z : Spine} {s : State} (h : Kept z s.spine)  :
    Kept z (State.captureDone s).spine := by
  unfold State.captureDone
  repeat' (first
      | intro _ | with_reducible exact h | with_reducible assumption | with_reducible apply State.stipUnloaded_kept
      | with_reducible apply State.doneCapture_kept | with_reducible apply kept_ite | with_reducible apply kept_foldl
      | with_reducible apply kept_foldl_fst | simp only [spine_mk, spine_fold] | split)

theorem State.capturePreempted_kept {z : Spine} {s : State} (h : Kept z s.spine)  :
    Kept z (State.capturePreempted s).spine := by
  unfold State.capturePreempted
  repeat' (first
      | intro _ | with_reducible exact h | with_reducible assumption | with_reducible apply State.stipAbort_kept
      | with_reducible apply State.withdrawCapture_kept | with_reducible apply State.endCapture_kept
      | with_reducible apply kept_ite | with_reducible apply kept_foldl | with_reducible apply kept_foldl_fst
      | simp only [spine_mk, spine_fold] | split)

theorem State.startCapture_kept {z : Spine} {s : State} (h : Kept z s.spine)  :
    Kept z (State.startCapture s).spine := by
  unfold State.startCapture
  repeat' (first
      | intro _ | with_reducible exact h | with_reducible assumption | with_reducible apply State.setLive_kept
      | with_reducible apply kept_ite | with_reducible apply kept_foldl | with_reducible apply kept_foldl_fst
      | simp only [spine_mk, spine_fold] | split)

theorem State.stipT0_kept {z : Spine} {s : State} (h : Kept z s.spine) (n : Nat) :
    Kept z (State.stipT0 s n).spine := by
  unfold State.stipT0
  repeat' (first
      | intro _ | with_reducible exact h | with_reducible assumption | with_reducible apply State.setSink_kept
      | with_reducible apply State.setStip_kept | with_reducible apply kept_ite | with_reducible apply kept_foldl
      | with_reducible apply kept_foldl_fst | simp only [spine_mk, spine_fold] | split)

theorem State.captureStart_kept {z : Spine} {s : State} (h : Kept z s.spine)  :
    Kept z (State.captureStart s).spine := by
  unfold State.captureStart
  repeat' (first
      | intro _ | with_reducible exact h | with_reducible assumption | with_reducible apply State.startCapture_kept
      | with_reducible apply State.stipT0_kept | with_reducible apply kept_ite | with_reducible apply kept_foldl
      | with_reducible apply kept_foldl_fst | simp only [spine_mk, spine_fold] | split)

theorem State.carrySteps_kept {z : Spine} {s : State} (h : Kept z s.spine)  :
    Kept z (State.carrySteps s).spine := by
  unfold State.carrySteps
  repeat' (first
      | intro _ | with_reducible exact h | with_reducible assumption | with_reducible apply State.carryStep_kept
      | with_reducible apply kept_ite | with_reducible apply kept_foldl | with_reducible apply kept_foldl_fst
      | simp only [spine_mk, spine_fold] | split)

theorem State.causeArises_kept {z : Spine} {s : State} (h : Kept z s.spine) (cause : Nat) :
    Kept z (State.causeArises s cause).spine := by
  unfold State.causeArises
  repeat' (first
      | intro _ | with_reducible exact h | with_reducible assumption | with_reducible apply State.localShutdown_kept
      | with_reducible apply kept_ite | with_reducible apply kept_foldl | with_reducible apply kept_foldl_fst
      | simp only [spine_mk, spine_fold] | split)

theorem State.challengeExpiry_kept {z : Spine} {s : State} (h : Kept z s.spine) (p : Nat) :
    Kept z (State.challengeExpiry s p).spine := by
  unfold State.challengeExpiry
  repeat' (first
      | intro _ | with_reducible exact h | with_reducible assumption | with_reducible apply State.setPort_kept
      | with_reducible apply kept_ite | with_reducible apply kept_foldl | with_reducible apply kept_foldl_fst
      | simp only [spine_mk, spine_fold] | split)

theorem State.clearFrameErr_kept {z : Spine} {s : State} (h : Kept z s.spine) (p : Nat) (seq : Nat) :
    Kept z (State.clearFrameErr s p seq).spine := by
  unfold State.clearFrameErr
  repeat' (first
      | intro _ | with_reducible exact h | with_reducible assumption | with_reducible apply State.setPort_kept
      | with_reducible apply kept_ite | with_reducible apply kept_foldl | with_reducible apply kept_foldl_fst
      | simp only [spine_mk, spine_fold] | split)

theorem State.goOff_kept {z : Spine} {s : State} (h : Kept z s.spine) (supplies : Bool) (cause : Nat) :
    Kept z (State.goOff s supplies cause).spine := by
  exact ⟨h.1, h.2, fun _ => rfl, fun _ => Nat.zero_le 1024,
    fun _ => ⟨FMap.sorted_nil, fun _ h => (List.not_mem_nil h).elim, fun _ h => (List.not_mem_nil h).elim⟩⟩

theorem State.endDischarge_kept {z : Spine} {s : State} (h : Kept z s.spine) (n : Nat) :
    Kept z (State.endDischarge s n).spine := by
  unfold State.endDischarge
  repeat' (first
      | intro _ | with_reducible exact h | with_reducible assumption | with_reducible apply State.removeSink_kept
      | with_reducible apply State.setSink_kept | with_reducible apply kept_ite | with_reducible apply kept_foldl
      | with_reducible apply kept_foldl_fst | simp only [spine_mk, spine_fold] | split)

theorem State.discharged_kept {z : Spine} {s : State} (h : Kept z s.spine) (n : Nat) :
    Kept z (State.discharged s n).spine := by
  unfold State.discharged
  repeat' (first
      | intro _ | with_reducible exact h | with_reducible assumption | with_reducible apply State.endDischarge_kept
      | with_reducible apply State.moveRail_kept | with_reducible apply State.freeRailLane_kept | with_reducible apply kept_ite
      | with_reducible apply kept_foldl | with_reducible apply kept_foldl_fst | simp only [spine_mk, spine_fold] | split)

theorem State.railNext_kept {z : Spine} {s : State} (h : Kept z s.spine) (n : Nat) :
    Kept z (State.railNext s n).spine := by
  unfold State.railNext
  repeat' (first
      | intro _ | with_reducible exact h | with_reducible assumption | with_reducible apply State.enterPass_kept
      | with_reducible apply State.armRail_kept | with_reducible apply State.discharged_kept
      | with_reducible apply State.unlock_kept | with_reducible apply State.setRail_kept | with_reducible apply kept_ite
      | with_reducible apply kept_foldl | with_reducible apply kept_foldl_fst | simp only [spine_mk, spine_fold] | split)

theorem State.railsNext_kept {z : Spine} {s : State} (h : Kept z s.spine)  :
    Kept z (State.railsNext s).spine := by
  unfold State.railsNext
  repeat' (first
      | intro _ | with_reducible exact h | with_reducible assumption | with_reducible apply State.railNext_kept
      | with_reducible apply kept_ite | with_reducible apply kept_foldl | with_reducible apply kept_foldl_fst
      | simp only [spine_mk, spine_fold] | split)

theorem State.tickRails_kept {z : Spine} {s : State} (h : Kept z s.spine)  :
    Kept z (State.tickRails s).spine := by
  unfold State.tickRails
  repeat' (first
      | intro _ | with_reducible exact h | with_reducible assumption | with_reducible apply State.after_kept
      | with_reducible apply State.railsNext_kept | with_reducible apply kept_ite | with_reducible apply kept_foldl
      | with_reducible apply kept_foldl_fst | simp only [spine_mk, spine_fold] | split)

theorem State.slewSinks_kept {z : Spine} {s : State} (h : Kept z s.spine)  :
    Kept z (State.slewSinks s).spine := by
  unfold State.slewSinks
  repeat' (first
      | intro _ | with_reducible exact h | with_reducible assumption | with_reducible apply State.setSink_kept
      | with_reducible apply kept_ite | with_reducible apply kept_foldl | with_reducible apply kept_foldl_fst
      | simp only [spine_mk, spine_fold] | split)

theorem State.dueTurnOns_kept {z : Spine} {s : State} (h : Kept z s.spine)  :
    Kept z (State.dueTurnOns s).spine := by
  unfold State.dueTurnOns
  repeat' (first
      | intro _ | with_reducible exact h | with_reducible assumption | with_reducible apply State.turnOn_kept
      | with_reducible apply kept_ite | with_reducible apply kept_foldl | with_reducible apply kept_foldl_fst
      | simp only [spine_mk, spine_fold] | split)

theorem State.tickSink_kept {z : Spine} {s : State} (h : Kept z s.spine) (n : Nat) :
    Kept z (State.tickSink s n).spine := by
  unfold State.tickSink
  repeat' (first
      | intro _ | with_reducible exact h | with_reducible assumption | with_reducible apply State.setSink_kept
      | with_reducible apply State.coolEnergy_kept | with_reducible apply State.wideAdd_kept
      | with_reducible apply State.raise_kept | with_reducible apply kept_ite | with_reducible apply kept_foldl
      | with_reducible apply kept_foldl_fst | simp only [spine_mk, spine_fold] | split)

theorem State.tickSinks_kept {z : Spine} {s : State} (h : Kept z s.spine)  :
    Kept z (State.tickSinks s).spine := by
  unfold State.tickSinks
  repeat' (first
      | intro _ | with_reducible exact h | with_reducible assumption | with_reducible apply State.auditTolls_kept
      | with_reducible apply State.tickSink_kept | with_reducible apply kept_ite | with_reducible apply kept_foldl
      | with_reducible apply kept_foldl_fst | simp only [spine_mk, spine_fold] | split)

theorem State.dropUrgents_kept {z : Spine} {s : State} (h : Kept z s.spine) (t : Nat) :
    Kept z (State.dropUrgents s t).spine := by
  unfold State.dropUrgents
  repeat' (first
      | intro _ | with_reducible exact h | with_reducible assumption | with_reducible apply State.bump_kept
      | with_reducible apply kept_ite | with_reducible apply kept_foldl | with_reducible apply kept_foldl_fst
      | simp only [spine_mk, spine_fold] | split)

theorem State.takeSwitch_kept {z : Spine} {s : State} (h : Kept z s.spine) (t : Nat) :
    Kept z (State.takeSwitch s t).spine := by
  unfold State.takeSwitch
  repeat' (first
      | intro _ | with_reducible exact h | with_reducible assumption | with_reducible apply kept_ite
      | with_reducible apply kept_foldl | with_reducible apply kept_foldl_fst | simp only [spine_mk, spine_fold] | split)

theorem State.openRingPage_kept {z : Spine} {s : State} (h : Kept z s.spine) (t : Nat) :
    Kept z (State.openRingPage s t).spine := by
  unfold State.openRingPage
  have key : ∀ (t : State) (r : Ring), Kept z t.spine → Kept z ({ t with ring := r }).spine := fun _ _ h => h
  exact key _ _ (kept_ite (State.setLive_kept h _ _) h)

theorem State.ringPlace_kept {z : Spine} {s : State} (h : Kept z s.spine) (t : Nat) (use : SlotUse) (pos : Nat) :
    Kept z (State.ringPlace s t use pos).1.spine := by
  unfold State.ringPlace
  repeat' (first
      | intro _ | with_reducible exact h | with_reducible assumption | with_reducible apply State.closeRingPage_kept
      | with_reducible apply State.setLive_kept | with_reducible apply State.openRingPage_kept | with_reducible apply kept_ite
      | with_reducible apply kept_foldl | with_reducible apply kept_foldl_fst | simp only [spine_mk, spine_fold] | split)

theorem State.startSlotAs_kept {z : Spine} {s : State} (h : Kept z s.spine) (t : Nat) (slc : Nat) (use : SlotUse) (listPos : Nat) :
    Kept z (State.startSlotAs s t slc use listPos).spine := by
  unfold State.startSlotAs
  repeat' (first
      | intro _ | with_reducible exact h | with_reducible assumption | with_reducible apply State.ringPlace_kept
      | with_reducible apply kept_ite | with_reducible apply kept_foldl | with_reducible apply kept_foldl_fst
      | simp only [spine_mk, spine_fold] | split)

theorem State.startSlot_kept {z : Spine} {s : State} (h : Kept z s.spine)  :
    Kept z (State.startSlot s).spine := by
  unfold State.startSlot
  repeat' (first
      | intro _ | with_reducible exact h | with_reducible assumption | with_reducible apply State.takeSwitch_kept
      | with_reducible apply State.bumpLive_kept | with_reducible apply State.startSlotAs_kept
      | with_reducible apply State.dropUrgents_kept | with_reducible apply kept_ite | with_reducible apply kept_foldl
      | with_reducible apply kept_foldl_fst | simp only [spine_mk, spine_fold] | split)

theorem State.slotTick_kept {z : Spine} {s : State} (h : Kept z s.spine)  :
    Kept z (State.slotTick s).spine := by
  unfold State.slotTick
  repeat' (first
      | intro _ | with_reducible exact h | with_reducible assumption | with_reducible apply State.dropUrgents_kept
      | with_reducible apply State.captureStart_kept | with_reducible apply State.startSlot_kept | with_reducible apply kept_ite
      | with_reducible apply kept_foldl | with_reducible apply kept_foldl_fst | simp only [spine_mk, spine_fold] | split)

theorem State.tickFeed_kept {z : Spine} {s : State} (h : Kept z s.spine) (f : Nat) :
    Kept z (State.tickFeed s f).spine := by
  unfold State.tickFeed
  repeat' (first
      | intro _ | with_reducible exact h | with_reducible assumption | with_reducible apply State.openFeed_kept
      | with_reducible apply State.bump_kept | with_reducible apply State.inputReview_kept
      | with_reducible apply State.endRamp_kept | with_reducible apply State.moveFeed_kept
      | with_reducible apply State.setFeed_kept | with_reducible apply kept_ite | with_reducible apply kept_foldl
      | with_reducible apply kept_foldl_fst | simp only [spine_mk, spine_fold] | split)

theorem State.tickFeeds_kept {z : Spine} {s : State} (h : Kept z s.spine)  :
    Kept z (State.tickFeeds s).spine := by
  unfold State.tickFeeds
  repeat' (first
      | intro _ | with_reducible exact h | with_reducible assumption | with_reducible apply State.tickFeed_kept
      | with_reducible apply kept_ite | with_reducible apply kept_foldl | with_reducible apply kept_foldl_fst
      | simp only [spine_mk, spine_fold] | split)

theorem State.postScrub_kept {z : Spine} {s : State} (h : Kept z s.spine)  :
    Kept z (State.postScrub s).spine := by
  unfold State.postScrub
  repeat' (first
      | intro _ | with_reducible exact h | with_reducible assumption | with_reducible apply State.postLane_kept
      | with_reducible apply kept_ite | with_reducible apply kept_foldl | with_reducible apply kept_foldl_fst
      | simp only [spine_mk, spine_fold] | split)

theorem State.ownWork_kept {z : Spine} {s : State} (h : Kept z s.spine)  :
    Kept z (State.ownWork s).spine := by
  unfold State.ownWork
  repeat' (first
      | intro _ | with_reducible exact h | with_reducible assumption | with_reducible apply State.dueTurnOns_kept
      | with_reducible apply State.tickSinks_kept | with_reducible apply State.slotTick_kept
      | with_reducible apply State.tickFeeds_kept | with_reducible apply State.postScrub_kept | with_reducible apply kept_ite
      | with_reducible apply kept_foldl | with_reducible apply kept_foldl_fst | simp only [spine_mk, spine_fold] | split)

theorem State.tickBlocks_kept {z : Spine} {s : State} (h : Kept z s.spine)  :
    Kept z (State.tickBlocks s).spine := by
  unfold State.tickBlocks
  repeat' (first
      | intro _ | with_reducible exact h | with_reducible assumption | with_reducible apply State.after_kept
      | with_reducible apply State.ownWork_kept | with_reducible apply kept_ite | with_reducible apply kept_foldl
      | with_reducible apply kept_foldl_fst | simp only [spine_mk, spine_fold] | split)

theorem State.loaderBoot_kept {z : Spine} {s : State} (h : Kept z s.spine)  :
    Kept z (State.loaderBoot s).spine := by
  unfold State.loaderBoot
  repeat' (first
      | intro _ | with_reducible exact h | with_reducible assumption | with_reducible apply State.setNewBank_kept
      | with_reducible apply kept_ite | with_reducible apply kept_foldl | with_reducible apply kept_foldl_fst
      | simp only [spine_mk, spine_fold] | split)

theorem State.clocksEnd_kept {z : Spine} {s : State} (h : Kept z s.spine)  :
    Kept z (State.clocksEnd s).spine := by
  unfold State.clocksEnd
  split
  · refine State.loaderBoot_kept ⟨h.1, h.2, h.3, fun _ => Nat.le_of_ble_eq_true rfl, h.5⟩
  · exact h

theorem State.closeMsg_kept {z : Spine} {s : State} (h : Kept z s.spine)  :
    Kept z (State.closeMsg s).spine := by
  unfold State.closeMsg
  repeat' (first
      | intro _ | with_reducible exact h | with_reducible assumption | with_reducible apply kept_ite
      | with_reducible apply kept_foldl | with_reducible apply kept_foldl_fst | simp only [spine_mk, spine_fold] | split)

theorem State.collapseSink_kept {z : Spine} {s : State} (h : Kept z s.spine) (n : Nat) :
    Kept z (State.collapseSink s n).spine := by
  unfold State.collapseSink
  repeat' (first
      | intro _ | with_reducible exact h | with_reducible assumption | with_reducible apply State.sinkDone_kept
      | with_reducible apply State.setSink_kept | with_reducible apply kept_ite | with_reducible apply kept_foldl
      | with_reducible apply kept_foldl_fst | simp only [spine_mk, spine_fold] | split)

theorem State.collapseSinks_kept {z : Spine} {s : State} (h : Kept z s.spine)  :
    Kept z (State.collapseSinks s).spine := by
  unfold State.collapseSinks
  repeat' (first
      | intro _ | with_reducible exact h | with_reducible assumption | with_reducible apply State.collapseSink_kept
      | with_reducible apply kept_ite | with_reducible apply kept_foldl | with_reducible apply kept_foldl_fst
      | simp only [spine_mk, spine_fold] | split)

theorem State.freezeRing_kept {z : Spine} {s : State} (h : Kept z s.spine) (freeze : Nat) :
    Kept z (State.freezeRing s freeze).spine := by
  unfold State.freezeRing
  repeat' (first
      | intro _ | with_reducible exact h | with_reducible assumption | with_reducible apply State.setLive_kept
      | with_reducible apply State.bump_kept | with_reducible apply kept_ite | with_reducible apply kept_foldl
      | with_reducible apply kept_foldl_fst | simp only [spine_mk, spine_fold] | split)

theorem State.postPowerFail_kept {z : Spine} {s : State} (h : Kept z s.spine)  :
    Kept z (State.postPowerFail s).spine := by
  unfold State.postPowerFail
  repeat' (first
      | intro _ | with_reducible exact h | with_reducible assumption | with_reducible apply State.postEtch_kept
      | with_reducible apply State.recordTrigger_kept | with_reducible apply State.freezeRing_kept
      | with_reducible apply State.bumpLive_kept | with_reducible apply State.endCapture_kept | with_reducible apply kept_ite
      | with_reducible apply kept_foldl | with_reducible apply kept_foldl_fst | simp only [spine_mk, spine_fold] | split)

theorem State.powerFail_kept {z : Spine} {s : State} (h : Kept z s.spine)  :
    Kept z (State.powerFail s).spine := by
  unfold State.powerFail
  repeat' (first
      | intro _ | with_reducible exact h | with_reducible assumption | with_reducible apply State.stipAbort_kept
      | with_reducible apply State.postPowerFail_kept | with_reducible apply kept_ite | with_reducible apply kept_foldl
      | with_reducible apply kept_foldl_fst | simp only [spine_mk, spine_fold] | split)

theorem State.collapse_kept {z : Spine} {s : State} (h : Kept z s.spine)  :
    Kept z (State.collapse s).spine := by
  unfold State.collapse
  repeat' (first
      | intro _ | with_reducible exact h | with_reducible assumption | with_reducible apply State.leaveOn_kept
      | with_reducible apply State.setMargin_kept | with_reducible apply State.setFlag_kept
      | with_reducible apply State.noteCause_kept | with_reducible apply State.moveRail_kept
      | with_reducible apply State.collapseSinks_kept | with_reducible apply State.raise_kept
      | with_reducible apply State.freeRailLane_kept | with_reducible apply State.powerFail_kept
      | with_reducible apply State.muteJobs_kept | with_reducible apply State.setRail_kept | with_reducible apply State.bump_kept
      | with_reducible apply kept_ite | with_reducible apply kept_foldl | with_reducible apply kept_foldl_fst
      | simp only [spine_mk, spine_fold] | split)

theorem State.collapseCheck_kept {z : Spine} {s : State} (h : Kept z s.spine)  :
    Kept z (State.collapseCheck s).spine := by
  unfold State.collapseCheck
  repeat' (first
      | intro _ | with_reducible exact h | with_reducible assumption | with_reducible apply State.collapse_kept
      | with_reducible apply kept_ite | with_reducible apply kept_foldl | with_reducible apply kept_foldl_fst
      | simp only [spine_mk, spine_fold] | split)

theorem State.showFirst_kept {z : Spine} {s : State} (h : Kept z s.spine) (c : Candidate) :
    Kept z (State.showFirst s c).spine := by
  unfold State.showFirst
  repeat' (first
      | intro _ | with_reducible exact h | with_reducible assumption | with_reducible apply State.setPers_kept
      | with_reducible apply kept_ite | with_reducible apply kept_foldl | with_reducible apply kept_foldl_fst
      | simp only [spine_mk, spine_fold] | split)

theorem State.writeFF_kept {z : Spine} {s : State} (h : Kept z s.spine) (c : Candidate) (episode : Nat) :
    Kept z (State.writeFF s c episode).spine := by
  unfold State.writeFF
  split
  · exact h
  · exact State.writeBytes_kept h _ _

theorem State.decide__kept {z : Spine} {s : State} (h : Kept z s.spine) (c : Candidate) :
    Kept z (State.decide_ s c).spine := by
  unfold State.decide_
  have key : ∀ (t : State) (l : Ledger), Kept z t.spine → Kept z ({ t with ledger := l }).spine := fun _ _ h => h
  have h1 : Kept z (if s.store.recalling = true then s else (s.writeFF c (s.obj K.EPISODE)).showFirst c).spine :=
    kept_ite h (State.showFirst_kept (State.writeFF_kept h c (s.obj K.EPISODE)) c)
  apply key
  split
  · exact State.setLive_kept (kept_ite (State.postEtch_kept h1 _ _ _) h1) _ _
  · exact kept_ite (State.postEtch_kept h1 _ _ _) h1

theorem State.collectorDecision_kept {z : Spine} {s : State} (h : Kept z s.spine)  :
    Kept z (State.collectorDecision s).spine := by
  unfold State.collectorDecision
  repeat' (first
      | intro _ | with_reducible exact h | with_reducible assumption | with_reducible apply State.keepLatched_kept
      | with_reducible apply State.decide__kept | with_reducible apply kept_ite | with_reducible apply kept_foldl
      | with_reducible apply kept_foldl_fst | simp only [spine_mk, spine_fold] | split)

theorem State.startReturn_kept {z : Spine} {s : State} (h : Kept z s.spine) (n : Nat) :
    Kept z (State.startReturn s n).spine := by
  unfold State.startReturn
  repeat' (first
      | intro _ | with_reducible exact h | with_reducible assumption | with_reducible apply State.postPmb_kept
      | with_reducible apply State.setMargin_kept | with_reducible apply State.takeRailLane_kept
      | with_reducible apply State.dropJobs_kept | with_reducible apply kept_ite | with_reducible apply kept_foldl
      | with_reducible apply kept_foldl_fst | simp only [spine_mk, spine_fold] | split)

theorem State.marginNominal_kept {z : Spine} {s : State} (h : Kept z s.spine) (n : Nat) :
    Kept z (State.marginNominal s n).spine := by
  unfold State.marginNominal
  repeat' (first
      | intro _ | with_reducible exact h | with_reducible assumption | with_reducible apply State.setMargin_kept
      | with_reducible apply State.startReturn_kept | with_reducible apply kept_ite | with_reducible apply kept_foldl
      | with_reducible apply kept_foldl_fst | simp only [spine_mk, spine_fold] | split)

theorem State.removeLoad_kept {z : Spine} {s : State} (h : Kept z s.spine) (n : Nat) :
    Kept z (State.removeLoad s n).spine := by
  unfold State.removeLoad
  repeat' (first
      | intro _ | with_reducible exact h | with_reducible assumption | with_reducible apply State.removeSink_kept
      | with_reducible apply kept_ite | with_reducible apply kept_foldl | with_reducible apply kept_foldl_fst
      | simp only [spine_mk, spine_fold] | split)

theorem State.refuseMode_kept {z : Spine} {s : State} (h : Kept z s.spine) (n : Nat) (m : Margin) :
    Kept z (State.refuseMode s n m).spine := by
  unfold State.refuseMode
  repeat' (first
      | intro _ | with_reducible exact h | with_reducible assumption | with_reducible apply State.bump_kept
      | with_reducible apply State.postPmb_kept | with_reducible apply State.setMargin_kept
      | with_reducible apply State.raise_kept | with_reducible apply kept_ite | with_reducible apply kept_foldl
      | with_reducible apply kept_foldl_fst | simp only [spine_mk, spine_fold] | split)

theorem State.sendMarginWord_kept {z : Spine} {s : State} (h : Kept z s.spine) (n : Nat) :
    Kept z (State.sendMarginWord s n).spine := by
  unfold State.sendMarginWord
  repeat' (first
      | intro _ | with_reducible exact h | with_reducible assumption | with_reducible apply State.postPmb_kept
      | with_reducible apply State.setMargin_kept | with_reducible apply State.refuseMode_kept | with_reducible apply kept_ite
      | with_reducible apply kept_foldl | with_reducible apply kept_foldl_fst | simp only [spine_mk, spine_fold] | split)

theorem State.startMove_kept {z : Spine} {s : State} (h : Kept z s.spine) (n : Nat) :
    Kept z (State.startMove s n).spine := by
  unfold State.startMove
  repeat' (first
      | intro _ | with_reducible exact h | with_reducible assumption | with_reducible apply State.postPmb_kept
      | with_reducible apply State.sendMarginWord_kept | with_reducible apply State.setMargin_kept
      | with_reducible apply State.takeRailLane_kept | with_reducible apply State.dropJobs_kept | with_reducible apply kept_ite
      | with_reducible apply kept_foldl | with_reducible apply kept_foldl_fst | simp only [spine_mk, spine_fold] | split)

theorem State.marginMove_kept {z : Spine} {s : State} (h : Kept z s.spine) (n : Nat) (pos : Nat) :
    Kept z (State.marginMove s n pos).spine := by
  unfold State.marginMove
  repeat' (first
      | intro _ | with_reducible exact h | with_reducible assumption | with_reducible apply State.startMove_kept
      | with_reducible apply State.setMargin_kept | with_reducible apply State.bump_kept | with_reducible apply State.raise_kept
      | with_reducible apply kept_ite | with_reducible apply kept_foldl | with_reducible apply kept_foldl_fst
      | simp only [spine_mk, spine_fold] | split)

theorem State.stipWithdraw_kept {z : Spine} {s : State} (h : Kept z s.spine) (n : Nat) :
    Kept z (State.stipWithdraw s n).spine := by
  unfold State.stipWithdraw
  repeat' (first
      | intro _ | with_reducible exact h | with_reducible assumption | with_reducible apply State.setSink_kept
      | with_reducible apply State.freeLaneOf_kept | with_reducible apply State.coolEnergy_kept | with_reducible apply kept_ite
      | with_reducible apply kept_foldl | with_reducible apply kept_foldl_fst | simp only [spine_mk, spine_fold] | split)

theorem State.stipCancel_kept {z : Spine} {s : State} (h : Kept z s.spine) (n : Nat) :
    Kept z (State.stipCancel s n).spine := by
  unfold State.stipCancel
  repeat' (first
      | intro _ | with_reducible exact h | with_reducible assumption | with_reducible apply State.setStip_kept
      | with_reducible apply State.stipAbort_kept | with_reducible apply State.stipWithdraw_kept | with_reducible apply kept_ite
      | with_reducible apply kept_foldl | with_reducible apply kept_foldl_fst | simp only [spine_mk, spine_fold] | split)

theorem State.railCommand_kept {z : Spine} {s : State} (h : Kept z s.spine) (p : Nat) (key : Nat) (v : Nat) (n : Nat) :
    Kept z (State.railCommand s p key v n).spine := by
  unfold State.railCommand
  repeat' (first
      | intro _ | with_reducible exact h | with_reducible assumption | with_reducible apply State.marginNominal_kept
      | with_reducible apply State.setLive_kept | with_reducible apply State.removeLoad_kept
      | with_reducible apply State.marginMove_kept | with_reducible apply State.stipCancel_kept
      | with_reducible apply State.applyLoad_kept | with_reducible apply State.stipSchedule_kept | with_reducible apply kept_ite
      | with_reducible apply kept_foldl | with_reducible apply kept_foldl_fst | simp only [spine_mk, spine_fold] | split)

theorem State.postCal_kept {z : Spine} {s : State} (h : Kept z s.spine) (i : Nat) :
    Kept z (State.postCal s i).spine := by
  unfold State.postCal
  repeat' (first
      | intro _ | with_reducible exact h | with_reducible assumption | with_reducible apply State.postLane_kept
      | with_reducible apply State.setSlice_kept | with_reducible apply kept_ite | with_reducible apply kept_foldl
      | with_reducible apply kept_foldl_fst | simp only [spine_mk, spine_fold] | split)

theorem State.scanSelect_kept {z : Spine} {s : State} (h : Kept z s.spine) (b : Nat) :
    Kept z (State.scanSelect s b).spine := by
  unfold State.scanSelect
  repeat' (first
      | intro _ | with_reducible exact h | with_reducible assumption | with_reducible apply kept_ite
      | with_reducible apply kept_foldl | with_reducible apply kept_foldl_fst | simp only [spine_mk, spine_fold] | split)

theorem State.hostArm_kept {z : Spine} {s : State} (h : Kept z s.spine) (p : Nat) :
    Kept z (State.hostArm s p).spine := by
  unfold State.hostArm
  repeat' (first
      | intro _ | with_reducible exact h | with_reducible assumption | with_reducible apply State.armCapture_kept
      | with_reducible apply kept_ite | with_reducible apply kept_foldl | with_reducible apply kept_foldl_fst
      | simp only [spine_mk, spine_fold] | split)

theorem State.rearmRing_kept {z : Spine} {s : State} (h : Kept z s.spine)  :
    Kept z (State.rearmRing s).spine := by
  unfold State.rearmRing
  repeat' (first
      | intro _ | with_reducible exact h | with_reducible assumption | with_reducible apply State.setLive_kept
      | with_reducible apply kept_ite | with_reducible apply kept_foldl | with_reducible apply kept_foldl_fst
      | simp only [spine_mk, spine_fold] | split)

theorem State.converterCommand_kept {z : Spine} {s : State} (h : Kept z s.spine) (p : Nat) (key : Nat) (v : Nat) :
    Kept z (State.converterCommand s p key v).spine := by
  unfold State.converterCommand
  repeat' (first
      | intro _ | with_reducible exact h | with_reducible assumption | with_reducible apply State.ringTrigger_kept
      | with_reducible apply State.postCal_kept | with_reducible apply State.scanSelect_kept
      | with_reducible apply State.releaseCapture_kept | with_reducible apply State.urgent_kept
      | with_reducible apply State.abortCapture_kept | with_reducible apply State.hostArm_kept
      | with_reducible apply State.rearmRing_kept | with_reducible apply kept_ite | with_reducible apply kept_foldl
      | with_reducible apply kept_foldl_fst | simp only [spine_mk, spine_fold] | split)

theorem State.command_kept {z : Spine} {s : State} (h : Kept z s.spine) (p : Nat) (key : Nat) (v : Nat) :
    Kept z (State.command s p key v).spine := by
  unfold State.command
  repeat' (first
      | intro _ | with_reducible exact h | with_reducible assumption | with_reducible apply State.railCommand_kept
      | with_reducible apply State.converterCommand_kept | with_reducible apply State.blockCommand_kept
      | with_reducible apply kept_ite | with_reducible apply kept_foldl | with_reducible apply kept_foldl_fst
      | simp only [spine_mk, spine_fold] | split)

theorem State.portWrite_kept {z : Spine} {s : State} (h : Kept z s.spine) (a : Nat) (bs : List Byte) :
    Kept z (State.portWrite s a bs).spine := by
  unfold State.portWrite
  repeat' (first
      | intro _ | with_reducible exact h | with_reducible assumption | with_reducible apply State.writeBytes_kept
      | with_reducible apply kept_ite | with_reducible apply kept_foldl | with_reducible apply kept_foldl_fst
      | simp only [spine_mk, spine_fold] | split)

theorem State.windowWrite_kept {z : Spine} {s : State} (h : Kept z s.spine) (p : Nat) (m : Member) :
    Kept z (State.windowWrite s p m).spine := by
  unfold State.windowWrite
  repeat' (first
      | intro _ | with_reducible exact h | with_reducible assumption | with_reducible apply State.portWrite_kept
      | with_reducible apply State.writeValue_kept | with_reducible apply kept_ite | with_reducible apply kept_foldl
      | with_reducible apply kept_foldl_fst | simp only [spine_mk, spine_fold] | split)

theorem State.convoyWritten_kept {z : Spine} {s : State} (h : Kept z s.spine)  :
    Kept z (State.convoyWritten s).spine := by
  unfold State.convoyWritten
  repeat' (first
      | intro _ | with_reducible exact h | with_reducible assumption | with_reducible apply State.leaveConvoy_kept
      | with_reducible apply kept_ite | with_reducible apply kept_foldl | with_reducible apply kept_foldl_fst
      | simp only [spine_mk, spine_fold] | split)

theorem State.noteWindow_kept {z : Spine} {s : State} (h : Kept z s.spine) (old : Nat) :
    Kept z (State.noteWindow s old).spine := by
  unfold State.noteWindow
  repeat' (first
      | intro _ | with_reducible exact h | with_reducible assumption | with_reducible apply kept_ite
      | with_reducible apply kept_foldl | with_reducible apply kept_foldl_fst | simp only [spine_mk, spine_fold] | split)

theorem State.commitWrites_kept {z : Spine} {s : State} (h : Kept z s.spine) (p : Nat) (ms : List Member) :
    Kept z (State.commitWrites s p ms).spine := by
  unfold State.commitWrites
  repeat' (first
      | intro _ | with_reducible exact h | with_reducible assumption | with_reducible apply State.command_kept
      | with_reducible apply State.windowWrite_kept | with_reducible apply State.convoyWritten_kept
      | with_reducible apply State.drive_kept | with_reducible apply State.startAutoTimer_kept
      | with_reducible apply State.writeHook_kept | with_reducible apply State.writeValue_kept
      | with_reducible apply State.noteWindow_kept | with_reducible apply kept_ite | with_reducible apply kept_foldl
      | with_reducible apply kept_foldl_fst | simp only [spine_mk, spine_fold] | split)

theorem State.confirmSpanEnd_kept {z : Spine} {s : State} (h : Kept z s.spine)  :
    Kept z (State.confirmSpanEnd s).spine := by
  unfold State.confirmSpanEnd
  repeat' (first
      | intro _ | with_reducible exact h | with_reducible assumption | with_reducible apply State.setHealth_kept
      | with_reducible apply kept_ite | with_reducible apply kept_foldl | with_reducible apply kept_foldl_fst
      | simp only [spine_mk, spine_fold] | split)

theorem State.confirmation_kept {z : Spine} {s : State} (h : Kept z s.spine)  :
    Kept z (State.confirmation s).spine := by
  unfold State.confirmation
  repeat' (first
      | intro _ | with_reducible exact h | with_reducible assumption | with_reducible apply State.setUpd_kept
      | with_reducible apply State.writeRecord_kept | with_reducible apply State.bump_kept
      | with_reducible apply State.updReason_kept | with_reducible apply State.setAreaState_kept
      | with_reducible apply State.raise_kept | with_reducible apply kept_ite | with_reducible apply kept_foldl
      | with_reducible apply kept_foldl_fst | simp only [spine_mk, spine_fold] | split)

theorem State.coolingExpiry_kept {z : Spine} {s : State} (h : Kept z s.spine)  :
    Kept z (State.coolingExpiry s).spine := by
  unfold State.coolingExpiry
  repeat' (first
      | intro _ | with_reducible exact h | with_reducible assumption | with_reducible apply kept_ite
      | with_reducible apply kept_foldl | with_reducible apply kept_foldl_fst | simp only [spine_mk, spine_fold] | split)

theorem State.coreRestart_kept {z : Spine} {s : State} (h : Kept z s.spine) (cause : Nat) :
    Kept z (State.coreRestart s cause).spine := by
  unfold State.coreRestart
  repeat' (first
      | intro _ | with_reducible exact h | with_reducible assumption | with_reducible apply State.clearLatches_kept
      | with_reducible apply State.trialFail_kept | with_reducible apply State.raise_kept | with_reducible apply kept_ite
      | with_reducible apply kept_foldl | with_reducible apply kept_foldl_fst | simp only [spine_mk, spine_fold] | split)

theorem State.lateReady_kept {z : Spine} {s : State} (h : Kept z s.spine)  :
    Kept z (State.lateReady s).spine := by
  unfold State.lateReady
  repeat' (first
      | intro _ | with_reducible exact h | with_reducible assumption | with_reducible apply State.bumpLive_kept
      | with_reducible apply State.updBeat_kept | with_reducible apply kept_ite | with_reducible apply kept_foldl
      | with_reducible apply kept_foldl_fst | simp only [spine_mk, spine_fold] | split)

theorem State.postDeferred_kept {z : Spine} {s : State} (h : Kept z s.spine)  :
    Kept z (State.postDeferred s).spine := by
  unfold State.postDeferred
  repeat' (first
      | intro _ | with_reducible exact h | with_reducible assumption | with_reducible apply State.startDependent_kept
      | with_reducible apply State.postShutdown_kept | with_reducible apply kept_ite | with_reducible apply kept_foldl
      | with_reducible apply kept_foldl_fst | simp only [spine_mk, spine_fold] | split)

theorem State.coreStart_kept {z : Spine} {s : State} (h : Kept z s.spine)  :
    Kept z (State.coreStart s).spine := by
  unfold State.coreStart
  repeat' (first
      | intro _ | with_reducible exact h | with_reducible assumption | with_reducible apply State.noteWindow_kept
      | with_reducible apply State.lateReady_kept | with_reducible apply State.postDeferred_kept
      | with_reducible apply State.drive_kept | with_reducible apply State.bootImage_kept
      | with_reducible apply State.leaveConvoy_kept | with_reducible apply kept_ite | with_reducible apply kept_foldl
      | with_reducible apply kept_foldl_fst | simp only [spine_mk, spine_fold] | split)

theorem State.correctedOnce_kept {z : Spine} {s : State} (h : Kept z s.spine) (page : Nat) (ch : Nat) (medium : Nat) (group : Nat) :
    Kept z (State.correctedOnce s page ch medium group).spine := by
  unfold State.correctedOnce
  repeat' (first
      | intro _ | with_reducible exact h | with_reducible assumption | with_reducible apply State.raise_kept
      | with_reducible apply kept_ite | with_reducible apply kept_foldl | with_reducible apply kept_foldl_fst
      | simp only [spine_mk, spine_fold] | split)

theorem State.countRefusals_kept {z : Spine} {s : State} (h : Kept z s.spine) (sts : List Nat) :
    Kept z (State.countRefusals s sts).spine := by
  unfold State.countRefusals
  repeat' (first
      | intro _ | with_reducible exact h | with_reducible assumption | with_reducible apply State.bump_kept
      | with_reducible apply State.bumpLive_kept | with_reducible apply kept_ite | with_reducible apply kept_foldl
      | with_reducible apply kept_foldl_fst | simp only [spine_mk, spine_fold] | split)

theorem State.countStart_kept {z : Spine} {s : State} (h : Kept z s.spine)  :
    Kept z (State.countStart s).spine := by
  unfold State.countStart
  repeat' (first
      | intro _ | with_reducible exact h | with_reducible assumption | with_reducible apply State.setLive_kept
      | with_reducible apply State.bump_kept | with_reducible apply kept_ite | with_reducible apply kept_foldl
      | with_reducible apply kept_foldl_fst | simp only [spine_mk, spine_fold] | split)

theorem State.cross_kept {z : Spine} {s : State} (h : Kept z s.spine) (n : Nat) (c : Nat) :
    Kept z (State.cross s n c).spine := by
  unfold State.cross
  repeat' (first
      | intro _ | with_reducible exact h | with_reducible assumption | with_reducible apply State.setFilter_kept
      | with_reducible apply State.qualifyDue_kept | with_reducible apply kept_ite | with_reducible apply kept_foldl
      | with_reducible apply kept_foldl_fst | simp only [spine_mk, spine_fold] | split)

theorem State.cscStuck_kept {z : Spine} {s : State} (h : Kept z s.spine)  :
    Kept z (State.cscStuck s).spine := by
  unfold State.cscStuck
  repeat' (first
      | intro _ | with_reducible exact h | with_reducible assumption | with_reducible apply State.raise_kept
      | with_reducible apply kept_ite | with_reducible apply kept_foldl | with_reducible apply kept_foldl_fst
      | simp only [spine_mk, spine_fold] | split)

theorem State.damagedElement_kept {z : Spine} {s : State} (h : Kept z s.spine) (f : Nat) :
    Kept z (State.damagedElement s f).spine := by
  unfold State.damagedElement
  repeat' (first
      | intro _ | with_reducible exact h | with_reducible assumption | with_reducible apply State.openFeed_kept
      | with_reducible apply State.setPers_kept | with_reducible apply State.raise_kept | with_reducible apply kept_ite
      | with_reducible apply kept_foldl | with_reducible apply kept_foldl_fst | simp only [spine_mk, spine_fold] | split)

theorem State.damagedPath_kept {z : Spine} {s : State} (h : Kept z s.spine)  :
    Kept z (State.damagedPath s).spine := by
  unfold State.damagedPath
  repeat' (first
      | intro _ | with_reducible exact h | with_reducible assumption | with_reducible apply State.raise_kept
      | with_reducible apply kept_ite | with_reducible apply kept_foldl | with_reducible apply kept_foldl_fst
      | simp only [spine_mk, spine_fold] | split)

theorem State.setLead_kept {z : Spine} {s : State} (h : Kept z s.spine) (l : Leading) :
    Kept z (State.setLead s l).spine := by
  unfold State.setLead
  repeat' (first
      | intro _ | with_reducible exact h | with_reducible assumption | with_reducible apply kept_ite
      | with_reducible apply kept_foldl | with_reducible apply kept_foldl_fst | simp only [spine_mk, spine_fold] | split)

theorem State.deliverRepeat_kept {z : Spine} {s : State} (h : Kept z s.spine)  :
    Kept z (State.deliverRepeat s).spine := by
  unfold State.deliverRepeat
  repeat' (first
      | intro _ | with_reducible exact h | with_reducible assumption | with_reducible apply State.setLead_kept
      | with_reducible apply kept_ite | with_reducible apply kept_foldl | with_reducible apply kept_foldl_fst
      | simp only [spine_mk, spine_fold] | split)

theorem State.srcResult_kept {z : Spine} {s : State} (h : Kept z s.spine) (f : Nat) (v : Int) :
    Kept z (State.srcResult s f v).spine := by
  unfold State.srcResult
  repeat' (first
      | intro _ | with_reducible exact h | with_reducible assumption | with_reducible apply State.setFeed_kept
      | with_reducible apply kept_ite | with_reducible apply kept_foldl | with_reducible apply kept_foldl_fst
      | simp only [spine_mk, spine_fold] | split)

theorem State.quickCompare_kept {z : Spine} {s : State} (h : Kept z s.spine) (q : Nat) (v : Int) :
    Kept z (State.quickCompare s q v).spine := by
  unfold State.quickCompare
  repeat' (first
      | intro _ | with_reducible exact h | with_reducible assumption | with_reducible apply State.raise_kept
      | with_reducible apply State.bump_kept | with_reducible apply kept_ite | with_reducible apply kept_foldl
      | with_reducible apply kept_foldl_fst | simp only [spine_mk, spine_fold] | split)

end Sys2Proof.Machine
end

