-- ==== Sys2Proof/Laws/Kept5.lean ====
section
/-! SUPPORT. What every operation keeps of the spine (part 5 of 7): one lemma for each operation on the state. -/

set_option linter.unusedSimpArgs false

namespace Sys2Proof.Machine

theorem State.limitCheck_kept {z : Spine} {s : State} (h : Kept z s.spine) (c : Nat) (kind : Nat) (out : Bool) (back : Bool) :
    Kept z (State.limitCheck s c kind out back).spine := by
  unfold State.limitCheck
  repeat' (first
      | intro _ | with_reducible exact h | with_reducible assumption | with_reducible apply State.raise_kept
      | with_reducible apply kept_ite | with_reducible apply kept_foldl | with_reducible apply kept_foldl_fst
      | simp only [spine_mk, spine_fold] | split)

theorem State.supplyCheck_kept {z : Spine} {s : State} (h : Kept z s.spine) (c : Nat) (v : Int) :
    Kept z (State.supplyCheck s c v).spine := by
  unfold State.supplyCheck
  repeat' (first
      | intro _ | with_reducible exact h | with_reducible assumption | with_reducible apply State.limitCheck_kept
      | with_reducible apply kept_ite | with_reducible apply kept_foldl | with_reducible apply kept_foldl_fst
      | simp only [spine_mk, spine_fold] | split)

theorem State.fallen_kept {z : Spine} {s : State} (h : Kept z s.spine) (n : Nat) :
    Kept z (State.fallen s n).spine := by
  unfold State.fallen
  repeat' (first
      | intro _ | with_reducible exact h | with_reducible assumption | with_reducible apply State.discharged_kept
      | with_reducible apply State.later_kept | with_reducible apply kept_ite | with_reducible apply kept_foldl
      | with_reducible apply kept_foldl_fst | simp only [spine_mk, spine_fold] | split)

theorem State.offLevelResult_kept {z : Spine} {s : State} (h : Kept z s.spine) (n : Nat) (v : Int) (slotTick : Nat) :
    Kept z (State.offLevelResult s n v slotTick).spine := by
  unfold State.offLevelResult
  repeat' (first
      | intro _ | with_reducible exact h | with_reducible assumption | with_reducible apply State.fallen_kept
      | with_reducible apply State.setRail_kept | with_reducible apply kept_ite | with_reducible apply kept_foldl
      | with_reducible apply kept_foldl_fst | simp only [spine_mk, spine_fold] | split)

theorem State.senseResult_kept {z : Spine} {s : State} (h : Kept z s.spine) (f : Nat) (v : Int) :
    Kept z (State.senseResult s f v).spine := by
  unfold State.senseResult
  repeat' (first
      | intro _ | with_reducible exact h | with_reducible assumption | with_reducible apply State.setFeed_kept
      | with_reducible apply kept_ite | with_reducible apply kept_foldl | with_reducible apply kept_foldl_fst
      | simp only [spine_mk, spine_fold] | split)

theorem State.noteOwn_kept {z : Spine} {s : State} (h : Kept z s.spine) (c : Nat) (v : Int) :
    Kept z (State.noteOwn s c v).spine := by
  unfold State.noteOwn
  repeat' (first
      | intro _ | with_reducible exact h | with_reducible assumption | with_reducible apply State.setLive_kept
      | with_reducible apply kept_ite | with_reducible apply kept_foldl | with_reducible apply kept_foldl_fst
      | simp only [spine_mk, spine_fold] | split)

theorem State.liveResult_kept {z : Spine} {s : State} (h : Kept z s.spine) (d : Delivered) :
    Kept z (State.liveResult s d).spine := by
  unfold State.liveResult
  repeat' (first
      | intro _ | with_reducible exact h | with_reducible assumption | with_reducible apply State.setLive_kept
      | with_reducible apply State.setLiveOf_kept | with_reducible apply kept_ite | with_reducible apply kept_foldl
      | with_reducible apply kept_foldl_fst | simp only [spine_mk, spine_fold] | split)

theorem State.deliverResult_kept {z : Spine} {s : State} (h : Kept z s.spine) (d : Delivered) :
    Kept z (State.deliverResult s d).spine := by
  unfold State.deliverResult
  repeat' (first
      | intro _ | with_reducible exact h | with_reducible assumption | with_reducible apply State.srcResult_kept
      | with_reducible apply State.quickCompare_kept | with_reducible apply State.supplyCheck_kept
      | with_reducible apply State.offLevelResult_kept | with_reducible apply State.senseResult_kept
      | with_reducible apply State.noteOwn_kept | with_reducible apply State.liveResult_kept | with_reducible apply kept_ite
      | with_reducible apply kept_foldl | with_reducible apply kept_foldl_fst | simp only [spine_mk, spine_fold] | split)

theorem State.statuses_kept {z : Spine} {w : State} (h : Kept z w.spine) (s : State) (p : Nat) (x : Session) (ms : List Member) :
    Kept z (State.statuses s w p x ms).1.spine := by
  induction ms generalizing w p x with
  | nil =>
    unfold State.statuses
    exact h
  | cons m r ih =>
    unfold State.statuses
    repeat' (first
        | intro _ | simp only [spine_mk, spine_fold] | with_reducible exact h | with_reducible assumption
        | with_reducible apply ih | with_reducible apply State.applyLoad_kept | with_reducible apply kept_ite
        | with_reducible apply kept_foldl | with_reducible apply kept_foldl_fst | split | dsimp only)

theorem State.stencilChanged_kept {z : Spine} {s : State} (h : Kept z s.spine) (p : Nat) :
    Kept z (State.stencilChanged s p).spine := by
  unfold State.stencilChanged
  repeat' (first
      | intro _ | with_reducible exact h | with_reducible assumption | with_reducible apply State.setLive_kept
      | with_reducible apply State.raise_kept | with_reducible apply kept_ite | with_reducible apply kept_foldl
      | with_reducible apply kept_foldl_fst | simp only [spine_mk, spine_fold] | split)

theorem State.hardware_kept {z : Spine} {s : State} (h : Kept z s.spine)  :
    Kept z (State.hardware s).spine := by
  unfold State.hardware
  repeat' (first
      | intro _ | with_reducible exact h | with_reducible assumption | with_reducible apply State.rest_kept
      | with_reducible apply State.ownWork_kept | with_reducible apply kept_ite | with_reducible apply kept_foldl
      | with_reducible apply kept_foldl_fst | simp only [spine_mk, spine_fold] | split)

theorem State.foreseen_kept {z : Spine} {w : State} (h : Kept z w.spine) (s : State) :
    Kept z (State.foreseen w s).spine := by
  unfold State.foreseen
  try dsimp only
  repeat' (first
      | intro _ | simp only [spine_mk, spine_fold] | with_reducible exact h | with_reducible assumption
      | with_reducible apply State.setProtect_kept | with_reducible apply kept_ite | with_reducible apply kept_foldl
      | with_reducible apply kept_foldl_fst | split | dsimp only)

theorem State.previewValue_kept {z : Spine} {s : State} (h : Kept z s.spine) (p : Nat) (key : Nat) (v : Nat) :
    Kept z (State.previewValue s p key v).spine := by
  unfold State.previewValue
  repeat' (first
      | intro _ | with_reducible exact h | with_reducible assumption | with_reducible apply State.setLive_kept
      | with_reducible apply State.writeValue_kept | with_reducible apply kept_ite | with_reducible apply kept_foldl
      | with_reducible apply kept_foldl_fst | simp only [spine_mk, spine_fold] | split)

theorem State.previewMember_kept {z : Spine} {w : State} (h : Kept z w.spine) (resets : Bool) (p : Nat) (m : Member) :
    Kept z (State.previewMember w resets p m).spine := by
  unfold State.previewMember
  repeat' (first
      | intro _ | with_reducible exact h | with_reducible assumption | with_reducible apply State.setLive_kept
      | with_reducible apply State.previewValue_kept | with_reducible apply kept_ite | with_reducible apply kept_foldl
      | with_reducible apply kept_foldl_fst | simp only [spine_mk, spine_fold] | split)

theorem State.preview_kept {z : Spine} {s : State} (h : Kept z s.spine) (p : Nat) (ms : List Member) :
    Kept z (State.preview s p ms).spine := by
  unfold State.preview
  repeat' (first
      | intro _ | with_reducible exact h | with_reducible assumption | with_reducible apply State.foreseen_kept
      | with_reducible apply State.previewMember_kept | with_reducible apply kept_ite | with_reducible apply kept_foldl
      | with_reducible apply kept_foldl_fst | simp only [spine_mk, spine_fold] | split)

theorem State.perform_kept {z : Spine} {s : State} (h : Kept z s.spine) (p : Nat) (x : Session) (ms : List Member) :
    Kept z (State.perform s p x ms).st.spine := by
  unfold State.perform
  repeat' (first
      | intro _ | with_reducible exact h | with_reducible assumption | with_reducible apply State.statuses_kept
      | with_reducible apply State.answerAll_kept | with_reducible apply State.commitWrites_kept
      | with_reducible apply State.stencilChanged_kept | with_reducible apply State.hardware_kept
      | with_reducible apply State.preview_kept | with_reducible apply State.countRefusals_kept | with_reducible apply kept_ite
      | with_reducible apply kept_foldl | with_reducible apply kept_foldl_fst | simp only [spine_mk, spine_fold] | split)

theorem State.endCaptureOf_kept {z : Spine} {s : State} (h : Kept z s.spine) (p : Nat) :
    Kept z (State.endCaptureOf s p).spine := by
  unfold State.endCaptureOf
  repeat' (first
      | intro _ | with_reducible exact h | with_reducible assumption | with_reducible apply State.releaseCapture_kept
      | with_reducible apply kept_ite | with_reducible apply kept_foldl | with_reducible apply kept_foldl_fst
      | simp only [spine_mk, spine_fold] | split)

theorem State.endTest_kept {z : Spine} {s : State} (h : Kept z s.spine) (p : Nat) :
    Kept z (State.endTest s p).spine := by
  unfold State.endTest
  repeat' (first
      | intro _ | with_reducible exact h | with_reducible assumption | with_reducible apply State.setLive_kept
      | with_reducible apply kept_ite | with_reducible apply kept_foldl | with_reducible apply kept_foldl_fst
      | simp only [spine_mk, spine_fold] | split)

theorem State.sessionLoads_kept {z : Spine} {s : State} (h : Kept z s.spine) (port : Nat) :
    Kept z (State.sessionLoads s port).spine := by
  unfold State.sessionLoads
  repeat' (first
      | intro _ | with_reducible exact h | with_reducible assumption | with_reducible apply State.removeLoad_kept
      | with_reducible apply State.setSink_kept | with_reducible apply kept_ite | with_reducible apply kept_foldl
      | with_reducible apply kept_foldl_fst | simp only [spine_mk, spine_fold] | split)

theorem State.dropClaims_kept {z : Spine} {s : State} (h : Kept z s.spine) (p : Nat) :
    Kept z (State.dropClaims s p).spine := by
  unfold State.dropClaims
  repeat' (first
      | intro _ | with_reducible exact h | with_reducible assumption | with_reducible apply kept_ite
      | with_reducible apply kept_foldl | with_reducible apply kept_foldl_fst | simp only [spine_mk, spine_fold] | split)

theorem State.endSession_kept {z : Spine} {s : State} (h : Kept z s.spine) (p : Nat) :
    Kept z (State.endSession s p).spine := by
  unfold State.endSession
  repeat' (first
      | intro _ | with_reducible exact h | with_reducible assumption | with_reducible apply State.setPort_kept
      | with_reducible apply State.endCaptureOf_kept | with_reducible apply State.endTest_kept
      | with_reducible apply State.sessionLoads_kept | with_reducible apply State.dropClaims_kept | with_reducible apply kept_ite
      | with_reducible apply kept_foldl | with_reducible apply kept_foldl_fst | simp only [spine_mk, spine_fold] | split)

theorem State.reviewClaims_kept {z : Spine} {s : State} (h : Kept z s.spine)  :
    Kept z (State.reviewClaims s).spine := by
  unfold State.reviewClaims
  repeat' (first
      | intro _ | with_reducible exact h | with_reducible assumption | with_reducible apply kept_ite
      | with_reducible apply kept_foldl | with_reducible apply kept_foldl_fst | simp only [spine_mk, spine_fold] | split)

theorem State.serveNew_kept {z : Spine} {s : State} (h : Kept z s.spine) (p : Nat) (x : Session) (seq : Nat) (ms : List Member) :
    Kept z (State.serveNew s p x seq ms).spine := by
  unfold State.serveNew
  repeat' (first
      | intro _ | with_reducible exact h | with_reducible assumption | with_reducible apply State.answerEach_kept
      | with_reducible apply State.perform_kept | with_reducible apply State.deliver_kept
      | with_reducible apply State.setPort_kept | with_reducible apply State.endSession_kept
      | with_reducible apply State.reviewClaims_kept | with_reducible apply kept_ite | with_reducible apply kept_foldl
      | with_reducible apply kept_foldl_fst | simp only [spine_mk, spine_fold] | split)

theorem State.serveNone_kept {z : Spine} {s : State} (h : Kept z s.spine) (p : Nat) (seq : Nat) (ms : List Member) :
    Kept z (State.serveNone s p seq ms).spine := by
  unfold State.serveNone
  repeat' (first
      | intro _ | with_reducible exact h | with_reducible assumption | with_reducible apply State.deliver_kept
      | with_reducible apply kept_ite | with_reducible apply kept_foldl | with_reducible apply kept_foldl_fst
      | simp only [spine_mk, spine_fold] | split)

theorem State.direct_kept {z : Spine} {s : State} (h : Kept z s.spine) (p : Nat) (m : Member) :
    Kept z (State.direct s p m).spine := by
  unfold State.direct
  repeat' (first
      | intro _ | with_reducible exact h | with_reducible assumption | with_reducible apply State.clearFrameErr_kept
      | with_reducible apply State.serveNew_kept | with_reducible apply State.serveNone_kept
      | with_reducible apply State.wake_kept | with_reducible apply kept_ite | with_reducible apply kept_foldl
      | with_reducible apply kept_foldl_fst | simp only [spine_mk, spine_fold] | split)

theorem State.dischFailed_kept {z : Spine} {s : State} (h : Kept z s.spine) (n : Nat) :
    Kept z (State.dischFailed s n).spine := by
  unfold State.dischFailed
  repeat' (first
      | intro _ | with_reducible exact h | with_reducible assumption | with_reducible apply State.setFlag_kept
      | with_reducible apply State.discharged_kept | with_reducible apply State.raise_kept | with_reducible apply kept_ite
      | with_reducible apply kept_foldl | with_reducible apply kept_foldl_fst | simp only [spine_mk, spine_fold] | split)

theorem State.forceDischarge_kept {z : Spine} {s : State} (h : Kept z s.spine) (n : Nat) (level : Nat) :
    Kept z (State.forceDischarge s n level).spine := by
  unfold State.forceDischarge
  repeat' (first
      | intro _ | with_reducible exact h | with_reducible assumption | with_reducible apply State.postPower_kept
      | with_reducible apply State.setSink_kept | with_reducible apply kept_ite | with_reducible apply kept_foldl
      | with_reducible apply kept_foldl_fst | simp only [spine_mk, spine_fold] | split)

theorem State.dischTimeout_kept {z : Spine} {s : State} (h : Kept z s.spine) (n : Nat) :
    Kept z (State.dischTimeout s n).spine := by
  unfold State.dischTimeout
  repeat' (first
      | intro _ | with_reducible exact h | with_reducible assumption | with_reducible apply State.forceDischarge_kept
      | with_reducible apply State.setFlag_kept | with_reducible apply State.setRail_kept
      | with_reducible apply State.readStatus_kept | with_reducible apply State.bump_kept
      | with_reducible apply State.moveRail_kept | with_reducible apply State.raise_kept | with_reducible apply kept_ite
      | with_reducible apply kept_foldl | with_reducible apply kept_foldl_fst | simp only [spine_mk, spine_fold] | split)

theorem State.dwellEnd_kept {z : Spine} {s : State} (h : Kept z s.spine)  :
    Kept z (State.dwellEnd s).spine := by
  unfold State.dwellEnd
  repeat' (first
      | intro _ | with_reducible exact h | with_reducible assumption | with_reducible apply kept_ite
      | with_reducible apply kept_foldl | with_reducible apply kept_foldl_fst | simp only [spine_mk, spine_fold] | split)

theorem State.unmate_kept {z : Spine} {s : State} (h : Kept z s.spine) (f : Nat) :
    Kept z (State.unmate s f).spine := by
  unfold State.unmate
  repeat' (first
      | intro _ | with_reducible exact h | with_reducible assumption | with_reducible apply State.untrip_kept
      | with_reducible apply State.openFeed_kept | with_reducible apply kept_ite | with_reducible apply kept_foldl
      | with_reducible apply kept_foldl_fst | simp only [spine_mk, spine_fold] | split)

theorem State.pullFeeds_kept {z : Spine} {s : State} (h : Kept z s.spine)  :
    Kept z (State.pullFeeds s).spine := by
  unfold State.pullFeeds
  repeat' (first
      | intro _ | with_reducible exact h | with_reducible assumption | with_reducible apply State.unmate_kept
      | with_reducible apply kept_ite | with_reducible apply kept_foldl | with_reducible apply kept_foldl_fst
      | simp only [spine_mk, spine_fold] | split)

theorem State.inputLossEvent_kept {z : Spine} {s : State} (h : Kept z s.spine)  :
    Kept z (State.inputLossEvent s).spine := by
  unfold State.inputLossEvent
  repeat' (first
      | intro _ | with_reducible exact h | with_reducible assumption | with_reducible apply State.bump_kept
      | with_reducible apply State.localShutdown_kept | with_reducible apply State.raise_kept | with_reducible apply kept_ite
      | with_reducible apply kept_foldl | with_reducible apply kept_foldl_fst | simp only [spine_mk, spine_fold] | split)

theorem State.leaveMating_kept {z : Spine} {s : State} (h : Kept z s.spine) (f : Nat) :
    Kept z (State.leaveMating s f).spine := by
  unfold State.leaveMating
  repeat' (first
      | intro _ | with_reducible exact h | with_reducible assumption | with_reducible apply State.unmate_kept
      | with_reducible apply State.setFeed_kept | with_reducible apply kept_ite | with_reducible apply kept_foldl
      | with_reducible apply kept_foldl_fst | simp only [spine_mk, spine_fold] | split)

theorem State.loseMating_kept {z : Spine} {s : State} (h : Kept z s.spine) (early : Bool) :
    Kept z (State.loseMating s early).spine := by
  unfold State.loseMating
  repeat' (first
      | intro _ | with_reducible exact h | with_reducible assumption | with_reducible apply State.pullFeeds_kept
      | with_reducible apply State.raise_kept | with_reducible apply State.inputLossEvent_kept
      | with_reducible apply State.leaveMating_kept | with_reducible apply State.bump_kept | with_reducible apply kept_ite
      | with_reducible apply kept_foldl | with_reducible apply kept_foldl_fst | simp only [spine_mk, spine_fold] | split)

theorem State.earlyHigh_kept {z : Spine} {s : State} (h : Kept z s.spine)  :
    Kept z (State.earlyHigh s).spine := by
  unfold State.earlyHigh
  repeat' (first
      | intro _ | with_reducible exact h | with_reducible assumption | with_reducible apply State.pullFeeds_kept
      | with_reducible apply State.loseMating_kept | with_reducible apply kept_ite | with_reducible apply kept_foldl
      | with_reducible apply kept_foldl_fst | simp only [spine_mk, spine_fold] | split)

theorem State.eccPatrol_kept {z : Spine} {s : State} (h : Kept z s.spine) (page : Nat) (ch : Nat) (group : Nat) (bad : Bool) :
    Kept z (State.eccPatrol s page ch group bad).spine := by
  unfold State.eccPatrol
  repeat' (first
      | intro _ | with_reducible exact h | with_reducible assumption | with_reducible apply State.correctedOnce_kept
      | with_reducible apply State.bump_kept | with_reducible apply State.raise_kept | with_reducible apply kept_ite
      | with_reducible apply kept_foldl | with_reducible apply kept_foldl_fst | simp only [spine_mk, spine_fold] | split)

theorem State.endJob_kept {z : Spine} {s : State} (h : Kept z s.spine) (port : Nat) (j : PmbJob) :
    Kept z (State.endJob s port j).spine := by
  unfold State.endJob
  repeat' (first
      | intro _ | with_reducible exact h | with_reducible assumption | with_reducible apply State.freeLaneOf_kept
      | with_reducible apply kept_ite | with_reducible apply kept_foldl | with_reducible apply kept_foldl_fst
      | simp only [spine_mk, spine_fold] | split)

theorem State.startConvoy_kept {z : Spine} {s : State} (h : Kept z s.spine)  :
    Kept z (State.startConvoy s).spine := by
  unfold State.startConvoy
  repeat' (first
      | intro _ | with_reducible exact h | with_reducible assumption | with_reducible apply kept_ite
      | with_reducible apply kept_foldl | with_reducible apply kept_foldl_fst | simp only [spine_mk, spine_fold] | split)

theorem State.resumeDownload_kept {z : Spine} {s : State} (h : Kept z s.spine)  :
    Kept z (State.resumeDownload s).spine := by
  unfold State.resumeDownload
  repeat' (first
      | intro _ | with_reducible exact h | with_reducible assumption | with_reducible apply State.setUpd_kept
      | with_reducible apply State.setLive_kept | with_reducible apply State.writeBytes_kept
      | with_reducible apply State.updOpen_kept | with_reducible apply kept_ite | with_reducible apply kept_foldl
      | with_reducible apply kept_foldl_fst | simp only [spine_mk, spine_fold] | split)

theorem State.rebuildUpdate_kept {z : Spine} {s : State} (h : Kept z s.spine)  :
    Kept z (State.rebuildUpdate s).spine := by
  unfold State.rebuildUpdate
  repeat' (first
      | intro _ | with_reducible exact h | with_reducible assumption | with_reducible apply State.setUpd_kept
      | with_reducible apply State.resumeDownload_kept | with_reducible apply State.setAreaState_kept
      | with_reducible apply kept_ite | with_reducible apply kept_foldl | with_reducible apply kept_foldl_fst
      | simp only [spine_mk, spine_fold] | split)

theorem State.startCard_kept {z : Spine} {s : State} (h : Kept z s.spine)  :
    Kept z (State.startCard s).spine := by
  unfold State.startCard
  repeat' (first
      | intro _ | with_reducible exact h | with_reducible assumption | with_reducible apply State.localShutdown_kept
      | with_reducible apply State.enterSetup_kept | with_reducible apply kept_ite | with_reducible apply kept_foldl
      | with_reducible apply kept_foldl_fst | simp only [spine_mk, spine_fold] | split)

theorem State.startFeed_kept {z : Spine} {s : State} (h : Kept z s.spine) (f : Nat) :
    Kept z (State.startFeed s f).spine := by
  unfold State.startFeed
  repeat' (first
      | intro _ | with_reducible exact h | with_reducible assumption | with_reducible apply State.openFeed_kept
      | with_reducible apply State.setFeed_kept | with_reducible apply kept_ite | with_reducible apply kept_foldl
      | with_reducible apply kept_foldl_fst | simp only [spine_mk, spine_fold] | split)

theorem State.startRing_kept {z : Spine} {s : State} (h : Kept z s.spine)  :
    Kept z (State.startRing s).spine := by
  unfold State.startRing
  repeat' (first
      | intro _ | with_reducible exact h | with_reducible assumption | with_reducible apply State.rearmRing_kept
      | with_reducible apply kept_ite | with_reducible apply kept_foldl | with_reducible apply kept_foldl_fst
      | simp only [spine_mk, spine_fold] | split)

theorem State.startScan_kept {z : Spine} {s : State} (h : Kept z s.spine)  :
    Kept z (State.startScan s).spine := by
  unfold State.startScan
  repeat' (first
      | intro _ | with_reducible exact h | with_reducible assumption | with_reducible apply State.closeRingPage_kept
      | with_reducible apply kept_ite | with_reducible apply kept_foldl | with_reducible apply kept_foldl_fst
      | simp only [spine_mk, spine_fold] | split)

theorem State.endOfStartup_kept {z : Spine} {s : State} (h : Kept z s.spine)  :
    Kept z (State.endOfStartup s).spine := by
  unfold State.endOfStartup
  repeat' (first
      | intro _ | with_reducible exact h | with_reducible assumption | with_reducible apply State.startConvoy_kept
      | with_reducible apply State.rebuildUpdate_kept | with_reducible apply State.startCard_kept
      | with_reducible apply State.startFeed_kept | with_reducible apply State.countStart_kept
      | with_reducible apply State.setPresent_kept | with_reducible apply State.startRing_kept
      | with_reducible apply State.startScan_kept | with_reducible apply State.setProtect_kept | with_reducible apply kept_ite
      | with_reducible apply kept_foldl | with_reducible apply kept_foldl_fst | simp only [spine_mk, spine_fold] | split)

theorem State.stipCapSettings_kept {z : Spine} {s : State} (h : Kept z s.spine) (n : Nat) :
    Kept z (State.stipCapSettings s n).spine := by
  unfold State.stipCapSettings
  repeat' (first
      | intro _ | with_reducible exact h | with_reducible assumption | with_reducible apply State.mirror_kept
      | with_reducible apply State.setPers_kept | with_reducible apply kept_ite | with_reducible apply kept_foldl
      | with_reducible apply kept_foldl_fst | simp only [spine_mk, spine_fold] | split)

theorem State.stipRefused_kept {z : Spine} {s : State} (h : Kept z s.spine) (n : Nat) (why : StipWait) :
    Kept z (State.stipRefused s n why).spine := by
  unfold State.stipRefused
  repeat' (first
      | intro _ | with_reducible exact h | with_reducible assumption | with_reducible apply State.setStip_kept
      | with_reducible apply State.stipWithdraw_kept | with_reducible apply kept_ite | with_reducible apply kept_foldl
      | with_reducible apply kept_foldl_fst | simp only [spine_mk, spine_fold] | split)

theorem State.stipArm_kept {z : Spine} {s : State} (h : Kept z s.spine) (n : Nat) :
    Kept z (State.stipArm s n).spine := by
  unfold State.stipArm
  repeat' (first
      | intro _ | with_reducible exact h | with_reducible assumption | with_reducible apply State.armCapture_kept
      | with_reducible apply State.stipCapSettings_kept | with_reducible apply State.setStip_kept
      | with_reducible apply State.bump_kept | with_reducible apply State.stipAbort_kept
      | with_reducible apply State.stipRefused_kept | with_reducible apply kept_ite | with_reducible apply kept_foldl
      | with_reducible apply kept_foldl_fst | simp only [spine_mk, spine_fold] | split)

theorem State.grantEnergy_kept {z : Spine} {s : State} (h : Kept z s.spine) (n : Nat) :
    Kept z (State.grantEnergy s n).1.spine := by
  unfold State.grantEnergy
  repeat' (first
      | intro _ | with_reducible exact h | with_reducible assumption | with_reducible apply State.setSink_kept
      | with_reducible apply State.bump_kept | with_reducible apply kept_ite | with_reducible apply kept_foldl
      | with_reducible apply kept_foldl_fst | simp only [spine_mk, spine_fold] | split)

theorem State.energyGrants_kept {z : Spine} {s : State} (h : Kept z s.spine)  :
    Kept z (State.energyGrants s).spine := by
  unfold State.energyGrants
  try dsimp only
  repeat' (first
      | intro _ | simp only [spine_mk, spine_fold] | with_reducible exact h | with_reducible assumption
      | with_reducible apply State.stipArm_kept | with_reducible apply State.grantEnergy_kept | with_reducible apply kept_ite
      | with_reducible apply kept_foldl | with_reducible apply kept_foldl_fst | split | dsimp only)

theorem State.energyOverrun_kept {z : Spine} {s : State} (h : Kept z s.spine) (n : Nat) :
    Kept z (State.energyOverrun s n).spine := by
  unfold State.energyOverrun
  repeat' (first
      | intro _ | with_reducible exact h | with_reducible assumption | with_reducible apply State.removeSink_kept
      | with_reducible apply State.setSink_kept | with_reducible apply State.bump_kept | with_reducible apply State.stipAbort_kept
      | with_reducible apply State.raise_kept | with_reducible apply kept_ite | with_reducible apply kept_foldl
      | with_reducible apply kept_foldl_fst | simp only [spine_mk, spine_fold] | split)

theorem State.energyPeriod_kept {z : Spine} {s : State} (h : Kept z s.spine) (n : Nat) :
    Kept z (State.energyPeriod s n).spine := by
  unfold State.energyPeriod
  repeat' (first
      | intro _ | with_reducible exact h | with_reducible assumption | with_reducible apply State.wideAdd_kept
      | with_reducible apply State.setLiveOf_kept | with_reducible apply kept_ite | with_reducible apply kept_foldl
      | with_reducible apply kept_foldl_fst | simp only [spine_mk, spine_fold] | split)

theorem State.repeatRec_kept {z : Spine} {s : State} (h : Kept z s.spine) (r : Nat) (x : Rec) (n : Nat) (flags : Nat) (st : Option Stamp) :
    Kept z (State.repeatRec s r x n flags st).spine := by
  unfold State.repeatRec
  repeat' (first
      | intro _ | with_reducible exact h | with_reducible assumption | with_reducible apply State.writeBytes_kept
      | with_reducible apply State.wideAdd_kept | with_reducible apply State.setPers_kept | with_reducible apply kept_ite
      | with_reducible apply kept_foldl | with_reducible apply kept_foldl_fst | simp only [spine_mk, spine_fold] | split)

theorem State.enterCount_kept {z : Spine} {s : State} (h : Kept z s.spine) (src : Nat) (n : Nat) (flag : Nat) (word : Nat) :
    Kept z (State.enterCount s src n flag word).spine := by
  unfold State.enterCount
  repeat' (first
      | intro _ | with_reducible exact h | with_reducible assumption | with_reducible apply State.repeatRec_kept
      | with_reducible apply State.setPers_kept | with_reducible apply State.newRec_kept | with_reducible apply kept_ite
      | with_reducible apply kept_foldl | with_reducible apply kept_foldl_fst | simp only [spine_mk, spine_fold] | split)

theorem State.noteEntered_kept {z : Spine} {s : State} (h : Kept z s.spine) (order : Nat) (r : Nat) :
    Kept z (State.noteEntered s order r).spine := by
  unfold State.noteEntered
  repeat' (first
      | intro _ | with_reducible exact h | with_reducible assumption | with_reducible apply kept_ite
      | with_reducible apply kept_foldl | with_reducible apply kept_foldl_fst | simp only [spine_mk, spine_fold] | split)

theorem State.newMessageRec_kept {z : Spine} {s : State} (h : Kept z s.spine) (h : Hand) :
    Kept z (State.newMessageRec s h).spine := by
  unfold State.newMessageRec
  repeat' (first
      | intro _ | with_reducible exact h | with_reducible assumption | with_reducible apply State.noteEntered_kept
      | with_reducible apply State.setPers_kept | with_reducible apply State.newRec_kept | with_reducible apply kept_ite
      | with_reducible apply kept_foldl | with_reducible apply kept_foldl_fst | simp only [spine_mk, spine_fold] | split)

theorem State.enterHand_kept {z : Spine} {s : State} (h : Kept z s.spine) (h : Hand) :
    Kept z (State.enterHand s h).spine := by
  unfold State.enterHand
  repeat' (first
      | intro _ | with_reducible exact h | with_reducible assumption | with_reducible apply State.repeatRec_kept
      | with_reducible apply State.noteEntered_kept | with_reducible apply State.newMessageRec_kept
      | with_reducible apply State.enterCount_kept | with_reducible apply kept_ite | with_reducible apply kept_foldl
      | with_reducible apply kept_foldl_fst | simp only [spine_mk, spine_fold] | split)

theorem State.etchGranted_kept {z : Spine} {s : State} (h : Kept z s.spine) (r : LaneReq) (lane : Nat) :
    Kept z (State.etchGranted s r lane).spine := by
  unfold State.etchGranted
  repeat' (first
      | intro _ | with_reducible exact h | with_reducible assumption | with_reducible apply State.stopEtch_kept
      | with_reducible apply State.etchIdle_kept | with_reducible apply kept_ite | with_reducible apply kept_foldl
      | with_reducible apply kept_foldl_fst | simp only [spine_mk, spine_fold] | split)

theorem State.writeCopy_kept {z : Spine} {s : State} (h : Kept z s.spine) (e : Etch) (p : Nat) (tgt : Nat × Count) :
    Kept z (State.writeCopy s e p tgt).spine := by
  unfold State.writeCopy
  repeat' (first
      | intro _ | with_reducible exact h | with_reducible assumption | with_reducible apply kept_ite
      | with_reducible apply kept_foldl | with_reducible apply kept_foldl_fst | simp only [spine_mk, spine_fold] | split)

theorem State.programPage_kept {z : Spine} {s : State} (h : Kept z s.spine) (e : Etch) (p : Nat) :
    Kept z (State.programPage s e p).spine := by
  unfold State.programPage
  repeat' (first
      | intro _ | with_reducible exact h | with_reducible assumption | with_reducible apply State.writeCopy_kept
      | with_reducible apply kept_ite | with_reducible apply kept_foldl | with_reducible apply kept_foldl_fst
      | simp only [spine_mk, spine_fold] | split)

theorem State.etchPageCommit_kept {z : Spine} {s : State} (h : Kept z s.spine) (ok : Bool) (ch : Nat) :
    Kept z (State.etchPageCommit s ok ch).spine := by
  unfold State.etchPageCommit
  repeat' (first
      | intro _ | with_reducible exact h | with_reducible assumption | with_reducible apply State.afterPage_kept
      | with_reducible apply State.raise_kept | with_reducible apply State.setLive_kept
      | with_reducible apply State.programPage_kept | with_reducible apply State.bump_kept | with_reducible apply kept_ite
      | with_reducible apply kept_foldl | with_reducible apply kept_foldl_fst | simp only [spine_mk, spine_fold] | split)

theorem State.etchSnapshot_kept {z : Spine} {s : State} (h : Kept z s.spine)  :
    Kept z (State.etchSnapshot s).spine := by
  unfold State.etchSnapshot
  repeat' (first
      | intro _ | with_reducible exact h | with_reducible assumption | with_reducible apply State.writeBytes_kept
      | with_reducible apply State.startPage_kept | with_reducible apply State.raise_kept
      | with_reducible apply State.endEtch_kept | with_reducible apply State.setLive_kept | with_reducible apply State.bump_kept
      | with_reducible apply kept_ite | with_reducible apply kept_foldl | with_reducible apply kept_foldl_fst
      | simp only [spine_mk, spine_fold] | split)

theorem State.event_kept {z : Spine} {s : State} {f : State → State} (h : Kept z s.spine) (hf : ∀ t : State, Kept z t.spine → Kept z
    (f t).spine)  :
    Kept z (State.event s f).spine := by
  unfold State.event
  exact kept_ite (State.after_kept (hf _ h)) h

theorem State.extractDelayEnd_kept {z : Spine} {s : State} (h : Kept z s.spine)  :
    Kept z (State.extractDelayEnd s).spine := by
  unfold State.extractDelayEnd
  repeat' (first
      | intro _ | with_reducible exact h | with_reducible assumption | with_reducible apply State.pullFeeds_kept
      | with_reducible apply kept_ite | with_reducible apply kept_foldl | with_reducible apply kept_foldl_fst
      | simp only [spine_mk, spine_fold] | split)

theorem State.fallingPass_kept {z : Spine} {s : State} (h : Kept z s.spine)  :
    Kept z (State.fallingPass s).spine := by
  unfold State.fallingPass
  repeat' (first
      | intro _ | with_reducible exact h | with_reducible assumption | with_reducible apply State.startPass_kept
      | with_reducible apply kept_ite | with_reducible apply kept_foldl | with_reducible apply kept_foldl_fst
      | simp only [spine_mk, spine_fold] | split)

theorem State.filterUnlock_kept {z : Spine} {s : State} (h : Kept z s.spine)  :
    Kept z (State.filterUnlock s).spine := by
  unfold State.filterUnlock
  repeat' (first
      | intro _ | with_reducible exact h | with_reducible assumption | with_reducible apply State.raise_kept
      | with_reducible apply kept_ite | with_reducible apply kept_foldl | with_reducible apply kept_foldl_fst
      | simp only [spine_mk, spine_fold] | split)

theorem State.finishRingPages_kept {z : Spine} {s : State} (h : Kept z s.spine)  :
    Kept z (State.finishRingPages s).spine := by
  unfold State.finishRingPages
  repeat' (first
      | intro _ | with_reducible exact h | with_reducible assumption | with_reducible apply State.writeRingHeader_kept
      | with_reducible apply kept_ite | with_reducible apply kept_foldl | with_reducible apply kept_foldl_fst
      | simp only [spine_mk, spine_fold] | split)

theorem State.thawEtch_kept {z : Spine} {s : State} (h : Kept z s.spine)  :
    Kept z (State.thawEtch s).spine := by
  unfold State.thawEtch
  repeat' (first
      | intro _ | with_reducible exact h | with_reducible assumption | with_reducible apply kept_ite
      | with_reducible apply kept_foldl | with_reducible apply kept_foldl_fst | simp only [spine_mk, spine_fold] | split)

theorem State.thawSink_kept {z : Spine} {s : State} (h : Kept z s.spine) (n : Nat) :
    Kept z (State.thawSink s n).spine := by
  unfold State.thawSink
  repeat' (first
      | intro _ | with_reducible exact h | with_reducible assumption | with_reducible apply State.sinkDone_kept
      | with_reducible apply State.setSink_kept | with_reducible apply State.coolEnergy_kept
      | with_reducible apply State.bump_kept | with_reducible apply State.freePower_kept | with_reducible apply kept_ite
      | with_reducible apply kept_foldl | with_reducible apply kept_foldl_fst | simp only [spine_mk, spine_fold] | split)

theorem State.thawSinks_kept {z : Spine} {s : State} (h : Kept z s.spine)  :
    Kept z (State.thawSinks s).spine := by
  unfold State.thawSinks
  repeat' (first
      | intro _ | with_reducible exact h | with_reducible assumption | with_reducible apply State.thawSink_kept
      | with_reducible apply kept_ite | with_reducible apply kept_foldl | with_reducible apply kept_foldl_fst
      | simp only [spine_mk, spine_fold] | split)

theorem State.notePage_kept {z : Spine} {s : State} (h : Kept z s.spine) (n : Nat) :
    Kept z (State.notePage s n).spine := by
  unfold State.notePage
  repeat' (first
      | intro _ | with_reducible exact h | with_reducible assumption | with_reducible apply kept_ite
      | with_reducible apply kept_foldl | with_reducible apply kept_foldl_fst | simp only [spine_mk, spine_fold] | split)

theorem State.setJob_kept {z : Spine} {s : State} (h : Kept z s.spine) (j : PmbJob) :
    Kept z (State.setJob s j).spine := by
  unfold State.setJob
  repeat' (first
      | intro _ | with_reducible exact h | with_reducible assumption | with_reducible apply kept_ite
      | with_reducible apply kept_foldl | with_reducible apply kept_foldl_fst | simp only [spine_mk, spine_fold] | split)

theorem State.startPort_kept {z : Spine} {s : State} (h : Kept z s.spine) (port : Nat) :
    Kept z (State.startPort s port).spine := by
  unfold State.startPort
  repeat' (first
      | intro _ | with_reducible exact h | with_reducible assumption | with_reducible apply State.setJob_kept
      | with_reducible apply kept_ite | with_reducible apply kept_foldl | with_reducible apply kept_foldl_fst
      | simp only [spine_mk, spine_fold] | split)

theorem State.forgetPage_kept {z : Spine} {s : State} (h : Kept z s.spine) (port : Nat) :
    Kept z (State.forgetPage s port).spine := by
  unfold State.forgetPage
  repeat' (first
      | intro _ | with_reducible exact h | with_reducible assumption | with_reducible apply kept_ite
      | with_reducible apply kept_foldl | with_reducible apply kept_foldl_fst | simp only [spine_mk, spine_fold] | split)

theorem State.pmbTransfer_kept {z : Spine} {s : State} (h : Kept z s.spine) (port : Nat) (ok : Bool) (data : Nat) :
    Kept z (State.pmbTransfer s port ok data).1.spine := by
  unfold State.pmbTransfer
  repeat' (first
      | intro _ | with_reducible exact h | with_reducible assumption | with_reducible apply State.notePage_kept
      | with_reducible apply State.endJob_kept | with_reducible apply State.startPort_kept
      | with_reducible apply State.setJob_kept | with_reducible apply State.forgetPage_kept | with_reducible apply kept_ite
      | with_reducible apply kept_foldl | with_reducible apply kept_foldl_fst | simp only [spine_mk, spine_fold] | split)

theorem State.setupDone_kept {z : Spine} {s : State} (h : Kept z s.spine) (n : Nat) :
    Kept z (State.setupDone s n).spine := by
  unfold State.setupDone
  repeat' (first
      | intro _ | with_reducible exact h | with_reducible assumption | with_reducible apply State.setupNext_kept
      | with_reducible apply kept_ite | with_reducible apply kept_foldl | with_reducible apply kept_foldl_fst
      | simp only [spine_mk, spine_fold] | split)

theorem State.seqPmbDone_kept {z : Spine} {s : State} (h : Kept z s.spine) (j : PmbJob) (data : Nat) :
    Kept z (State.seqPmbDone s j data).spine := by
  unfold State.seqPmbDone
  repeat' (first
      | intro _ | with_reducible exact h | with_reducible assumption | with_reducible apply State.postPmb_kept
      | with_reducible apply State.setFlag_kept | with_reducible apply State.setupDone_kept
      | with_reducible apply State.raise_kept | with_reducible apply kept_ite | with_reducible apply kept_foldl
      | with_reducible apply kept_foldl_fst | simp only [spine_mk, spine_fold] | split)

theorem State.reportPmb_kept {z : Spine} {s : State} (h : Kept z s.spine) (n : Nat) :
    Kept z (State.reportPmb s n).spine := by
  unfold State.reportPmb
  repeat' (first
      | intro _ | with_reducible exact h | with_reducible assumption | with_reducible apply State.setFlag_kept
      | with_reducible apply State.bump_kept | with_reducible apply State.raise_kept | with_reducible apply kept_ite
      | with_reducible apply kept_foldl | with_reducible apply kept_foldl_fst | simp only [spine_mk, spine_fold] | split)

theorem State.seqPmbFailed_kept {z : Spine} {s : State} (h : Kept z s.spine) (j : PmbJob) :
    Kept z (State.seqPmbFailed s j).spine := by
  unfold State.seqPmbFailed
  repeat' (first
      | intro _ | with_reducible exact h | with_reducible assumption | with_reducible apply State.reportPmb_kept
      | with_reducible apply State.setupDone_kept | with_reducible apply State.setRail_kept
      | with_reducible apply State.dropJobs_kept | with_reducible apply kept_ite | with_reducible apply kept_foldl
      | with_reducible apply kept_foldl_fst | simp only [spine_mk, spine_fold] | split)

theorem State.marginFailed_kept {z : Spine} {s : State} (h : Kept z s.spine) (n : Nat) :
    Kept z (State.marginFailed s n).spine := by
  unfold State.marginFailed
  repeat' (first
      | intro _ | with_reducible exact h | with_reducible assumption | with_reducible apply State.bump_kept
      | with_reducible apply State.setMargin_kept | with_reducible apply State.raise_kept | with_reducible apply kept_ite
      | with_reducible apply kept_foldl | with_reducible apply kept_foldl_fst | simp only [spine_mk, spine_fold] | split)

theorem State.pmbRead_kept {z : Spine} {s : State} (h : Kept z s.spine) (j : PmbJob) (data : Nat) :
    Kept z (State.pmbRead s j data).spine := by
  unfold State.pmbRead
  repeat' (first
      | intro _ | with_reducible exact h | with_reducible assumption | with_reducible apply State.setLive_kept
      | with_reducible apply State.setMargin_kept | with_reducible apply State.setFlag_kept
      | with_reducible apply State.raise_kept | with_reducible apply kept_ite | with_reducible apply kept_foldl
      | with_reducible apply kept_foldl_fst | simp only [spine_mk, spine_fold] | split)

theorem State.marginDone_kept {z : Spine} {s : State} (h : Kept z s.spine) (n : Nat) (j : PmbJob) (data : Nat) :
    Kept z (State.marginDone s n j data).spine := by
  unfold State.marginDone
  repeat' (first
      | intro _ | with_reducible exact h | with_reducible assumption | with_reducible apply State.postPmb_kept
      | with_reducible apply State.setLive_kept | with_reducible apply State.sendMarginWord_kept
      | with_reducible apply State.setMargin_kept | with_reducible apply State.bump_kept | with_reducible apply kept_ite
      | with_reducible apply kept_foldl | with_reducible apply kept_foldl_fst | simp only [spine_mk, spine_fold] | split)

theorem State.pmbEnded_kept {z : Spine} {s : State} (h : Kept z s.spine) (r : PmbResult) :
    Kept z (State.pmbEnded s r).spine := by
  unfold State.pmbEnded
  repeat' (first
      | intro _ | with_reducible exact h | with_reducible assumption | with_reducible apply State.seqPmbDone_kept
      | with_reducible apply State.seqPmbFailed_kept | with_reducible apply State.setupDone_kept
      | with_reducible apply State.marginFailed_kept | with_reducible apply State.pmbRead_kept
      | with_reducible apply State.reportPmb_kept | with_reducible apply State.marginDone_kept | with_reducible apply kept_ite
      | with_reducible apply kept_foldl | with_reducible apply kept_foldl_fst | simp only [spine_mk, spine_fold] | split)

theorem State.pmbDone_kept {z : Spine} {s : State} (h : Kept z s.spine) (port : Nat) (ok : Bool) (data : Nat) :
    Kept z (State.pmbDone s port ok data).spine := by
  unfold State.pmbDone
  repeat' (first
      | intro _ | with_reducible exact h | with_reducible assumption | with_reducible apply State.pmbTransfer_kept
      | with_reducible apply State.pmbEnded_kept | with_reducible apply kept_ite | with_reducible apply kept_foldl
      | with_reducible apply kept_foldl_fst | simp only [spine_mk, spine_fold] | split)

theorem State.thawFeed_kept {z : Spine} {s0 : State} (h : Kept z s0.spine) (f : Nat) :
    Kept z (State.thawFeed s0 f).spine := by
  unfold State.thawFeed
  repeat' (first
      | intro _ | with_reducible exact h | with_reducible assumption | with_reducible apply State.tripFeed_kept
      | with_reducible apply State.openFeed_kept | with_reducible apply State.setFeed_kept | with_reducible apply kept_ite
      | with_reducible apply kept_foldl | with_reducible apply kept_foldl_fst | simp only [spine_mk, spine_fold] | split)

theorem State.thawBlocks_kept {z : Spine} {s : State} (h : Kept z s.spine)  :
    Kept z (State.thawBlocks s).spine := by
  unfold State.thawBlocks
  repeat' (first
      | intro _ | with_reducible exact h | with_reducible assumption | with_reducible apply State.thawEtch_kept
      | with_reducible apply State.thawSinks_kept | with_reducible apply State.pmbDone_kept
      | with_reducible apply State.inputReview_kept | with_reducible apply State.thawFeed_kept
      | with_reducible apply State.sendQual_kept | with_reducible apply State.endCapture_kept
      | with_reducible apply State.stipAbort_kept | with_reducible apply State.raiseAt_kept | with_reducible apply kept_ite
      | with_reducible apply kept_foldl | with_reducible apply kept_foldl_fst | simp only [spine_mk, spine_fold] | split)

theorem State.thawConvoy_kept {z : Spine} {s : State} (h : Kept z s.spine)  :
    Kept z (State.thawConvoy s).spine := by
  unfold State.thawConvoy
  repeat' (first
      | intro _ | with_reducible exact h | with_reducible assumption | with_reducible apply State.leaveConvoy_kept
      | with_reducible apply kept_ite | with_reducible apply kept_foldl | with_reducible apply kept_foldl_fst
      | simp only [spine_mk, spine_fold] | split)

theorem State.thawFabric_kept {z : Spine} {s : State} (h : Kept z s.spine)  :
    Kept z (State.thawFabric s).spine := by
  exact ⟨h.1, h.2, h.3, fun _ => List.length_take_le _ _, h.5⟩

theorem State.lateStarts_kept {z : Spine} {s : State} (h : Kept z s.spine) (n : Nat) :
    Kept z (State.lateStarts n s).spine := by
  induction n generalizing s with
  | zero =>
    unfold State.lateStarts
    exact h
  | succ f ih =>
    unfold State.lateStarts
    repeat' (first
        | intro _ | simp only [spine_mk, spine_fold] | with_reducible exact h | with_reducible assumption
        | with_reducible apply ih | with_reducible apply State.lateStart_kept | with_reducible apply kept_ite
        | with_reducible apply kept_foldl | with_reducible apply kept_foldl_fst | split | dsimp only)

theorem State.thawRecord_kept {z : Spine} {s : State} (h : Kept z s.spine) (since : Nat) :
    Kept z (State.thawRecord s since).spine := by
  unfold State.thawRecord
  repeat' (first
      | intro _ | with_reducible exact h | with_reducible assumption | with_reducible apply State.powerFail_kept
      | with_reducible apply State.wideAdd_kept | with_reducible apply State.bump_kept | with_reducible apply State.setPers_kept
      | with_reducible apply kept_ite | with_reducible apply kept_foldl | with_reducible apply kept_foldl_fst
      | simp only [spine_mk, spine_fold] | split)

theorem State.firstClockedTick_kept {z : Spine} {s : State} (h : Kept z s.spine)  :
    Kept z (State.firstClockedTick s).spine := by
  unfold State.firstClockedTick
  repeat' (first
      | intro _ | with_reducible exact h | with_reducible assumption | with_reducible apply State.drive_kept
      | with_reducible apply State.thawBlocks_kept | with_reducible apply State.thawConvoy_kept
      | with_reducible apply State.thawFabric_kept | with_reducible apply State.railsNext_kept
      | with_reducible apply State.lateStarts_kept | with_reducible apply State.postDeferred_kept
      | with_reducible apply State.thawRecord_kept | with_reducible apply kept_ite | with_reducible apply kept_foldl
      | with_reducible apply kept_foldl_fst | simp only [spine_mk, spine_fold] | split)

theorem State.firstMark_kept {z : Spine} {s : State} (h : Kept z s.spine)  :
    Kept z (State.firstMark s).spine := by
  unfold State.firstMark
  repeat' (first
      | intro _ | with_reducible exact h | with_reducible assumption | with_reducible apply State.writeBytes_kept
      | with_reducible apply kept_ite | with_reducible apply kept_foldl | with_reducible apply kept_foldl_fst
      | simp only [spine_mk, spine_fold] | split)

theorem State.noteGangSwap_kept {z : Spine} {s : State} (h : Kept z s.spine) (pos : Nat) :
    Kept z (State.noteGangSwap s pos).spine := by
  unfold State.noteGangSwap
  repeat' (first
      | intro _ | with_reducible exact h | with_reducible assumption | with_reducible apply State.setLive_kept
      | with_reducible apply kept_ite | with_reducible apply kept_foldl | with_reducible apply kept_foldl_fst
      | simp only [spine_mk, spine_fold] | split)

theorem State.swapIn_kept {z : Spine} {s : State} (h : Kept z s.spine) (spare : Nat) :
    Kept z (State.swapIn s spare).spine := by
  unfold State.swapIn
  repeat' (first
      | intro _ | with_reducible exact h | with_reducible assumption | with_reducible apply State.postCal_kept
      | with_reducible apply State.setSlice_kept | with_reducible apply State.noteGangSwap_kept | with_reducible apply kept_ite
      | with_reducible apply kept_foldl | with_reducible apply kept_foldl_fst | simp only [spine_mk, spine_fold] | split)

theorem State.forcedSwap_kept {z : Spine} {s : State} (h : Kept z s.spine)  :
    Kept z (State.forcedSwap s).spine := by
  unfold State.forcedSwap
  repeat' (first
      | intro _ | with_reducible exact h | with_reducible assumption | with_reducible apply State.swapIn_kept
      | with_reducible apply State.bump_kept | with_reducible apply State.raise_kept | with_reducible apply kept_ite
      | with_reducible apply kept_foldl | with_reducible apply kept_foldl_fst | simp only [spine_mk, spine_fold] | split)

end Sys2Proof.Machine
end

