-- ==== Sys2Proof/Laws/Kept6.lean ====
section
/-! SUPPORT. What every operation keeps of the spine (part 6 of 7): one lemma for each operation on the state. -/

set_option linter.unusedSimpArgs false

namespace Sys2Proof.Machine

theorem State.forwardOn_kept {z : Spine} {s : State} (h : Kept z s.spine) (f : Nat) :
    Kept z (State.forwardOn s f).spine := by
  unfold State.forwardOn
  repeat' (first
      | intro _ | with_reducible exact h | with_reducible assumption | with_reducible apply State.setFeed_kept
      | with_reducible apply kept_ite | with_reducible apply kept_foldl | with_reducible apply kept_foldl_fst
      | simp only [spine_mk, spine_fold] | split)

theorem State.freeEvent_kept {z : Spine} {s : State} {f : State → State} (h : Kept z s.spine) (hf : ∀ t : State, Kept z t.spine → Kept z
    (f t).spine)  :
    Kept z (State.freeEvent s f).spine := by
  unfold State.freeEvent
  exact kept_ite (State.after_kept (hf _ h)) h

theorem State.freeze_kept {z : Spine} {s : State} (h : Kept z s.spine)  :
    Kept z (State.freeze s).spine := by
  unfold State.freeze
  repeat' (first
      | intro _ | with_reducible exact h | with_reducible assumption | with_reducible apply State.freezeIfLow_kept
      | with_reducible apply kept_ite | with_reducible apply kept_foldl | with_reducible apply kept_foldl_fst
      | simp only [spine_mk, spine_fold] | split)

theorem State.frozenBeatEdge_kept {z : Spine} {s : State} (h : Kept z s.spine)  :
    Kept z (State.frozenBeatEdge s).spine := by
  unfold State.frozenBeatEdge
  repeat' (first
      | intro _ | with_reducible exact h | with_reducible assumption | with_reducible apply State.drive_kept
      | with_reducible apply kept_ite | with_reducible apply kept_foldl | with_reducible apply kept_foldl_fst
      | simp only [spine_mk, spine_fold] | split)

theorem State.fullReached_kept {z : Spine} {s : State} (h : Kept z s.spine)  :
    Kept z (State.fullReached s).spine := by
  unfold State.fullReached
  repeat' (first
      | intro _ | with_reducible exact h | with_reducible assumption | with_reducible apply State.wake_kept
      | with_reducible apply kept_ite | with_reducible apply kept_foldl | with_reducible apply kept_foldl_fst
      | simp only [spine_mk, spine_fold] | split)

theorem State.fuseFast_kept {z : Spine} {s : State} (h : Kept z s.spine) (f : Nat) :
    Kept z (State.fuseFast s f).spine := by
  unfold State.fuseFast
  repeat' (first
      | intro _ | with_reducible exact h | with_reducible assumption | with_reducible apply State.tripFeed_kept
      | with_reducible apply kept_ite | with_reducible apply kept_foldl | with_reducible apply kept_foldl_fst
      | simp only [spine_mk, spine_fold] | split)

theorem State.fuseSlow_kept {z : Spine} {s : State} (h : Kept z s.spine) (f : Nat) :
    Kept z (State.fuseSlow s f).spine := by
  unfold State.fuseSlow
  repeat' (first
      | intro _ | with_reducible exact h | with_reducible assumption | with_reducible apply State.tripFeed_kept
      | with_reducible apply kept_ite | with_reducible apply kept_foldl | with_reducible apply kept_foldl_fst
      | simp only [spine_mk, spine_fold] | split)

theorem State.goBack_kept {z : Spine} {s : State} (h : Kept z s.spine) (n : Nat) (c : Nat) :
    Kept z (State.goBack s n c).spine := by
  unfold State.goBack
  repeat' (first
      | intro _ | with_reducible exact h | with_reducible assumption | with_reducible apply State.setFilter_kept
      | with_reducible apply State.qualifyDue_kept | with_reducible apply kept_ite | with_reducible apply kept_foldl
      | with_reducible apply kept_foldl_fst | simp only [spine_mk, spine_fold] | split)

theorem State.goOnReserve_kept {z : Spine} {s : State} (h : Kept z s.spine)  :
    Kept z (State.goOnReserve s).spine := by
  unfold State.goOnReserve
  repeat' (first
      | intro _ | with_reducible exact h | with_reducible assumption | with_reducible apply State.powerFail_kept
      | with_reducible apply State.raise_kept | with_reducible apply kept_ite | with_reducible apply kept_foldl
      | with_reducible apply kept_foldl_fst | simp only [spine_mk, spine_fold] | split)

theorem State.pmbGranted_kept {z : Spine} {s : State} (h : Kept z s.spine) (id : Nat) :
    Kept z (State.pmbGranted s id).spine := by
  unfold State.pmbGranted
  repeat' (first
      | intro _ | with_reducible exact h | with_reducible assumption | with_reducible apply State.startPort_kept
      | with_reducible apply State.setJob_kept | with_reducible apply kept_ite | with_reducible apply kept_foldl
      | with_reducible apply kept_foldl_fst | simp only [spine_mk, spine_fold] | split)

theorem State.stipLane_kept {z : Spine} {s : State} (h : Kept z s.spine) (n : Nat) :
    Kept z (State.stipLane s n).spine := by
  unfold State.stipLane
  repeat' (first
      | intro _ | with_reducible exact h | with_reducible assumption | with_reducible apply State.setSink_kept
      | with_reducible apply State.setStip_kept | with_reducible apply kept_ite | with_reducible apply kept_foldl
      | with_reducible apply kept_foldl_fst | simp only [spine_mk, spine_fold] | split)

theorem State.laneOpened_kept {z : Spine} {s : State} (h : Kept z s.spine) (r : LaneReq) (lane : Nat) :
    Kept z (State.laneOpened s r lane).spine := by
  unfold State.laneOpened
  repeat' (first
      | intro _ | with_reducible exact h | with_reducible assumption | with_reducible apply State.pmbGranted_kept
      | with_reducible apply State.etchGranted_kept | with_reducible apply State.stipLane_kept | with_reducible apply kept_ite
      | with_reducible apply kept_foldl | with_reducible apply kept_foldl_fst | simp only [spine_mk, spine_fold] | split)

theorem State.placeOnLane_kept {z : Spine} {s : State} {lane : Nat} (h : Kept z s.spine) (hl :
    (lanesOk z.shared z.handovers → 64 ≤ lane ∧ lane < 128))  (r : LaneReq) :
    Kept z (State.placeOnLane s lane r).spine := by
  unfold State.placeOnLane
  have key : ∀ (t : State) (op : LaneOp) (q : List LaneReq) (n m : Nat), Kept z t.spine → Kept z ({ t with lanes := { t.lanes with
      shared := fset t.lanes.shared lane op, queue := q, grants := n, lastGrant := m } }).spine :=
    fun t op q n m h => ⟨h.1, h.2, h.3, h.4, fun a => have b := h.5 a;
      ⟨FMap.sorted_fset b.1 _ _, fun p hp => by
        rcases mem_fset hp with rfl | hp
        · exact hl a
        · exact b.2.1 p hp, b.2.2⟩⟩
  exact key _ _ _ _ _ (State.setLive_kept h _ _)

theorem State.grantLane_kept {z : Spine} {s : State} {lane : Nat} (h : Kept z s.spine) (hl :
    (lanesOk z.shared z.handovers → 64 ≤ lane ∧ lane < 128))  (r : LaneReq) :
    Kept z (State.grantLane s lane r).spine := by
  unfold State.grantLane
  exact State.laneOpened_kept (State.placeOnLane_kept h hl r) r lane

theorem State.guardSample_kept {z : Spine} {s : State} (h : Kept z s.spine) (n : Nat) (v : Int) :
    Kept z (State.guardSample s n v).spine := by
  unfold State.guardSample
  repeat' (first
      | intro _ | with_reducible exact h | with_reducible assumption | with_reducible apply State.setStip_kept
      | with_reducible apply State.stipAbort_kept | with_reducible apply kept_ite | with_reducible apply kept_foldl
      | with_reducible apply kept_foldl_fst | simp only [spine_mk, spine_fold] | split)

theorem State.guardSamples_kept {z : Spine} {s : State} (h : Kept z s.spine)  :
    Kept z (State.guardSamples s).spine := by
  unfold State.guardSamples
  repeat' (first
      | intro _ | with_reducible exact h | with_reducible assumption | with_reducible apply State.guardSample_kept
      | with_reducible apply kept_ite | with_reducible apply kept_foldl | with_reducible apply kept_foldl_fst
      | simp only [spine_mk, spine_fold] | split)

theorem State.requeue_kept {z : Spine} {s : State} (h : Kept z s.spine) (op : LaneOp) (mask : Nat) (pages : List Nat) :
    Kept z (State.requeue s op mask pages).spine := by
  unfold State.requeue
  repeat' (first
      | intro _ | with_reducible exact h | with_reducible assumption | with_reducible apply kept_ite
      | with_reducible apply kept_foldl | with_reducible apply kept_foldl_fst | simp only [spine_mk, spine_fold] | split)

theorem State.requeueEtch_kept {z : Spine} {s : State} (h : Kept z s.spine) (op : LaneOp) (mask : Nat) (pages : List Nat) :
    Kept z (State.requeueEtch s op mask pages).spine := by
  unfold State.requeueEtch
  repeat' (first
      | intro _ | with_reducible exact h | with_reducible assumption | with_reducible apply State.requeue_kept
      | with_reducible apply State.postEtch_kept | with_reducible apply kept_ite | with_reducible apply kept_foldl
      | with_reducible apply kept_foldl_fst | simp only [spine_mk, spine_fold] | split)

theorem State.preemptPmb_kept {z : Spine} {s : State} (h : Kept z s.spine) (id : Nat) :
    Kept z (State.preemptPmb s id).1.spine := by
  unfold State.preemptPmb
  repeat' (first
      | intro _ | with_reducible exact h | with_reducible assumption | with_reducible apply State.dropJob_kept
      | with_reducible apply State.setJob_kept | with_reducible apply kept_ite | with_reducible apply kept_foldl
      | with_reducible apply kept_foldl_fst | simp only [spine_mk, spine_fold] | split)

theorem State.preempted_kept {z : Spine} {s : State} (h : Kept z s.spine) (lane : Nat) (op : LaneOp) :
    Kept z (State.preempted s lane op).spine := by
  unfold State.preempted
  repeat' (first
      | intro _ | with_reducible exact h | with_reducible assumption | with_reducible apply State.requeueEtch_kept
      | with_reducible apply State.preemptPmb_kept | with_reducible apply State.requeue_kept
      | with_reducible apply State.stopEtch_kept | with_reducible apply State.etchIdle_kept
      | with_reducible apply State.stipAbort_kept | with_reducible apply State.capturePreempted_kept
      | with_reducible apply State.freeLane_kept | with_reducible apply State.pmbEnded_kept | with_reducible apply kept_ite
      | with_reducible apply kept_foldl | with_reducible apply kept_foldl_fst | simp only [spine_mk, spine_fold] | split)

theorem State.startHandover_kept {z : Spine} {s : State} {v : Nat × LaneOp} (h : Kept z s.spine) (hl :
    (lanesOk z.shared z.handovers → 64 ≤ v.1 ∧ v.1 < 128))  (r : LaneReq) :
    Kept z (State.startHandover s r v).spine := by
  unfold State.startHandover
  refine State.preempted_kept (s := { s with lanes := { s.lanes with
    queue := dropReq s.lanes.queue r, handovers := s.lanes.handovers ++ [Handover.mk v.1 r v.2] } }) ?_ v.1 v.2
  refine ⟨h.1, h.2, h.3, h.4, fun a => ?_⟩
  have b := h.5 a
  refine ⟨b.1, b.2.1, fun p hp => ?_⟩
  rcases List.mem_append.1 hp with hp | hp
  · exact b.2.2 p hp
  · rw [List.mem_singleton.1 hp]
    exact hl a

theorem State.hardAgePreempt_kept {z : Spine} {s : State} (h : Kept z s.spine)  :
    Kept z (State.hardAgePreempt s).spine := by
  unfold State.hardAgePreempt
  dsimp only
  split
  · split
    · exact State.startHandover_kept (State.bumpLive_kept h _) (victim_range h ‹_›) _
    · exact h
  · exact h

theorem State.holdExpired_kept {z : Spine} {s : State} (h : Kept z s.spine) (n : Nat) :
    Kept z (State.holdExpired s n).spine := by
  unfold State.holdExpired
  repeat' (first
      | intro _ | with_reducible exact h | with_reducible assumption | with_reducible apply State.startReturn_kept
      | with_reducible apply State.raise_kept | with_reducible apply kept_ite | with_reducible apply kept_foldl
      | with_reducible apply kept_foldl_fst | simp only [spine_mk, spine_fold] | split)

theorem State.holdUpExhausted_kept {z : Spine} {s : State} (h : Kept z s.spine)  :
    Kept z (State.holdUpExhausted s).spine := by
  unfold State.holdUpExhausted
  repeat' (first
      | intro _ | with_reducible exact h | with_reducible assumption | with_reducible apply State.goOff_kept
      | with_reducible apply kept_ite | with_reducible apply kept_foldl | with_reducible apply kept_foldl_fst
      | simp only [spine_mk, spine_fold] | split)

theorem State.holdoffEnd_kept {z : Spine} {s : State} (h : Kept z s.spine)  :
    Kept z (State.holdoffEnd s).spine := by
  unfold State.holdoffEnd
  repeat' (first
      | intro _ | with_reducible exact h | with_reducible assumption | with_reducible apply State.setLive_kept
      | with_reducible apply State.enterSetup_kept | with_reducible apply kept_ite | with_reducible apply kept_foldl
      | with_reducible apply kept_foldl_fst | simp only [spine_mk, spine_fold] | split)

theorem State.huAbort_kept {z : Spine} {s : State} (h : Kept z s.spine)  :
    Kept z (State.huAbort s).spine := by
  unfold State.huAbort
  repeat' (first
      | intro _ | with_reducible exact h | with_reducible assumption | with_reducible apply State.stopEtch_kept
      | with_reducible apply kept_ite | with_reducible apply kept_foldl | with_reducible apply kept_foldl_fst
      | simp only [spine_mk, spine_fold] | split)

theorem State.huLow_kept {z : Spine} {s : State} (h : Kept z s.spine)  :
    Kept z (State.huLow s).spine := by
  unfold State.huLow
  repeat' (first
      | intro _ | with_reducible exact h | with_reducible assumption | with_reducible apply State.raise_kept
      | with_reducible apply kept_ite | with_reducible apply kept_foldl | with_reducible apply kept_foldl_fst
      | simp only [spine_mk, spine_fold] | split)

theorem State.inputLoss_kept {z : Spine} {s : State} (h : Kept z s.spine)  :
    Kept z (State.inputLoss s).spine := by
  unfold State.inputLoss
  repeat' (first
      | intro _ | with_reducible exact h | with_reducible assumption | with_reducible apply State.inputLossEvent_kept
      | with_reducible apply kept_ite | with_reducible apply kept_foldl | with_reducible apply kept_foldl_fst
      | simp only [spine_mk, spine_fold] | split)

theorem State.startRamp_kept {z : Spine} {s : State} (h : Kept z s.spine) (f : Nat) :
    Kept z (State.startRamp s f).spine := by
  unfold State.startRamp
  repeat' (first
      | intro _ | with_reducible exact h | with_reducible assumption | with_reducible apply State.setLive_kept
      | with_reducible apply State.moveFeed_kept | with_reducible apply State.setFeed_kept | with_reducible apply kept_ite
      | with_reducible apply kept_foldl | with_reducible apply kept_foldl_fst | simp only [spine_mk, spine_fold] | split)

theorem State.inrushIssue_kept {z : Spine} {s : State} (h : Kept z s.spine)  :
    Kept z (State.inrushIssue s).spine := by
  unfold State.inrushIssue
  repeat' (first
      | intro _ | with_reducible exact h | with_reducible assumption | with_reducible apply State.startRamp_kept
      | with_reducible apply kept_ite | with_reducible apply kept_foldl | with_reducible apply kept_foldl_fst
      | simp only [spine_mk, spine_fold] | split)

theorem State.protect_kept {z : Spine} {s : State} (h : Kept z s.spine) (r : LaneReq) :
    Kept z (State.protect s r).spine := by
  unfold State.protect
  split
  · exact State.startHandover_kept (State.bumpLive_kept h _) (victim_range h ‹_›) _
  · refine kept_ite h (State.raise_kept (State.bumpLive_kept ?_ _) _ _ _)
    exact h

theorem State.laneGrant_kept {z : Spine} {s : State} (h : Kept z s.spine)  :
    Kept z (State.laneGrant s).spine := by
  unfold State.laneGrant
  split
  · exact kept_foldl _ _ h (fun _ r ht => State.protect_kept ht r)
  · refine kept_ite h ?_
    split
    · exact State.grantLane_kept h (fun _ => lowestFree_range ‹_›) _
    · exact h

theorem State.lapse_kept {z : Spine} {s : State} (h : Kept z s.spine) (p : Nat) (x : Session) :
    Kept z (State.lapse s p x).spine := by
  unfold State.lapse
  repeat' (first
      | intro _ | with_reducible exact h | with_reducible assumption | with_reducible apply State.endSession_kept
      | with_reducible apply State.bump_kept | with_reducible apply State.raise_kept | with_reducible apply kept_ite
      | with_reducible apply kept_foldl | with_reducible apply kept_foldl_fst | simp only [spine_mk, spine_fold] | split)

theorem State.leaderBeat_kept {z : Spine} {s : State} (h : Kept z s.spine)  :
    Kept z (State.leaderBeat s).spine := by
  unfold State.leaderBeat
  repeat' (first
      | intro _ | with_reducible exact h | with_reducible assumption | with_reducible apply State.forcedRelease_kept
      | with_reducible apply State.takeSettings_kept | with_reducible apply State.issueBeat_kept | with_reducible apply kept_ite
      | with_reducible apply kept_foldl | with_reducible apply kept_foldl_fst | simp only [spine_mk, spine_fold] | split)

theorem State.leaseLapse_kept {z : Spine} {s : State} (h : Kept z s.spine) (p : Nat) :
    Kept z (State.leaseLapse s p).spine := by
  unfold State.leaseLapse
  repeat' (first
      | intro _ | with_reducible exact h | with_reducible assumption | with_reducible apply State.lapse_kept
      | with_reducible apply kept_ite | with_reducible apply kept_foldl | with_reducible apply kept_foldl_fst
      | simp only [spine_mk, spine_fold] | split)

theorem State.ledgerEntry_kept {z : Spine} {s : State} (h : Kept z s.spine)  :
    Kept z (State.ledgerEntry s).spine := by
  unfold State.ledgerEntry
  repeat' (first
      | intro _ | with_reducible exact h | with_reducible assumption | with_reducible apply State.systemRec_kept
      | with_reducible apply State.enterHand_kept | with_reducible apply State.enterCount_kept | with_reducible apply kept_ite
      | with_reducible apply kept_foldl | with_reducible apply kept_foldl_fst | simp only [spine_mk, spine_fold] | split)

theorem State.linkRecords_kept {z : Spine} {s : State} (h : Kept z s.spine)  :
    Kept z (State.linkRecords s).spine := by
  unfold State.linkRecords
  repeat' (first
      | intro _ | with_reducible exact h | with_reducible assumption | with_reducible apply State.writeBytes_kept
      | with_reducible apply kept_ite | with_reducible apply kept_foldl | with_reducible apply kept_foldl_fst
      | simp only [spine_mk, spine_fold] | split)

theorem State.loadPage_kept {z : Spine} {s : State} (h : Kept z s.spine) (p : Nat) (d : PageData) :
    Kept z (State.loadPage s p d).spine := by
  have key : ∀ (l : List Host.Cell) (m : List Host.Cell), Memory.wf m = true →
      Memory.wf (l.foldl (fun m c => memSet m c.1 c.2) m) = true := by
    intro l
    induction l with
    | nil => intro m hm; exact hm
    | cons c r ih => intro m hm; exact ih _ (memSet_wf hm _ _)
  have h1 : ∀ (st : Store) (o ob : FMap Nat), Kept z ({ s with
      mem := (d.cells.filter (fun c : Host.Cell => pageOf c.1 == p)).foldl (fun m (c : Host.Cell) => memSet m c.1 c.2)
        (s.mem.filter (fun c : Host.Cell => pageOf c.1 != p)), store := st, otherArea := o, objs := ob }).spine :=
    fun _ _ _ => ⟨h.1, h.2, fun w => key _ _ (Memory.wf_sublist List.filter_sublist (h.3 w)), h.4, h.5⟩
  unfold State.loadPage
  exact kept_ite (h1 _ _ _) (h1 _ _ _)

theorem State.loadTimeEnd_kept {z : Spine} {s : State} (h : Kept z s.spine) (n : Nat) :
    Kept z (State.loadTimeEnd s n).spine := by
  unfold State.loadTimeEnd
  repeat' (first
      | intro _ | with_reducible exact h | with_reducible assumption | with_reducible apply State.removeLoad_kept
      | with_reducible apply kept_ite | with_reducible apply kept_foldl | with_reducible apply kept_foldl_fst
      | simp only [spine_mk, spine_fold] | split)

theorem State.lockoutEnd_kept {z : Spine} {s : State} (h : Kept z s.spine) (p : Nat) :
    Kept z (State.lockoutEnd s p).spine := by
  unfold State.lockoutEnd
  repeat' (first
      | intro _ | with_reducible exact h | with_reducible assumption | with_reducible apply State.setPort_kept
      | with_reducible apply kept_ite | with_reducible apply kept_foldl | with_reducible apply kept_foldl_fst
      | simp only [spine_mk, spine_fold] | split)

theorem State.soloStep_kept {z : Spine} {s : State} (h : Kept z s.spine)  :
    Kept z (State.soloStep s).spine := by
  unfold State.soloStep
  repeat' (first
      | intro _ | with_reducible exact h | with_reducible assumption | with_reducible apply State.recordEdge_kept
      | with_reducible apply State.enterWay_kept | with_reducible apply State.updBeat_kept
      | with_reducible apply State.beatWork_kept | with_reducible apply kept_ite | with_reducible apply kept_foldl
      | with_reducible apply kept_foldl_fst | simp only [spine_mk, spine_fold] | split)

theorem State.lossTimeout_kept {z : Spine} {s : State} (h : Kept z s.spine)  :
    Kept z (State.lossTimeout s).spine := by
  unfold State.lossTimeout
  repeat' (first
      | intro _ | with_reducible exact h | with_reducible assumption | with_reducible apply State.takeSettings_kept
      | with_reducible apply State.soloStep_kept | with_reducible apply State.bumpLive_kept
      | with_reducible apply State.leaveConvoy_kept | with_reducible apply State.raise_kept | with_reducible apply kept_ite
      | with_reducible apply kept_foldl | with_reducible apply kept_foldl_fst | simp only [spine_mk, spine_fold] | split)

theorem State.malformed_kept {z : Spine} {s : State} (h : Kept z s.spine) (p : Nat) (bs : List Byte) :
    Kept z (State.malformed s p bs).spine := by
  unfold State.malformed
  repeat' (first
      | intro _ | with_reducible exact h | with_reducible assumption | with_reducible apply State.frameError_kept
      | with_reducible apply State.deliver_kept | with_reducible apply kept_ite | with_reducible apply kept_foldl
      | with_reducible apply kept_foldl_fst | simp only [spine_mk, spine_fold] | split)

theorem State.marginStart_kept {z : Spine} {s : State} (h : Kept z s.spine) (n : Nat) :
    Kept z (State.marginStart s n).spine := by
  unfold State.marginStart
  repeat' (first
      | intro _ | with_reducible exact h | with_reducible assumption | with_reducible apply State.startMove_kept
      | with_reducible apply kept_ite | with_reducible apply kept_foldl | with_reducible apply kept_foldl_fst
      | simp only [spine_mk, spine_fold] | split)

theorem State.marginStep_kept {z : Spine} {s : State} (h : Kept z s.spine) (n : Nat) :
    Kept z (State.marginStep s n).spine := by
  unfold State.marginStep
  repeat' (first
      | intro _ | with_reducible exact h | with_reducible assumption | with_reducible apply State.freeRailLane_kept
      | with_reducible apply State.setMargin_kept | with_reducible apply State.bump_kept | with_reducible apply kept_ite
      | with_reducible apply kept_foldl | with_reducible apply kept_foldl_fst | simp only [spine_mk, spine_fold] | split)

theorem State.mateFeed_kept {z : Spine} {s : State} (h : Kept z s.spine) (f : Nat) :
    Kept z (State.mateFeed s f).spine := by
  unfold State.mateFeed
  repeat' (first
      | intro _ | with_reducible exact h | with_reducible assumption | with_reducible apply State.openFeed_kept
      | with_reducible apply kept_ite | with_reducible apply kept_foldl | with_reducible apply kept_foldl_fst
      | simp only [spine_mk, spine_fold] | split)

theorem State.mateCard_kept {z : Spine} {s : State} (h : Kept z s.spine)  :
    Kept z (State.mateCard s).spine := by
  unfold State.mateCard
  repeat' (first
      | intro _ | with_reducible exact h | with_reducible assumption | with_reducible apply State.mateFeed_kept
      | with_reducible apply kept_ite | with_reducible apply kept_foldl | with_reducible apply kept_foldl_fst
      | simp only [spine_mk, spine_fold] | split)

theorem State.messageArrival_kept {z : Spine} {s : State} (h : Kept z s.spine) (i : Nat) :
    Kept z (State.messageArrival s i).spine := by
  unfold State.messageArrival
  repeat' (first
      | intro _ | with_reducible exact h | with_reducible assumption | with_reducible apply State.arrive_kept
      | with_reducible apply kept_ite | with_reducible apply kept_foldl | with_reducible apply kept_foldl_fst
      | simp only [spine_mk, spine_fold] | split)

theorem State.showLast_kept {z : Spine} {s : State} (h : Kept z s.spine) (word : Nat) (st : Stamp) :
    Kept z (State.showLast s word st).spine := by
  unfold State.showLast
  repeat' (first
      | intro _ | with_reducible exact h | with_reducible assumption | with_reducible apply State.noteTag_kept
      | with_reducible apply State.setLive_kept | with_reducible apply kept_ite | with_reducible apply kept_foldl
      | with_reducible apply kept_foldl_fst | simp only [spine_mk, spine_fold] | split)

theorem State.releaseMsg_kept {z : Spine} {s : State} (h : Kept z s.spine) (q : QMsg) :
    Kept z (State.releaseMsg s q).spine := by
  unfold State.releaseMsg
  repeat' (first
      | intro _ | with_reducible exact h | with_reducible assumption | with_reducible apply State.handOff_kept
      | with_reducible apply State.showLast_kept | with_reducible apply State.bump_kept | with_reducible apply kept_ite
      | with_reducible apply kept_foldl | with_reducible apply kept_foldl_fst | simp only [spine_mk, spine_fold] | split)

theorem State.messageRelease_kept {z : Spine} {s : State} (h : Kept z s.spine)  :
    Kept z (State.messageRelease s).spine := by
  unfold State.messageRelease
  repeat' (first
      | intro _ | with_reducible exact h | with_reducible assumption | with_reducible apply State.releaseMsg_kept
      | with_reducible apply kept_ite | with_reducible apply kept_foldl | with_reducible apply kept_foldl_fst
      | simp only [spine_mk, spine_fold] | split)

theorem State.noteReplySlot_kept {z : Spine} {s : State} (h : Kept z s.spine) (bs : List Byte) :
    Kept z (State.noteReplySlot s bs).spine := by
  unfold State.noteReplySlot
  repeat' (first
      | intro _ | with_reducible exact h | with_reducible assumption | with_reducible apply kept_ite
      | with_reducible apply kept_foldl | with_reducible apply kept_foldl_fst | simp only [spine_mk, spine_fold] | split)

theorem State.offSlot_kept {z : Spine} {s : State} (h : Kept z s.spine) (n : Nat) :
    Kept z (State.offSlot s n).spine := by
  unfold State.offSlot
  repeat' (first
      | intro _ | with_reducible exact h | with_reducible assumption | with_reducible apply State.release_kept
      | with_reducible apply kept_ite | with_reducible apply kept_foldl | with_reducible apply kept_foldl_fst
      | simp only [spine_mk, spine_fold] | split)

theorem State.offSlotRow_kept {z : Spine} {s : State} (h : Kept z s.spine) (n : Nat) :
    Kept z (State.offSlotRow s n).spine := by
  unfold State.offSlotRow
  repeat' (first
      | intro _ | with_reducible exact h | with_reducible assumption | with_reducible apply State.qualifyAll_kept
      | with_reducible apply State.offSlot_kept | with_reducible apply kept_ite | with_reducible apply kept_foldl
      | with_reducible apply kept_foldl_fst | simp only [spine_mk, spine_fold] | split)

theorem State.oldSample_kept {z : Spine} {s : State} (h : Kept z s.spine) (r0 : GangRun) (g : GangSample) :
    Kept z (State.oldSample s r0 g).spine := by
  unfold State.oldSample
  repeat' (first
      | intro _ | with_reducible exact h | with_reducible assumption | with_reducible apply State.finishGang_kept
      | with_reducible apply kept_ite | with_reducible apply kept_foldl | with_reducible apply kept_foldl_fst
      | simp only [spine_mk, spine_fold] | split)

theorem State.onPin_kept {z : Spine} {s : State} {f : State → State} (h : Kept z s.spine) (hf : ∀ t : State, Kept z t.spine → Kept z
    (f t).spine)  :
    Kept z (State.onPin s f).spine := by
  unfold State.onPin
  exact kept_ite h (hf _ h)

theorem State.opTimeAdd_kept {z : Spine} {s : State} (h : Kept z s.spine)  :
    Kept z (State.opTimeAdd s).spine := by
  unfold State.opTimeAdd
  repeat' (first
      | intro _ | with_reducible exact h | with_reducible assumption | with_reducible apply State.wideAdd_kept
      | with_reducible apply kept_ite | with_reducible apply kept_foldl | with_reducible apply kept_foldl_fst
      | simp only [spine_mk, spine_fold] | split)

theorem State.openAnswer_kept {z : Spine} {s : State} (h : Kept z s.spine) (p : Nat) (seq : Nat) (level : Nat) (nh : List Byte) :
    Kept z (State.openAnswer s p seq level nh).spine := by
  unfold State.openAnswer
  repeat' (first
      | intro _ | with_reducible exact h | with_reducible assumption | with_reducible apply State.deliver_kept
      | with_reducible apply State.setPort_kept | with_reducible apply kept_ite | with_reducible apply kept_foldl
      | with_reducible apply kept_foldl_fst | simp only [spine_mk, spine_fold] | split)

theorem State.openAs_kept {z : Spine} {s : State} (h : Kept z s.spine) (p : Nat) (seq : Nat) (c : Challenge) (key : List Byte) :
    Kept z (State.openAs s p seq c key).spine := by
  unfold State.openAs
  repeat' (first
      | intro _ | with_reducible exact h | with_reducible assumption | with_reducible apply State.deliver_kept
      | with_reducible apply State.setPort_kept | with_reducible apply State.endSession_kept
      | with_reducible apply State.bump_kept | with_reducible apply kept_ite | with_reducible apply kept_foldl
      | with_reducible apply kept_foldl_fst | simp only [spine_mk, spine_fold] | split)

theorem State.openSession_kept {z : Spine} {s : State} (h : Kept z s.spine) (p : Nat) :
    Kept z (State.openSession s p).spine := by
  unfold State.openSession
  repeat' (first
      | intro _ | with_reducible exact h | with_reducible assumption | with_reducible apply State.openAnswer_kept
      | with_reducible apply State.malformed_kept | with_reducible apply State.wake_kept | with_reducible apply kept_ite
      | with_reducible apply kept_foldl | with_reducible apply kept_foldl_fst | simp only [spine_mk, spine_fold] | split)

theorem State.pageReload_kept {z : Spine} {s : State} (h : Kept z s.spine) (p : Nat) :
    Kept z (State.pageReload s p).spine := by
  unfold State.pageReload
  repeat' (first
      | intro _ | with_reducible exact h | with_reducible assumption | with_reducible apply State.loadPage_kept
      | with_reducible apply kept_ite | with_reducible apply kept_foldl | with_reducible apply kept_foldl_fst
      | simp only [spine_mk, spine_fold] | split)

theorem State.pairTolls_kept {z : Spine} {s : State} (h : Kept z s.spine)  :
    Kept z (State.pairTolls s).spine := by
  unfold State.pairTolls
  repeat' (first
      | intro _ | with_reducible exact h | with_reducible assumption | with_reducible apply State.setLead_kept
      | with_reducible apply kept_ite | with_reducible apply kept_foldl | with_reducible apply kept_foldl_fst
      | simp only [spine_mk, spine_fold] | split)

theorem State.patternEdge_kept {z : Spine} {s : State} (h : Kept z s.spine) (n : Nat) :
    Kept z (State.patternEdge s n).spine := by
  unfold State.patternEdge
  repeat' (first
      | intro _ | with_reducible exact h | with_reducible assumption | with_reducible apply State.setSink_kept
      | with_reducible apply State.setStip_kept | with_reducible apply kept_ite | with_reducible apply kept_foldl
      | with_reducible apply kept_foldl_fst | simp only [spine_mk, spine_fold] | split)

theorem State.pfailHigh_kept {z : Spine} {s : State} (h : Kept z s.spine)  :
    Kept z (State.pfailHigh s).spine := by
  unfold State.pfailHigh
  repeat' (first
      | intro _ | with_reducible exact h | with_reducible assumption | with_reducible apply kept_ite
      | with_reducible apply kept_foldl | with_reducible apply kept_foldl_fst | simp only [spine_mk, spine_fold] | split)

theorem State.pfailLow_kept {z : Spine} {s : State} (h : Kept z s.spine)  :
    Kept z (State.pfailLow s).spine := by
  unfold State.pfailLow
  repeat' (first
      | intro _ | with_reducible exact h | with_reducible assumption | with_reducible apply State.powerFail_kept
      | with_reducible apply State.localShutdown_kept | with_reducible apply State.raise_kept | with_reducible apply kept_ite
      | with_reducible apply kept_foldl | with_reducible apply kept_foldl_fst | simp only [spine_mk, spine_fold] | split)

theorem State.postOnSlot_kept {z : Spine} {s : State} (h : Kept z s.spine) (n : Nat) (slot : Nat) (late : Bool) :
    Kept z (State.postOnSlot s n slot late).spine := by
  unfold State.postOnSlot
  repeat' (first
      | intro _ | with_reducible exact h | with_reducible assumption | with_reducible apply State.later_kept
      | with_reducible apply State.armRail_kept | with_reducible apply kept_ite | with_reducible apply kept_foldl
      | with_reducible apply kept_foldl_fst | simp only [spine_mk, spine_fold] | split)

theorem State.powerOnEnd_kept {z : Spine} {s : State} (h : Kept z s.spine)  :
    Kept z (State.powerOnEnd s).spine := by
  unfold State.powerOnEnd
  repeat' (first
      | intro _ | with_reducible exact h | with_reducible assumption | with_reducible apply kept_ite
      | with_reducible apply kept_foldl | with_reducible apply kept_foldl_fst | simp only [spine_mk, spine_fold] | split)

theorem State.powerStateEnter_kept {z : Spine} {s : State} (h : Kept z s.spine)  :
    Kept z (State.powerStateEnter s).spine := by
  unfold State.powerStateEnter
  repeat' (first
      | intro _ | with_reducible exact h | with_reducible assumption | with_reducible apply kept_ite
      | with_reducible apply kept_foldl | with_reducible apply kept_foldl_fst | simp only [spine_mk, spine_fold] | split)

theorem State.powerUpRecs_kept {z : Spine} {s : State} (h : Kept z s.spine) (fuel : Nat) (total : Nat) (body : Nat) :
    Kept z (State.powerUpRecs fuel total body s).spine := by
  induction fuel generalizing s total body with
  | zero =>
    unfold State.powerUpRecs
    exact h
  | succ f ih =>
    unfold State.powerUpRecs
    repeat' (first
        | intro _ | simp only [spine_mk, spine_fold] | with_reducible exact h | with_reducible assumption
        | with_reducible apply ih | with_reducible apply State.systemRec_kept | with_reducible apply kept_ite
        | with_reducible apply kept_foldl | with_reducible apply kept_foldl_fst | split | dsimp only)

theorem State.preemptHandover_kept {z : Spine} {s : State} (h : Kept z s.spine) (lane : Nat) :
    Kept z (State.preemptHandover s lane).spine := by
  unfold State.preemptHandover
  split
  · rename_i x hx
    have hm := List.mem_of_find?_eq_some hx
    have hl : x.lane = lane := by simpa using List.find?_some hx
    refine kept_ite (State.grantLane_kept (kept_lanes h _ ?_) (fun a => ?_) _) h
    · exact fun b => ⟨b.1, b.2.1, fun p hp => b.2.2 p (List.mem_of_mem_erase hp)⟩
    · exact hl ▸ (h.5 a).2.2 x hm
  · exact h

theorem State.preloadEnd_kept {z : Spine} {s : State} (h : Kept z s.spine) (n : Nat) :
    Kept z (State.preloadEnd s n).spine := by
  unfold State.preloadEnd
  repeat' (first
      | intro _ | with_reducible exact h | with_reducible assumption | with_reducible apply State.setSink_kept
      | with_reducible apply State.setStip_kept | with_reducible apply kept_ite | with_reducible apply kept_foldl
      | with_reducible apply kept_foldl_fst | simp only [spine_mk, spine_fold] | split)

theorem State.presentSample_kept {z : Spine} {s : State} (h : Kept z s.spine) (g : Option GangSample) :
    Kept z (State.presentSample s g).spine := by
  unfold State.presentSample
  repeat' (first
      | intro _ | with_reducible exact h | with_reducible assumption | with_reducible apply State.finishGang_kept
      | with_reducible apply kept_ite | with_reducible apply kept_foldl | with_reducible apply kept_foldl_fst
      | simp only [spine_mk, spine_fold] | split)

theorem State.proofAnswer_kept {z : Spine} {s : State} (h : Kept z s.spine) (p : Nat) (seq : Nat) (arrived : Nat) (proof : List Byte) :
    Kept z (State.proofAnswer s p seq arrived proof).spine := by
  unfold State.proofAnswer
  repeat' (first
      | intro _ | with_reducible exact h | with_reducible assumption | with_reducible apply State.openAs_kept
      | with_reducible apply State.deliver_kept | with_reducible apply State.authFail_kept | with_reducible apply kept_ite
      | with_reducible apply kept_foldl | with_reducible apply kept_foldl_fst | simp only [spine_mk, spine_fold] | split)

theorem State.shiftOut_kept {z : Spine} {s : State} (h : Kept z s.spine) (p : Nat) (bs : List Byte) :
    Kept z (State.shiftOut s p bs).spine := by
  unfold State.shiftOut
  repeat' (first
      | intro _ | with_reducible exact h | with_reducible assumption | with_reducible apply State.setPort_kept
      | with_reducible apply kept_ite | with_reducible apply kept_foldl | with_reducible apply kept_foldl_fst
      | simp only [spine_mk, spine_fold] | split)

theorem State.proofFrame_kept {z : Spine} {s : State} (h : Kept z s.spine) (start : Nat) (n : Nat) :
    Kept z (State.proofFrame s start n).spine := by
  unfold State.proofFrame
  repeat' (first
      | intro _ | with_reducible exact h | with_reducible assumption | with_reducible apply State.setLive_kept
      | with_reducible apply State.shiftOut_kept | with_reducible apply kept_ite | with_reducible apply kept_foldl
      | with_reducible apply kept_foldl_fst | simp only [spine_mk, spine_fold] | split)

theorem State.proposalForget_kept {z : Spine} {s : State} (h : Kept z s.spine)  :
    Kept z (State.proposalForget s).spine := by
  unfold State.proposalForget
  repeat' (first
      | intro _ | with_reducible exact h | with_reducible assumption | with_reducible apply State.setLead_kept
      | with_reducible apply kept_ite | with_reducible apply kept_foldl | with_reducible apply kept_foldl_fst
      | simp only [spine_mk, spine_fold] | split)

theorem State.proveSession_kept {z : Spine} {s : State} (h : Kept z s.spine) (p : Nat) :
    Kept z (State.proveSession s p).spine := by
  unfold State.proveSession
  repeat' (first
      | intro _ | with_reducible exact h | with_reducible assumption | with_reducible apply State.proofAnswer_kept
      | with_reducible apply State.malformed_kept | with_reducible apply State.wake_kept | with_reducible apply kept_ite
      | with_reducible apply kept_foldl | with_reducible apply kept_foldl_fst | simp only [spine_mk, spine_fold] | split)

theorem State.pulseEnd_kept {z : Spine} {s : State} (h : Kept z s.spine)  :
    Kept z (State.pulseEnd s).spine := by
  unfold State.pulseEnd
  repeat' (first
      | intro _ | with_reducible exact h | with_reducible assumption | with_reducible apply kept_ite
      | with_reducible apply kept_foldl | with_reducible apply kept_foldl_fst | simp only [spine_mk, spine_fold] | split)

theorem State.quickFeed_kept {z : Spine} {s : State} (h : Kept z s.spine) (f : Nat) :
    Kept z (State.quickFeed s f).spine := by
  unfold State.quickFeed
  repeat' (first
      | intro _ | with_reducible exact h | with_reducible assumption | with_reducible apply State.setLive_kept
      | with_reducible apply State.setFeed_kept | with_reducible apply kept_ite | with_reducible apply kept_foldl
      | with_reducible apply kept_foldl_fst | simp only [spine_mk, spine_fold] | split)

theorem State.quickHoldUp_kept {z : Spine} {s : State} (h : Kept z s.spine)  :
    Kept z (State.quickHoldUp s).spine := by
  unfold State.quickHoldUp
  repeat' (first
      | intro _ | with_reducible exact h | with_reducible assumption | with_reducible apply State.setPers_kept
      | with_reducible apply kept_ite | with_reducible apply kept_foldl | with_reducible apply kept_foldl_fst
      | simp only [spine_mk, spine_fold] | split)

theorem State.quickPath_kept {z : Spine} {s : State} (h : Kept z s.spine)  :
    Kept z (State.quickPath s).spine := by
  unfold State.quickPath
  repeat' (first
      | intro _ | with_reducible exact h | with_reducible assumption | with_reducible apply kept_ite
      | with_reducible apply kept_foldl | with_reducible apply kept_foldl_fst | simp only [spine_mk, spine_fold] | split)

theorem State.quickFeeds_kept {z : Spine} {s : State} (h : Kept z s.spine)  :
    Kept z (State.quickFeeds s).spine := by
  unfold State.quickFeeds
  repeat' (first
      | intro _ | with_reducible exact h | with_reducible assumption | with_reducible apply State.quickFeed_kept
      | with_reducible apply State.quickHoldUp_kept | with_reducible apply State.inputReview_kept
      | with_reducible apply State.quickPath_kept | with_reducible apply kept_ite | with_reducible apply kept_foldl
      | with_reducible apply kept_foldl_fst | simp only [spine_mk, spine_fold] | split)

theorem State.storeQuick_kept {z : Spine} {s : State} (h : Kept z s.spine) (a : Nat) (b : Nat) (c : Nat) (d : Nat) :
    Kept z (State.storeQuick s a b c d).spine := by
  unfold State.storeQuick
  repeat' (first
      | intro _ | with_reducible exact h | with_reducible assumption | with_reducible apply State.setLive_kept
      | with_reducible apply kept_ite | with_reducible apply kept_foldl | with_reducible apply kept_foldl_fst
      | simp only [spine_mk, spine_fold] | split)

theorem State.quickResult_kept {z : Spine} {s : State} (h : Kept z s.spine) (a : Nat) (b : Nat) (c : Nat) (d : Nat) :
    Kept z (State.quickResult s a b c d).spine := by
  unfold State.quickResult
  repeat' (first
      | intro _ | with_reducible exact h | with_reducible assumption | with_reducible apply State.storeQuick_kept
      | with_reducible apply State.quickFeeds_kept | with_reducible apply State.huAbort_kept
      | with_reducible apply State.collapseCheck_kept | with_reducible apply kept_ite | with_reducible apply kept_foldl
      | with_reducible apply kept_foldl_fst | simp only [spine_mk, spine_fold] | split)

theorem State.quietEnd_kept {z : Spine} {s : State} (h : Kept z s.spine)  :
    Kept z (State.quietEnd s).spine := by
  unfold State.quietEnd
  repeat' (first
      | intro _ | with_reducible exact h | with_reducible assumption | with_reducible apply State.bump_kept
      | with_reducible apply kept_ite | with_reducible apply kept_foldl | with_reducible apply kept_foldl_fst
      | simp only [spine_mk, spine_fold] | split)

theorem State.takeClaim_kept {z : Spine} {s : State} (h : Kept z s.spine) (k : RailCand) :
    Kept z (State.takeClaim s k).spine := by
  unfold State.takeClaim
  repeat' (first
      | intro _ | with_reducible exact h | with_reducible assumption | with_reducible apply kept_ite
      | with_reducible apply kept_foldl | with_reducible apply kept_foldl_fst | simp only [spine_mk, spine_fold] | split)

theorem State.railWindowEnd_kept {z : Spine} {s : State} (h : Kept z s.spine)  :
    Kept z (State.railWindowEnd s).spine := by
  unfold State.railWindowEnd
  repeat' (first
      | intro _ | with_reducible exact h | with_reducible assumption | with_reducible apply State.takeClaim_kept
      | with_reducible apply kept_ite | with_reducible apply kept_foldl | with_reducible apply kept_foldl_fst
      | simp only [spine_mk, spine_fold] | split)

theorem State.reEtch_kept {z : Spine} {s0 : State} (h : Kept z s0.spine) (rolled : List Nat) :
    Kept z (State.reEtch s0 rolled).spine := by
  have hl : 64 ≤ s0.lanes.lowestFree.getD 64 ∧ s0.lanes.lowestFree.getD 64 < 128 := by
    cases hx : s0.lanes.lowestFree with
    | none => exact ⟨Nat.le_refl _, by decide⟩
    | some n => exact lowestFree_range hx
  have h0 := State.placeOnLane_kept h (fun _ => hl) (reEtchReq s0.fab.tick rolled)
  unfold State.reEtch
  dsimp only
  repeat' (first
    | intro _ | simp only [spine_mk, spine_fold] | with_reducible exact h0 | with_reducible assumption
    | with_reducible apply State.writeBytes_kept | with_reducible apply State.writeCopy_kept | with_reducible apply State.addCount_kept
    | with_reducible apply State.setLive_kept | with_reducible apply State.bump_kept | with_reducible apply State.setPers_kept
    | with_reducible apply State.freeLane_kept | with_reducible apply kept_ite | with_reducible apply kept_foldl | split)

theorem State.readDirect_kept {z : Spine} {s : State} (h : Kept z s.spine) (p : Nat) (key : Nat) (n : Nat) :
    Kept z (State.readDirect s p key n).spine := by
  unfold State.readDirect
  repeat' (first
      | intro _ | with_reducible exact h | with_reducible assumption | with_reducible apply State.direct_kept
      | with_reducible apply kept_ite | with_reducible apply kept_foldl | with_reducible apply kept_foldl_fst
      | simp only [spine_mk, spine_fold] | split)

theorem State.readPortStatus_kept {z : Spine} {s : State} (h : Kept z s.spine) (p : Nat) (n : Nat) :
    Kept z (State.readPortStatus s p n).spine := by
  unfold State.readPortStatus
  repeat' (first
      | intro _ | with_reducible exact h | with_reducible assumption | with_reducible apply State.shiftOut_kept
      | with_reducible apply kept_ite | with_reducible apply kept_foldl | with_reducible apply kept_foldl_fst
      | simp only [spine_mk, spine_fold] | split)

theorem State.readResponse_kept {z : Spine} {s : State} (h : Kept z s.spine) (p : Nat) :
    Kept z (State.readResponse s p).spine := by
  unfold State.readResponse
  repeat' (first
      | intro _ | with_reducible exact h | with_reducible assumption | with_reducible apply State.shiftOut_kept
      | with_reducible apply kept_ite | with_reducible apply kept_foldl | with_reducible apply kept_foldl_fst
      | simp only [spine_mk, spine_fold] | split)

theorem State.recallColl_kept {z : Spine} {s : State} (h : Kept z s.spine)  :
    Kept z (State.recallColl s).spine := by
  unfold State.recallColl
  repeat' (first
      | intro _ | with_reducible exact h | with_reducible assumption | with_reducible apply kept_ite
      | with_reducible apply kept_foldl | with_reducible apply kept_foldl_fst | simp only [spine_mk, spine_fold] | split)

theorem State.recallCopy_kept {z : Spine} {s : State} (h : Kept z s.spine) (p : Nat) (i : Nat) :
    Kept z (State.recallCopy s p i).spine := by
  unfold State.recallCopy
  repeat' (first
      | intro _ | with_reducible exact h | with_reducible assumption | with_reducible apply State.raise_kept
      | with_reducible apply kept_ite | with_reducible apply kept_foldl | with_reducible apply kept_foldl_fst
      | simp only [spine_mk, spine_fold] | split)

theorem State.recallPage_kept {z : Spine} {s : State} (h : Kept z s.spine) (p : Nat) :
    Kept z (State.recallPage s p).spine := by
  unfold State.recallPage
  repeat' (first
      | intro _ | with_reducible exact h | with_reducible assumption | with_reducible apply State.loadPage_kept
      | with_reducible apply State.recallCopy_kept | with_reducible apply State.raise_kept | with_reducible apply kept_ite
      | with_reducible apply kept_foldl | with_reducible apply kept_foldl_fst | simp only [spine_mk, spine_fold] | split)

theorem State.recallRing_kept {z : Spine} {s : State} (h : Kept z s.spine)  :
    Kept z (State.recallRing s).spine := by
  unfold State.recallRing
  repeat' (first
      | intro _ | with_reducible exact h | with_reducible assumption | with_reducible apply State.setLive_kept
      | with_reducible apply kept_ite | with_reducible apply kept_foldl | with_reducible apply kept_foldl_fst
      | simp only [spine_mk, spine_fold] | split)

end Sys2Proof.Machine
end

