-- ==== Sys2Proof/Laws/Kept7.lean ====
section
/-! SUPPORT. What every operation keeps of the spine (part 7 of 7): one lemma for each operation on the state. -/

set_option linter.unusedSimpArgs false

namespace Sys2Proof.Machine

theorem State.recoverWide_kept {z : Spine} {s : State} (h : Kept z s.spine) (key : Nat) :
    Kept z (State.recoverWide s key).spine := by
  unfold State.recoverWide
  repeat' (first
      | intro _ | with_reducible exact h | with_reducible assumption | with_reducible apply State.wideSet_kept
      | with_reducible apply State.bump_kept | with_reducible apply State.raise_kept | with_reducible apply kept_ite
      | with_reducible apply kept_foldl | with_reducible apply kept_foldl_fst | simp only [spine_mk, spine_fold] | split)

theorem State.storeRecall_kept {z : Spine} {s : State} (h : Kept z s.spine)  :
    Kept z (State.storeRecall s).spine := by
  unfold State.storeRecall
  repeat' (first
      | intro _ | with_reducible exact h | with_reducible assumption | with_reducible apply State.raise_kept
      | with_reducible apply State.addCount_kept | with_reducible apply State.recallPage_kept
      | with_reducible apply State.startAutoTimer_kept | with_reducible apply State.setLive_kept
      | with_reducible apply State.reEtch_kept | with_reducible apply State.bump_kept
      | with_reducible apply State.recoverWide_kept | with_reducible apply kept_ite | with_reducible apply kept_foldl
      | with_reducible apply kept_foldl_fst | simp only [spine_mk, spine_fold] | split)

theorem mergeCount_kept {z : Spine} {s : State} (h : Kept z s.spine) (kv : Nat × Nat) :
    Kept z (mergeCount s kv).spine := by
  unfold mergeCount
  repeat' (first
      | intro _ | with_reducible exact h | with_reducible assumption | with_reducible apply State.setPers_kept
      | with_reducible apply kept_ite | with_reducible apply kept_foldl | with_reducible apply kept_foldl_fst
      | simp only [spine_mk, spine_fold] | split)

theorem State.recallStore_kept {z : Spine} {s : State} (h : Kept z s.spine)  :
    Kept z (State.recallStore s).spine := by
  unfold State.recallStore
  repeat' (first
      | intro _ | with_reducible exact h | with_reducible assumption | with_reducible apply State.noteWindow_kept
      | with_reducible apply State.wideAdd_kept | with_reducible apply State.recallRing_kept
      | with_reducible apply State.setLive_kept | with_reducible apply State.recallColl_kept
      | with_reducible apply State.storeRecall_kept | with_reducible apply mergeCount_kept | with_reducible apply kept_ite
      | with_reducible apply kept_foldl | with_reducible apply kept_foldl_fst | simp only [spine_mk, spine_fold] | split)

theorem State.reconcile_kept {z : Spine} {s : State} (h : Kept z s.spine)  :
    Kept z (State.reconcile s).spine := by
  unfold State.reconcile
  repeat' (first
      | intro _ | with_reducible exact h | with_reducible assumption | with_reducible apply State.writeBytes_kept
      | with_reducible apply State.wideSet_kept | with_reducible apply State.powerUpRecs_kept | with_reducible apply kept_ite
      | with_reducible apply kept_foldl | with_reducible apply kept_foldl_fst | simp only [spine_mk, spine_fold] | split)

theorem State.recoveryEnd_kept {z : Spine} {s : State} (h : Kept z s.spine)  :
    Kept z (State.recoveryEnd s).spine := by
  unfold State.recoveryEnd
  repeat' (first
      | intro _ | with_reducible exact h | with_reducible assumption | with_reducible apply kept_ite
      | with_reducible apply kept_foldl | with_reducible apply kept_foldl_fst | simp only [spine_mk, spine_fold] | split)

theorem State.reevalPower_kept {z : Spine} {s : State} (h : Kept z s.spine)  :
    Kept z (State.reevalPower s).spine := by
  unfold State.reevalPower
  repeat' (first
      | intro _ | with_reducible exact h | with_reducible assumption | with_reducible apply State.setSink_kept
      | with_reducible apply State.bump_kept | with_reducible apply State.freePower_kept
      | with_reducible apply State.servePower_kept | with_reducible apply kept_ite | with_reducible apply kept_foldl
      | with_reducible apply kept_foldl_fst | simp only [spine_mk, spine_fold] | split)

theorem State.relayForward_kept {z : Spine} {s0 : State} (h : Kept z s0.spine) (cscIn : Bool) (holdLine : Bool) (dataLine : Bool) :
    Kept z (State.relayForward s0 cscIn holdLine dataLine).spine := by
  unfold State.relayForward
  repeat' (first
      | intro _ | with_reducible exact h | with_reducible assumption | with_reducible apply State.drive_kept
      | with_reducible apply kept_ite | with_reducible apply kept_foldl | with_reducible apply kept_foldl_fst
      | simp only [spine_mk, spine_fold] | split)

theorem State.releaseRetry_kept {z : Spine} {s : State} (h : Kept z s.spine) (f : Nat) :
    Kept z (State.releaseRetry s f).spine := by
  unfold State.releaseRetry
  repeat' (first
      | intro _ | with_reducible exact h | with_reducible assumption | with_reducible apply State.setPers_kept
      | with_reducible apply State.openFeed_kept | with_reducible apply State.setFeed_kept | with_reducible apply kept_ite
      | with_reducible apply kept_foldl | with_reducible apply kept_foldl_fst | simp only [spine_mk, spine_fold] | split)

theorem State.replySend_kept {z : Spine} {s : State} (h : Kept z s.spine) (won : Bool) :
    Kept z (State.replySend s won).spine := by
  unfold State.replySend
  repeat' (first
      | intro _ | with_reducible exact h | with_reducible assumption | with_reducible apply kept_ite
      | with_reducible apply kept_foldl | with_reducible apply kept_foldl_fst | simp only [spine_mk, spine_fold] | split)

theorem State.reserveUpdate_kept {z : Spine} {s : State} (h : Kept z s.spine)  :
    Kept z (State.reserveUpdate s).spine := by
  unfold State.reserveUpdate
  repeat' (first
      | intro _ | with_reducible exact h | with_reducible assumption | with_reducible apply State.setReserve_kept
      | with_reducible apply State.setLive_kept | with_reducible apply kept_ite | with_reducible apply kept_foldl
      | with_reducible apply kept_foldl_fst | simp only [spine_mk, spine_fold] | split)

theorem State.resetLow_kept {z : Spine} {s : State} (h : Kept z s.spine) (powerLost : Bool) :
    Kept z (State.resetLow s powerLost).spine := by
  unfold State.resetLow
  repeat' (first
      | intro _ | with_reducible exact h | with_reducible assumption | with_reducible apply State.goOff_kept
      | with_reducible apply kept_ite | with_reducible apply kept_foldl | with_reducible apply kept_foldl_fst
      | simp only [spine_mk, spine_fold] | split)

theorem State.retryFull_kept {z : Spine} {s : State} (h : Kept z s.spine) (f : Nat) :
    Kept z (State.retryFull s f).spine := by
  unfold State.retryFull
  repeat' (first
      | intro _ | with_reducible exact h | with_reducible assumption | with_reducible apply State.releaseRetry_kept
      | with_reducible apply State.raiseFeed_kept | with_reducible apply kept_ite | with_reducible apply kept_foldl
      | with_reducible apply kept_foldl_fst | simp only [spine_mk, spine_fold] | split)

theorem State.retryRelease_kept {z : Spine} {s : State} (h : Kept z s.spine) (f : Nat) :
    Kept z (State.retryRelease s f).spine := by
  unfold State.retryRelease
  repeat' (first
      | intro _ | with_reducible exact h | with_reducible assumption | with_reducible apply State.releaseRetry_kept
      | with_reducible apply kept_ite | with_reducible apply kept_foldl | with_reducible apply kept_foldl_fst
      | simp only [spine_mk, spine_fold] | split)

theorem State.reverseOff_kept {z : Spine} {s : State} (h : Kept z s.spine) (f : Nat) :
    Kept z (State.reverseOff s f).spine := by
  unfold State.reverseOff
  repeat' (first
      | intro _ | with_reducible exact h | with_reducible assumption | with_reducible apply State.unraise_kept
      | with_reducible apply State.openFeed_kept | with_reducible apply State.bump_kept
      | with_reducible apply State.raiseFeed_kept | with_reducible apply State.setFeed_kept | with_reducible apply kept_ite
      | with_reducible apply kept_foldl | with_reducible apply kept_foldl_fst | simp only [spine_mk, spine_fold] | split)

theorem State.ringAutoRearm_kept {z : Spine} {s : State} (h : Kept z s.spine)  :
    Kept z (State.ringAutoRearm s).spine := by
  unfold State.ringAutoRearm
  repeat' (first
      | intro _ | with_reducible exact h | with_reducible assumption | with_reducible apply State.rearmRing_kept
      | with_reducible apply kept_ite | with_reducible apply kept_foldl | with_reducible apply kept_foldl_fst
      | simp only [spine_mk, spine_fold] | split)

theorem State.ringDelay_kept {z : Spine} {s : State} (h : Kept z s.spine) (ticks : Nat) :
    Kept z (State.ringDelay s ticks).spine := by
  unfold State.ringDelay
  repeat' (first
      | intro _ | with_reducible exact h | with_reducible assumption | with_reducible apply State.setLead_kept
      | with_reducible apply State.setLive_kept | with_reducible apply State.raise_kept | with_reducible apply kept_ite
      | with_reducible apply kept_foldl | with_reducible apply kept_foldl_fst | simp only [spine_mk, spine_fold] | split)

theorem State.ringFreeze_kept {z : Spine} {s : State} (h : Kept z s.spine)  :
    Kept z (State.ringFreeze s).spine := by
  unfold State.ringFreeze
  repeat' (first
      | intro _ | with_reducible exact h | with_reducible assumption | with_reducible apply State.postEtch_kept
      | with_reducible apply State.freezeRing_kept | with_reducible apply kept_ite | with_reducible apply kept_foldl
      | with_reducible apply kept_foldl_fst | simp only [spine_mk, spine_fold] | split)

theorem State.ringOpen_kept {z : Spine} {s : State} (h : Kept z s.spine)  :
    Kept z (State.ringOpen s).spine := by
  unfold State.ringOpen
  repeat' (first
      | intro _ | with_reducible exact h | with_reducible assumption | with_reducible apply State.setLead_kept
      | with_reducible apply State.raise_kept | with_reducible apply kept_ite | with_reducible apply kept_foldl
      | with_reducible apply kept_foldl_fst | simp only [spine_mk, spine_fold] | split)

theorem State.scrubPassed_kept {z : Spine} {s : State} (h : Kept z s.spine) (pos : Nat) :
    Kept z (State.scrubPassed s pos).spine := by
  unfold State.scrubPassed
  repeat' (first
      | intro _ | with_reducible exact h | with_reducible assumption | with_reducible apply State.bump_kept
      | with_reducible apply kept_ite | with_reducible apply kept_foldl | with_reducible apply kept_foldl_fst
      | simp only [spine_mk, spine_fold] | split)

theorem State.scrubStep_kept {z : Spine} {s : State} (h : Kept z s.spine) (corrected : Nat) (uncorrectable : Bool) (group : Nat) :
    Kept z (State.scrubStep s corrected uncorrectable group).spine := by
  unfold State.scrubStep
  repeat' (first
      | intro _ | with_reducible exact h | with_reducible assumption | with_reducible apply State.postEtch_kept
      | with_reducible apply State.scrubPassed_kept | with_reducible apply State.correctedOnce_kept
      | with_reducible apply State.setPers_kept | with_reducible apply State.freeLane_kept | with_reducible apply kept_ite
      | with_reducible apply kept_foldl | with_reducible apply kept_foldl_fst | simp only [spine_mk, spine_fold] | split)

theorem State.serveAgain_kept {z : Spine} {s : State} (h : Kept z s.spine) (p : Nat) :
    Kept z (State.serveAgain s p).spine := by
  unfold State.serveAgain
  repeat' (first
      | intro _ | with_reducible exact h | with_reducible assumption | with_reducible apply State.deliver_kept
      | with_reducible apply kept_ite | with_reducible apply kept_foldl | with_reducible apply kept_foldl_fst
      | simp only [spine_mk, spine_fold] | split)

theorem State.serve_kept {z : Spine} {s : State} (h : Kept z s.spine) (p : Nat) (arrived : Nat) (seq : Nat) (bs : List Byte)
    (ms : List Member) :
    Kept z (State.serve s p arrived seq bs ms).spine := by
  unfold State.serve
  repeat' (first
      | intro _ | with_reducible exact h | with_reducible assumption | with_reducible apply State.serveAgain_kept
      | with_reducible apply State.frameError_kept | with_reducible apply State.serveNew_kept
      | with_reducible apply State.serveNone_kept | with_reducible apply State.deliver_kept | with_reducible apply kept_ite
      | with_reducible apply kept_foldl | with_reducible apply kept_foldl_fst | simp only [spine_mk, spine_fold] | split)

theorem State.settleEnd_kept {z : Spine} {s : State} (h : Kept z s.spine) (n : Nat) :
    Kept z (State.settleEnd s n).spine := by
  unfold State.settleEnd
  repeat' (first
      | intro _ | with_reducible exact h | with_reducible assumption | with_reducible apply State.setLive_kept
      | with_reducible apply State.setMargin_kept | with_reducible apply State.takeRailLane_kept
      | with_reducible apply State.raise_kept | with_reducible apply kept_ite | with_reducible apply kept_foldl
      | with_reducible apply kept_foldl_fst | simp only [spine_mk, spine_fold] | split)

theorem State.sinkSlewDone_kept {z : Spine} {s : State} (h : Kept z s.spine) (n : Nat) :
    Kept z (State.sinkSlewDone s n).spine := by
  unfold State.sinkSlewDone
  repeat' (first
      | intro _ | with_reducible exact h | with_reducible assumption | with_reducible apply State.freePower_kept
      | with_reducible apply State.sinkDone_kept | with_reducible apply kept_ite | with_reducible apply kept_foldl
      | with_reducible apply kept_foldl_fst | simp only [spine_mk, spine_fold] | split)

theorem State.sliceSwap_kept {z : Spine} {s : State} (h : Kept z s.spine)  :
    Kept z (State.sliceSwap s).spine := by
  unfold State.sliceSwap
  repeat' (first
      | intro _ | with_reducible exact h | with_reducible assumption | with_reducible apply State.swapIn_kept
      | with_reducible apply kept_ite | with_reducible apply kept_foldl | with_reducible apply kept_foldl_fst
      | simp only [spine_mk, spine_fold] | split)

theorem State.trackZero_kept {z : Spine} {s : State} (h : Kept z s.spine) (slc : Nat) (raw : Nat) :
    Kept z (State.trackZero s slc raw).spine := by
  unfold State.trackZero
  repeat' (first
      | intro _ | with_reducible exact h | with_reducible assumption | with_reducible apply State.setSlice_kept
      | with_reducible apply kept_ite | with_reducible apply kept_foldl | with_reducible apply kept_foldl_fst
      | simp only [spine_mk, spine_fold] | split)

theorem State.takeResult_kept {z : Spine} {s : State} (h : Kept z s.spine) (raw : Nat) :
    Kept z (State.takeResult s raw).1.spine := by
  unfold State.takeResult
  repeat' (first
      | intro _ | with_reducible exact h | with_reducible assumption | with_reducible apply State.oldSample_kept
      | with_reducible apply State.ringStore_kept | with_reducible apply State.storeResult_kept
      | with_reducible apply State.presentSample_kept | with_reducible apply State.trackZero_kept
      | with_reducible apply State.finishRingPages_kept | with_reducible apply kept_ite | with_reducible apply kept_foldl
      | with_reducible apply kept_foldl_fst | simp only [spine_mk, spine_fold] | split)

theorem State.slotResult_kept {z : Spine} {s : State} (h : Kept z s.spine) (raw : Nat) :
    Kept z (State.slotResult s raw).spine := by
  unfold State.slotResult
  repeat' (first
      | intro _ | with_reducible exact h | with_reducible assumption | with_reducible apply State.deliverResult_kept
      | with_reducible apply State.takeResult_kept | with_reducible apply State.guardSamples_kept | with_reducible apply kept_ite
      | with_reducible apply kept_foldl | with_reducible apply kept_foldl_fst | simp only [spine_mk, spine_fold] | split)

theorem State.soaTimeout_kept {z : Spine} {s : State} (h : Kept z s.spine) (f : Nat) :
    Kept z (State.soaTimeout s f).spine := by
  unfold State.soaTimeout
  repeat' (first
      | intro _ | with_reducible exact h | with_reducible assumption | with_reducible apply State.tripFeed_kept
      | with_reducible apply kept_ite | with_reducible apply kept_foldl | with_reducible apply kept_foldl_fst
      | simp only [spine_mk, spine_fold] | split)

theorem State.soloBeat_kept {z : Spine} {s : State} (h : Kept z s.spine)  :
    Kept z (State.soloBeat s).spine := by
  unfold State.soloBeat
  repeat' (first
      | intro _ | with_reducible exact h | with_reducible assumption | with_reducible apply State.takeSettings_kept
      | with_reducible apply State.soloStep_kept | with_reducible apply State.joined_kept | with_reducible apply kept_ite
      | with_reducible apply kept_foldl | with_reducible apply kept_foldl_fst | simp only [spine_mk, spine_fold] | split)

theorem State.sourceOut_kept {z : Spine} {s : State} (h : Kept z s.spine) (f : Nat) (kind : Nat) (since : Option Nat) (span : Nat) :
    Kept z (State.sourceOut s f kind since span).spine := by
  unfold State.sourceOut
  repeat' (first
      | intro _ | with_reducible exact h | with_reducible assumption | with_reducible apply State.raiseFeed_kept
      | with_reducible apply State.openFeed_kept | with_reducible apply kept_ite | with_reducible apply kept_foldl
      | with_reducible apply kept_foldl_fst | simp only [spine_mk, spine_fold] | split)

theorem State.spuriousEdge_kept {z : Spine} {s : State} (h : Kept z s.spine)  :
    Kept z (State.spuriousEdge s).spine := by
  unfold State.spuriousEdge
  repeat' (first
      | intro _ | with_reducible exact h | with_reducible assumption | with_reducible apply State.bumpLive_kept
      | with_reducible apply State.raise_kept | with_reducible apply kept_ite | with_reducible apply kept_foldl
      | with_reducible apply kept_foldl_fst | simp only [spine_mk, spine_fold] | split)

theorem State.startSpanEnd_kept {z : Spine} {s : State} (h : Kept z s.spine)  :
    Kept z (State.startSpanEnd s).spine := by
  unfold State.startSpanEnd
  repeat' (first
      | intro _ | with_reducible exact h | with_reducible assumption | with_reducible apply kept_ite
      | with_reducible apply kept_foldl | with_reducible apply kept_foldl_fst | simp only [spine_mk, spine_fold] | split)

theorem State.stepStart_kept {z : Spine} {s : State} (h : Kept z s.spine)  :
    Kept z (State.stepStart s).spine := by
  unfold State.stepStart
  repeat' (first
      | intro _ | with_reducible exact h | with_reducible assumption | with_reducible apply State.railSlot_kept
      | with_reducible apply State.postOnSlot_kept | with_reducible apply State.showAnchor_kept | with_reducible apply kept_ite
      | with_reducible apply kept_foldl | with_reducible apply kept_foldl_fst | simp only [spine_mk, spine_fold] | split)

theorem State.stipFail_kept {z : Spine} {s : State} (h : Kept z s.spine) (n : Nat) (reason : Nat) :
    Kept z (State.stipFail s n reason).spine := by
  unfold State.stipFail
  repeat' (first
      | intro _ | with_reducible exact h | with_reducible assumption | with_reducible apply State.stipWithdraw_kept
      | with_reducible apply State.stipEnd_kept | with_reducible apply kept_ite | with_reducible apply kept_foldl
      | with_reducible apply kept_foldl_fst | simp only [spine_mk, spine_fold] | split)

theorem State.stipScheduled_kept {z : Spine} {s : State} (h : Kept z s.spine) (n : Nat) :
    Kept z (State.stipScheduled s n).spine := by
  unfold State.stipScheduled
  repeat' (first
      | intro _ | with_reducible exact h | with_reducible assumption | with_reducible apply State.setStip_kept
      | with_reducible apply State.postLane_kept | with_reducible apply State.stipFail_kept | with_reducible apply kept_ite
      | with_reducible apply kept_foldl | with_reducible apply kept_foldl_fst | simp only [spine_mk, spine_fold] | split)

theorem State.suppliesGood_kept {z : Spine} {s : State} (h : Kept z s.spine)  :
    Kept z (State.suppliesGood s).spine := by
  unfold State.suppliesGood
  repeat' (first
      | intro _ | with_reducible exact h | with_reducible assumption | with_reducible apply kept_ite
      | with_reducible apply kept_foldl | with_reducible apply kept_foldl_fst | simp only [spine_mk, spine_fold] | split)

theorem State.tollOffer_kept {z : Spine} {s : State} (h : Kept z s.spine) (w : BitVec 80) :
    Kept z (State.tollOffer s w).spine := by
  unfold State.tollOffer
  repeat' (first
      | intro _ | with_reducible exact h | with_reducible assumption | with_reducible apply State.setLead_kept
      | with_reducible apply State.pairTolls_kept | with_reducible apply kept_ite | with_reducible apply kept_foldl
      | with_reducible apply kept_foldl_fst | simp only [spine_mk, spine_fold] | split)

theorem State.tollRequest_kept {z : Spine} {s : State} (h : Kept z s.spine) (w : BitVec 80) :
    Kept z (State.tollRequest s w).spine := by
  unfold State.tollRequest
  repeat' (first
      | intro _ | with_reducible exact h | with_reducible assumption | with_reducible apply State.setLead_kept
      | with_reducible apply State.pairTolls_kept | with_reducible apply kept_ite | with_reducible apply kept_foldl
      | with_reducible apply kept_foldl_fst | simp only [spine_mk, spine_fold] | split)

theorem State.transaction_kept {z : Spine} {s : State} (h : Kept z s.spine) (p : Nat) :
    Kept z (State.transaction s p).spine := by
  unfold State.transaction
  repeat' (first
      | intro _ | with_reducible exact h | with_reducible assumption | with_reducible apply State.serve_kept
      | with_reducible apply State.malformed_kept | with_reducible apply State.wake_kept | with_reducible apply kept_ite
      | with_reducible apply kept_foldl | with_reducible apply kept_foldl_fst | simp only [spine_mk, spine_fold] | split)

theorem State.trialTimeEnd_kept {z : Spine} {s : State} (h : Kept z s.spine)  :
    Kept z (State.trialTimeEnd s).spine := by
  unfold State.trialTimeEnd
  repeat' (first
      | intro _ | with_reducible exact h | with_reducible assumption | with_reducible apply State.trialFail_kept
      | with_reducible apply kept_ite | with_reducible apply kept_foldl | with_reducible apply kept_foldl_fst
      | simp only [spine_mk, spine_fold] | split)

theorem State.tripRunReset_kept {z : Spine} {s : State} (h : Kept z s.spine) (f : Nat) :
    Kept z (State.tripRunReset s f).spine := by
  unfold State.tripRunReset
  repeat' (first
      | intro _ | with_reducible exact h | with_reducible assumption | with_reducible apply State.setPers_kept
      | with_reducible apply State.setFeed_kept | with_reducible apply kept_ite | with_reducible apply kept_foldl
      | with_reducible apply kept_foldl_fst | simp only [spine_mk, spine_fold] | split)

theorem State.vauxReturn_kept {z : Spine} {s : State} (h : Kept z s.spine)  :
    Kept z (State.vauxReturn s).spine := by
  unfold State.vauxReturn
  repeat' (first
      | intro _ | with_reducible exact h | with_reducible assumption | with_reducible apply kept_ite
      | with_reducible apply kept_foldl | with_reducible apply kept_foldl_fst | simp only [spine_mk, spine_fold] | split)

theorem State.vauxBack_kept {z : Spine} {s : State} (h : Kept z s.spine)  :
    Kept z (State.vauxBack s).spine := by
  unfold State.vauxBack
  repeat' (first
      | intro _ | with_reducible exact h | with_reducible assumption | with_reducible apply State.goOff_kept
      | with_reducible apply State.vauxReturn_kept | with_reducible apply kept_ite | with_reducible apply kept_foldl
      | with_reducible apply kept_foldl_fst | simp only [spine_mk, spine_fold] | split)

theorem State.verifyDone_kept {z : Spine} {s : State} (h : Kept z s.spine)  :
    Kept z (State.verifyDone s).spine := by
  unfold State.verifyDone
  repeat' (first
      | intro _ | with_reducible exact h | with_reducible assumption | with_reducible apply State.updFail_kept
      | with_reducible apply State.setUpd_kept | with_reducible apply kept_ite | with_reducible apply kept_foldl
      | with_reducible apply kept_foldl_fst | simp only [spine_mk, spine_fold] | split)

theorem State.vioLoss_kept {z : Spine} {s : State} (h : Kept z s.spine)  :
    Kept z (State.vioLoss s).spine := by
  unfold State.vioLoss
  repeat' (first
      | intro _ | with_reducible exact h | with_reducible assumption | with_reducible apply State.releasePins_kept
      | with_reducible apply State.setRail_kept | with_reducible apply State.goOff_kept | with_reducible apply kept_ite
      | with_reducible apply kept_foldl | with_reducible apply kept_foldl_fst | simp only [spine_mk, spine_fold] | split)

theorem State.waitMaxEnd_kept {z : Spine} {s : State} (h : Kept z s.spine) (n : Nat) :
    Kept z (State.waitMaxEnd s n).spine := by
  unfold State.waitMaxEnd
  repeat' (first
      | intro _ | with_reducible exact h | with_reducible assumption | with_reducible apply State.stipFail_kept
      | with_reducible apply kept_ite | with_reducible apply kept_foldl | with_reducible apply kept_foldl_fst
      | simp only [spine_mk, spine_fold] | split)

theorem State.wayRequestReply_kept {z : Spine} {s : State} (h : Kept z s.spine) (w : BitVec 80) :
    Kept z (State.wayRequestReply s w).spine := by
  unfold State.wayRequestReply
  repeat' (first
      | intro _ | with_reducible exact h | with_reducible assumption | with_reducible apply State.setLead_kept
      | with_reducible apply kept_ite | with_reducible apply kept_foldl | with_reducible apply kept_foldl_fst
      | simp only [spine_mk, spine_fold] | split)

theorem State.writeObj_kept {z : Spine} {s : State} (h : Kept z s.spine) (p : Nat) (key : Nat) (v : Nat) :
    Kept z (State.writeObj s p key v).spine := by
  unfold State.writeObj
  repeat' (first
      | intro _ | with_reducible exact h | with_reducible assumption | with_reducible apply State.direct_kept
      | with_reducible apply kept_ite | with_reducible apply kept_foldl | with_reducible apply kept_foldl_fst
      | simp only [spine_mk, spine_fold] | split)

theorem State.writeRequest_kept {z : Spine} {s : State} (h : Kept z s.spine) (p : Nat) (bs : List Byte) :
    Kept z (State.writeRequest s p bs).spine := by
  unfold State.writeRequest
  repeat' (first
      | intro _ | with_reducible exact h | with_reducible assumption | with_reducible apply State.discard_kept
      | with_reducible apply State.accept_kept | with_reducible apply kept_ite | with_reducible apply kept_foldl
      | with_reducible apply kept_foldl_fst | simp only [spine_mk, spine_fold] | split)

theorem State.xferClose_kept {z : Spine} {s0 : State} (h : Kept z s0.spine)  :
    Kept z (State.xferClose s0).spine := by
  unfold State.xferClose
  repeat' (first
      | intro _ | with_reducible exact h | with_reducible assumption | with_reducible apply State.closeMsg_kept
      | with_reducible apply State.bump_kept | with_reducible apply State.setPers_kept | with_reducible apply kept_ite
      | with_reducible apply kept_foldl | with_reducible apply kept_foldl_fst | simp only [spine_mk, spine_fold] | split)

theorem State.xferDeliver_kept {z : Spine} {s0 : State} (h : Kept z s0.spine)  :
    Kept z (State.xferDeliver s0).spine := by
  unfold State.xferDeliver
  repeat' (first
      | intro _ | with_reducible exact h | with_reducible assumption | with_reducible apply State.closeMsg_kept
      | with_reducible apply State.setLive_kept | with_reducible apply State.bump_kept | with_reducible apply State.setPers_kept
      | with_reducible apply kept_ite | with_reducible apply kept_foldl | with_reducible apply kept_foldl_fst
      | simp only [spine_mk, spine_fold] | split)

theorem State.xferPropose_kept {z : Spine} {s0 : State} (h : Kept z s0.spine)  :
    Kept z (State.xferPropose s0).spine := by
  unfold State.xferPropose
  repeat' (first
      | intro _ | with_reducible exact h | with_reducible assumption | with_reducible apply State.closeMsg_kept
      | with_reducible apply State.setLive_kept | with_reducible apply State.setPers_kept | with_reducible apply kept_ite
      | with_reducible apply kept_foldl | with_reducible apply kept_foldl_fst | simp only [spine_mk, spine_fold] | split)

theorem State.xferReceived_kept {z : Spine} {s : State} (h : Kept z s.spine) (w : BitVec 80) :
    Kept z (State.xferReceived s w).spine := by
  unfold State.xferReceived
  repeat' (first
      | intro _ | with_reducible exact h | with_reducible assumption | with_reducible apply State.setLead_kept
      | with_reducible apply kept_ite | with_reducible apply kept_foldl | with_reducible apply kept_foldl_fst
      | simp only [spine_mk, spine_fold] | split)

theorem State.xferResend_kept {z : Spine} {s : State} (h : Kept z s.spine)  :
    Kept z (State.xferResend s).spine := by
  unfold State.xferResend
  repeat' (first
      | intro _ | with_reducible exact h | with_reducible assumption | with_reducible apply kept_ite
      | with_reducible apply kept_foldl | with_reducible apply kept_foldl_fst | simp only [spine_mk, spine_fold] | split)

theorem State.xferSent_kept {z : Spine} {s : State} (h : Kept z s.spine) (w : BitVec 80) :
    Kept z (State.xferSent s w).spine := by
  unfold State.xferSent
  repeat' (first
      | intro _ | with_reducible exact h | with_reducible assumption | with_reducible apply State.setLead_kept
      | with_reducible apply kept_ite | with_reducible apply kept_foldl | with_reducible apply kept_foldl_fst
      | simp only [spine_mk, spine_fold] | split)

end Sys2Proof.Machine
end

