-- ==== Sys2Proof/Laws/State.lean ====
section
/-! SUPPORT. What each update of a state leaves alone: one lemma per update and field, and per update and reader. -/

namespace Sys2Proof.Machine

variable (s : State)

/-! ### setLive -/

@[simp] theorem State.setLive_pending (key : Nat) (v : Nat) : (s.setLive key v).pending = s.pending := by rfl
@[simp] theorem State.setLive_phase (key : Nat) (v : Nat) : (s.setLive key v).phase = s.phase := by rfl
@[simp] theorem State.setLive_fab (key : Nat) (v : Nat) : (s.setLive key v).fab = s.fab := by rfl
@[simp] theorem State.setLive_mem (key : Nat) (v : Nat) : (s.setLive key v).mem = s.mem := by rfl
@[simp] theorem State.setLive_lanes (key : Nat) (v : Nat) : (s.setLive key v).lanes = s.lanes := by rfl
@[simp] theorem State.setLive_coll (key : Nat) (v : Nat) : (s.setLive key v).coll = s.coll := by rfl
@[simp] theorem State.setLive_ledger (key : Nat) (v : Nat) : (s.setLive key v).ledger = s.ledger := by rfl
@[simp] theorem State.setLive_store (key : Nat) (v : Nat) : (s.setLive key v).store = s.store := by rfl
@[simp] theorem State.setLive_cores (key : Nat) (v : Nat) : (s.setLive key v).cores = s.cores := by rfl
@[simp] theorem State.setLive_conv (key : Nat) (v : Nat) : (s.setLive key v).conv = s.conv := by rfl
@[simp] theorem State.setLive_cap (key : Nat) (v : Nat) : (s.setLive key v).cap = s.cap := by rfl
@[simp] theorem State.setLive_ring (key : Nat) (v : Nat) : (s.setLive key v).ring = s.ring := by rfl
@[simp] theorem State.setLive_activeArea (key : Nat) (v : Nat) : (s.setLive key v).activeArea = s.activeArea := by rfl
@[simp] theorem State.setLive_otherArea (key : Nat) (v : Nat) : (s.setLive key v).otherArea = s.otherArea := by rfl
@[simp] theorem State.setLive_input (key : Nat) (v : Nat) : (s.setLive key v).input = s.input := by rfl
@[simp] theorem State.setLive_rails (key : Nat) (v : Nat) : (s.setLive key v).rails = s.rails := by rfl
@[simp] theorem State.setLive_seq (key : Nat) (v : Nat) : (s.setLive key v).seq = s.seq := by rfl
@[simp] theorem State.setLive_pmb (key : Nat) (v : Nat) : (s.setLive key v).pmb = s.pmb := by rfl
@[simp] theorem State.setLive_railWins (key : Nat) (v : Nat) : (s.setLive key v).railWins = s.railWins := by rfl
@[simp] theorem State.setLive_live (key : Nat) (v : Nat) : (s.setLive key v).live = s.live := by rfl
@[simp] theorem State.setLive_margins (key : Nat) (v : Nat) : (s.setLive key v).margins = s.margins := by rfl
@[simp] theorem State.setLive_stips (key : Nat) (v : Nat) : (s.setLive key v).stips = s.stips := by rfl
@[simp] theorem State.setLive_sinks (key : Nat) (v : Nat) : (s.setLive key v).sinks = s.sinks := by rfl
@[simp] theorem State.setLive_gov (key : Nat) (v : Nat) : (s.setLive key v).gov = s.gov := by rfl
@[simp] theorem State.setLive_feeds (key : Nat) (v : Nat) : (s.setLive key v).feeds = s.feeds := by rfl
@[simp] theorem State.setLive_convoy (key : Nat) (v : Nat) : (s.setLive key v).convoy = s.convoy := by rfl
@[simp] theorem State.setLive_loader (key : Nat) (v : Nat) : (s.setLive key v).loader = s.loader := by rfl
@[simp] theorem State.setLive_upd (key : Nat) (v : Nat) : (s.setLive key v).upd = s.upd := by rfl
@[simp] theorem State.setLive_hosts (key : Nat) (v : Nat) : (s.setLive key v).hosts = s.hosts := by rfl
@[simp] theorem State.setLive_power (key : Nat) (v : Nat) : (s.setLive key v).power = s.power := by rfl
@[simp] theorem State.setLive_dwellFrom (key : Nat) (v : Nat) : (s.setLive key v).dwellFrom = s.dwellFrom := by rfl
@[simp] theorem State.setLive_supplies (key : Nat) (v : Nat) : (s.setLive key v).supplies = s.supplies := by rfl
@[simp] theorem State.setLive_vioClass (key : Nat) (v : Nat) : (s.setLive key v).vioClass = s.vioClass := by rfl
@[simp] theorem State.setLive_startClk (key : Nat) (v : Nat) : (s.setLive key v).startClk = s.startClk := by rfl
@[simp] theorem State.setLive_resetCause (key : Nat) (v : Nat) : (s.setLive key v).resetCause = s.resetCause := by rfl
@[simp] theorem State.setLive_filterClk (key : Nat) (v : Nat) : (s.setLive key v).filterClk = s.filterClk := by rfl
@[simp] theorem State.setLive_frozen (key : Nat) (v : Nat) : (s.setLive key v).frozen = s.frozen := by rfl
@[simp] theorem State.setLive_freezeLow (key : Nat) (v : Nat) : (s.setLive key v).freezeLow = s.freezeLow := by rfl
@[simp] theorem State.setLive_frz (key : Nat) (v : Nat) : (s.setLive key v).frz = s.frz := by rfl
@[simp] theorem State.setLive_ticked (key : Nat) (v : Nat) : (s.setLive key v).ticked = s.ticked := by rfl
@[simp] theorem State.setLive_rail (key : Nat) (v : Nat) (k : Nat) : (s.setLive key v).rail k = s.rail k := by rfl
@[simp] theorem State.setLive_sink (key : Nat) (v : Nat) (k : Nat) : (s.setLive key v).sink k = s.sink k := by rfl
@[simp] theorem State.setLive_feed (key : Nat) (v : Nat) (k : Nat) : (s.setLive key v).feed k = s.feed k := by rfl
@[simp] theorem State.setLive_port (key : Nat) (v : Nat) (k : Nat) : (s.setLive key v).port k = s.port k := by rfl
@[simp] theorem State.setLive_margin (key : Nat) (v : Nat) (k : Nat) : (s.setLive key v).margin k = s.margin k := by rfl
@[simp] theorem State.setLive_stip (key : Nat) (v : Nat) (k : Nat) : (s.setLive key v).stip k = s.stip k := by rfl
@[simp] theorem State.setLive_slice (key : Nat) (v : Nat) (k : Nat) : (s.setLive key v).slice k = s.slice k := by rfl
@[simp] theorem State.setLive_liveOf (key : Nat) (v : Nat) (k : Nat) : (s.setLive key v).liveOf k = s.liveOf k := by rfl
@[simp] theorem State.setLive_offset (key : Nat) (v : Nat) : (s.setLive key v).offset = s.offset := by rfl
@[simp] theorem State.setLive_now (key : Nat) (v : Nat) : (s.setLive key v).now = s.now := by rfl
@[simp] theorem State.setLive_serving (key : Nat) (v : Nat) : (s.setLive key v).serving = s.serving := by rfl
@[simp] theorem State.setLive_clocked (key : Nat) (v : Nat) : (s.setLive key v).clocked = s.clocked := by rfl
@[simp] theorem State.setLive_coresUp (key : Nat) (v : Nat) : (s.setLive key v).coresUp = s.coresUp := by rfl

/-! ### setPers -/

@[simp] theorem State.setPers_pending (key : Nat) (v : Nat) : (s.setPers key v).pending = s.pending := by rfl
@[simp] theorem State.setPers_phase (key : Nat) (v : Nat) : (s.setPers key v).phase = s.phase := by rfl
@[simp] theorem State.setPers_fab (key : Nat) (v : Nat) : (s.setPers key v).fab = s.fab := by rfl
@[simp] theorem State.setPers_mem (key : Nat) (v : Nat) : (s.setPers key v).mem = s.mem := by rfl
@[simp] theorem State.setPers_lanes (key : Nat) (v : Nat) : (s.setPers key v).lanes = s.lanes := by rfl
@[simp] theorem State.setPers_coll (key : Nat) (v : Nat) : (s.setPers key v).coll = s.coll := by rfl
@[simp] theorem State.setPers_ledger (key : Nat) (v : Nat) : (s.setPers key v).ledger = s.ledger := by rfl
@[simp] theorem State.setPers_cores (key : Nat) (v : Nat) : (s.setPers key v).cores = s.cores := by rfl
@[simp] theorem State.setPers_conv (key : Nat) (v : Nat) : (s.setPers key v).conv = s.conv := by rfl
@[simp] theorem State.setPers_cap (key : Nat) (v : Nat) : (s.setPers key v).cap = s.cap := by rfl
@[simp] theorem State.setPers_ring (key : Nat) (v : Nat) : (s.setPers key v).ring = s.ring := by rfl
@[simp] theorem State.setPers_activeArea (key : Nat) (v : Nat) : (s.setPers key v).activeArea = s.activeArea := by rfl
@[simp] theorem State.setPers_otherArea (key : Nat) (v : Nat) : (s.setPers key v).otherArea = s.otherArea := by rfl
@[simp] theorem State.setPers_input (key : Nat) (v : Nat) : (s.setPers key v).input = s.input := by rfl
@[simp] theorem State.setPers_rails (key : Nat) (v : Nat) : (s.setPers key v).rails = s.rails := by rfl
@[simp] theorem State.setPers_seq (key : Nat) (v : Nat) : (s.setPers key v).seq = s.seq := by rfl
@[simp] theorem State.setPers_pmb (key : Nat) (v : Nat) : (s.setPers key v).pmb = s.pmb := by rfl
@[simp] theorem State.setPers_railWins (key : Nat) (v : Nat) : (s.setPers key v).railWins = s.railWins := by rfl
@[simp] theorem State.setPers_live (key : Nat) (v : Nat) : (s.setPers key v).live = s.live := by rfl
@[simp] theorem State.setPers_margins (key : Nat) (v : Nat) : (s.setPers key v).margins = s.margins := by rfl
@[simp] theorem State.setPers_stips (key : Nat) (v : Nat) : (s.setPers key v).stips = s.stips := by rfl
@[simp] theorem State.setPers_sinks (key : Nat) (v : Nat) : (s.setPers key v).sinks = s.sinks := by rfl
@[simp] theorem State.setPers_gov (key : Nat) (v : Nat) : (s.setPers key v).gov = s.gov := by rfl
@[simp] theorem State.setPers_feeds (key : Nat) (v : Nat) : (s.setPers key v).feeds = s.feeds := by rfl
@[simp] theorem State.setPers_convoy (key : Nat) (v : Nat) : (s.setPers key v).convoy = s.convoy := by rfl
@[simp] theorem State.setPers_loader (key : Nat) (v : Nat) : (s.setPers key v).loader = s.loader := by rfl
@[simp] theorem State.setPers_upd (key : Nat) (v : Nat) : (s.setPers key v).upd = s.upd := by rfl
@[simp] theorem State.setPers_hosts (key : Nat) (v : Nat) : (s.setPers key v).hosts = s.hosts := by rfl
@[simp] theorem State.setPers_power (key : Nat) (v : Nat) : (s.setPers key v).power = s.power := by rfl
@[simp] theorem State.setPers_dwellFrom (key : Nat) (v : Nat) : (s.setPers key v).dwellFrom = s.dwellFrom := by rfl
@[simp] theorem State.setPers_supplies (key : Nat) (v : Nat) : (s.setPers key v).supplies = s.supplies := by rfl
@[simp] theorem State.setPers_vioClass (key : Nat) (v : Nat) : (s.setPers key v).vioClass = s.vioClass := by rfl
@[simp] theorem State.setPers_startClk (key : Nat) (v : Nat) : (s.setPers key v).startClk = s.startClk := by rfl
@[simp] theorem State.setPers_resetCause (key : Nat) (v : Nat) : (s.setPers key v).resetCause = s.resetCause := by rfl
@[simp] theorem State.setPers_filterClk (key : Nat) (v : Nat) : (s.setPers key v).filterClk = s.filterClk := by rfl
@[simp] theorem State.setPers_frozen (key : Nat) (v : Nat) : (s.setPers key v).frozen = s.frozen := by rfl
@[simp] theorem State.setPers_freezeLow (key : Nat) (v : Nat) : (s.setPers key v).freezeLow = s.freezeLow := by rfl
@[simp] theorem State.setPers_frz (key : Nat) (v : Nat) : (s.setPers key v).frz = s.frz := by rfl
@[simp] theorem State.setPers_ticked (key : Nat) (v : Nat) : (s.setPers key v).ticked = s.ticked := by rfl
@[simp] theorem State.setPers_rail (key : Nat) (v : Nat) (k : Nat) : (s.setPers key v).rail k = s.rail k := by rfl
@[simp] theorem State.setPers_sink (key : Nat) (v : Nat) (k : Nat) : (s.setPers key v).sink k = s.sink k := by rfl
@[simp] theorem State.setPers_feed (key : Nat) (v : Nat) (k : Nat) : (s.setPers key v).feed k = s.feed k := by rfl
@[simp] theorem State.setPers_port (key : Nat) (v : Nat) (k : Nat) : (s.setPers key v).port k = s.port k := by rfl
@[simp] theorem State.setPers_margin (key : Nat) (v : Nat) (k : Nat) : (s.setPers key v).margin k = s.margin k := by rfl
@[simp] theorem State.setPers_stip (key : Nat) (v : Nat) (k : Nat) : (s.setPers key v).stip k = s.stip k := by rfl
@[simp] theorem State.setPers_slice (key : Nat) (v : Nat) (k : Nat) : (s.setPers key v).slice k = s.slice k := by rfl
@[simp] theorem State.setPers_liveOf (key : Nat) (v : Nat) (k : Nat) : (s.setPers key v).liveOf k = s.liveOf k := by rfl
@[simp] theorem State.setPers_offset (key : Nat) (v : Nat) : (s.setPers key v).offset = s.offset := by rfl
@[simp] theorem State.setPers_now (key : Nat) (v : Nat) : (s.setPers key v).now = s.now := by rfl
@[simp] theorem State.setPers_serving (key : Nat) (v : Nat) : (s.setPers key v).serving = s.serving := by rfl
@[simp] theorem State.setPers_clocked (key : Nat) (v : Nat) : (s.setPers key v).clocked = s.clocked := by rfl
@[simp] theorem State.setPers_coresUp (key : Nat) (v : Nat) : (s.setPers key v).coresUp = s.coresUp := by rfl

/-! ### bump -/

@[simp] theorem State.bump_pending (key : Nat) : (s.bump key).pending = s.pending := by rfl
@[simp] theorem State.bump_phase (key : Nat) : (s.bump key).phase = s.phase := by rfl
@[simp] theorem State.bump_fab (key : Nat) : (s.bump key).fab = s.fab := by rfl
@[simp] theorem State.bump_mem (key : Nat) : (s.bump key).mem = s.mem := by rfl
@[simp] theorem State.bump_lanes (key : Nat) : (s.bump key).lanes = s.lanes := by rfl
@[simp] theorem State.bump_coll (key : Nat) : (s.bump key).coll = s.coll := by rfl
@[simp] theorem State.bump_ledger (key : Nat) : (s.bump key).ledger = s.ledger := by rfl
@[simp] theorem State.bump_cores (key : Nat) : (s.bump key).cores = s.cores := by rfl
@[simp] theorem State.bump_conv (key : Nat) : (s.bump key).conv = s.conv := by rfl
@[simp] theorem State.bump_cap (key : Nat) : (s.bump key).cap = s.cap := by rfl
@[simp] theorem State.bump_ring (key : Nat) : (s.bump key).ring = s.ring := by rfl
@[simp] theorem State.bump_activeArea (key : Nat) : (s.bump key).activeArea = s.activeArea := by rfl
@[simp] theorem State.bump_otherArea (key : Nat) : (s.bump key).otherArea = s.otherArea := by rfl
@[simp] theorem State.bump_input (key : Nat) : (s.bump key).input = s.input := by rfl
@[simp] theorem State.bump_rails (key : Nat) : (s.bump key).rails = s.rails := by rfl
@[simp] theorem State.bump_seq (key : Nat) : (s.bump key).seq = s.seq := by rfl
@[simp] theorem State.bump_pmb (key : Nat) : (s.bump key).pmb = s.pmb := by rfl
@[simp] theorem State.bump_railWins (key : Nat) : (s.bump key).railWins = s.railWins := by rfl
@[simp] theorem State.bump_live (key : Nat) : (s.bump key).live = s.live := by rfl
@[simp] theorem State.bump_margins (key : Nat) : (s.bump key).margins = s.margins := by rfl
@[simp] theorem State.bump_stips (key : Nat) : (s.bump key).stips = s.stips := by rfl
@[simp] theorem State.bump_sinks (key : Nat) : (s.bump key).sinks = s.sinks := by rfl
@[simp] theorem State.bump_gov (key : Nat) : (s.bump key).gov = s.gov := by rfl
@[simp] theorem State.bump_feeds (key : Nat) : (s.bump key).feeds = s.feeds := by rfl
@[simp] theorem State.bump_convoy (key : Nat) : (s.bump key).convoy = s.convoy := by rfl
@[simp] theorem State.bump_loader (key : Nat) : (s.bump key).loader = s.loader := by rfl
@[simp] theorem State.bump_upd (key : Nat) : (s.bump key).upd = s.upd := by rfl
@[simp] theorem State.bump_hosts (key : Nat) : (s.bump key).hosts = s.hosts := by rfl
@[simp] theorem State.bump_power (key : Nat) : (s.bump key).power = s.power := by rfl
@[simp] theorem State.bump_dwellFrom (key : Nat) : (s.bump key).dwellFrom = s.dwellFrom := by rfl
@[simp] theorem State.bump_supplies (key : Nat) : (s.bump key).supplies = s.supplies := by rfl
@[simp] theorem State.bump_vioClass (key : Nat) : (s.bump key).vioClass = s.vioClass := by rfl
@[simp] theorem State.bump_startClk (key : Nat) : (s.bump key).startClk = s.startClk := by rfl
@[simp] theorem State.bump_resetCause (key : Nat) : (s.bump key).resetCause = s.resetCause := by rfl
@[simp] theorem State.bump_filterClk (key : Nat) : (s.bump key).filterClk = s.filterClk := by rfl
@[simp] theorem State.bump_frozen (key : Nat) : (s.bump key).frozen = s.frozen := by rfl
@[simp] theorem State.bump_freezeLow (key : Nat) : (s.bump key).freezeLow = s.freezeLow := by rfl
@[simp] theorem State.bump_frz (key : Nat) : (s.bump key).frz = s.frz := by rfl
@[simp] theorem State.bump_ticked (key : Nat) : (s.bump key).ticked = s.ticked := by rfl
@[simp] theorem State.bump_rail (key : Nat) (k : Nat) : (s.bump key).rail k = s.rail k := by rfl
@[simp] theorem State.bump_sink (key : Nat) (k : Nat) : (s.bump key).sink k = s.sink k := by rfl
@[simp] theorem State.bump_feed (key : Nat) (k : Nat) : (s.bump key).feed k = s.feed k := by rfl
@[simp] theorem State.bump_port (key : Nat) (k : Nat) : (s.bump key).port k = s.port k := by rfl
@[simp] theorem State.bump_margin (key : Nat) (k : Nat) : (s.bump key).margin k = s.margin k := by rfl
@[simp] theorem State.bump_stip (key : Nat) (k : Nat) : (s.bump key).stip k = s.stip k := by rfl
@[simp] theorem State.bump_slice (key : Nat) (k : Nat) : (s.bump key).slice k = s.slice k := by rfl
@[simp] theorem State.bump_liveOf (key : Nat) (k : Nat) : (s.bump key).liveOf k = s.liveOf k := by rfl
@[simp] theorem State.bump_offset (key : Nat) : (s.bump key).offset = s.offset := by rfl
@[simp] theorem State.bump_now (key : Nat) : (s.bump key).now = s.now := by rfl
@[simp] theorem State.bump_serving (key : Nat) : (s.bump key).serving = s.serving := by rfl
@[simp] theorem State.bump_clocked (key : Nat) : (s.bump key).clocked = s.clocked := by rfl
@[simp] theorem State.bump_coresUp (key : Nat) : (s.bump key).coresUp = s.coresUp := by rfl

/-! ### bumpLive -/

@[simp] theorem State.bumpLive_pending (key : Nat) : (s.bumpLive key).pending = s.pending := by rfl
@[simp] theorem State.bumpLive_phase (key : Nat) : (s.bumpLive key).phase = s.phase := by rfl
@[simp] theorem State.bumpLive_fab (key : Nat) : (s.bumpLive key).fab = s.fab := by rfl
@[simp] theorem State.bumpLive_mem (key : Nat) : (s.bumpLive key).mem = s.mem := by rfl
@[simp] theorem State.bumpLive_lanes (key : Nat) : (s.bumpLive key).lanes = s.lanes := by rfl
@[simp] theorem State.bumpLive_coll (key : Nat) : (s.bumpLive key).coll = s.coll := by rfl
@[simp] theorem State.bumpLive_ledger (key : Nat) : (s.bumpLive key).ledger = s.ledger := by rfl
@[simp] theorem State.bumpLive_store (key : Nat) : (s.bumpLive key).store = s.store := by rfl
@[simp] theorem State.bumpLive_cores (key : Nat) : (s.bumpLive key).cores = s.cores := by rfl
@[simp] theorem State.bumpLive_conv (key : Nat) : (s.bumpLive key).conv = s.conv := by rfl
@[simp] theorem State.bumpLive_cap (key : Nat) : (s.bumpLive key).cap = s.cap := by rfl
@[simp] theorem State.bumpLive_ring (key : Nat) : (s.bumpLive key).ring = s.ring := by rfl
@[simp] theorem State.bumpLive_activeArea (key : Nat) : (s.bumpLive key).activeArea = s.activeArea := by rfl
@[simp] theorem State.bumpLive_otherArea (key : Nat) : (s.bumpLive key).otherArea = s.otherArea := by rfl
@[simp] theorem State.bumpLive_input (key : Nat) : (s.bumpLive key).input = s.input := by rfl
@[simp] theorem State.bumpLive_rails (key : Nat) : (s.bumpLive key).rails = s.rails := by rfl
@[simp] theorem State.bumpLive_seq (key : Nat) : (s.bumpLive key).seq = s.seq := by rfl
@[simp] theorem State.bumpLive_pmb (key : Nat) : (s.bumpLive key).pmb = s.pmb := by rfl
@[simp] theorem State.bumpLive_railWins (key : Nat) : (s.bumpLive key).railWins = s.railWins := by rfl
@[simp] theorem State.bumpLive_live (key : Nat) : (s.bumpLive key).live = s.live := by rfl
@[simp] theorem State.bumpLive_margins (key : Nat) : (s.bumpLive key).margins = s.margins := by rfl
@[simp] theorem State.bumpLive_stips (key : Nat) : (s.bumpLive key).stips = s.stips := by rfl
@[simp] theorem State.bumpLive_sinks (key : Nat) : (s.bumpLive key).sinks = s.sinks := by rfl
@[simp] theorem State.bumpLive_gov (key : Nat) : (s.bumpLive key).gov = s.gov := by rfl
@[simp] theorem State.bumpLive_feeds (key : Nat) : (s.bumpLive key).feeds = s.feeds := by rfl
@[simp] theorem State.bumpLive_convoy (key : Nat) : (s.bumpLive key).convoy = s.convoy := by rfl
@[simp] theorem State.bumpLive_loader (key : Nat) : (s.bumpLive key).loader = s.loader := by rfl
@[simp] theorem State.bumpLive_upd (key : Nat) : (s.bumpLive key).upd = s.upd := by rfl
@[simp] theorem State.bumpLive_hosts (key : Nat) : (s.bumpLive key).hosts = s.hosts := by rfl
@[simp] theorem State.bumpLive_power (key : Nat) : (s.bumpLive key).power = s.power := by rfl
@[simp] theorem State.bumpLive_dwellFrom (key : Nat) : (s.bumpLive key).dwellFrom = s.dwellFrom := by rfl
@[simp] theorem State.bumpLive_supplies (key : Nat) : (s.bumpLive key).supplies = s.supplies := by rfl
@[simp] theorem State.bumpLive_vioClass (key : Nat) : (s.bumpLive key).vioClass = s.vioClass := by rfl
@[simp] theorem State.bumpLive_startClk (key : Nat) : (s.bumpLive key).startClk = s.startClk := by rfl
@[simp] theorem State.bumpLive_resetCause (key : Nat) : (s.bumpLive key).resetCause = s.resetCause := by rfl
@[simp] theorem State.bumpLive_filterClk (key : Nat) : (s.bumpLive key).filterClk = s.filterClk := by rfl
@[simp] theorem State.bumpLive_frozen (key : Nat) : (s.bumpLive key).frozen = s.frozen := by rfl
@[simp] theorem State.bumpLive_freezeLow (key : Nat) : (s.bumpLive key).freezeLow = s.freezeLow := by rfl
@[simp] theorem State.bumpLive_frz (key : Nat) : (s.bumpLive key).frz = s.frz := by rfl
@[simp] theorem State.bumpLive_ticked (key : Nat) : (s.bumpLive key).ticked = s.ticked := by rfl
@[simp] theorem State.bumpLive_rail (key : Nat) (k : Nat) : (s.bumpLive key).rail k = s.rail k := by rfl
@[simp] theorem State.bumpLive_sink (key : Nat) (k : Nat) : (s.bumpLive key).sink k = s.sink k := by rfl
@[simp] theorem State.bumpLive_feed (key : Nat) (k : Nat) : (s.bumpLive key).feed k = s.feed k := by rfl
@[simp] theorem State.bumpLive_port (key : Nat) (k : Nat) : (s.bumpLive key).port k = s.port k := by rfl
@[simp] theorem State.bumpLive_margin (key : Nat) (k : Nat) : (s.bumpLive key).margin k = s.margin k := by rfl
@[simp] theorem State.bumpLive_stip (key : Nat) (k : Nat) : (s.bumpLive key).stip k = s.stip k := by rfl
@[simp] theorem State.bumpLive_slice (key : Nat) (k : Nat) : (s.bumpLive key).slice k = s.slice k := by rfl
@[simp] theorem State.bumpLive_liveOf (key : Nat) (k : Nat) : (s.bumpLive key).liveOf k = s.liveOf k := by rfl
@[simp] theorem State.bumpLive_offset (key : Nat) : (s.bumpLive key).offset = s.offset := by rfl
@[simp] theorem State.bumpLive_now (key : Nat) : (s.bumpLive key).now = s.now := by rfl
@[simp] theorem State.bumpLive_serving (key : Nat) : (s.bumpLive key).serving = s.serving := by rfl
@[simp] theorem State.bumpLive_clocked (key : Nat) : (s.bumpLive key).clocked = s.clocked := by rfl
@[simp] theorem State.bumpLive_coresUp (key : Nat) : (s.bumpLive key).coresUp = s.coresUp := by rfl

/-! ### setRail -/

@[simp] theorem State.setRail_pending (n : Nat) (r : Rail) : (s.setRail n r).pending = s.pending := by rfl
@[simp] theorem State.setRail_phase (n : Nat) (r : Rail) : (s.setRail n r).phase = s.phase := by rfl
@[simp] theorem State.setRail_fab (n : Nat) (r : Rail) : (s.setRail n r).fab = s.fab := by rfl
@[simp] theorem State.setRail_objs (n : Nat) (r : Rail) : (s.setRail n r).objs = s.objs := by rfl
@[simp] theorem State.setRail_mem (n : Nat) (r : Rail) : (s.setRail n r).mem = s.mem := by rfl
@[simp] theorem State.setRail_lanes (n : Nat) (r : Rail) : (s.setRail n r).lanes = s.lanes := by rfl
@[simp] theorem State.setRail_coll (n : Nat) (r : Rail) : (s.setRail n r).coll = s.coll := by rfl
@[simp] theorem State.setRail_ledger (n : Nat) (r : Rail) : (s.setRail n r).ledger = s.ledger := by rfl
@[simp] theorem State.setRail_store (n : Nat) (r : Rail) : (s.setRail n r).store = s.store := by rfl
@[simp] theorem State.setRail_cores (n : Nat) (r : Rail) : (s.setRail n r).cores = s.cores := by rfl
@[simp] theorem State.setRail_conv (n : Nat) (r : Rail) : (s.setRail n r).conv = s.conv := by rfl
@[simp] theorem State.setRail_cap (n : Nat) (r : Rail) : (s.setRail n r).cap = s.cap := by rfl
@[simp] theorem State.setRail_ring (n : Nat) (r : Rail) : (s.setRail n r).ring = s.ring := by rfl
@[simp] theorem State.setRail_activeArea (n : Nat) (r : Rail) : (s.setRail n r).activeArea = s.activeArea := by rfl
@[simp] theorem State.setRail_otherArea (n : Nat) (r : Rail) : (s.setRail n r).otherArea = s.otherArea := by rfl
@[simp] theorem State.setRail_input (n : Nat) (r : Rail) : (s.setRail n r).input = s.input := by rfl
@[simp] theorem State.setRail_seq (n : Nat) (r : Rail) : (s.setRail n r).seq = s.seq := by rfl
@[simp] theorem State.setRail_pmb (n : Nat) (r : Rail) : (s.setRail n r).pmb = s.pmb := by rfl
@[simp] theorem State.setRail_railWins (n : Nat) (r : Rail) : (s.setRail n r).railWins = s.railWins := by rfl
@[simp] theorem State.setRail_live (n : Nat) (r : Rail) : (s.setRail n r).live = s.live := by rfl
@[simp] theorem State.setRail_margins (n : Nat) (r : Rail) : (s.setRail n r).margins = s.margins := by rfl
@[simp] theorem State.setRail_stips (n : Nat) (r : Rail) : (s.setRail n r).stips = s.stips := by rfl
@[simp] theorem State.setRail_sinks (n : Nat) (r : Rail) : (s.setRail n r).sinks = s.sinks := by rfl
@[simp] theorem State.setRail_gov (n : Nat) (r : Rail) : (s.setRail n r).gov = s.gov := by rfl
@[simp] theorem State.setRail_feeds (n : Nat) (r : Rail) : (s.setRail n r).feeds = s.feeds := by rfl
@[simp] theorem State.setRail_convoy (n : Nat) (r : Rail) : (s.setRail n r).convoy = s.convoy := by rfl
@[simp] theorem State.setRail_loader (n : Nat) (r : Rail) : (s.setRail n r).loader = s.loader := by rfl
@[simp] theorem State.setRail_upd (n : Nat) (r : Rail) : (s.setRail n r).upd = s.upd := by rfl
@[simp] theorem State.setRail_hosts (n : Nat) (r : Rail) : (s.setRail n r).hosts = s.hosts := by rfl
@[simp] theorem State.setRail_power (n : Nat) (r : Rail) : (s.setRail n r).power = s.power := by rfl
@[simp] theorem State.setRail_dwellFrom (n : Nat) (r : Rail) : (s.setRail n r).dwellFrom = s.dwellFrom := by rfl
@[simp] theorem State.setRail_supplies (n : Nat) (r : Rail) : (s.setRail n r).supplies = s.supplies := by rfl
@[simp] theorem State.setRail_vioClass (n : Nat) (r : Rail) : (s.setRail n r).vioClass = s.vioClass := by rfl
@[simp] theorem State.setRail_startClk (n : Nat) (r : Rail) : (s.setRail n r).startClk = s.startClk := by rfl
@[simp] theorem State.setRail_resetCause (n : Nat) (r : Rail) : (s.setRail n r).resetCause = s.resetCause := by rfl
@[simp] theorem State.setRail_filterClk (n : Nat) (r : Rail) : (s.setRail n r).filterClk = s.filterClk := by rfl
@[simp] theorem State.setRail_frozen (n : Nat) (r : Rail) : (s.setRail n r).frozen = s.frozen := by rfl
@[simp] theorem State.setRail_freezeLow (n : Nat) (r : Rail) : (s.setRail n r).freezeLow = s.freezeLow := by rfl
@[simp] theorem State.setRail_frz (n : Nat) (r : Rail) : (s.setRail n r).frz = s.frz := by rfl
@[simp] theorem State.setRail_ticked (n : Nat) (r : Rail) : (s.setRail n r).ticked = s.ticked := by rfl
@[simp] theorem State.setRail_obj (n : Nat) (r : Rail) (k : Nat) : (s.setRail n r).obj k = s.obj k := by rfl
@[simp] theorem State.setRail_objB (n : Nat) (r : Rail) (k : Nat) : (s.setRail n r).objB k = s.objB k := by rfl
@[simp] theorem State.setRail_objI (n : Nat) (r : Rail) (k : Nat) : (s.setRail n r).objI k = s.objI k := by rfl
@[simp] theorem State.setRail_sink (n : Nat) (r : Rail) (k : Nat) : (s.setRail n r).sink k = s.sink k := by rfl
@[simp] theorem State.setRail_feed (n : Nat) (r : Rail) (k : Nat) : (s.setRail n r).feed k = s.feed k := by rfl
@[simp] theorem State.setRail_port (n : Nat) (r : Rail) (k : Nat) : (s.setRail n r).port k = s.port k := by rfl
@[simp] theorem State.setRail_margin (n : Nat) (r : Rail) (k : Nat) : (s.setRail n r).margin k = s.margin k := by rfl
@[simp] theorem State.setRail_stip (n : Nat) (r : Rail) (k : Nat) : (s.setRail n r).stip k = s.stip k := by rfl
@[simp] theorem State.setRail_slice (n : Nat) (r : Rail) (k : Nat) : (s.setRail n r).slice k = s.slice k := by rfl
@[simp] theorem State.setRail_liveOf (n : Nat) (r : Rail) (k : Nat) : (s.setRail n r).liveOf k = s.liveOf k := by rfl
@[simp] theorem State.setRail_offset (n : Nat) (r : Rail) : (s.setRail n r).offset = s.offset := by rfl
@[simp] theorem State.setRail_now (n : Nat) (r : Rail) : (s.setRail n r).now = s.now := by rfl
@[simp] theorem State.setRail_serving (n : Nat) (r : Rail) : (s.setRail n r).serving = s.serving := by rfl
@[simp] theorem State.setRail_clocked (n : Nat) (r : Rail) : (s.setRail n r).clocked = s.clocked := by rfl
@[simp] theorem State.setRail_coresUp (n : Nat) (r : Rail) : (s.setRail n r).coresUp = s.coresUp := by rfl

/-! ### setSink -/

@[simp] theorem State.setSink_pending (n : Nat) (k : Sink) : (s.setSink n k).pending = s.pending := by rfl
@[simp] theorem State.setSink_phase (n : Nat) (k : Sink) : (s.setSink n k).phase = s.phase := by rfl
@[simp] theorem State.setSink_fab (n : Nat) (k : Sink) : (s.setSink n k).fab = s.fab := by rfl
@[simp] theorem State.setSink_objs (n : Nat) (k : Sink) : (s.setSink n k).objs = s.objs := by rfl
@[simp] theorem State.setSink_mem (n : Nat) (k : Sink) : (s.setSink n k).mem = s.mem := by rfl
@[simp] theorem State.setSink_lanes (n : Nat) (k : Sink) : (s.setSink n k).lanes = s.lanes := by rfl
@[simp] theorem State.setSink_coll (n : Nat) (k : Sink) : (s.setSink n k).coll = s.coll := by rfl
@[simp] theorem State.setSink_ledger (n : Nat) (k : Sink) : (s.setSink n k).ledger = s.ledger := by rfl
@[simp] theorem State.setSink_store (n : Nat) (k : Sink) : (s.setSink n k).store = s.store := by rfl
@[simp] theorem State.setSink_cores (n : Nat) (k : Sink) : (s.setSink n k).cores = s.cores := by rfl
@[simp] theorem State.setSink_conv (n : Nat) (k : Sink) : (s.setSink n k).conv = s.conv := by rfl
@[simp] theorem State.setSink_cap (n : Nat) (k : Sink) : (s.setSink n k).cap = s.cap := by rfl
@[simp] theorem State.setSink_ring (n : Nat) (k : Sink) : (s.setSink n k).ring = s.ring := by rfl
@[simp] theorem State.setSink_activeArea (n : Nat) (k : Sink) : (s.setSink n k).activeArea = s.activeArea := by rfl
@[simp] theorem State.setSink_otherArea (n : Nat) (k : Sink) : (s.setSink n k).otherArea = s.otherArea := by rfl
@[simp] theorem State.setSink_input (n : Nat) (k : Sink) : (s.setSink n k).input = s.input := by rfl
@[simp] theorem State.setSink_rails (n : Nat) (k : Sink) : (s.setSink n k).rails = s.rails := by rfl
@[simp] theorem State.setSink_seq (n : Nat) (k : Sink) : (s.setSink n k).seq = s.seq := by rfl
@[simp] theorem State.setSink_pmb (n : Nat) (k : Sink) : (s.setSink n k).pmb = s.pmb := by rfl
@[simp] theorem State.setSink_railWins (n : Nat) (k : Sink) : (s.setSink n k).railWins = s.railWins := by rfl
@[simp] theorem State.setSink_live (n : Nat) (k : Sink) : (s.setSink n k).live = s.live := by rfl
@[simp] theorem State.setSink_margins (n : Nat) (k : Sink) : (s.setSink n k).margins = s.margins := by rfl
@[simp] theorem State.setSink_stips (n : Nat) (k : Sink) : (s.setSink n k).stips = s.stips := by rfl
@[simp] theorem State.setSink_gov (n : Nat) (k : Sink) : (s.setSink n k).gov = s.gov := by rfl
@[simp] theorem State.setSink_feeds (n : Nat) (k : Sink) : (s.setSink n k).feeds = s.feeds := by rfl
@[simp] theorem State.setSink_convoy (n : Nat) (k : Sink) : (s.setSink n k).convoy = s.convoy := by rfl
@[simp] theorem State.setSink_loader (n : Nat) (k : Sink) : (s.setSink n k).loader = s.loader := by rfl
@[simp] theorem State.setSink_upd (n : Nat) (k : Sink) : (s.setSink n k).upd = s.upd := by rfl
@[simp] theorem State.setSink_hosts (n : Nat) (k : Sink) : (s.setSink n k).hosts = s.hosts := by rfl
@[simp] theorem State.setSink_power (n : Nat) (k : Sink) : (s.setSink n k).power = s.power := by rfl
@[simp] theorem State.setSink_dwellFrom (n : Nat) (k : Sink) : (s.setSink n k).dwellFrom = s.dwellFrom := by rfl
@[simp] theorem State.setSink_supplies (n : Nat) (k : Sink) : (s.setSink n k).supplies = s.supplies := by rfl
@[simp] theorem State.setSink_vioClass (n : Nat) (k : Sink) : (s.setSink n k).vioClass = s.vioClass := by rfl
@[simp] theorem State.setSink_startClk (n : Nat) (k : Sink) : (s.setSink n k).startClk = s.startClk := by rfl
@[simp] theorem State.setSink_resetCause (n : Nat) (k : Sink) : (s.setSink n k).resetCause = s.resetCause := by rfl
@[simp] theorem State.setSink_filterClk (n : Nat) (k : Sink) : (s.setSink n k).filterClk = s.filterClk := by rfl
@[simp] theorem State.setSink_frozen (n : Nat) (k : Sink) : (s.setSink n k).frozen = s.frozen := by rfl
@[simp] theorem State.setSink_freezeLow (n : Nat) (k : Sink) : (s.setSink n k).freezeLow = s.freezeLow := by rfl
@[simp] theorem State.setSink_frz (n : Nat) (k : Sink) : (s.setSink n k).frz = s.frz := by rfl
@[simp] theorem State.setSink_ticked (n : Nat) (k : Sink) : (s.setSink n k).ticked = s.ticked := by rfl
@[simp] theorem State.setSink_obj (n : Nat) (k : Sink) (j : Nat) : (s.setSink n k).obj j = s.obj j := by rfl
@[simp] theorem State.setSink_objB (n : Nat) (k : Sink) (j : Nat) : (s.setSink n k).objB j = s.objB j := by rfl
@[simp] theorem State.setSink_objI (n : Nat) (k : Sink) (j : Nat) : (s.setSink n k).objI j = s.objI j := by rfl
@[simp] theorem State.setSink_rail (n : Nat) (k : Sink) (j : Nat) : (s.setSink n k).rail j = s.rail j := by rfl
@[simp] theorem State.setSink_feed (n : Nat) (k : Sink) (j : Nat) : (s.setSink n k).feed j = s.feed j := by rfl
@[simp] theorem State.setSink_port (n : Nat) (k : Sink) (j : Nat) : (s.setSink n k).port j = s.port j := by rfl
@[simp] theorem State.setSink_margin (n : Nat) (k : Sink) (j : Nat) : (s.setSink n k).margin j = s.margin j := by rfl
@[simp] theorem State.setSink_stip (n : Nat) (k : Sink) (j : Nat) : (s.setSink n k).stip j = s.stip j := by rfl
@[simp] theorem State.setSink_slice (n : Nat) (k : Sink) (j : Nat) : (s.setSink n k).slice j = s.slice j := by rfl
@[simp] theorem State.setSink_liveOf (n : Nat) (k : Sink) (j : Nat) : (s.setSink n k).liveOf j = s.liveOf j := by rfl
@[simp] theorem State.setSink_offset (n : Nat) (k : Sink) : (s.setSink n k).offset = s.offset := by rfl
@[simp] theorem State.setSink_now (n : Nat) (k : Sink) : (s.setSink n k).now = s.now := by rfl
@[simp] theorem State.setSink_serving (n : Nat) (k : Sink) : (s.setSink n k).serving = s.serving := by rfl
@[simp] theorem State.setSink_clocked (n : Nat) (k : Sink) : (s.setSink n k).clocked = s.clocked := by rfl
@[simp] theorem State.setSink_coresUp (n : Nat) (k : Sink) : (s.setSink n k).coresUp = s.coresUp := by rfl

/-! ### setPort -/

@[simp] theorem State.setPort_pending (p : Nat) (x : PortState) : (s.setPort p x).pending = s.pending := by rfl
@[simp] theorem State.setPort_phase (p : Nat) (x : PortState) : (s.setPort p x).phase = s.phase := by rfl
@[simp] theorem State.setPort_fab (p : Nat) (x : PortState) : (s.setPort p x).fab = s.fab := by rfl
@[simp] theorem State.setPort_objs (p : Nat) (x : PortState) : (s.setPort p x).objs = s.objs := by rfl
@[simp] theorem State.setPort_mem (p : Nat) (x : PortState) : (s.setPort p x).mem = s.mem := by rfl
@[simp] theorem State.setPort_lanes (p : Nat) (x : PortState) : (s.setPort p x).lanes = s.lanes := by rfl
@[simp] theorem State.setPort_coll (p : Nat) (x : PortState) : (s.setPort p x).coll = s.coll := by rfl
@[simp] theorem State.setPort_ledger (p : Nat) (x : PortState) : (s.setPort p x).ledger = s.ledger := by rfl
@[simp] theorem State.setPort_store (p : Nat) (x : PortState) : (s.setPort p x).store = s.store := by rfl
@[simp] theorem State.setPort_cores (p : Nat) (x : PortState) : (s.setPort p x).cores = s.cores := by rfl
@[simp] theorem State.setPort_conv (p : Nat) (x : PortState) : (s.setPort p x).conv = s.conv := by rfl
@[simp] theorem State.setPort_cap (p : Nat) (x : PortState) : (s.setPort p x).cap = s.cap := by rfl
@[simp] theorem State.setPort_ring (p : Nat) (x : PortState) : (s.setPort p x).ring = s.ring := by rfl
@[simp] theorem State.setPort_activeArea (p : Nat) (x : PortState) : (s.setPort p x).activeArea = s.activeArea := by rfl
@[simp] theorem State.setPort_otherArea (p : Nat) (x : PortState) : (s.setPort p x).otherArea = s.otherArea := by rfl
@[simp] theorem State.setPort_input (p : Nat) (x : PortState) : (s.setPort p x).input = s.input := by rfl
@[simp] theorem State.setPort_rails (p : Nat) (x : PortState) : (s.setPort p x).rails = s.rails := by rfl
@[simp] theorem State.setPort_seq (p : Nat) (x : PortState) : (s.setPort p x).seq = s.seq := by rfl
@[simp] theorem State.setPort_pmb (p : Nat) (x : PortState) : (s.setPort p x).pmb = s.pmb := by rfl
@[simp] theorem State.setPort_railWins (p : Nat) (x : PortState) : (s.setPort p x).railWins = s.railWins := by rfl
@[simp] theorem State.setPort_live (p : Nat) (x : PortState) : (s.setPort p x).live = s.live := by rfl
@[simp] theorem State.setPort_margins (p : Nat) (x : PortState) : (s.setPort p x).margins = s.margins := by rfl
@[simp] theorem State.setPort_stips (p : Nat) (x : PortState) : (s.setPort p x).stips = s.stips := by rfl
@[simp] theorem State.setPort_sinks (p : Nat) (x : PortState) : (s.setPort p x).sinks = s.sinks := by rfl
@[simp] theorem State.setPort_gov (p : Nat) (x : PortState) : (s.setPort p x).gov = s.gov := by rfl
@[simp] theorem State.setPort_feeds (p : Nat) (x : PortState) : (s.setPort p x).feeds = s.feeds := by rfl
@[simp] theorem State.setPort_convoy (p : Nat) (x : PortState) : (s.setPort p x).convoy = s.convoy := by rfl
@[simp] theorem State.setPort_loader (p : Nat) (x : PortState) : (s.setPort p x).loader = s.loader := by rfl
@[simp] theorem State.setPort_upd (p : Nat) (x : PortState) : (s.setPort p x).upd = s.upd := by rfl
@[simp] theorem State.setPort_power (p : Nat) (x : PortState) : (s.setPort p x).power = s.power := by rfl
@[simp] theorem State.setPort_dwellFrom (p : Nat) (x : PortState) : (s.setPort p x).dwellFrom = s.dwellFrom := by rfl
@[simp] theorem State.setPort_supplies (p : Nat) (x : PortState) : (s.setPort p x).supplies = s.supplies := by rfl
@[simp] theorem State.setPort_vioClass (p : Nat) (x : PortState) : (s.setPort p x).vioClass = s.vioClass := by rfl
@[simp] theorem State.setPort_startClk (p : Nat) (x : PortState) : (s.setPort p x).startClk = s.startClk := by rfl
@[simp] theorem State.setPort_resetCause (p : Nat) (x : PortState) : (s.setPort p x).resetCause = s.resetCause := by rfl
@[simp] theorem State.setPort_filterClk (p : Nat) (x : PortState) : (s.setPort p x).filterClk = s.filterClk := by rfl
@[simp] theorem State.setPort_frozen (p : Nat) (x : PortState) : (s.setPort p x).frozen = s.frozen := by rfl
@[simp] theorem State.setPort_freezeLow (p : Nat) (x : PortState) : (s.setPort p x).freezeLow = s.freezeLow := by rfl
@[simp] theorem State.setPort_frz (p : Nat) (x : PortState) : (s.setPort p x).frz = s.frz := by rfl
@[simp] theorem State.setPort_ticked (p : Nat) (x : PortState) : (s.setPort p x).ticked = s.ticked := by rfl
@[simp] theorem State.setPort_obj (p : Nat) (x : PortState) (k : Nat) : (s.setPort p x).obj k = s.obj k := by rfl
@[simp] theorem State.setPort_objB (p : Nat) (x : PortState) (k : Nat) : (s.setPort p x).objB k = s.objB k := by rfl
@[simp] theorem State.setPort_objI (p : Nat) (x : PortState) (k : Nat) : (s.setPort p x).objI k = s.objI k := by rfl
@[simp] theorem State.setPort_rail (p : Nat) (x : PortState) (k : Nat) : (s.setPort p x).rail k = s.rail k := by rfl
@[simp] theorem State.setPort_sink (p : Nat) (x : PortState) (k : Nat) : (s.setPort p x).sink k = s.sink k := by rfl
@[simp] theorem State.setPort_feed (p : Nat) (x : PortState) (k : Nat) : (s.setPort p x).feed k = s.feed k := by rfl
@[simp] theorem State.setPort_margin (p : Nat) (x : PortState) (k : Nat) : (s.setPort p x).margin k = s.margin k := by rfl
@[simp] theorem State.setPort_stip (p : Nat) (x : PortState) (k : Nat) : (s.setPort p x).stip k = s.stip k := by rfl
@[simp] theorem State.setPort_slice (p : Nat) (x : PortState) (k : Nat) : (s.setPort p x).slice k = s.slice k := by rfl
@[simp] theorem State.setPort_liveOf (p : Nat) (x : PortState) (k : Nat) : (s.setPort p x).liveOf k = s.liveOf k := by rfl
@[simp] theorem State.setPort_offset (p : Nat) (x : PortState) : (s.setPort p x).offset = s.offset := by rfl
@[simp] theorem State.setPort_now (p : Nat) (x : PortState) : (s.setPort p x).now = s.now := by rfl
@[simp] theorem State.setPort_serving (p : Nat) (x : PortState) : (s.setPort p x).serving = s.serving := by rfl
@[simp] theorem State.setPort_clocked (p : Nat) (x : PortState) : (s.setPort p x).clocked = s.clocked := by rfl
@[simp] theorem State.setPort_coresUp (p : Nat) (x : PortState) : (s.setPort p x).coresUp = s.coresUp := by rfl

/-! ### setMargin -/

@[simp] theorem State.setMargin_pending (n : Nat) (m : Margin) : (s.setMargin n m).pending = s.pending := by rfl
@[simp] theorem State.setMargin_phase (n : Nat) (m : Margin) : (s.setMargin n m).phase = s.phase := by rfl
@[simp] theorem State.setMargin_fab (n : Nat) (m : Margin) : (s.setMargin n m).fab = s.fab := by rfl
@[simp] theorem State.setMargin_objs (n : Nat) (m : Margin) : (s.setMargin n m).objs = s.objs := by rfl
@[simp] theorem State.setMargin_mem (n : Nat) (m : Margin) : (s.setMargin n m).mem = s.mem := by rfl
@[simp] theorem State.setMargin_lanes (n : Nat) (m : Margin) : (s.setMargin n m).lanes = s.lanes := by rfl
@[simp] theorem State.setMargin_coll (n : Nat) (m : Margin) : (s.setMargin n m).coll = s.coll := by rfl
@[simp] theorem State.setMargin_ledger (n : Nat) (m : Margin) : (s.setMargin n m).ledger = s.ledger := by rfl
@[simp] theorem State.setMargin_store (n : Nat) (m : Margin) : (s.setMargin n m).store = s.store := by rfl
@[simp] theorem State.setMargin_cores (n : Nat) (m : Margin) : (s.setMargin n m).cores = s.cores := by rfl
@[simp] theorem State.setMargin_conv (n : Nat) (m : Margin) : (s.setMargin n m).conv = s.conv := by rfl
@[simp] theorem State.setMargin_cap (n : Nat) (m : Margin) : (s.setMargin n m).cap = s.cap := by rfl
@[simp] theorem State.setMargin_ring (n : Nat) (m : Margin) : (s.setMargin n m).ring = s.ring := by rfl
@[simp] theorem State.setMargin_activeArea (n : Nat) (m : Margin) : (s.setMargin n m).activeArea = s.activeArea := by rfl
@[simp] theorem State.setMargin_otherArea (n : Nat) (m : Margin) : (s.setMargin n m).otherArea = s.otherArea := by rfl
@[simp] theorem State.setMargin_input (n : Nat) (m : Margin) : (s.setMargin n m).input = s.input := by rfl
@[simp] theorem State.setMargin_rails (n : Nat) (m : Margin) : (s.setMargin n m).rails = s.rails := by rfl
@[simp] theorem State.setMargin_seq (n : Nat) (m : Margin) : (s.setMargin n m).seq = s.seq := by rfl
@[simp] theorem State.setMargin_pmb (n : Nat) (m : Margin) : (s.setMargin n m).pmb = s.pmb := by rfl
@[simp] theorem State.setMargin_railWins (n : Nat) (m : Margin) : (s.setMargin n m).railWins = s.railWins := by rfl
@[simp] theorem State.setMargin_live (n : Nat) (m : Margin) : (s.setMargin n m).live = s.live := by rfl
@[simp] theorem State.setMargin_stips (n : Nat) (m : Margin) : (s.setMargin n m).stips = s.stips := by rfl
@[simp] theorem State.setMargin_sinks (n : Nat) (m : Margin) : (s.setMargin n m).sinks = s.sinks := by rfl
@[simp] theorem State.setMargin_gov (n : Nat) (m : Margin) : (s.setMargin n m).gov = s.gov := by rfl
@[simp] theorem State.setMargin_feeds (n : Nat) (m : Margin) : (s.setMargin n m).feeds = s.feeds := by rfl
@[simp] theorem State.setMargin_convoy (n : Nat) (m : Margin) : (s.setMargin n m).convoy = s.convoy := by rfl
@[simp] theorem State.setMargin_loader (n : Nat) (m : Margin) : (s.setMargin n m).loader = s.loader := by rfl
@[simp] theorem State.setMargin_upd (n : Nat) (m : Margin) : (s.setMargin n m).upd = s.upd := by rfl
@[simp] theorem State.setMargin_hosts (n : Nat) (m : Margin) : (s.setMargin n m).hosts = s.hosts := by rfl
@[simp] theorem State.setMargin_power (n : Nat) (m : Margin) : (s.setMargin n m).power = s.power := by rfl
@[simp] theorem State.setMargin_dwellFrom (n : Nat) (m : Margin) : (s.setMargin n m).dwellFrom = s.dwellFrom := by rfl
@[simp] theorem State.setMargin_supplies (n : Nat) (m : Margin) : (s.setMargin n m).supplies = s.supplies := by rfl
@[simp] theorem State.setMargin_vioClass (n : Nat) (m : Margin) : (s.setMargin n m).vioClass = s.vioClass := by rfl
@[simp] theorem State.setMargin_startClk (n : Nat) (m : Margin) : (s.setMargin n m).startClk = s.startClk := by rfl
@[simp] theorem State.setMargin_resetCause (n : Nat) (m : Margin) : (s.setMargin n m).resetCause = s.resetCause := by rfl
@[simp] theorem State.setMargin_filterClk (n : Nat) (m : Margin) : (s.setMargin n m).filterClk = s.filterClk := by rfl
@[simp] theorem State.setMargin_frozen (n : Nat) (m : Margin) : (s.setMargin n m).frozen = s.frozen := by rfl
@[simp] theorem State.setMargin_freezeLow (n : Nat) (m : Margin) : (s.setMargin n m).freezeLow = s.freezeLow := by rfl
@[simp] theorem State.setMargin_frz (n : Nat) (m : Margin) : (s.setMargin n m).frz = s.frz := by rfl
@[simp] theorem State.setMargin_ticked (n : Nat) (m : Margin) : (s.setMargin n m).ticked = s.ticked := by rfl
@[simp] theorem State.setMargin_obj (n : Nat) (m : Margin) (k : Nat) : (s.setMargin n m).obj k = s.obj k := by rfl
@[simp] theorem State.setMargin_objB (n : Nat) (m : Margin) (k : Nat) : (s.setMargin n m).objB k = s.objB k := by rfl
@[simp] theorem State.setMargin_objI (n : Nat) (m : Margin) (k : Nat) : (s.setMargin n m).objI k = s.objI k := by rfl
@[simp] theorem State.setMargin_rail (n : Nat) (m : Margin) (k : Nat) : (s.setMargin n m).rail k = s.rail k := by rfl
@[simp] theorem State.setMargin_sink (n : Nat) (m : Margin) (k : Nat) : (s.setMargin n m).sink k = s.sink k := by rfl
@[simp] theorem State.setMargin_feed (n : Nat) (m : Margin) (k : Nat) : (s.setMargin n m).feed k = s.feed k := by rfl
@[simp] theorem State.setMargin_port (n : Nat) (m : Margin) (k : Nat) : (s.setMargin n m).port k = s.port k := by rfl
@[simp] theorem State.setMargin_stip (n : Nat) (m : Margin) (k : Nat) : (s.setMargin n m).stip k = s.stip k := by rfl
@[simp] theorem State.setMargin_slice (n : Nat) (m : Margin) (k : Nat) : (s.setMargin n m).slice k = s.slice k := by rfl
@[simp] theorem State.setMargin_liveOf (n : Nat) (m : Margin) (k : Nat) : (s.setMargin n m).liveOf k = s.liveOf k := by rfl
@[simp] theorem State.setMargin_offset (n : Nat) (m : Margin) : (s.setMargin n m).offset = s.offset := by rfl
@[simp] theorem State.setMargin_now (n : Nat) (m : Margin) : (s.setMargin n m).now = s.now := by rfl
@[simp] theorem State.setMargin_serving (n : Nat) (m : Margin) : (s.setMargin n m).serving = s.serving := by rfl
@[simp] theorem State.setMargin_clocked (n : Nat) (m : Margin) : (s.setMargin n m).clocked = s.clocked := by rfl
@[simp] theorem State.setMargin_coresUp (n : Nat) (m : Margin) : (s.setMargin n m).coresUp = s.coresUp := by rfl

/-! ### setStip -/

@[simp] theorem State.setStip_pending (n : Nat) (r : Stip) : (s.setStip n r).pending = s.pending := by rfl
@[simp] theorem State.setStip_phase (n : Nat) (r : Stip) : (s.setStip n r).phase = s.phase := by rfl
@[simp] theorem State.setStip_fab (n : Nat) (r : Stip) : (s.setStip n r).fab = s.fab := by rfl
@[simp] theorem State.setStip_objs (n : Nat) (r : Stip) : (s.setStip n r).objs = s.objs := by rfl
@[simp] theorem State.setStip_mem (n : Nat) (r : Stip) : (s.setStip n r).mem = s.mem := by rfl
@[simp] theorem State.setStip_lanes (n : Nat) (r : Stip) : (s.setStip n r).lanes = s.lanes := by rfl
@[simp] theorem State.setStip_coll (n : Nat) (r : Stip) : (s.setStip n r).coll = s.coll := by rfl
@[simp] theorem State.setStip_ledger (n : Nat) (r : Stip) : (s.setStip n r).ledger = s.ledger := by rfl
@[simp] theorem State.setStip_store (n : Nat) (r : Stip) : (s.setStip n r).store = s.store := by rfl
@[simp] theorem State.setStip_cores (n : Nat) (r : Stip) : (s.setStip n r).cores = s.cores := by rfl
@[simp] theorem State.setStip_conv (n : Nat) (r : Stip) : (s.setStip n r).conv = s.conv := by rfl
@[simp] theorem State.setStip_cap (n : Nat) (r : Stip) : (s.setStip n r).cap = s.cap := by rfl
@[simp] theorem State.setStip_ring (n : Nat) (r : Stip) : (s.setStip n r).ring = s.ring := by rfl
@[simp] theorem State.setStip_activeArea (n : Nat) (r : Stip) : (s.setStip n r).activeArea = s.activeArea := by rfl
@[simp] theorem State.setStip_otherArea (n : Nat) (r : Stip) : (s.setStip n r).otherArea = s.otherArea := by rfl
@[simp] theorem State.setStip_input (n : Nat) (r : Stip) : (s.setStip n r).input = s.input := by rfl
@[simp] theorem State.setStip_rails (n : Nat) (r : Stip) : (s.setStip n r).rails = s.rails := by rfl
@[simp] theorem State.setStip_seq (n : Nat) (r : Stip) : (s.setStip n r).seq = s.seq := by rfl
@[simp] theorem State.setStip_pmb (n : Nat) (r : Stip) : (s.setStip n r).pmb = s.pmb := by rfl
@[simp] theorem State.setStip_railWins (n : Nat) (r : Stip) : (s.setStip n r).railWins = s.railWins := by rfl
@[simp] theorem State.setStip_live (n : Nat) (r : Stip) : (s.setStip n r).live = s.live := by rfl
@[simp] theorem State.setStip_margins (n : Nat) (r : Stip) : (s.setStip n r).margins = s.margins := by rfl
@[simp] theorem State.setStip_sinks (n : Nat) (r : Stip) : (s.setStip n r).sinks = s.sinks := by rfl
@[simp] theorem State.setStip_gov (n : Nat) (r : Stip) : (s.setStip n r).gov = s.gov := by rfl
@[simp] theorem State.setStip_feeds (n : Nat) (r : Stip) : (s.setStip n r).feeds = s.feeds := by rfl
@[simp] theorem State.setStip_convoy (n : Nat) (r : Stip) : (s.setStip n r).convoy = s.convoy := by rfl
@[simp] theorem State.setStip_loader (n : Nat) (r : Stip) : (s.setStip n r).loader = s.loader := by rfl
@[simp] theorem State.setStip_upd (n : Nat) (r : Stip) : (s.setStip n r).upd = s.upd := by rfl
@[simp] theorem State.setStip_hosts (n : Nat) (r : Stip) : (s.setStip n r).hosts = s.hosts := by rfl
@[simp] theorem State.setStip_power (n : Nat) (r : Stip) : (s.setStip n r).power = s.power := by rfl
@[simp] theorem State.setStip_dwellFrom (n : Nat) (r : Stip) : (s.setStip n r).dwellFrom = s.dwellFrom := by rfl
@[simp] theorem State.setStip_supplies (n : Nat) (r : Stip) : (s.setStip n r).supplies = s.supplies := by rfl
@[simp] theorem State.setStip_vioClass (n : Nat) (r : Stip) : (s.setStip n r).vioClass = s.vioClass := by rfl
@[simp] theorem State.setStip_startClk (n : Nat) (r : Stip) : (s.setStip n r).startClk = s.startClk := by rfl
@[simp] theorem State.setStip_resetCause (n : Nat) (r : Stip) : (s.setStip n r).resetCause = s.resetCause := by rfl
@[simp] theorem State.setStip_filterClk (n : Nat) (r : Stip) : (s.setStip n r).filterClk = s.filterClk := by rfl
@[simp] theorem State.setStip_frozen (n : Nat) (r : Stip) : (s.setStip n r).frozen = s.frozen := by rfl
@[simp] theorem State.setStip_freezeLow (n : Nat) (r : Stip) : (s.setStip n r).freezeLow = s.freezeLow := by rfl
@[simp] theorem State.setStip_frz (n : Nat) (r : Stip) : (s.setStip n r).frz = s.frz := by rfl
@[simp] theorem State.setStip_ticked (n : Nat) (r : Stip) : (s.setStip n r).ticked = s.ticked := by rfl
@[simp] theorem State.setStip_obj (n : Nat) (r : Stip) (k : Nat) : (s.setStip n r).obj k = s.obj k := by rfl
@[simp] theorem State.setStip_objB (n : Nat) (r : Stip) (k : Nat) : (s.setStip n r).objB k = s.objB k := by rfl
@[simp] theorem State.setStip_objI (n : Nat) (r : Stip) (k : Nat) : (s.setStip n r).objI k = s.objI k := by rfl
@[simp] theorem State.setStip_rail (n : Nat) (r : Stip) (k : Nat) : (s.setStip n r).rail k = s.rail k := by rfl
@[simp] theorem State.setStip_sink (n : Nat) (r : Stip) (k : Nat) : (s.setStip n r).sink k = s.sink k := by rfl
@[simp] theorem State.setStip_feed (n : Nat) (r : Stip) (k : Nat) : (s.setStip n r).feed k = s.feed k := by rfl
@[simp] theorem State.setStip_port (n : Nat) (r : Stip) (k : Nat) : (s.setStip n r).port k = s.port k := by rfl
@[simp] theorem State.setStip_margin (n : Nat) (r : Stip) (k : Nat) : (s.setStip n r).margin k = s.margin k := by rfl
@[simp] theorem State.setStip_slice (n : Nat) (r : Stip) (k : Nat) : (s.setStip n r).slice k = s.slice k := by rfl
@[simp] theorem State.setStip_liveOf (n : Nat) (r : Stip) (k : Nat) : (s.setStip n r).liveOf k = s.liveOf k := by rfl
@[simp] theorem State.setStip_offset (n : Nat) (r : Stip) : (s.setStip n r).offset = s.offset := by rfl
@[simp] theorem State.setStip_now (n : Nat) (r : Stip) : (s.setStip n r).now = s.now := by rfl
@[simp] theorem State.setStip_serving (n : Nat) (r : Stip) : (s.setStip n r).serving = s.serving := by rfl
@[simp] theorem State.setStip_clocked (n : Nat) (r : Stip) : (s.setStip n r).clocked = s.clocked := by rfl
@[simp] theorem State.setStip_coresUp (n : Nat) (r : Stip) : (s.setStip n r).coresUp = s.coresUp := by rfl

/-! ### setFeed -/

@[simp] theorem State.setFeed_pending (f : Nat) (x : Feed) : (s.setFeed f x).pending = s.pending := by rfl
@[simp] theorem State.setFeed_phase (f : Nat) (x : Feed) : (s.setFeed f x).phase = s.phase := by rfl
@[simp] theorem State.setFeed_fab (f : Nat) (x : Feed) : (s.setFeed f x).fab = s.fab := by rfl
@[simp] theorem State.setFeed_objs (f : Nat) (x : Feed) : (s.setFeed f x).objs = s.objs := by rfl
@[simp] theorem State.setFeed_mem (f : Nat) (x : Feed) : (s.setFeed f x).mem = s.mem := by rfl
@[simp] theorem State.setFeed_lanes (f : Nat) (x : Feed) : (s.setFeed f x).lanes = s.lanes := by rfl
@[simp] theorem State.setFeed_coll (f : Nat) (x : Feed) : (s.setFeed f x).coll = s.coll := by rfl
@[simp] theorem State.setFeed_ledger (f : Nat) (x : Feed) : (s.setFeed f x).ledger = s.ledger := by rfl
@[simp] theorem State.setFeed_store (f : Nat) (x : Feed) : (s.setFeed f x).store = s.store := by rfl
@[simp] theorem State.setFeed_cores (f : Nat) (x : Feed) : (s.setFeed f x).cores = s.cores := by rfl
@[simp] theorem State.setFeed_conv (f : Nat) (x : Feed) : (s.setFeed f x).conv = s.conv := by rfl
@[simp] theorem State.setFeed_cap (f : Nat) (x : Feed) : (s.setFeed f x).cap = s.cap := by rfl
@[simp] theorem State.setFeed_ring (f : Nat) (x : Feed) : (s.setFeed f x).ring = s.ring := by rfl
@[simp] theorem State.setFeed_activeArea (f : Nat) (x : Feed) : (s.setFeed f x).activeArea = s.activeArea := by rfl
@[simp] theorem State.setFeed_otherArea (f : Nat) (x : Feed) : (s.setFeed f x).otherArea = s.otherArea := by rfl
@[simp] theorem State.setFeed_input (f : Nat) (x : Feed) : (s.setFeed f x).input = s.input := by rfl
@[simp] theorem State.setFeed_rails (f : Nat) (x : Feed) : (s.setFeed f x).rails = s.rails := by rfl
@[simp] theorem State.setFeed_seq (f : Nat) (x : Feed) : (s.setFeed f x).seq = s.seq := by rfl
@[simp] theorem State.setFeed_pmb (f : Nat) (x : Feed) : (s.setFeed f x).pmb = s.pmb := by rfl
@[simp] theorem State.setFeed_railWins (f : Nat) (x : Feed) : (s.setFeed f x).railWins = s.railWins := by rfl
@[simp] theorem State.setFeed_live (f : Nat) (x : Feed) : (s.setFeed f x).live = s.live := by rfl
@[simp] theorem State.setFeed_margins (f : Nat) (x : Feed) : (s.setFeed f x).margins = s.margins := by rfl
@[simp] theorem State.setFeed_stips (f : Nat) (x : Feed) : (s.setFeed f x).stips = s.stips := by rfl
@[simp] theorem State.setFeed_sinks (f : Nat) (x : Feed) : (s.setFeed f x).sinks = s.sinks := by rfl
@[simp] theorem State.setFeed_gov (f : Nat) (x : Feed) : (s.setFeed f x).gov = s.gov := by rfl
@[simp] theorem State.setFeed_convoy (f : Nat) (x : Feed) : (s.setFeed f x).convoy = s.convoy := by rfl
@[simp] theorem State.setFeed_loader (f : Nat) (x : Feed) : (s.setFeed f x).loader = s.loader := by rfl
@[simp] theorem State.setFeed_upd (f : Nat) (x : Feed) : (s.setFeed f x).upd = s.upd := by rfl
@[simp] theorem State.setFeed_hosts (f : Nat) (x : Feed) : (s.setFeed f x).hosts = s.hosts := by rfl
@[simp] theorem State.setFeed_power (f : Nat) (x : Feed) : (s.setFeed f x).power = s.power := by rfl
@[simp] theorem State.setFeed_dwellFrom (f : Nat) (x : Feed) : (s.setFeed f x).dwellFrom = s.dwellFrom := by rfl
@[simp] theorem State.setFeed_supplies (f : Nat) (x : Feed) : (s.setFeed f x).supplies = s.supplies := by rfl
@[simp] theorem State.setFeed_vioClass (f : Nat) (x : Feed) : (s.setFeed f x).vioClass = s.vioClass := by rfl
@[simp] theorem State.setFeed_startClk (f : Nat) (x : Feed) : (s.setFeed f x).startClk = s.startClk := by rfl
@[simp] theorem State.setFeed_resetCause (f : Nat) (x : Feed) : (s.setFeed f x).resetCause = s.resetCause := by rfl
@[simp] theorem State.setFeed_filterClk (f : Nat) (x : Feed) : (s.setFeed f x).filterClk = s.filterClk := by rfl
@[simp] theorem State.setFeed_frozen (f : Nat) (x : Feed) : (s.setFeed f x).frozen = s.frozen := by rfl
@[simp] theorem State.setFeed_freezeLow (f : Nat) (x : Feed) : (s.setFeed f x).freezeLow = s.freezeLow := by rfl
@[simp] theorem State.setFeed_frz (f : Nat) (x : Feed) : (s.setFeed f x).frz = s.frz := by rfl
@[simp] theorem State.setFeed_ticked (f : Nat) (x : Feed) : (s.setFeed f x).ticked = s.ticked := by rfl
@[simp] theorem State.setFeed_obj (f : Nat) (x : Feed) (k : Nat) : (s.setFeed f x).obj k = s.obj k := by rfl
@[simp] theorem State.setFeed_objB (f : Nat) (x : Feed) (k : Nat) : (s.setFeed f x).objB k = s.objB k := by rfl
@[simp] theorem State.setFeed_objI (f : Nat) (x : Feed) (k : Nat) : (s.setFeed f x).objI k = s.objI k := by rfl
@[simp] theorem State.setFeed_rail (f : Nat) (x : Feed) (k : Nat) : (s.setFeed f x).rail k = s.rail k := by rfl
@[simp] theorem State.setFeed_sink (f : Nat) (x : Feed) (k : Nat) : (s.setFeed f x).sink k = s.sink k := by rfl
@[simp] theorem State.setFeed_port (f : Nat) (x : Feed) (k : Nat) : (s.setFeed f x).port k = s.port k := by rfl
@[simp] theorem State.setFeed_margin (f : Nat) (x : Feed) (k : Nat) : (s.setFeed f x).margin k = s.margin k := by rfl
@[simp] theorem State.setFeed_stip (f : Nat) (x : Feed) (k : Nat) : (s.setFeed f x).stip k = s.stip k := by rfl
@[simp] theorem State.setFeed_slice (f : Nat) (x : Feed) (k : Nat) : (s.setFeed f x).slice k = s.slice k := by rfl
@[simp] theorem State.setFeed_liveOf (f : Nat) (x : Feed) (k : Nat) : (s.setFeed f x).liveOf k = s.liveOf k := by rfl
@[simp] theorem State.setFeed_offset (f : Nat) (x : Feed) : (s.setFeed f x).offset = s.offset := by rfl
@[simp] theorem State.setFeed_now (f : Nat) (x : Feed) : (s.setFeed f x).now = s.now := by rfl
@[simp] theorem State.setFeed_serving (f : Nat) (x : Feed) : (s.setFeed f x).serving = s.serving := by rfl
@[simp] theorem State.setFeed_clocked (f : Nat) (x : Feed) : (s.setFeed f x).clocked = s.clocked := by rfl
@[simp] theorem State.setFeed_coresUp (f : Nat) (x : Feed) : (s.setFeed f x).coresUp = s.coresUp := by rfl

/-! ### moveFeed -/

@[simp] theorem State.moveFeed_pending (f : Nat) (st : FeedState) : (s.moveFeed f st).pending = s.pending := by rfl
@[simp] theorem State.moveFeed_phase (f : Nat) (st : FeedState) : (s.moveFeed f st).phase = s.phase := by rfl
@[simp] theorem State.moveFeed_fab (f : Nat) (st : FeedState) : (s.moveFeed f st).fab = s.fab := by rfl
@[simp] theorem State.moveFeed_objs (f : Nat) (st : FeedState) : (s.moveFeed f st).objs = s.objs := by rfl
@[simp] theorem State.moveFeed_mem (f : Nat) (st : FeedState) : (s.moveFeed f st).mem = s.mem := by rfl
@[simp] theorem State.moveFeed_lanes (f : Nat) (st : FeedState) : (s.moveFeed f st).lanes = s.lanes := by rfl
@[simp] theorem State.moveFeed_coll (f : Nat) (st : FeedState) : (s.moveFeed f st).coll = s.coll := by rfl
@[simp] theorem State.moveFeed_ledger (f : Nat) (st : FeedState) : (s.moveFeed f st).ledger = s.ledger := by rfl
@[simp] theorem State.moveFeed_store (f : Nat) (st : FeedState) : (s.moveFeed f st).store = s.store := by rfl
@[simp] theorem State.moveFeed_cores (f : Nat) (st : FeedState) : (s.moveFeed f st).cores = s.cores := by rfl
@[simp] theorem State.moveFeed_conv (f : Nat) (st : FeedState) : (s.moveFeed f st).conv = s.conv := by rfl
@[simp] theorem State.moveFeed_cap (f : Nat) (st : FeedState) : (s.moveFeed f st).cap = s.cap := by rfl
@[simp] theorem State.moveFeed_ring (f : Nat) (st : FeedState) : (s.moveFeed f st).ring = s.ring := by rfl
@[simp] theorem State.moveFeed_activeArea (f : Nat) (st : FeedState) : (s.moveFeed f st).activeArea = s.activeArea := by rfl
@[simp] theorem State.moveFeed_otherArea (f : Nat) (st : FeedState) : (s.moveFeed f st).otherArea = s.otherArea := by rfl
@[simp] theorem State.moveFeed_input (f : Nat) (st : FeedState) : (s.moveFeed f st).input = s.input := by rfl
@[simp] theorem State.moveFeed_rails (f : Nat) (st : FeedState) : (s.moveFeed f st).rails = s.rails := by rfl
@[simp] theorem State.moveFeed_seq (f : Nat) (st : FeedState) : (s.moveFeed f st).seq = s.seq := by rfl
@[simp] theorem State.moveFeed_pmb (f : Nat) (st : FeedState) : (s.moveFeed f st).pmb = s.pmb := by rfl
@[simp] theorem State.moveFeed_railWins (f : Nat) (st : FeedState) : (s.moveFeed f st).railWins = s.railWins := by rfl
@[simp] theorem State.moveFeed_live (f : Nat) (st : FeedState) : (s.moveFeed f st).live = s.live := by rfl
@[simp] theorem State.moveFeed_margins (f : Nat) (st : FeedState) : (s.moveFeed f st).margins = s.margins := by rfl
@[simp] theorem State.moveFeed_stips (f : Nat) (st : FeedState) : (s.moveFeed f st).stips = s.stips := by rfl
@[simp] theorem State.moveFeed_sinks (f : Nat) (st : FeedState) : (s.moveFeed f st).sinks = s.sinks := by rfl
@[simp] theorem State.moveFeed_gov (f : Nat) (st : FeedState) : (s.moveFeed f st).gov = s.gov := by rfl
@[simp] theorem State.moveFeed_convoy (f : Nat) (st : FeedState) : (s.moveFeed f st).convoy = s.convoy := by rfl
@[simp] theorem State.moveFeed_loader (f : Nat) (st : FeedState) : (s.moveFeed f st).loader = s.loader := by rfl
@[simp] theorem State.moveFeed_upd (f : Nat) (st : FeedState) : (s.moveFeed f st).upd = s.upd := by rfl
@[simp] theorem State.moveFeed_hosts (f : Nat) (st : FeedState) : (s.moveFeed f st).hosts = s.hosts := by rfl
@[simp] theorem State.moveFeed_power (f : Nat) (st : FeedState) : (s.moveFeed f st).power = s.power := by rfl
@[simp] theorem State.moveFeed_dwellFrom (f : Nat) (st : FeedState) : (s.moveFeed f st).dwellFrom = s.dwellFrom := by rfl
@[simp] theorem State.moveFeed_supplies (f : Nat) (st : FeedState) : (s.moveFeed f st).supplies = s.supplies := by rfl
@[simp] theorem State.moveFeed_vioClass (f : Nat) (st : FeedState) : (s.moveFeed f st).vioClass = s.vioClass := by rfl
@[simp] theorem State.moveFeed_startClk (f : Nat) (st : FeedState) : (s.moveFeed f st).startClk = s.startClk := by rfl
@[simp] theorem State.moveFeed_resetCause (f : Nat) (st : FeedState) : (s.moveFeed f st).resetCause = s.resetCause := by rfl
@[simp] theorem State.moveFeed_filterClk (f : Nat) (st : FeedState) : (s.moveFeed f st).filterClk = s.filterClk := by rfl
@[simp] theorem State.moveFeed_frozen (f : Nat) (st : FeedState) : (s.moveFeed f st).frozen = s.frozen := by rfl
@[simp] theorem State.moveFeed_freezeLow (f : Nat) (st : FeedState) : (s.moveFeed f st).freezeLow = s.freezeLow := by rfl
@[simp] theorem State.moveFeed_frz (f : Nat) (st : FeedState) : (s.moveFeed f st).frz = s.frz := by rfl
@[simp] theorem State.moveFeed_ticked (f : Nat) (st : FeedState) : (s.moveFeed f st).ticked = s.ticked := by rfl
@[simp] theorem State.moveFeed_obj (f : Nat) (st : FeedState) (k : Nat) : (s.moveFeed f st).obj k = s.obj k := by rfl
@[simp] theorem State.moveFeed_objB (f : Nat) (st : FeedState) (k : Nat) : (s.moveFeed f st).objB k = s.objB k := by rfl
@[simp] theorem State.moveFeed_objI (f : Nat) (st : FeedState) (k : Nat) : (s.moveFeed f st).objI k = s.objI k := by rfl
@[simp] theorem State.moveFeed_rail (f : Nat) (st : FeedState) (k : Nat) : (s.moveFeed f st).rail k = s.rail k := by rfl
@[simp] theorem State.moveFeed_sink (f : Nat) (st : FeedState) (k : Nat) : (s.moveFeed f st).sink k = s.sink k := by rfl
@[simp] theorem State.moveFeed_port (f : Nat) (st : FeedState) (k : Nat) : (s.moveFeed f st).port k = s.port k := by rfl
@[simp] theorem State.moveFeed_margin (f : Nat) (st : FeedState) (k : Nat) : (s.moveFeed f st).margin k = s.margin k := by rfl
@[simp] theorem State.moveFeed_stip (f : Nat) (st : FeedState) (k : Nat) : (s.moveFeed f st).stip k = s.stip k := by rfl
@[simp] theorem State.moveFeed_slice (f : Nat) (st : FeedState) (k : Nat) : (s.moveFeed f st).slice k = s.slice k := by rfl
@[simp] theorem State.moveFeed_liveOf (f : Nat) (st : FeedState) (k : Nat) : (s.moveFeed f st).liveOf k = s.liveOf k := by rfl
@[simp] theorem State.moveFeed_offset (f : Nat) (st : FeedState) : (s.moveFeed f st).offset = s.offset := by rfl
@[simp] theorem State.moveFeed_now (f : Nat) (st : FeedState) : (s.moveFeed f st).now = s.now := by rfl
@[simp] theorem State.moveFeed_serving (f : Nat) (st : FeedState) : (s.moveFeed f st).serving = s.serving := by rfl
@[simp] theorem State.moveFeed_clocked (f : Nat) (st : FeedState) : (s.moveFeed f st).clocked = s.clocked := by rfl
@[simp] theorem State.moveFeed_coresUp (f : Nat) (st : FeedState) : (s.moveFeed f st).coresUp = s.coresUp := by rfl

/-! ### setSlice -/

@[simp] theorem State.setSlice_pending (i : Nat) (x : Slice) : (s.setSlice i x).pending = s.pending := by rfl
@[simp] theorem State.setSlice_phase (i : Nat) (x : Slice) : (s.setSlice i x).phase = s.phase := by rfl
@[simp] theorem State.setSlice_fab (i : Nat) (x : Slice) : (s.setSlice i x).fab = s.fab := by rfl
@[simp] theorem State.setSlice_objs (i : Nat) (x : Slice) : (s.setSlice i x).objs = s.objs := by rfl
@[simp] theorem State.setSlice_mem (i : Nat) (x : Slice) : (s.setSlice i x).mem = s.mem := by rfl
@[simp] theorem State.setSlice_lanes (i : Nat) (x : Slice) : (s.setSlice i x).lanes = s.lanes := by rfl
@[simp] theorem State.setSlice_coll (i : Nat) (x : Slice) : (s.setSlice i x).coll = s.coll := by rfl
@[simp] theorem State.setSlice_ledger (i : Nat) (x : Slice) : (s.setSlice i x).ledger = s.ledger := by rfl
@[simp] theorem State.setSlice_store (i : Nat) (x : Slice) : (s.setSlice i x).store = s.store := by rfl
@[simp] theorem State.setSlice_cores (i : Nat) (x : Slice) : (s.setSlice i x).cores = s.cores := by rfl
@[simp] theorem State.setSlice_cap (i : Nat) (x : Slice) : (s.setSlice i x).cap = s.cap := by rfl
@[simp] theorem State.setSlice_ring (i : Nat) (x : Slice) : (s.setSlice i x).ring = s.ring := by rfl
@[simp] theorem State.setSlice_activeArea (i : Nat) (x : Slice) : (s.setSlice i x).activeArea = s.activeArea := by rfl
@[simp] theorem State.setSlice_otherArea (i : Nat) (x : Slice) : (s.setSlice i x).otherArea = s.otherArea := by rfl
@[simp] theorem State.setSlice_input (i : Nat) (x : Slice) : (s.setSlice i x).input = s.input := by rfl
@[simp] theorem State.setSlice_rails (i : Nat) (x : Slice) : (s.setSlice i x).rails = s.rails := by rfl
@[simp] theorem State.setSlice_seq (i : Nat) (x : Slice) : (s.setSlice i x).seq = s.seq := by rfl
@[simp] theorem State.setSlice_pmb (i : Nat) (x : Slice) : (s.setSlice i x).pmb = s.pmb := by rfl
@[simp] theorem State.setSlice_railWins (i : Nat) (x : Slice) : (s.setSlice i x).railWins = s.railWins := by rfl
@[simp] theorem State.setSlice_live (i : Nat) (x : Slice) : (s.setSlice i x).live = s.live := by rfl
@[simp] theorem State.setSlice_margins (i : Nat) (x : Slice) : (s.setSlice i x).margins = s.margins := by rfl
@[simp] theorem State.setSlice_stips (i : Nat) (x : Slice) : (s.setSlice i x).stips = s.stips := by rfl
@[simp] theorem State.setSlice_sinks (i : Nat) (x : Slice) : (s.setSlice i x).sinks = s.sinks := by rfl
@[simp] theorem State.setSlice_gov (i : Nat) (x : Slice) : (s.setSlice i x).gov = s.gov := by rfl
@[simp] theorem State.setSlice_feeds (i : Nat) (x : Slice) : (s.setSlice i x).feeds = s.feeds := by rfl
@[simp] theorem State.setSlice_convoy (i : Nat) (x : Slice) : (s.setSlice i x).convoy = s.convoy := by rfl
@[simp] theorem State.setSlice_loader (i : Nat) (x : Slice) : (s.setSlice i x).loader = s.loader := by rfl
@[simp] theorem State.setSlice_upd (i : Nat) (x : Slice) : (s.setSlice i x).upd = s.upd := by rfl
@[simp] theorem State.setSlice_hosts (i : Nat) (x : Slice) : (s.setSlice i x).hosts = s.hosts := by rfl
@[simp] theorem State.setSlice_power (i : Nat) (x : Slice) : (s.setSlice i x).power = s.power := by rfl
@[simp] theorem State.setSlice_dwellFrom (i : Nat) (x : Slice) : (s.setSlice i x).dwellFrom = s.dwellFrom := by rfl
@[simp] theorem State.setSlice_supplies (i : Nat) (x : Slice) : (s.setSlice i x).supplies = s.supplies := by rfl
@[simp] theorem State.setSlice_vioClass (i : Nat) (x : Slice) : (s.setSlice i x).vioClass = s.vioClass := by rfl
@[simp] theorem State.setSlice_startClk (i : Nat) (x : Slice) : (s.setSlice i x).startClk = s.startClk := by rfl
@[simp] theorem State.setSlice_resetCause (i : Nat) (x : Slice) : (s.setSlice i x).resetCause = s.resetCause := by rfl
@[simp] theorem State.setSlice_filterClk (i : Nat) (x : Slice) : (s.setSlice i x).filterClk = s.filterClk := by rfl
@[simp] theorem State.setSlice_frozen (i : Nat) (x : Slice) : (s.setSlice i x).frozen = s.frozen := by rfl
@[simp] theorem State.setSlice_freezeLow (i : Nat) (x : Slice) : (s.setSlice i x).freezeLow = s.freezeLow := by rfl
@[simp] theorem State.setSlice_frz (i : Nat) (x : Slice) : (s.setSlice i x).frz = s.frz := by rfl
@[simp] theorem State.setSlice_ticked (i : Nat) (x : Slice) : (s.setSlice i x).ticked = s.ticked := by rfl
@[simp] theorem State.setSlice_obj (i : Nat) (x : Slice) (k : Nat) : (s.setSlice i x).obj k = s.obj k := by rfl
@[simp] theorem State.setSlice_objB (i : Nat) (x : Slice) (k : Nat) : (s.setSlice i x).objB k = s.objB k := by rfl
@[simp] theorem State.setSlice_objI (i : Nat) (x : Slice) (k : Nat) : (s.setSlice i x).objI k = s.objI k := by rfl
@[simp] theorem State.setSlice_rail (i : Nat) (x : Slice) (k : Nat) : (s.setSlice i x).rail k = s.rail k := by rfl
@[simp] theorem State.setSlice_sink (i : Nat) (x : Slice) (k : Nat) : (s.setSlice i x).sink k = s.sink k := by rfl
@[simp] theorem State.setSlice_feed (i : Nat) (x : Slice) (k : Nat) : (s.setSlice i x).feed k = s.feed k := by rfl
@[simp] theorem State.setSlice_port (i : Nat) (x : Slice) (k : Nat) : (s.setSlice i x).port k = s.port k := by rfl
@[simp] theorem State.setSlice_margin (i : Nat) (x : Slice) (k : Nat) : (s.setSlice i x).margin k = s.margin k := by rfl
@[simp] theorem State.setSlice_stip (i : Nat) (x : Slice) (k : Nat) : (s.setSlice i x).stip k = s.stip k := by rfl
@[simp] theorem State.setSlice_liveOf (i : Nat) (x : Slice) (k : Nat) : (s.setSlice i x).liveOf k = s.liveOf k := by rfl
@[simp] theorem State.setSlice_offset (i : Nat) (x : Slice) : (s.setSlice i x).offset = s.offset := by rfl
@[simp] theorem State.setSlice_now (i : Nat) (x : Slice) : (s.setSlice i x).now = s.now := by rfl
@[simp] theorem State.setSlice_serving (i : Nat) (x : Slice) : (s.setSlice i x).serving = s.serving := by rfl
@[simp] theorem State.setSlice_clocked (i : Nat) (x : Slice) : (s.setSlice i x).clocked = s.clocked := by rfl
@[simp] theorem State.setSlice_coresUp (i : Nat) (x : Slice) : (s.setSlice i x).coresUp = s.coresUp := by rfl

/-! ### setLead -/

@[simp] theorem State.setLead_pending (l : Leading) : (s.setLead l).pending = s.pending := by rfl
@[simp] theorem State.setLead_phase (l : Leading) : (s.setLead l).phase = s.phase := by rfl
@[simp] theorem State.setLead_fab (l : Leading) : (s.setLead l).fab = s.fab := by rfl
@[simp] theorem State.setLead_objs (l : Leading) : (s.setLead l).objs = s.objs := by rfl
@[simp] theorem State.setLead_mem (l : Leading) : (s.setLead l).mem = s.mem := by rfl
@[simp] theorem State.setLead_lanes (l : Leading) : (s.setLead l).lanes = s.lanes := by rfl
@[simp] theorem State.setLead_coll (l : Leading) : (s.setLead l).coll = s.coll := by rfl
@[simp] theorem State.setLead_ledger (l : Leading) : (s.setLead l).ledger = s.ledger := by rfl
@[simp] theorem State.setLead_store (l : Leading) : (s.setLead l).store = s.store := by rfl
@[simp] theorem State.setLead_cores (l : Leading) : (s.setLead l).cores = s.cores := by rfl
@[simp] theorem State.setLead_conv (l : Leading) : (s.setLead l).conv = s.conv := by rfl
@[simp] theorem State.setLead_cap (l : Leading) : (s.setLead l).cap = s.cap := by rfl
@[simp] theorem State.setLead_ring (l : Leading) : (s.setLead l).ring = s.ring := by rfl
@[simp] theorem State.setLead_activeArea (l : Leading) : (s.setLead l).activeArea = s.activeArea := by rfl
@[simp] theorem State.setLead_otherArea (l : Leading) : (s.setLead l).otherArea = s.otherArea := by rfl
@[simp] theorem State.setLead_input (l : Leading) : (s.setLead l).input = s.input := by rfl
@[simp] theorem State.setLead_rails (l : Leading) : (s.setLead l).rails = s.rails := by rfl
@[simp] theorem State.setLead_seq (l : Leading) : (s.setLead l).seq = s.seq := by rfl
@[simp] theorem State.setLead_pmb (l : Leading) : (s.setLead l).pmb = s.pmb := by rfl
@[simp] theorem State.setLead_railWins (l : Leading) : (s.setLead l).railWins = s.railWins := by rfl
@[simp] theorem State.setLead_live (l : Leading) : (s.setLead l).live = s.live := by rfl
@[simp] theorem State.setLead_margins (l : Leading) : (s.setLead l).margins = s.margins := by rfl
@[simp] theorem State.setLead_stips (l : Leading) : (s.setLead l).stips = s.stips := by rfl
@[simp] theorem State.setLead_sinks (l : Leading) : (s.setLead l).sinks = s.sinks := by rfl
@[simp] theorem State.setLead_gov (l : Leading) : (s.setLead l).gov = s.gov := by rfl
@[simp] theorem State.setLead_feeds (l : Leading) : (s.setLead l).feeds = s.feeds := by rfl
@[simp] theorem State.setLead_loader (l : Leading) : (s.setLead l).loader = s.loader := by rfl
@[simp] theorem State.setLead_upd (l : Leading) : (s.setLead l).upd = s.upd := by rfl
@[simp] theorem State.setLead_hosts (l : Leading) : (s.setLead l).hosts = s.hosts := by rfl
@[simp] theorem State.setLead_power (l : Leading) : (s.setLead l).power = s.power := by rfl
@[simp] theorem State.setLead_dwellFrom (l : Leading) : (s.setLead l).dwellFrom = s.dwellFrom := by rfl
@[simp] theorem State.setLead_supplies (l : Leading) : (s.setLead l).supplies = s.supplies := by rfl
@[simp] theorem State.setLead_vioClass (l : Leading) : (s.setLead l).vioClass = s.vioClass := by rfl
@[simp] theorem State.setLead_startClk (l : Leading) : (s.setLead l).startClk = s.startClk := by rfl
@[simp] theorem State.setLead_resetCause (l : Leading) : (s.setLead l).resetCause = s.resetCause := by rfl
@[simp] theorem State.setLead_filterClk (l : Leading) : (s.setLead l).filterClk = s.filterClk := by rfl
@[simp] theorem State.setLead_frozen (l : Leading) : (s.setLead l).frozen = s.frozen := by rfl
@[simp] theorem State.setLead_freezeLow (l : Leading) : (s.setLead l).freezeLow = s.freezeLow := by rfl
@[simp] theorem State.setLead_frz (l : Leading) : (s.setLead l).frz = s.frz := by rfl
@[simp] theorem State.setLead_ticked (l : Leading) : (s.setLead l).ticked = s.ticked := by rfl
@[simp] theorem State.setLead_obj (l : Leading) (k : Nat) : (s.setLead l).obj k = s.obj k := by rfl
@[simp] theorem State.setLead_objB (l : Leading) (k : Nat) : (s.setLead l).objB k = s.objB k := by rfl
@[simp] theorem State.setLead_objI (l : Leading) (k : Nat) : (s.setLead l).objI k = s.objI k := by rfl
@[simp] theorem State.setLead_rail (l : Leading) (k : Nat) : (s.setLead l).rail k = s.rail k := by rfl
@[simp] theorem State.setLead_sink (l : Leading) (k : Nat) : (s.setLead l).sink k = s.sink k := by rfl
@[simp] theorem State.setLead_feed (l : Leading) (k : Nat) : (s.setLead l).feed k = s.feed k := by rfl
@[simp] theorem State.setLead_port (l : Leading) (k : Nat) : (s.setLead l).port k = s.port k := by rfl
@[simp] theorem State.setLead_margin (l : Leading) (k : Nat) : (s.setLead l).margin k = s.margin k := by rfl
@[simp] theorem State.setLead_stip (l : Leading) (k : Nat) : (s.setLead l).stip k = s.stip k := by rfl
@[simp] theorem State.setLead_slice (l : Leading) (k : Nat) : (s.setLead l).slice k = s.slice k := by rfl
@[simp] theorem State.setLead_liveOf (l : Leading) (k : Nat) : (s.setLead l).liveOf k = s.liveOf k := by rfl
@[simp] theorem State.setLead_offset (l : Leading) : (s.setLead l).offset = s.offset := by rfl
@[simp] theorem State.setLead_now (l : Leading) : (s.setLead l).now = s.now := by rfl
@[simp] theorem State.setLead_serving (l : Leading) : (s.setLead l).serving = s.serving := by rfl
@[simp] theorem State.setLead_clocked (l : Leading) : (s.setLead l).clocked = s.clocked := by rfl
@[simp] theorem State.setLead_coresUp (l : Leading) : (s.setLead l).coresUp = s.coresUp := by rfl

/-! ### setBale -/

@[simp] theorem State.setBale_pending (b : Bale) : (s.setBale b).pending = s.pending := by rfl
@[simp] theorem State.setBale_phase (b : Bale) : (s.setBale b).phase = s.phase := by rfl
@[simp] theorem State.setBale_fab (b : Bale) : (s.setBale b).fab = s.fab := by rfl
@[simp] theorem State.setBale_objs (b : Bale) : (s.setBale b).objs = s.objs := by rfl
@[simp] theorem State.setBale_mem (b : Bale) : (s.setBale b).mem = s.mem := by rfl
@[simp] theorem State.setBale_lanes (b : Bale) : (s.setBale b).lanes = s.lanes := by rfl
@[simp] theorem State.setBale_coll (b : Bale) : (s.setBale b).coll = s.coll := by rfl
@[simp] theorem State.setBale_ledger (b : Bale) : (s.setBale b).ledger = s.ledger := by rfl
@[simp] theorem State.setBale_store (b : Bale) : (s.setBale b).store = s.store := by rfl
@[simp] theorem State.setBale_cores (b : Bale) : (s.setBale b).cores = s.cores := by rfl
@[simp] theorem State.setBale_conv (b : Bale) : (s.setBale b).conv = s.conv := by rfl
@[simp] theorem State.setBale_cap (b : Bale) : (s.setBale b).cap = s.cap := by rfl
@[simp] theorem State.setBale_ring (b : Bale) : (s.setBale b).ring = s.ring := by rfl
@[simp] theorem State.setBale_activeArea (b : Bale) : (s.setBale b).activeArea = s.activeArea := by rfl
@[simp] theorem State.setBale_otherArea (b : Bale) : (s.setBale b).otherArea = s.otherArea := by rfl
@[simp] theorem State.setBale_input (b : Bale) : (s.setBale b).input = s.input := by rfl
@[simp] theorem State.setBale_rails (b : Bale) : (s.setBale b).rails = s.rails := by rfl
@[simp] theorem State.setBale_seq (b : Bale) : (s.setBale b).seq = s.seq := by rfl
@[simp] theorem State.setBale_pmb (b : Bale) : (s.setBale b).pmb = s.pmb := by rfl
@[simp] theorem State.setBale_railWins (b : Bale) : (s.setBale b).railWins = s.railWins := by rfl
@[simp] theorem State.setBale_live (b : Bale) : (s.setBale b).live = s.live := by rfl
@[simp] theorem State.setBale_margins (b : Bale) : (s.setBale b).margins = s.margins := by rfl
@[simp] theorem State.setBale_stips (b : Bale) : (s.setBale b).stips = s.stips := by rfl
@[simp] theorem State.setBale_sinks (b : Bale) : (s.setBale b).sinks = s.sinks := by rfl
@[simp] theorem State.setBale_gov (b : Bale) : (s.setBale b).gov = s.gov := by rfl
@[simp] theorem State.setBale_feeds (b : Bale) : (s.setBale b).feeds = s.feeds := by rfl
@[simp] theorem State.setBale_convoy (b : Bale) : (s.setBale b).convoy = s.convoy := by rfl
@[simp] theorem State.setBale_loader (b : Bale) : (s.setBale b).loader = s.loader := by rfl
@[simp] theorem State.setBale_upd (b : Bale) : (s.setBale b).upd = s.upd := by rfl
@[simp] theorem State.setBale_power (b : Bale) : (s.setBale b).power = s.power := by rfl
@[simp] theorem State.setBale_dwellFrom (b : Bale) : (s.setBale b).dwellFrom = s.dwellFrom := by rfl
@[simp] theorem State.setBale_supplies (b : Bale) : (s.setBale b).supplies = s.supplies := by rfl
@[simp] theorem State.setBale_vioClass (b : Bale) : (s.setBale b).vioClass = s.vioClass := by rfl
@[simp] theorem State.setBale_startClk (b : Bale) : (s.setBale b).startClk = s.startClk := by rfl
@[simp] theorem State.setBale_resetCause (b : Bale) : (s.setBale b).resetCause = s.resetCause := by rfl
@[simp] theorem State.setBale_filterClk (b : Bale) : (s.setBale b).filterClk = s.filterClk := by rfl
@[simp] theorem State.setBale_frozen (b : Bale) : (s.setBale b).frozen = s.frozen := by rfl
@[simp] theorem State.setBale_freezeLow (b : Bale) : (s.setBale b).freezeLow = s.freezeLow := by rfl
@[simp] theorem State.setBale_frz (b : Bale) : (s.setBale b).frz = s.frz := by rfl
@[simp] theorem State.setBale_ticked (b : Bale) : (s.setBale b).ticked = s.ticked := by rfl
@[simp] theorem State.setBale_obj (b : Bale) (k : Nat) : (s.setBale b).obj k = s.obj k := by rfl
@[simp] theorem State.setBale_objB (b : Bale) (k : Nat) : (s.setBale b).objB k = s.objB k := by rfl
@[simp] theorem State.setBale_objI (b : Bale) (k : Nat) : (s.setBale b).objI k = s.objI k := by rfl
@[simp] theorem State.setBale_rail (b : Bale) (k : Nat) : (s.setBale b).rail k = s.rail k := by rfl
@[simp] theorem State.setBale_sink (b : Bale) (k : Nat) : (s.setBale b).sink k = s.sink k := by rfl
@[simp] theorem State.setBale_feed (b : Bale) (k : Nat) : (s.setBale b).feed k = s.feed k := by rfl
@[simp] theorem State.setBale_margin (b : Bale) (k : Nat) : (s.setBale b).margin k = s.margin k := by rfl
@[simp] theorem State.setBale_stip (b : Bale) (k : Nat) : (s.setBale b).stip k = s.stip k := by rfl
@[simp] theorem State.setBale_slice (b : Bale) (k : Nat) : (s.setBale b).slice k = s.slice k := by rfl
@[simp] theorem State.setBale_liveOf (b : Bale) (k : Nat) : (s.setBale b).liveOf k = s.liveOf k := by rfl
@[simp] theorem State.setBale_offset (b : Bale) : (s.setBale b).offset = s.offset := by rfl
@[simp] theorem State.setBale_now (b : Bale) : (s.setBale b).now = s.now := by rfl
@[simp] theorem State.setBale_serving (b : Bale) : (s.setBale b).serving = s.serving := by rfl
@[simp] theorem State.setBale_clocked (b : Bale) : (s.setBale b).clocked = s.clocked := by rfl
@[simp] theorem State.setBale_coresUp (b : Bale) : (s.setBale b).coresUp = s.coresUp := by rfl

/-! ### setLiveOf -/

@[simp] theorem State.setLiveOf_pending (n : Nat) (x : Live) : (s.setLiveOf n x).pending = s.pending := by rfl
@[simp] theorem State.setLiveOf_phase (n : Nat) (x : Live) : (s.setLiveOf n x).phase = s.phase := by rfl
@[simp] theorem State.setLiveOf_fab (n : Nat) (x : Live) : (s.setLiveOf n x).fab = s.fab := by rfl
@[simp] theorem State.setLiveOf_objs (n : Nat) (x : Live) : (s.setLiveOf n x).objs = s.objs := by rfl
@[simp] theorem State.setLiveOf_mem (n : Nat) (x : Live) : (s.setLiveOf n x).mem = s.mem := by rfl
@[simp] theorem State.setLiveOf_lanes (n : Nat) (x : Live) : (s.setLiveOf n x).lanes = s.lanes := by rfl
@[simp] theorem State.setLiveOf_coll (n : Nat) (x : Live) : (s.setLiveOf n x).coll = s.coll := by rfl
@[simp] theorem State.setLiveOf_ledger (n : Nat) (x : Live) : (s.setLiveOf n x).ledger = s.ledger := by rfl
@[simp] theorem State.setLiveOf_store (n : Nat) (x : Live) : (s.setLiveOf n x).store = s.store := by rfl
@[simp] theorem State.setLiveOf_cores (n : Nat) (x : Live) : (s.setLiveOf n x).cores = s.cores := by rfl
@[simp] theorem State.setLiveOf_conv (n : Nat) (x : Live) : (s.setLiveOf n x).conv = s.conv := by rfl
@[simp] theorem State.setLiveOf_cap (n : Nat) (x : Live) : (s.setLiveOf n x).cap = s.cap := by rfl
@[simp] theorem State.setLiveOf_ring (n : Nat) (x : Live) : (s.setLiveOf n x).ring = s.ring := by rfl
@[simp] theorem State.setLiveOf_activeArea (n : Nat) (x : Live) : (s.setLiveOf n x).activeArea = s.activeArea := by rfl
@[simp] theorem State.setLiveOf_otherArea (n : Nat) (x : Live) : (s.setLiveOf n x).otherArea = s.otherArea := by rfl
@[simp] theorem State.setLiveOf_input (n : Nat) (x : Live) : (s.setLiveOf n x).input = s.input := by rfl
@[simp] theorem State.setLiveOf_rails (n : Nat) (x : Live) : (s.setLiveOf n x).rails = s.rails := by rfl
@[simp] theorem State.setLiveOf_seq (n : Nat) (x : Live) : (s.setLiveOf n x).seq = s.seq := by rfl
@[simp] theorem State.setLiveOf_pmb (n : Nat) (x : Live) : (s.setLiveOf n x).pmb = s.pmb := by rfl
@[simp] theorem State.setLiveOf_railWins (n : Nat) (x : Live) : (s.setLiveOf n x).railWins = s.railWins := by rfl
@[simp] theorem State.setLiveOf_margins (n : Nat) (x : Live) : (s.setLiveOf n x).margins = s.margins := by rfl
@[simp] theorem State.setLiveOf_stips (n : Nat) (x : Live) : (s.setLiveOf n x).stips = s.stips := by rfl
@[simp] theorem State.setLiveOf_sinks (n : Nat) (x : Live) : (s.setLiveOf n x).sinks = s.sinks := by rfl
@[simp] theorem State.setLiveOf_gov (n : Nat) (x : Live) : (s.setLiveOf n x).gov = s.gov := by rfl
@[simp] theorem State.setLiveOf_feeds (n : Nat) (x : Live) : (s.setLiveOf n x).feeds = s.feeds := by rfl
@[simp] theorem State.setLiveOf_convoy (n : Nat) (x : Live) : (s.setLiveOf n x).convoy = s.convoy := by rfl
@[simp] theorem State.setLiveOf_loader (n : Nat) (x : Live) : (s.setLiveOf n x).loader = s.loader := by rfl
@[simp] theorem State.setLiveOf_upd (n : Nat) (x : Live) : (s.setLiveOf n x).upd = s.upd := by rfl
@[simp] theorem State.setLiveOf_hosts (n : Nat) (x : Live) : (s.setLiveOf n x).hosts = s.hosts := by rfl
@[simp] theorem State.setLiveOf_power (n : Nat) (x : Live) : (s.setLiveOf n x).power = s.power := by rfl
@[simp] theorem State.setLiveOf_dwellFrom (n : Nat) (x : Live) : (s.setLiveOf n x).dwellFrom = s.dwellFrom := by rfl
@[simp] theorem State.setLiveOf_supplies (n : Nat) (x : Live) : (s.setLiveOf n x).supplies = s.supplies := by rfl
@[simp] theorem State.setLiveOf_vioClass (n : Nat) (x : Live) : (s.setLiveOf n x).vioClass = s.vioClass := by rfl
@[simp] theorem State.setLiveOf_startClk (n : Nat) (x : Live) : (s.setLiveOf n x).startClk = s.startClk := by rfl
@[simp] theorem State.setLiveOf_resetCause (n : Nat) (x : Live) : (s.setLiveOf n x).resetCause = s.resetCause := by rfl
@[simp] theorem State.setLiveOf_filterClk (n : Nat) (x : Live) : (s.setLiveOf n x).filterClk = s.filterClk := by rfl
@[simp] theorem State.setLiveOf_frozen (n : Nat) (x : Live) : (s.setLiveOf n x).frozen = s.frozen := by rfl
@[simp] theorem State.setLiveOf_freezeLow (n : Nat) (x : Live) : (s.setLiveOf n x).freezeLow = s.freezeLow := by rfl
@[simp] theorem State.setLiveOf_frz (n : Nat) (x : Live) : (s.setLiveOf n x).frz = s.frz := by rfl
@[simp] theorem State.setLiveOf_ticked (n : Nat) (x : Live) : (s.setLiveOf n x).ticked = s.ticked := by rfl
@[simp] theorem State.setLiveOf_obj (n : Nat) (x : Live) (k : Nat) : (s.setLiveOf n x).obj k = s.obj k := by rfl
@[simp] theorem State.setLiveOf_objB (n : Nat) (x : Live) (k : Nat) : (s.setLiveOf n x).objB k = s.objB k := by rfl
@[simp] theorem State.setLiveOf_objI (n : Nat) (x : Live) (k : Nat) : (s.setLiveOf n x).objI k = s.objI k := by rfl
@[simp] theorem State.setLiveOf_rail (n : Nat) (x : Live) (k : Nat) : (s.setLiveOf n x).rail k = s.rail k := by rfl
@[simp] theorem State.setLiveOf_sink (n : Nat) (x : Live) (k : Nat) : (s.setLiveOf n x).sink k = s.sink k := by rfl
@[simp] theorem State.setLiveOf_feed (n : Nat) (x : Live) (k : Nat) : (s.setLiveOf n x).feed k = s.feed k := by rfl
@[simp] theorem State.setLiveOf_port (n : Nat) (x : Live) (k : Nat) : (s.setLiveOf n x).port k = s.port k := by rfl
@[simp] theorem State.setLiveOf_margin (n : Nat) (x : Live) (k : Nat) : (s.setLiveOf n x).margin k = s.margin k := by rfl
@[simp] theorem State.setLiveOf_stip (n : Nat) (x : Live) (k : Nat) : (s.setLiveOf n x).stip k = s.stip k := by rfl
@[simp] theorem State.setLiveOf_slice (n : Nat) (x : Live) (k : Nat) : (s.setLiveOf n x).slice k = s.slice k := by rfl
@[simp] theorem State.setLiveOf_offset (n : Nat) (x : Live) : (s.setLiveOf n x).offset = s.offset := by rfl
@[simp] theorem State.setLiveOf_now (n : Nat) (x : Live) : (s.setLiveOf n x).now = s.now := by rfl
@[simp] theorem State.setLiveOf_serving (n : Nat) (x : Live) : (s.setLiveOf n x).serving = s.serving := by rfl
@[simp] theorem State.setLiveOf_clocked (n : Nat) (x : Live) : (s.setLiveOf n x).clocked = s.clocked := by rfl
@[simp] theorem State.setLiveOf_coresUp (n : Nat) (x : Live) : (s.setLiveOf n x).coresUp = s.coresUp := by rfl

/-! ### setUpd -/

@[simp] theorem State.setUpd_pending (x : UpdState) : (s.setUpd x).pending = s.pending := by rfl
@[simp] theorem State.setUpd_phase (x : UpdState) : (s.setUpd x).phase = s.phase := by rfl
@[simp] theorem State.setUpd_fab (x : UpdState) : (s.setUpd x).fab = s.fab := by rfl
@[simp] theorem State.setUpd_objs (x : UpdState) : (s.setUpd x).objs = s.objs := by rfl
@[simp] theorem State.setUpd_mem (x : UpdState) : (s.setUpd x).mem = s.mem := by rfl
@[simp] theorem State.setUpd_lanes (x : UpdState) : (s.setUpd x).lanes = s.lanes := by rfl
@[simp] theorem State.setUpd_coll (x : UpdState) : (s.setUpd x).coll = s.coll := by rfl
@[simp] theorem State.setUpd_ledger (x : UpdState) : (s.setUpd x).ledger = s.ledger := by rfl
@[simp] theorem State.setUpd_store (x : UpdState) : (s.setUpd x).store = s.store := by rfl
@[simp] theorem State.setUpd_cores (x : UpdState) : (s.setUpd x).cores = s.cores := by rfl
@[simp] theorem State.setUpd_conv (x : UpdState) : (s.setUpd x).conv = s.conv := by rfl
@[simp] theorem State.setUpd_cap (x : UpdState) : (s.setUpd x).cap = s.cap := by rfl
@[simp] theorem State.setUpd_ring (x : UpdState) : (s.setUpd x).ring = s.ring := by rfl
@[simp] theorem State.setUpd_activeArea (x : UpdState) : (s.setUpd x).activeArea = s.activeArea := by rfl
@[simp] theorem State.setUpd_otherArea (x : UpdState) : (s.setUpd x).otherArea = s.otherArea := by rfl
@[simp] theorem State.setUpd_input (x : UpdState) : (s.setUpd x).input = s.input := by rfl
@[simp] theorem State.setUpd_rails (x : UpdState) : (s.setUpd x).rails = s.rails := by rfl
@[simp] theorem State.setUpd_seq (x : UpdState) : (s.setUpd x).seq = s.seq := by rfl
@[simp] theorem State.setUpd_pmb (x : UpdState) : (s.setUpd x).pmb = s.pmb := by rfl
@[simp] theorem State.setUpd_railWins (x : UpdState) : (s.setUpd x).railWins = s.railWins := by rfl
@[simp] theorem State.setUpd_live (x : UpdState) : (s.setUpd x).live = s.live := by rfl
@[simp] theorem State.setUpd_margins (x : UpdState) : (s.setUpd x).margins = s.margins := by rfl
@[simp] theorem State.setUpd_stips (x : UpdState) : (s.setUpd x).stips = s.stips := by rfl
@[simp] theorem State.setUpd_sinks (x : UpdState) : (s.setUpd x).sinks = s.sinks := by rfl
@[simp] theorem State.setUpd_gov (x : UpdState) : (s.setUpd x).gov = s.gov := by rfl
@[simp] theorem State.setUpd_feeds (x : UpdState) : (s.setUpd x).feeds = s.feeds := by rfl
@[simp] theorem State.setUpd_convoy (x : UpdState) : (s.setUpd x).convoy = s.convoy := by rfl
@[simp] theorem State.setUpd_loader (x : UpdState) : (s.setUpd x).loader = s.loader := by rfl
@[simp] theorem State.setUpd_hosts (x : UpdState) : (s.setUpd x).hosts = s.hosts := by rfl
@[simp] theorem State.setUpd_power (x : UpdState) : (s.setUpd x).power = s.power := by rfl
@[simp] theorem State.setUpd_dwellFrom (x : UpdState) : (s.setUpd x).dwellFrom = s.dwellFrom := by rfl
@[simp] theorem State.setUpd_supplies (x : UpdState) : (s.setUpd x).supplies = s.supplies := by rfl
@[simp] theorem State.setUpd_vioClass (x : UpdState) : (s.setUpd x).vioClass = s.vioClass := by rfl
@[simp] theorem State.setUpd_startClk (x : UpdState) : (s.setUpd x).startClk = s.startClk := by rfl
@[simp] theorem State.setUpd_resetCause (x : UpdState) : (s.setUpd x).resetCause = s.resetCause := by rfl
@[simp] theorem State.setUpd_filterClk (x : UpdState) : (s.setUpd x).filterClk = s.filterClk := by rfl
@[simp] theorem State.setUpd_frozen (x : UpdState) : (s.setUpd x).frozen = s.frozen := by rfl
@[simp] theorem State.setUpd_freezeLow (x : UpdState) : (s.setUpd x).freezeLow = s.freezeLow := by rfl
@[simp] theorem State.setUpd_frz (x : UpdState) : (s.setUpd x).frz = s.frz := by rfl
@[simp] theorem State.setUpd_ticked (x : UpdState) : (s.setUpd x).ticked = s.ticked := by rfl
@[simp] theorem State.setUpd_obj (x : UpdState) (k : Nat) : (s.setUpd x).obj k = s.obj k := by rfl
@[simp] theorem State.setUpd_objB (x : UpdState) (k : Nat) : (s.setUpd x).objB k = s.objB k := by rfl
@[simp] theorem State.setUpd_objI (x : UpdState) (k : Nat) : (s.setUpd x).objI k = s.objI k := by rfl
@[simp] theorem State.setUpd_rail (x : UpdState) (k : Nat) : (s.setUpd x).rail k = s.rail k := by rfl
@[simp] theorem State.setUpd_sink (x : UpdState) (k : Nat) : (s.setUpd x).sink k = s.sink k := by rfl
@[simp] theorem State.setUpd_feed (x : UpdState) (k : Nat) : (s.setUpd x).feed k = s.feed k := by rfl
@[simp] theorem State.setUpd_port (x : UpdState) (k : Nat) : (s.setUpd x).port k = s.port k := by rfl
@[simp] theorem State.setUpd_margin (x : UpdState) (k : Nat) : (s.setUpd x).margin k = s.margin k := by rfl
@[simp] theorem State.setUpd_stip (x : UpdState) (k : Nat) : (s.setUpd x).stip k = s.stip k := by rfl
@[simp] theorem State.setUpd_slice (x : UpdState) (k : Nat) : (s.setUpd x).slice k = s.slice k := by rfl
@[simp] theorem State.setUpd_liveOf (x : UpdState) (k : Nat) : (s.setUpd x).liveOf k = s.liveOf k := by rfl
@[simp] theorem State.setUpd_offset (x : UpdState) : (s.setUpd x).offset = s.offset := by rfl
@[simp] theorem State.setUpd_now (x : UpdState) : (s.setUpd x).now = s.now := by rfl
@[simp] theorem State.setUpd_serving (x : UpdState) : (s.setUpd x).serving = s.serving := by rfl
@[simp] theorem State.setUpd_clocked (x : UpdState) : (s.setUpd x).clocked = s.clocked := by rfl
@[simp] theorem State.setUpd_coresUp (x : UpdState) : (s.setUpd x).coresUp = s.coresUp := by rfl

/-! ### setJob -/

@[simp] theorem State.setJob_pending (j : PmbJob) : (s.setJob j).pending = s.pending := by rfl
@[simp] theorem State.setJob_phase (j : PmbJob) : (s.setJob j).phase = s.phase := by rfl
@[simp] theorem State.setJob_fab (j : PmbJob) : (s.setJob j).fab = s.fab := by rfl
@[simp] theorem State.setJob_objs (j : PmbJob) : (s.setJob j).objs = s.objs := by rfl
@[simp] theorem State.setJob_mem (j : PmbJob) : (s.setJob j).mem = s.mem := by rfl
@[simp] theorem State.setJob_lanes (j : PmbJob) : (s.setJob j).lanes = s.lanes := by rfl
@[simp] theorem State.setJob_coll (j : PmbJob) : (s.setJob j).coll = s.coll := by rfl
@[simp] theorem State.setJob_ledger (j : PmbJob) : (s.setJob j).ledger = s.ledger := by rfl
@[simp] theorem State.setJob_store (j : PmbJob) : (s.setJob j).store = s.store := by rfl
@[simp] theorem State.setJob_cores (j : PmbJob) : (s.setJob j).cores = s.cores := by rfl
@[simp] theorem State.setJob_conv (j : PmbJob) : (s.setJob j).conv = s.conv := by rfl
@[simp] theorem State.setJob_cap (j : PmbJob) : (s.setJob j).cap = s.cap := by rfl
@[simp] theorem State.setJob_ring (j : PmbJob) : (s.setJob j).ring = s.ring := by rfl
@[simp] theorem State.setJob_activeArea (j : PmbJob) : (s.setJob j).activeArea = s.activeArea := by rfl
@[simp] theorem State.setJob_otherArea (j : PmbJob) : (s.setJob j).otherArea = s.otherArea := by rfl
@[simp] theorem State.setJob_input (j : PmbJob) : (s.setJob j).input = s.input := by rfl
@[simp] theorem State.setJob_rails (j : PmbJob) : (s.setJob j).rails = s.rails := by rfl
@[simp] theorem State.setJob_seq (j : PmbJob) : (s.setJob j).seq = s.seq := by rfl
@[simp] theorem State.setJob_railWins (j : PmbJob) : (s.setJob j).railWins = s.railWins := by rfl
@[simp] theorem State.setJob_live (j : PmbJob) : (s.setJob j).live = s.live := by rfl
@[simp] theorem State.setJob_margins (j : PmbJob) : (s.setJob j).margins = s.margins := by rfl
@[simp] theorem State.setJob_stips (j : PmbJob) : (s.setJob j).stips = s.stips := by rfl
@[simp] theorem State.setJob_sinks (j : PmbJob) : (s.setJob j).sinks = s.sinks := by rfl
@[simp] theorem State.setJob_gov (j : PmbJob) : (s.setJob j).gov = s.gov := by rfl
@[simp] theorem State.setJob_feeds (j : PmbJob) : (s.setJob j).feeds = s.feeds := by rfl
@[simp] theorem State.setJob_convoy (j : PmbJob) : (s.setJob j).convoy = s.convoy := by rfl
@[simp] theorem State.setJob_loader (j : PmbJob) : (s.setJob j).loader = s.loader := by rfl
@[simp] theorem State.setJob_upd (j : PmbJob) : (s.setJob j).upd = s.upd := by rfl
@[simp] theorem State.setJob_hosts (j : PmbJob) : (s.setJob j).hosts = s.hosts := by rfl
@[simp] theorem State.setJob_power (j : PmbJob) : (s.setJob j).power = s.power := by rfl
@[simp] theorem State.setJob_dwellFrom (j : PmbJob) : (s.setJob j).dwellFrom = s.dwellFrom := by rfl
@[simp] theorem State.setJob_supplies (j : PmbJob) : (s.setJob j).supplies = s.supplies := by rfl
@[simp] theorem State.setJob_vioClass (j : PmbJob) : (s.setJob j).vioClass = s.vioClass := by rfl
@[simp] theorem State.setJob_startClk (j : PmbJob) : (s.setJob j).startClk = s.startClk := by rfl
@[simp] theorem State.setJob_resetCause (j : PmbJob) : (s.setJob j).resetCause = s.resetCause := by rfl
@[simp] theorem State.setJob_filterClk (j : PmbJob) : (s.setJob j).filterClk = s.filterClk := by rfl
@[simp] theorem State.setJob_frozen (j : PmbJob) : (s.setJob j).frozen = s.frozen := by rfl
@[simp] theorem State.setJob_freezeLow (j : PmbJob) : (s.setJob j).freezeLow = s.freezeLow := by rfl
@[simp] theorem State.setJob_frz (j : PmbJob) : (s.setJob j).frz = s.frz := by rfl
@[simp] theorem State.setJob_ticked (j : PmbJob) : (s.setJob j).ticked = s.ticked := by rfl
@[simp] theorem State.setJob_obj (j : PmbJob) (k : Nat) : (s.setJob j).obj k = s.obj k := by rfl
@[simp] theorem State.setJob_objB (j : PmbJob) (k : Nat) : (s.setJob j).objB k = s.objB k := by rfl
@[simp] theorem State.setJob_objI (j : PmbJob) (k : Nat) : (s.setJob j).objI k = s.objI k := by rfl
@[simp] theorem State.setJob_rail (j : PmbJob) (k : Nat) : (s.setJob j).rail k = s.rail k := by rfl
@[simp] theorem State.setJob_sink (j : PmbJob) (k : Nat) : (s.setJob j).sink k = s.sink k := by rfl
@[simp] theorem State.setJob_feed (j : PmbJob) (k : Nat) : (s.setJob j).feed k = s.feed k := by rfl
@[simp] theorem State.setJob_port (j : PmbJob) (k : Nat) : (s.setJob j).port k = s.port k := by rfl
@[simp] theorem State.setJob_margin (j : PmbJob) (k : Nat) : (s.setJob j).margin k = s.margin k := by rfl
@[simp] theorem State.setJob_stip (j : PmbJob) (k : Nat) : (s.setJob j).stip k = s.stip k := by rfl
@[simp] theorem State.setJob_slice (j : PmbJob) (k : Nat) : (s.setJob j).slice k = s.slice k := by rfl
@[simp] theorem State.setJob_liveOf (j : PmbJob) (k : Nat) : (s.setJob j).liveOf k = s.liveOf k := by rfl
@[simp] theorem State.setJob_offset (j : PmbJob) : (s.setJob j).offset = s.offset := by rfl
@[simp] theorem State.setJob_now (j : PmbJob) : (s.setJob j).now = s.now := by rfl
@[simp] theorem State.setJob_serving (j : PmbJob) : (s.setJob j).serving = s.serving := by rfl
@[simp] theorem State.setJob_clocked (j : PmbJob) : (s.setJob j).clocked = s.clocked := by rfl
@[simp] theorem State.setJob_coresUp (j : PmbJob) : (s.setJob j).coresUp = s.coresUp := by rfl

/-! ### raiseAt -/

@[simp] theorem State.raiseAt_pending (src : Nat) (kind : Nat) (addr : Nat) (st : Stamp) : (s.raiseAt src kind addr st).pending = s.pending := by unfold State.raiseAt; split <;> rfl
@[simp] theorem State.raiseAt_phase (src : Nat) (kind : Nat) (addr : Nat) (st : Stamp) : (s.raiseAt src kind addr st).phase = s.phase := by unfold State.raiseAt; split <;> rfl
@[simp] theorem State.raiseAt_fab (src : Nat) (kind : Nat) (addr : Nat) (st : Stamp) : (s.raiseAt src kind addr st).fab = s.fab := by unfold State.raiseAt; split <;> rfl
@[simp] theorem State.raiseAt_objs (src : Nat) (kind : Nat) (addr : Nat) (st : Stamp) : (s.raiseAt src kind addr st).objs = s.objs := by unfold State.raiseAt; split <;> rfl
@[simp] theorem State.raiseAt_mem (src : Nat) (kind : Nat) (addr : Nat) (st : Stamp) : (s.raiseAt src kind addr st).mem = s.mem := by unfold State.raiseAt; split <;> rfl
@[simp] theorem State.raiseAt_lanes (src : Nat) (kind : Nat) (addr : Nat) (st : Stamp) : (s.raiseAt src kind addr st).lanes = s.lanes := by unfold State.raiseAt; split <;> rfl
@[simp] theorem State.raiseAt_ledger (src : Nat) (kind : Nat) (addr : Nat) (st : Stamp) : (s.raiseAt src kind addr st).ledger = s.ledger := by unfold State.raiseAt; split <;> rfl
@[simp] theorem State.raiseAt_store (src : Nat) (kind : Nat) (addr : Nat) (st : Stamp) : (s.raiseAt src kind addr st).store = s.store := by unfold State.raiseAt; split <;> rfl
@[simp] theorem State.raiseAt_cores (src : Nat) (kind : Nat) (addr : Nat) (st : Stamp) : (s.raiseAt src kind addr st).cores = s.cores := by unfold State.raiseAt; split <;> rfl
@[simp] theorem State.raiseAt_conv (src : Nat) (kind : Nat) (addr : Nat) (st : Stamp) : (s.raiseAt src kind addr st).conv = s.conv := by unfold State.raiseAt; split <;> rfl
@[simp] theorem State.raiseAt_cap (src : Nat) (kind : Nat) (addr : Nat) (st : Stamp) : (s.raiseAt src kind addr st).cap = s.cap := by unfold State.raiseAt; split <;> rfl
@[simp] theorem State.raiseAt_ring (src : Nat) (kind : Nat) (addr : Nat) (st : Stamp) : (s.raiseAt src kind addr st).ring = s.ring := by unfold State.raiseAt; split <;> rfl
@[simp] theorem State.raiseAt_activeArea (src : Nat) (kind : Nat) (addr : Nat) (st : Stamp) : (s.raiseAt src kind addr st).activeArea = s.activeArea := by unfold State.raiseAt; split <;> rfl
@[simp] theorem State.raiseAt_otherArea (src : Nat) (kind : Nat) (addr : Nat) (st : Stamp) : (s.raiseAt src kind addr st).otherArea = s.otherArea := by unfold State.raiseAt; split <;> rfl
@[simp] theorem State.raiseAt_input (src : Nat) (kind : Nat) (addr : Nat) (st : Stamp) : (s.raiseAt src kind addr st).input = s.input := by unfold State.raiseAt; split <;> rfl
@[simp] theorem State.raiseAt_rails (src : Nat) (kind : Nat) (addr : Nat) (st : Stamp) : (s.raiseAt src kind addr st).rails = s.rails := by unfold State.raiseAt; split <;> rfl
@[simp] theorem State.raiseAt_seq (src : Nat) (kind : Nat) (addr : Nat) (st : Stamp) : (s.raiseAt src kind addr st).seq = s.seq := by unfold State.raiseAt; split <;> rfl
@[simp] theorem State.raiseAt_pmb (src : Nat) (kind : Nat) (addr : Nat) (st : Stamp) : (s.raiseAt src kind addr st).pmb = s.pmb := by unfold State.raiseAt; split <;> rfl
@[simp] theorem State.raiseAt_railWins (src : Nat) (kind : Nat) (addr : Nat) (st : Stamp) : (s.raiseAt src kind addr st).railWins = s.railWins := by unfold State.raiseAt; split <;> rfl
@[simp] theorem State.raiseAt_live (src : Nat) (kind : Nat) (addr : Nat) (st : Stamp) : (s.raiseAt src kind addr st).live = s.live := by unfold State.raiseAt; split <;> rfl
@[simp] theorem State.raiseAt_margins (src : Nat) (kind : Nat) (addr : Nat) (st : Stamp) : (s.raiseAt src kind addr st).margins = s.margins := by unfold State.raiseAt; split <;> rfl
@[simp] theorem State.raiseAt_stips (src : Nat) (kind : Nat) (addr : Nat) (st : Stamp) : (s.raiseAt src kind addr st).stips = s.stips := by unfold State.raiseAt; split <;> rfl
@[simp] theorem State.raiseAt_sinks (src : Nat) (kind : Nat) (addr : Nat) (st : Stamp) : (s.raiseAt src kind addr st).sinks = s.sinks := by unfold State.raiseAt; split <;> rfl
@[simp] theorem State.raiseAt_gov (src : Nat) (kind : Nat) (addr : Nat) (st : Stamp) : (s.raiseAt src kind addr st).gov = s.gov := by unfold State.raiseAt; split <;> rfl
@[simp] theorem State.raiseAt_feeds (src : Nat) (kind : Nat) (addr : Nat) (st : Stamp) : (s.raiseAt src kind addr st).feeds = s.feeds := by unfold State.raiseAt; split <;> rfl
@[simp] theorem State.raiseAt_convoy (src : Nat) (kind : Nat) (addr : Nat) (st : Stamp) : (s.raiseAt src kind addr st).convoy = s.convoy := by unfold State.raiseAt; split <;> rfl
@[simp] theorem State.raiseAt_loader (src : Nat) (kind : Nat) (addr : Nat) (st : Stamp) : (s.raiseAt src kind addr st).loader = s.loader := by unfold State.raiseAt; split <;> rfl
@[simp] theorem State.raiseAt_upd (src : Nat) (kind : Nat) (addr : Nat) (st : Stamp) : (s.raiseAt src kind addr st).upd = s.upd := by unfold State.raiseAt; split <;> rfl
@[simp] theorem State.raiseAt_hosts (src : Nat) (kind : Nat) (addr : Nat) (st : Stamp) : (s.raiseAt src kind addr st).hosts = s.hosts := by unfold State.raiseAt; split <;> rfl
@[simp] theorem State.raiseAt_power (src : Nat) (kind : Nat) (addr : Nat) (st : Stamp) : (s.raiseAt src kind addr st).power = s.power := by unfold State.raiseAt; split <;> rfl
@[simp] theorem State.raiseAt_dwellFrom (src : Nat) (kind : Nat) (addr : Nat) (st : Stamp) : (s.raiseAt src kind addr st).dwellFrom = s.dwellFrom := by unfold State.raiseAt; split <;> rfl
@[simp] theorem State.raiseAt_supplies (src : Nat) (kind : Nat) (addr : Nat) (st : Stamp) : (s.raiseAt src kind addr st).supplies = s.supplies := by unfold State.raiseAt; split <;> rfl
@[simp] theorem State.raiseAt_vioClass (src : Nat) (kind : Nat) (addr : Nat) (st : Stamp) : (s.raiseAt src kind addr st).vioClass = s.vioClass := by unfold State.raiseAt; split <;> rfl
@[simp] theorem State.raiseAt_startClk (src : Nat) (kind : Nat) (addr : Nat) (st : Stamp) : (s.raiseAt src kind addr st).startClk = s.startClk := by unfold State.raiseAt; split <;> rfl
@[simp] theorem State.raiseAt_resetCause (src : Nat) (kind : Nat) (addr : Nat) (st : Stamp) : (s.raiseAt src kind addr st).resetCause = s.resetCause := by unfold State.raiseAt; split <;> rfl
@[simp] theorem State.raiseAt_filterClk (src : Nat) (kind : Nat) (addr : Nat) (st : Stamp) : (s.raiseAt src kind addr st).filterClk = s.filterClk := by unfold State.raiseAt; split <;> rfl
@[simp] theorem State.raiseAt_frozen (src : Nat) (kind : Nat) (addr : Nat) (st : Stamp) : (s.raiseAt src kind addr st).frozen = s.frozen := by unfold State.raiseAt; split <;> rfl
@[simp] theorem State.raiseAt_freezeLow (src : Nat) (kind : Nat) (addr : Nat) (st : Stamp) : (s.raiseAt src kind addr st).freezeLow = s.freezeLow := by unfold State.raiseAt; split <;> rfl
@[simp] theorem State.raiseAt_frz (src : Nat) (kind : Nat) (addr : Nat) (st : Stamp) : (s.raiseAt src kind addr st).frz = s.frz := by unfold State.raiseAt; split <;> rfl
@[simp] theorem State.raiseAt_ticked (src : Nat) (kind : Nat) (addr : Nat) (st : Stamp) : (s.raiseAt src kind addr st).ticked = s.ticked := by unfold State.raiseAt; split <;> rfl
@[simp] theorem State.raiseAt_obj (src : Nat) (kind : Nat) (addr : Nat) (st : Stamp) (k : Nat) : (s.raiseAt src kind addr st).obj k = s.obj k := by unfold State.raiseAt; split <;> rfl
@[simp] theorem State.raiseAt_objB (src : Nat) (kind : Nat) (addr : Nat) (st : Stamp) (k : Nat) : (s.raiseAt src kind addr st).objB k = s.objB k := by unfold State.raiseAt; split <;> rfl
@[simp] theorem State.raiseAt_objI (src : Nat) (kind : Nat) (addr : Nat) (st : Stamp) (k : Nat) : (s.raiseAt src kind addr st).objI k = s.objI k := by unfold State.raiseAt; split <;> rfl
@[simp] theorem State.raiseAt_rail (src : Nat) (kind : Nat) (addr : Nat) (st : Stamp) (k : Nat) : (s.raiseAt src kind addr st).rail k = s.rail k := by unfold State.raiseAt; split <;> rfl
@[simp] theorem State.raiseAt_sink (src : Nat) (kind : Nat) (addr : Nat) (st : Stamp) (k : Nat) : (s.raiseAt src kind addr st).sink k = s.sink k := by unfold State.raiseAt; split <;> rfl
@[simp] theorem State.raiseAt_feed (src : Nat) (kind : Nat) (addr : Nat) (st : Stamp) (k : Nat) : (s.raiseAt src kind addr st).feed k = s.feed k := by unfold State.raiseAt; split <;> rfl
@[simp] theorem State.raiseAt_port (src : Nat) (kind : Nat) (addr : Nat) (st : Stamp) (k : Nat) : (s.raiseAt src kind addr st).port k = s.port k := by unfold State.raiseAt; split <;> rfl
@[simp] theorem State.raiseAt_margin (src : Nat) (kind : Nat) (addr : Nat) (st : Stamp) (k : Nat) : (s.raiseAt src kind addr st).margin k = s.margin k := by unfold State.raiseAt; split <;> rfl
@[simp] theorem State.raiseAt_stip (src : Nat) (kind : Nat) (addr : Nat) (st : Stamp) (k : Nat) : (s.raiseAt src kind addr st).stip k = s.stip k := by unfold State.raiseAt; split <;> rfl
@[simp] theorem State.raiseAt_slice (src : Nat) (kind : Nat) (addr : Nat) (st : Stamp) (k : Nat) : (s.raiseAt src kind addr st).slice k = s.slice k := by unfold State.raiseAt; split <;> rfl
@[simp] theorem State.raiseAt_liveOf (src : Nat) (kind : Nat) (addr : Nat) (st : Stamp) (k : Nat) : (s.raiseAt src kind addr st).liveOf k = s.liveOf k := by unfold State.raiseAt; split <;> rfl
@[simp] theorem State.raiseAt_offset (src : Nat) (kind : Nat) (addr : Nat) (st : Stamp) : (s.raiseAt src kind addr st).offset = s.offset := by unfold State.raiseAt; split <;> rfl
@[simp] theorem State.raiseAt_now (src : Nat) (kind : Nat) (addr : Nat) (st : Stamp) : (s.raiseAt src kind addr st).now = s.now := by unfold State.raiseAt; split <;> rfl
@[simp] theorem State.raiseAt_serving (src : Nat) (kind : Nat) (addr : Nat) (st : Stamp) : (s.raiseAt src kind addr st).serving = s.serving := by unfold State.raiseAt; split <;> rfl
@[simp] theorem State.raiseAt_clocked (src : Nat) (kind : Nat) (addr : Nat) (st : Stamp) : (s.raiseAt src kind addr st).clocked = s.clocked := by unfold State.raiseAt; split <;> rfl
@[simp] theorem State.raiseAt_coresUp (src : Nat) (kind : Nat) (addr : Nat) (st : Stamp) : (s.raiseAt src kind addr st).coresUp = s.coresUp := by unfold State.raiseAt; split <;> rfl

/-! ### raise -/

@[simp] theorem State.raise_pending (src : Nat) (kind : Nat) (addr : Nat) : (s.raise src kind addr).pending = s.pending := by unfold State.raise State.raiseAt; split <;> rfl
@[simp] theorem State.raise_phase (src : Nat) (kind : Nat) (addr : Nat) : (s.raise src kind addr).phase = s.phase := by unfold State.raise State.raiseAt; split <;> rfl
@[simp] theorem State.raise_fab (src : Nat) (kind : Nat) (addr : Nat) : (s.raise src kind addr).fab = s.fab := by unfold State.raise State.raiseAt; split <;> rfl
@[simp] theorem State.raise_objs (src : Nat) (kind : Nat) (addr : Nat) : (s.raise src kind addr).objs = s.objs := by unfold State.raise State.raiseAt; split <;> rfl
@[simp] theorem State.raise_mem (src : Nat) (kind : Nat) (addr : Nat) : (s.raise src kind addr).mem = s.mem := by unfold State.raise State.raiseAt; split <;> rfl
@[simp] theorem State.raise_lanes (src : Nat) (kind : Nat) (addr : Nat) : (s.raise src kind addr).lanes = s.lanes := by unfold State.raise State.raiseAt; split <;> rfl
@[simp] theorem State.raise_ledger (src : Nat) (kind : Nat) (addr : Nat) : (s.raise src kind addr).ledger = s.ledger := by unfold State.raise State.raiseAt; split <;> rfl
@[simp] theorem State.raise_store (src : Nat) (kind : Nat) (addr : Nat) : (s.raise src kind addr).store = s.store := by unfold State.raise State.raiseAt; split <;> rfl
@[simp] theorem State.raise_cores (src : Nat) (kind : Nat) (addr : Nat) : (s.raise src kind addr).cores = s.cores := by unfold State.raise State.raiseAt; split <;> rfl
@[simp] theorem State.raise_conv (src : Nat) (kind : Nat) (addr : Nat) : (s.raise src kind addr).conv = s.conv := by unfold State.raise State.raiseAt; split <;> rfl
@[simp] theorem State.raise_cap (src : Nat) (kind : Nat) (addr : Nat) : (s.raise src kind addr).cap = s.cap := by unfold State.raise State.raiseAt; split <;> rfl
@[simp] theorem State.raise_ring (src : Nat) (kind : Nat) (addr : Nat) : (s.raise src kind addr).ring = s.ring := by unfold State.raise State.raiseAt; split <;> rfl
@[simp] theorem State.raise_activeArea (src : Nat) (kind : Nat) (addr : Nat) : (s.raise src kind addr).activeArea = s.activeArea := by unfold State.raise State.raiseAt; split <;> rfl
@[simp] theorem State.raise_otherArea (src : Nat) (kind : Nat) (addr : Nat) : (s.raise src kind addr).otherArea = s.otherArea := by unfold State.raise State.raiseAt; split <;> rfl
@[simp] theorem State.raise_input (src : Nat) (kind : Nat) (addr : Nat) : (s.raise src kind addr).input = s.input := by unfold State.raise State.raiseAt; split <;> rfl
@[simp] theorem State.raise_rails (src : Nat) (kind : Nat) (addr : Nat) : (s.raise src kind addr).rails = s.rails := by unfold State.raise State.raiseAt; split <;> rfl
@[simp] theorem State.raise_seq (src : Nat) (kind : Nat) (addr : Nat) : (s.raise src kind addr).seq = s.seq := by unfold State.raise State.raiseAt; split <;> rfl
@[simp] theorem State.raise_pmb (src : Nat) (kind : Nat) (addr : Nat) : (s.raise src kind addr).pmb = s.pmb := by unfold State.raise State.raiseAt; split <;> rfl
@[simp] theorem State.raise_railWins (src : Nat) (kind : Nat) (addr : Nat) : (s.raise src kind addr).railWins = s.railWins := by unfold State.raise State.raiseAt; split <;> rfl
@[simp] theorem State.raise_live (src : Nat) (kind : Nat) (addr : Nat) : (s.raise src kind addr).live = s.live := by unfold State.raise State.raiseAt; split <;> rfl
@[simp] theorem State.raise_margins (src : Nat) (kind : Nat) (addr : Nat) : (s.raise src kind addr).margins = s.margins := by unfold State.raise State.raiseAt; split <;> rfl
@[simp] theorem State.raise_stips (src : Nat) (kind : Nat) (addr : Nat) : (s.raise src kind addr).stips = s.stips := by unfold State.raise State.raiseAt; split <;> rfl
@[simp] theorem State.raise_sinks (src : Nat) (kind : Nat) (addr : Nat) : (s.raise src kind addr).sinks = s.sinks := by unfold State.raise State.raiseAt; split <;> rfl
@[simp] theorem State.raise_gov (src : Nat) (kind : Nat) (addr : Nat) : (s.raise src kind addr).gov = s.gov := by unfold State.raise State.raiseAt; split <;> rfl
@[simp] theorem State.raise_feeds (src : Nat) (kind : Nat) (addr : Nat) : (s.raise src kind addr).feeds = s.feeds := by unfold State.raise State.raiseAt; split <;> rfl
@[simp] theorem State.raise_convoy (src : Nat) (kind : Nat) (addr : Nat) : (s.raise src kind addr).convoy = s.convoy := by unfold State.raise State.raiseAt; split <;> rfl
@[simp] theorem State.raise_loader (src : Nat) (kind : Nat) (addr : Nat) : (s.raise src kind addr).loader = s.loader := by unfold State.raise State.raiseAt; split <;> rfl
@[simp] theorem State.raise_upd (src : Nat) (kind : Nat) (addr : Nat) : (s.raise src kind addr).upd = s.upd := by unfold State.raise State.raiseAt; split <;> rfl
@[simp] theorem State.raise_hosts (src : Nat) (kind : Nat) (addr : Nat) : (s.raise src kind addr).hosts = s.hosts := by unfold State.raise State.raiseAt; split <;> rfl
@[simp] theorem State.raise_power (src : Nat) (kind : Nat) (addr : Nat) : (s.raise src kind addr).power = s.power := by unfold State.raise State.raiseAt; split <;> rfl
@[simp] theorem State.raise_dwellFrom (src : Nat) (kind : Nat) (addr : Nat) : (s.raise src kind addr).dwellFrom = s.dwellFrom := by unfold State.raise State.raiseAt; split <;> rfl
@[simp] theorem State.raise_supplies (src : Nat) (kind : Nat) (addr : Nat) : (s.raise src kind addr).supplies = s.supplies := by unfold State.raise State.raiseAt; split <;> rfl
@[simp] theorem State.raise_vioClass (src : Nat) (kind : Nat) (addr : Nat) : (s.raise src kind addr).vioClass = s.vioClass := by unfold State.raise State.raiseAt; split <;> rfl
@[simp] theorem State.raise_startClk (src : Nat) (kind : Nat) (addr : Nat) : (s.raise src kind addr).startClk = s.startClk := by unfold State.raise State.raiseAt; split <;> rfl
@[simp] theorem State.raise_resetCause (src : Nat) (kind : Nat) (addr : Nat) : (s.raise src kind addr).resetCause = s.resetCause := by unfold State.raise State.raiseAt; split <;> rfl
@[simp] theorem State.raise_filterClk (src : Nat) (kind : Nat) (addr : Nat) : (s.raise src kind addr).filterClk = s.filterClk := by unfold State.raise State.raiseAt; split <;> rfl
@[simp] theorem State.raise_frozen (src : Nat) (kind : Nat) (addr : Nat) : (s.raise src kind addr).frozen = s.frozen := by unfold State.raise State.raiseAt; split <;> rfl
@[simp] theorem State.raise_freezeLow (src : Nat) (kind : Nat) (addr : Nat) : (s.raise src kind addr).freezeLow = s.freezeLow := by unfold State.raise State.raiseAt; split <;> rfl
@[simp] theorem State.raise_frz (src : Nat) (kind : Nat) (addr : Nat) : (s.raise src kind addr).frz = s.frz := by unfold State.raise State.raiseAt; split <;> rfl
@[simp] theorem State.raise_ticked (src : Nat) (kind : Nat) (addr : Nat) : (s.raise src kind addr).ticked = s.ticked := by unfold State.raise State.raiseAt; split <;> rfl
@[simp] theorem State.raise_obj (src : Nat) (kind : Nat) (addr : Nat) (k : Nat) : (s.raise src kind addr).obj k = s.obj k := by unfold State.raise State.raiseAt; split <;> rfl
@[simp] theorem State.raise_objB (src : Nat) (kind : Nat) (addr : Nat) (k : Nat) : (s.raise src kind addr).objB k = s.objB k := by unfold State.raise State.raiseAt; split <;> rfl
@[simp] theorem State.raise_objI (src : Nat) (kind : Nat) (addr : Nat) (k : Nat) : (s.raise src kind addr).objI k = s.objI k := by unfold State.raise State.raiseAt; split <;> rfl
@[simp] theorem State.raise_rail (src : Nat) (kind : Nat) (addr : Nat) (k : Nat) : (s.raise src kind addr).rail k = s.rail k := by unfold State.raise State.raiseAt; split <;> rfl
@[simp] theorem State.raise_sink (src : Nat) (kind : Nat) (addr : Nat) (k : Nat) : (s.raise src kind addr).sink k = s.sink k := by unfold State.raise State.raiseAt; split <;> rfl
@[simp] theorem State.raise_feed (src : Nat) (kind : Nat) (addr : Nat) (k : Nat) : (s.raise src kind addr).feed k = s.feed k := by unfold State.raise State.raiseAt; split <;> rfl
@[simp] theorem State.raise_port (src : Nat) (kind : Nat) (addr : Nat) (k : Nat) : (s.raise src kind addr).port k = s.port k := by unfold State.raise State.raiseAt; split <;> rfl
@[simp] theorem State.raise_margin (src : Nat) (kind : Nat) (addr : Nat) (k : Nat) : (s.raise src kind addr).margin k = s.margin k := by unfold State.raise State.raiseAt; split <;> rfl
@[simp] theorem State.raise_stip (src : Nat) (kind : Nat) (addr : Nat) (k : Nat) : (s.raise src kind addr).stip k = s.stip k := by unfold State.raise State.raiseAt; split <;> rfl
@[simp] theorem State.raise_slice (src : Nat) (kind : Nat) (addr : Nat) (k : Nat) : (s.raise src kind addr).slice k = s.slice k := by unfold State.raise State.raiseAt; split <;> rfl
@[simp] theorem State.raise_liveOf (src : Nat) (kind : Nat) (addr : Nat) (k : Nat) : (s.raise src kind addr).liveOf k = s.liveOf k := by unfold State.raise State.raiseAt; split <;> rfl
@[simp] theorem State.raise_offset (src : Nat) (kind : Nat) (addr : Nat) : (s.raise src kind addr).offset = s.offset := by unfold State.raise State.raiseAt; split <;> rfl
@[simp] theorem State.raise_now (src : Nat) (kind : Nat) (addr : Nat) : (s.raise src kind addr).now = s.now := by unfold State.raise State.raiseAt; split <;> rfl
@[simp] theorem State.raise_serving (src : Nat) (kind : Nat) (addr : Nat) : (s.raise src kind addr).serving = s.serving := by unfold State.raise State.raiseAt; split <;> rfl
@[simp] theorem State.raise_clocked (src : Nat) (kind : Nat) (addr : Nat) : (s.raise src kind addr).clocked = s.clocked := by unfold State.raise State.raiseAt; split <;> rfl
@[simp] theorem State.raise_coresUp (src : Nat) (kind : Nat) (addr : Nat) : (s.raise src kind addr).coresUp = s.coresUp := by unfold State.raise State.raiseAt; split <;> rfl

/-! ### postLane -/

@[simp] theorem State.postLane_pending (kind : LaneKind) (base : Nat) (target : Nat) (ref : Nat) (mask : Nat) (pages : List Nat) : (s.postLane kind base target ref mask pages).pending = s.pending := by rfl
@[simp] theorem State.postLane_phase (kind : LaneKind) (base : Nat) (target : Nat) (ref : Nat) (mask : Nat) (pages : List Nat) : (s.postLane kind base target ref mask pages).phase = s.phase := by rfl
@[simp] theorem State.postLane_fab (kind : LaneKind) (base : Nat) (target : Nat) (ref : Nat) (mask : Nat) (pages : List Nat) : (s.postLane kind base target ref mask pages).fab = s.fab := by rfl
@[simp] theorem State.postLane_objs (kind : LaneKind) (base : Nat) (target : Nat) (ref : Nat) (mask : Nat) (pages : List Nat) : (s.postLane kind base target ref mask pages).objs = s.objs := by rfl
@[simp] theorem State.postLane_mem (kind : LaneKind) (base : Nat) (target : Nat) (ref : Nat) (mask : Nat) (pages : List Nat) : (s.postLane kind base target ref mask pages).mem = s.mem := by rfl
@[simp] theorem State.postLane_coll (kind : LaneKind) (base : Nat) (target : Nat) (ref : Nat) (mask : Nat) (pages : List Nat) : (s.postLane kind base target ref mask pages).coll = s.coll := by rfl
@[simp] theorem State.postLane_ledger (kind : LaneKind) (base : Nat) (target : Nat) (ref : Nat) (mask : Nat) (pages : List Nat) : (s.postLane kind base target ref mask pages).ledger = s.ledger := by rfl
@[simp] theorem State.postLane_store (kind : LaneKind) (base : Nat) (target : Nat) (ref : Nat) (mask : Nat) (pages : List Nat) : (s.postLane kind base target ref mask pages).store = s.store := by rfl
@[simp] theorem State.postLane_cores (kind : LaneKind) (base : Nat) (target : Nat) (ref : Nat) (mask : Nat) (pages : List Nat) : (s.postLane kind base target ref mask pages).cores = s.cores := by rfl
@[simp] theorem State.postLane_conv (kind : LaneKind) (base : Nat) (target : Nat) (ref : Nat) (mask : Nat) (pages : List Nat) : (s.postLane kind base target ref mask pages).conv = s.conv := by rfl
@[simp] theorem State.postLane_cap (kind : LaneKind) (base : Nat) (target : Nat) (ref : Nat) (mask : Nat) (pages : List Nat) : (s.postLane kind base target ref mask pages).cap = s.cap := by rfl
@[simp] theorem State.postLane_ring (kind : LaneKind) (base : Nat) (target : Nat) (ref : Nat) (mask : Nat) (pages : List Nat) : (s.postLane kind base target ref mask pages).ring = s.ring := by rfl
@[simp] theorem State.postLane_activeArea (kind : LaneKind) (base : Nat) (target : Nat) (ref : Nat) (mask : Nat) (pages : List Nat) : (s.postLane kind base target ref mask pages).activeArea = s.activeArea := by rfl
@[simp] theorem State.postLane_otherArea (kind : LaneKind) (base : Nat) (target : Nat) (ref : Nat) (mask : Nat) (pages : List Nat) : (s.postLane kind base target ref mask pages).otherArea = s.otherArea := by rfl
@[simp] theorem State.postLane_input (kind : LaneKind) (base : Nat) (target : Nat) (ref : Nat) (mask : Nat) (pages : List Nat) : (s.postLane kind base target ref mask pages).input = s.input := by rfl
@[simp] theorem State.postLane_rails (kind : LaneKind) (base : Nat) (target : Nat) (ref : Nat) (mask : Nat) (pages : List Nat) : (s.postLane kind base target ref mask pages).rails = s.rails := by rfl
@[simp] theorem State.postLane_seq (kind : LaneKind) (base : Nat) (target : Nat) (ref : Nat) (mask : Nat) (pages : List Nat) : (s.postLane kind base target ref mask pages).seq = s.seq := by rfl
@[simp] theorem State.postLane_pmb (kind : LaneKind) (base : Nat) (target : Nat) (ref : Nat) (mask : Nat) (pages : List Nat) : (s.postLane kind base target ref mask pages).pmb = s.pmb := by rfl
@[simp] theorem State.postLane_railWins (kind : LaneKind) (base : Nat) (target : Nat) (ref : Nat) (mask : Nat) (pages : List Nat) : (s.postLane kind base target ref mask pages).railWins = s.railWins := by rfl
@[simp] theorem State.postLane_live (kind : LaneKind) (base : Nat) (target : Nat) (ref : Nat) (mask : Nat) (pages : List Nat) : (s.postLane kind base target ref mask pages).live = s.live := by rfl
@[simp] theorem State.postLane_margins (kind : LaneKind) (base : Nat) (target : Nat) (ref : Nat) (mask : Nat) (pages : List Nat) : (s.postLane kind base target ref mask pages).margins = s.margins := by rfl
@[simp] theorem State.postLane_stips (kind : LaneKind) (base : Nat) (target : Nat) (ref : Nat) (mask : Nat) (pages : List Nat) : (s.postLane kind base target ref mask pages).stips = s.stips := by rfl
@[simp] theorem State.postLane_sinks (kind : LaneKind) (base : Nat) (target : Nat) (ref : Nat) (mask : Nat) (pages : List Nat) : (s.postLane kind base target ref mask pages).sinks = s.sinks := by rfl
@[simp] theorem State.postLane_gov (kind : LaneKind) (base : Nat) (target : Nat) (ref : Nat) (mask : Nat) (pages : List Nat) : (s.postLane kind base target ref mask pages).gov = s.gov := by rfl
@[simp] theorem State.postLane_feeds (kind : LaneKind) (base : Nat) (target : Nat) (ref : Nat) (mask : Nat) (pages : List Nat) : (s.postLane kind base target ref mask pages).feeds = s.feeds := by rfl
@[simp] theorem State.postLane_convoy (kind : LaneKind) (base : Nat) (target : Nat) (ref : Nat) (mask : Nat) (pages : List Nat) : (s.postLane kind base target ref mask pages).convoy = s.convoy := by rfl
@[simp] theorem State.postLane_loader (kind : LaneKind) (base : Nat) (target : Nat) (ref : Nat) (mask : Nat) (pages : List Nat) : (s.postLane kind base target ref mask pages).loader = s.loader := by rfl
@[simp] theorem State.postLane_upd (kind : LaneKind) (base : Nat) (target : Nat) (ref : Nat) (mask : Nat) (pages : List Nat) : (s.postLane kind base target ref mask pages).upd = s.upd := by rfl
@[simp] theorem State.postLane_hosts (kind : LaneKind) (base : Nat) (target : Nat) (ref : Nat) (mask : Nat) (pages : List Nat) : (s.postLane kind base target ref mask pages).hosts = s.hosts := by rfl
@[simp] theorem State.postLane_power (kind : LaneKind) (base : Nat) (target : Nat) (ref : Nat) (mask : Nat) (pages : List Nat) : (s.postLane kind base target ref mask pages).power = s.power := by rfl
@[simp] theorem State.postLane_dwellFrom (kind : LaneKind) (base : Nat) (target : Nat) (ref : Nat) (mask : Nat) (pages : List Nat) : (s.postLane kind base target ref mask pages).dwellFrom = s.dwellFrom := by rfl
@[simp] theorem State.postLane_supplies (kind : LaneKind) (base : Nat) (target : Nat) (ref : Nat) (mask : Nat) (pages : List Nat) : (s.postLane kind base target ref mask pages).supplies = s.supplies := by rfl
@[simp] theorem State.postLane_vioClass (kind : LaneKind) (base : Nat) (target : Nat) (ref : Nat) (mask : Nat) (pages : List Nat) : (s.postLane kind base target ref mask pages).vioClass = s.vioClass := by rfl
@[simp] theorem State.postLane_startClk (kind : LaneKind) (base : Nat) (target : Nat) (ref : Nat) (mask : Nat) (pages : List Nat) : (s.postLane kind base target ref mask pages).startClk = s.startClk := by rfl
@[simp] theorem State.postLane_resetCause (kind : LaneKind) (base : Nat) (target : Nat) (ref : Nat) (mask : Nat) (pages : List Nat) : (s.postLane kind base target ref mask pages).resetCause = s.resetCause := by rfl
@[simp] theorem State.postLane_filterClk (kind : LaneKind) (base : Nat) (target : Nat) (ref : Nat) (mask : Nat) (pages : List Nat) : (s.postLane kind base target ref mask pages).filterClk = s.filterClk := by rfl
@[simp] theorem State.postLane_frozen (kind : LaneKind) (base : Nat) (target : Nat) (ref : Nat) (mask : Nat) (pages : List Nat) : (s.postLane kind base target ref mask pages).frozen = s.frozen := by rfl
@[simp] theorem State.postLane_freezeLow (kind : LaneKind) (base : Nat) (target : Nat) (ref : Nat) (mask : Nat) (pages : List Nat) : (s.postLane kind base target ref mask pages).freezeLow = s.freezeLow := by rfl
@[simp] theorem State.postLane_frz (kind : LaneKind) (base : Nat) (target : Nat) (ref : Nat) (mask : Nat) (pages : List Nat) : (s.postLane kind base target ref mask pages).frz = s.frz := by rfl
@[simp] theorem State.postLane_ticked (kind : LaneKind) (base : Nat) (target : Nat) (ref : Nat) (mask : Nat) (pages : List Nat) : (s.postLane kind base target ref mask pages).ticked = s.ticked := by rfl
@[simp] theorem State.postLane_obj (kind : LaneKind) (base : Nat) (target : Nat) (ref : Nat) (mask : Nat) (pages : List Nat) (k : Nat) : (s.postLane kind base target ref mask pages).obj k = s.obj k := by rfl
@[simp] theorem State.postLane_objB (kind : LaneKind) (base : Nat) (target : Nat) (ref : Nat) (mask : Nat) (pages : List Nat) (k : Nat) : (s.postLane kind base target ref mask pages).objB k = s.objB k := by rfl
@[simp] theorem State.postLane_objI (kind : LaneKind) (base : Nat) (target : Nat) (ref : Nat) (mask : Nat) (pages : List Nat) (k : Nat) : (s.postLane kind base target ref mask pages).objI k = s.objI k := by rfl
@[simp] theorem State.postLane_rail (kind : LaneKind) (base : Nat) (target : Nat) (ref : Nat) (mask : Nat) (pages : List Nat) (k : Nat) : (s.postLane kind base target ref mask pages).rail k = s.rail k := by rfl
@[simp] theorem State.postLane_sink (kind : LaneKind) (base : Nat) (target : Nat) (ref : Nat) (mask : Nat) (pages : List Nat) (k : Nat) : (s.postLane kind base target ref mask pages).sink k = s.sink k := by rfl
@[simp] theorem State.postLane_feed (kind : LaneKind) (base : Nat) (target : Nat) (ref : Nat) (mask : Nat) (pages : List Nat) (k : Nat) : (s.postLane kind base target ref mask pages).feed k = s.feed k := by rfl
@[simp] theorem State.postLane_port (kind : LaneKind) (base : Nat) (target : Nat) (ref : Nat) (mask : Nat) (pages : List Nat) (k : Nat) : (s.postLane kind base target ref mask pages).port k = s.port k := by rfl
@[simp] theorem State.postLane_margin (kind : LaneKind) (base : Nat) (target : Nat) (ref : Nat) (mask : Nat) (pages : List Nat) (k : Nat) : (s.postLane kind base target ref mask pages).margin k = s.margin k := by rfl
@[simp] theorem State.postLane_stip (kind : LaneKind) (base : Nat) (target : Nat) (ref : Nat) (mask : Nat) (pages : List Nat) (k : Nat) : (s.postLane kind base target ref mask pages).stip k = s.stip k := by rfl
@[simp] theorem State.postLane_slice (kind : LaneKind) (base : Nat) (target : Nat) (ref : Nat) (mask : Nat) (pages : List Nat) (k : Nat) : (s.postLane kind base target ref mask pages).slice k = s.slice k := by rfl
@[simp] theorem State.postLane_liveOf (kind : LaneKind) (base : Nat) (target : Nat) (ref : Nat) (mask : Nat) (pages : List Nat) (k : Nat) : (s.postLane kind base target ref mask pages).liveOf k = s.liveOf k := by rfl
@[simp] theorem State.postLane_offset (kind : LaneKind) (base : Nat) (target : Nat) (ref : Nat) (mask : Nat) (pages : List Nat) : (s.postLane kind base target ref mask pages).offset = s.offset := by rfl
@[simp] theorem State.postLane_now (kind : LaneKind) (base : Nat) (target : Nat) (ref : Nat) (mask : Nat) (pages : List Nat) : (s.postLane kind base target ref mask pages).now = s.now := by rfl
@[simp] theorem State.postLane_serving (kind : LaneKind) (base : Nat) (target : Nat) (ref : Nat) (mask : Nat) (pages : List Nat) : (s.postLane kind base target ref mask pages).serving = s.serving := by rfl
@[simp] theorem State.postLane_clocked (kind : LaneKind) (base : Nat) (target : Nat) (ref : Nat) (mask : Nat) (pages : List Nat) : (s.postLane kind base target ref mask pages).clocked = s.clocked := by rfl
@[simp] theorem State.postLane_coresUp (kind : LaneKind) (base : Nat) (target : Nat) (ref : Nat) (mask : Nat) (pages : List Nat) : (s.postLane kind base target ref mask pages).coresUp = s.coresUp := by rfl

/-! ### freeLane -/

@[simp] theorem State.freeLane_pending (lane : Nat) : (s.freeLane lane).pending = s.pending := by rfl
@[simp] theorem State.freeLane_phase (lane : Nat) : (s.freeLane lane).phase = s.phase := by rfl
@[simp] theorem State.freeLane_fab (lane : Nat) : (s.freeLane lane).fab = s.fab := by rfl
@[simp] theorem State.freeLane_objs (lane : Nat) : (s.freeLane lane).objs = s.objs := by rfl
@[simp] theorem State.freeLane_mem (lane : Nat) : (s.freeLane lane).mem = s.mem := by rfl
@[simp] theorem State.freeLane_coll (lane : Nat) : (s.freeLane lane).coll = s.coll := by rfl
@[simp] theorem State.freeLane_ledger (lane : Nat) : (s.freeLane lane).ledger = s.ledger := by rfl
@[simp] theorem State.freeLane_store (lane : Nat) : (s.freeLane lane).store = s.store := by rfl
@[simp] theorem State.freeLane_cores (lane : Nat) : (s.freeLane lane).cores = s.cores := by rfl
@[simp] theorem State.freeLane_conv (lane : Nat) : (s.freeLane lane).conv = s.conv := by rfl
@[simp] theorem State.freeLane_cap (lane : Nat) : (s.freeLane lane).cap = s.cap := by rfl
@[simp] theorem State.freeLane_ring (lane : Nat) : (s.freeLane lane).ring = s.ring := by rfl
@[simp] theorem State.freeLane_activeArea (lane : Nat) : (s.freeLane lane).activeArea = s.activeArea := by rfl
@[simp] theorem State.freeLane_otherArea (lane : Nat) : (s.freeLane lane).otherArea = s.otherArea := by rfl
@[simp] theorem State.freeLane_input (lane : Nat) : (s.freeLane lane).input = s.input := by rfl
@[simp] theorem State.freeLane_rails (lane : Nat) : (s.freeLane lane).rails = s.rails := by rfl
@[simp] theorem State.freeLane_seq (lane : Nat) : (s.freeLane lane).seq = s.seq := by rfl
@[simp] theorem State.freeLane_pmb (lane : Nat) : (s.freeLane lane).pmb = s.pmb := by rfl
@[simp] theorem State.freeLane_railWins (lane : Nat) : (s.freeLane lane).railWins = s.railWins := by rfl
@[simp] theorem State.freeLane_live (lane : Nat) : (s.freeLane lane).live = s.live := by rfl
@[simp] theorem State.freeLane_margins (lane : Nat) : (s.freeLane lane).margins = s.margins := by rfl
@[simp] theorem State.freeLane_stips (lane : Nat) : (s.freeLane lane).stips = s.stips := by rfl
@[simp] theorem State.freeLane_sinks (lane : Nat) : (s.freeLane lane).sinks = s.sinks := by rfl
@[simp] theorem State.freeLane_gov (lane : Nat) : (s.freeLane lane).gov = s.gov := by rfl
@[simp] theorem State.freeLane_feeds (lane : Nat) : (s.freeLane lane).feeds = s.feeds := by rfl
@[simp] theorem State.freeLane_convoy (lane : Nat) : (s.freeLane lane).convoy = s.convoy := by rfl
@[simp] theorem State.freeLane_loader (lane : Nat) : (s.freeLane lane).loader = s.loader := by rfl
@[simp] theorem State.freeLane_upd (lane : Nat) : (s.freeLane lane).upd = s.upd := by rfl
@[simp] theorem State.freeLane_hosts (lane : Nat) : (s.freeLane lane).hosts = s.hosts := by rfl
@[simp] theorem State.freeLane_power (lane : Nat) : (s.freeLane lane).power = s.power := by rfl
@[simp] theorem State.freeLane_dwellFrom (lane : Nat) : (s.freeLane lane).dwellFrom = s.dwellFrom := by rfl
@[simp] theorem State.freeLane_supplies (lane : Nat) : (s.freeLane lane).supplies = s.supplies := by rfl
@[simp] theorem State.freeLane_vioClass (lane : Nat) : (s.freeLane lane).vioClass = s.vioClass := by rfl
@[simp] theorem State.freeLane_startClk (lane : Nat) : (s.freeLane lane).startClk = s.startClk := by rfl
@[simp] theorem State.freeLane_resetCause (lane : Nat) : (s.freeLane lane).resetCause = s.resetCause := by rfl
@[simp] theorem State.freeLane_filterClk (lane : Nat) : (s.freeLane lane).filterClk = s.filterClk := by rfl
@[simp] theorem State.freeLane_frozen (lane : Nat) : (s.freeLane lane).frozen = s.frozen := by rfl
@[simp] theorem State.freeLane_freezeLow (lane : Nat) : (s.freeLane lane).freezeLow = s.freezeLow := by rfl
@[simp] theorem State.freeLane_frz (lane : Nat) : (s.freeLane lane).frz = s.frz := by rfl
@[simp] theorem State.freeLane_ticked (lane : Nat) : (s.freeLane lane).ticked = s.ticked := by rfl
@[simp] theorem State.freeLane_obj (lane : Nat) (k : Nat) : (s.freeLane lane).obj k = s.obj k := by rfl
@[simp] theorem State.freeLane_objB (lane : Nat) (k : Nat) : (s.freeLane lane).objB k = s.objB k := by rfl
@[simp] theorem State.freeLane_objI (lane : Nat) (k : Nat) : (s.freeLane lane).objI k = s.objI k := by rfl
@[simp] theorem State.freeLane_rail (lane : Nat) (k : Nat) : (s.freeLane lane).rail k = s.rail k := by rfl
@[simp] theorem State.freeLane_sink (lane : Nat) (k : Nat) : (s.freeLane lane).sink k = s.sink k := by rfl
@[simp] theorem State.freeLane_feed (lane : Nat) (k : Nat) : (s.freeLane lane).feed k = s.feed k := by rfl
@[simp] theorem State.freeLane_port (lane : Nat) (k : Nat) : (s.freeLane lane).port k = s.port k := by rfl
@[simp] theorem State.freeLane_margin (lane : Nat) (k : Nat) : (s.freeLane lane).margin k = s.margin k := by rfl
@[simp] theorem State.freeLane_stip (lane : Nat) (k : Nat) : (s.freeLane lane).stip k = s.stip k := by rfl
@[simp] theorem State.freeLane_slice (lane : Nat) (k : Nat) : (s.freeLane lane).slice k = s.slice k := by rfl
@[simp] theorem State.freeLane_liveOf (lane : Nat) (k : Nat) : (s.freeLane lane).liveOf k = s.liveOf k := by rfl
@[simp] theorem State.freeLane_offset (lane : Nat) : (s.freeLane lane).offset = s.offset := by rfl
@[simp] theorem State.freeLane_now (lane : Nat) : (s.freeLane lane).now = s.now := by rfl
@[simp] theorem State.freeLane_serving (lane : Nat) : (s.freeLane lane).serving = s.serving := by rfl
@[simp] theorem State.freeLane_clocked (lane : Nat) : (s.freeLane lane).clocked = s.clocked := by rfl
@[simp] theorem State.freeLane_coresUp (lane : Nat) : (s.freeLane lane).coresUp = s.coresUp := by rfl

/-! ### takeRailLane -/

@[simp] theorem State.takeRailLane_pending (n : Nat) (kind : LaneKind) (base : Nat) : (s.takeRailLane n kind base).pending = s.pending := by rfl
@[simp] theorem State.takeRailLane_phase (n : Nat) (kind : LaneKind) (base : Nat) : (s.takeRailLane n kind base).phase = s.phase := by rfl
@[simp] theorem State.takeRailLane_fab (n : Nat) (kind : LaneKind) (base : Nat) : (s.takeRailLane n kind base).fab = s.fab := by rfl
@[simp] theorem State.takeRailLane_objs (n : Nat) (kind : LaneKind) (base : Nat) : (s.takeRailLane n kind base).objs = s.objs := by rfl
@[simp] theorem State.takeRailLane_mem (n : Nat) (kind : LaneKind) (base : Nat) : (s.takeRailLane n kind base).mem = s.mem := by rfl
@[simp] theorem State.takeRailLane_coll (n : Nat) (kind : LaneKind) (base : Nat) : (s.takeRailLane n kind base).coll = s.coll := by rfl
@[simp] theorem State.takeRailLane_ledger (n : Nat) (kind : LaneKind) (base : Nat) : (s.takeRailLane n kind base).ledger = s.ledger := by rfl
@[simp] theorem State.takeRailLane_store (n : Nat) (kind : LaneKind) (base : Nat) : (s.takeRailLane n kind base).store = s.store := by rfl
@[simp] theorem State.takeRailLane_cores (n : Nat) (kind : LaneKind) (base : Nat) : (s.takeRailLane n kind base).cores = s.cores := by rfl
@[simp] theorem State.takeRailLane_conv (n : Nat) (kind : LaneKind) (base : Nat) : (s.takeRailLane n kind base).conv = s.conv := by rfl
@[simp] theorem State.takeRailLane_cap (n : Nat) (kind : LaneKind) (base : Nat) : (s.takeRailLane n kind base).cap = s.cap := by rfl
@[simp] theorem State.takeRailLane_ring (n : Nat) (kind : LaneKind) (base : Nat) : (s.takeRailLane n kind base).ring = s.ring := by rfl
@[simp] theorem State.takeRailLane_activeArea (n : Nat) (kind : LaneKind) (base : Nat) : (s.takeRailLane n kind base).activeArea = s.activeArea := by rfl
@[simp] theorem State.takeRailLane_otherArea (n : Nat) (kind : LaneKind) (base : Nat) : (s.takeRailLane n kind base).otherArea = s.otherArea := by rfl
@[simp] theorem State.takeRailLane_input (n : Nat) (kind : LaneKind) (base : Nat) : (s.takeRailLane n kind base).input = s.input := by rfl
@[simp] theorem State.takeRailLane_rails (n : Nat) (kind : LaneKind) (base : Nat) : (s.takeRailLane n kind base).rails = s.rails := by rfl
@[simp] theorem State.takeRailLane_seq (n : Nat) (kind : LaneKind) (base : Nat) : (s.takeRailLane n kind base).seq = s.seq := by rfl
@[simp] theorem State.takeRailLane_pmb (n : Nat) (kind : LaneKind) (base : Nat) : (s.takeRailLane n kind base).pmb = s.pmb := by rfl
@[simp] theorem State.takeRailLane_railWins (n : Nat) (kind : LaneKind) (base : Nat) : (s.takeRailLane n kind base).railWins = s.railWins := by rfl
@[simp] theorem State.takeRailLane_live (n : Nat) (kind : LaneKind) (base : Nat) : (s.takeRailLane n kind base).live = s.live := by rfl
@[simp] theorem State.takeRailLane_margins (n : Nat) (kind : LaneKind) (base : Nat) : (s.takeRailLane n kind base).margins = s.margins := by rfl
@[simp] theorem State.takeRailLane_stips (n : Nat) (kind : LaneKind) (base : Nat) : (s.takeRailLane n kind base).stips = s.stips := by rfl
@[simp] theorem State.takeRailLane_sinks (n : Nat) (kind : LaneKind) (base : Nat) : (s.takeRailLane n kind base).sinks = s.sinks := by rfl
@[simp] theorem State.takeRailLane_gov (n : Nat) (kind : LaneKind) (base : Nat) : (s.takeRailLane n kind base).gov = s.gov := by rfl
@[simp] theorem State.takeRailLane_feeds (n : Nat) (kind : LaneKind) (base : Nat) : (s.takeRailLane n kind base).feeds = s.feeds := by rfl
@[simp] theorem State.takeRailLane_convoy (n : Nat) (kind : LaneKind) (base : Nat) : (s.takeRailLane n kind base).convoy = s.convoy := by rfl
@[simp] theorem State.takeRailLane_loader (n : Nat) (kind : LaneKind) (base : Nat) : (s.takeRailLane n kind base).loader = s.loader := by rfl
@[simp] theorem State.takeRailLane_upd (n : Nat) (kind : LaneKind) (base : Nat) : (s.takeRailLane n kind base).upd = s.upd := by rfl
@[simp] theorem State.takeRailLane_hosts (n : Nat) (kind : LaneKind) (base : Nat) : (s.takeRailLane n kind base).hosts = s.hosts := by rfl
@[simp] theorem State.takeRailLane_power (n : Nat) (kind : LaneKind) (base : Nat) : (s.takeRailLane n kind base).power = s.power := by rfl
@[simp] theorem State.takeRailLane_dwellFrom (n : Nat) (kind : LaneKind) (base : Nat) : (s.takeRailLane n kind base).dwellFrom = s.dwellFrom := by rfl
@[simp] theorem State.takeRailLane_supplies (n : Nat) (kind : LaneKind) (base : Nat) : (s.takeRailLane n kind base).supplies = s.supplies := by rfl
@[simp] theorem State.takeRailLane_vioClass (n : Nat) (kind : LaneKind) (base : Nat) : (s.takeRailLane n kind base).vioClass = s.vioClass := by rfl
@[simp] theorem State.takeRailLane_startClk (n : Nat) (kind : LaneKind) (base : Nat) : (s.takeRailLane n kind base).startClk = s.startClk := by rfl
@[simp] theorem State.takeRailLane_resetCause (n : Nat) (kind : LaneKind) (base : Nat) : (s.takeRailLane n kind base).resetCause = s.resetCause := by rfl
@[simp] theorem State.takeRailLane_filterClk (n : Nat) (kind : LaneKind) (base : Nat) : (s.takeRailLane n kind base).filterClk = s.filterClk := by rfl
@[simp] theorem State.takeRailLane_frozen (n : Nat) (kind : LaneKind) (base : Nat) : (s.takeRailLane n kind base).frozen = s.frozen := by rfl
@[simp] theorem State.takeRailLane_freezeLow (n : Nat) (kind : LaneKind) (base : Nat) : (s.takeRailLane n kind base).freezeLow = s.freezeLow := by rfl
@[simp] theorem State.takeRailLane_frz (n : Nat) (kind : LaneKind) (base : Nat) : (s.takeRailLane n kind base).frz = s.frz := by rfl
@[simp] theorem State.takeRailLane_ticked (n : Nat) (kind : LaneKind) (base : Nat) : (s.takeRailLane n kind base).ticked = s.ticked := by rfl
@[simp] theorem State.takeRailLane_obj (n : Nat) (kind : LaneKind) (base : Nat) (k : Nat) : (s.takeRailLane n kind base).obj k = s.obj k := by rfl
@[simp] theorem State.takeRailLane_objB (n : Nat) (kind : LaneKind) (base : Nat) (k : Nat) : (s.takeRailLane n kind base).objB k = s.objB k := by rfl
@[simp] theorem State.takeRailLane_objI (n : Nat) (kind : LaneKind) (base : Nat) (k : Nat) : (s.takeRailLane n kind base).objI k = s.objI k := by rfl
@[simp] theorem State.takeRailLane_rail (n : Nat) (kind : LaneKind) (base : Nat) (k : Nat) : (s.takeRailLane n kind base).rail k = s.rail k := by rfl
@[simp] theorem State.takeRailLane_sink (n : Nat) (kind : LaneKind) (base : Nat) (k : Nat) : (s.takeRailLane n kind base).sink k = s.sink k := by rfl
@[simp] theorem State.takeRailLane_feed (n : Nat) (kind : LaneKind) (base : Nat) (k : Nat) : (s.takeRailLane n kind base).feed k = s.feed k := by rfl
@[simp] theorem State.takeRailLane_port (n : Nat) (kind : LaneKind) (base : Nat) (k : Nat) : (s.takeRailLane n kind base).port k = s.port k := by rfl
@[simp] theorem State.takeRailLane_margin (n : Nat) (kind : LaneKind) (base : Nat) (k : Nat) : (s.takeRailLane n kind base).margin k = s.margin k := by rfl
@[simp] theorem State.takeRailLane_stip (n : Nat) (kind : LaneKind) (base : Nat) (k : Nat) : (s.takeRailLane n kind base).stip k = s.stip k := by rfl
@[simp] theorem State.takeRailLane_slice (n : Nat) (kind : LaneKind) (base : Nat) (k : Nat) : (s.takeRailLane n kind base).slice k = s.slice k := by rfl
@[simp] theorem State.takeRailLane_liveOf (n : Nat) (kind : LaneKind) (base : Nat) (k : Nat) : (s.takeRailLane n kind base).liveOf k = s.liveOf k := by rfl
@[simp] theorem State.takeRailLane_offset (n : Nat) (kind : LaneKind) (base : Nat) : (s.takeRailLane n kind base).offset = s.offset := by rfl
@[simp] theorem State.takeRailLane_now (n : Nat) (kind : LaneKind) (base : Nat) : (s.takeRailLane n kind base).now = s.now := by rfl
@[simp] theorem State.takeRailLane_serving (n : Nat) (kind : LaneKind) (base : Nat) : (s.takeRailLane n kind base).serving = s.serving := by rfl
@[simp] theorem State.takeRailLane_clocked (n : Nat) (kind : LaneKind) (base : Nat) : (s.takeRailLane n kind base).clocked = s.clocked := by rfl
@[simp] theorem State.takeRailLane_coresUp (n : Nat) (kind : LaneKind) (base : Nat) : (s.takeRailLane n kind base).coresUp = s.coresUp := by rfl

/-! ### writeBytes -/

@[simp] theorem State.writeBytes_pending (a : Nat) (bs : List Byte) : (s.writeBytes a bs).pending = s.pending := by rfl
@[simp] theorem State.writeBytes_phase (a : Nat) (bs : List Byte) : (s.writeBytes a bs).phase = s.phase := by rfl
@[simp] theorem State.writeBytes_fab (a : Nat) (bs : List Byte) : (s.writeBytes a bs).fab = s.fab := by rfl
@[simp] theorem State.writeBytes_objs (a : Nat) (bs : List Byte) : (s.writeBytes a bs).objs = s.objs := by rfl
@[simp] theorem State.writeBytes_lanes (a : Nat) (bs : List Byte) : (s.writeBytes a bs).lanes = s.lanes := by rfl
@[simp] theorem State.writeBytes_coll (a : Nat) (bs : List Byte) : (s.writeBytes a bs).coll = s.coll := by rfl
@[simp] theorem State.writeBytes_ledger (a : Nat) (bs : List Byte) : (s.writeBytes a bs).ledger = s.ledger := by rfl
@[simp] theorem State.writeBytes_cores (a : Nat) (bs : List Byte) : (s.writeBytes a bs).cores = s.cores := by rfl
@[simp] theorem State.writeBytes_conv (a : Nat) (bs : List Byte) : (s.writeBytes a bs).conv = s.conv := by rfl
@[simp] theorem State.writeBytes_cap (a : Nat) (bs : List Byte) : (s.writeBytes a bs).cap = s.cap := by rfl
@[simp] theorem State.writeBytes_ring (a : Nat) (bs : List Byte) : (s.writeBytes a bs).ring = s.ring := by rfl
@[simp] theorem State.writeBytes_activeArea (a : Nat) (bs : List Byte) : (s.writeBytes a bs).activeArea = s.activeArea := by rfl
@[simp] theorem State.writeBytes_otherArea (a : Nat) (bs : List Byte) : (s.writeBytes a bs).otherArea = s.otherArea := by rfl
@[simp] theorem State.writeBytes_input (a : Nat) (bs : List Byte) : (s.writeBytes a bs).input = s.input := by rfl
@[simp] theorem State.writeBytes_rails (a : Nat) (bs : List Byte) : (s.writeBytes a bs).rails = s.rails := by rfl
@[simp] theorem State.writeBytes_seq (a : Nat) (bs : List Byte) : (s.writeBytes a bs).seq = s.seq := by rfl
@[simp] theorem State.writeBytes_pmb (a : Nat) (bs : List Byte) : (s.writeBytes a bs).pmb = s.pmb := by rfl
@[simp] theorem State.writeBytes_railWins (a : Nat) (bs : List Byte) : (s.writeBytes a bs).railWins = s.railWins := by rfl
@[simp] theorem State.writeBytes_live (a : Nat) (bs : List Byte) : (s.writeBytes a bs).live = s.live := by rfl
@[simp] theorem State.writeBytes_margins (a : Nat) (bs : List Byte) : (s.writeBytes a bs).margins = s.margins := by rfl
@[simp] theorem State.writeBytes_stips (a : Nat) (bs : List Byte) : (s.writeBytes a bs).stips = s.stips := by rfl
@[simp] theorem State.writeBytes_sinks (a : Nat) (bs : List Byte) : (s.writeBytes a bs).sinks = s.sinks := by rfl
@[simp] theorem State.writeBytes_gov (a : Nat) (bs : List Byte) : (s.writeBytes a bs).gov = s.gov := by rfl
@[simp] theorem State.writeBytes_feeds (a : Nat) (bs : List Byte) : (s.writeBytes a bs).feeds = s.feeds := by rfl
@[simp] theorem State.writeBytes_convoy (a : Nat) (bs : List Byte) : (s.writeBytes a bs).convoy = s.convoy := by rfl
@[simp] theorem State.writeBytes_loader (a : Nat) (bs : List Byte) : (s.writeBytes a bs).loader = s.loader := by rfl
@[simp] theorem State.writeBytes_upd (a : Nat) (bs : List Byte) : (s.writeBytes a bs).upd = s.upd := by rfl
@[simp] theorem State.writeBytes_hosts (a : Nat) (bs : List Byte) : (s.writeBytes a bs).hosts = s.hosts := by rfl
@[simp] theorem State.writeBytes_power (a : Nat) (bs : List Byte) : (s.writeBytes a bs).power = s.power := by rfl
@[simp] theorem State.writeBytes_dwellFrom (a : Nat) (bs : List Byte) : (s.writeBytes a bs).dwellFrom = s.dwellFrom := by rfl
@[simp] theorem State.writeBytes_supplies (a : Nat) (bs : List Byte) : (s.writeBytes a bs).supplies = s.supplies := by rfl
@[simp] theorem State.writeBytes_vioClass (a : Nat) (bs : List Byte) : (s.writeBytes a bs).vioClass = s.vioClass := by rfl
@[simp] theorem State.writeBytes_startClk (a : Nat) (bs : List Byte) : (s.writeBytes a bs).startClk = s.startClk := by rfl
@[simp] theorem State.writeBytes_resetCause (a : Nat) (bs : List Byte) : (s.writeBytes a bs).resetCause = s.resetCause := by rfl
@[simp] theorem State.writeBytes_filterClk (a : Nat) (bs : List Byte) : (s.writeBytes a bs).filterClk = s.filterClk := by rfl
@[simp] theorem State.writeBytes_frozen (a : Nat) (bs : List Byte) : (s.writeBytes a bs).frozen = s.frozen := by rfl
@[simp] theorem State.writeBytes_freezeLow (a : Nat) (bs : List Byte) : (s.writeBytes a bs).freezeLow = s.freezeLow := by rfl
@[simp] theorem State.writeBytes_frz (a : Nat) (bs : List Byte) : (s.writeBytes a bs).frz = s.frz := by rfl
@[simp] theorem State.writeBytes_ticked (a : Nat) (bs : List Byte) : (s.writeBytes a bs).ticked = s.ticked := by rfl
@[simp] theorem State.writeBytes_obj (a : Nat) (bs : List Byte) (k : Nat) : (s.writeBytes a bs).obj k = s.obj k := by rfl
@[simp] theorem State.writeBytes_objB (a : Nat) (bs : List Byte) (k : Nat) : (s.writeBytes a bs).objB k = s.objB k := by rfl
@[simp] theorem State.writeBytes_objI (a : Nat) (bs : List Byte) (k : Nat) : (s.writeBytes a bs).objI k = s.objI k := by rfl
@[simp] theorem State.writeBytes_rail (a : Nat) (bs : List Byte) (k : Nat) : (s.writeBytes a bs).rail k = s.rail k := by rfl
@[simp] theorem State.writeBytes_sink (a : Nat) (bs : List Byte) (k : Nat) : (s.writeBytes a bs).sink k = s.sink k := by rfl
@[simp] theorem State.writeBytes_feed (a : Nat) (bs : List Byte) (k : Nat) : (s.writeBytes a bs).feed k = s.feed k := by rfl
@[simp] theorem State.writeBytes_port (a : Nat) (bs : List Byte) (k : Nat) : (s.writeBytes a bs).port k = s.port k := by rfl
@[simp] theorem State.writeBytes_margin (a : Nat) (bs : List Byte) (k : Nat) : (s.writeBytes a bs).margin k = s.margin k := by rfl
@[simp] theorem State.writeBytes_stip (a : Nat) (bs : List Byte) (k : Nat) : (s.writeBytes a bs).stip k = s.stip k := by rfl
@[simp] theorem State.writeBytes_slice (a : Nat) (bs : List Byte) (k : Nat) : (s.writeBytes a bs).slice k = s.slice k := by rfl
@[simp] theorem State.writeBytes_liveOf (a : Nat) (bs : List Byte) (k : Nat) : (s.writeBytes a bs).liveOf k = s.liveOf k := by rfl
@[simp] theorem State.writeBytes_offset (a : Nat) (bs : List Byte) : (s.writeBytes a bs).offset = s.offset := by rfl
@[simp] theorem State.writeBytes_now (a : Nat) (bs : List Byte) : (s.writeBytes a bs).now = s.now := by rfl
@[simp] theorem State.writeBytes_serving (a : Nat) (bs : List Byte) : (s.writeBytes a bs).serving = s.serving := by rfl
@[simp] theorem State.writeBytes_clocked (a : Nat) (bs : List Byte) : (s.writeBytes a bs).clocked = s.clocked := by rfl
@[simp] theorem State.writeBytes_coresUp (a : Nat) (bs : List Byte) : (s.writeBytes a bs).coresUp = s.coresUp := by rfl

/-! ### writeRecord -/

@[simp] theorem State.writeRecord_pending (r : ActRecord) : (s.writeRecord r).pending = s.pending := by rfl
@[simp] theorem State.writeRecord_phase (r : ActRecord) : (s.writeRecord r).phase = s.phase := by rfl
@[simp] theorem State.writeRecord_fab (r : ActRecord) : (s.writeRecord r).fab = s.fab := by rfl
@[simp] theorem State.writeRecord_objs (r : ActRecord) : (s.writeRecord r).objs = s.objs := by rfl
@[simp] theorem State.writeRecord_mem (r : ActRecord) : (s.writeRecord r).mem = s.mem := by rfl
@[simp] theorem State.writeRecord_lanes (r : ActRecord) : (s.writeRecord r).lanes = s.lanes := by rfl
@[simp] theorem State.writeRecord_coll (r : ActRecord) : (s.writeRecord r).coll = s.coll := by rfl
@[simp] theorem State.writeRecord_ledger (r : ActRecord) : (s.writeRecord r).ledger = s.ledger := by rfl
@[simp] theorem State.writeRecord_store (r : ActRecord) : (s.writeRecord r).store = s.store := by rfl
@[simp] theorem State.writeRecord_cores (r : ActRecord) : (s.writeRecord r).cores = s.cores := by rfl
@[simp] theorem State.writeRecord_conv (r : ActRecord) : (s.writeRecord r).conv = s.conv := by rfl
@[simp] theorem State.writeRecord_cap (r : ActRecord) : (s.writeRecord r).cap = s.cap := by rfl
@[simp] theorem State.writeRecord_ring (r : ActRecord) : (s.writeRecord r).ring = s.ring := by rfl
@[simp] theorem State.writeRecord_activeArea (r : ActRecord) : (s.writeRecord r).activeArea = s.activeArea := by rfl
@[simp] theorem State.writeRecord_otherArea (r : ActRecord) : (s.writeRecord r).otherArea = s.otherArea := by rfl
@[simp] theorem State.writeRecord_input (r : ActRecord) : (s.writeRecord r).input = s.input := by rfl
@[simp] theorem State.writeRecord_rails (r : ActRecord) : (s.writeRecord r).rails = s.rails := by rfl
@[simp] theorem State.writeRecord_seq (r : ActRecord) : (s.writeRecord r).seq = s.seq := by rfl
@[simp] theorem State.writeRecord_pmb (r : ActRecord) : (s.writeRecord r).pmb = s.pmb := by rfl
@[simp] theorem State.writeRecord_railWins (r : ActRecord) : (s.writeRecord r).railWins = s.railWins := by rfl
@[simp] theorem State.writeRecord_live (r : ActRecord) : (s.writeRecord r).live = s.live := by rfl
@[simp] theorem State.writeRecord_margins (r : ActRecord) : (s.writeRecord r).margins = s.margins := by rfl
@[simp] theorem State.writeRecord_stips (r : ActRecord) : (s.writeRecord r).stips = s.stips := by rfl
@[simp] theorem State.writeRecord_sinks (r : ActRecord) : (s.writeRecord r).sinks = s.sinks := by rfl
@[simp] theorem State.writeRecord_gov (r : ActRecord) : (s.writeRecord r).gov = s.gov := by rfl
@[simp] theorem State.writeRecord_feeds (r : ActRecord) : (s.writeRecord r).feeds = s.feeds := by rfl
@[simp] theorem State.writeRecord_convoy (r : ActRecord) : (s.writeRecord r).convoy = s.convoy := by rfl
@[simp] theorem State.writeRecord_upd (r : ActRecord) : (s.writeRecord r).upd = s.upd := by rfl
@[simp] theorem State.writeRecord_hosts (r : ActRecord) : (s.writeRecord r).hosts = s.hosts := by rfl
@[simp] theorem State.writeRecord_power (r : ActRecord) : (s.writeRecord r).power = s.power := by rfl
@[simp] theorem State.writeRecord_dwellFrom (r : ActRecord) : (s.writeRecord r).dwellFrom = s.dwellFrom := by rfl
@[simp] theorem State.writeRecord_supplies (r : ActRecord) : (s.writeRecord r).supplies = s.supplies := by rfl
@[simp] theorem State.writeRecord_vioClass (r : ActRecord) : (s.writeRecord r).vioClass = s.vioClass := by rfl
@[simp] theorem State.writeRecord_startClk (r : ActRecord) : (s.writeRecord r).startClk = s.startClk := by rfl
@[simp] theorem State.writeRecord_resetCause (r : ActRecord) : (s.writeRecord r).resetCause = s.resetCause := by rfl
@[simp] theorem State.writeRecord_filterClk (r : ActRecord) : (s.writeRecord r).filterClk = s.filterClk := by rfl
@[simp] theorem State.writeRecord_frozen (r : ActRecord) : (s.writeRecord r).frozen = s.frozen := by rfl
@[simp] theorem State.writeRecord_freezeLow (r : ActRecord) : (s.writeRecord r).freezeLow = s.freezeLow := by rfl
@[simp] theorem State.writeRecord_frz (r : ActRecord) : (s.writeRecord r).frz = s.frz := by rfl
@[simp] theorem State.writeRecord_ticked (r : ActRecord) : (s.writeRecord r).ticked = s.ticked := by rfl
@[simp] theorem State.writeRecord_obj (r : ActRecord) (k : Nat) : (s.writeRecord r).obj k = s.obj k := by rfl
@[simp] theorem State.writeRecord_objB (r : ActRecord) (k : Nat) : (s.writeRecord r).objB k = s.objB k := by rfl
@[simp] theorem State.writeRecord_objI (r : ActRecord) (k : Nat) : (s.writeRecord r).objI k = s.objI k := by rfl
@[simp] theorem State.writeRecord_rail (r : ActRecord) (k : Nat) : (s.writeRecord r).rail k = s.rail k := by rfl
@[simp] theorem State.writeRecord_sink (r : ActRecord) (k : Nat) : (s.writeRecord r).sink k = s.sink k := by rfl
@[simp] theorem State.writeRecord_feed (r : ActRecord) (k : Nat) : (s.writeRecord r).feed k = s.feed k := by rfl
@[simp] theorem State.writeRecord_port (r : ActRecord) (k : Nat) : (s.writeRecord r).port k = s.port k := by rfl
@[simp] theorem State.writeRecord_margin (r : ActRecord) (k : Nat) : (s.writeRecord r).margin k = s.margin k := by rfl
@[simp] theorem State.writeRecord_stip (r : ActRecord) (k : Nat) : (s.writeRecord r).stip k = s.stip k := by rfl
@[simp] theorem State.writeRecord_slice (r : ActRecord) (k : Nat) : (s.writeRecord r).slice k = s.slice k := by rfl
@[simp] theorem State.writeRecord_liveOf (r : ActRecord) (k : Nat) : (s.writeRecord r).liveOf k = s.liveOf k := by rfl
@[simp] theorem State.writeRecord_offset (r : ActRecord) : (s.writeRecord r).offset = s.offset := by rfl
@[simp] theorem State.writeRecord_now (r : ActRecord) : (s.writeRecord r).now = s.now := by rfl
@[simp] theorem State.writeRecord_serving (r : ActRecord) : (s.writeRecord r).serving = s.serving := by rfl
@[simp] theorem State.writeRecord_clocked (r : ActRecord) : (s.writeRecord r).clocked = s.clocked := by rfl
@[simp] theorem State.writeRecord_coresUp (r : ActRecord) : (s.writeRecord r).coresUp = s.coresUp := by rfl

end Sys2Proof.Machine
end

