-- ==== Sys2Proof/Laws/Objects.lean ====
section
/-! SUPPORT. Objects read after writes. -/

namespace Sys2Proof.Machine

/-- Reading an object after a class L or V write. -/
theorem obj_setLive (s : State) (k v j : Nat) : (s.setLive k v).obj j = if j = k then v else s.obj j := by
  unfold State.setLive State.obj
  by_cases h : j = k
  · subst h
    simp
  · simp [h, flook_fset_other]

/-- Reading an object after a class P or C write. -/
theorem obj_setPers (s : State) (k v j : Nat) : (s.setPers k v).obj j = if j = k then v else s.obj j := by
  have : (s.setPers k v).obj j = (s.setLive k v).obj j := rfl
  rw [this, obj_setLive]

/-- A counter leaves every other object. -/
theorem obj_bump (s : State) (k j : Nat) (h : j ≠ k) : (s.bump k).obj j = s.obj j := by
  unfold State.bump
  rw [obj_setPers, if_neg h]

theorem obj_mirrorOne (s : State) (k v g j : Nat) (h : j ≠ K.MIRROR_SKIPS) : (s.mirrorOne k v g).obj j = s.obj j := by
  unfold State.mirrorOne
  split
  · rfl
  · exact obj_bump _ _ _ h

/-- The mirror of a class P write leaves every object but MIRROR_SKIPS (R389). -/
theorem obj_mirror (s : State) (k v j : Nat) (h : j ≠ K.MIRROR_SKIPS) : (s.mirror k v).obj j = s.obj j := by
  have key : ∀ (l : List Nat) (t : State), (l.foldl (fun st g => st.mirrorOne k v g) t).obj j = t.obj j := by
    intro l
    induction l with
    | nil => intro t; rfl
    | cons a r ih => intro t; rw [List.foldl_cons, ih, obj_mirrorOne _ _ _ _ _ h]
  unfold State.mirror
  split
  · rfl
  · split
    · exact key _ _
    · exact key _ _
    · split
      · exact obj_mirrorOne _ _ _ _ _ h
      · rfl
    all_goals rfl

end Sys2Proof.Machine
end

