-- ==== Sys2Proof/Laws/PerInstr.lean ====
section
/-! SUPPORT. Per-command facts about the commands as syntax: what the list of fields that a command may change never names. -/

namespace Sys2Proof.Laws.Shape

open Sys2Proof.Machine

/-- Does a list of fields name no field twice, and neither the queue nor the filter clock? -/
def clean (l : List Fld) : Bool :=
  !l.contains .pending && !l.contains .filterClk && decide l.Nodup

/-- The fields that a command may change are listed once each, and neither the queue nor the filter clock is among them. -/
def Statement (i : Instr) : Prop := clean (mayChange i) = true

theorem writeRequest (p : SpiPort) (frame : List Byte) : Statement (.writeRequest p frame) := rfl
theorem writeRequestQuad (p : SpiPort) (frame : List Byte) : Statement (.writeRequestQuad p frame) := rfl
theorem readResponse (p : SpiPort) : Statement (.readResponse p) := rfl
theorem readResponseQuad (p : SpiPort) : Statement (.readResponseQuad p) := rfl
theorem readStatus (p : SpiPort) (n : Nat) : Statement (.readStatus p n) := rfl
theorem proofRead (start : BitVec 32) (n : Nat) : Statement (.proofRead start n) := rfl
theorem proofReadQuad (start : BitVec 32) (n : Nat) : Statement (.proofReadQuad start n) := rfl
theorem baleFrame (id : BitVec 29) (data : List Byte) : Statement (.baleFrame id data) := rfl
theorem segmentTimeout : Statement .segmentTimeout := rfl
theorem busOff : Statement .busOff := rfl
theorem busOffRecovery : Statement .busOffRecovery := rfl
theorem transaction (p : Port) : Statement (.transaction p) := rfl
theorem openSession (p : Port) : Statement (.openSession p) := rfl
theorem proveSession (p : Port) : Statement (.proveSession p) := rfl
theorem authLockoutEnd (p : Port) : Statement (.authLockoutEnd p) := rfl
theorem challengeExpiry (p : Port) : Statement (.challengeExpiry p) := rfl
theorem leaseLapse (p : Port) : Statement (.leaseLapse p) := rfl
theorem objectWrite (p : Port) (index : BitVec 16) (sub : BitVec 8) (data : List Byte) :
    Statement (.objectWrite p index sub data) := rfl
theorem splitPairLoRead (p : Port) (index : BitVec 16) (sub : BitVec 8) : Statement (.splitPairLoRead p index sub) := rfl
theorem splitPairHiRead (p : Port) (index : BitVec 16) (sub : BitVec 8) : Statement (.splitPairHiRead p index sub) := rfl
theorem claimGroup (p : Port) (g : BitVec 8) : Statement (.claimGroup p g) := rfl
theorem releaseGroup (p : Port) (g : BitVec 8) : Statement (.releaseGroup p g) := rfl
theorem claimBreak (p : Port) (g : BitVec 8) : Statement (.claimBreak p g) := rfl
theorem closeSession (p : Port) : Statement (.closeSession p) := rfl
theorem writeRule (p : Port) (r : BitVec 8) (word : BitVec 64) : Statement (.writeRule p r word) := rfl
theorem stencilReset (p : Port) : Statement (.stencilReset p) := rfl
theorem latencyReq (p : Port) (us : BitVec 32) : Statement (.latencyReq p us) := rfl
theorem restoreDefaults (p : Port) : Statement (.restoreDefaults p) := rfl
theorem dpWindowRead (p : Port) (n : BitVec 16) : Statement (.dpWindowRead p n) := rfl
theorem dpWindowWrite (p : Port) (data : List Byte) : Statement (.dpWindowWrite p data) := rfl
theorem recordData (p : Port) : Statement (.recordData p) := rfl
theorem ffData (p : Port) : Statement (.ffData p) := rfl
theorem ledgerClearRecords (p : Port) : Statement (.ledgerClearRecords p) := rfl
theorem ledgerClearAll (p : Port) : Statement (.ledgerClearAll p) := rfl
theorem convoyEnable (p : Port) (on : Bool) : Statement (.convoyEnable p on) := rfl
theorem wayRequest (p : Port) (w : BitVec 8) : Statement (.wayRequest p w) := rfl
theorem haltRequest (p : Port) (on : Bool) : Statement (.haltRequest p on) := rfl
theorem localHold (p : Port) (on : Bool) : Statement (.localHold p on) := rfl
theorem setPresent (p : Port) (n : Fin 64) (on : Bool) : Statement (.setPresent p n on) := rfl
theorem clearFlags (p : Port) (n : Fin 64) : Statement (.clearFlags p n) := rfl
theorem clearLatch (p : Port) (n : Fin 64) : Statement (.clearLatch p n) := rfl
theorem scanSelect (p : Port) (b : BitVec 8) : Statement (.scanSelect p b) := rfl
theorem readmit (p : Port) (n : Fin 17) : Statement (.readmit p n) := rfl
theorem convert (p : Port) (c : Fin 192) : Statement (.convert p c) := rfl
theorem ringRearm (p : Port) : Statement (.ringRearm p) := rfl
theorem ringTrigger (p : Port) : Statement (.ringTrigger p) := rfl
theorem capArm (p : Port) : Statement (.capArm p) := rfl
theorem capAbort (p : Port) : Statement (.capAbort p) := rfl
theorem capRelease (p : Port) : Statement (.capRelease p) := rfl
theorem mrgCmdNominal (p : Port) (n : Fin 64) : Statement (.mrgCmdNominal p n) := rfl
theorem mrgCmdHigh (p : Port) (n : Fin 64) : Statement (.mrgCmdHigh p n) := rfl
theorem mrgCmdLow (p : Port) (n : Fin 64) : Statement (.mrgCmdLow p n) := rfl
theorem stipCmdSchedule (p : Port) (n : Fin 64) : Statement (.stipCmdSchedule p n) := rfl
theorem stipCmdCancel (p : Port) (n : Fin 64) : Statement (.stipCmdCancel p n) := rfl
theorem loadCmdApply (p : Port) (n : Fin 64) : Statement (.loadCmdApply p n) := rfl
theorem loadCmdRemove (p : Port) (n : Fin 64) : Statement (.loadCmdRemove p n) := rfl
theorem inrushSet (p : Port) (v : BitVec 16) : Statement (.inrushSet p v) := rfl
theorem feedEnable (p : Port) (f : Fin 2) (on : Bool) : Statement (.feedEnable p f on) := rfl
theorem feedClear (p : Port) (f : Fin 2) : Statement (.feedClear p f) := rfl
theorem forceMessage (p : Port) (src : BitVec 8) : Statement (.forceMessage p src) := rfl
theorem testMode (p : Port) (on : Bool) : Statement (.testMode p on) := rfl
theorem faultAck (p : Port) : Statement (.faultAck p) := rfl
theorem faultNHold (p : Port) (on : Bool) : Statement (.faultNHold p on) := rfl
theorem etchCmd (p : Port) : Statement (.etchCmd p) := rfl
theorem etchAbort (p : Port) : Statement (.etchAbort p) := rfl
theorem updCmdOpen (p : Port) : Statement (.updCmdOpen p) := rfl
theorem updBlock (p : Port) (index : BitVec 16) : Statement (.updBlock p index) := rfl
theorem updCmdVerify (p : Port) : Statement (.updCmdVerify p) := rfl
theorem updCmdApply (p : Port) : Statement (.updCmdApply p) := rfl
theorem updCmdSchedule (p : Port) : Statement (.updCmdSchedule p) := rfl
theorem updCmdUnschedule (p : Port) : Statement (.updCmdUnschedule p) := rfl
theorem updCmdConfirm (p : Port) : Statement (.updCmdConfirm p) := rfl
theorem updCmdAbort (p : Port) : Statement (.updCmdAbort p) := rfl
theorem beatEdge : Statement .beatEdge := rfl
theorem spuriousEdge : Statement .spuriousEdge := rfl
theorem forcedRelease : Statement .forcedRelease := rfl
theorem beatFrame (frame : List Byte) : Statement (.beatFrame frame) := rfl
theorem soloBeat : Statement .soloBeat := rfl
theorem lossTimeout : Statement .lossTimeout := rfl
theorem candidateWait : Statement .candidateWait := rfl
theorem leaderBeat : Statement .leaderBeat := rfl
theorem beatFrameSend (halt : HaltSample) (vote : Bool) : Statement (.beatFrameSend halt vote) := rfl
theorem replySend (won : Bool) : Statement (.replySend won) := rfl
theorem tollRequest (reply : BitVec 80) : Statement (.tollRequest reply) := rfl
theorem tollOffer (reply : BitVec 80) : Statement (.tollOffer reply) := rfl
theorem xferSent (reply : BitVec 80) : Statement (.xferSent reply) := rfl
theorem xferReceived (reply : BitVec 80) : Statement (.xferReceived reply) := rfl
theorem wayRequestReply (reply : BitVec 80) : Statement (.wayRequestReply reply) := rfl
theorem xferPropose : Statement .xferPropose := rfl
theorem xferDeliver : Statement .xferDeliver := rfl
theorem xferClose : Statement .xferClose := rfl
theorem xferResend : Statement .xferResend := rfl
theorem proposalForget : Statement .proposalForget := rfl
theorem deliverRepeat : Statement .deliverRepeat := rfl
theorem ringDelay (ticks : BitVec 32) : Statement (.ringDelay ticks) := rfl
theorem ringOpen : Statement .ringOpen := rfl
theorem cscStuck : Statement .cscStuck := rfl
theorem laneGrant : Statement .laneGrant := rfl
theorem hardAgePreempt : Statement .hardAgePreempt := rfl
theorem preemptHandover (lane : Fin 128) : Statement (.preemptHandover lane) := rfl
theorem lockstepMismatch : Statement .lockstepMismatch := rfl
theorem watchdogExpiry : Statement .watchdogExpiry := rfl
theorem coreStart : Statement .coreStart := rfl
theorem stepStart : Statement .stepStart := rfl
theorem onSlot (n : Fin 64) : Statement (.onSlot n) := rfl
theorem prereqTimeout (n : Fin 64) : Statement (.prereqTimeout n) := rfl
theorem railQualify (n : Fin 64) : Statement (.railQualify n) := rfl
theorem rampTimeout (n : Fin 64) : Statement (.rampTimeout n) := rfl
theorem fallingPass : Statement .fallingPass := rfl
theorem offSlot (n : Fin 64) : Statement (.offSlot n) := rfl
theorem dischTimeout (n : Fin 64) : Statement (.dischTimeout n) := rfl
theorem dischFailed (n : Fin 64) : Statement (.dischFailed n) := rfl
theorem localShutdown (cause : BitVec 8) : Statement (.localShutdown cause) := rfl
theorem holdoffEnd : Statement .holdoffEnd := rfl
theorem pmbusTransactionDone (bus : Fin 4) (ok : Bool) (data : BitVec 16) : Statement (.pmbusTransactionDone bus ok data) := rfl
theorem comparatorCross (n : Fin 64) (c : Fin 5) : Statement (.comparatorCross n c) := rfl
theorem comparatorQualify (n : Fin 64) (c : Fin 5) : Statement (.comparatorQualify n c) := rfl
theorem filterClear (n : Fin 64) (c : Fin 5) : Statement (.filterClear n c) := rfl
theorem railDecisionWindow : Statement .railDecisionWindow := rfl
theorem energyPeriod (n : Fin 64) : Statement (.energyPeriod n) := rfl
theorem slotResult (raw : BitVec 16) : Statement (.slotResult raw) := rfl
theorem quickResult (feedA feedB outSns vhu : BitVec 12) : Statement (.quickResult feedA feedB outSns vhu) := rfl
theorem sliceSwap : Statement .sliceSwap := rfl
theorem forcedSwap : Statement .forcedSwap := rfl
theorem calStepDone (n : Fin 17) (zero refP refN rise fall : BitVec 24) : Statement (.calStepDone n zero refP refN rise fall) := rfl
theorem calStale (n : Fin 17) : Statement (.calStale n) := rfl
theorem captureStart : Statement .captureStart := rfl
theorem captureDone : Statement .captureDone := rfl
theorem ringFreeze : Statement .ringFreeze := rfl
theorem ringAutoRearm : Statement .ringAutoRearm := rfl
theorem marginMoveStart (n : Fin 64) : Statement (.marginMoveStart n) := rfl
theorem marginStep (n : Fin 64) : Statement (.marginStep n) := rfl
theorem mrgSettleEnd (n : Fin 64) : Statement (.mrgSettleEnd n) := rfl
theorem mrgHoldExpired (n : Fin 64) : Statement (.mrgHoldExpired n) := rfl
theorem stipScheduledTick (n : Fin 64) : Statement (.stipScheduledTick n) := rfl
theorem stipWaitMaxEnd (n : Fin 64) : Statement (.stipWaitMaxEnd n) := rfl
theorem stipPreloadEnd (n : Fin 64) : Statement (.stipPreloadEnd n) := rfl
theorem stipPatternEdge (n : Fin 64) : Statement (.stipPatternEdge n) := rfl
theorem stipAcquireEnd (n : Fin 64) : Statement (.stipAcquireEnd n) := rfl
theorem stipAnalysisDone (n : Fin 64) : Statement (.stipAnalysisDone n) := rfl
theorem powerGrant : Statement .powerGrant := rfl
theorem energyGrant : Statement .energyGrant := rfl
theorem sinkSlewDone (n : Fin 64) : Statement (.sinkSlewDone n) := rfl
theorem energyOverrun (n : Fin 64) : Statement (.energyOverrun n) := rfl
theorem coolingExpiry : Statement .coolingExpiry := rfl
theorem powerGrantReeval : Statement .powerGrantReeval := rfl
theorem reserveUpdate : Statement .reserveUpdate := rfl
theorem loadTimeEnd (n : Fin 64) : Statement (.loadTimeEnd n) := rfl
theorem mated : Statement .mated := rfl
theorem matingLost (early : Bool) : Statement (.matingLost early) := rfl
theorem extractDelayEnd : Statement .extractDelayEnd := rfl
theorem earlyHigh : Statement .earlyHigh := rfl
theorem inrushIssue : Statement .inrushIssue := rfl
theorem fuseFast (f : Fin 2) : Statement (.fuseFast f) := rfl
theorem fuseSlow (f : Fin 2) : Statement (.fuseSlow f) := rfl
theorem soaTimeout (f : Fin 2) : Statement (.soaTimeout f) := rfl
theorem reverseOff (f : Fin 2) : Statement (.reverseOff f) := rfl
theorem forwardOn (f : Fin 2) : Statement (.forwardOn f) := rfl
theorem feedUv (f : Fin 2) : Statement (.feedUv f) := rfl
theorem feedOv (f : Fin 2) : Statement (.feedOv f) := rfl
theorem tripRunReset (f : Fin 2) : Statement (.tripRunReset f) := rfl
theorem retryRelease (f : Fin 2) : Statement (.retryRelease f) := rfl
theorem retryFull (f : Fin 2) : Statement (.retryFull f) := rfl
theorem damagedElement (f : Fin 2) : Statement (.damagedElement f) := rfl
theorem damagedPath : Statement .damagedPath := rfl
theorem inputLoss : Statement .inputLoss := rfl
theorem pfail : Statement .pfail := rfl
theorem pfailHigh : Statement .pfailHigh := rfl
theorem huLow : Statement .huLow := rfl
theorem huOnReserve : Statement .huOnReserve := rfl
theorem vauxReturn : Statement .vauxReturn := rfl
theorem vioLoss : Statement .vioLoss := rfl
theorem messageArrival (index : Nat) : Statement (.messageArrival index) := rfl
theorem messageRelease : Statement .messageRelease := rfl
theorem collectorDecision : Statement .collectorDecision := rfl
theorem quietTimeEnd : Statement .quietTimeEnd := rfl
theorem recoverySpanEnd : Statement .recoverySpanEnd := rfl
theorem faultPulseEnd : Statement .faultPulseEnd := rfl
theorem startupSpanEnd : Statement .startupSpanEnd := rfl
theorem refclkLost : Statement .refclkLost := rfl
theorem refclkFreq : Statement .refclkFreq := rfl
theorem pllUnlock : Statement .pllUnlock := rfl
theorem filterUnlock : Statement .filterUnlock := rfl
theorem autoEtchDue : Statement .autoEtchDue := rfl
theorem etchSnapshot : Statement .etchSnapshot := rfl
theorem etchPageCommit (ok : Bool) (ch : Fin 8) : Statement (.etchPageCommit ok ch) := rfl
theorem eccPatrol (page : BitVec 12) (ch : Fin 8) (group : BitVec 8) (uncorrectable : Bool) :
    Statement (.eccPatrol page ch group uncorrectable) := rfl
theorem pageReload (page : BitVec 12) : Statement (.pageReload page) := rfl
theorem scrubStep (corrected : BitVec 9) (uncorrectable : Bool) (group : BitVec 8) :
    Statement (.scrubStep corrected uncorrectable group) := rfl
theorem opTimeAdd : Statement .opTimeAdd := rfl
theorem storeRecall : Statement .storeRecall := rfl
theorem ledgerEntry : Statement .ledgerEntry := rfl
theorem ledgerFirstMark : Statement .ledgerFirstMark := rfl
theorem ledgerLink : Statement .ledgerLink := rfl
theorem ledgerReconcile : Statement .ledgerReconcile := rfl
theorem verifyDone : Statement .verifyDone := rfl
theorem applyOutputDone : Statement .applyOutputDone := rfl
theorem activation : Statement .activation := rfl
theorem confirmSpanEnd : Statement .confirmSpanEnd := rfl
theorem confirmation : Statement .confirmation := rfl
theorem trialTimeEnd : Statement .trialTimeEnd := rfl
theorem suppliesGood : Statement .suppliesGood := rfl
theorem resetLow (powerLost : Bool) : Statement (.resetLow powerLost) := rfl
theorem powerOnEnd : Statement .powerOnEnd := rfl
theorem clocksEnd : Statement .clocksEnd := rfl
theorem endOfStartup : Statement .endOfStartup := rfl
theorem powerStateEnter : Statement .powerStateEnter := rfl
theorem fullReached : Statement .fullReached := rfl
theorem dwellEnd : Statement .dwellEnd := rfl
theorem freeze : Statement .freeze := rfl
theorem frozenBeatEdge : Statement .frozenBeatEdge := rfl
theorem firstClockedTick : Statement .firstClockedTick := rfl
theorem relayForward (cscIn holdLine dataLine : Bool) : Statement (.relayForward cscIn holdLine dataLine) := rfl
theorem comparatorReturn (n : Fin 64) (c : Fin 5) : Statement (.comparatorReturn n c) := rfl
theorem holdUpExhausted : Statement .holdUpExhausted := rfl

end Sys2Proof.Laws.Shape
end

