-- ==== Sys2Proof/Laws/Rows.lean ====
section
/-! SUPPORT. What each command answers, row by row: the next state that its own definition names. -/

namespace Sys2Proof.Machine
open Sys2Proof

/-- With VIO present a pin event acts as it stands. -/
@[simp] theorem State.onPin_of_low {s : State} (h : s.vioGone = false) (f : State → State) : s.onPin f = f s := by
  simp [State.onPin, h]

/-- While VIO is absent a pin event does nothing (R432). -/
@[simp] theorem State.onPin_of_high {s : State} (h : s.vioGone = true) (f : State → State) : s.onPin f = s := by
  simp [State.onPin, h]

theorem exec_writeRequest (p : SpiPort) (frame : List Byte) (s : State) :
    exec (.writeRequest p frame) s = .next (s.writeRequest (spiNum p) frame).after := by rfl
theorem exec_writeRequestQuad (p : SpiPort) (frame : List Byte) (s : State) :
    exec (.writeRequestQuad p frame) s = .next (s.writeRequest (spiNum p) frame).after := by rfl
theorem exec_readResponse (p : SpiPort) (s : State) :
    exec (.readResponse p) s = .next (s.readResponse (spiNum p)).after := by rfl
theorem exec_readResponseQuad (p : SpiPort) (s : State) :
    exec (.readResponseQuad p) s = .next (s.readResponse (spiNum p)).after := by rfl
theorem exec_readStatus (p : SpiPort) (n : Nat) (s : State) :
    exec (.readStatus p n) s = .next (s.readPortStatus (spiNum p) n).after := by rfl
theorem exec_proofRead (start : BitVec 32) (n : Nat) (s : State) :
    exec (.proofRead start n) s = .next (s.proofFrame start.toNat n).after := by rfl
theorem exec_proofReadQuad (start : BitVec 32) (n : Nat) (s : State) :
    exec (.proofReadQuad start n) s = .next (s.proofFrame start.toNat n).after := by rfl
theorem exec_baleFrame (id : BitVec 29) (data : List Byte) (s : State) :
    exec (.baleFrame id data) s = .next (s.baleFrame id.toNat data).after := by rfl
theorem exec_segmentTimeout (s : State) :
    exec (.segmentTimeout) s = .next (s.event State.segmentTimeout) := by rfl
theorem exec_busOff (s : State) :
    exec (.busOff) s = .next (s.busOff).after := by rfl
theorem exec_busOffRecovery (s : State) :
    exec (.busOffRecovery) s = .next (s.busOffEnd).after := by rfl
theorem exec_transaction (p : Port) (s : State) :
    exec (.transaction p) s = .next (s.event (fun t => t.transaction (portNum p))) := by rfl
theorem exec_openSession (p : Port) (s : State) :
    exec (.openSession p) s = .next (s.event (fun t => t.openSession (portNum p))) := by rfl
theorem exec_proveSession (p : Port) (s : State) :
    exec (.proveSession p) s = .next (s.event (fun t => t.proveSession (portNum p))) := by rfl
theorem exec_authLockoutEnd (p : Port) (s : State) :
    exec (.authLockoutEnd p) s = .next (s.event (fun t => t.lockoutEnd (portNum p))) := by rfl
theorem exec_challengeExpiry (p : Port) (s : State) :
    exec (.challengeExpiry p) s = .next (s.event (fun t => t.challengeExpiry (portNum p))) := by rfl
theorem exec_leaseLapse (p : Port) (s : State) :
    exec (.leaseLapse p) s = .next (s.event (fun t => t.leaseLapse (portNum p))) := by rfl
theorem exec_objectWrite (p : Port) (index : BitVec 16) (sub : BitVec 8) (data : List Byte) (s : State) :
    exec (.objectWrite p index sub data) s = .next (s.direct (portNum p) { write := true, index := index.toNat, sub := sub.toNat, len := 0, data := data }).after := by rfl
theorem exec_splitPairLoRead (p : Port) (index : BitVec 16) (sub : BitVec 8) (s : State) :
    exec (.splitPairLoRead p index sub) s = .next (s.direct (portNum p) { write := false, index := index.toNat, sub := sub.toNat, len := 0, data := [] }).after := by rfl
theorem exec_splitPairHiRead (p : Port) (index : BitVec 16) (sub : BitVec 8) (s : State) :
    exec (.splitPairHiRead p index sub) s = .next (s.direct (portNum p) { write := false, index := index.toNat, sub := sub.toNat, len := 0, data := [] }).after := by rfl
theorem exec_claimGroup (p : Port) (g : BitVec 8) (s : State) :
    exec (.claimGroup p g) s = .next (s.writeObj (portNum p) K.CLAIM g.toNat).after := by rfl
theorem exec_releaseGroup (p : Port) (g : BitVec 8) (s : State) :
    exec (.releaseGroup p g) s = .next (s.writeObj (portNum p) K.RELEASE g.toNat).after := by rfl
theorem exec_claimBreak (p : Port) (g : BitVec 8) (s : State) :
    exec (.claimBreak p g) s = .next (s.writeObj (portNum p) K.CLAIM_BREAK g.toNat).after := by rfl
theorem exec_closeSession (p : Port) (s : State) :
    exec (.closeSession p) s = .next (s.writeObj (portNum p) K.CLOSE 1).after := by rfl
theorem exec_writeRule (p : Port) (r : BitVec 8) (word : BitVec 64) (s : State) :
    exec (.writeRule p r word) s = .next (s.direct (portNum p) { write := true, index := 0x1201, sub := r.toNat, len := 0, data := leBytes 8 word.toNat }).after := by rfl
theorem exec_stencilReset (p : Port) (s : State) :
    exec (.stencilReset p) s = .next (s.writeObj (portNum p) K.STENCIL_RESET 0x5AFE0DEF).after := by rfl
theorem exec_latencyReq (p : Port) (us : BitVec 32) (s : State) :
    exec (.latencyReq p us) s = .next (s.writeObj (portNum p) K.LATENCY_REQ us.toNat).after := by rfl
theorem exec_restoreDefaults (p : Port) (s : State) :
    exec (.restoreDefaults p) s = .next (s.writeObj (portNum p) K.RESTORE_DEFAULTS 0x5AFE0DEF).after := by rfl
theorem exec_dpWindowRead (p : Port) (n : BitVec 16) (s : State) :
    exec (.dpWindowRead p n) s = .next (s.readDirect (portNum p) K.DP_WINDOW n.toNat).after := by rfl
theorem exec_dpWindowWrite (p : Port) (data : List Byte) (s : State) :
    exec (.dpWindowWrite p data) s = .next (s.direct (portNum p) { write := true, index := 0x6100, sub := 2, len := 0, data := data }).after := by rfl
theorem exec_recordData (p : Port) (s : State) :
    exec (.recordData p) s = .next (s.readDirect (portNum p) K.RECORD_DATA 0).after := by rfl
theorem exec_ffData (p : Port) (s : State) :
    exec (.ffData p) s = .next (s.readDirect (portNum p) K.FF_DATA 0).after := by rfl
theorem exec_ledgerClearRecords (p : Port) (s : State) :
    exec (.ledgerClearRecords p) s = .next (s.writeObj (portNum p) K.LEDGER_CLEAR 1).after := by rfl
theorem exec_ledgerClearAll (p : Port) (s : State) :
    exec (.ledgerClearAll p) s = .next (s.writeObj (portNum p) K.LEDGER_CLEAR 2).after := by rfl
theorem exec_convoyEnable (p : Port) (on : Bool) (s : State) :
    exec (.convoyEnable p on) s = .next (s.writeObj (portNum p) K.CONVOY_ENABLE (b2n on)).after := by rfl
theorem exec_wayRequest (p : Port) (w : BitVec 8) (s : State) :
    exec (.wayRequest p w) s = .next (s.writeObj (portNum p) K.WAY_REQUEST w.toNat).after := by rfl
theorem exec_haltRequest (p : Port) (on : Bool) (s : State) :
    exec (.haltRequest p on) s = .next (s.writeObj (portNum p) K.HALT_REQUEST (b2n on)).after := by rfl
theorem exec_localHold (p : Port) (on : Bool) (s : State) :
    exec (.localHold p on) s = .next (s.writeObj (portNum p) K.LOCAL_HOLD (b2n on)).after := by rfl
theorem exec_setPresent (p : Port) (n : Fin 64) (on : Bool) (s : State) :
    exec (.setPresent p n on) s = .next (s.writeObj (portNum p) (K.RAIL_PRESENT n.val) (b2n on)).after := by rfl
theorem exec_clearFlags (p : Port) (n : Fin 64) (s : State) :
    exec (.clearFlags p n) s = .next (s.writeObj (portNum p) (K.CLEAR_FLAGS n.val) 1).after := by rfl
theorem exec_clearLatch (p : Port) (n : Fin 64) (s : State) :
    exec (.clearLatch p n) s = .next (s.writeObj (portNum p) (K.CLEAR_LATCH n.val) 1).after := by rfl
theorem exec_scanSelect (p : Port) (b : BitVec 8) (s : State) :
    exec (.scanSelect p b) s = .next (s.writeObj (portNum p) K.SCAN_SELECT b.toNat).after := by rfl
theorem exec_readmit (p : Port) (s_ : Fin 17) (s : State) :
    exec (.readmit p s_) s = .next (s.writeObj (portNum p) (K.READMIT s_.val) 1).after := by rfl
theorem exec_convert (p : Port) (c : Fin 192) (s : State) :
    exec (.convert p c) s = .next (s.writeObj (portNum p) (K.CONVERT c.val) 1).after := by rfl
theorem exec_ringRearm (p : Port) (s : State) :
    exec (.ringRearm p) s = .next (s.writeObj (portNum p) K.RING_REARM 1).after := by rfl
theorem exec_ringTrigger (p : Port) (s : State) :
    exec (.ringTrigger p) s = .next (s.writeObj (portNum p) K.RING_TRIGGER 1).after := by rfl
theorem exec_capArm (p : Port) (s : State) :
    exec (.capArm p) s = .next (s.writeObj (portNum p) K.CAP_ARM 1).after := by rfl
theorem exec_capAbort (p : Port) (s : State) :
    exec (.capAbort p) s = .next (s.writeObj (portNum p) K.CAP_ABORT 1).after := by rfl
theorem exec_capRelease (p : Port) (s : State) :
    exec (.capRelease p) s = .next (s.writeObj (portNum p) K.CAP_RELEASE 1).after := by rfl
theorem exec_mrgCmdNominal (p : Port) (n : Fin 64) (s : State) :
    exec (.mrgCmdNominal p n) s = .next (s.writeObj (portNum p) (K.MRG_CMD n.val) 0).after := by rfl
theorem exec_mrgCmdHigh (p : Port) (n : Fin 64) (s : State) :
    exec (.mrgCmdHigh p n) s = .next (s.writeObj (portNum p) (K.MRG_CMD n.val) 1).after := by rfl
theorem exec_mrgCmdLow (p : Port) (n : Fin 64) (s : State) :
    exec (.mrgCmdLow p n) s = .next (s.writeObj (portNum p) (K.MRG_CMD n.val) 2).after := by rfl
theorem exec_stipCmdSchedule (p : Port) (n : Fin 64) (s : State) :
    exec (.stipCmdSchedule p n) s = .next (s.writeObj (portNum p) (K.STIP_CMD n.val) 1).after := by rfl
theorem exec_stipCmdCancel (p : Port) (n : Fin 64) (s : State) :
    exec (.stipCmdCancel p n) s = .next (s.writeObj (portNum p) (K.STIP_CMD n.val) 2).after := by rfl
theorem exec_loadCmdApply (p : Port) (n : Fin 64) (s : State) :
    exec (.loadCmdApply p n) s = .next (s.writeObj (portNum p) (K.LOAD_CMD n.val) 1).after := by rfl
theorem exec_loadCmdRemove (p : Port) (n : Fin 64) (s : State) :
    exec (.loadCmdRemove p n) s = .next (s.writeObj (portNum p) (K.LOAD_CMD n.val) 2).after := by rfl
theorem exec_inrushSet (p : Port) (v : BitVec 16) (s : State) :
    exec (.inrushSet p v) s = .next (s.writeObj (portNum p) K.INRUSH_SET v.toNat).after := by rfl
theorem exec_feedEnable (p : Port) (f : Fin 2) (on : Bool) (s : State) :
    exec (.feedEnable p f on) s = .next (s.writeObj (portNum p) (K.FEED_ENABLE f.val) (b2n on)).after := by rfl
theorem exec_feedClear (p : Port) (f : Fin 2) (s : State) :
    exec (.feedClear p f) s = .next (s.writeObj (portNum p) (K.FEED_CLEAR f.val) 1).after := by rfl
theorem exec_forceMessage (p : Port) (src : BitVec 8) (s : State) :
    exec (.forceMessage p src) s = .next (s.writeObj (portNum p) (K.FORCE src.toNat) 1).after := by rfl
theorem exec_testMode (p : Port) (on : Bool) (s : State) :
    exec (.testMode p on) s = .next (s.writeObj (portNum p) K.TEST_MODE (b2n on)).after := by rfl
theorem exec_faultAck (p : Port) (s : State) :
    exec (.faultAck p) s = .next (s.writeObj (portNum p) K.FAULT_ACK 1).after := by rfl
theorem exec_faultNHold (p : Port) (on : Bool) (s : State) :
    exec (.faultNHold p on) s = .next (s.writeObj (portNum p) K.FAULT_N_HOLD (b2n on)).after := by rfl
theorem exec_etchCmd (p : Port) (s : State) :
    exec (.etchCmd p) s = .next (s.writeObj (portNum p) K.ETCH_CMD 1).after := by rfl
theorem exec_etchAbort (p : Port) (s : State) :
    exec (.etchAbort p) s = .next (s.writeObj (portNum p) K.ETCH_ABORT 1).after := by rfl
theorem exec_updCmdOpen (p : Port) (s : State) :
    exec (.updCmdOpen p) s = .next (s.writeObj (portNum p) K.UPD_CMD 1).after := by rfl
theorem exec_updBlock (p : Port) (index : BitVec 16) (s : State) :
    exec (.updBlock p index) s = .next (s.writeObj (portNum p) K.UPD_BLOCK index.toNat).after := by rfl
theorem exec_updCmdVerify (p : Port) (s : State) :
    exec (.updCmdVerify p) s = .next (s.writeObj (portNum p) K.UPD_CMD 2).after := by rfl
theorem exec_updCmdApply (p : Port) (s : State) :
    exec (.updCmdApply p) s = .next (s.writeObj (portNum p) K.UPD_CMD 3).after := by rfl
theorem exec_updCmdSchedule (p : Port) (s : State) :
    exec (.updCmdSchedule p) s = .next (s.writeObj (portNum p) K.UPD_CMD 4).after := by rfl
theorem exec_updCmdUnschedule (p : Port) (s : State) :
    exec (.updCmdUnschedule p) s = .next (s.writeObj (portNum p) K.UPD_CMD 5).after := by rfl
theorem exec_updCmdConfirm (p : Port) (s : State) :
    exec (.updCmdConfirm p) s = .next (s.writeObj (portNum p) K.UPD_CMD 6).after := by rfl
theorem exec_updCmdAbort (p : Port) (s : State) :
    exec (.updCmdAbort p) s = .next (s.writeObj (portNum p) K.UPD_CMD 7).after := by rfl
theorem exec_beatEdge (s : State) :
    exec (.beatEdge) s = .next (s.event (fun t => (t.onPin State.beatEdge).drive)) := by rfl
theorem exec_spuriousEdge (s : State) :
    exec (.spuriousEdge) s = .next (s.event (fun t => (t.onPin State.spuriousEdge).drive)) := by rfl
theorem exec_forcedRelease (s : State) :
    exec (.forcedRelease) s = .next (s.event (fun t => t.forcedRelease.drive)) := by rfl
theorem exec_beatFrame (frame : List Byte) (s : State) :
    exec (.beatFrame frame) s = .next ((s.onPin (fun u => u.noteReplySlot frame)).event (fun t => (t.onPin (fun u => u.beatFrame frame)).drive)) := by rfl
theorem exec_soloBeat (s : State) :
    exec (.soloBeat) s = .next (s.event (fun t => t.soloBeat.drive)) := by rfl
theorem exec_lossTimeout (s : State) :
    exec (.lossTimeout) s = .next (s.event (fun t => t.lossTimeout.drive)) := by rfl
theorem exec_candidateWait (s : State) :
    exec (.candidateWait) s = .next (s.event (fun t => t.candidateWait.drive)) := by rfl
theorem exec_leaderBeat (s : State) :
    exec (.leaderBeat) s = .next (s.event (fun t => t.leaderBeat.drive)) := by rfl
theorem exec_beatFrameSend (halt : HaltSample) (vote : Bool) (s : State) :
    exec (.beatFrameSend halt vote) s = .next (s.event (fun t => (t.beatFrameSend halt vote).drive)) := by rfl
theorem exec_replySend (won : Bool) (s : State) :
    exec (.replySend won) s = .next (s.event (fun t => (t.replySend won).drive)) := by rfl
theorem exec_tollRequest (reply : BitVec 80) (s : State) :
    exec (.tollRequest reply) s = .next (s.event (fun t => (t.tollRequest reply).drive)) := by rfl
theorem exec_tollOffer (reply : BitVec 80) (s : State) :
    exec (.tollOffer reply) s = .next (s.event (fun t => (t.tollOffer reply).drive)) := by rfl
theorem exec_xferSent (reply : BitVec 80) (s : State) :
    exec (.xferSent reply) s = .next (s.event (fun t => (t.xferSent reply).drive)) := by rfl
theorem exec_xferReceived (reply : BitVec 80) (s : State) :
    exec (.xferReceived reply) s = .next (s.event (fun t => (t.xferReceived reply).drive)) := by rfl
theorem exec_wayRequestReply (reply : BitVec 80) (s : State) :
    exec (.wayRequestReply reply) s = .next (s.event (fun t => (t.wayRequestReply reply).drive)) := by rfl
theorem exec_xferPropose (s : State) :
    exec (.xferPropose) s = .next (s.event (fun t => t.xferPropose.drive)) := by rfl
theorem exec_xferDeliver (s : State) :
    exec (.xferDeliver) s = .next (s.event (fun t => t.xferDeliver.drive)) := by rfl
theorem exec_xferClose (s : State) :
    exec (.xferClose) s = .next (s.event (fun t => t.xferClose.drive)) := by rfl
theorem exec_xferResend (s : State) :
    exec (.xferResend) s = .next (s.event (fun t => t.xferResend.drive)) := by rfl
theorem exec_proposalForget (s : State) :
    exec (.proposalForget) s = .next (s.event (fun t => t.proposalForget.drive)) := by rfl
theorem exec_deliverRepeat (s : State) :
    exec (.deliverRepeat) s = .next (s.event (fun t => t.deliverRepeat.drive)) := by rfl
theorem exec_ringDelay (ticks : BitVec 32) (s : State) :
    exec (.ringDelay ticks) s = .next (s.event (fun t => (t.ringDelay ticks.toNat).drive)) := by rfl
theorem exec_ringOpen (s : State) :
    exec (.ringOpen) s = .next (s.event (fun t => t.ringOpen.drive)) := by rfl
theorem exec_cscStuck (s : State) :
    exec (.cscStuck) s = .next (s.event (fun t => t.cscStuck.drive)) := by rfl
theorem exec_laneGrant (s : State) :
    exec (.laneGrant) s = .next (s.event State.laneGrant) := by rfl
theorem exec_hardAgePreempt (s : State) :
    exec (.hardAgePreempt) s = .next (s.event State.hardAgePreempt) := by rfl
theorem exec_preemptHandover (lane : Fin 128) (s : State) :
    exec (.preemptHandover lane) s = .next (s.event (fun t => t.preemptHandover lane.val)) := by rfl
theorem exec_lockstepMismatch (s : State) :
    exec (.lockstepMismatch) s = .next (s.event (fun t => t.coreRestart 1)) := by rfl
theorem exec_watchdogExpiry (s : State) :
    exec (.watchdogExpiry) s = .next (s.event (fun t => t.coreRestart 2)) := by rfl
theorem exec_coreStart (s : State) :
    exec (.coreStart) s = .next (s.event State.coreStart) := by rfl
theorem exec_stepStart (s : State) :
    exec (.stepStart) s = .next (s.event State.stepStart) := by rfl
theorem exec_onSlot (n : Fin 64) (s : State) :
    exec (.onSlot n) s = .next (s.event (fun t => t.railSlot n.val)) := by rfl
theorem exec_prereqTimeout (n : Fin 64) (s : State) :
    exec (.prereqTimeout n) s = .next (s.event (fun t => t.prereqTimeout n.val)) := by rfl
theorem exec_railQualify (n : Fin 64) (s : State) :
    exec (.railQualify n) s = .next (s.event (fun t => t.railQualify n.val)) := by rfl
theorem exec_rampTimeout (n : Fin 64) (s : State) :
    exec (.rampTimeout n) s = .next (s.event (fun t => t.rampTimeout n.val)) := by rfl
theorem exec_fallingPass (s : State) :
    exec (.fallingPass) s = .next (s.event State.fallingPass) := by rfl
theorem exec_offSlot (n : Fin 64) (s : State) :
    exec (.offSlot n) s = .next (s.event (fun t => t.offSlotRow n.val)) := by rfl
theorem exec_dischTimeout (n : Fin 64) (s : State) :
    exec (.dischTimeout n) s = .next (s.event (fun t => t.dischTimeout n.val)) := by rfl
theorem exec_dischFailed (n : Fin 64) (s : State) :
    exec (.dischFailed n) s = .next (s.event (fun t => t.dischFailed n.val)) := by rfl
theorem exec_localShutdown (cause : BitVec 8) (s : State) :
    exec (.localShutdown cause) s = .next (s.event (fun t => t.causeArises cause.toNat)) := by rfl
theorem exec_holdoffEnd (s : State) :
    exec (.holdoffEnd) s = .next (s.event State.holdoffEnd) := by rfl
theorem exec_pmbusTransactionDone (bus : Fin 4) (ok : Bool) (data : BitVec 16) (s : State) :
    exec (.pmbusTransactionDone bus ok data) s = .next (s.event (fun t => t.pmbDone bus.val ok data.toNat)) := by rfl
theorem exec_comparatorCross (n : Fin 64) (c : Fin 5) (s : State) :
    exec (.comparatorCross n c) s = .next (s.freeEvent (fun t => t.cross n.val c.val)) := by rfl
theorem exec_comparatorQualify (n : Fin 64) (c : Fin 5) (s : State) :
    exec (.comparatorQualify n c) s = .next (s.freeEvent (fun t => t.qualifyDue n.val c.val)) := by rfl
theorem exec_filterClear (n : Fin 64) (c : Fin 5) (s : State) :
    exec (.filterClear n c) s = .next (s.freeEvent (fun t => t.filterClear n.val c.val)) := by rfl
theorem exec_railDecisionWindow (s : State) :
    exec (.railDecisionWindow) s = .next (s.event State.railWindowEnd) := by rfl
theorem exec_energyPeriod (n : Fin 64) (s : State) :
    exec (.energyPeriod n) s = .next (s.event (fun t => t.energyPeriod n.val)) := by rfl
theorem exec_slotResult (raw : BitVec 16) (s : State) :
    exec (.slotResult raw) s = .next (s.event (fun t => t.slotResult raw.toNat)) := by rfl
theorem exec_quickResult (feedA feedB outSns vhu : BitVec 12) (s : State) :
    exec (.quickResult feedA feedB outSns vhu) s = .next (s.freeEvent (fun t => t.quickResult feedA.toNat feedB.toNat outSns.toNat vhu.toNat)) := by rfl
theorem exec_sliceSwap (s : State) :
    exec (.sliceSwap) s = .next (s.event State.sliceSwap) := by rfl
theorem exec_forcedSwap (s : State) :
    exec (.forcedSwap) s = .next (s.event State.forcedSwap) := by rfl
theorem exec_calStepDone (n : Fin 17) (zero refP refN rise fall : BitVec 24) (s : State) :
    exec (.calStepDone n zero refP refN rise fall) s = .next (s.event (fun t => t.calStepEnd n.val zero.toNat refP.toNat refN.toNat rise.toNat fall.toNat)) := by rfl
theorem exec_calStale (n : Fin 17) (s : State) :
    exec (.calStale n) s = .next (s.event (fun t => t.calStale n.val)) := by rfl
theorem exec_captureStart (s : State) :
    exec (.captureStart) s = .next (s.event State.captureStart) := by rfl
theorem exec_captureDone (s : State) :
    exec (.captureDone) s = .next (s.event State.captureDone) := by rfl
theorem exec_ringFreeze (s : State) :
    exec (.ringFreeze) s = .next (s.event State.ringFreeze) := by rfl
theorem exec_ringAutoRearm (s : State) :
    exec (.ringAutoRearm) s = .next (s.event State.ringAutoRearm) := by rfl
theorem exec_marginMoveStart (n : Fin 64) (s : State) :
    exec (.marginMoveStart n) s = .next (s.event (fun t => t.marginStart n.val)) := by rfl
theorem exec_marginStep (n : Fin 64) (s : State) :
    exec (.marginStep n) s = .next (s.event (fun t => t.marginStep n.val)) := by rfl
theorem exec_mrgSettleEnd (n : Fin 64) (s : State) :
    exec (.mrgSettleEnd n) s = .next (s.event (fun t => t.settleEnd n.val)) := by rfl
theorem exec_mrgHoldExpired (n : Fin 64) (s : State) :
    exec (.mrgHoldExpired n) s = .next (s.event (fun t => t.holdExpired n.val)) := by rfl
theorem exec_stipScheduledTick (n : Fin 64) (s : State) :
    exec (.stipScheduledTick n) s = .next (s.event (fun t => t.stipScheduled n.val)) := by rfl
theorem exec_stipWaitMaxEnd (n : Fin 64) (s : State) :
    exec (.stipWaitMaxEnd n) s = .next (s.event (fun t => t.waitMaxEnd n.val)) := by rfl
theorem exec_stipPreloadEnd (n : Fin 64) (s : State) :
    exec (.stipPreloadEnd n) s = .next (s.event (fun t => t.preloadEnd n.val)) := by rfl
theorem exec_stipPatternEdge (n : Fin 64) (s : State) :
    exec (.stipPatternEdge n) s = .next (s.event (fun t => t.patternEdge n.val)) := by rfl
theorem exec_stipAcquireEnd (n : Fin 64) (s : State) :
    exec (.stipAcquireEnd n) s = .next (s.event (fun t => t.acquireEnd n.val)) := by rfl
theorem exec_stipAnalysisDone (n : Fin 64) (s : State) :
    exec (.stipAnalysisDone n) s = .next (s.event (fun t => t.analysisDone n.val)) := by rfl
theorem exec_powerGrant (s : State) :
    exec (.powerGrant) s = .next (s.event State.servePower) := by rfl
theorem exec_energyGrant (s : State) :
    exec (.energyGrant) s = .next (s.event State.energyGrants) := by rfl
theorem exec_sinkSlewDone (n : Fin 64) (s : State) :
    exec (.sinkSlewDone n) s = .next (s.event (fun t => (t.sinkSlewDone n.val).stipUnloaded n.val)) := by rfl
theorem exec_energyOverrun (n : Fin 64) (s : State) :
    exec (.energyOverrun n) s = .next (s.event (fun t => t.energyOverrun n.val)) := by rfl
theorem exec_coolingExpiry (s : State) :
    exec (.coolingExpiry) s = .next (s.event State.coolingExpiry) := by rfl
theorem exec_powerGrantReeval (s : State) :
    exec (.powerGrantReeval) s = .next (s.event State.reevalPower) := by rfl
theorem exec_reserveUpdate (s : State) :
    exec (.reserveUpdate) s = .next (s.event State.reserveUpdate) := by rfl
theorem exec_loadTimeEnd (n : Fin 64) (s : State) :
    exec (.loadTimeEnd n) s = .next (s.event (fun t => t.loadTimeEnd n.val)) := by rfl
theorem exec_mated (s : State) :
    exec (.mated) s = .next (s.event (fun t => t.onPin State.mateCard)) := by rfl
theorem exec_matingLost (early : Bool) (s : State) :
    exec (.matingLost early) s = .next (s.event (fun t => t.loseMating early)) := by rfl
theorem exec_extractDelayEnd (s : State) :
    exec (.extractDelayEnd) s = .next (s.event State.extractDelayEnd) := by rfl
theorem exec_earlyHigh (s : State) :
    exec (.earlyHigh) s = .next (s.event State.earlyHigh) := by rfl
theorem exec_inrushIssue (s : State) :
    exec (.inrushIssue) s = .next (s.event State.inrushIssue) := by rfl
theorem exec_fuseFast (f : Fin 2) (s : State) :
    exec (.fuseFast f) s = .next (s.freeEvent (fun t => t.fuseFast f.val)) := by rfl
theorem exec_fuseSlow (f : Fin 2) (s : State) :
    exec (.fuseSlow f) s = .next (s.freeEvent (fun t => t.fuseSlow f.val)) := by rfl
theorem exec_soaTimeout (f : Fin 2) (s : State) :
    exec (.soaTimeout f) s = .next (s.event (fun t => t.soaTimeout f.val)) := by rfl
theorem exec_reverseOff (f : Fin 2) (s : State) :
    exec (.reverseOff f) s = .next (s.freeEvent (fun t => t.reverseOff f.val)) := by rfl
theorem exec_forwardOn (f : Fin 2) (s : State) :
    exec (.forwardOn f) s = .next (s.freeEvent (fun t => t.forwardOn f.val)) := by rfl
theorem exec_feedUv (f : Fin 2) (s : State) :
    exec (.feedUv f) s = .next (s.event (fun t => t.sourceOut f.val 6 (t.feed f.val).uv (t.obj (K.UV_RIDE f.val)))) := by rfl
theorem exec_feedOv (f : Fin 2) (s : State) :
    exec (.feedOv f) s = .next (s.event (fun t => t.sourceOut f.val 7 (t.feed f.val).ov (t.obj (K.OV_FILTER f.val)))) := by rfl
theorem exec_tripRunReset (f : Fin 2) (s : State) :
    exec (.tripRunReset f) s = .next (s.event (fun t => t.tripRunReset f.val)) := by rfl
theorem exec_retryRelease (f : Fin 2) (s : State) :
    exec (.retryRelease f) s = .next (s.event (fun t => t.retryRelease f.val)) := by rfl
theorem exec_retryFull (f : Fin 2) (s : State) :
    exec (.retryFull f) s = .next (s.event (fun t => t.retryFull f.val)) := by rfl
theorem exec_damagedElement (f : Fin 2) (s : State) :
    exec (.damagedElement f) s = .next (s.event (fun t => t.damagedElement f.val)) := by rfl
theorem exec_damagedPath (s : State) :
    exec (.damagedPath) s = .next (s.event State.damagedPath) := by rfl
theorem exec_inputLoss (s : State) :
    exec (.inputLoss) s = .next (s.event State.inputLoss) := by rfl
theorem exec_pfail (s : State) :
    exec (.pfail) s = .next (s.event (fun t => t.onPin State.pfailLow)) := by rfl
theorem exec_pfailHigh (s : State) :
    exec (.pfailHigh) s = .next (s.event State.pfailHigh) := by rfl
theorem exec_huLow (s : State) :
    exec (.huLow) s = .next (s.freeEvent State.huLow) := by rfl
theorem exec_huOnReserve (s : State) :
    exec (.huOnReserve) s = .next (s.freeEvent State.goOnReserve) := by rfl
theorem exec_vauxReturn (s : State) :
    exec (.vauxReturn) s = .next (s.freeEvent State.vauxBack) := by rfl
theorem exec_vioLoss (s : State) :
    exec (.vioLoss) s = .next (s.vioLoss).after := by rfl
theorem exec_messageArrival (index : Nat) (s : State) :
    exec (.messageArrival index) s = .next (s.event (fun t => t.messageArrival index)) := by rfl
theorem exec_messageRelease (s : State) :
    exec (.messageRelease) s = .next (s.event State.messageRelease) := by rfl
theorem exec_collectorDecision (s : State) :
    exec (.collectorDecision) s = .next (s.event State.collectorDecision) := by rfl
theorem exec_quietTimeEnd (s : State) :
    exec (.quietTimeEnd) s = .next (s.event State.quietEnd) := by rfl
theorem exec_recoverySpanEnd (s : State) :
    exec (.recoverySpanEnd) s = .next (s.event State.recoveryEnd) := by rfl
theorem exec_faultPulseEnd (s : State) :
    exec (.faultPulseEnd) s = .next (s.event State.pulseEnd) := by rfl
theorem exec_startupSpanEnd (s : State) :
    exec (.startupSpanEnd) s = .next (s.event State.startSpanEnd) := by rfl
theorem exec_refclkLost (s : State) :
    exec (.refclkLost) s = .next (s.event (fun t => t.raise 0x88 1 0)) := by rfl
theorem exec_refclkFreq (s : State) :
    exec (.refclkFreq) s = .next (s.event (fun t => t.raise 0x88 2 0)) := by rfl
theorem exec_pllUnlock (s : State) :
    exec (.pllUnlock) s = .next (s.event (fun t => t.raise 0x88 3 0)) := by rfl
theorem exec_filterUnlock (s : State) :
    exec (.filterUnlock) s = .next (s.event (fun t => t.filterUnlock)) := by rfl
theorem exec_autoEtchDue (s : State) :
    exec (.autoEtchDue) s = .next (s.event State.autoEtchDue) := by rfl
theorem exec_etchSnapshot (s : State) :
    exec (.etchSnapshot) s = .next (s.event State.etchSnapshot) := by rfl
theorem exec_etchPageCommit (ok : Bool) (ch : Fin 8) (s : State) :
    exec (.etchPageCommit ok ch) s = .next (s.event (fun t => t.etchPageCommit ok ch.val)) := by rfl
theorem exec_eccPatrol (page : BitVec 12) (ch : Fin 8) (group : BitVec 8) (uncorrectable : Bool) (s : State) :
    exec (.eccPatrol page ch group uncorrectable) s = .next (s.event (fun t => t.eccPatrol page.toNat ch.val group.toNat uncorrectable)) := by rfl
theorem exec_pageReload (page : BitVec 12) (s : State) :
    exec (.pageReload page) s = .next (s.event (fun t => t.pageReload page.toNat)) := by rfl
theorem exec_scrubStep (corrected : BitVec 9) (uncorrectable : Bool) (group : BitVec 8) (s : State) :
    exec (.scrubStep corrected uncorrectable group) s = .next (s.event (fun t => t.scrubStep corrected.toNat uncorrectable group.toNat)) := by rfl
theorem exec_opTimeAdd (s : State) :
    exec (.opTimeAdd) s = .next (s.event State.opTimeAdd) := by rfl
theorem exec_storeRecall (s : State) :
    exec (.storeRecall) s = .next (s.event State.recallStore) := by rfl
theorem exec_ledgerEntry (s : State) :
    exec (.ledgerEntry) s = .next (s.event State.ledgerEntry) := by rfl
theorem exec_ledgerFirstMark (s : State) :
    exec (.ledgerFirstMark) s = .next (s.event State.firstMark) := by rfl
theorem exec_ledgerLink (s : State) :
    exec (.ledgerLink) s = .next (s.event State.linkRecords) := by rfl
theorem exec_ledgerReconcile (s : State) :
    exec (.ledgerReconcile) s = .next (s.event State.reconcile) := by rfl
theorem exec_verifyDone (s : State) :
    exec (.verifyDone) s = .next (s.event State.verifyDone) := by rfl
theorem exec_applyOutputDone (s : State) :
    exec (.applyOutputDone) s = .next (s.event State.applyOutputDone) := by rfl
theorem exec_activation (s : State) :
    exec (.activation) s = .next (s.event State.activation) := by rfl
theorem exec_confirmSpanEnd (s : State) :
    exec (.confirmSpanEnd) s = .next (s.event State.confirmSpanEnd) := by rfl
theorem exec_confirmation (s : State) :
    exec (.confirmation) s = .next (s.event State.confirmation) := by rfl
theorem exec_trialTimeEnd (s : State) :
    exec (.trialTimeEnd) s = .next (s.event State.trialTimeEnd) := by rfl
theorem exec_suppliesGood (s : State) :
    exec (.suppliesGood) s = .next (s.suppliesGood).after := by rfl
theorem exec_resetLow (powerLost : Bool) (s : State) :
    exec (.resetLow powerLost) s = .next (s.resetLow powerLost).after := by rfl
theorem exec_powerOnEnd (s : State) :
    exec (.powerOnEnd) s = .next (s.powerOnEnd).after := by rfl
theorem exec_clocksEnd (s : State) :
    exec (.clocksEnd) s = .next (s.clocksEnd).after := by rfl
theorem exec_endOfStartup (s : State) :
    exec (.endOfStartup) s = .next (s.event State.endOfStartup) := by rfl
theorem exec_powerStateEnter (s : State) :
    exec (.powerStateEnter) s = .next (s.event State.powerStateEnter) := by rfl
theorem exec_fullReached (s : State) :
    exec (.fullReached) s = .next (s.event State.fullReached) := by rfl
theorem exec_dwellEnd (s : State) :
    exec (.dwellEnd) s = .next (s.event State.dwellEnd) := by rfl
theorem exec_freeze (s : State) :
    exec (.freeze) s = .next (s.onPin State.freeze).after := by rfl
theorem exec_frozenBeatEdge (s : State) :
    exec (.frozenBeatEdge) s = .next (s.onPin State.frozenBeatEdge).after := by rfl
theorem exec_firstClockedTick (s : State) :
    exec (.firstClockedTick) s = .next (s.firstClockedTick).after := by rfl
theorem exec_relayForward (cscIn holdLine dataLine : Bool) (s : State) :
    exec (.relayForward cscIn holdLine dataLine) s = .next (s.relayForward (cscIn || s.vioGone) (holdLine || s.vioGone) (dataLine || s.vioGone)).after := by rfl
theorem exec_comparatorReturn (n : Fin 64) (c : Fin 5) (s : State) :
    exec (.comparatorReturn n c) s = .next (s.freeEvent (fun t => t.goBack n.val c.val)) := by rfl
theorem exec_holdUpExhausted (s : State) :
    exec (.holdUpExhausted) s = .next (s.holdUpExhausted).after := by rfl

end Sys2Proof.Machine
end

