-- ==== Sys2Proof/Laws/Serve.lean ====
section
/-! SUPPORT. What a host row that is ready, admitted and in range comes to: the command runs on the state in which it was judged, and
the answer is OK. -/

namespace Sys2Proof.Machine

variable {s t : State} {p : Nat} {x : Session} {m : Member}

@[simp] theorem wake_fab (s : State) : s.wake.fab = s.fab := by
  unfold State.wake
  split <;> rfl

@[simp] theorem wake_hosts (s : State) : s.wake.hosts = s.hosts := by
  unfold State.wake
  split <;> rfl

@[simp] theorem wake_port (s : State) (q : Nat) : s.wake.port q = s.port q := by
  unfold State.port
  rw [wake_hosts]

@[simp] theorem wake_coresUp (s : State) : s.wake.coresUp = s.coresUp := by
  unfold State.wake
  split <;> rfl

@[simp] theorem port_setPort_same (s : State) (p : Nat) (x : PortState) : (s.setPort p x).port p = x := fget_fset_same _ _ _ _

theorem setPort_twice (s : State) (p : Nat) (x y : PortState) : (s.setPort p x).setPort p y = s.setPort p y := by
  unfold State.setPort
  have h : ∀ (l : FMap PortState), fset (fset l p x) p y = fset l p y := by
    intro l
    induction l with
    | nil => simp [fset]
    | cons a r ih =>
      by_cases h1 : a.1 = p
      · simp [fset, h1]
      · by_cases h2 : p < a.1
        · simp [fset, h1, h2]
        · simp [fset, h1, h2, ih]
  simp only [h]

theorem clearFrameErr_session (s : State) (p q : Nat) : ((s.clearFrameErr p q).port p).session = (s.port p).session := by
  show ((s.setPort p { s.port p with frameErr := false }).port p).session = _
  rw [port_setPort_same]

theorem clearFrameErr_fab (s : State) (p q : Nat) : (s.clearFrameErr p q).fab = s.fab := rfl

theorem clearFrameErr_coresUp (s : State) (p q : Nat) : (s.clearFrameErr p q).coresUp = s.coresUp := by
  unfold State.coresUp State.clearFrameErr
  simp only [State.setPort_cores, State.setPort_frozen]

/-- The management cores run in the state in which a row is judged as they did before. -/
theorem taken_coresUp (s : State) (p : Nat) (x : Session) : (s.taken p x).coresUp = s.coresUp := by
  refine Eq.trans ?_ ((clearFrameErr_coresUp s.wake p ((x.lastSeq + 1) % 65536)).trans (wake_coresUp s))
  unfold State.coresUp State.taken
  simp only [State.setPort_cores, State.setPort_frozen]

/-- Nothing but the collection window is noted, and only where it has changed. -/
theorem noteWindow_same (s : State) : s.noteWindow s.collWindow = s := by
  unfold State.noteWindow
  rw [if_pos rfl]

/-- A transaction that leaves PROTECT_TOLLS alone is foreseen as its values stand. -/
theorem foreseen_same (s : State) : s.foreseen s = s := by
  unfold State.foreseen
  rw [if_pos rfl]

/-- Only the level of a session bears on a member's status. -/
theorem memberStatus_level (s w : State) (p : Nat) {x y : Session} (h : x.level = y.level) (m : Member) :
    s.memberStatus w p x m = s.memberStatus w p y m := by
  unfold State.memberStatus
  rw [h]

/-- The session as perform takes it: its lease renewed, its SEQ not yet taken. -/
def State.renewed (s : State) (x : Session) : Session := { x with renewed := s.fab.tick }

/-- A host row: its one member is performed on the state in which it is judged, and answered. -/
theorem direct_perform (h : s.Ready p x) (hl : tooLarge [m] = false) :
    s.direct p m =
      (let r := (s.taken p x).perform p (s.renewed x) [m]
       let body := r.st.response 0 ((x.lastSeq + 1) % 65536) x.level r.answers [] (some x.key)
       let s1 := (r.st.setPort p { r.st.port p with stored := some (body, r.answers) }).deliver p body r.answers
       let s2 := if r.rules then s1.reviewClaims else s1
       if r.close then s2.endSession p else s2) := by
  have hq : s.wake.nextSeq p = (x.lastSeq + 1) % 65536 := by
    have := h.session
    unfold State.nextSeq
    unfold State.current at this ⊢
    rw [wake_port] at this ⊢
    rw [wake_fab, this]
  have h0 : ((s.wake.clearFrameErr p ((x.lastSeq + 1) % 65536)).setPort p
      { (s.wake.clearFrameErr p ((x.lastSeq + 1) % 65536)).port p with session := some { x with renewed := s.fab.tick, lastSeq := (x.lastSeq + 1) % 65536 } })
      = s.taken p x := by
    rfl
  have hcur : (s.wake.clearFrameErr p ((x.lastSeq + 1) % 65536)).current p (s.wake.clearFrameErr p ((x.lastSeq + 1) % 65536)).fab.tick = some x := by
    have := h.session
    unfold State.current at this ⊢
    rw [clearFrameErr_session, clearFrameErr_fab, wake_fab]
    exact this
  have hu : (s.taken p x).coresUp = true := by rw [taken_coresUp]; exact h.cores
  unfold State.direct
  rw [h.receives, h.quiet]
  simp only [Bool.not_true, Bool.or_self, Bool.false_eq_true, if_false]
  rw [hq, hcur]
  simp only
  unfold State.serveNew
  have ht : (s.wake.clearFrameErr p ((x.lastSeq + 1) % 65536)).fab.tick = s.fab.tick := by rw [clearFrameErr_fab, wake_fab]
  simp only [ht]
  rw [h0]
  simp only [hu, hl, Bool.true_eq_false, Bool.false_eq_true, if_false]
  rfl

/-- A performance that neither changes a rule nor closes the session is answered as it stands. -/
theorem direct_of_perform (h : s.Ready p x) (hl : tooLarge [m] = false) {e : State} {a : Answer}
    (hp : (s.taken p x).perform p (s.renewed x) [m] = { st := e, answers := [a], rules := false, close := false }) :
    s.direct p m = e.answered p x a := by
  rw [direct_perform h hl]
  simp only [hp, Bool.false_eq_true, if_false]
  rfl

/-- The status of the one member of a host row. -/
theorem statuses_one (hs : (s.taken p x).memberStatus ((s.taken p x).preview p [m]) p x m = c) :
    ((s.taken p x).statuses ((s.taken p x).preview p [m]) p (s.renewed x) [m]).2 = [c] := by
  have hs' : (s.taken p x).memberStatus ((s.taken p x).preview p [m]) p (s.renewed x) m = c := by
    rw [← hs]
    exact memberStatus_level _ _ _ rfl _
  unfold State.statuses
  simp only [hs']
  unfold State.statuses
  rfl

/-- What the performance of an admitted write comes to. -/
theorem perform_write (hw : m.write = true)
    (hs : (s.taken p x).memberStatus ((s.taken p x).preview p [m]) p x m = St.ok)
    (hc : ∀ w, (w = (s.taken p x).preview p [m] ∨ m.key = K.LOAD_CMD (m.index % 256)) → w.conditionsHold [m] = true) :
    (s.taken p x).perform p (s.renewed x) [m] =
      (let s1 := (s.taken p x).commitWrites p [m]
       let changed := m.ofStencil && s1.rules != (s.taken p x).rules
       { st := if changed then s1.stencilChanged p else s1, answers := [okAnswer], rules := changed, close := m.key == K.CLOSE }) := by
  have hst := statuses_one hs
  have hw1 : ((s.taken p x).statuses ((s.taken p x).preview p [m]) p (s.renewed x) [m]).1.conditionsHold [m] = true := by
    apply hc
    unfold State.statuses
    dsimp only
    unfold State.statuses
    by_cases q : m.key = K.LOAD_CMD (m.index % 256)
    · exact Or.inr q
    · exact Or.inl (if_neg (fun g => q g.2.2.1))
  unfold State.perform
  simp [hst, hw1, hw, State.answerAll, State.answerMember, okAnswer, St.ok]

/-- A host row whose one member is admitted: its writes take effect, and the answer goes out. -/
theorem direct_write (h : s.Ready p x) (hw : m.write = true) (hl : tooLarge [m] = false)
    (hs : (s.taken p x).memberStatus ((s.taken p x).preview p [m]) p x m = St.ok)
    (hc : ∀ w, (w = (s.taken p x).preview p [m] ∨ m.key = K.LOAD_CMD (m.index % 256)) → w.conditionsHold [m] = true)
    (hr : m.ofStencil = false) (he : m.key ≠ K.CLOSE) :
    s.direct p m = ((s.taken p x).commitWrites p [m]).answered p x okAnswer := by
  apply direct_of_perform h hl
  rw [perform_write hw hs hc]
  simp [hr, he]

/-- What the tables alone say of the write of v to a command object: the row exists, admits the write (an OWN one from an owner), and takes v. -/
def commandFits (key v : Nat) (owner : Bool) : Bool :=
  match objRowOfKey key with
  | some r => isCommand key && (r.acc == .wo || (r.acc == .own && owner)) && key != K.DP_WINDOW && key != K.CLOSE
      && key / 256 != 0x1201 && key != K.STENCIL_RESET && decide (r.ty.bytes ≤ 1024) && leNat (leBytes r.ty.bytes v) == v
      && reservedOk key v && r.rangeOk key v
  | none => false

theorem writeOf_key (key v : Nat) : (writeOf key v).key = key := by
  unfold Member.key writeOf objKey
  simp only
  omega

/-- A command other than RESTORE_DEFAULTS and STENCIL_RESET leaves no value to foresee. -/
theorem preview_command {key v : Nat} (hcmd : isCommand key = true) (hr : key ≠ K.RESTORE_DEFAULTS) (hs : key ≠ K.STENCIL_RESET) (t : State) :
    t.preview p [writeOf key v] = t := by
  have e : ∀ b : Bool, t.previewMember b p (writeOf key v) = t := by
    intro b
    unfold State.previewMember
    rw [writeOf_key]
    simp only [hr, hs, hcmd, if_true, if_false]
    repeat' (first | rfl | split)
  unfold State.preview
  simp only [List.foldl_cons, List.foldl_nil, e]
  exact foreseen_same t

/-- A host row that issues a command object (WO, or an OWN command): with the table, the stencil, the claims and the command's own
conditions in its favour, judged on what it would leave, the command runs and is answered OK. -/
theorem direct_command_at {key v : Nat} {w0 : State} (h : s.Ready p x) (hf : commandFits key v (x.level == 2) = true)
    (hpre : (s.taken p x).preview p [writeOf key v] = w0) (hown : w0.own p K.DP_ADDR = (s.taken p x).own p K.DP_ADDR)
    (hp : (s.taken p x).permits p x.level (writeOf key v)) (hb : (s.taken p x).boundStatus w0 p key v = St.ok)
    (hx : ∀ w, (w = w0 ∨ key = K.LOAD_CMD (key / 256 % 256)) → w.crossOk key v = true) :
    s.writeObj p key v = (((s.taken p x).command p key v).noteWindow (s.taken p x).collWindow).answered p x okAnswer := by
  unfold commandFits at hf
  cases hrow : objRowOfKey key with
  | none => rw [hrow] at hf; exact absurd hf (by simp)
  | some r =>
    rw [hrow] at hf
    simp only [Bool.and_eq_true, bne_iff_ne, ne_eq, beq_iff_eq, decide_eq_true_eq, Bool.or_eq_true] at hf
    obtain ⟨⟨⟨⟨⟨⟨⟨⟨⟨hcmd, hacc⟩, hwin⟩, hclose⟩, hrule⟩, hsten⟩, hlen⟩, hval⟩, hres⟩, hrange⟩ := hf
    have hk := writeOf_key key v
    have hwin' : (writeOf key v).window = false := by
      unfold Member.window
      rw [hk]
      simpa using hwin
    have hval' : (writeOf key v).value = v := by
      unfold Member.value writeOf
      simp only [hrow, Option.map_some, Option.getD_some]
      exact hval
    have hdl : (writeOf key v).data.length = r.ty.bytes := by
      unfold writeOf
      simp only [hrow, Option.map_some, Option.getD_some]
      exact leBytes_length _ _
    have hrow' : objRow (writeOf key v).index (writeOf key v).sub = some r := hrow
    have hst : (s.taken p x).memberStatus ((s.taken p x).preview p [writeOf key v]) p x (writeOf key v) = St.ok := by
      rw [hpre]
      unfold State.memberStatus
      rw [hrow']
      simp only [hk, hown, hp.1, hwin', hval', hdl]
      have h2 := hp.2
      rw [hk] at h2
      have hw : (writeOf key v).write = true := rfl
      simp only [hw, h2, hres, hrange, hb]
      rcases hacc with ha | ha
      · simp [ha]
      · simp [ha.1, ha.2]
    have htl : tooLarge [writeOf key v] = false := by
      have hw : (writeOf key v).write = true := rfl
      simp [tooLarge, Member.counted, hwin', hw, hdl]
      omega
    have hw : (writeOf key v).write = true := rfl
    have hcm : ∀ w, (w = (s.taken p x).preview p [writeOf key v] ∨ (writeOf key v).key = K.LOAD_CMD ((writeOf key v).index % 256)) →
        w.conditionsHold [writeOf key v] = true := by
      intro w hw'
      rw [hpre, hk] at hw'
      unfold State.conditionsHold
      simp [hw, hk, hval']
      exact hx w hw'
    have hro : (writeOf key v).ofStencil = false := by
      unfold Member.ofStencil
      rw [hk]
      have : (writeOf key v).index = key / 256 := rfl
      simp [this, hrule, hsten]
    have hcl : (writeOf key v).key ≠ K.CLOSE := by rw [hk]; exact hclose
    have := direct_write h hw htl hst hcm hro hcl
    have hwo : s.writeObj p key v = s.direct p (writeOf key v) := rfl
    rw [hwo, this]
    refine congrArg (fun u => State.answered u p x okAnswer) ?_
    unfold State.commitWrites
    by_cases hlate : (writeOf key v).isLate = true
    · simp [hw, hk, hcmd, hwin', hlate, hval']
    · simp [hw, hk, hcmd, hwin', hlate, hval']

/-- A host row that issues a command object other than RESTORE_DEFAULTS. -/
theorem direct_command {key v : Nat} (h : s.Ready p x) (hf : commandFits key v (x.level == 2) = true) (hn : key ≠ K.RESTORE_DEFAULTS)
    (hp : (s.taken p x).permits p x.level (writeOf key v)) (hb : (s.taken p x).boundStatus (s.taken p x) p key v = St.ok)
    (hx : ∀ w, (w = s.taken p x ∨ key = K.LOAD_CMD (key / 256 % 256)) → w.crossOk key v = true) :
    s.writeObj p key v = (((s.taken p x).command p key v).noteWindow (s.taken p x).collWindow).answered p x okAnswer := by
  have hcs : isCommand key = true ∧ key ≠ K.STENCIL_RESET := by
    unfold commandFits at hf
    split at hf
    · simp only [Bool.and_eq_true, bne_iff_ne, ne_eq] at hf
      exact ⟨hf.1.1.1.1.1.1.1.1.1, hf.1.1.1.1.2⟩
    · exact absurd hf (by decide)
  exact direct_command_at h hf (preview_command hcs.1 hn hcs.2 _) rfl hp hb hx

/-- What the tables alone say of the write of v to an object that holds a value: the row exists, admits the write (an OWN one from an
owner), and takes v. -/
def plainFits (key v : Nat) (owner : Bool) : Bool :=
  match objRowOfKey key with
  | some r => !isCommand key && (r.acc == .rw || r.acc == .rws || (r.acc == .own && owner)) && key != K.DP_WINDOW && key != K.CLOSE
      && key / 256 != 0x1201 && key != K.STENCIL_RESET && decide (r.ty.bytes ≤ 1024) && leNat (leBytes r.ty.bytes v) == v
      && reservedOk key v && r.rangeOk key v
  | none => false

/-- What a write of a plain value would leave of t: the value, and the accounts under a new PROTECT_TOLLS. -/
def State.foresees (t : State) (p key v : Nat) : State := (t.previewValue p key v).foreseen t

/-- Does the safe state of check 11 hold for an RWS object (Table 2.4)? -/
def State.safeFor (t : State) (key : Nat) : Bool :=
  match objRowOfKey key with
  | some r => r.acc != .rws || t.writeSafe key
  | none => false

/-- A host row that writes a plain value: with the table, the stencil, the claims and the conditions in its favour, the value is set and
answered OK. -/
theorem direct_plain {key v : Nat} (h : s.Ready p x) (hf : plainFits key v (x.level == 2) = true)
    (hp : (s.taken p x).permits p x.level (writeOf key v)) (hsafe : (s.taken p x).safeFor key = true)
    (hown : ((s.taken p x).foresees p key v).own p K.DP_ADDR = (s.taken p x).own p K.DP_ADDR)
    (hb : (s.taken p x).boundStatus ((s.taken p x).foresees p key v) p key v = St.ok)
    (hx : ((s.taken p x).foresees p key v).crossOk key v = true) (hl : key ≠ K.LOAD_CMD (key / 256 % 256)) :
    s.writeObj p key v = ((s.taken p x).plainCommit p key v).answered p x okAnswer := by
  unfold plainFits at hf
  cases hrow : objRowOfKey key with
  | none => rw [hrow] at hf; exact absurd hf (by simp)
  | some r =>
    rw [hrow] at hf
    simp only [Bool.and_eq_true, bne_iff_ne, ne_eq, beq_iff_eq, decide_eq_true_eq, Bool.or_eq_true, Bool.not_eq_true'] at hf
    obtain ⟨⟨⟨⟨⟨⟨⟨⟨⟨hcmd, hacc⟩, hwin⟩, hclose⟩, hrule⟩, hsten⟩, hlen⟩, hval⟩, hres⟩, hrange⟩ := hf
    have hk := writeOf_key key v
    have hw : (writeOf key v).write = true := rfl
    have hwin' : (writeOf key v).window = false := by
      unfold Member.window
      rw [hk]
      simpa using hwin
    have hval' : (writeOf key v).value = v := by
      unfold Member.value writeOf
      simp only [hrow, Option.map_some, Option.getD_some]
      exact hval
    have hdl : (writeOf key v).data.length = r.ty.bytes := by
      unfold writeOf
      simp only [hrow, Option.map_some, Option.getD_some]
      exact leBytes_length _ _
    have hrow' : objRow (writeOf key v).index (writeOf key v).sub = some r := hrow
    have hpre : (s.taken p x).preview p [writeOf key v] = (s.taken p x).foresees p key v := by
      have hrk : key ≠ K.RESTORE_DEFAULTS := by
        intro e
        rw [e] at hcmd
        exact absurd hcmd (by decide)
      have e1 : ∀ t : State, t.previewMember true p (writeOf key v) = t := by
        intro t
        unfold State.previewMember
        rw [hk]
        simp only [hrk, hsten, if_false]
        repeat' (first | rfl | split)
      unfold State.preview
      simp only [List.foldl_cons, List.foldl_nil, e1]
      unfold State.previewMember State.foresees
      simp [hrow', hk, hcmd, hw, hwin', hval', hdl]
    have hst : (s.taken p x).memberStatus ((s.taken p x).preview p [writeOf key v]) p x (writeOf key v) = St.ok := by
      rw [hpre]
      unfold State.memberStatus
      rw [hrow']
      simp only [hk, hown, hp.1, hwin', hval', hdl]
      have h2 := hp.2
      rw [hk] at h2
      unfold State.safeFor at hsafe
      rw [hrow] at hsafe
      simp only [hw, h2, hres, hrange, hb]
      simp only [Bool.or_eq_true, bne_iff_ne, ne_eq] at hsafe
      rcases hacc with (ha | ha) | ha
      · simp [ha]
      · rcases hsafe with hs | hs
        · exact absurd ha hs
        · simp [ha, hs]
      · simp [ha.1, ha.2]
    have htl : tooLarge [writeOf key v] = false := by
      simp [tooLarge, Member.counted, hwin', hw, hdl]
      omega
    have hcm : ∀ w, (w = (s.taken p x).preview p [writeOf key v] ∨ (writeOf key v).key = K.LOAD_CMD ((writeOf key v).index % 256)) →
        w.conditionsHold [writeOf key v] = true := by
      intro w hw'
      rw [hpre, hk] at hw'
      rcases hw' with rfl | hw'
      · unfold State.conditionsHold
        simp [hw, hk, hval']
        exact hx
      · exact absurd hw' hl
    have hro : (writeOf key v).ofStencil = false := by
      unfold Member.ofStencil
      rw [hk]
      have : (writeOf key v).index = key / 256 := rfl
      simp [this, hrule, hsten]
    have hcl : (writeOf key v).key ≠ K.CLOSE := by rw [hk]; exact hclose
    have := direct_write h hw htl hst hcm hro hcl
    have hwo : s.writeObj p key v = s.direct p (writeOf key v) := rfl
    rw [hwo, this]
    refine congrArg (fun u => State.answered u p x okAnswer) ?_
    unfold State.commitWrites State.plainCommit
    have hi : (writeOf key v).index = key / 256 := rfl
    have hsb : (writeOf key v).sub = key % 256 := rfl
    simp [hw, hk, hcmd, hwin', hval', hi, hsb]

/-- A host row that reads: with its checks passed, the member is answered from what the tick's hardware leaves of the state in which it was
judged (R52). -/
theorem direct_read (h : s.Ready p x) (hw : m.write = false) (hl : tooLarge [m] = false)
    (hs : (s.taken p x).memberStatus (s.taken p x) p x m = St.ok) :
    s.direct p m = ((s.taken p x).hardware.answerMember p m).1.answered p x ((s.taken p x).hardware.answerMember p m).2 := by
  have hpre : (s.taken p x).preview p [m] = s.taken p x := by
    have e : ∀ b : Bool, (s.taken p x).previewMember b p m = s.taken p x := by
      intro b
      unfold State.previewMember
      split
      · rw [hw]
        rfl
      · rfl
    unfold State.preview
    simp only [List.foldl_cons, List.foldl_nil, e]
    exact foreseen_same _
  have hst := statuses_one (c := St.ok) (m := m) (p := p) (x := x) (s := s) (by rw [hpre]; exact hs)
  have hcond : ∀ w : State, w.conditionsHold [m] = true := by
    intro w
    unfold State.conditionsHold
    simp [hw]
  have hcw : (s.taken p x).commitWrites p [m] = s.taken p x := by
    unfold State.commitWrites
    simpa [hw] using noteWindow_same _
  have hro : m.ofStencil = false := by
    unfold Member.ofStencil
    simp [hw]
  apply direct_of_perform h hl
  unfold State.perform
  simp [hst, hcond, hcw, hro, hw, State.answerAll]

/-- A host row whose one member is refused: nothing is performed, and the status goes out. -/
theorem direct_refused (h : s.Ready p x) (hl : tooLarge [m] = false) {c : Nat}
    (hs : (s.taken p x).memberStatus ((s.taken p x).preview p [m]) p x m = c)
    (h0 : c ≠ St.ok) (h1 : c ≠ St.timePast) (h2 : c ≠ St.calibrating) :
    s.direct p m = (s.taken p x).answered p x ⟨c, 0, []⟩ := by
  have hst := statuses_one hs
  apply direct_of_perform h hl
  unfold State.perform
  simp [hst, h0, h1, h2, State.countRefusals]

/-! ### The answer -/

/-- The port that was answered. -/
theorem answered_port (t : State) (p : Nat) (x : Session) (a : Answer) :
    (t.answered p x a).port p =
      (let body := t.response 0 ((x.lastSeq + 1) % 65536) x.level [a] [] (some x.key)
       { t.port p with stored := some (body, [a]), request := none, response := some body, ready := true, answers := [a] }) := by
  have h : ∀ (u : State) (as : List Answer) (body : List Byte), (u.deliver p body as).port p
      = { u.port p with request := none, response := some body, ready := true, answers := as } := by
    intro u as body
    have hb : ∀ (v : State), (v.sendBale body).port p = v.port p := fun v => rfl
    unfold State.deliver
    have hd : ∀ (v : State) (d : Option Nat), ({ v with dwellFrom := d }).port p = v.port p := fun v d => rfl
    simp only
    split
    · rw [hb, hd, port_setPort_same]
    · rw [hd, port_setPort_same]
  unfold State.answered
  simp only
  rw [h, port_setPort_same]

/-- An answer changes the ports and the latest response's tick (Table 15.4). -/
theorem State.answered_same {L : Nat} {z t : State} (hL : 2684354560 &&& L = 2684354560) (h : Agree L z t) (p : Nat) (x : Session)
    (a : Answer) : Agree L z (t.answered p x a) := by
  unfold State.answered
  exact State.deliver_same hL (State.setPort_same (sub_trans rfl hL) h _ _) _ _ _

end Sys2Proof.Machine
end

