-- ==== Sys2Proof/WellFormed.lean ====
section
/-! DEFINITION. Which commands the outside world can put to the YB6400: bounds that the operands' types do not say. -/

namespace Sys2Proof

/-- Is a command one that the wire or the world can spell? A bale frame carries 64 bytes (R358), a beat frame 24 (R72); LEN of a member
has 16 bits (R352); a shutdown cause is one of R118; a stripe has 256 groups (R304). -/
def Instr.wellFormed : Instr → Bool
  | .baleFrame _ data => decide (data.length = 64)
  | .beatFrame frame => decide (frame.length = 24)
  | .objectWrite _ _ _ data => decide (data.length < 65536)
  | .dpWindowWrite _ data => decide (data.length < 65536)
  | .localShutdown cause => decide (1 ≤ cause.toNat) && decide (cause.toNat ≤ 6)
  | .scrubStep corrected _ _ => decide (corrected.toNat ≤ 256)
  | .writeRequest _ _ => true
  | .writeRequestQuad _ _ => true
  | .readResponse _ => true
  | .readResponseQuad _ => true
  | .readStatus _ _ => true
  | .proofRead _ _ => true
  | .proofReadQuad _ _ => true
  | .segmentTimeout => true
  | .busOff => true
  | .busOffRecovery => true
  | .transaction _ => true
  | .openSession _ => true
  | .proveSession _ => true
  | .authLockoutEnd _ => true
  | .challengeExpiry _ => true
  | .leaseLapse _ => true
  | .splitPairLoRead _ _ _ => true
  | .splitPairHiRead _ _ _ => true
  | .claimGroup _ _ => true
  | .releaseGroup _ _ => true
  | .claimBreak _ _ => true
  | .closeSession _ => true
  | .writeRule _ _ _ => true
  | .stencilReset _ => true
  | .latencyReq _ _ => true
  | .restoreDefaults _ => true
  | .dpWindowRead _ _ => true
  | .recordData _ => true
  | .ffData _ => true
  | .ledgerClearRecords _ => true
  | .ledgerClearAll _ => true
  | .convoyEnable _ _ => true
  | .wayRequest _ _ => true
  | .haltRequest _ _ => true
  | .localHold _ _ => true
  | .setPresent _ _ _ => true
  | .clearFlags _ _ => true
  | .clearLatch _ _ => true
  | .scanSelect _ _ => true
  | .readmit _ _ => true
  | .convert _ _ => true
  | .ringRearm _ => true
  | .ringTrigger _ => true
  | .capArm _ => true
  | .capAbort _ => true
  | .capRelease _ => true
  | .mrgCmdNominal _ _ => true
  | .mrgCmdHigh _ _ => true
  | .mrgCmdLow _ _ => true
  | .stipCmdSchedule _ _ => true
  | .stipCmdCancel _ _ => true
  | .loadCmdApply _ _ => true
  | .loadCmdRemove _ _ => true
  | .inrushSet _ _ => true
  | .feedEnable _ _ _ => true
  | .feedClear _ _ => true
  | .forceMessage _ _ => true
  | .testMode _ _ => true
  | .faultAck _ => true
  | .faultNHold _ _ => true
  | .etchCmd _ => true
  | .etchAbort _ => true
  | .updCmdOpen _ => true
  | .updBlock _ _ => true
  | .updCmdVerify _ => true
  | .updCmdApply _ => true
  | .updCmdSchedule _ => true
  | .updCmdUnschedule _ => true
  | .updCmdConfirm _ => true
  | .updCmdAbort _ => true
  | .beatEdge => true
  | .spuriousEdge => true
  | .forcedRelease => true
  | .soloBeat => true
  | .lossTimeout => true
  | .candidateWait => true
  | .leaderBeat => true
  | .beatFrameSend _ _ => true
  | .replySend _ => true
  | .tollRequest _ => true
  | .tollOffer _ => true
  | .xferSent _ => true
  | .xferReceived _ => true
  | .wayRequestReply _ => true
  | .xferPropose => true
  | .xferDeliver => true
  | .xferClose => true
  | .xferResend => true
  | .proposalForget => true
  | .deliverRepeat => true
  | .ringDelay _ => true
  | .ringOpen => true
  | .cscStuck => true
  | .laneGrant => true
  | .hardAgePreempt => true
  | .preemptHandover _ => true
  | .lockstepMismatch => true
  | .watchdogExpiry => true
  | .coreStart => true
  | .stepStart => true
  | .onSlot _ => true
  | .prereqTimeout _ => true
  | .railQualify _ => true
  | .rampTimeout _ => true
  | .fallingPass => true
  | .offSlot _ => true
  | .dischTimeout _ => true
  | .dischFailed _ => true
  | .holdoffEnd => true
  | .pmbusTransactionDone _ _ _ => true
  | .comparatorCross _ _ => true
  | .comparatorQualify _ _ => true
  | .filterClear _ _ => true
  | .railDecisionWindow => true
  | .energyPeriod _ => true
  | .slotResult _ => true
  | .quickResult _ _ _ _ => true
  | .sliceSwap => true
  | .forcedSwap => true
  | .calStepDone _ _ _ _ _ _ => true
  | .calStale _ => true
  | .captureStart => true
  | .captureDone => true
  | .ringFreeze => true
  | .ringAutoRearm => true
  | .marginMoveStart _ => true
  | .marginStep _ => true
  | .mrgSettleEnd _ => true
  | .mrgHoldExpired _ => true
  | .stipScheduledTick _ => true
  | .stipWaitMaxEnd _ => true
  | .stipPreloadEnd _ => true
  | .stipPatternEdge _ => true
  | .stipAcquireEnd _ => true
  | .stipAnalysisDone _ => true
  | .powerGrant => true
  | .energyGrant => true
  | .sinkSlewDone _ => true
  | .energyOverrun _ => true
  | .coolingExpiry => true
  | .powerGrantReeval => true
  | .reserveUpdate => true
  | .loadTimeEnd _ => true
  | .mated => true
  | .matingLost _ => true
  | .extractDelayEnd => true
  | .earlyHigh => true
  | .inrushIssue => true
  | .fuseFast _ => true
  | .fuseSlow _ => true
  | .soaTimeout _ => true
  | .reverseOff _ => true
  | .forwardOn _ => true
  | .feedUv _ => true
  | .feedOv _ => true
  | .tripRunReset _ => true
  | .retryRelease _ => true
  | .retryFull _ => true
  | .damagedElement _ => true
  | .damagedPath => true
  | .inputLoss => true
  | .pfail => true
  | .pfailHigh => true
  | .huLow => true
  | .huOnReserve => true
  | .vauxReturn => true
  | .vioLoss => true
  | .messageArrival _ => true
  | .messageRelease => true
  | .collectorDecision => true
  | .quietTimeEnd => true
  | .recoverySpanEnd => true
  | .faultPulseEnd => true
  | .startupSpanEnd => true
  | .refclkLost => true
  | .refclkFreq => true
  | .pllUnlock => true
  | .filterUnlock => true
  | .autoEtchDue => true
  | .etchSnapshot => true
  | .etchPageCommit _ _ => true
  | .eccPatrol _ _ _ _ => true
  | .pageReload _ => true
  | .opTimeAdd => true
  | .storeRecall => true
  | .ledgerEntry => true
  | .ledgerFirstMark => true
  | .ledgerLink => true
  | .ledgerReconcile => true
  | .verifyDone => true
  | .applyOutputDone => true
  | .activation => true
  | .confirmSpanEnd => true
  | .confirmation => true
  | .trialTimeEnd => true
  | .suppliesGood => true
  | .resetLow _ => true
  | .powerOnEnd => true
  | .clocksEnd => true
  | .endOfStartup => true
  | .powerStateEnter => true
  | .fullReached => true
  | .dwellEnd => true
  | .freeze => true
  | .frozenBeatEdge => true
  | .firstClockedTick => true
  | .relayForward _ _ _ => true
  | .comparatorReturn _ _ => true
  | .holdUpExhausted => true

end Sys2Proof
end

