-- ==== Sys2Proof/Tests/Slice0.lean ====
section
/-! SUPPORT. Tests: ill-formed commands, figures of the spec, single steps, and for every statement with hypotheses a state and operands
that meet them. -/

namespace Sys2Proof.Tests

open Sys2Proof Sys2Proof.Machine

/-! ### Small states -/

/-- A unit in service at tick 1,000,000, on beat 5 since tick 900,000, with the ledger reconciled and the ring running. -/
def run : State := { State.reset with
  phase := .running
  supplies := true
  fab := { tick := 1000000, count := 5, edgeTick := 900000, edges := [(5, 900000), (4, 700000)], kept := [] }
  filterClk := 5000000
  coll := { Coll.reset with released := true, spanDone := true }
  ledger := { Ledger.reset with reconciling := false }
  ring := { Ring.reset with started := true }
  seq := { Seq.reset with state := .idle } }

/-- An owner's session. -/
def owner : Session := { level := 2, key := [], lastSeq := 7, renewed := 999000, latches := [], own := [] }

/-- A state with the owner's session on H0. -/
def hosted (s : State) : State := s.setPort 0 { s.port 0 with session := some owner, ready := true }

/-- Rail 63 is ON, with set points of its margins and a stipple guard that are allowed, and DAC margins. -/
def onRail : State :=
  [(K.MRG_NOMINAL 63, 100000), (K.MRG_HIGH 63, 103000), (K.MRG_LOW 63, 97000), (K.MARGIN_METHOD 63, 1), (K.GUARD_LO 63, 90000),
    (K.GUARD_HI 63, 110000)].foldl (fun st p => st.setLive p.1 p.2) (run.setRail 63 { run.rail 63 with state := .on, en := true })

/-- An etch of cause 0x02 that has come to page 128, with page 3 to follow. -/
def etch : Etch := {
  phase := .writing, cause := 2, base := 2, mask := 1, pages := [], followOn := false, onReserve := false, seq := 1, eAvail := 0,
  maxPages := 4096, admitted := 2, lane := 64, due := 1000000, todo := [128, 3], block := [128, 3], blockN := 2, index := 0, snap := [],
  retry := false, short := false, vhuStop := false }

/-- A manifest of one block under key slot j in working memory (Table 14.1): MAGIC and FORMAT, BASE_VERSION 1.0, BLOCKS 1. -/
def staged (j : Nat) : State :=
  run.writeBytes manifestAt (leBytes 6 magicFormat ++ leBytes 2 1 ++ leBytes 4 0x01000000 ++ List.replicate 9 0#8 ++ leBytes 1 j)

/-- The state in which a host row of the owner is judged. -/
abbrev T (s : State) (p : Port) (x : Session) : State := s.taken (portNum p) x

/-- The write of v at a key is permitted. -/
abbrev Ok (s : State) (p : Port) (x : Session) (key v : Nat) : Prop := (T s p x).permits (portNum p) x.level (writeOf key v)

/-- The parts of Ready together. -/
theorem ready_of {s : State} {p : Nat} {x : Session}
    (h : s.receives p = true ∧ s.requestWaits = false ∧ s.wake.current p s.fab.tick = some x ∧ s.coresUp = true) : s.Ready p x :=
  ⟨h.1, h.2.1, h.2.2.1, h.2.2.2⟩

/-- The unit under freeze since filter clock tick 4,990,000. -/
def frozen : State := { run with
  frozen := some 4990000, freezeLow := true, frz := { Freeze.reset with beat := 5, edgeClk := 4890000 } }

/-- A WRITE_REQUEST frame around a body (R357). -/
def framed (body : List Byte) : List Byte :=
  let head := leBytes 2 body.length ++ body
  head ++ leBytes 4 (crc32c head).toNat

/-- A body is being rebuilt whose last segment came longer ago than H2_SEG_TIMEOUT. -/
def late : State := { run with
  fab := { run.fab with tick := 1000000000 }
  hosts := { Hosts.reset with bale := { Bale.reset with open_ := true, next := 1, body := [1#8] } } }

/-- The head and members of a TRANSACTION body (Table 13.2), with a MAC of zeros. -/
def asked (seq : Nat) (members : List Byte) : List Byte :=
  [1#8, 0#8] ++ leBytes 2 seq ++ [BitVec.ofNat 8 (members.length / 6), 0#8] ++ members ++ List.replicate 8 0#8

/-- The same body with the MAC of the owner's key. -/
def signed (body : List Byte) : List Byte :=
  let head := body.take (body.length - 8)
  head ++ macOf (some owner.key) 0#8 head

def opening : List Byte := [2#8, 0#8, 1#8, 0#8, 2#8, 0#8] ++ List.replicate 16 0#8
def proving : List Byte := [3#8, 0#8, 1#8, 0#8] ++ List.replicate 32 0#8

/-- A state with a body that arrived on H0 at tick 1,000,000. -/
def asks (s : State) (body : List Byte) : State := s.setPort 0 { s.port 0 with request := some ⟨body, 1000000⟩, ready := false }

/-- A unit whose convoy logic stands as given, with CONVOY_ENABLE 1. -/
def convoyed (c : Convoy) : State := { run with convoy := c }.setLive K.CONVOY_ENABLE 1

/-- A beat frame of a leader with UNIT_ADDR 1 for beat 5, with waystation 2 next. -/
def frame : Frame := {
  count := 5, version := 1, wayNext := 2, voteKind := 0, voteArg := 0, commit := false, halt := false, replyOpen := true,
  leaderNew := false, replySeg := 0, leaderAddr := 1, msgKind := 0, msgAmount := 0, msgId := 0, msgFrom := 0, msgTo := 0 }

/-- The same frame with message k of transfer 6: 5 tolls from unit 0 to unit 0. -/
def message (k : Nat) : Frame := { frame with msgKind := k, msgAmount := 5, msgId := 6 }

/-- A waiting request of a level, an operation on a lane, and operations on all shared lanes. -/
def want (base : Nat) : LaneReq := {
  kind := .pmbus, base := base, eff := base, target := 0, ref := 1, mask := 0, pages := [], posted := 5, denials := 0, promoted := false,
  waitCounted := false }
def busy (lane : Nat) : LaneOp :=
  { kind := .cal, base := 2, eff := 2, target := 0, ref := lane, posted := 5, granted := 6, order := lane, denials := 0 }
def allBusy : FMap LaneOp := sharedLanes.map (fun n => (n, busy n))

/-- A PMBus transfer of rail 63. -/
def job : PmbJob :=
  { id := 9, rail := 63, what := .setupClear, code := 3, data := 0, level := 1, tries := 0, granted := true, paging := false, fate := .normal }

/-- A candidate of the rails, and a slot that started 18 ticks ago. -/
def cand : RailCand :=
  { rail := 63, comp := 0, depth := 0, onset := Stamp.zero, stamp := Stamp.zero, kind := 1, addr := 0, word := 0, fatal := false, held := false }
def slot (use : SlotUse) : Slot :=
  { tick := 999982, slice := 16, use := use, signed := true, page := none, stamp := Stamp.zero }

/-- Slices 0 to 15 in the round at their own positions, slice 16 the spare. -/
def scanning : State := { run with conv := { Conv.reset with
  scanning := true
  slices := (List.range 17).map (fun i => (i, { Slice.blank (if i = 16 then .spare else .inRound) i with calTick := 0 })) } }

/-- The same with an armed capture of every position, long after the latest calibration. -/
def reserving : State := { scanning with
  cap := { Capture.reset with state := .armed }, fab := { run.fab with tick := 10000000000 } }

/-- Slice 16 calibrates on lane 127 after recall. -/
def calibrating : State := { run.setSlice 16 (Slice.blank .calibrating 0xFF) with
  lanes := { Lanes.reset with shared := [(127, busy 16)] } }

/-- Rail 63 is ON, with its filter 4 in a phase since a tick of the filter clock, and a filter length. -/
def filtered (phase : FilterPhase) (clk len : Nat) : State :=
  ((run.setRail 63 { run.rail 63 with state := .on }).setFilter 63 4
    { phase := phase, onset := Stamp.zero, onsetClk := clk, clearClk := clk, raw := true }).setLive (filterKey 63 4) len

/-- The staged manifest passes R382 where the part holds a key in its slot. -/
theorem staged_ok (j : Fin 4) (h : nbit (Config.keySlots % 16) j.val = true) :
    (T (hosted (staged j.val)) .h0 owner).manifestOk = true := by
  have hs : (T (hosted (staged j.val)) .h0 owner).mf 21 1 = j.val := by clear h; revert j; decide
  have hv : (T (hosted (staged j.val)) .h0 owner).mf 24 4 = 0 := by clear h; revert j; decide
  have hr : ((T (hosted (staged j.val)) .h0 owner).mf 0 6 == magicFormat
      && memBlank (T (hosted (staged j.val)) .h0 owner).mem (manifestAt + 188) 4
      && memBlank (T (hosted (staged j.val)) .h0 owner).mem (manifestAt + 288) 224
      && memBlank (T (hosted (staged j.val)) .h0 owner).mem (manifestAt + 512 + 4 * (T (hosted (staged j.val)) .h0 owner).mf 6 2)
          (16384 - 512 - 4 * (T (hosted (staged j.val)) .h0 owner).mf 6 2)
      && decide (1 ≤ (T (hosted (staged j.val)) .h0 owner).mf 6 2) && decide ((T (hosted (staged j.val)) .h0 owner).mf 6 2 ≤ 2044)
      && (T (hosted (staged j.val)) .h0 owner).mf 8 4 == (T (hosted (staged j.val)) .h0 owner).fwRunning) = true := by
    clear h hs hv; revert j; decide
  have hb : decide ((T (hosted (staged j.val)) .h0 owner).record.rollbackMin ≤ (T (hosted (staged j.val)) .h0 owner).mf 22 2) = true := by
    clear h hs hv hr; revert j; decide
  unfold State.manifestOk
  rw [hs, hv, h, hb]
  dsimp only
  rw [hr, decide_eq_true (Nat.zero_le _), decide_eq_true j.isLt]
  rfl

/-- Card input was good and went at tick 5, long ago. -/
def lost : State := { run with
  input := { CardInput.reset with lostAt := some 5, everGood := true }, fab := { run.fab with tick := 10000000000 } }

/-- A message on its way, and what it becomes at the collector. -/
def note (source kind : Nat) : Msg := ⟨source, kind, 0, false, ⟨5, 90000, 990000⟩⟩
def telling (source kind : Nat) : State := { run with coll := { run.coll with inflight := [note source kind] } }
def queued : QMsg := {
  msg := note 63 1, arrived := 990004, cls := .contained, react := .contained, acted := true, phase := .service, opening := true }
def arrived : State := { run with coll := { run.coll with queue := [queued] } }

/-- An episode with one candidate whose window has ended. -/
def suspect : Candidate := {
  injected := false, rank := ⟨5, 90000, 990000⟩, fatal := false, source := 63, kind := 1, addr := 0, word := 9,
  stamp := ⟨5, 90000, 990000⟩, claimRail := some 63 }
def judging : State := { run with coll := { run.coll with state := .deciding, cands := [suspect] } }

/-- A collector long after tick 100. -/
def later (c : Coll) : State := { run with coll := c, fab := { run.fab with tick := 100000000000 } }

/-- A running etch; page 4095 with a group that is uncorrectable in working memory and whole in copy 1. -/
def etching (e : Etch) : State := { run with store := { Store.reset with etch := some e } }
def whole : Copy := {
  copySeq := 7, etchSeq := 3, blockN := 0, blockI := 0, hdrOk := true, dataOk := true, stripes := [], commit := true,
  data := ⟨[], []⟩ }
def damaged : State := { run with store := { Store.reset with shadow := [(8191, whole)], bad := [groupNo 4095 7 255] } }

/-- A ledger that is ready for an entry; the entry of a message; a record that a freeze of the ring covers. -/
def led (l : Ledger) : State := { run with ledger := l }
def hand : Hand := { order := 1, word := 9, stamp := Stamp.zero, folded := false, partner := none, opening := false }
def entered : Rec := {
  rseq := 6, type := 1, flags := 0, tag := 0, body := 9, beat := 4, offset := 9, lastBeat := 5, lastOffset := 9, count := 2, opTime := 0,
  powerCycle := 1, episode := 0, linkSeq := 0, linkBeat := 0 }

/-- A first fault of episode 1 whose message has been entered as record 6. -/
def marking : State :=
  ((led { Ledger.reset with
    reconciling := false, marks := [⟨1, 9, ⟨5, 9, 940000⟩⟩], recents := [⟨6, some 899999, 950000⟩] }).writeBytes (recAddr 6) entered.bytes).setLive
    K.NEXT_RSEQ 7

/-- An update engine long after its image started, and an image store in a trial. -/
def updating (u : Upd) : State := { run with
  upd := u, input := { CardInput.reset with good := true }, fab := { run.fab with tick := 10000000000000 } }

/-- Nothing keeps the unit in FULL. -/
def calm : State := { run with store := { run.store with recalling := false } }


/-! ### Hypotheses that can be met -/

/-- ClaimAndSessionCommandsTakeEffect: states and operands that meet the hypotheses of its clauses. -/
theorem witness_ClaimAndSessionCommandsTakeEffect :
    (∃ (s : State), ∃ p : Port, ∃ x : Session, let q := portNum p; let t := s.taken q x; ∃ g : BitVec 8, s.Ready (portNum p) x ∧
      g.toNat ≤ 0x4E ∧ t.permits q x.level (writeOf K.CLAIM g.toNat) ∧ (t.holder g.toNat = none ∨ t.holder g.toNat = some q))
    ∧ (∃ (s : State), ∃ p : Port, ∃ x : Session, let q := portNum p; let t := s.taken q x; ∃ g : BitVec 8, s.Ready (portNum p) x ∧
      g.toNat ≤ 0x4E ∧ t.permits q x.level (writeOf K.RELEASE g.toNat))
    ∧ (∃ (s : State), ∃ p : Port, ∃ x : Session, let q := portNum p; let t := s.taken q x; ∃ g : BitVec 8, s.Ready (portNum p) x ∧
      g.toNat ≤ 0x4E ∧ t.permits q x.level (writeOf K.CLAIM_BREAK g.toNat) ∧ x.level = 2)
    ∧ (∃ (s : State), ∃ p : Port, ∃ x : Session, let q := portNum p; let t := s.taken q x; s.Ready (portNum p) x ∧ t.permits q
      x.level (writeOf K.CLOSE 1))
    ∧ (∃ (s : State), ∃ p : Port, ∃ x : Session, let q := portNum p; let t := s.taken q x; ∃ us : BitVec 32, s.Ready (portNum p) x
      ∧ t.permits q x.level (writeOf K.LATENCY_REQ us.toNat) ∧ us.toNat ≤ 4000000000) :=
  ⟨⟨(hosted run), .h0, owner, 78, ready_of (by decide), by decide⟩,
    ⟨(hosted run), .h0, owner, 78, ready_of (by decide), by decide⟩,
    ⟨(hosted run), .h0, owner, 78, ready_of (by decide), by decide⟩,
    ⟨(hosted run), .h0, owner, ready_of (by decide), by decide⟩,
    ⟨(hosted run), .h0, owner, 0xee6b2800, ready_of (by decide), by decide⟩⟩

/-- RuleAndStencilResetTakeEffect: states and operands that meet the hypotheses of its clauses. -/
theorem witness_RuleAndStencilResetTakeEffect :
    (∃ (s : State), ∃ p : Port, ∃ x : Session, let q := portNum p; let t := s.taken q x; ∃ r : BitVec 8, ∃ word : BitVec 64,
      s.Ready (portNum p) x ∧ x.level = 2 ∧ t.permits q x.level (writeOf (K.RULE (r.toNat - 1)) word.toNat) ∧ 1 ≤ r.toNat ∧
      r.toNat ≤ 32 ∧ field word.toNat 47 32 = 0 ∧ (t.setLive (K.RULE (r.toNat - 1)) word.toNat).rulesOk = true)
    ∧ (∃ (s : State), ∃ p : Port, ∃ x : Session, let q := portNum p; let t := s.taken q x; s.Ready (portNum p) x ∧ x.level = 2 ∧
      t.permits q x.level (writeOf K.STENCIL_RESET 0x5AFE0DEF)) :=
  ⟨⟨(hosted run), .h0, owner, 32, 0x8000000000010001, ready_of (by decide), by decide⟩,
    ⟨(hosted run), .h0, owner, ready_of (by decide), by decide⟩⟩

/-- ObjectWriteAndRestoreDefaultsTakeEffect: states and operands that meet the hypotheses of its clauses. -/
theorem witness_ObjectWriteAndRestoreDefaultsTakeEffect :
    (∃ (s : State), ∃ p : Port, ∃ x : Session, let q := portNum p; let t := s.taken q x; ∃ index : BitVec 16, ∃ sub : BitVec 8,
      let key := objKey index.toNat sub.toNat; ∃ data : List Byte, let v := leNat data;
      let m : Member := { write := true, index := index.toNat, sub := sub.toNat, len := 0, data := data };
      let w := t.preview q [m]; ∃ r, objRow index.toNat sub.toNat = some r ∧ s.Ready (portNum p) x ∧ isCommand key = false ∧ key ≠
      K.DP_WINDOW ∧ index.toNat ≠ 0x1201 ∧ t.writable r key x.level = true ∧ data.length = r.ty.bytes ∧ reservedOk key v = true ∧
      r.rangeOk key v = true ∧ t.permits q x.level m ∧ t.boundStatus w q key v = St.ok ∧ w.crossOk key v = true ∧ ownKey key =
      true)
    ∧ (∃ (s : State), ∃ p : Port, ∃ x : Session, let q := portNum p; let t := s.taken q x; ∃ index : BitVec 16, ∃ sub : BitVec 8,
      let key := objKey index.toNat sub.toNat; ∃ data : List Byte, let v := leNat data;
      let m : Member := { write := true, index := index.toNat, sub := sub.toNat, len := 0, data := data };
      let w := t.preview q [m]; ∃ r, objRow index.toNat sub.toNat = some r ∧ s.Ready (portNum p) x ∧ isCommand key = false ∧ key ≠
      K.DP_WINDOW ∧ index.toNat ≠ 0x1201 ∧ t.writable r key x.level = true ∧ data.length = r.ty.bytes ∧ reservedOk key v = true ∧
      r.rangeOk key v = true ∧ t.permits q x.level m ∧ t.boundStatus w q key v = St.ok ∧ w.crossOk key v = true ∧ ownKey key =
      false)
    ∧ (∃ (s : State), ∃ p : Port, ∃ x : Session, let q := portNum p; let t := s.taken q x; ∃ index : BitVec 16, ∃ sub : BitVec 8,
      let key := objKey index.toNat sub.toNat; ∃ data : List Byte, let v := leNat data;
      let m : Member := { write := true, index := index.toNat, sub := sub.toNat, len := 0, data := data };
      let w := t.preview q [m]; ∃ r, objRow index.toNat sub.toNat = some r ∧ ∃ k : Nat, s.Ready (portNum p) x ∧ isCommand key =
      false ∧ key ≠ K.DP_WINDOW ∧ index.toNat ≠ 0x1201 ∧ t.writable r key x.level = true ∧ data.length = r.ty.bytes ∧ reservedOk
      key v = true ∧ r.rangeOk key v = true ∧ t.permits q x.level m ∧ t.boundStatus w q key v = St.ok ∧ w.crossOk key v = true ∧ k
      ≠ key ∧ k ≠ K.MIRROR_SKIPS)
    ∧ (∃ (s : State), ∃ p : Port, ∃ x : Session, let q := portNum p; let t := s.taken q x; ∃ index : BitVec 16, ∃ sub : BitVec 8,
      let key := objKey index.toNat sub.toNat; ∃ data : List Byte, let v := leNat data;
      let m : Member := { write := true, index := index.toNat, sub := sub.toNat, len := 0, data := data };
      let w := t.preview q [m]; ∃ r, objRow index.toNat sub.toNat = some r ∧ s.Ready (portNum p) x ∧ isCommand key = false ∧ key ≠
      K.DP_WINDOW ∧ index.toNat ≠ 0x1201 ∧ t.writable r key x.level = true ∧ data.length = r.ty.bytes ∧ reservedOk key v = true ∧
      r.rangeOk key v = true ∧ t.permits q x.level m ∧ t.boundStatus w q key v = St.ok ∧ w.crossOk key v = true ∧ keyClass key =
      .p)
    ∧ (∃ (s : State), ∃ p : Port, ∃ x : Session, let q := portNum p; let t := s.taken q x; s.Ready (portNum p) x ∧ x.level = 2 ∧
      t.permits q x.level (writeOf K.RESTORE_DEFAULTS 0x5AFE0DEF) ∧ t.allOff = true ∧ t.upd.state ≠ .applying ∧ t.upd.state ≠
      .applied ∧ t.upd.state ≠ .scheduled ∧ t.upd.state ≠ .trial) :=
  ⟨⟨(hosted run), .h0, owner, 4352, 5, [0#8, 0#8, 0#8, 0#8], _, rfl, ready_of (by decide), by decide⟩,
    ⟨(hosted run), .h0, owner, 0x5058, 9, [5#8], _, rfl, ready_of (by decide), by decide⟩,
    ⟨(hosted run), .h0, owner, 0x5058, 9, [5#8], _, rfl, 0, ready_of (by decide), by decide⟩,
    ⟨(hosted run), .h0, owner, 0x5058, 5, [5#8], _, rfl, ready_of (by decide), by decide⟩,
    ⟨(hosted run), .h0, owner, ready_of (by decide), by decide⟩⟩

set_option maxRecDepth 100000 in
/-- SplitPairLowHalfLatches: states and operands that meet the hypotheses of its clauses. -/
theorem witness_SplitPairLowHalfLatches :
    (∃ (s : State), ∃ p : Port, ∃ x : Session, let q := portNum p; let t := s.taken q x; ∃ index : BitVec 16, ∃ sub : BitVec 8,
      let key := objKey index.toNat sub.toNat; ∃ pair, splitOf key = some (pair, false) ∧ s.Ready (portNum p) x ∧ t.mayRead q
      x.level (readOf key))
    ∧ (∃ (s : State), ∃ p : Port, ∃ x : Session, let q := portNum p; let t := s.taken q x; let h := t.hardware; ∃ index : BitVec
      16, ∃ sub : BitVec 8, let key := objKey index.toNat sub.toNat; ∃ pair, splitOf key = some (pair, true) ∧ ∃ l, (h.latches
      q).find? (fun y => y.key == pair) = some l ∧ s.Ready (portNum p) x ∧ t.mayRead q x.level (readOf key)) :=
  ⟨⟨(hosted run), .h0, owner, 9279, 10, _, rfl, ready_of (by decide), by decide⟩,
    ⟨(run.setPort 0 { run.port 0 with session := some { owner with latches := [⟨0x600401, 3, 9⟩] } }), .h0,
      { owner with latches := [⟨0x600401, 3, 9⟩] }, 0x6004, 2, _, rfl, _, rfl, ready_of (by decide), by decide⟩⟩

set_option maxRecDepth 100000 in
/-- UnlatchedHighHalfReadsLive: states and operands that meet the hypotheses of its clauses. -/
theorem witness_UnlatchedHighHalfReadsLive :
    ∃ (s : State), ∃ p : Port, ∃ x : Session, let q := portNum p; let t := s.taken q x; let h := t.hardware; ∃ index : BitVec 16,
      ∃ sub : BitVec 8, let key := objKey index.toNat sub.toNat; ∃ pair, splitOf key = some (pair, true) ∧ s.Ready (portNum p) x ∧
      t.mayRead q x.level (readOf key) ∧ (h.latches q).find? (fun y => y.key == pair) = none :=
  ⟨(hosted run), .h0, owner, 0x6004, 2, _, rfl, ready_of (by decide), by decide⟩

/-- RecordReadsAnswer: states and operands that meet the hypotheses of its clauses. -/
theorem witness_RecordReadsAnswer :
    (∃ (s : State), ∃ p : Port, ∃ x : Session, let q := portNum p; let t := s.taken q x; s.Ready (portNum p) x ∧ t.mayRead q
      x.level (readOf K.RECORD_DATA) ∧ t.ledger.reconciling = false)
    ∧ (∃ (s : State), ∃ p : Port, ∃ x : Session, let q := portNum p; let t := s.taken q x; s.Ready (portNum p) x ∧ t.mayRead q
      x.level (readOf K.RECORD_DATA) ∧ t.ledger.reconciling = true)
    ∧ (∃ (s : State), ∃ p : Port, ∃ x : Session, let q := portNum p; let t := s.taken q x; s.Ready (portNum p) x ∧ t.mayRead q
      x.level (readOf K.FF_DATA) ∧ t.ledger.reconciling = false)
    ∧ (∃ (s : State), ∃ p : Port, ∃ x : Session, let q := portNum p; let t := s.taken q x; s.Ready (portNum p) x ∧ t.mayRead q
      x.level (readOf K.FF_DATA) ∧ t.ledger.reconciling = true)
    ∧ (∃ (s : State), ∃ p : Port, ∃ x : Session, let q := portNum p; let t := s.taken q x; ∃ key : Nat, ∃ n : BitVec 32, s.Ready
      (portNum p) x ∧ (key = K.RECORD_SELECT ∨ key = K.FF_SELECT) ∧ t.permits q x.level (writeOf key n.toNat)) :=
  ⟨⟨(hosted run), .h0, owner, ready_of (by decide), by decide⟩,
    ⟨(hosted { run with ledger := Ledger.reset }), .h0, owner, ready_of (by decide), by decide⟩,
    ⟨(hosted run), .h0, owner, ready_of (by decide), by decide⟩,
    ⟨(hosted { run with ledger := Ledger.reset }), .h0, owner, ready_of (by decide), by decide⟩,
    ⟨(hosted run), .h0, owner, 6816001, 0xffffffff, ready_of (by decide), by decide⟩⟩

/-- DataWindowReadsAndStores: states and operands that meet the hypotheses of its clauses. -/
theorem witness_DataWindowReadsAndStores :
    (∃ (s : State), ∃ p : Port, ∃ x : Session, let q := portNum p; let t := s.taken q x; let a := t.own q K.DP_ADDR; ∃ n : BitVec
      16, s.Ready (portNum p) x ∧ t.mayRead q x.level { write := false, index := 0x6100, sub := 2, len := n.toNat, data := [] } ∧
      1 ≤ n.toNat ∧ n.toNat ≤ windowLimit q ∧ a + n.toNat ≤ 0x04000000 ∧ t.spanBusy a n.toNat = false)
    ∧ (∃ (s : State), ∃ p : Port, ∃ x : Session, let q := portNum p; let t := s.taken q x; let a := t.own q K.DP_ADDR; ∃ data :
      List Byte, ∃ i : Nat, s.Ready (portNum p) x ∧ t.permits q x.level
      { write := true, index := 0x6100, sub := 2, len := 0, data := data } ∧ 1 ≤ data.length ∧ data.length ≤ windowLimit q ∧ a +
      data.length ≤ 0x04000000 ∧ t.spanOpen a data.length = true ∧ t.spanBusy a data.length = false ∧ i < data.length)
    ∧ (∃ (s : State), ∃ p : Port, ∃ x : Session, let q := portNum p; let t := s.taken q x; let a := t.own q K.DP_ADDR; ∃ data :
      List Byte, ∃ b : Nat, s.Ready (portNum p) x ∧ t.permits q x.level
      { write := true, index := 0x6100, sub := 2, len := 0, data := data } ∧ 1 ≤ data.length ∧ data.length ≤ windowLimit q ∧ a +
      data.length ≤ 0x04000000 ∧ t.spanOpen a data.length = true ∧ t.spanBusy a data.length = false ∧ (b < a ∨ a + data.length ≤
      b)) :=
  ⟨⟨(hosted run), .h0, owner, 2043, ready_of (by decide), by decide⟩,
    ⟨(run.setPort 0 { run.port 0 with session := some { owner with own := [(K.DP_ADDR, 0x03FFFFFF)] } }), .h0,
      { owner with own := [(K.DP_ADDR, 0x03FFFFFF)] }, [5#8], 0, ready_of (by decide), by decide⟩,
    ⟨(run.setPort 0 { run.port 0 with session := some { owner with own := [(K.DP_ADDR, 0x03FFFFFF)] } }), .h0,
      { owner with own := [(K.DP_ADDR, 0x03FFFFFF)] }, [5#8], 0, ready_of (by decide), by decide⟩⟩

/-- LedgerClearTakesEffect: states and operands that meet the hypotheses of its clauses. -/
theorem witness_LedgerClearTakesEffect :
    (∃ (s : State), ∃ p : Port, ∃ x : Session, let q := portNum p; let t := s.taken q x; s.Ready (portNum p) x ∧ x.level = 2 ∧
      t.coll.state = .clear ∧ t.ledger.suspended = false ∧ t.ledger.reconciling = false ∧ t.permits q x.level (writeOf
      K.LEDGER_CLEAR 1))
    ∧ (∃ (s : State), ∃ p : Port, ∃ x : Session, let q := portNum p; let t := s.taken q x; s.Ready (portNum p) x ∧ x.level = 2 ∧
      t.coll.state = .clear ∧ t.ledger.suspended = false ∧ t.ledger.reconciling = false ∧ t.permits q x.level (writeOf
      K.LEDGER_CLEAR 2)) :=
  ⟨⟨(hosted run), .h0, owner, ready_of (by decide), by decide⟩,
    ⟨(hosted run), .h0, owner, ready_of (by decide), by decide⟩⟩

/-- ConvoyHostCommandsTakeEffect: states and operands that meet the hypotheses of its clauses. -/
theorem witness_ConvoyHostCommandsTakeEffect :
    (∃ (s : State), ∃ p : Port, ∃ x : Session, let q := portNum p; let t := s.taken q x; ∃ on : Bool, s.Ready (portNum p) x ∧
      x.level = 2 ∧ t.permits q x.level (writeOf K.CONVOY_ENABLE (b2n on)) ∧ 2 * t.obj K.BEAT_PERIOD ≤ t.obj K.LOSS_TIMEOUT ∧
      t.obj K.SEG_ID < t.obj K.SEG_COUNT ∧ t.convoy.state = .disabled)
    ∧ (∃ (s : State), ∃ p : Port, ∃ x : Session, let q := portNum p; let t := s.taken q x; ∃ on : Bool, s.Ready (portNum p) x ∧
      x.level = 2 ∧ t.permits q x.level (writeOf K.CONVOY_ENABLE (b2n on)) ∧ 2 * t.obj K.BEAT_PERIOD ≤ t.obj K.LOSS_TIMEOUT ∧
      t.obj K.SEG_ID < t.obj K.SEG_COUNT ∧ t.convoy.state ≠ .disabled)
    ∧ (∃ (s : State), ∃ p : Port, ∃ x : Session, let q := portNum p; let t := s.taken q x; ∃ w : BitVec 8, s.Ready (portNum p) x ∧
      t.permits q x.level (writeOf K.WAY_REQUEST w.toNat) ∧ t.wayBusy = false)
    ∧ (∃ (s : State), ∃ p : Port, ∃ x : Session, let q := portNum p; let t := s.taken q x; ∃ on : Bool, s.Ready (portNum p) x ∧
      x.level = 2 ∧ t.permits q x.level (writeOf K.HALT_REQUEST (b2n on))) :=
  ⟨⟨(hosted run), .h0, owner, true, ready_of (by decide), by decide⟩,
    ⟨(hosted { run with convoy := { Convoy.reset with state := .member } }), .h0, owner, true, ready_of (by decide), by decide⟩,
    ⟨(hosted run), .h0, owner, 255, ready_of (by decide), by decide⟩,
    ⟨(hosted run), .h0, owner, true, ready_of (by decide), by decide⟩⟩

/-- RailHostCommandsTakeEffect: states and operands that meet the hypotheses of its clauses. -/
theorem witness_RailHostCommandsTakeEffect :
    (∃ (s : State), ∃ p : Port, ∃ x : Session, let q := portNum p; let t := s.taken q x; ∃ on : Bool, s.Ready (portNum p) x ∧
      x.level = 2 ∧ t.permits q x.level (writeOf K.LOCAL_HOLD (b2n on)) ∧ t.feedsOk = true)
    ∧ (∃ (s : State), ∃ p : Port, ∃ x : Session, let q := portNum p; let t := s.taken q x; ∃ on : Bool, ∃ n : Fin 64, s.Ready
      (portNum p) x ∧ t.permits q x.level (writeOf (K.RAIL_PRESENT n.val) (b2n on)) ∧ ((t.rail n.val).state = .off ∨ (t.rail
      n.val).state = .absent) ∧ (t.setLive (K.RAIL_PRESENT n.val) (b2n on)).railsOk = true ∧ (t.rail n.val).state = (if on then
      .absent else .off))
    ∧ (∃ (s : State), ∃ p : Port, ∃ x : Session, let q := portNum p; let t := s.taken q x; ∃ n : Fin 64, s.Ready (portNum p) x ∧
      t.permits q x.level (writeOf (K.CLEAR_FLAGS n.val) 1) ∧ t.railsOk = true)
    ∧ (∃ (s : State), ∃ p : Port, ∃ x : Session, let q := portNum p; let t := s.taken q x; ∃ n : Fin 64, s.Ready (portNum p) x ∧
      t.permits q x.level (writeOf (K.CLEAR_LATCH n.val) 1)) :=
  ⟨⟨(hosted run), .h0, owner, true, ready_of (by decide), by decide⟩,
    ⟨(hosted run), .h0, owner, true, 63, ready_of (by decide), by decide⟩,
    ⟨(hosted run), .h0, owner, 63, ready_of (by decide), by decide⟩,
    ⟨(hosted run), .h0, owner, 63, ready_of (by decide), by decide⟩⟩

/-- ConverterHostCommandsTakeEffect: states and operands that meet the hypotheses of its clauses. -/
theorem witness_ConverterHostCommandsTakeEffect :
    (∃ (s : State), ∃ p : Port, ∃ x : Session, let q := portNum p; let t := s.taken q x; ∃ b : BitVec 8, s.Ready (portNum p) x ∧
      b.toNat ≤ 1 ∧ t.permits q x.level (writeOf K.SCAN_SELECT b.toNat) ∧ t.bankFull b.toNat = true)
    ∧ (∃ (s : State), ∃ p : Port, ∃ x : Session, let q := portNum p; let t := s.taken q x; ∃ i : Fin 17, s.Ready (portNum p) x ∧
      t.permits q x.level (writeOf (K.READMIT i.val) 1) ∧ (t.slice i.val).role = .failed)
    ∧ (∃ (s : State), ∃ p : Port, ∃ x : Session, let q := portNum p; let t := s.taken q x; ∃ c : Fin 192, s.Ready (portNum p) x ∧
      c.val < 184 ∧ t.permits q x.level (writeOf (K.CONVERT c.val) 1) ∧ (t.obj (K.FORMAT c.val) = 0 ∨ isDiff c.val = true))
    ∧ (∃ (s : State), ∃ p : Port, ∃ x : Session, let q := portNum p; let t := s.taken q x; s.Ready (portNum p) x ∧ t.permits q
      x.level (writeOf K.RING_REARM 1) ∧ t.ringEtching = false)
    ∧ (∃ (s : State), ∃ p : Port, ∃ x : Session, let q := portNum p; let t := s.taken q x; s.Ready (portNum p) x ∧ t.permits q
      x.level (writeOf K.RING_TRIGGER 1)) :=
  ⟨⟨(hosted run), .h0, owner, 1, ready_of (by decide), by decide⟩,
    ⟨(hosted (run.setSlice 16 { run.slice 16 with role := .failed })), .h0, owner, 16, ready_of (by decide), by decide⟩,
    ⟨(hosted run), .h0, owner, 0, ready_of (by decide), by decide⟩,
    ⟨(hosted run), .h0, owner, ready_of (by decide), by decide⟩,
    ⟨(hosted run), .h0, owner, ready_of (by decide), by decide⟩⟩

/-- CaptureHostCommandsTakeEffect: states and operands that meet the hypotheses of its clauses. -/
theorem witness_CaptureHostCommandsTakeEffect :
    (∃ (s : State), ∃ p : Port, ∃ x : Session, let q := portNum p; let t := s.taken q x; s.Ready (portNum p) x ∧ t.permits q
      x.level (writeOf K.CAP_ARM 1) ∧ t.cap.state = .idle ∧ t.conv.catchUp = 0 ∧ t.captureOk = true ∧ (t.obj K.CAP_WHEN = 0 →
      t.isPast (BitVec.ofNat 32 (t.obj K.CAP_BEAT)) (t.obj K.CAP_OFFSET) = false))
    ∧ (∃ (s : State), ∃ p : Port, ∃ x : Session, let q := portNum p; let t := s.taken q x; s.Ready (portNum p) x ∧ t.permits q
      x.level (writeOf K.CAP_ABORT 1) ∧ t.captureOk = true)
    ∧ (∃ (s : State), ∃ p : Port, ∃ x : Session, let q := portNum p; let t := s.taken q x; s.Ready (portNum p) x ∧ t.permits q
      x.level (writeOf K.CAP_RELEASE 1) ∧ t.captureOk = true ∧ t.cap.state = .done) :=
  ⟨⟨(hosted (run.setLive K.CAP_WHEN 1)), .h0, owner, ready_of (by decide), by decide⟩,
    ⟨(hosted run), .h0, owner, ready_of (by decide), by decide⟩,
    ⟨(hosted { run with cap := { Capture.reset with state := .done, owner := .port 0 } }), .h0, owner, ready_of (by decide), by
      decide⟩⟩

/-- MarginHostCommandsTakeEffect: states and operands that meet the hypotheses of its clauses. -/
theorem witness_MarginHostCommandsTakeEffect :
    (∃ (s : State), ∃ p : Port, ∃ x : Session, let q := portNum p; let t := s.taken q x; ∃ n : Fin 64, s.Ready (portNum p) x ∧
      (t.rail n.val).state = .on ∧ (t.stip n.val).state.busy = false ∧ t.marginAllowed n.val = true ∧ t.permits q x.level (writeOf
      (K.MRG_CMD n.val) 0))
    ∧ (∃ (s : State), ∃ p : Port, ∃ x : Session, let q := portNum p; let t := s.taken q x; ∃ n : Fin 64, let m := t.margin n.val;
      ∃ pos : Nat, s.Ready (portNum p) x ∧ (t.rail n.val).state = .on ∧ (t.stip n.val).state.busy = false ∧ t.marginAllowed n.val
      = true ∧ (pos = 1 ∨ pos = 2) ∧ t.permits q x.level (writeOf (K.MRG_CMD n.val) pos) ∧ ((t.obj (K.MARGIN_METHOD n.val) ≠ 0 ∧
      t.obj (K.MRG_WHEN n.val) = 1 ∧ (m.state = .nominal ∨ m.state = .held ∨ m.state = .pending)) → t.isPast (BitVec.ofNat 32
      (t.obj (K.MRG_BEAT n.val))) (t.obj (K.MRG_OFFSET n.val)) = false)) :=
  ⟨⟨(hosted (onRail.setMargin 63 { onRail.margin 63 with state := .held, position := 1 })), .h0, owner, 63, ready_of (by decide),
    by decide⟩,
    ⟨(hosted (onRail.setMargin 63 { onRail.margin 63 with state := .held, position := 1 })), .h0, owner, 63, 1, ready_of (by
      decide), by decide⟩⟩

/-- StippleAndLoadCommandsTakeEffect: states and operands that meet the hypotheses of its clauses. -/
theorem witness_StippleAndLoadCommandsTakeEffect :
    (∃ (s : State), ∃ p : Port, ∃ x : Session, let q := portNum p; let t := s.taken q x; ∃ n : Fin 64, let r := t.stip n.val;
      s.Ready (portNum p) x ∧ t.permits q x.level (writeOf (K.STIP_CMD n.val) 1) ∧ (t.rail n.val).state = .on ∧ (r.state = .idle ∨
      r.state = .done ∨ r.state = .aborted ∨ r.state = .failed) ∧ t.stipSettingsOk n.val = true ∧ t.guardAllowed n.val = true ∧
      t.isPast (t.stipBeat n.val) (t.obj (K.STIP_OFFSET n.val)) = false)
    ∧ (∃ (s : State), ∃ p : Port, ∃ x : Session, let q := portNum p; let t := s.taken q x; ∃ n : Fin 64, s.Ready (portNum p) x ∧
      t.permits q x.level (writeOf (K.STIP_CMD n.val) 2) ∧ t.stipSettingsOk n.val = true)
    ∧ (∃ (s : State), ∃ p : Port, ∃ x : Session, let q := portNum p; let t := s.taken q x; ∃ n : Fin 64, let r := t.stip n.val;
      s.Ready (portNum p) x ∧ t.permits q x.level (writeOf (K.LOAD_CMD n.val) 1) ∧ (t.rail n.val).state = .on ∧ r.state.busy =
      false ∧ t.loadFits n.val = true)
    ∧ (∃ (s : State), ∃ p : Port, ∃ x : Session, let q := portNum p; let t := s.taken q x; ∃ n : Fin 64, s.Ready (portNum p) x ∧
      t.permits q x.level (writeOf (K.LOAD_CMD n.val) 2)) :=
  ⟨⟨(hosted (onRail.setLive (K.STIP_BEAT 63) 7)), .h0, owner, 63, ready_of (by decide), by decide⟩,
    ⟨(hosted run), .h0, owner, 63, ready_of (by decide), by decide⟩,
    ⟨(hosted (onRail.setMargin 63 { onRail.margin 63 with state := .held, position := 1 })), .h0, owner, 63, ready_of (by decide),
      by decide⟩,
    ⟨(hosted run), .h0, owner, 63, ready_of (by decide), by decide⟩⟩

/-- TollAndFeedHostCommandsTakeEffect: states and operands that meet the hypotheses of its clauses. -/
theorem witness_TollAndFeedHostCommandsTakeEffect :
    (∃ (s : State), ∃ p : Port, ∃ x : Session, let q := portNum p; let t := s.taken q x; ∃ v : BitVec 16, s.Ready (portNum p) x ∧
      x.level = 2 ∧ t.permits q x.level (writeOf K.INRUSH_SET v.toNat) ∧ t.convoy.state = .disabled ∧ t.obj K.INRUSH_ISSUED = 0 ∧
      t.transit = 0)
    ∧ (∃ (s : State), ∃ p : Port, ∃ x : Session, let q := portNum p; let t := s.taken q x; ∃ f : Fin 2, ∃ on : Bool, s.Ready
      (portNum p) x ∧ t.permits q x.level (writeOf (K.FEED_ENABLE f.val) (b2n on)) ∧ t.feedsOk = true)
    ∧ (∃ (s : State), ∃ p : Port, ∃ x : Session, let q := portNum p; let t := s.taken q x; ∃ f : Fin 2, s.Ready (portNum p) x ∧
      x.level = 2 ∧ t.permits q x.level (writeOf (K.FEED_CLEAR f.val) 1) ∧ t.feedsOk = true ∧ ((t.feedTick f.val).was = .lockout ∨
      (t.feedTick f.val).was = .damaged)) :=
  ⟨⟨(hosted run), .h0, owner, 0xffff, ready_of (by decide), by decide⟩,
    ⟨(hosted run), .h0, owner, 1, true, ready_of (by decide), by decide⟩,
    ⟨(hosted (run.setFeed 1 { run.feed 1 with state := .damaged })), .h0, owner, 1, ready_of (by decide), by decide⟩⟩

/-- CollectorAndEtchHostCommandsTakeEffect: states and operands that meet the hypotheses of its clauses. -/
theorem witness_CollectorAndEtchHostCommandsTakeEffect :
    (∃ (s : State), ∃ p : Port, ∃ x : Session, let q := portNum p; let t := s.taken q x; ∃ src : BitVec 8, s.Ready (portNum p) x ∧
      t.permits q x.level (writeOf (K.FORCE src.toNat) 1) ∧ (objRowOfKey (K.FORCE src.toNat)).isSome = true ∧ (serviceClass
      src.toNat (t.obj (K.FORCE_KIND src.toNat))).isSome = true)
    ∧ (∃ (s : State), ∃ p : Port, ∃ x : Session, let q := portNum p; let t := s.taken q x; ∃ on : Bool, s.Ready (portNum p) x ∧
      x.level = 2 ∧ t.permits q x.level (writeOf K.TEST_MODE (b2n on)) ∧ (on = true → t.seqSafe = true))
    ∧ (∃ (s : State), ∃ p : Port, ∃ x : Session, let q := portNum p; let t := s.taken q x; s.Ready (portNum p) x ∧ x.level = 2 ∧
      t.permits q x.level (writeOf K.FAULT_ACK 1) ∧ t.coll.state = .latched)
    ∧ (∃ (s : State), ∃ p : Port, ∃ x : Session, let q := portNum p; let t := s.taken q x; ∃ on : Bool, s.Ready (portNum p) x ∧
      t.permits q x.level (writeOf K.FAULT_N_HOLD (b2n on)))
    ∧ (∃ (s : State), ∃ p : Port, ∃ x : Session, let q := portNum p; let t := s.taken q x; s.Ready (portNum p) x ∧ t.permits q
      x.level (writeOf K.ETCH_CMD 1))
    ∧ (∃ (s : State), ∃ p : Port, ∃ x : Session, let q := portNum p; let t := s.taken q x; ∃ o, t.store.etch = some o ∧ s.Ready
      (portNum p) x ∧ t.permits q x.level (writeOf K.ETCH_ABORT 1) ∧ (o.cause = 1 ∨ o.cause = 2)) :=
  ⟨⟨(hosted (run.setLive (K.FORCE_KIND 0x8B) 3)), .h0, owner, 139, ready_of (by decide), by decide⟩,
    ⟨(hosted run), .h0, owner, true, ready_of (by decide), by decide⟩,
    ⟨(hosted { run with coll := { run.coll with state := .latched } }), .h0, owner, ready_of (by decide), by decide⟩,
    ⟨(hosted run), .h0, owner, true, ready_of (by decide), by decide⟩,
    ⟨(hosted run), .h0, owner, ready_of (by decide), by decide⟩,
    ⟨(hosted { run with store := { Store.reset with etch := some etch } }), .h0, owner, _, rfl, ready_of (by decide), by decide⟩⟩

/-- UpdateHostCommandsTakeEffect: states and operands that meet the hypotheses of its clauses. -/
theorem witness_UpdateHostCommandsTakeEffect :
    (∃ (s : State), ∃ p : Port, ∃ x : Session, let q := portNum p; let t := s.taken q x; s.Ready (portNum p) x ∧ x.level = 2 ∧
      t.permits q x.level (writeOf K.UPD_CMD 2) ∧ t.upd.state = .downloaded)
    ∧ (∃ (s : State), ∃ p : Port, ∃ x : Session, let q := portNum p; let t := s.taken q x; s.Ready (portNum p) x ∧ x.level = 2 ∧
      t.permits q x.level (writeOf K.UPD_CMD 3) ∧ t.upd.state = .verified)
    ∧ (∃ (s : State), ∃ p : Port, ∃ x : Session, let q := portNum p; let t := s.taken q x; s.Ready (portNum p) x ∧ x.level = 2 ∧
      t.permits q x.level (writeOf K.UPD_CMD 4) ∧ t.upd.state = .applied ∧ t.isPast t.actBeat (t.obj K.ACT_OFFSET) = false)
    ∧ (∃ (s : State), ∃ p : Port, ∃ x : Session, let q := portNum p; let t := s.taken q x; s.Ready (portNum p) x ∧ x.level = 2 ∧
      t.permits q x.level (writeOf K.UPD_CMD 5) ∧ t.upd.state = .scheduled)
    ∧ (∃ (s : State), ∃ p : Port, ∃ x : Session, let q := portNum p; let t := s.taken q x; s.Ready (portNum p) x ∧ x.level = 2 ∧
      t.permits q x.level (writeOf K.UPD_CMD 6) ∧ t.upd.state = .trial)
    ∧ (∃ (s : State), ∃ p : Port, ∃ x : Session, let q := portNum p; let t := s.taken q x; s.Ready (portNum p) x ∧ x.level = 2 ∧
      t.permits q x.level (writeOf K.UPD_CMD 7) ∧ t.upd.state ≠ .idle ∧ t.upd.state ≠ .trial)
    ∧ (∃ (s : State), ∃ p : Port, ∃ x : Session, let q := portNum p; let t := s.taken q x; ∃ i : BitVec 16, s.Ready (portNum p) x
      ∧ t.permits q x.level (writeOf K.UPD_BLOCK i.toNat) ∧ i.toNat ≤ 2043 ∧ t.upd.state = .downloading ∧ i.toNat = t.obj
      K.NEXT_BLOCK) :=
  ⟨⟨(hosted { run with upd := { Upd.reset with state := .downloaded } }), .h0, owner, ready_of (by decide), by decide⟩,
    ⟨(hosted { run with upd := { Upd.reset with state := .verified } }), .h0, owner, ready_of (by decide), by decide⟩,
    ⟨(hosted ({ run with upd := { Upd.reset with state := .applied } }.setLive K.ACT_BEAT 8)), .h0, owner, ready_of (by decide),
      by decide⟩,
    ⟨(hosted { run with upd := { Upd.reset with state := .scheduled } }), .h0, owner, ready_of (by decide), by decide⟩,
    ⟨(hosted { run with upd := { Upd.reset with state := .trial } }), .h0, owner, ready_of (by decide), by decide⟩,
    ⟨(hosted { run with upd := { Upd.reset with state := .downloaded } }), .h0, owner, ready_of (by decide), by decide⟩,
    ⟨(hosted ({ run with upd := { Upd.reset with state := .downloading } }.setLive K.NEXT_BLOCK 2043)), .h0, owner, 2043, ready_of
      (by decide), by decide⟩⟩

set_option maxRecDepth 100000 in
/-- PortFramesTakeEffect: states and operands that meet the hypotheses of its clauses. -/
theorem witness_PortFramesTakeEffect :
    (∃ (s : State), ∃ p : SpiPort, let q := spiNum p; let x := s.port q; ∃ frame : List Byte, s.receives q = true ∧
      (x.request.isSome = true ∨ frameOk frame = false))
    ∧ (∃ (s : State), ∃ p : SpiPort, let q := spiNum p; let x := s.port q; ∃ frame : List Byte, s.receives q = true ∧ x.request =
      none ∧ frameOk frame = true)
    ∧ (∃ (s : State), s.frozen = none)
    ∧ (∃ (s : State), s.frozen.isSome = true ∧ s.supplies = true) :=
  ⟨⟨(hosted run), .h0, [], by decide⟩,
    ⟨(hosted run), .h0, framed [1#8, 0#8], by decide⟩,
    ⟨(hosted run), by decide⟩,
    ⟨frozen, by decide⟩⟩

/-- BaleRowsTakeEffect: states and operands that meet the hypotheses of its clauses. -/
theorem witness_BaleRowsTakeEffect :
    (∃ (s : State), ∃ id : BitVec 29, let seg := field id.toNat 13 9; let seq := field id.toNat 7 0; ∃ data : List Byte,
      let t := (if s.baleLate = true then (s.setBale s.hosts.bale.clear).discard 2 (seqOf s.hosts.bale.body) else s);
      let b := t.hosts.bale; s.receives 2 = true ∧ s.hosts.bale.busOff = false ∧ data.length = 64 ∧ nbit id.toNat 28 = false ∧
      field id.toNat 27 14 = s.node ∧ b.takes seg seq data = false)
    ∧ (∃ (s : State), ∃ id : BitVec 29, let seg := field id.toNat 13 9; let seq := field id.toNat 7 0; ∃ data : List Byte,
      let t := (if s.baleLate = true then (s.setBale s.hosts.bale.clear).discard 2 (seqOf s.hosts.bale.body) else s);
      let b := t.hosts.bale; s.receives 2 = true ∧ s.hosts.bale.busOff = false ∧ data.length = 64 ∧ nbit id.toNat 28 = false ∧
      field id.toNat 27 14 = s.node ∧ b.takes seg seq data = true ∧ nbit id.toNat 8 = false)
    ∧ (∃ (s : State), ∃ id : BitVec 29, let seg := field id.toNat 13 9; let seq := field id.toNat 7 0; ∃ data : List Byte,
      let t := (if s.baleLate = true then (s.setBale s.hosts.bale.clear).discard 2 (seqOf s.hosts.bale.body) else s);
      let b := t.hosts.bale; s.receives 2 = true ∧ s.hosts.bale.busOff = false ∧ data.length = 64 ∧ nbit id.toNat 28 = false ∧
      field id.toNat 27 14 = s.node ∧ b.takes seg seq data = true ∧ nbit id.toNat 8 = true ∧ (t.port 2).request.isSome = true)
    ∧ (∃ (s : State), ∃ id : BitVec 29, let seg := field id.toNat 13 9; let seq := field id.toNat 7 0; ∃ data : List Byte,
      let t := (if s.baleLate = true then (s.setBale s.hosts.bale.clear).discard 2 (seqOf s.hosts.bale.body) else s);
      let b := t.hosts.bale; s.receives 2 = true ∧ s.hosts.bale.busOff = false ∧ data.length = 64 ∧ nbit id.toNat 28 = false ∧
      field id.toNat 27 14 = s.node ∧ b.takes seg seq data = true ∧ nbit id.toNat 8 = true ∧ (t.port 2).request = none)
    ∧ (∃ (s : State), ∃ id : BitVec 29, ∃ data : List Byte, s.receives 2 = true ∧ (data.length ≠ 64 ∨ nbit id.toNat 28 = true ∨
      field id.toNat 27 14 ≠ s.node))
    ∧ (∃ (s : State), s.clocked = true ∧ s.baleLate = true)
    ∧ (∃ (s : State), s.receives 2 = true ∧ s.hosts.bale.busOff = true) :=
  ⟨⟨(hosted run), 512, [5#8] ++ List.replicate 63 0#8, by decide⟩,
    ⟨(hosted run), 0, [5#8] ++ List.replicate 63 0#8, by decide⟩,
    ⟨(run.setPort 2 { run.port 2 with request := some ⟨[], 5⟩ }), 256, [5#8] ++ List.replicate 63 0#8, by decide⟩,
    ⟨(hosted run), 256, [5#8] ++ List.replicate 63 0#8, by decide⟩,
    ⟨(hosted run), 0, [], by decide⟩,
    ⟨late, by decide⟩,
    ⟨(run.setBale { Bale.reset with busOff := true, waiting := [(3, [])] }), by decide⟩⟩

/-- SessionTimersTakeEffect: states and operands that meet the hypotheses of its clauses. -/
theorem witness_SessionTimersTakeEffect :
    (∃ (s : State), ∃ p : Port, let q := portNum p; let x := s.port q; ∃ t, x.lockedUntil = some t ∧ s.clocked = true ∧ t ≤
      s.fab.tick)
    ∧ (∃ (s : State), ∃ p : Port, let q := portNum p; let x := s.port q; ∃ c, x.challenge = some c ∧ s.clocked = true ∧ c.at_ +
      200000000 ≤ s.fab.tick)
    ∧ (∃ (s : State), ∃ p : Port, let q := portNum p; let x := s.port q; ∃ y, x.session = some y ∧ s.clocked = true ∧ s.lapseTick
      y ≤ s.fab.tick) :=
  ⟨⟨(run.setPort 2 { run.port 2 with lockedUntil := some 1000000 }), .h2, _, rfl, by decide⟩,
    ⟨({ run with fab := { run.fab with tick := 200000000 } }).setPort 2 { run.port 2 with challenge := some ⟨1, [], [], 0⟩ }, .h2,
      _, rfl, by decide⟩,
    ⟨(hosted { run with fab := { run.fab with tick := 10000000000 } }), .h0, _, rfl, by decide⟩⟩

set_option maxRecDepth 100000 in
/-- ServerRowsTakeEffect: states and operands that meet the hypotheses of its clauses. -/
theorem witness_ServerRowsTakeEffect :
    (∃ (s : State), ∃ p : Port, ∃ r, (s.port (portNum p)).request = some r ∧ (let q := portNum p; s.clocked = true ∧ leAt r.body 0
      1 ≠ 2 ∧ leAt r.body 0 1 ≠ 3 ∧ s.earlierWaits q r.arrived = false ∧ parseBody q r.body = none))
    ∧ (∃ (s : State), ∃ p : Port, ∃ r, (s.port (portNum p)).request = some r ∧ (let q := portNum p; let w := s.wake; ∃ seq ms,
      parseBody q r.body = some (.transaction seq ms) ∧ s.clocked = true ∧ leAt r.body 0 1 ≠ 2 ∧ leAt r.body 0 1 ≠ 3 ∧
      s.earlierWaits q r.arrived = false ∧ w.current q r.arrived = none))
    ∧ (∃ (s : State), ∃ p : Port, ∃ r, (s.port (portNum p)).request = some r ∧ (let q := portNum p; let w := s.wake; ∃ seq ms,
      parseBody q r.body = some (.transaction seq ms) ∧ ∃ x, w.current q r.arrived = some x ∧ s.clocked = true ∧ leAt r.body 0 1 ≠
      2 ∧ leAt r.body 0 1 ≠ 3 ∧ s.earlierWaits q r.arrived = false ∧ macOk x.key r.body = false))
    ∧ (∃ (s : State), ∃ p : Port, ∃ r, (s.port (portNum p)).request = some r ∧ (let q := portNum p; let w := s.wake; ∃ seq ms,
      parseBody q r.body = some (.transaction seq ms) ∧ ∃ x, w.current q r.arrived = some x ∧ ∃ b as, (w.port q).stored = some (b,
      as) ∧ s.clocked = true ∧ leAt r.body 0 1 ≠ 2 ∧ leAt r.body 0 1 ≠ 3 ∧ s.earlierWaits q r.arrived = false ∧ macOk x.key r.body
      = true ∧ seq ≠ (x.lastSeq + 1) % 65536 ∧ seq = x.lastSeq))
    ∧ (∃ (s : State), ∃ p : Port, ∃ r, (s.port (portNum p)).request = some r ∧ (let q := portNum p; let w := s.wake; ∃ seq ms,
      parseBody q r.body = some (.transaction seq ms) ∧ ∃ x, w.current q r.arrived = some x ∧ s.clocked = true ∧ leAt r.body 0 1 ≠
      2 ∧ leAt r.body 0 1 ≠ 3 ∧ s.earlierWaits q r.arrived = false ∧ macOk x.key r.body = true ∧ seq ≠ (x.lastSeq + 1) % 65536 ∧
      seq ≠ x.lastSeq))
    ∧ (∃ (s : State), ∃ p : Port, ∃ r, (s.port (portNum p)).request = some r ∧ (let q := portNum p; let w := s.wake; ∃ seq ms,
      parseBody q r.body = some (.transaction seq ms) ∧ ∃ x, w.current q r.arrived = some x ∧ s.clocked = true ∧ leAt r.body 0 1 ≠
      2 ∧ leAt r.body 0 1 ≠ 3 ∧ s.earlierWaits q r.arrived = false ∧ macOk x.key r.body = true ∧ seq = (x.lastSeq + 1) % 65536))
    ∧ (∃ (s : State), ∃ p : Port, ∃ r, (s.port (portNum p)).request = some r ∧ (let q := portNum p; s.clocked = true ∧ leAt r.body
      0 1 = 2 ∧ parseBody q r.body = none))
    ∧ (∃ (s : State), ∃ p : Port, ∃ r, (s.port (portNum p)).request = some r ∧ (let q := portNum p; let w := s.wake; ∃ seq level
      nh, parseBody q r.body = some (.opening seq level nh) ∧ s.clocked = true ∧ leAt r.body 0 1 = 2 ∧ (w.port
      q).lockedUntil.isSome = true))
    ∧ (∃ (s : State), ∃ p : Port, ∃ r, (s.port (portNum p)).request = some r ∧ (let q := portNum p; let w := s.wake; ∃ seq level
      nh, parseBody q r.body = some (.opening seq level nh) ∧ s.clocked = true ∧ leAt r.body 0 1 = 2 ∧ (w.port q).lockedUntil =
      none ∧ w.authReady = false))
    ∧ (∃ (s : State), ∃ p : Port, ∃ r, (s.port (portNum p)).request = some r ∧ (let q := portNum p; let w := s.wake; ∃ seq level
      nh, parseBody q r.body = some (.opening seq level nh) ∧ s.clocked = true ∧ leAt r.body 0 1 = 2 ∧ (w.port q).lockedUntil =
      none ∧ w.authReady = true))
    ∧ (∃ (s : State), ∃ p : Port, ∃ r, (s.port (portNum p)).request = some r ∧ (let q := portNum p; s.clocked = true ∧ leAt r.body
      0 1 = 3 ∧ parseBody q r.body = none))
    ∧ (∃ (s : State), ∃ p : Port, ∃ r, (s.port (portNum p)).request = some r ∧ (let q := portNum p; let w := s.wake; ∃ seq proof,
      parseBody q r.body = some (.proof seq proof) ∧ s.clocked = true ∧ leAt r.body 0 1 = 3 ∧ (w.port q).lockedUntil.isSome =
      true))
    ∧ (∃ (s : State), ∃ p : Port, ∃ r, (s.port (portNum p)).request = some r ∧ (let q := portNum p; let w := s.wake; ∃ seq proof,
      parseBody q r.body = some (.proof seq proof) ∧ s.clocked = true ∧ leAt r.body 0 1 = 3 ∧ (w.port q).lockedUntil = none ∧
      w.authReady = false))
    ∧ (∃ (s : State), ∃ p : Port, ∃ r, (s.port (portNum p)).request = some r ∧ (let q := portNum p; let w := s.wake; ∃ seq proof,
      parseBody q r.body = some (.proof seq proof) ∧ ∃ c, (w.port q).challenge = some c ∧ ∃ key, w.proofKey q c proof = some key ∧
      s.clocked = true ∧ leAt r.body 0 1 = 3 ∧ (w.port q).lockedUntil = none ∧ w.authReady = true ∧ r.arrived < c.at_ +
      200000000))
    ∧ (∃ (s : State), ∃ p : Port, ∃ r, (s.port (portNum p)).request = some r ∧ (let q := portNum p; let w := s.wake; ∃ seq proof,
      parseBody q r.body = some (.proof seq proof) ∧ s.clocked = true ∧ leAt r.body 0 1 = 3 ∧ (w.port q).lockedUntil = none ∧
      w.authReady = true ∧ (w.port q).challenge.all (fun c => decide (c.at_ + 200000000 ≤ r.arrived) || (w.proofKey q c
      proof).isNone) = true ∧ w.obj K.AUTH_LIMIT ≤ (w.port q).fails + 1))
    ∧ (∃ (s : State), ∃ p : Port, ∃ r, (s.port (portNum p)).request = some r ∧ (let q := portNum p; let w := s.wake; ∃ seq proof,
      parseBody q r.body = some (.proof seq proof) ∧ s.clocked = true ∧ leAt r.body 0 1 = 3 ∧ (w.port q).lockedUntil = none ∧
      w.authReady = true ∧ (w.port q).challenge.all (fun c => decide (c.at_ + 200000000 ≤ r.arrived) || (w.proofKey q c
      proof).isNone) = true ∧ (w.port q).fails + 1 < w.obj K.AUTH_LIMIT)) :=
  ⟨⟨(run.setPort 2 { run.port 2 with request := some ⟨[], 5⟩ }), .h2, _, rfl, by decide⟩,
    ⟨(asks (run) (asked 8 [])), .h0, _, rfl, _, _, rfl, by decide⟩,
    ⟨(asks (hosted run) (asked 8 [])), .h0, _, rfl, _, _, rfl, _, rfl, by decide⟩,
    ⟨(asks ((hosted run).setPort 0 { (hosted run).port 0 with stored := some ([], []) }) (signed (asked 7 []))), .h0, _, rfl, _,
      _, rfl, _, rfl, _, _, rfl, by decide⟩,
    ⟨(asks (hosted run) (signed (asked 9 []))), .h0, _, rfl, _, _, rfl, _, rfl, by decide⟩,
    ⟨(asks (hosted { run with cores := { Cores.reset with hold := some .reserve } }) (signed (asked 8 []))), .h0, _, rfl, _, _,
      rfl, _, rfl, by decide⟩,
    ⟨(asks (hosted run) [2#8]), .h0, _, rfl, by decide⟩,
    ⟨(asks (run.setPort 0 { run.port 0 with lockedUntil := some 2000000 }) opening), .h0, _, rfl, _, _, _, rfl, by decide⟩,
    ⟨(asks ({ run with phase := .cores }) opening), .h0, _, rfl, _, _, _, rfl, by decide⟩,
    ⟨(asks (run) opening), .h0, _, rfl, _, _, _, rfl, by decide⟩,
    ⟨(asks (hosted run) [3#8]), .h0, _, rfl, by decide⟩,
    ⟨(asks (run.setPort 0 { run.port 0 with lockedUntil := some 2000000 }) proving), .h0, _, rfl, _, _, rfl, by decide⟩,
    ⟨(asks ({ run with phase := .cores }) proving), .h0, _, rfl, _, _, rfl, by decide⟩,
    ⟨(asks (run.setPort 0 { run.port 0 with challenge := some ⟨2, [], [], 999000⟩ }) proving), .h0, _, rfl, _, _, rfl, _, rfl, _,
      rfl, by decide⟩,
    ⟨(asks (run.setPort 0 { run.port 0 with fails := 4 }) proving), .h0, _, rfl, _, _, rfl, by decide⟩,
    ⟨(asks (run) proving), .h0, _, rfl, _, _, rfl, by decide⟩⟩

/-- BeatEdgeRowsTakeEffect: states and operands that meet the hypotheses of its clauses. -/
theorem witness_BeatEdgeRowsTakeEffect :
    (∃ (s : State), s.clocked = true ∧ s.serving = true ∧ s.vioGone = true)
    ∧ (∃ (s : State), s.clocked = true ∧ s.serving = true ∧ s.vioGone = false ∧ s.takesEdge = true ∧ (s.convoy.state = .member ∨
      s.convoy.state = .halted) ∧ s.objB K.CONVOY_ENABLE = true)
    ∧ (∃ (s : State), s.clocked = true ∧ s.serving = true ∧ s.vioGone = false ∧ s.takesEdge = true ∧ (s.convoy.state = .member ∨
      s.convoy.state = .halted) ∧ s.objB K.CONVOY_ENABLE = false)
    ∧ (∃ (s : State), s.clocked = true ∧ s.serving = true ∧ s.vioGone = false ∧ s.takesEdge = true ∧ s.convoy.state = .solo ∧
      s.convoy.held = false ∧ s.convoy.join = none ∧ s.objB K.CONVOY_ENABLE = true)
    ∧ (∃ (s : State), s.clocked = true ∧ s.serving = true ∧ s.vioGone = false ∧ s.takesEdge = true ∧ s.convoy.state = .solo ∧
      s.objB K.CONVOY_ENABLE = false)
    ∧ (∃ (s : State), ∃ t, s.convoy.edgeFrom = some t ∧ s.clocked = true ∧ s.serving = true ∧ s.vioGone = false ∧ s.convoy.state =
      .solo ∧ s.fab.tick < t + 68000)
    ∧ (∃ (s : State), ∃ f, s.convoy.join = some f ∧ s.clocked = true ∧ s.serving = true ∧ s.vioGone = false ∧ s.takesEdge = true ∧
      s.convoy.state = .solo ∧ s.objB K.CONVOY_ENABLE = true)
    ∧ (∃ (s : State), ∃ t, s.convoy.edgeFrom = some t ∧ s.clocked = true ∧ s.serving = true ∧ s.vioGone = false ∧ s.convoy.state ≠
      .disabled ∧ t + 68000 ≤ s.fab.tick ∧ s.fab.tick < t + 72000)
    ∧ (∃ (s : State), s.clocked = true ∧ s.serving = true ∧ s.convoy.held = true ∧ 400 ≤ s.offset) :=
  ⟨⟨{
    convoyed { Convoy.reset with state := .member } with supplies := false, input := { CardInput.reset with onVhu := true } }, by
    decide⟩,
    ⟨(convoyed {
      Convoy.reset with state := .member, edgeFrom := some 928000, held := true, matched := true, wayNew := some 3 }), by decide⟩,
    ⟨(hosted { run with convoy := { Convoy.reset with state := .member } }), by decide⟩,
    ⟨(convoyed { Convoy.reset with state := .solo }), by decide⟩,
    ⟨{ run with
      convoy := { Convoy.reset with state := .solo, edgeFrom := some 900000, maybe := [940000] } }.setLive K.CONVOY_ENABLE 0, by
      decide⟩,
    ⟨(convoyed { Convoy.reset with state := .solo, edgeFrom := some 949600 }), _, rfl, by decide⟩,
    ⟨(convoyed { Convoy.reset with state := .solo, join := some frame }), _, rfl, by decide⟩,
    ⟨(convoyed { Convoy.reset with state := .member, edgeFrom := some 932000 }), _, rfl, by decide⟩,
    ⟨(convoyed {
      Convoy.reset with state := .member, edgeFrom := some 928000, held := true, matched := true, wayNew := some 3 }), by decide⟩⟩

set_option maxRecDepth 100000 in
/-- BeatFramesAreReceived: states and operands that meet the hypotheses of its clauses. -/
theorem witness_BeatFramesAreReceived :
    (∃ (s : State), s.clocked = true ∧ s.serving = true ∧ s.coresUp = true ∧ s.convoy.state ≠ .disabled ∧ s.vioGone = true)
    ∧ (∃ (s : State), ∃ bs : List Byte, s.clocked = true ∧ s.serving = true ∧ s.coresUp = true ∧ s.convoy.state ≠ .disabled ∧
      s.vioGone = false ∧ (s.convoy.state = .leader ∨ s.convoy.edgeFrom.any (fun t : Int => decide (t + 50400 ≤ s.fab.tick)) =
      true) ∧ parseFrame bs = none ∧ s.convoy.state ≠ .solo)
    ∧ (∃ (s : State), ∃ bs : List Byte, s.clocked = true ∧ s.serving = true ∧ s.coresUp = true ∧ s.convoy.state ≠ .disabled ∧
      s.vioGone = false ∧ (s.convoy.state = .leader ∨ s.convoy.edgeFrom.any (fun t : Int => decide (t + 50400 ≤ s.fab.tick)) =
      true) ∧ parseFrame bs = none ∧ s.convoy.state = .solo)
    ∧ (∃ (s : State), ∃ bs : List Byte, ∃ f, parseFrame bs = some f ∧ s.clocked = true ∧ s.serving = true ∧ s.coresUp = true ∧
      s.convoy.state ≠ .disabled ∧ s.vioGone = false ∧ s.convoy.state = .solo ∧ s.objB K.CONVOY_ENABLE = true ∧
      ((s.convoy.edgeFrom.any (fun t : Int => decide (t + 50400 ≤ s.fab.tick)) = true) ∨ s.convoy.maybe.any (fun e => decide (e +
      50400 ≤ s.fab.tick)) = true))
    ∧ (∃ (s : State), ∃ bs : List Byte, ∃ f, parseFrame bs = some f ∧ s.clocked = true ∧ s.serving = true ∧ s.coresUp = true ∧
      s.convoy.state ≠ .disabled ∧ s.vioGone = false ∧ s.convoy.state = .solo ∧ s.objB K.CONVOY_ENABLE = false ∧
      s.convoy.maybe.any (fun e => decide (e + 50400 ≤ s.fab.tick)) = true)
    ∧ (∃ (s : State), ∃ bs : List Byte, ∃ f, parseFrame bs = some f ∧ s.clocked = true ∧ s.serving = true ∧ s.coresUp = true ∧
      s.convoy.state ≠ .disabled ∧ s.vioGone = false ∧ s.convoy.edgeFrom.any (fun t : Int => decide (t + 50400 ≤ s.fab.tick)) =
      true ∧ (s.convoy.state = .member ∨ s.convoy.state = .halted) ∧ s.convoy.frameThisBeat = true)
    ∧ (∃ (s : State), ∃ bs : List Byte, ∃ f, parseFrame bs = some f ∧ s.clocked = true ∧ s.serving = true ∧ s.coresUp = true ∧
      s.convoy.state ≠ .disabled ∧ s.vioGone = false ∧ s.convoy.edgeFrom.any (fun t : Int => decide (t + 50400 ≤ s.fab.tick)) =
      true ∧ (s.convoy.state = .member ∨ s.convoy.state = .halted) ∧ s.convoy.frameThisBeat = false)
    ∧ (∃ (s : State), ∃ bs : List Byte, ∃ f, parseFrame bs = some f ∧ s.clocked = true ∧ s.serving = true ∧ s.coresUp = true ∧
      s.convoy.state ≠ .disabled ∧ s.vioGone = false ∧ s.convoy.state = .leader ∧ f.leaderAddr < s.convoy.set.unitAddr)
    ∧ (∃ (s : State), ∃ bs : List Byte, ∃ f, parseFrame bs = some f ∧ s.clocked = true ∧ s.serving = true ∧ s.coresUp = true ∧
      s.convoy.state ≠ .disabled ∧ s.vioGone = false ∧ s.convoy.state = .leader ∧ s.convoy.set.unitAddr ≤ f.leaderAddr) :=
  ⟨⟨{
    convoyed { Convoy.reset with state := .member } with supplies := false, input := { CardInput.reset with onVhu := true } }, by
    decide⟩,
    ⟨(hosted { run with convoy := { Convoy.reset with state := .leader } }), [], by decide⟩,
    ⟨(convoyed { Convoy.reset with state := .solo, edgeFrom := some 949600 }), [], by decide⟩,
    ⟨(convoyed { Convoy.reset with state := .solo, edgeFrom := some 949600 }), frame.bytes, _, rfl, by decide⟩,
    ⟨{ run with
      convoy := { Convoy.reset with state := .solo, edgeFrom := some 900000, maybe := [940000] } }.setLive K.CONVOY_ENABLE 0,
      frame.bytes, _, rfl, by decide⟩,
    ⟨(convoyed {
      Convoy.reset with state := .halted, edgeFrom := some 900000, frameThisBeat := true, lastFrame := some frame }), frame.bytes,
      _, rfl, by decide⟩,
    ⟨(convoyed {
      Convoy.reset with state := .member, edgeFrom := some 928000, held := true, matched := true, wayNew := some 3 }),
      frame.bytes, _, rfl, by decide⟩,
    ⟨(convoyed { Convoy.reset with state := .leader, set := { Convoy.reset.set with unitAddr := 7 } }), frame.bytes, _, rfl, by
      decide⟩,
    ⟨(hosted { run with convoy := { Convoy.reset with state := .leader } }), frame.bytes, _, rfl, by decide⟩⟩

/-- SoloAndLeadingRowsTakeEffect: states and operands that meet the hypotheses of its clauses. -/
theorem witness_SoloAndLeadingRowsTakeEffect :
    (∃ (s : State), s.clocked = true ∧ s.serving = true ∧ (s.convoy.state = .solo ∨ s.convoy.state = .disabled) ∧ s.convoy.soloDue
      ≤ s.fab.tick)
    ∧ (∃ (s : State), s.clocked = true ∧ s.serving = true ∧ s.convoy.state = .member ∧ s.convoy.lastEdge + usTicks (s.obj
      K.LOSS_TIMEOUT) ≤ s.fab.tick)
    ∧ (∃ (s : State), s.clocked = true ∧ s.serving = true ∧ s.coresUp = true ∧ s.convoy.state = .solo ∧ s.convoy.set.candidate =
      true ∧ s.convoy.heardFrame = false ∧ s.convoy.soloSince + s.convoy.set.wait ≤ s.fab.tick ∧ s.objB K.CONVOY_ENABLE = true)
    ∧ (∃ (s : State), s.clocked = true ∧ s.serving = true ∧ s.coresUp = true ∧ s.convoy.state = .leader ∧ s.fab.edgeTick + max
      72000 (usTicks (s.obj K.BEAT_PERIOD)) ≤ s.fab.tick ∧ (s.convoy.lead.halted = true → s.linesHigh = true)) :=
  ⟨⟨(hosted run), by decide⟩,
    ⟨(hosted { run with convoy := { Convoy.reset with state := .member } }), by decide⟩,
    ⟨(convoyed { Convoy.reset with state := .solo, set := { Convoy.reset.set with unitAddr := 1, rank := 1 } }), by decide⟩,
    ⟨{
      convoyed { Convoy.reset with state := .leader } with fab := { run.fab with edgeTick := 800000 } }, by decide⟩⟩

/-- FramesAndRepliesAreSent: states and operands that meet the hypotheses of its clauses. -/
theorem witness_FramesAndRepliesAreSent :
    (∃ (s : State), s.clocked = true ∧ s.serving = true ∧ s.coresUp = true ∧ s.convoy.state = .leader ∧ s.convoy.lead.frameSent =
      false ∧ 12000 ≤ s.offset)
    ∧ (∃ (s : State), ∃ r queued, s.pendingReply = some (r, queued) ∧ s.clocked = true ∧ s.serving = true ∧ s.slotOpen = true) :=
  ⟨⟨(hosted { run with convoy := { Convoy.reset with state := .leader } }), by decide⟩,
    ⟨{
      convoyed {
      Convoy.reset with state := .member, present := true, frameThisBeat := true, lastFrame := some frame, replies := [⟨0, 3, 5,
      6, 7⟩] } with fab := { run.fab with edgeTick := 948000 } }, _, _, rfl, by decide⟩⟩

set_option maxRecDepth 100000 in
/-- TollPassingByTheLeader: states and operands that meet the hypotheses of its clauses. -/
theorem witness_TollPassingByTheLeader :
    (∃ (s : State), let l := s.convoy.lead; ∃ w : BitVec 80, ∃ r, parseReply w = some r ∧ s.clocked = true ∧ s.serving = true ∧
      s.coresUp = true ∧ s.convoy.state = .leader ∧ r.kind = 1 ∧ 0 < r.arg8 ∧ l.offer.all (fun a => a.1 == r.addr) = true)
    ∧ (∃ (s : State), let l := s.convoy.lead; ∃ w : BitVec 80, ∃ r, parseReply w = some r ∧ ∃ b a, l.offer = some (b, a) ∧
      s.clocked = true ∧ s.serving = true ∧ s.coresUp = true ∧ s.convoy.state = .leader ∧ r.kind = 1 ∧ 0 < r.arg8 ∧ b ≠ r.addr)
    ∧ (∃ (s : State), let l := s.convoy.lead; ∃ w : BitVec 80, ∃ r, parseReply w = some r ∧ s.clocked = true ∧ s.serving = true ∧
      s.coresUp = true ∧ s.convoy.state = .leader ∧ r.kind = 2 ∧ 0 < r.arg8 ∧ l.request.all (fun a => a.1 == r.addr) = true)
    ∧ (∃ (s : State), let l := s.convoy.lead; ∃ w : BitVec 80, ∃ r, parseReply w = some r ∧ ∃ b a, l.request = some (b, a) ∧
      s.clocked = true ∧ s.serving = true ∧ s.coresUp = true ∧ s.convoy.state = .leader ∧ r.kind = 2 ∧ 0 < r.arg8 ∧ b ≠ r.addr)
    ∧ (∃ (s : State), ∃ w : BitVec 80, ∃ r, parseReply w = some r ∧ s.clocked = true ∧ s.serving = true ∧ s.coresUp = true ∧
      s.convoy.state = .leader ∧ r.kind = 3)
    ∧ (∃ (s : State), ∃ w : BitVec 80, ∃ r, parseReply w = some r ∧ s.clocked = true ∧ s.serving = true ∧ s.coresUp = true ∧
      s.convoy.state = .leader ∧ r.kind = 4)
    ∧ (∃ (s : State), ∃ w : BitVec 80, ∃ r, parseReply w = some r ∧ s.clocked = true ∧ s.serving = true ∧ s.coresUp = true ∧
      s.convoy.state = .leader ∧ r.kind = 5) :=
  ⟨⟨(hosted { run with convoy := { Convoy.reset with state := .leader } }), 0x7010500000000b806, _, rfl, by decide⟩,
    ⟨(convoyed { Convoy.reset with state := .leader, lead := { Leading.reset with offer := some (9, 4) } }), 0x7010500000000b806,
      _, rfl, _, _, rfl, by decide⟩,
    ⟨(hosted { run with convoy := { Convoy.reset with state := .leader } }), 0x702050000000073dc, _, rfl, by decide⟩,
    ⟨(convoyed { Convoy.reset with state := .leader, lead := { Leading.reset with request := some (9, 4) } }),
      0x702050000000073dc, _, rfl, _, _, rfl, by decide⟩,
    ⟨(hosted { run with convoy := { Convoy.reset with state := .leader } }), 0x70305000600078a39, _, rfl, by decide⟩,
    ⟨(hosted { run with convoy := { Convoy.reset with state := .leader } }), 0x70405000600077694, _, rfl, by decide⟩,
    ⟨(hosted { run with convoy := { Convoy.reset with state := .leader } }), 0x7050300000000ee99, _, rfl, by decide⟩⟩

/-- TollTransfersConserveTolls: states and operands that meet the hypotheses of its clauses. -/
theorem witness_TollTransfersConserveTolls :
    (∃ (s : State), let r := s.convoy.set.unitAddr; ∃ f, s.openMsg 1 = some f ∧ s.clocked = true ∧ f.msgFrom = r ∧ 1 ≤ f.msgAmount
      ∧ s.transit = 0 ∧ f.msgAmount + s.obj K.INRUSH_KEEP ≤ s.obj K.INRUSH_FREE)
    ∧ (∃ (s : State), let r := s.convoy.set.unitAddr; ∃ f, s.openMsg 2 = some f ∧ s.clocked = true ∧ f.msgTo = r)
    ∧ (∃ (s : State), let r := s.convoy.set.unitAddr; ∃ f, s.openMsg 3 = some f ∧ s.clocked = true ∧ f.msgFrom = r ∧ 0 < s.transit
      ∧ s.obj (H.xfer 0 0) = f.msgId ∧ s.transit ≤ s.obj K.INRUSH_HELD)
    ∧ (∃ (s : State), s.clocked = true ∧ s.serving = true ∧ s.coresUp = true ∧ 0 < s.transit ∧ s.resendDue s.convoy.xferBeat =
      true) :=
  ⟨⟨(convoyed {
    Convoy.reset with state := .member, frameThisBeat := true, msgOpen := true, lastFrame := some (message 1) }).setLive
    K.INRUSH_FREE (5 + State.reset.obj K.INRUSH_KEEP), _, rfl, by decide⟩,
    ⟨(convoyed {
      Convoy.reset with state := .member, frameThisBeat := true, msgOpen := true, lastFrame := some (message 2) }), _, rfl, by
      decide⟩,
    ⟨(((convoyed {
      Convoy.reset with state := .member, frameThisBeat := true, msgOpen := true, lastFrame := some (message 3) }).setLive
      K.XFER_IN_TRANSIT 5).setLive (H.xfer 0 0) 6).setLive K.INRUSH_HELD 5, _, rfl, by decide⟩,
    ⟨((convoyed { Convoy.reset with state := .member }).setLive K.XFER_IN_TRANSIT 5).setLive K.XFER_RESEND 5, by decide⟩⟩

/-- RelayRowsTakeEffect: states and operands that meet the hypotheses of its clauses. -/
theorem witness_RelayRowsTakeEffect :
    (∃ (s : State), ∃ ticks : BitVec 32, s.clocked = true ∧ s.serving = true ∧ s.convoy.state = .leader ∧ 1 <
      s.convoy.set.segCount ∧ s.convoy.lead.ringBack = false ∧ s.convoy.lead.ringOpen = false ∧ ticks.toNat ≤ 8000)
    ∧ (∃ (s : State), s.clocked = true ∧ s.serving = true ∧ s.convoy.state = .leader ∧ 1 < s.convoy.set.segCount ∧
      s.convoy.lead.ringBack = false ∧ s.convoy.lead.ringOpen = false ∧ 8000 ≤ s.offset)
    ∧ (∃ (s : State), ∃ t, s.convoy.stuckFrom = some t ∧ s.clocked = true ∧ s.serving = true ∧ s.convoy.set.relay = true ∧
      s.convoy.inHalt = false ∧ t + 72000 < s.fab.tick) :=
  ⟨⟨(convoyed { Convoy.reset with state := .leader, set := { Convoy.reset.set with segCount := 2 } }), 1, by decide⟩,
    ⟨(convoyed { Convoy.reset with state := .leader, set := { Convoy.reset.set with segCount := 2 } }), by decide⟩,
    ⟨(convoyed {
      Convoy.reset with state := .member, set := { Convoy.reset.set with relay := true }, stuckFrom := some 927999 }), _, rfl, by
      decide⟩⟩

/-- LaneRowsTakeEffect: states and operands that meet the hypotheses of its clauses. -/
theorem witness_LaneRowsTakeEffect :
    (∃ (s : State), ∃ lane, s.lanes.lowestFree = some lane ∧ s.clocked = true ∧ ((0 < s.lanes.grants ∧ s.fab.tick ≤
      s.lanes.lastGrant) ∨ s.lanes.best = none))
    ∧ (∃ (s : State), ∃ lane, s.lanes.lowestFree = some lane ∧ ∃ r, s.lanes.best = some r ∧ ∃ x, x ∈ s.lanes.queue ∧ s.clocked =
      true ∧ (s.lanes.grants = 0 ∨ s.lanes.lastGrant < s.fab.tick))
    ∧ (∃ (s : State), ∃ lane, s.lanes.lowestFree = some lane ∧ ∃ r, s.lanes.best = some r ∧ ∃ k : Nat, s.clocked = true ∧
      (s.lanes.grants = 0 ∨ s.lanes.lastGrant < s.fab.tick) ∧ 64 ≤ k ∧ k < lane)
    ∧ (∃ (s : State), ∃ lane, s.lanes.lowestFree = some lane ∧ ∃ r, s.lanes.best = some r ∧ ∃ k : Nat, s.clocked = true ∧
      (s.lanes.grants = 0 ∨ s.lanes.lastGrant < s.fab.tick) ∧ k ≠ lane)
    ∧ (∃ (s : State), ∃ v, s.victim (fun o => o.base != 0) = some v ∧ ∃ x, x ∈ s.lanes.shared ∧ s.clocked = true ∧ x.2.base ≠ 0 ∧
      (s.lanes.handovers.any (fun h => h.lane == x.1)) = false)
    ∧ (∃ (s : State), ∃ r : LaneReq, s.clocked = true ∧ s.victim (fun o => o.base != 0) = none ∧ r.waitCounted = true)
    ∧ (∃ (s : State), ∃ r : LaneReq, s.clocked = true ∧ s.victim (fun o => o.base != 0) = none ∧ r.waitCounted = false)
    ∧ (∃ (s : State), ∃ r, leastBy LaneReq.before (s.lanes.queue.filter (fun x => x.promoted && decide (x.posted + s.hardAgeOf x <
      s.fab.tick) && (s.hardVictim x).isSome)) = some r ∧ ∃ v, s.hardVictim r = some v ∧ s.clocked = true ∧ s.lanes.lowestFree =
      none)
    ∧ (∃ (s : State), ∃ lane : Fin 128, ∃ h, s.lanes.handovers.find? (fun x => x.lane == lane.val) = some h ∧ s.clocked = true ∧
      s.handoverReady h = true)
    ∧ (∃ (s : State), ∃ lane : Fin 128, ∃ h, s.lanes.handovers.find? (fun x => x.lane == lane.val) = some h ∧ s.clocked = true ∧
      s.handoverReady h = false) :=
  ⟨⟨(hosted run), _, rfl, by decide⟩,
    ⟨{ run with lanes := { Lanes.reset with queue := [want 2] } }, _, rfl, _, rfl, _, List.Mem.head _, by decide⟩,
    ⟨{ run with lanes := { Lanes.reset with shared := [(64, busy 64)], queue := [want 2] } }, _, rfl, _, rfl, 64, by decide⟩,
    ⟨{ run with lanes := { Lanes.reset with queue := [want 2] } }, _, rfl, _, rfl, 0, by decide⟩,
    ⟨{ run with lanes := { Lanes.reset with queue := [want 0], shared := allBusy } }, _, rfl, _, List.Mem.head _, by decide⟩,
    ⟨(hosted run), { want 0 with waitCounted := true }, by decide⟩,
    ⟨(hosted run), want 0, by decide⟩,
    ⟨{
      { run with
      lanes := { Lanes.reset with queue := [{ want 3 with promoted := true, eff := 2 }], shared := allBusy } } with fab :=
      { run.fab with tick := 10000000000 } }, _, rfl, _, rfl, by decide⟩,
    ⟨{ run with lanes := { Lanes.reset with handovers := [⟨127, want 0, busy 127⟩] } }, 127, _, rfl, by decide⟩,
    ⟨{ run with
      lanes := { Lanes.reset with handovers := [⟨127, want 0, busy 127⟩], shared := allBusy } }, 127, _, rfl, by decide⟩⟩

/-- CoreRowsTakeEffect: states and operands that meet the hypotheses of its clauses. -/
theorem witness_CoreRowsTakeEffect :
    (∃ (s : State), ∃ cause : Nat, s.clocked = true ∧ (cause = 1 ∨ cause = 2) ∧ (s.coresStarted = false ∨ s.cores.hold.isSome =
      true))
    ∧ (∃ (s : State), ∃ cause : Nat, s.clocked = true ∧ (cause = 1 ∨ cause = 2) ∧ s.coresStarted = true ∧ s.cores.hold = none)
    ∧ (∃ (s : State), s.clocked = true ∧ (s.cores.hold = none ∨ s.cores.hold = some .limit ∨ s.input.onVhu = true))
    ∧ (∃ (s : State), ∃ h, s.cores.hold = some h ∧ s.clocked = true ∧ h ≠ .limit ∧ s.input.onVhu = false) :=
  ⟨⟨{ run with phase := .recall }, 1, by decide⟩,
    ⟨(hosted run), 1, by decide⟩,
    ⟨(hosted run), by decide⟩,
    ⟨(asks (hosted { run with cores := { Cores.reset with hold := some .reserve } }) (signed (asked 8 []))), _, rfl, by decide⟩⟩

/-- RisingRowsTakeEffect: states and operands that meet the hypotheses of its clauses. -/
theorem witness_RisingRowsTakeEffect :
    (∃ (s : State), s.clocked = true ∧ ¬ ((s.seq.state = .idle ∨ s.seq.state = .blocked ∨ (s.seq.state = .rising ∧ s.seq.stepOpen
      = false)) ∧ s.seq.way < s.target ∧ s.risingOk = true ∧ s.fab.tick = s.fab.edgeTick ∧ s.seq.rearm = []))
    ∧ (∃ (s : State), s.clocked = true ∧ (s.seq.state = .idle ∨ s.seq.state = .blocked ∨ (s.seq.state = .rising ∧ s.seq.stepOpen =
      false)) ∧ s.seq.way < s.target ∧ s.risingOk = true ∧ s.fab.tick = s.fab.edgeTick ∧ s.seq.rearm = [])
    ∧ (∃ (s : State), ∃ n : Fin 64, let r := s.rail n.val; ∃ t, r.slot = some t ∧ s.clocked = true ∧ r.state = .armed ∧ t ≤
      s.fab.tick ∧ (s.mayMove n.val = true ∨ t = s.fab.tick) ∧ (64 ≤ s.obj (K.PREREQ n.val) ∨ (s.rail (s.obj (K.PREREQ
      n.val))).state = .on))
    ∧ (∃ (s : State), ∃ n : Fin 64, let r := s.rail n.val; ∃ t, r.slot = some t ∧ s.clocked = true ∧ r.state = .armed ∧ t ≤
      s.fab.tick ∧ (s.mayMove n.val = true ∨ t = s.fab.tick) ∧ s.obj (K.PREREQ n.val) < 64 ∧ (s.rail (s.obj (K.PREREQ
      n.val))).state ≠ .on)
    ∧ (∃ (s : State), ∃ n : Fin 64, let r := s.rail n.val; ∃ w, r.window = some w ∧ ∃ m, m ∈ s.dependents n.val ∧ s.clocked = true
      ∧ r.state = .ramping ∧ w + usTicks (s.obj (K.QUAL_HOLD n.val)) ≤ s.fab.tick ∧ s.mayMove n.val = true ∧ m ≠ n.val ∧ (s.rail
      m).state = .waiting)
    ∧ (∃ (s : State), ∃ n : Fin 64, let r := s.rail n.val; ∃ w, r.window = some w ∧ s.clocked = true ∧ r.state = .ramping ∧ w +
      usTicks (s.obj (K.QUAL_HOLD n.val)) ≤ s.fab.tick ∧ s.mayMove n.val = true ∧ r.timer + usTicks (s.obj (K.RAMP_TIMEOUT n.val))
      ≤ s.fab.tick)
    ∧ (∃ (s : State), ∃ n : Fin 64, let r := s.rail n.val; s.clocked = true ∧ r.state = .waiting ∧ r.turnOnAt = none ∧ r.timer +
      usTicks (s.obj (K.PREREQ_WAIT n.val)) ≤ s.fab.tick ∧ s.mayMove n.val = true ∧ s.obj (K.ON_FAIL n.val) = 0)
    ∧ (∃ (s : State), ∃ n : Fin 64, let r := s.rail n.val; s.clocked = true ∧ r.state = .waiting ∧ r.turnOnAt = none ∧ r.timer +
      usTicks (s.obj (K.PREREQ_WAIT n.val)) ≤ s.fab.tick ∧ s.mayMove n.val = true ∧ s.obj (K.ON_FAIL n.val) = 1)
    ∧ (∃ (s : State), ∃ n : Fin 64, let r := s.rail n.val; s.clocked = true ∧ r.state = .waiting ∧ r.turnOnAt = none ∧ r.timer +
      usTicks (s.obj (K.PREREQ_WAIT n.val)) ≤ s.fab.tick ∧ s.mayMove n.val = true ∧ s.obj (K.ON_FAIL n.val) = 2)
    ∧ (∃ (s : State), ∃ n : Fin 64, let r := s.rail n.val; s.clocked = true ∧ r.state = .ramping ∧ r.timer + usTicks (s.obj
      (K.RAMP_TIMEOUT n.val)) ≤ s.fab.tick ∧ s.qualDone n.val = false ∧ s.mayMove n.val = true ∧ s.obj (K.ON_FAIL n.val) = 0)
    ∧ (∃ (s : State), ∃ n : Fin 64, let r := s.rail n.val; s.clocked = true ∧ r.state = .ramping ∧ r.timer + usTicks (s.obj
      (K.RAMP_TIMEOUT n.val)) ≤ s.fab.tick ∧ s.qualDone n.val = false ∧ s.mayMove n.val = true ∧ s.obj (K.ON_FAIL n.val) = 1)
    ∧ (∃ (s : State), ∃ n : Fin 64, let r := s.rail n.val; s.clocked = true ∧ r.state = .ramping ∧ r.timer + usTicks (s.obj
      (K.RAMP_TIMEOUT n.val)) ≤ s.fab.tick ∧ s.qualDone n.val = false ∧ s.mayMove n.val = true ∧ s.obj (K.ON_FAIL n.val) = 2) :=
  ⟨⟨(hosted run), by decide⟩,
    ⟨{ run with
      fab := { run.fab with edgeTick := 1000000 }, convoy := { Convoy.reset with way := 2 }, input :=
      { CardInput.reset with good := true } }, by decide⟩,
    ⟨(run.setRail 63 { run.rail 63 with state := .armed, slot := some 1000000 }), 63, _, rfl, by decide⟩,
    ⟨(run.setRail 63 { run.rail 63 with state := .armed, slot := some 1000000 }).setLive (K.PREREQ 63) 62, 63, _, rfl, by decide⟩,
    ⟨(((run.setRail 63 { run.rail 63 with state := .ramping, window := some 0 }).setRail 5
      { run.rail 5 with state := .waiting }).setLive (K.PREREQ 5) 63).setLive (K.RAIL_PRESENT 5) 1, 63, _, rfl, _, List.Mem.head
      _, by decide⟩,
    ⟨(run.setRail 63 { run.rail 63 with state := .ramping, window := some 0 }).setLive (K.RAMP_TIMEOUT 63) 5000, 63, _, rfl, by
      decide⟩,
    ⟨((run.setRail 63 { run.rail 63 with state := .waiting }).setLive (K.PREREQ_WAIT 63) 5000).setLive (K.ON_FAIL 63) 0, 63, by
      decide⟩,
    ⟨((run.setRail 63 { run.rail 63 with state := .waiting }).setLive (K.PREREQ_WAIT 63) 5000).setLive (K.ON_FAIL 63) 1, 63, by
      decide⟩,
    ⟨((run.setRail 63 { run.rail 63 with state := .waiting }).setLive (K.PREREQ_WAIT 63) 5000).setLive (K.ON_FAIL 63) 2, 63, by
      decide⟩,
    ⟨((run.setRail 63 { run.rail 63 with state := .ramping }).setLive (K.RAMP_TIMEOUT 63) 5000).setLive (K.ON_FAIL 63) 0, 63, by
      decide⟩,
    ⟨((run.setRail 63 { run.rail 63 with state := .ramping }).setLive (K.RAMP_TIMEOUT 63) 5000).setLive (K.ON_FAIL 63) 1, 63, by
      decide⟩,
    ⟨((run.setRail 63 { run.rail 63 with state := .ramping }).setLive (K.RAMP_TIMEOUT 63) 5000).setLive (K.ON_FAIL 63) 2, 63, by
      decide⟩⟩

/-- FallingRowsTakeEffect: states and operands that meet the hypotheses of its clauses. -/
theorem witness_FallingRowsTakeEffect :
    (∃ (s : State), s.clocked = true ∧ (s.seq.state = .idle ∨ s.seq.state = .blocked ∨ s.seq.state = .rising) ∧ s.target <
      s.seq.way ∧ s.coresUp = true)
    ∧ (∃ (s : State), ∃ n : Fin 64, let r := s.rail n.val; ∃ t, r.slot = some t ∧ s.clocked = true ∧ r.state = .stopping ∧ t ≤
      s.fab.tick ∧ r.depDone < s.fab.tick ∧ s.mayMove n.val = true ∧ (s.dependents n.val).all (fun m => (s.rail m).state.done) =
      true ∧ s.tripDue n.val = false)
    ∧ (∃ (s : State), ∃ n : Fin 64, let r := s.rail n.val; ∃ t, r.slot = some t ∧ s.clocked = true ∧ r.state = .stopping ∧ t ≤
      s.fab.tick ∧ r.depDone < s.fab.tick ∧ s.mayMove n.val = true ∧ (s.dependents n.val).all (fun m => (s.rail m).state.done) =
      true ∧ s.tripDue n.val = true)
    ∧ (∃ (s : State), ∃ n : Fin 64, let r := s.rail n.val; s.clocked = true ∧ r.state = .discharging ∧ r.timer + usTicks (s.obj
      (K.DISCH_TIMEOUT n.val)) ≤ s.fab.tick ∧ s.mayMove n.val = true)
    ∧ (∃ (s : State), ∃ n : Fin 64, let r := s.rail n.val; s.clocked = true ∧ r.state = .forced ∧ r.timer + usTicks (s.obj
      (K.DISCH_TIMEOUT n.val)) ≤ s.fab.tick ∧ s.mayMove n.val = true) :=
  ⟨⟨{ run with seq := { run.seq with way := 1 } }, by decide⟩,
    ⟨(run.setRail 63 { run.rail 63 with state := .stopping, slot := some 1000000 }), 63, _, rfl, by decide⟩,
    ⟨((run.setRail 63 { run.rail 63 with state := .stopping, slot := some 1000000 }).setFilter 63 4
      { phase := .counting, onset := Stamp.zero, onsetClk := 0, clearClk := 0, raw := true }).setLive (K.ACTION_OVF 63 + 4) 3, 63,
      _, rfl, by decide⟩,
    ⟨(run.setRail 63 { run.rail 63 with state := .discharging }).setLive (K.DISCH_TIMEOUT 63) 5000, 63, by decide⟩,
    ⟨(run.setRail 63 { run.rail 63 with state := .forced }).setLive (K.DISCH_TIMEOUT 63) 5000, 63, by decide⟩⟩

/-- ShutdownAndPmbusRowsTakeEffect: states and operands that meet the hypotheses of its clauses. -/
theorem witness_ShutdownAndPmbusRowsTakeEffect :
    (∃ (s : State), ∃ c : BitVec 8, s.clocked = true ∧ ¬ (s.serving = true ∧ c.toNat ∉ s.seq.causes ∧ ((c = 1 ∧ s.input.lossDone =
      true ∧ s.input.good = false) ∨ (c = 2 ∧ s.objB K.PFAIL_SHUTDOWN = true ∧ s.input.pfailLow = true) ∨ (c = 5 ∧ s.objB
      K.LOCAL_HOLD = true))))
    ∧ (∃ (s : State), ∃ c : BitVec 8,
      let waits := s.seq.deferred.any (fun (d : Deferred) => match d with | .shutdown _ _ => true | .dependent _ _ => false);
      s.clocked = true ∧ s.serving = true ∧ c.toNat ∉ s.seq.causes ∧ ((c = 1 ∧ s.input.lossDone = true ∧ s.input.good = false) ∨
      (c = 2 ∧ s.objB K.PFAIL_SHUTDOWN = true ∧ s.input.pfailLow = true) ∨ (c = 5 ∧ s.objB K.LOCAL_HOLD = true)) ∧ (s.seq.state =
      .collapsed ∨ s.seq.state = .shutdown ∨ waits = true))
    ∧ (∃ (s : State), ∃ c : BitVec 8,
      let waits := s.seq.deferred.any (fun (d : Deferred) => match d with | .shutdown _ _ => true | .dependent _ _ => false);
      s.clocked = true ∧ s.serving = true ∧ c.toNat ∉ s.seq.causes ∧ ((c = 1 ∧ s.input.lossDone = true ∧ s.input.good = false) ∨
      (c = 2 ∧ s.objB K.PFAIL_SHUTDOWN = true ∧ s.input.pfailLow = true) ∨ (c = 5 ∧ s.objB K.LOCAL_HOLD = true)) ∧ ¬ (s.seq.state
      = .collapsed ∨ s.seq.state = .shutdown ∨ waits = true) ∧ s.coresUp = false)
    ∧ (∃ (s : State), ∃ c : BitVec 8,
      let waits := s.seq.deferred.any (fun (d : Deferred) => match d with | .shutdown _ _ => true | .dependent _ _ => false);
      s.clocked = true ∧ s.serving = true ∧ c.toNat ∉ s.seq.causes ∧ ((c = 1 ∧ s.input.lossDone = true ∧ s.input.good = false) ∨
      (c = 2 ∧ s.objB K.PFAIL_SHUTDOWN = true ∧ s.input.pfailLow = true) ∨ (c = 5 ∧ s.objB K.LOCAL_HOLD = true)) ∧ ¬ (s.seq.state
      = .collapsed ∨ s.seq.state = .shutdown ∨ waits = true) ∧ s.coresUp = true)
    ∧ (∃ (s : State), ∃ t, s.seq.holdFrom = some t ∧ s.clocked = true ∧ s.seq.state = .holdoff ∧ s.seq.causes = [] ∧ t + usTicks
      (s.obj K.REENTRY_HOLDOFF) ≤ s.fab.tick)
    ∧ (∃ (s : State), s.clocked = true ∧ s.vioGone = true)
    ∧ (∃ (s : State), ∃ bus : Fin 4, ∃ id, flook s.pmb.running bus.val = some id ∧ ∃ j, s.pmb.job id = some j ∧ ∃ ok : Bool,
      s.clocked = true ∧ s.vioGone = false ∧ j.fate = .normal ∧ ok = true ∧ j.paging = true)
    ∧ (∃ (s : State), ∃ bus : Fin 4, ∃ id, flook s.pmb.running bus.val = some id ∧ ∃ j, s.pmb.job id = some j ∧ ∃ ok : Bool,
      s.clocked = true ∧ s.vioGone = false ∧ j.fate = .normal ∧ ok = true ∧ j.paging = false)
    ∧ (∃ (s : State), ∃ bus : Fin 4, ∃ id, flook s.pmb.running bus.val = some id ∧ ∃ j, s.pmb.job id = some j ∧ ∃ ok : Bool,
      s.clocked = true ∧ s.vioGone = false ∧ j.fate = .normal ∧ ok = false ∧ j.tries < s.obj K.PMB_RETRIES)
    ∧ (∃ (s : State), ∃ bus : Fin 4, ∃ id, flook s.pmb.running bus.val = some id ∧ ∃ j, s.pmb.job id = some j ∧ ∃ ok : Bool,
      s.clocked = true ∧ s.vioGone = false ∧ j.fate = .normal ∧ ok = false ∧ s.obj K.PMB_RETRIES ≤ j.tries)
    ∧ (∃ (s : State), ∃ bus : Fin 4, ∃ id, flook s.pmb.running bus.val = some id ∧ ∃ j, s.pmb.job id = some j ∧ ∃ ok : Bool,
      s.clocked = true ∧ s.vioGone = false ∧ j.fate = .last ∧ ok = true ∧ j.paging = false)
    ∧ (∃ (s : State), ∃ bus : Fin 4, ∃ id, flook s.pmb.running bus.val = some id ∧ ∃ j, s.pmb.job id = some j ∧ ∃ ok : Bool,
      s.clocked = true ∧ s.vioGone = false ∧ j.fate = .last ∧ (ok = false ∨ j.paging = true))
    ∧ (∃ (s : State), ∃ bus : Fin 4, ∃ id, flook s.pmb.running bus.val = some id ∧ ∃ j, s.pmb.job id = some j ∧ s.clocked = true ∧
      s.vioGone = false ∧ j.fate = .mute)
    ∧ (∃ (s : State), ∃ bus : Fin 4, ∃ id, flook s.pmb.running bus.val = some id ∧ ∃ j, s.pmb.job id = some j ∧ s.clocked = true ∧
      s.vioGone = false ∧ s.pmbPort j.rail = bus.val ∧ s.obj (K.PMB_PAGE j.rail) ≠ 0xFF) :=
  ⟨⟨(hosted run), 255, by decide⟩,
    ⟨{ run with seq := { run.seq with state := .shutdown } }.setLive K.LOCAL_HOLD 1, 5, by decide⟩,
    ⟨{ run with cores := { Cores.reset with hold := some .reserve } }.setLive K.LOCAL_HOLD 1, 5, by decide⟩,
    ⟨{ run with input := { CardInput.reset with pfailLow := true } }, 2, by decide⟩,
    ⟨{ run with seq := { run.seq with state := .holdoff, holdFrom := some 0 } }.setLive K.REENTRY_HOLDOFF 5000, _, rfl, by
      decide⟩,
    ⟨{
      convoyed { Convoy.reset with state := .member } with supplies := false, input := { CardInput.reset with onVhu := true } },
      by decide⟩,
    ⟨{ run with
      pmb := { Pmb.reset with jobs := [{ job with paging := true }], running := [(3, 9)] } }, 3, _, rfl, _, rfl, true, by decide⟩,
    ⟨{ run with pmb := { Pmb.reset with jobs := [job], running := [(3, 9)] } }, 3, _, rfl, _, rfl, true, by decide⟩,
    ⟨{ run with
      pmb := { Pmb.reset with jobs := [{ job with paging := true }], running := [(3, 9)] } }, 3, _, rfl, _, rfl, false, by
      decide⟩,
    ⟨{ run with pmb := { Pmb.reset with jobs := [job], running := [(3, 9)] } }.setLive K.PMB_RETRIES 0, 3, _, rfl, _, rfl, false,
      by decide⟩,
    ⟨{ run with pmb := { Pmb.reset with jobs := [{ job with fate := .last }], running := [(3, 9)] } }, 3, _, rfl, _, rfl, true, by
      decide⟩,
    ⟨{ run with pmb := { Pmb.reset with jobs := [{ job with fate := .last }], running := [(3, 9)] } }, 3, _, rfl, _, rfl, false,
      by decide⟩,
    ⟨{ run with pmb := { Pmb.reset with jobs := [{ job with fate := .mute }], running := [(3, 9)] } }, 3, _, rfl, _, rfl, by
      decide⟩,
    ⟨{ run with pmb := { Pmb.reset with jobs := [job], running := [(0, 9)] } }.setLive (K.PMB_PAGE 63) 5, 0, _, rfl, _, rfl, by
      decide⟩⟩

/-- ComparatorRowsTakeEffect: states and operands that meet the hypotheses of its clauses. -/
theorem witness_ComparatorRowsTakeEffect :
    (∃ (s : State), ∃ n : Fin 64, let r := s.rail n.val; ∃ c : Fin 5, let f := r.filter c.val; (s.clocked = true ∨ s.frozen.isSome
      = true) ∧ (r.state = .absent ∨ f.phase = .counting ∨ f.phase = .qualified))
    ∧ (∃ (s : State), ∃ n : Fin 64, let r := s.rail n.val; ∃ c : Fin 5, let f := r.filter c.val; (s.clocked = true ∨
      s.frozen.isSome = true) ∧ r.state ≠ .absent ∧ f.phase = .inside ∧ 0 < s.obj (filterKey n.val c.val))
    ∧ (∃ (s : State), ∃ n : Fin 64, let r := s.rail n.val; ∃ c : Fin 5, let f := r.filter c.val; (s.clocked = true ∨
      s.frozen.isSome = true) ∧ r.state ≠ .absent ∧ f.phase = .inside ∧ s.obj (filterKey n.val c.val) = 0)
    ∧ (∃ (s : State), ∃ n : Fin 64, let r := s.rail n.val; ∃ c : Fin 5, let f := r.filter c.val; (s.clocked = true ∨
      s.frozen.isSome = true) ∧ r.state ≠ .absent ∧ f.phase = .clearing)
    ∧ (∃ (s : State), ∃ n : Fin 64, ∃ k : Nat, let due := (List.range 5).filter (fun k => s.filterDue n.val k); (s.clocked = true
      ∨ s.frozen.isSome = true) ∧ due ≠ [] ∧ k ∈ due)
    ∧ (∃ (s : State), ∃ n : Fin 64, ∃ k : Nat, let due := (List.range 5).filter (fun k => s.filterDue n.val k); (s.clocked = true
      ∨ s.frozen.isSome = true) ∧ due ≠ [] ∧ k ∉ due)
    ∧ (∃ (s : State), ∃ n : Fin 64, let r := s.rail n.val; (s.clocked = true ∨ s.frozen.isSome = true) ∧ (r.state ≠ .ramping ∨
      s.frozen.isSome = true))
    ∧ (∃ (s : State), ∃ n : Fin 64, let r := s.rail n.val; (s.clocked = true ∨ s.frozen.isSome = true) ∧ r.state = .ramping ∧
      s.frozen = none ∧ s.qualDone n.val = true ∧ s.mayMove n.val = true)
    ∧ (∃ (s : State), ∃ n : Fin 64, let r := s.rail n.val; ∃ c : Fin 5, let f := r.filter c.val; (s.clocked = true ∨
      s.frozen.isSome = true) ∧ f.phase = .counting ∧ f.onsetClk + 2 * s.obj (filterKey n.val c.val) ≤ s.filterClk ∧ r.state ≠
      .absent)
    ∧ (∃ (s : State), ∃ n : Fin 64, let r := s.rail n.val; ∃ c : Fin 5, let f := r.filter c.val; (s.clocked = true ∨
      s.frozen.isSome = true) ∧ f.phase = .counting ∧ f.onsetClk + 2 * s.obj (filterKey n.val c.val) ≤ s.filterClk ∧ r.state = .on
      ∧ c.val = 0 ∧ nbit (s.obj (K.ACTION_OVF n.val)) 0 = true)
    ∧ (∃ (s : State), ∃ n : Fin 64, let r := s.rail n.val; ∃ c : Fin 5, let f := r.filter c.val; (s.clocked = true ∨
      s.frozen.isSome = true) ∧ r.state ≠ .absent ∧ f.phase = .counting ∧ s.filterDue n.val c.val = false)
    ∧ (∃ (s : State), ∃ n : Fin 64, let r := s.rail n.val; ∃ c : Fin 5, let f := r.filter c.val; (s.clocked = true ∨
      s.frozen.isSome = true) ∧ r.state ≠ .absent ∧ f.phase = .qualified)
    ∧ (∃ (s : State), ∃ n : Fin 64, let r := s.rail n.val; ∃ c : Fin 5, let f := r.filter c.val; (s.clocked = true ∨
      s.frozen.isSome = true) ∧ f.phase = .clearing ∧ f.clearClk + 2 * s.obj (filterKey n.val c.val) ≤ s.filterClk)
    ∧ (∃ (s : State), ∃ w rest, s.railWins = w :: rest ∧ ∃ k, leastBy RailCand.before w.cands = some k ∧ ∃ x, x ∈ w.cands ∧
      (s.clocked = true ∨ s.frozen.isSome = true) ∧ s.clocked = true ∧ w.q0 + w.window ≤ s.fab.tick) :=
  ⟨⟨(hosted run), 63, 4, by decide⟩,
    ⟨(hosted (onRail.setMargin 63 { onRail.margin 63 with state := .held, position := 1 })), 63, 4, by decide⟩,
    ⟨(filtered .inside 0 0), 63, 4, by decide⟩,
    ⟨(filtered .clearing 4000000 65535), 63, 4, by decide⟩,
    ⟨((run.setRail 63 { run.rail 63 with state := .on }).setFilter 63 0
      { phase := .counting, onset := Stamp.zero, onsetClk := 0, clearClk := 0, raw := true }).setLive (K.ACTION_OVF 63) 3, 63, 0,
      by decide⟩,
    ⟨(filtered .counting 4868930 65535), 63, 0, by decide⟩,
    ⟨(hosted run), 63, by decide⟩,
    ⟨(run.setRail 63 { run.rail 63 with state := .ramping, window := some 0 }), 63, by decide⟩,
    ⟨(filtered .counting 4868930 65535), 63, 4, by decide⟩,
    ⟨((run.setRail 63 { run.rail 63 with state := .on }).setFilter 63 0
      { phase := .counting, onset := Stamp.zero, onsetClk := 0, clearClk := 0, raw := true }).setLive (K.ACTION_OVF 63) 3, 63, 0,
      by decide⟩,
    ⟨(filtered .counting 4868931 65535), 63, 4, by decide⟩,
    ⟨(filtered .qualified 4000000 65535), 63, 4, by decide⟩,
    ⟨(filtered .clearing 4000000 65535), 63, 4, by decide⟩,
    ⟨{ run with railWins := [⟨0, 1000000, [cand]⟩] }, _, _, rfl, _, rfl, _, List.Mem.head _, by decide⟩⟩

/-- EnergyMeteringTakesEffect: states and operands that meet the hypotheses of its clauses. -/
theorem witness_EnergyMeteringTakesEffect :
    (∃ (s : State), ∃ n : Fin 64, let x := s.liveOf n.val; s.clocked = true ∧ s.fab.tick < x.next + 18)
    ∧ (∃ (s : State), ∃ n : Fin 64, let x := s.liveOf n.val; s.clocked = true ∧ x.next + 18 ≤ s.fab.tick) :=
  ⟨⟨(run.setLiveOf 63 { Live.blank with next := 1000000 }), 63, by decide⟩,
    ⟨(hosted run), 63, by decide⟩⟩

/-- ConverterResultsTakeEffect: states and operands that meet the hypotheses of its clauses. -/
theorem witness_ConverterResultsTakeEffect :
    (∃ (s : State), s.clocked = true ∧ s.resultDue = false)
    ∧ (∃ (s : State), ∃ x rest, s.conv.inflight = x :: rest ∧ ∃ c : Nat, ∃ urgent : Bool, s.clocked = true ∧ x.tick + 18 ≤
      s.fab.tick ∧ x.use = (if urgent = true then .urgent c else .scan c) ∧ c < 192)
    ∧ (∃ (s : State), ∃ x rest, s.conv.inflight = x :: rest ∧ s.clocked = true ∧ x.tick + 18 ≤ s.fab.tick ∧ x.use = .zero)
    ∧ (∃ (s : State), ∃ x rest, s.conv.inflight = x :: rest ∧ ∃ k : Nat, ∃ c : Nat, s.clocked = true ∧ x.tick + 18 ≤ s.fab.tick ∧
      x.use = .gang k c)
    ∧ (∃ g : GangSample, ∃ a : Nat, g.ch < 192 ∧ (a < captureAddr g.k ∨ captureAddr g.k + 2 ≤ a) ∧ (g.page.all (fun p => decide (a
      < ringCellAddr p ∨ ringCellAddr p + 2 ≤ a))) = true)
    ∧ (∃ place : Option (Nat × Nat), ∃ a : Nat, (place.all (fun p => decide (a < ringCellAddr p ∨ ringCellAddr p + 2 ≤ a))) =
      true)
    ∧ (∃ (s : State), s.clocked = true ∧ s.fab.tick < s.conv.quickAt + 200)
    ∧ (∃ (s : State), ((s.clocked = true ∧ s.conv.quickAt + 200 ≤ s.fab.tick) ∨ s.frozen.isSome = true))
    ∧ (∃ (s : State), ∃ n, n ∈ railNos ∧ s.seq.collapseArmed = true ∧ s.seq.state ≠ .collapsed ∧ Int.ofNat (s.quick 2) < s.objI
      K.COLLAPSE_V ∧ (s.rail n).state ≠ .absent ∧ (s.rail n).state ≠ .locked) :=
  ⟨⟨(hosted run), by decide⟩,
    ⟨{ run with conv := { Conv.reset with inflight := [slot (.urgent 0)] } }, _, _, rfl, 0, true, by decide⟩,
    ⟨{ run with conv := { Conv.reset with inflight := [slot (.zero)] } }, _, _, rfl, by decide⟩,
    ⟨{ run with conv := { Conv.reset with inflight := [slot (.gang 3 5)] } }, _, _, rfl, 3, 5, by decide⟩,
    ⟨⟨0, 191, 3, 5, false, none⟩, 0, by decide⟩,
    ⟨none, 0, by decide⟩,
    ⟨{ run with conv := { Conv.reset with quickAt := 1000000 } }, by decide⟩,
    ⟨(hosted run), by decide⟩,
    ⟨({ run with seq := { run.seq with collapseArmed := true } }.setRail 63 { run.rail 63 with state := .on }).setLive
      K.COLLAPSE_V 5000000, 63, by decide, by decide⟩⟩

/-- CalibrationRowsTakeEffect: states and operands that meet the hypotheses of its clauses. -/
theorem witness_CalibrationRowsTakeEffect :
    (∃ (s : State), ∃ i, s.spare = some i ∧ (let k := nextSlice i; s.clocked = true ∧ s.conv.scanning = true ∧ s.anyFailed = false
      ∧ s.swapTick i = true ∧ s.conv.swapDue ≤ s.fab.tick ∧ (s.conv.catchUp ≠ 0 ∨ s.reserved (s.slice k).pos = false)))
    ∧ (∃ (s : State), ∃ i, s.spare = some i ∧ (let k := nextSlice i; s.clocked = true ∧ s.conv.scanning = true ∧ s.anyFailed =
      false ∧ s.swapTick i = true ∧ s.conv.swapDue ≤ s.fab.tick ∧ s.conv.catchUp = 0 ∧ s.reserved (s.slice k).pos = true ∧
      s.hardAge ≤ s.calAge k))
    ∧ (∃ (s : State), s.clocked = true ∧ (s.fab.tick < s.conv.swapDue ∨ s.spare = none))
    ∧ (∃ (s : State), ∃ n : Fin 17, ∃ lane, s.lanes.laneOf .cal n.val = some lane ∧ ∃ op, flook s.lanes.shared lane = some op ∧
      s.clocked = true ∧ (s.slice n.val).role = .calibrating ∧ ¬ (s.phase = .recall ∧ s.conv.scanning = false) ∧ op.granted +
      400000 ≤ s.fab.tick)
    ∧ (∃ (s : State), ∃ n : Fin 17, s.clocked = true ∧ (s.slice n.val).role = .calibrating ∧ s.phase = .recall ∧ s.conv.scanning =
      false ∧ s.conv.calStart + 400000 ≤ s.fab.tick)
    ∧ (∃ (s : State), ∃ n : Fin 17, s.clocked = true ∧ s.anyFailed = true ∧ (s.slice n.val).stale = false ∧ s.hardAge ≤ s.calAge
      n.val) :=
  ⟨⟨scanning, _, rfl, by decide⟩,
    ⟨reserving, _, rfl, by decide⟩,
    ⟨(hosted run), by decide⟩,
    ⟨calibrating, 16, _, rfl, _, rfl, by decide⟩,
    ⟨{ run with phase := .recall }, 0, by decide⟩,
    ⟨{
      run.setSlice 3 { run.slice 3 with role := .failed } with fab := { run.fab with tick := 10000000000 } }, 0, by decide⟩⟩

/-- CaptureAndRingRowsTakeEffect: states and operands that meet the hypotheses of its clauses. -/
theorem witness_CaptureAndRingRowsTakeEffect :
    (∃ (s : State), s.clocked = true ∧ ¬ (s.cap.state = .armed ∧ s.ticked = false ∧ s.captureDue = true ∧ (s.lanes.laneOf .capture
      0).isSome = true ∧ s.fab.tick % (16 / s.cap.g) = 0))
    ∧ (∃ (s : State), s.clocked = true ∧ s.cap.state = .armed ∧ s.ticked = false ∧ s.captureDue = true ∧ (s.lanes.laneOf .capture
      0).isSome = true ∧ s.fab.tick % (16 / s.cap.g) = 0)
    ∧ (∃ (s : State), s.clocked = true ∧ s.cap.state = .running ∧ s.cap.samples ≤ s.obj K.CAP_TAKEN)
    ∧ (∃ (s : State), s.clocked = true ∧ s.ring.started = true ∧ s.ring.state = .triggered ∧ s.ring.freezeTick ≤ s.fab.tick)
    ∧ (∃ (s : State), s.clocked = true ∧ s.ring.state = .frozen ∧ s.ring.recalled = true)
    ∧ (∃ (s : State), s.clocked = true ∧ s.ring.state = .frozen ∧ s.ring.recalled = false ∧ s.obj K.REARM_MODE = 1 ∧
      s.ring.etchDone = true ∧ s.coll.inFault = false) :=
  ⟨⟨(hosted run), by decide⟩,
    ⟨{
      { run with
      cap := { Capture.reset with state := .armed, whenMode := 1, startTick := some 999999 } } with lanes :=
      { Lanes.reset with shared := [(64, { busy 0 with kind := .capture })] } }, by decide⟩,
    ⟨{ run with cap := { Capture.reset with state := .running } }, by decide⟩,
    ⟨{ run with ring := { run.ring with state := .triggered, freezeTick := 1000000 } }, by decide⟩,
    ⟨{ run with ring := { run.ring with state := .frozen, recalled := true } }, by decide⟩,
    ⟨{ run with ring := { run.ring with state := .frozen, etchDone := true } }.setLive K.REARM_MODE 1, by decide⟩⟩

/-- MarginRowsTakeEffect: states and operands that meet the hypotheses of its clauses. -/
theorem witness_MarginRowsTakeEffect :
    (∃ (s : State), ∃ n : Fin 64, let m := s.margin n.val; s.clocked = true ∧ ¬ (m.state = .pending ∧ s.reached m.beat m.offset =
      true ∧ s.railLaneOpen n.val 2 = true))
    ∧ (∃ (s : State), ∃ n : Fin 64, let m := s.margin n.val; s.clocked = true ∧ m.state = .pending ∧ s.reached m.beat m.offset =
      true ∧ s.railLaneOpen n.val 2 = true ∧ s.obj (K.MARGIN_METHOD n.val) = 1)
    ∧ (∃ (s : State), ∃ n : Fin 64, let m := s.margin n.val; s.clocked = true ∧ m.state = .pending ∧ s.reached m.beat m.offset =
      true ∧ s.railLaneOpen n.val 2 = true ∧ s.obj (K.MARGIN_METHOD n.val) ≠ 1)
    ∧ (∃ (s : State), ∃ n : Fin 64, let m := s.margin n.val; ∃ op, flook s.lanes.rail n.val = some op ∧
      (let c := dacStep m.code m.codeTo (s.obj (K.MRG_SLEW n.val)); s.clocked = true ∧ (m.state = .moving ∨ m.state = .returning)
      ∧ op.kind = .margin ∧ m.due ≤ s.fab.tick ∧ c ≠ m.codeTo))
    ∧ (∃ (s : State), ∃ n : Fin 64, let m := s.margin n.val; ∃ op, flook s.lanes.rail n.val = some op ∧
      (let c := dacStep m.code m.codeTo (s.obj (K.MRG_SLEW n.val)); s.clocked = true ∧ (m.state = .moving ∨ m.state = .returning)
      ∧ op.kind = .margin ∧ m.due ≤ s.fab.tick ∧ c = m.codeTo))
    ∧ (∃ (s : State), ∃ n : Fin 64, let m := s.margin n.val; let err := s.objI (K.V_AVG n.val) - m.goal;
      let out := decide (s.objI (K.MRG_TRIM_TOL n.val) < Int.ofNat err.natAbs); s.clocked = true ∧ m.state = .settling ∧ m.due ≤
      s.fab.tick ∧ s.obj (K.MARGIN_METHOD n.val) = 1 ∧ out = true ∧ 0 < m.trims)
    ∧ (∃ (s : State), ∃ n : Fin 64, let m := s.margin n.val; let err := s.objI (K.V_AVG n.val) - m.goal;
      let out := decide (s.objI (K.MRG_TRIM_TOL n.val) < Int.ofNat err.natAbs); s.clocked = true ∧ m.state = .settling ∧ m.due ≤
      s.fab.tick ∧ (s.obj (K.MARGIN_METHOD n.val) ≠ 1 ∨ out = false ∨ m.trims = 0))
    ∧ (∃ (s : State), ∃ n : Fin 64, let m := s.margin n.val; s.clocked = true ∧ m.state = .held ∧ s.obj (K.MRG_HOLD_MAX n.val) ≠ 0
      ∧ m.due ≤ s.fab.tick ∧ (s.stip n.val).state.busy = false)
    ∧ (∃ (s : State), ∃ n : Fin 64, let m := s.margin n.val; s.clocked = true ∧ m.state = .held ∧ s.obj (K.MRG_HOLD_MAX n.val) ≠ 0
      ∧ m.due ≤ s.fab.tick ∧ (s.stip n.val).state.busy = true) :=
  ⟨⟨(hosted run), 63, by decide⟩,
    ⟨(onRail.setMargin 63 { onRail.margin 63 with state := .pending, beat := 5 }), 63, by decide⟩,
    ⟨(onRail.setMargin 63 { onRail.margin 63 with state := .pending, beat := 5 }).setLive (K.MARGIN_METHOD 63) 2, 63, by decide⟩,
    ⟨{
      (onRail.setMargin 63 { onRail.margin 63 with state := .moving, codeTo := 30000, due := 1000000 }) with lanes :=
      { Lanes.reset with rail := [(63, { busy 63 with kind := .margin })] } }, 63, _, rfl, by decide⟩,
    ⟨{
      (onRail.setMargin 63 { onRail.margin 63 with state := .returning }) with lanes :=
      { Lanes.reset with rail := [(63, { busy 63 with kind := .margin })] } }, 63, _, rfl, by decide⟩,
    ⟨(onRail.setMargin 63 { onRail.margin 63 with state := .settling, goal := 103000, trims := 1 }), 63, by decide⟩,
    ⟨(onRail.setMargin 63 { onRail.margin 63 with state := .settling }), 63, by decide⟩,
    ⟨(onRail.setMargin 63 { onRail.margin 63 with state := .held }).setLive (K.MRG_HOLD_MAX 63) 5, 63, by decide⟩,
    ⟨((onRail.setMargin 63 { onRail.margin 63 with state := .held }).setStip 63 { onRail.stip 63 with state := .waiting }).setLive
      (K.MRG_HOLD_MAX 63) 5, 63, by decide⟩⟩

/-- StippleRowsTakeEffect: states and operands that meet the hypotheses of its clauses. -/
theorem witness_StippleRowsTakeEffect :
    (∃ (s : State), ∃ n : Fin 64, let r := s.stip n.val; s.clocked = true ∧ (r.state ≠ .scheduled ∨ s.reached r.beat r.offset =
      false))
    ∧ (∃ (s : State), ∃ n : Fin 64, let r := s.stip n.val; s.clocked = true ∧ r.state = .scheduled ∧ s.reached r.beat r.offset =
      true ∧ ((s.margin n.val).state = .nominal ∨ (s.margin n.val).state = .held))
    ∧ (∃ (s : State), ∃ n : Fin 64, let r := s.stip n.val; s.clocked = true ∧ r.state = .scheduled ∧ s.reached r.beat r.offset =
      true ∧ (s.margin n.val).state ≠ .nominal ∧ (s.margin n.val).state ≠ .held)
    ∧ (∃ (s : State), ∃ n : Fin 64, let r := s.stip n.val; s.clocked = true ∧ r.state = .waiting ∧ (s.fab.count - r.beat).toNat <
      2 ^ 31 ∧ s.obj (K.STIP_WAIT_MAX n.val) ≤ (s.fab.count - r.beat).toNat)
    ∧ (∃ (s : State), ∃ n : Fin 64, let r := s.stip n.val; s.clocked = true ∧ r.state = .preload ∧ s.cap.owner = .stipple n.val ∧
      s.cap.state ≠ .armed ∧ r.t0 + s.obj (K.STIP_PRELOAD n.val) ≤ s.fab.tick)
    ∧ (∃ (s : State), ∃ n : Fin 64, let r := s.stip n.val; s.clocked = true ∧ r.state = .acquire ∧ r.edges < s.stipEdges n.val ∧
      r.t0 + s.obj (K.STIP_PRELOAD n.val) + r.edges * s.stipPeriod n.val ≤ s.fab.tick)
    ∧ (∃ (s : State), ∃ n : Fin 64, let r := s.stip n.val; s.clocked = true ∧ r.state = .acquire ∧ r.t0 + s.stipLength n.val ≤
      s.fab.tick ∧ (s.sink n.val).cur ≠ 0 ∧ (s.sink n.val).use = .stipple)
    ∧ (∃ (s : State), ∃ n : Fin 64, let r := s.stip n.val; let seq := (s.obj H.runSeq + 1) % 2 ^ 32; ∃ a : Nat, s.clocked = true ∧
      r.state = .analyse ∧ s.coresUp = true ∧ (a < trendAddr seq ∨ trendAddr seq + 128 ≤ a)) :=
  ⟨⟨(hosted run), 63, by decide⟩,
    ⟨(onRail.setStip 63 { onRail.stip 63 with state := .scheduled, beat := 5 }), 63, by decide⟩,
    ⟨(onRail.setStip 63 { onRail.stip 63 with state := .scheduled, beat := 5 }).setMargin 63
      { onRail.margin 63 with state := .moving }, 63, by decide⟩,
    ⟨(onRail.setStip 63 { onRail.stip 63 with state := .waiting, beat := 0 }).setLive (K.STIP_WAIT_MAX 63) 5, 63, by decide⟩,
    ⟨{
      (onRail.setStip 63 { onRail.stip 63 with state := .preload }) with cap := { Capture.reset with owner := .stipple 63 } }, 63,
      by decide⟩,
    ⟨(onRail.setStip 63 { onRail.stip 63 with state := .acquire, edges := 1 }), 63, by decide⟩,
    ⟨{
      (onRail.setStip 63 { onRail.stip 63 with state := .acquire }).setSink 63 { run.sink 63 with use := .stipple, cur := 3 } with
      fab := { run.fab with tick := 1000000000 } }, 63, by decide⟩,
    ⟨(onRail.setStip 63 { onRail.stip 63 with state := .analyse }).setLive (K.STIP_HALF 63) 0, 63, 0, by decide⟩⟩

/-- TollRowsTakeEffect: states and operands that meet the hypotheses of its clauses. -/
theorem witness_TollRowsTakeEffect :
    (∃ (s : State), ∃ n : Fin 64, let k := s.sink n.val; s.clocked = true ∧ k.level ≠ some 0)
    ∧ (∃ (s : State), s.clocked = true ∧ s.energyQueue = [])
    ∧ (∃ (s : State), ∃ n : Fin 64, let k := s.sink n.val; s.clocked = true ∧ s.energyQueue = [n.val] ∧ ¬ (k.ePosted.isSome = true
      ∧ k.use = .idle ∧ s.energyGranted + s.gov.coolingSum + k.eWant ≤ s.gov.energyCap ∧ k.eWant ≤ s.gov.free))
    ∧ (∃ (s : State), ∃ n : Fin 64, let k := s.sink n.val; s.clocked = true ∧ s.energyQueue = [n.val] ∧ k.ePosted.isSome = true ∧
      k.use = .idle ∧ s.energyGranted + s.gov.coolingSum + k.eWant ≤ s.gov.energyCap ∧ k.eWant ≤ s.gov.free)
    ∧ (∃ (s : State), ∃ n : Fin 64, let k := s.sink n.val; s.clocked = true ∧ k.use = .removing ∧ k.cur = 0 ∧ k.lapsed = true)
    ∧ (∃ (s : State), ∃ n : Fin 64, let k := s.sink n.val; s.clocked = true ∧ k.use = .discharge ∧ k.cmd = 0 ∧ k.cur = 0)
    ∧ (∃ (s : State), ∃ n : Fin 64, let k := s.sink n.val; s.clocked = true ∧ k.overrun = true ∧ k.cut = false)
    ∧ (∃ (s : State), s.clocked = true ∧ s.fab.tick < s.gov.reevalAt)
    ∧ (∃ (s : State), s.clocked = true ∧ s.gov.reevalAt ≤ s.fab.tick)
    ∧ (∃ (s : State), s.clocked = true ∧ s.fab.tick < s.gov.reserveAt)
    ∧ (∃ (s : State), s.clocked = true ∧ s.gov.reserveAt ≤ s.fab.tick)
    ∧ (∃ (s : State), ∃ v : Nat, s.clocked = true ∧ v ≤ s.gov.reserved)
    ∧ (∃ (s : State), ∃ v : Nat, s.clocked = true ∧ s.gov.reserved ≤ v ∧ v - s.gov.reserved ≤ s.gov.free)
    ∧ (∃ (s : State), ∃ n : Fin 64, let k := s.sink n.val; s.clocked = true ∧ k.use = .load ∧ s.obj (K.LOAD_TIME n.val) ≠ 0 ∧
      k.loadFrom + usTicks (s.obj (K.LOAD_TIME n.val)) ≤ s.fab.tick) :=
  ⟨⟨(hosted run), 63, by decide⟩,
    ⟨(hosted run), by decide⟩,
    ⟨(onRail.setSink 63 { onRail.sink 63 with use := .load, ePosted := some 5, eWant := 1 }), 63, by decide⟩,
    ⟨(onRail.setSink 63 { onRail.sink 63 with ePosted := some 5, eWant := 1 }), 63, by decide⟩,
    ⟨(onRail.setSink 63 { onRail.sink 63 with use := .removing, lapsed := true }), 63, by decide⟩,
    ⟨(onRail.setSink 63 { onRail.sink 63 with use := .discharge, cmd := 0, cur := 0 }), 63, by decide⟩,
    ⟨(onRail.setSink 63 { onRail.sink 63 with use := .stipple, energy := 1, spent := 200000000000000 }), 63, by decide⟩,
    ⟨{ run with gov := { Gov.reset with reevalAt := 1000001 } }, by decide⟩,
    ⟨(hosted run), by decide⟩,
    ⟨{ run with gov := { Gov.reset with reserveAt := 1000001 } }, by decide⟩,
    ⟨(hosted run), by decide⟩,
    ⟨(hosted run), 0, by decide⟩,
    ⟨(hosted run), 100, by decide⟩,
    ⟨(onRail.setSink 63 { onRail.sink 63 with use := .load }).setLive (K.LOAD_TIME 63) 5000, 63, by decide⟩⟩

/-- MatingRowsTakeEffect: states and operands that meet the hypotheses of its clauses. -/
theorem witness_MatingRowsTakeEffect :
    (∃ (s : State), s.clocked = true ∧ (¬ (s.input.mated = false ∧ s.input.lowFrom + usTicks (s.obj K.MATE_DEBOUNCE) ≤ s.fab.tick)
      ∨ s.vioGone = true))
    ∧ (∃ (s : State), s.clocked = true ∧ s.input.mated = false ∧ s.input.lowFrom + usTicks (s.obj K.MATE_DEBOUNCE) ≤ s.fab.tick ∧
      s.vioGone = false)
    ∧ (∃ (s : State), ∃ t, s.input.pullAt = some t ∧ s.clocked = true ∧ t ≤ s.fab.tick)
    ∧ (∃ (s : State), ∃ f : Nat, let may (f : Nat) : Prop := s.tripActed f = true ∨ s.feedMoved f = false; s.clocked = true ∧ f <
      2 ∧ (s.feed f).pulling = true ∧ ¬ may f)
    ∧ (∃ (s : State), ∃ f : Nat, let may (f : Nat) : Prop := s.tripActed f = true ∨ s.feedMoved f = false; s.clocked = true ∧
      s.input.pullAt.isSome = true ∧ f < 2 ∧ (s.feed f).pulling = true ∧ may f)
    ∧ (∃ (s : State), s.clocked = true ∧ s.rampReady 0 = false ∧ s.rampReady 1 = false)
    ∧ (∃ (s : State), ∃ f : Nat, s.clocked = true ∧ f < 2 ∧ s.rampReady f = true ∧ (f = 1 → s.rampReady 0 = false)) :=
  ⟨⟨(hosted run), by decide⟩,
    ⟨late, by decide⟩,
    ⟨{ run with input := { CardInput.reset with pullAt := some 1000000 } }.setFeed 1 { run.feed 1 with pulling := true }, _, rfl,
      by decide⟩,
    ⟨(run.setFeed 1 { run.feed 1 with pulling := true, last := some { run.feedTick 1 with moved := true } }), 1, by decide⟩,
    ⟨{ run with input := { CardInput.reset with pullAt := some 1000000 } }.setFeed 1 { run.feed 1 with pulling := true }, 1, by
      decide⟩,
    ⟨(hosted run), by decide⟩,
    ⟨(run.setFeed 1 { run.feed 1 with state := .waitTolls, need := 7 }).setLive K.INRUSH_FREE 7, 1, by decide⟩⟩

/-- FeedTripRowsTakeEffect: states and operands that meet the hypotheses of its clauses. -/
theorem witness_FeedTripRowsTakeEffect :
    (∃ (s : State), ∃ f : Fin 2, let n := s.feedTick f.val; s.clocked = true ∧ n.driven = true)
    ∧ (∃ (s : State), ∃ f : Fin 2, let n := s.feedTick f.val; s.clocked = true ∧ n.driven = false)
    ∧ (∃ (s : State), ∃ f : Fin 2, let x := s.feed f.val; let n := s.feedTick f.val; s.clocked = true ∧ (n.was = .ramping ∨ n.was
      = .on) ∧ s.obj (K.SOA_TIME f.val) ≤ x.soa)
    ∧ (∃ (s : State), ∃ f : Fin 2, let x := s.feed f.val; let n := s.feedTick f.val; s.clocked = true ∧ x.state = .ramping ∧
      n.moved = false)
    ∧ (∃ (s : State), ∃ f : Fin 2, let x := s.feed f.val; let n := s.feedTick f.val; s.clocked = true ∧ x.state = .waitSource ∧
      n.was = .ramping ∧ s.raisedNow f.val [6, 7] = true)
    ∧ (∃ (s : State), ∃ f : Fin 2, let x := s.feed f.val; let n := s.feedTick f.val; ∃ t, x.uv = some t ∧ s.clocked = true ∧
      (x.state = .ramping ∨ x.state = .on) ∧ t + usTicks (s.obj (K.UV_RIDE f.val)) ≤ s.fab.tick ∧ n.moved = false)
    ∧ (∃ (s : State), ∃ f : Fin 2, let x := s.feed f.val; let n := s.feedTick f.val; ∃ t, x.ov = some t ∧ s.clocked = true ∧
      (x.state = .ramping ∨ x.state = .on) ∧ t + usTicks (s.obj (K.OV_FILTER f.val)) ≤ s.fab.tick ∧ n.moved = false)
    ∧ (∃ (s : State), ∃ f : Fin 2, let x := s.feed f.val; s.frozen.isSome = true ∧ x.driven = true ∧ s.pullable f.val = true)
    ∧ (∃ (s : State), ∃ f : Fin 2, let x := s.feed f.val; (s.clocked = true ∨ s.frozen.isSome = true) ∧ s.pullable f.val = true ∧
      x.state = .on ∧ x.blocking = false)
    ∧ (∃ (s : State), ∃ f : Fin 2, let x := s.feed f.val; (s.clocked = true ∨ s.frozen.isSome = true) ∧ s.pullable f.val = true ∧
      x.state = .on ∧ x.blocking = true)
    ∧ (∃ st : FeedState, st ≠ .ramping ∧ st ≠ .on) :=
  ⟨⟨(hosted (run.setFeed 1 { run.feed 1 with state := .on })), 1, by decide⟩,
    ⟨(hosted run), 1, by decide⟩,
    ⟨(run.setFeed 1 { run.feed 1 with state := .ramping, soa := 1000000 }), 1, by decide⟩,
    ⟨(run.setFeed 1 { run.feed 1 with state := .ramping }), 1, by decide⟩,
    ⟨{
      (run.setFeed 1 { run.feed 1 with state := .waitSource, last := some { run.feedTick 1 with was := .ramping } }) with coll :=
      { run.coll with inflight := [⟨0x59, 6, 0, false, ⟨5, 100000, 1000000⟩⟩] } }, 1, by decide⟩,
    ⟨{
      (run.setFeed 1 { run.feed 1 with state := .on, uv := some 5 }) with fab := { run.fab with tick := 10000000000 } }, 1, _,
      rfl, by decide⟩,
    ⟨{
      (run.setFeed 1 { run.feed 1 with state := .ramping, ov := some 5 }) with fab := { run.fab with tick := 10000000000 } }, 1,
      _, rfl, by decide⟩,
    ⟨(frozen.setFeed 1 { frozen.feed 1 with state := .on }), 1, by decide⟩,
    ⟨(hosted (run.setFeed 1 { run.feed 1 with state := .on })), 1, by decide⟩,
    ⟨(run.setFeed 1 { run.feed 1 with state := .on, blocking := true }), 1, by decide⟩,
    ⟨.disabled, by decide⟩⟩

/-- FeedRetryRowsTakeEffect: states and operands that meet the hypotheses of its clauses. -/
theorem witness_FeedRetryRowsTakeEffect :
    (∃ (s : State), s.clocked = true ∧ s.fab.edgeTick ≠ s.fab.tick)
    ∧ (∃ (s : State), ∃ f : Fin 2, let x := s.feed f.val; let d := u32Sub (s.obj (K.RETRY_DEADLINE f.val)) s.fab.count.toNat;
      s.clocked = true ∧ x.state = .tripped ∧ x.armed = true ∧ s.fab.edgeTick = s.fab.tick ∧ s.feedMoved f.val = false ∧ (d = 0 ∨
      2 ^ 31 ≤ d))
    ∧ (∃ (s : State), ∃ f : Fin 2, let x := s.feed f.val; s.clocked = true ∧ x.full = some 0 ∧ s.feedMoved f.val = false)
    ∧ (∃ (s : State), ∃ f : Fin 2, let x := s.feed f.val; s.clocked = true ∧ x.state = .on ∧ s.obj (K.RETRY_BEATS f.val) ≤ x.edges
      ∧ s.feedMoved f.val = false)
    ∧ (∃ (s : State), ∃ f : Fin 2, let x := s.feed f.val; s.clocked = true ∧ (x.state = .waitSource ∨ x.state = .tripped ∨ x.state
      = .lockout) ∧ 16 ≤ x.dmg ∧ s.feedMoved f.val = false)
    ∧ (∃ (s : State), let span := usTicks (s.obj K.DMG_PATH_TIME); s.clocked = true ∧ s.input.pathDone = false ∧ s.obj K.DMG_LEVEL
      ≤ s.quick 2 ∧ (∀ g : Fin 2, (s.feed g.val).gateIsOff = true ∧ (s.feed g.val).gateOff + span ≤ s.fab.tick) ∧
      s.input.outLow.all (fun t => decide (t + span < s.fab.tick)) = true)
    ∧ (∃ (s : State), let span := usTicks (s.obj K.DMG_PATH_TIME); s.clocked = true ∧ ¬ (s.input.pathDone = false ∧ s.obj
      K.DMG_LEVEL ≤ s.quick 2 ∧ (∀ g : Fin 2, (s.feed g.val).gateIsOff = true ∧ (s.feed g.val).gateOff + span ≤ s.fab.tick) ∧
      s.input.outLow.all (fun t => decide (t + span < s.fab.tick)) = true))
    ∧ (∃ (s : State), ∃ t, s.input.lostAt = some t ∧ s.clocked = true ∧ s.input.good = false ∧ s.input.everGood = true ∧
      s.input.lossDone = false ∧ t + usTicks (s.obj K.INPUT_RIDE) ≤ s.fab.tick) :=
  ⟨⟨(hosted run), by decide⟩,
    ⟨{
      (run.setFeed 1 { run.feed 1 with state := .tripped, armed := true }) with fab := { run.fab with edgeTick := 1000000 } }, 1,
      by decide⟩,
    ⟨(run.setFeed 1 { run.feed 1 with state := .tripped, full := some 0 }), 1, by decide⟩,
    ⟨(run.setFeed 1 { run.feed 1 with state := .on, edges := 1000000 }), 1, by decide⟩,
    ⟨(run.setFeed 1 { run.feed 1 with state := .lockout, dmg := 16 }), 1, by decide⟩,
    ⟨{ run with fab := { run.fab with tick := 10000000000 } }.setLive (K.QUICK_VALUE 2) 1200000, by decide⟩,
    ⟨(hosted run), by decide⟩,
    ⟨lost, _, rfl, by decide⟩⟩

/-- PowerLossRowsTakeEffect: states and operands that meet the hypotheses of its clauses. -/
theorem witness_PowerLossRowsTakeEffect :
    (∃ (s : State), s.clocked = true ∧ (s.input.pfailLow = true ∨ s.vioGone = true))
    ∧ (∃ (s : State), s.clocked = true ∧ s.input.pfailLow = false ∧ s.vioGone = false)
    ∧ (∃ (s : State), (s.clocked = true ∨ s.frozen.isSome = true) ∧ s.input.huFell = true)
    ∧ (∃ (s : State), (s.clocked = true ∨ s.frozen.isSome = true) ∧ s.input.huFell = false ∧ s.input.huWait = true ∧ s.input.good
      = true ∧ s.input.goodAt + 2000000000 ≤ s.filterClk)
    ∧ (∃ (s : State), s.input.onVhu = false ∧ s.clocked = true)
    ∧ (∃ (s : State), s.input.onVhu = false ∧ s.frozen.isSome = true)
    ∧ (∃ (s : State), s.input.onVhu = true ∧ (s.clocked = true ∨ s.frozen.isSome = true) ∧ (s.supplies = true ∨ (s.serving = true
      ∧ s.input.good = false)))
    ∧ (∃ (s : State), s.input.onVhu = true ∧ (s.clocked = true ∨ s.frozen.isSome = true) ∧ s.supplies = false ∧ (s.serving = false
      ∨ s.input.good = true))
    ∧ (∃ (s : State), (s.input.onVhu = true ∨ (s.serving = true ∧ s.input.good = false)))
    ∧ (∃ (s : State), s.input.onVhu = false ∧ (s.serving = false ∨ s.input.good = true)) :=
  ⟨⟨{ run with input := { CardInput.reset with pfailLow := true } }, by decide⟩,
    ⟨(hosted run), by decide⟩,
    ⟨{ run with input := { CardInput.reset with huFell := true } }, by decide⟩,
    ⟨{ run with
      input := { CardInput.reset with huWait := true, good := true }, filterClk := 3000000000 }, by decide⟩,
    ⟨(hosted run), by decide⟩,
    ⟨frozen, by decide⟩,
    ⟨{ run with input := { CardInput.reset with onVhu := true } }, by decide⟩,
    ⟨{ frozen with supplies := false, input := { CardInput.reset with onVhu := true, good := true } }, by decide⟩,
    ⟨(hosted run), by decide⟩,
    ⟨{ run with phase := .recall }, by decide⟩⟩

/-- CollectorMessagesTakeEffect: states and operands that meet the hypotheses of its clauses. -/
theorem witness_CollectorMessagesTakeEffect :
    (∃ (s : State), ∃ i : Nat, s.clocked = true ∧ s.coll.inflight[i]?.all (fun m => decide (s.fab.tick < m.stamp.tick + (if
      m.injected = true then 1 else 4))) = true)
    ∧ (∃ (s : State), ∃ i : Nat, ∃ m, s.coll.inflight[i]? = some m ∧ s.clocked = true ∧ m.source < 256 ∧ m.stamp.tick + (if
      m.injected = true then 1 else 4) ≤ s.fab.tick)
    ∧ (∃ (s : State), s.clocked = true ∧ (s.fab.tick ≤ s.coll.lastRelease ∨ (leastBy QMsg.before s.coll.queue).all (fun q =>
      decide (s.fab.tick < q.msg.stamp.tick + 24)) = true))
    ∧ (∃ (s : State), ∃ q, leastBy QMsg.before s.coll.queue = some q ∧ s.clocked = true ∧ s.coll.lastRelease < s.fab.tick ∧
      q.msg.stamp.tick + 24 ≤ s.fab.tick)
    ∧ (∃ (s : State), s.clocked = true ∧ (s.coll.state ≠ .deciding ∨ s.fab.tick < s.coll.e0.tick + s.coll.window))
    ∧ (∃ (s : State), s.clocked = true ∧ s.coll.state = .deciding ∧ s.coll.e0.tick + s.coll.window ≤ s.fab.tick) :=
  ⟨⟨(hosted run), 0, by decide⟩,
    ⟨(telling 0x9D 1), 0, _, rfl, by decide⟩,
    ⟨(hosted run), by decide⟩,
    ⟨arrived, _, rfl, by decide⟩,
    ⟨(hosted run), by decide⟩,
    ⟨judging, by decide⟩⟩

/-- CollectorTimersAndClockFaults: states and operands that meet the hypotheses of its clauses. -/
theorem witness_CollectorTimersAndClockFaults :
    (∃ (s : State), ∃ t, s.coll.pulseUntil = some t ∧ s.clocked = true ∧ t ≤ s.fab.tick)
    ∧ (∃ (s : State), s.clocked = true ∧ s.coll.pulseUntil.all (fun t => decide (s.fab.tick < t)) = true)
    ∧ (∃ (s : State), ∃ t, s.coll.endOfStart = some t ∧ s.clocked = true ∧ t + usTicks (s.obj K.STARTUP_SPAN) ≤ s.fab.tick)
    ∧ (∃ (s : State), s.clocked = true ∧ s.coll.endOfStart.all (fun t => decide (s.fab.tick < t + usTicks (s.obj K.STARTUP_SPAN)))
      = true)
    ∧ (∃ (s : State), s.clocked = true ∧ s.serving = true)
    ∧ (∃ (s : State), s.clocked = true ∧ s.serving = false) :=
  ⟨⟨(later { Coll.reset with pulseUntil := some 100 }), _, rfl, by decide⟩,
    ⟨(hosted run), by decide⟩,
    ⟨(later { Coll.reset with endOfStart := some 100 }), _, rfl, by decide⟩,
    ⟨(hosted run), by decide⟩,
    ⟨(hosted run), by decide⟩,
    ⟨{ run with phase := .recall }, by decide⟩⟩

/-- EtchRowsTakeEffect: states and operands that meet the hypotheses of its clauses. -/
theorem witness_EtchRowsTakeEffect :
    (∃ (s : State), s.clocked = true ∧ s.store.etch.all (fun e => e.phase != .starting || decide (s.fab.tick < e.due)) = true)
    ∧ (∃ (s : State), ∃ e, s.store.etch = some e ∧ s.clocked = true ∧ e.phase = .starting ∧ e.due ≤ s.fab.tick)
    ∧ (∃ (s : State), s.clocked = true ∧ s.store.etch.all (fun e => e.todo.isEmpty || e.phase == .starting || decide (s.fab.tick <
      e.due)) = true)
    ∧ (∃ (s : State), ∃ e, s.store.etch = some e ∧ ∃ p rest, e.todo = p :: rest ∧ ∃ q : Nat, ∃ i : Nat, s.clocked = true ∧ e.phase
      ≠ .starting ∧ e.due ≤ s.fab.tick ∧ q ≠ p ∧ i < 2)
    ∧ (∃ (s : State), ∃ e, s.store.etch = some e ∧ ∃ p rest, e.todo = p :: rest ∧ s.clocked = true ∧ e.phase ≠ .starting ∧ e.due ≤
      s.fab.tick ∧ e.retry = false ∧ e.phase ≠ .stopping)
    ∧ (∃ (s : State), ∃ e, s.store.etch = some e ∧ ∃ p rest, e.todo = p :: rest ∧ s.clocked = true ∧ e.phase ≠ .starting ∧ e.due ≤
      s.fab.tick ∧ e.retry = false ∧ e.phase = .stopping)
    ∧ (∃ (s : State), ∃ e, s.store.etch = some e ∧ ∃ p rest, e.todo = p :: rest ∧ s.clocked = true ∧ e.phase ≠ .starting ∧ e.due ≤
      s.fab.tick ∧ e.retry = true) :=
  ⟨⟨(hosted run), by decide⟩,
    ⟨(etching { etch with phase := .starting }), _, rfl, by decide⟩,
    ⟨(hosted run), by decide⟩,
    ⟨(hosted { run with store := { Store.reset with etch := some etch } }), _, rfl, _, _, rfl, 0, 0, by decide⟩,
    ⟨(hosted { run with store := { Store.reset with etch := some etch } }), _, rfl, _, _, rfl, by decide⟩,
    ⟨(etching { etch with phase := .stopping }), _, rfl, _, _, rfl, by decide⟩,
    ⟨(etching { etch with retry := true }), _, rfl, _, _, rfl, by decide⟩⟩

/-- ReloadKeepsTheOtherPages: states and operands that meet the hypotheses of its clauses. -/
theorem witness_ReloadKeepsTheOtherPages :
    (∃ (s : State), ∃ page : BitVec 12, s.clocked = true ∧ (s.store.bad.any (fun g => g * 8 / 16384 == page.toNat) = false ∨
      s.store.dirty.contains page.toNat = true))
    ∧ (∃ (s : State), ∃ page : BitVec 12, ∃ a : Nat, s.clocked = true ∧ s.store.bad.any (fun g => g * 8 / 16384 == page.toNat) =
      true ∧ s.store.dirty.contains page.toNat = false ∧ pageOf a ≠ page.toNat)
    ∧ (∃ (s : State), ∃ page : BitVec 12, ∃ g : Nat, let u := s.loadPage page.toNat (s.store.recallChoice page.toNat).data;
      s.clocked = true ∧ s.store.bad.any (fun g => g * 8 / 16384 == page.toNat) = true ∧ s.store.dirty.contains page.toNat = false
      ∧ g ∈ u.store.bad)
    ∧ (∃ (s : State), s.clocked = true ∧ (s.lanes.laneOf .scrub 0 = none ∨ s.store.busyPage = some (s.store.scrubAt / 16)))
    ∧ (∃ (s : State), ∃ lane, s.lanes.laneOf .scrub 0 = some lane ∧ s.clocked = true ∧ s.store.busyPage ≠ some (s.store.scrubAt /
      16))
    ∧ (∃ (s : State), s.clocked = true ∧ (s.store.recalling = true ∨ s.fab.tick < s.store.opDue))
    ∧ (∃ (s : State), s.clocked = true ∧ s.store.recalling = false ∧ s.store.opDue ≤ s.fab.tick)
    ∧ (∃ (s : State), s.clocked = true ∧ (s.phase ≠ .recall ∨ s.store.recalling = false))
    ∧ (∃ (s : State), s.clocked = true ∧ s.phase = .recall ∧ s.store.recalling = true) :=
  ⟨⟨(hosted run), 4095, by decide⟩,
    ⟨damaged, 4095, 0, by decide⟩,
    ⟨{ damaged with store := { damaged.store with bad := [0, groupNo 4095 7 255] } }, 4095, 0, by decide⟩,
    ⟨(hosted run), by decide⟩,
    ⟨{ run with lanes := { Lanes.reset with shared := [(127, { busy 0 with kind := .scrub })] } }, _, rfl, by decide⟩,
    ⟨{ run with phase := .recall, store := { Store.reset with recalling := true } }, by decide⟩,
    ⟨(hosted run), by decide⟩,
    ⟨(hosted run), by decide⟩,
    ⟨{ run with phase := .recall, store := { Store.reset with recalling := true } }, by decide⟩⟩

set_option maxRecDepth 100000 in
/-- LedgerRowsTakeEffect: states and operands that meet the hypotheses of its clauses. -/
theorem witness_LedgerRowsTakeEffect :
    (∃ (s : State), s.clocked = true ∧ (s.ledgerReady = false ∨ s.fab.tick < s.ledger.lastEntry + 40 ∨ (s.ledger.restartCauses =
      [] ∧ s.ledger.buffer = [] ∧ s.ledger.overflow = [])))
    ∧ (∃ (s : State), ∃ c r, s.ledger.restartCauses = c :: r ∧ s.clocked = true ∧ s.ledgerReady = true ∧ s.ledger.lastEntry + 40 ≤
      s.fab.tick)
    ∧ (∃ (s : State), ∃ h r, s.ledger.buffer = h :: r ∧ s.clocked = true ∧ s.ledgerReady = true ∧ s.ledger.lastEntry + 40 ≤
      s.fab.tick ∧ s.ledger.restartCauses = [])
    ∧ (∃ (s : State), ∃ src n r, s.ledger.overflow = (src, n) :: r ∧ s.clocked = true ∧ s.ledgerReady = true ∧ s.ledger.lastEntry
      + 40 ≤ s.fab.tick ∧ s.ledger.restartCauses = [] ∧ s.ledger.buffer = [])
    ∧ (∃ (s : State), s.clocked = true ∧ (s.ledgerReady = false ∨ s.ledger.marks.head?.all s.markWaits = true))
    ∧ (∃ (s : State), ∃ m r, s.ledger.marks = m :: r ∧ (let hit := s.ledger.recents.find? (fun y => y.first.all (fun t => decide
      (t ≤ m.stamp.tick)) && decide (m.stamp.tick ≤ y.last) && (s.readRec y.rseq).any (fun z => z.type == 1 && z.body / 2 ^ 24 ==
      m.word / 2 ^ 24)); s.clocked = true ∧ s.ledgerReady = true ∧ s.markWaits m = false ∧ hit = none))
    ∧ (∃ (s : State), ∃ m r, s.ledger.marks = m :: r ∧ (let hit := s.ledger.recents.find? (fun y => y.first.all (fun t => decide
      (t ≤ m.stamp.tick)) && decide (m.stamp.tick ≤ y.last) && (s.readRec y.rseq).any (fun z => z.type == 1 && z.body / 2 ^ 24 ==
      m.word / 2 ^ 24)); ∃ q, hit = some q ∧ ∃ x, s.readRec q.rseq = some x ∧ s.clocked = true ∧ s.ledgerReady = true ∧
      s.markWaits m = false ∧ s.readFF m.episode = none))
    ∧ (∃ (s : State), ∃ m r, s.ledger.marks = m :: r ∧ (let hit := s.ledger.recents.find? (fun y => y.first.all (fun t => decide
      (t ≤ m.stamp.tick)) && decide (m.stamp.tick ≤ y.last) && (s.readRec y.rseq).any (fun z => z.type == 1 && z.body / 2 ^ 24 ==
      m.word / 2 ^ 24)); ∃ q, hit = some q ∧ ∃ x, s.readRec q.rseq = some x ∧ ∃ e, s.readFF m.episode = some e ∧ ∃ j, ffSlot
      m.episode (s.obj K.FF_BASE) = some j ∧ s.clocked = true ∧ s.ledgerReady = true ∧ s.markWaits m = false))
    ∧ (∃ (s : State), s.clocked = true ∧ (s.ledgerReady = false ∨ s.ledger.link = none))
    ∧ (∃ (s : State), ∃ l, s.ledger.link = some l ∧ s.clocked = true ∧ s.ledgerReady = true)
    ∧ (∃ (s : State), s.clocked = true ∧ (s.ledger.reconciling = false ∨ s.ledger.suspended = true ∨ s.coresUp = false ∨
      s.store.recalling = true ∨ s.phase = .recall))
    ∧ (∃ (s : State), s.clocked = true ∧ s.ledger.reconciling = true ∧ s.ledger.suspended = false ∧ s.coresUp = true ∧
      s.store.recalling = false ∧ (s.phase = .cores ∨ s.phase = .joining ∨ s.phase = .running)) :=
  ⟨⟨(hosted run), by decide⟩,
    ⟨(led { Ledger.reset with reconciling := false, restartCauses := [3, 1] }), _, _, rfl, by decide⟩,
    ⟨(led { Ledger.reset with reconciling := false, buffer := [hand] }), _, _, rfl, by decide⟩,
    ⟨(led { Ledger.reset with reconciling := false, overflow := [(63, 9)] }), _, _, _, rfl, by decide⟩,
    ⟨(hosted run), by decide⟩,
    ⟨(led { Ledger.reset with reconciling := false, marks := [⟨7, 9, Stamp.zero⟩] }), _, _, rfl, by decide⟩,
    ⟨marking, _, _, rfl, _, rfl, _, rfl, by decide⟩,
    ⟨(marking.writeBytes (ffAddr 0) { entered with type := 3, episode := 1 }.bytes), _, _, rfl, _, rfl, _, rfl, _, rfl, _, rfl, by
      decide⟩,
    ⟨(hosted run), by decide⟩,
    ⟨(led { Ledger.reset with reconciling := false, link := some 900000 }), _, rfl, by decide⟩,
    ⟨(hosted run), by decide⟩,
    ⟨(hosted { run with ledger := Ledger.reset }), by decide⟩⟩

/-- UpdateRowsTakeEffect: states and operands that meet the hypotheses of its clauses. -/
theorem witness_UpdateRowsTakeEffect :
    (∃ (s : State), s.clocked = true ∧ (s.upd.state ≠ .verifying ∨ s.coresUp = false))
    ∧ (∃ (s : State), s.clocked = true ∧ s.upd.state = .verifying ∧ s.coresUp = true)
    ∧ (∃ (s : State), s.clocked = true ∧ (s.upd.state ≠ .applying ∨ s.upd.etchPosted = true ∨ s.coresUp = false))
    ∧ (∃ (s : State), s.clocked = true ∧ s.upd.state = .applying ∧ s.upd.etchPosted = false ∧ s.coresUp = true)
    ∧ (∃ (s : State), s.clocked = true ∧ (s.upd.state ≠ .scheduled ∨ s.upd.act.any (fun a => s.reached a.1 a.2) = false))
    ∧ (∃ (s : State), ∃ b k, s.upd.act = some (b, k) ∧ s.clocked = true ∧ s.upd.state = .scheduled ∧ s.reached b k = true ∧
      s.onReserve = true)
    ∧ (∃ (s : State), ∃ b k, s.upd.act = some (b, k) ∧ s.clocked = true ∧ s.upd.state = .scheduled ∧ s.reached b k = true ∧
      s.onReserve = false)
    ∧ (∃ (s : State), s.clocked = true ∧ (s.upd.state ≠ .trial ∨ s.coresUp = false ∨ s.upd.health ≠ 15))
    ∧ (∃ (s : State), s.clocked = true ∧ s.upd.state = .trial ∧ s.coresUp = true ∧ s.upd.health = 15)
    ∧ (∃ (s : State), s.clocked = true ∧ (s.upd.state ≠ .trial ∨ s.coresUp = false ∨ s.fab.tick < s.upd.startAt + usTicks (s.obj
      K.TRIAL_TIME)))
    ∧ (∃ (s : State), s.clocked = true ∧ s.upd.state = .trial ∧ s.coresUp = true ∧ s.upd.startAt + usTicks (s.obj K.TRIAL_TIME) ≤
      s.fab.tick) :=
  ⟨⟨(hosted run), by decide⟩,
    ⟨(updating { Upd.reset with state := .verifying }), by decide⟩,
    ⟨(hosted run), by decide⟩,
    ⟨(updating { Upd.reset with state := .applying }), by decide⟩,
    ⟨(hosted run), by decide⟩,
    ⟨{
      updating { Upd.reset with state := .scheduled, act := some (5, 0) } with input := { CardInput.reset with onVhu := true } },
      _, _, rfl, by decide⟩,
    ⟨(updating { Upd.reset with state := .scheduled, act := some (5, 0) }), _, _, rfl, by decide⟩,
    ⟨(hosted run), by decide⟩,
    ⟨(updating { Upd.reset with state := .trial, health := 15 }), by decide⟩,
    ⟨(hosted run), by decide⟩,
    ⟨(updating { Upd.reset with state := .trial }), by decide⟩⟩

/-- StartupRowsTakeEffect: states and operands that meet the hypotheses of its clauses. -/
theorem witness_StartupRowsTakeEffect :
    (∃ (s : State), s.phase = .off)
    ∧ (∃ (s : State), s.phase ≠ .off)
    ∧ (∃ (s : State), s.phase ≠ .clocks)
    ∧ (∃ (s : State), s.phase = .clocks)
    ∧ (∃ (s : State), s.clocked = true ∧ (s.phase ≠ .cores ∨ s.coresUp = false))
    ∧ (∃ (s : State), s.phase = .cores ∧ s.coresUp = true)
    ∧ (∃ (s : State), s.store.etch = none) :=
  ⟨⟨State.reset, by decide⟩,
    ⟨(hosted run), by decide⟩,
    ⟨(hosted run), by decide⟩,
    ⟨{ State.reset with phase := .clocks }, by decide⟩,
    ⟨(hosted run), by decide⟩,
    ⟨(asks ({ run with phase := .cores }) opening), by decide⟩,
    ⟨(hosted run), by decide⟩⟩

/-- PowerStateRowsTakeEffect: states and operands that meet the hypotheses of its clauses. -/
theorem witness_PowerStateRowsTakeEffect :
    (∃ (s : State), s.clocked = true ∧ (s.serving = false ∨ s.power ≠ .full ∨ s.fullReasons ≠ 0))
    ∧ (∃ (s : State), s.clocked = true ∧ s.serving = true ∧ s.power = .full ∧ s.fullReasons = 0)
    ∧ (∃ (s : State), ∃ t, s.dwellFrom = some t ∧ s.clocked = true ∧ t + usTicks (s.obj K.DWELL) ≤ s.fab.tick)
    ∧ (∃ (s : State), s.clocked = true ∧ s.dwellFrom.all (fun t => decide (s.fab.tick < t + usTicks (s.obj K.DWELL))) = true) :=
  ⟨⟨(hosted { run with ledger := Ledger.reset }), by decide⟩,
    ⟨(hosted run), by decide⟩,
    ⟨{ lost with dwellFrom := some 5 }, _, rfl, by decide⟩,
    ⟨(hosted run), by decide⟩⟩

/-- FreezeRowsTakeEffect: states and operands that meet the hypotheses of its clauses. -/
theorem witness_FreezeRowsTakeEffect :
    (∃ (s : State), s.vioGone = true)
    ∧ (∃ (s : State), s.vioGone = false ∧ s.frozen = none ∧ s.serving = true ∧ s.objB K.FREEZE_ENABLE = true)
    ∧ (∃ (s : State), s.vioGone = false ∧ (s.frozen.isSome = true ∨ s.serving = false ∨ s.objB K.FREEZE_ENABLE = false))
    ∧ (∃ (s : State), s.vioGone = false ∧ s.frozen.isSome = true ∧ s.convoy.state ≠ .disabled ∧ s.frz.edgeClk + 72000 ≤
      s.filterClk)
    ∧ (∃ (s : State), (s.frozen = none ∨ s.convoy.state = .disabled ∨ s.filterClk < s.frz.edgeClk + 72000))
    ∧ (∃ (s : State), ∃ since, s.frozen = some since ∧ True) :=
  ⟨⟨{ frozen with supplies := false, input := { CardInput.reset with onVhu := true } }, by decide⟩,
    ⟨(hosted run), by decide⟩,
    ⟨{ run with phase := .recall }, by decide⟩,
    ⟨{ frozen with convoy := { Convoy.reset with state := .member } }, by decide⟩,
    ⟨(hosted run), by decide⟩,
    ⟨frozen, _, rfl, trivial⟩⟩

/-- UpdateHostCommandsTakeEffect, UPD_CMD_OPEN: the hypotheses are met on every part that holds a key. -/
theorem witness_updCmdOpen (j : Fin 4) (h : nbit (Config.keySlots % 16) j.val = true) :
    ∃ (s : State) (p : Port) (x : Session), s.Ready (portNum p) x ∧ x.level = 2 ∧ Ok s p x K.UPD_CMD 1
      ∧ ((T s p x).upd.state = .idle ∨ (T s p x).upd.state = .failed) ∧ (T s p x).manifestOk = true :=
  ⟨hosted (staged j.val), .h0, owner, ready_of (by clear h; revert j; decide), rfl, by clear h; revert j; decide, .inl rfl,
    staged_ok j h⟩

/-- StepRunsTheFrontCommand, StepKeepsTheInvariant, NothingFollowsAtRest: an idle state, states with the invariant, a state at rest, a state
that is not clocked. -/
theorem witness_StepRunsTheFrontCommand : run.pending = [] := rfl
theorem witness_StepKeepsTheInvariant : State.reset.Inv := by
  refine ⟨by decide, by decide, ?_⟩
  refine ⟨by simp [FMap.sorted, State.reset, Lanes.reset], ?_, ?_⟩ <;> simp [State.reset, Lanes.reset]
theorem witness_NothingFollowsAtRest : calm.AtRest ∧ State.reset.clocked = false :=
  ⟨⟨by decide, by decide, by decide, by decide, by decide, by decide, by decide, by decide, by decide, by decide, by decide, by decide, by decide, by decide⟩, by decide⟩

/-- FramesRepliesAndRecordsRoundTrip: a frame, a reply and a record with fields at the ends of their ranges. -/
theorem witness_FramesRepliesAndRecordsRoundTrip :
    (∃ f : Frame, f.version < 256 ∧ f.wayNext < 256 ∧ f.voteKind < 256 ∧ f.voteArg < 256 ∧ f.replySeg < 256 ∧ f.leaderAddr < 2 ^ 14
      ∧ f.msgKind < 256 ∧ f.msgAmount < 256 ∧ f.msgId < 2 ^ 16 ∧ f.msgFrom < 2 ^ 14 ∧ f.msgTo < 2 ^ 14)
    ∧ (∃ bs f, parseFrame bs = some f)
    ∧ (∃ r : Reply, r.addr < 2 ^ 14 ∧ r.kind < 256 ∧ r.arg8 < 256 ∧ r.argA < 2 ^ 16 ∧ r.argB < 2 ^ 16)
    ∧ (∃ w r, parseReply w = some r)
    ∧ ∃ x : Rec, x.rseq < 2 ^ 32 ∧ x.type < 256 ∧ x.flags < 256 ∧ x.tag < 256 ∧ x.body < 2 ^ 64 ∧ x.beat < 2 ^ 32 ∧ x.offset < 2 ^ 32
      ∧ x.lastBeat < 2 ^ 32 ∧ x.lastOffset < 2 ^ 32 ∧ x.count < 2 ^ 32 ∧ x.opTime < 2 ^ 64 ∧ x.powerCycle < 2 ^ 32
      ∧ x.episode < 2 ^ 32 ∧ x.linkSeq < 2 ^ 32 ∧ x.linkBeat < 2 ^ 32 :=
  ⟨⟨{ frame with version := 255, leaderAddr := 16383, msgFrom := 16383 }, by decide⟩,
    ⟨frame.bytes, frame, by decide +kernel⟩, ⟨⟨16383, 255, 255, 65535, 65535⟩, by decide⟩,
    ⟨(⟨16383, 255, 255, 65535, 65535⟩ : Reply).word, ⟨16383, 255, 255, 65535, 65535⟩, by decide +kernel⟩,
    ⟨{ entered with flags := 255, body := 2 ^ 64 - 1 }, by decide⟩⟩

/-! ### Ill-formed commands -/

/-- Each check of WellFormed refuses a command (R358, R72, R352, R118, R304). -/
theorem test_illFormed :
    (Instr.baleFrame 0 [1#8]).wellFormed = false ∧ (Instr.beatFrame []).wellFormed = false
    ∧ (Instr.localShutdown 0).wellFormed = false ∧ (Instr.localShutdown 7).wellFormed = false
    ∧ (Instr.localShutdown 6).wellFormed = true ∧ (Instr.scrubStep 257 false 0).wellFormed = false
    ∧ (Instr.scrubStep 256 false 0).wellFormed = true := by decide
theorem test_longWrites (l : List Byte) (h : 65536 ≤ l.length) :
    (Instr.objectWrite .h0 0 0 l).wellFormed = false ∧ (Instr.dpWindowWrite .h0 l).wellFormed = false :=
  ⟨decide_eq_false (by omega), decide_eq_false (by omega)⟩

/-! ### Figures of the spec -/

/-- The CRC of "123456789" (R73). -/
theorem test_crc : crc32c [0x31#8, 0x32#8, 0x33#8, 0x34#8, 0x35#8, 0x36#8, 0x37#8, 0x38#8, 0x39#8] = 0xE3069283#32 := by
  decide +kernel

/-- SHA-256 of "abc" (FIPS 180-4, which R363 names). -/
theorem test_sha256 : (sha256 [0x61#8, 0x62#8, 0x63#8]).take 8 = [0xBA#8, 0x78#8, 0x16#8, 0xBF#8, 0x8F#8, 0x01#8, 0xCF#8, 0xEA#8] := by
  decide +kernel

/-- AES-256 on the example of FIPS 197 (R380). -/
theorem test_aes : aesBlock (aesKeys ((List.range 32).map (BitVec.ofNat 8))) ((List.range 16).map (fun i => BitVec.ofNat 8 (i * 17)))
    = [0x8E#8, 0xA2#8, 0xB7#8, 0xCA#8, 0x51#8, 0x67#8, 0x45#8, 0xBF#8, 0xEA#8, 0xFC#8, 0x49#8, 0x90#8, 0x4B#8, 0x49#8, 0x60#8, 0x89#8] := by
  decide +kernel

/-- Table 5.12: the codes of rail 4, and 10.8 V and 13.2 V of rail 0. -/
theorem test_thresholdCodes : voltCode 0 82500 = 825 ∧ voltCode 0 78750 = 788 ∧ voltCode 0 71250 = 713 ∧ voltCode 0 67500 = 675
    ∧ ocCode 60000 8000 1400000 = 860 ∧ voltCode 3 1080000 = 675 ∧ voltCode 3 1320000 = 825 := by decide

/-- Table 7.12: length and energy tolls of the run on rail 4. -/
def rail4 : State :=
  [(K.STIP_PATTERN 4, 1), (K.STIP_BASE 4, 5000), (K.STIP_STEP 4, 10000), (K.STIP_SLEW 4, 1000), (K.STIP_HALF 4, 10000),
    (K.STIP_CYCLES 4, 40), (K.STIP_PRELOAD 4, 40000), (K.STIP_G 4, 16), (K.GUARD_HI 4, 77250), (K.GUARD_LO 4, 72750)].foldl
    (fun st p => st.setLive p.1 p.2) run
theorem test_stippleSettings : rail4.stipLength 4 = 840000 ∧ rail4.stipSamples 4 = 840000 ∧ rail4.stipEnergy 4 = 5
    ∧ rail4.stipSettingsOk 4 = true := by decide

/-- Table 7.3: the trim codes of rail 34. -/
theorem test_trimCodes : roundDiv (-(189000 - 180000) * 1280) 20000 = -576 ∧ roundDiv (-380 * 1280) 20000 = -24 := by decide

/-- The reservoir of the example before Table 11.15, full and at 24 V. -/
theorem test_energy : energyAvail 1166 5000000 = 1112014 ∧ energyAvail 1166 2400000 = 158576 := by decide

/-- Tables 12.7 and 12.8: places and the injected message's word. -/
theorem test_ledgerPlaces : recAddr 204800 = 0x00780000 ∧ ffAddr 41 = 0x00240A40 := by decide
theorem test_injectedWord :
    msgWord ⟨4, 2, 0x1502A3, true, Stamp.zero⟩ true .contained .service = 0x04021502A3E00000 := by decide

/-! ### Single steps -/

/-- What a command leaves. -/
def ran (c : Instr) (s : State) : State :=
  match exec c s with
  | .next t => t
  | .fault _ => s
  | .refused _ => s

/-- The refused pair of lane settings (R47, R48): 0x90 and 0x89, nothing changed; the corrected pair takes effect. -/
def pair (age : Nat) : List Byte :=
  let members := [2#8, 4#8] ++ leBytes 2 0x2810 ++ leBytes 2 2 ++ leBytes 2 32
    ++ [2#8, 5#8] ++ leBytes 2 0x2810 ++ leBytes 2 4 ++ leBytes 4 age
  signed ([1#8, 0#8, 8#8, 0#8, 2#8, 0#8] ++ members ++ List.replicate 8 0#8)
def afterPair (age : Nat) : State := ran (.transaction .h0) (asks (hosted run) (pair age))
theorem test_refusedPair : ((afterPair 500000).port 0).answers.map Answer.status = [0x90, 0x89]
    ∧ (afterPair 500000).obj K.PROMOTE_DENIALS = 16 ∧ (afterPair 500000).obj K.HARD_AGE_CAL = 20000000 := by decide +kernel
theorem test_correctedPair : ((afterPair 5000000).port 0).answers.map Answer.status = [0, 0]
    ∧ (afterPair 5000000).obj K.PROMOTE_DENIALS = 32 ∧ (afterPair 5000000).obj K.HARD_AGE_CAL = 5000000 := by decide +kernel

/-- The command in front runs and leaves the queue (R403). -/
theorem test_stepRunsTheFront :
    (match step { State.reset with pending := [.suppliesGood, .mated] } with
      | .next t => decide (t.phase = .powerOn ∧ t.pending = [.mated])
      | _ => false) = true := by decide

/-- Table 10.14: an injected UV fault of rail 4 under REACT arrives CONTAINED, opens an episode and pulls FAULT_N. -/
def forced : State := (run.setLive (K.INJ_POLICY 4) 1).setLive (K.SEV_TEST 4) 0
theorem test_injectedArrives :
    let t := ran (.messageArrival 0) { forced with coll := { forced.coll with
      inflight := [⟨4, 2, 0x1502A3, true, ⟨5, 60000, 999999⟩⟩] } }
    t.coll.state = .deciding ∧ t.faultNLow = true ∧ t.obj K.EPISODE = 1
      ∧ t.coll.queue.map (fun q => (q.cls, q.acted)) = [(.contained, true)] := by decide +kernel

end Sys2Proof.Tests
end

namespace Sys2Proof.Machine
open Sys2Proof

/-! Beat edges (R13, R67, R68, R76, R79, R91, R92): what each operation of an edge comes to, case by case of the edge. -/

/-! ### What agreement carries over -/

theorem Agree.obj {L : Nat} {a b : State} (h : Agree L a b) (hL : L.testBit 3 = false) (j : Nat) : b.obj j = a.obj j := by
  unfold State.obj
  rw [h.objs hL]

theorem Agree.coresUp {L : Nat} {a b : State} (h : Agree L a b) (hc : L.testBit 9 = false) (hf : L.testBit 37 = false) :
    b.coresUp = a.coresUp := by
  unfold State.coresUp
  rw [h.cores hc, h.frozen hf]

theorem Agree.awaits {L : Nat} {a b : State} (h : Agree L a b) (hm : L.testBit 21 = false) (hs : L.testBit 22 = false)
    (hc : L.testBit 11 = false) (hu : L.testBit 28 = false) (n : Count) : b.awaits n = a.awaits n := by
  unfold State.awaits
  rw [h.margins hm, h.stips hs, h.cap hc, h.upd hu]

/-- Agreement up to a mask leaves every field outside a list that covers the mask's fields, whatever parts of working memory the
mask names. -/
theorem Agree.sameBut_fields {l : List Fld} {L : Nat} {a b : State} (h : Agree L a b)
    (hm : (L % 2 ^ 41) &&& maskOf l = L % 2 ^ 41) : a.SameBut l b := by
  have key : ∀ f : Fld, l.contains f = false → L.testBit f.bit = false := by
    intro f hf
    have hlt : f.bit < 41 := by cases f <;> decide
    cases hb : L.testBit f.bit with
    | false => rfl
    | true =>
      have hbit : (L % 2 ^ 41).testBit f.bit = true := by
        rw [Nat.testBit_mod_two_pow, Bool.and_eq_true, decide_eq_true_eq]
        exact ⟨hlt, hb⟩
      rw [← hm, Nat.testBit_and, Bool.and_eq_true] at hbit
      exact absurd (hf.symm.trans (maskOf_testBit l f hbit.2)) Bool.false_ne_true
  exact ⟨fun q => h.pending (key .pending q), fun q => h.phase (key .phase q), fun q => h.fab (key .fab q), fun q =>
    h.objs (key .objs q), fun q => h.mem (key .mem q), fun q => h.lanes (key .lanes q), fun q => h.coll (key .coll q),
    fun q => h.ledger (key .ledger q), fun q => h.store (key .store q), fun q => h.cores (key .cores q), fun q => h.conv
    (key .conv q), fun q => h.cap (key .cap q), fun q => h.ring (key .ring q), fun q => h.activeArea (key .activeArea
    q), fun q => h.otherArea (key .otherArea q), fun q => h.input (key .input q), fun q => h.rails (key .rails q), fun q
    => h.seq (key .seq q), fun q => h.pmb (key .pmb q), fun q => h.railWins (key .railWins q), fun q => h.live (key
    .live q), fun q => h.margins (key .margins q), fun q => h.stips (key .stips q), fun q => h.sinks (key .sinks q), fun
    q => h.gov (key .gov q), fun q => h.feeds (key .feeds q), fun q => h.convoy (key .convoy q), fun q => h.loader (key
    .loader q), fun q => h.upd (key .upd q), fun q => h.hosts (key .hosts q), fun q => h.power (key .power q), fun q =>
    h.dwellFrom (key .dwellFrom q), fun q => h.supplies (key .supplies q), fun q => h.vioClass (key .vioClass q), fun q
    => h.startClk (key .startClk q), fun q => h.resetCause (key .resetCause q), fun q => h.filterClk (key .filterClk q),
    fun q => h.frozen (key .frozen q), fun q => h.freezeLow (key .freezeLow q), fun q => h.frz (key .frz q), fun q =>
    h.ticked (key .ticked q)⟩

/-! ### Objects -/

/-- Reading an object after a live counter has counted. -/
theorem obj_bumpLive (s : State) (k j : Nat) : (s.bumpLive k).obj j = if j = k then sat32 (s.obj k + 1) else s.obj j :=
  obj_setLive s k _ j

theorem obj_setPersOr_other (s : State) (v : Nat) {k j : Nat} (h : j ≠ k) : (s.setPersOr k v).obj j = s.obj j := by
  unfold State.setPersOr
  split
  · rw [obj_setPers, if_neg h]
  · rw [obj_setPers, if_neg h]
  · rw [obj_setLive, if_neg h]
  · rw [obj_setLive, if_neg h]

/-- A fold keeps an object that each of its steps keeps. -/
theorem obj_foldl {α : Type} (f : State → α → State) (l : List α) (j : Nat)
    (h : ∀ t, ∀ x ∈ l, (f t x).obj j = t.obj j) (s : State) : (l.foldl f s).obj j = s.obj j := by
  induction l generalizing s with
  | nil => rfl
  | cons x r ih =>
    rw [List.foldl_cons, ih (fun t y hy => h t y (List.mem_cons_of_mem _ hy)), h s x List.mem_cons_self]

/-- The objects that a beat edge may stamp anew (R14, R88, R266). -/
def stampKeys : List Nat := stampPairs.flatMap (fun p => [p.1, p.2]) ++ [K.RETRY_DEADLINE 0, K.RETRY_DEADLINE 1]

theorem obj_renewPair (s : State) (st : Stamp) (n : Count) (p : Nat × Nat) {j : Nat} (h1 : j ≠ p.1) (h2 : j ≠ p.2) :
    (s.renewPair st n p).obj j = s.obj j := by
  unfold State.renewPair
  split
  · rw [obj_setPersOr_other _ _ h2, obj_setPersOr_other _ _ h1]
  · rfl

theorem obj_renewDeadline (s : State) (f : Nat) {j : Nat} (h : j ≠ K.RETRY_DEADLINE f) : (s.renewDeadline f).obj j = s.obj j := by
  unfold State.renewDeadline
  dsimp only
  split
  · rw [obj_setPers, if_neg h]
  · rfl

theorem renewRecs_same {L : Nat} {z s : State} (hL : 35184372089104 &&& L = 35184372089104) (h : Agree L z s) (n : Count)
    (l : List RecTick) : Agree L z (l.foldl (State.renewRec n) s) :=
  same_foldl _ l h fun _ x h => State.renewRec_same hL h n x

/-- Renewing the stamps of a tick changes no object but those that show stamps. -/
theorem obj_renewStamps (s : State) (n : Count) {j : Nat} (hj : j ∉ stampKeys) : (s.renewStamps n).obj j = s.obj j := by
  unfold stampKeys at hj
  rw [List.mem_append, not_or] at hj
  obtain ⟨hp, hd⟩ := hj
  have pair : ∀ (st : Stamp) (t : State), (stampPairs.foldl (State.renewPair st n) t).obj j = t.obj j := fun st =>
    obj_foldl _ _ j fun t p hm => obj_renewPair t st n p
      (fun e => hp (List.mem_flatMap.2 ⟨p, hm, by simp [e]⟩)) (fun e => hp (List.mem_flatMap.2 ⟨p, hm, by simp [e]⟩))
  have recs : ∀ (l : List RecTick) (t : State), (l.foldl (State.renewRec n) t).obj j = t.obj j := fun l t =>
    (renewRecs_same rfl (Agree.refl 35184372089104 t) n l).obj rfl j
  have log : ∀ t : State, (t.renewLog n).obj j = t.obj j := fun t =>
    (State.renewLog_same rfl (Agree.refl 17592186044688 t) n).obj rfl j
  have deadlines : ∀ t : State, ((t.renewDeadline 0).renewDeadline 1).obj j = t.obj j := fun t => by
    rw [obj_renewDeadline _ 1 (fun e => hd (by simp [e])), obj_renewDeadline _ 0 (fun e => hd (by simp [e]))]
  unfold State.renewStamps
  dsimp only
  split
  · rw [deadlines, recs]
    rfl
  · rw [pair, log, deadlines, recs]
    rfl

/-! ### The edge recorded (R13, R88) -/

@[simp] theorem Stip.renew_state (n : Count) (t : Nat) (r : Stip) : (r.renew n t).state = r.state := by
  unfold Stip.renew
  split <;> rfl

@[simp] theorem Stip.renew_beat (n : Count) (t : Nat) (r : Stip) : (r.renew n t).beat = r.beat := by
  unfold Stip.renew
  split <;> rfl

theorem renewStamps_stips (s : State) (n : Count) : (s.renewStamps n).stips = mapVals (Stip.renew n s.fab.tick) s.stips := by
  have deadlines : ∀ (l : List RecTick) (t : State),
      Agree 52776558133528 t (((l.foldl (State.renewRec n) t).renewDeadline 0).renewDeadline 1) := fun l t =>
    State.renewDeadline_same rfl (State.renewDeadline_same rfl (renewRecs_same rfl (Agree.refl _ t) n l) 0) 1
  unfold State.renewStamps
  dsimp only
  split
  · exact ((deadlines _ _).stips rfl).trans rfl
  · refine ((same_foldl _ stampPairs (State.renewLog_same rfl (deadlines _ _) n) fun _ p h => ?_).stips rfl).trans rfl
    exact State.renewPair_same rfl h _ n p

/-- Renewing the stamps of a tick changes nothing that a scheduled operation waits for. -/
theorem awaits_renewStamps (s : State) (n m : Count) : (s.renewStamps n).awaits m = s.awaits m := by
  have h : Agree 52776563053912 s (s.renewStamps n) := State.renewStamps_same rfl (Agree.refl _ s) n
  unfold State.awaits
  rw [renewStamps_stips, h.margins rfl, h.cap rfl, h.upd rfl]
  simp only [mapVals, List.any_map, Function.comp_def, Stip.renew_state, Stip.renew_beat]

theorem recordEdge_fab (s : State) (n : Count) :
    (s.recordEdge n).fab = { s.fab with
      count := n, edgeTick := s.fab.tick,
      edges := ((n, (s.fab.tick : Int)) :: s.fab.edges).take 1024,
      kept := (((n, (s.fab.tick : Int)) :: s.fab.edges).drop 1024 ++ s.fab.kept).filter (fun e => s.awaits e.1) } := by
  have h : (s.renewStamps n).fab = s.fab := (State.renewStamps_same rfl (Agree.refl 52776563053912 s) n).fab rfl
  unfold State.recordEdge State.keepEdges
  simp only [h, awaits_renewStamps]
  rfl

theorem obj_recordEdge (s : State) (n : Count) {j : Nat} (hj : j ∉ stampKeys) : (s.recordEdge n).obj j = s.obj j :=
  obj_renewStamps s n hj

@[simp] theorem recordEdge_convoy (s : State) (n : Count) : (s.recordEdge n).convoy = s.convoy :=
  (State.recordEdge_same rfl (Agree.refl 52776563053916 s) n).convoy rfl

/-! ### The waystation and the version that come into force (R79) -/

/-- The waystation that waits comes into force. -/
def State.newWay (s : State) (way : Option Nat) (late : Option Count) : State :=
  match way with
  | some w => ({ s with convoy := { s.convoy with wayNew := none, late := none } }).enterWay w late
  | none => s

/-- The version of the frame heard comes into force; 0 names none. -/
def State.newVersion (s : State) (ver : Option Nat) : State :=
  match ver with
  | some v => if v = 0 then s else s.enterVersion v
  | none => s

theorem newWay_same {L : Nat} {z s : State} (hL : 67240008 &&& L = 67240008) (h : Agree L z s) (way : Option Nat)
    (late : Option Count) : Agree L z (s.newWay way late) := by
  cases way with
  | none => exact h
  | some w => exact State.enterWay_same hL ((same_convoy (sub_trans rfl hL) _).2 h) w late

theorem newVersion_same {L : Nat} {z s : State} (hL : 67108928 &&& L = 67108928) (h : Agree L z s) (ver : Option Nat) :
    Agree L z (s.newVersion ver) := by
  cases ver with
  | none => exact h
  | some v => exact same_ite h (State.enterVersion_same hL h v)

@[simp] theorem enterWay_convoy (s : State) (w : Nat) (late : Option Count) :
    (s.enterWay w late).convoy = { s.convoy with way := w } := by
  unfold State.enterWay
  dsimp only
  split
  · simp only [State.raise_convoy, State.bumpLive_convoy]
  · rfl

@[simp] theorem enterVersion_convoy (s : State) (v : Nat) : (s.enterVersion v).convoy = { s.convoy with version := v } := by
  unfold State.enterVersion
  dsimp only
  split
  · simp only [State.raise_convoy]
  · rfl

theorem obj_enterWay (s : State) (w : Nat) (late : Option Count) {j : Nat} (h : j ≠ K.LATE_WAYSTATIONS) :
    (s.enterWay w late).obj j = s.obj j := by
  unfold State.enterWay
  dsimp only
  split
  · rw [State.raise_obj, obj_bumpLive, if_neg h]
    rfl
  · rfl

theorem obj_newWay (s : State) (way : Option Nat) (late : Option Count) {j : Nat} (h : j ≠ K.LATE_WAYSTATIONS) :
    (s.newWay way late).obj j = s.obj j := by
  cases way with
  | none => rfl
  | some w => exact obj_enterWay _ w late h

/-- Where the waystation that waits is the unit's own, none waits afterwards. -/
theorem newWay_convoy (s : State) (late : Option Count) :
    (s.newWay s.convoy.wayNew late).convoy = { s.convoy with
      way := s.convoy.wayNew.getD s.convoy.way, wayNew := none,
      late := if s.convoy.wayNew.isSome = true then none else s.convoy.late } := by
  unfold State.newWay
  cases h : s.convoy.wayNew with
  | none =>
    show s.convoy = { s.convoy with wayNew := none }
    rw [← h]
  | some w => exact enterWay_convoy _ w late

/-- The version in force once a frame's version is taken. -/
def Convoy.versionAfter (c : Convoy) (ver : Option Nat) : Nat :=
  match ver with
  | some v => if v = 0 then c.version else v
  | none => c.version

theorem newVersion_convoy (s : State) (ver : Option Nat) :
    (s.newVersion ver).convoy = { s.convoy with version := s.convoy.versionAfter ver } := by
  cases ver with
  | none => rfl
  | some v =>
    by_cases h : v = 0
    · simp [State.newVersion, Convoy.versionAfter, h]
    · simp [State.newVersion, Convoy.versionAfter, h]

/-! ### A beat edge of a unit in the convoy (R13, R68, R69, R76, R79) -/

/-- The version of a frame of this beat. -/
def Convoy.heardVersion (c : Convoy) : Option Nat := if c.frameThisBeat then c.lastFrame.map Frame.version else none

/-- A beat edge up to the judgement of presence: count, waystation and version, other blocks. -/
def State.edgeWork (s : State) : State :=
  ((((({ s with convoy := { s.convoy with readyFrame := s.convoy.matched } }).recordEdge (s.fab.count + 1)).bumpLive
    K.BEATS).newWay s.convoy.wayNew s.convoy.late).newVersion s.convoy.heardVersion).beatWork

theorem unitEdge_eq (s : State) (q : Option (Nat × Nat)) :
    s.unitEdge q = s.edgeWork.judgeBeat (s.convoy.matched && s.coresUp) q := by rfl

@[simp] theorem beatWork_convoy (s : State) : s.beatWork.convoy = s.convoy :=
  (State.beatWork_same rfl (Agree.refl 38207520 s)).convoy rfl

theorem edgeWork_fab (s : State) :
    s.edgeWork.fab = { s.fab with
      count := s.fab.count + 1, edgeTick := s.fab.tick,
      edges := ((s.fab.count + 1, (s.fab.tick : Int)) :: s.fab.edges).take 1024,
      kept := (((s.fab.count + 1, (s.fab.tick : Int)) :: s.fab.edges).drop 1024 ++ s.fab.kept).filter
        (fun e => s.awaits e.1) } := by
  have h := State.beatWork_same (L := 105316456) rfl (newVersion_same rfl (newWay_same rfl
    (Agree.refl _ ((({ s with convoy := { s.convoy with readyFrame := s.convoy.matched } }).recordEdge
      (s.fab.count + 1)).bumpLive K.BEATS)) s.convoy.wayNew s.convoy.late) s.convoy.heardVersion)
  exact (h.fab rfl).trans (recordEdge_fab _ _)

/-- A beat edge counts BEATS and changes no object but those that show stamps and LATE_WAYSTATIONS. -/
theorem obj_edgeWork (s : State) {j : Nat} (hs : j ∉ stampKeys) (hl : j ≠ K.LATE_WAYSTATIONS) :
    s.edgeWork.obj j = if j = K.BEATS then sat32 (s.obj K.BEATS + 1) else s.obj j := by
  have work : ∀ t : State, t.beatWork.obj j = t.obj j := fun t => (State.beatWork_same rfl (Agree.refl 38207520 t)).obj rfl j
  have ver : ∀ (t : State) v, (t.newVersion v).obj j = t.obj j := fun t v =>
    (newVersion_same rfl (Agree.refl 67108928 t) v).obj rfl j
  unfold State.edgeWork
  rw [work, ver, obj_newWay _ _ _ hl, obj_bumpLive, obj_recordEdge _ _ hs, obj_recordEdge _ _ (by decide)]
  rfl

theorem edgeWork_convoy (s : State) :
    s.edgeWork.convoy = { s.convoy with
      readyFrame := s.convoy.matched, way := s.convoy.wayNew.getD s.convoy.way, wayNew := none,
      late := if s.convoy.wayNew.isSome = true then none else s.convoy.late,
      version := s.convoy.versionAfter s.convoy.heardVersion } := by
  have h := newWay_convoy ((({ s with convoy := { s.convoy with readyFrame := s.convoy.matched } }).recordEdge
    (s.fab.count + 1)).bumpLive K.BEATS) s.convoy.late
  rw [State.bumpLive_convoy, recordEdge_convoy] at h
  unfold State.edgeWork
  rw [beatWork_convoy, newVersion_convoy, h]
  rfl

theorem judgeBeat_fab (s : State) (ready : Bool) (q : Option (Nat × Nat)) : (s.judgeBeat ready q).fab = s.fab :=
  (State.judgeBeat_same rfl (Agree.refl 335544328 s) ready q).fab rfl

theorem obj_judgeBeat (s : State) (ready : Bool) (q : Option (Nat × Nat)) {j : Nat} (h : j ≠ K.OBJECTIONS) :
    (s.judgeBeat ready q).obj j = s.obj j := by
  unfold State.judgeBeat State.updBeat
  dsimp only
  split
  · exact (obj_bumpLive _ _ _).trans (if_neg h)
  · rfl

/-- Presence, halt hold and objection as judged at an edge. -/
theorem judgeBeat_convoy (s : State) (ready : Bool) (q : Option (Nat × Nat)) :
    (s.judgeBeat ready q).convoy = { s.convoy with
      present := ready, held := !ready, halting := s.objB K.HALT_REQUEST,
      objecting := ready && q.any (fun p => s.objectsTo p.1 p.2), disagrees := q.any (fun p => s.objectsTo p.1 p.2),
      frameThisBeat := false, matched := false, msgOpen := false, replied := false, sending := false } := by
  unfold State.judgeBeat State.updBeat
  dsimp only
  split <;> rfl

/-! ### The forced release, the settings, leaving the convoy (R68, R91, R98) -/

/-- Letting go happens only while the unit holds. -/
theorem forcedRelease_of_notHeld {s : State} (h : s.convoy.held = false) : s.forcedRelease = s := by
  simp [State.forcedRelease, h]

theorem forcedRelease_of_due {s : State} (h : s.convoy.held = true) (ho : 400 ≤ s.offset) :
    s.forcedRelease
      = (({ s with convoy := { s.convoy with held := false } }).bumpLive K.ABSENCES).raise 0x70 0x01 0 := by
  simp [State.forcedRelease, h, ho]

theorem ite_held_forcedRelease (s : State) : (if s.convoy.held then s.forcedRelease else s) = s.forcedRelease := by
  split
  · rfl
  · next h => exact (forcedRelease_of_notHeld (Bool.eq_false_iff.2 h)).symm

@[simp] theorem forcedRelease_convoy (s : State) :
    s.forcedRelease.convoy = { s.convoy with held := s.convoy.held && decide (s.offset < 400) } := by
  by_cases h : s.convoy.held = true
  · by_cases ho : 400 ≤ s.offset
    · rw [forcedRelease_of_due h ho, State.raise_convoy, State.bumpLive_convoy]
      simp [Nat.not_lt.2 ho]
    · simp [State.forcedRelease, ho, Nat.lt_of_not_le ho]
  · rw [Bool.not_eq_true] at h
    rw [forcedRelease_of_notHeld h, h]
    exact congrArg (fun b => { s.convoy with held := b }) h

theorem forcedRelease_agree (s : State) : Agree 67108936 s s.forcedRelease := State.forcedRelease_same rfl (Agree.refl _ s)

@[simp] theorem forcedRelease_fab (s : State) : s.forcedRelease.fab = s.fab := (forcedRelease_agree s).fab rfl

theorem obj_forcedRelease (s : State) {j : Nat} (h : j ≠ K.ABSENCES) : s.forcedRelease.obj j = s.obj j := by
  unfold State.forcedRelease
  split
  · rw [State.raise_obj, obj_bumpLive, if_neg h]
    rfl
  · rfl

theorem forcedRelease_enable (s : State) : s.forcedRelease.objB K.CONVOY_ENABLE = s.objB K.CONVOY_ENABLE := by
  unfold State.objB
  rw [obj_forcedRelease s (by decide)]

@[simp] theorem forcedRelease_convoySettings (s : State) : s.forcedRelease.convoySettings = s.convoySettings := by
  unfold State.convoySettings State.objB
  simp only [obj_forcedRelease s (show K.CONVOY_ENABLE ≠ K.ABSENCES by decide),
    obj_forcedRelease s (show K.UNIT_ADDR ≠ K.ABSENCES by decide), obj_forcedRelease s (show K.SEG_ID ≠ K.ABSENCES by decide),
    obj_forcedRelease s (show K.SEG_COUNT ≠ K.ABSENCES by decide), obj_forcedRelease s (show K.RELAY ≠ K.ABSENCES by decide),
    obj_forcedRelease s (show K.LEADER_RANK ≠ K.ABSENCES by decide)]

/-- With CONVOY_ENABLE 1 an edge brings the settings into effect, and nothing else. -/
theorem takeSettings_of_enabled {s : State} (h : s.objB K.CONVOY_ENABLE = true) :
    s.takeSettings = { s with convoy := { s.convoy with set := s.convoySettings, offAt := none } } := by
  unfold State.takeSettings
  exact if_pos (Or.inl h)

/-- When the first solo beat comes after CONVOY_ENABLE 0 has led to DISABLED (R91). -/
def State.dueAfterLeave (s : State) : Nat :=
  if s.convoy.state.inConvoy then max (s.convoy.offAt.getD s.fab.tick + 200000) s.fab.tick else s.convoy.soloDue

/-- With CONVOY_ENABLE 0 a unit that is not DISABLED leaves for it. -/
theorem takeSettings_of_leaving {s : State} (h : s.objB K.CONVOY_ENABLE = false) (hd : s.convoy.state ≠ .disabled) :
    s.takeSettings = ({ s with convoy := { s.convoy with set := s.convoySettings, offAt := none } }).leaveConvoy .disabled
      s.dueAfterLeave := by
  unfold State.takeSettings
  exact if_neg (not_or.2 ⟨fun e => Bool.noConfusion (h.symm.trans e), hd⟩)

/-! ### The pins driven -/

/-- Driving the pins changes the samples and the pins alone. -/
theorem drive_convoy (s : State) :
    ∃ haltSample voteSample holdLow dataLow cscOut, s.drive.convoy = { s.convoy with
      haltSample := haltSample, voteSample := voteSample, holdLow := holdLow, dataLow := dataLow, cscOut := cscOut } := by
  unfold State.drive
  split <;> exact ⟨_, _, _, _, _, rfl⟩

theorem drive_agree (s : State) : Agree 67108864 s s.drive := State.drive_same rfl (Agree.refl _ s)

@[simp] theorem drive_fab (s : State) : s.drive.fab = s.fab := (drive_agree s).fab rfl

@[simp] theorem drive_obj (s : State) (j : Nat) : s.drive.obj j = s.obj j := (drive_agree s).obj rfl j

/-! ### BEAT_EDGE by cases (R67, R69) -/

theorem exec_beatEdge_of_pins {s : State} (hc : s.clocked = true) (hv : s.vioGone = false) :
    exec .beatEdge s = .next s.beatEdge.drive.after := by
  simp [exec_beatEdge, State.event, hc, hv]

/-- An edge that is taken at once is none that a frame has to confirm. -/
theorem maybeEdge_of_takesEdge {s : State} (h : s.takesEdge = true) : s.maybeEdge = false := by
  unfold State.takesEdge at h
  unfold State.maybeEdge
  cases he : s.convoy.edgeFrom with
  | none => simp
  | some t =>
    simp only [he, Bool.and_eq_true, decide_eq_true_eq] at h
    simp only [Option.any_some, Bool.and_eq_false_iff, decide_eq_false_iff_not]
    right
    omega

/-- A unit that halted continues at the next edge (R69). -/
def State.endHalt (s : State) : State :=
  if s.convoy.state = .halted then
    { s with convoy := { s.convoy with state := .member, stuckFrom := if s.convoy.cscIn then none else some s.fab.tick } }
  else s

theorem beatEdge_of_takesEdge {s : State} (hs : s.serving = true) (ht : s.takesEdge = true) :
    s.beatEdge =
      if s.forcedRelease.convoy.state = .solo then
        match s.forcedRelease.convoy.join with
        | some f =>
          let s3 := s.forcedRelease.noteEdge.takeSettings
          if s3.convoy.state = .solo then (s3.joinConvoy f).noteEdge.joined else s3
        | none => s.forcedRelease.soloEdge s.forcedRelease.fab.tick
      else
        let s2 := s.forcedRelease.takeSettings
        if s2.convoy.state = .disabled then s2 else (s2.endHalt.unitEdge s2.endHalt.convoy.question).noteEdge := by
  unfold State.beatEdge
  rw [if_neg (by simp [maybeEdge_of_takesEdge ht]), if_neg (by simp [hs, ht]), ite_held_forcedRelease]
  rfl

/-! ### What a beat edge of a unit in the convoy comes to -/

theorem unitEdge_fab (s : State) (q : Option (Nat × Nat)) : (s.unitEdge q).fab = s.edgeWork.fab := by
  rw [unitEdge_eq, judgeBeat_fab]

theorem unitEdge_beats (s : State) (q : Option (Nat × Nat)) :
    (s.unitEdge q).obj K.BEATS = sat32 (s.obj K.BEATS + 1) := by
  rw [unitEdge_eq, obj_judgeBeat _ _ _ (by decide), obj_edgeWork s (by decide) (by decide), if_pos rfl]

theorem edgeWork_haltRequest (s : State) : s.edgeWork.objB K.HALT_REQUEST = s.objB K.HALT_REQUEST := by
  unfold State.objB
  rw [obj_edgeWork s (by decide) (by decide), if_neg (by decide)]

theorem unitEdge_convoy (s : State) (q : Option (Nat × Nat)) :
    (s.unitEdge q).convoy = { s.convoy with
      readyFrame := s.convoy.matched, way := s.convoy.wayNew.getD s.convoy.way, wayNew := none,
      late := if s.convoy.wayNew.isSome = true then none else s.convoy.late,
      version := s.convoy.versionAfter s.convoy.heardVersion,
      present := s.convoy.matched && s.coresUp, held := !(s.convoy.matched && s.coresUp),
      halting := s.objB K.HALT_REQUEST,
      objecting := (s.convoy.matched && s.coresUp) && q.any (fun p => s.edgeWork.objectsTo p.1 p.2),
      disagrees := q.any (fun p => s.edgeWork.objectsTo p.1 p.2),
      frameThisBeat := false, matched := false, msgOpen := false, replied := false, sending := false } := by
  rw [unitEdge_eq, judgeBeat_convoy, edgeWork_convoy, edgeWork_haltRequest]

theorem noteEdge_convoy (s : State) :
    s.noteEdge.convoy = { s.convoy with edgeFrom := some (s.fab.tick : Int), lastEdge := s.fab.tick } := rfl

@[simp] theorem noteEdge_fab (s : State) : s.noteEdge.fab = s.fab := rfl

@[simp] theorem noteEdge_obj (s : State) (j : Nat) : s.noteEdge.obj j = s.obj j := rfl

/-! ### MEMBER and HALTED (R67, R68, R69, R76, R79) -/

/-- The state in which a unit in the convoy judges an edge: it has let go, the settings are in effect, a halt has ended. -/
def State.edgeReady (s : State) : State := s.forcedRelease.takeSettings.endHalt

theorem endHalt_agree {L : Nat} {z s : State} (hL : 67108864 &&& L = 67108864) (h : Agree L z s) : Agree L z s.endHalt :=
  same_ite ((same_convoy hL _).2 h) h

theorem edgeReady_agree (s : State) : Agree 67108936 s s.edgeReady :=
  endHalt_agree rfl (State.takeSettings_same rfl (forcedRelease_agree s))

theorem endHalt_convoy {s : State} (h : s.convoy.state = .member ∨ s.convoy.state = .halted) :
    ∃ stuckFrom, s.endHalt.convoy = { s.convoy with state := .member, stuckFrom := stuckFrom } := by
  unfold State.endHalt
  split
  · exact ⟨_, rfl⟩
  · next hn =>
    refine ⟨s.convoy.stuckFrom, ?_⟩
    rw [← h.resolve_right hn]

theorem endHalt_obj (s : State) (j : Nat) : s.endHalt.obj j = s.obj j :=
  (endHalt_agree rfl (Agree.refl 67108864 s)).obj rfl j

theorem edgeReady_obj {s : State} (he : s.objB K.CONVOY_ENABLE = true) {j : Nat} (hj : j ≠ K.ABSENCES) :
    s.edgeReady.obj j = s.obj j := by
  unfold State.edgeReady
  rw [endHalt_obj, takeSettings_of_enabled ((forcedRelease_enable s).trans he)]
  exact obj_forcedRelease s hj

section InConvoy
variable {s : State} (hm : s.convoy.state = .member ∨ s.convoy.state = .halted)
include hm

theorem forcedRelease_ne_solo : s.forcedRelease.convoy.state ≠ .solo := by
  rw [forcedRelease_convoy]
  rcases hm with h | h <;> simp [h]

theorem forcedRelease_ne_disabled : s.forcedRelease.convoy.state ≠ .disabled := by
  rw [forcedRelease_convoy]
  rcases hm with h | h <;> simp [h]

theorem edgeReady_convoy (he : s.objB K.CONVOY_ENABLE = true) :
    ∃ stuckFrom, s.edgeReady.convoy = { s.convoy with
      state := .member, held := s.convoy.held && decide (s.offset < 400), set := s.convoySettings, offAt := none,
      stuckFrom := stuckFrom } := by
  have ht := takeSettings_of_enabled ((forcedRelease_enable s).trans he)
  obtain ⟨x, hx⟩ := endHalt_convoy (s := s.forcedRelease.takeSettings) (by rw [ht]; simpa using hm)
  refine ⟨x, hx.trans ?_⟩
  rw [ht, forcedRelease_convoy, forcedRelease_convoySettings]

theorem beatEdge_of_enabled (hs : s.serving = true) (ht : s.takesEdge = true) (he : s.objB K.CONVOY_ENABLE = true) :
    s.beatEdge = (s.edgeReady.unitEdge s.edgeReady.convoy.question).noteEdge := by
  have hd : s.forcedRelease.takeSettings.convoy.state ≠ .disabled := by
    rw [takeSettings_of_enabled ((forcedRelease_enable s).trans he)]
    exact forcedRelease_ne_disabled hm
  rw [beatEdge_of_takesEdge hs ht, if_neg (forcedRelease_ne_solo hm)]
  exact if_neg hd

theorem beatEdge_of_disabling (hs : s.serving = true) (ht : s.takesEdge = true) (he : s.objB K.CONVOY_ENABLE = false) :
    s.beatEdge = s.forcedRelease.takeSettings := by
  rw [beatEdge_of_takesEdge hs ht, if_neg (forcedRelease_ne_solo hm)]
  refine if_pos ?_
  rw [takeSettings_of_leaving ((forcedRelease_enable s).trans he) (forcedRelease_ne_disabled hm)]
  rfl

theorem beatEdge_fab_of_enabled (hs : s.serving = true) (ht : s.takesEdge = true) (he : s.objB K.CONVOY_ENABLE = true) :
    s.beatEdge.fab = { s.fab with
      count := s.fab.count + 1, edgeTick := s.fab.tick,
      edges := ((s.fab.count + 1, (s.fab.tick : Int)) :: s.fab.edges).take 1024,
      kept := (((s.fab.count + 1, (s.fab.tick : Int)) :: s.fab.edges).drop 1024 ++ s.fab.kept).filter
        (fun e => s.awaits e.1) } := by
  have ha := edgeReady_agree s
  rw [beatEdge_of_enabled hm hs ht he, noteEdge_fab, unitEdge_fab, edgeWork_fab, ha.fab rfl]
  simp only [ha.awaits rfl rfl rfl rfl]

theorem beatEdge_beats_of_enabled (hs : s.serving = true) (ht : s.takesEdge = true) (he : s.objB K.CONVOY_ENABLE = true) :
    s.beatEdge.obj K.BEATS = min (s.obj K.BEATS + 1) (2 ^ 32 - 1) := by
  rw [beatEdge_of_enabled hm hs ht he, noteEdge_obj, unitEdge_beats, edgeReady_obj he (by decide)]
  rfl

end InConvoy

/-! ### Leaving for DISABLED (R91, R98) -/

/-- What a unit that leaves for DISABLED holds. -/
theorem takeSettings_leaves {s : State} (h : s.objB K.CONVOY_ENABLE = false) (hd : s.convoy.state ≠ .disabled) :
    s.takeSettings.convoy.state = .disabled ∧ s.takeSettings.convoy.set = s.convoySettings
      ∧ s.takeSettings.convoy.present = false ∧ s.takeSettings.convoy.held = false
      ∧ s.takeSettings.convoy.soloDue = s.dueAfterLeave := by
  rw [takeSettings_of_leaving h hd]
  exact ⟨rfl, rfl, rfl, rfl, rfl⟩

@[simp] theorem takeSettings_fab (s : State) : s.takeSettings.fab = s.fab :=
  (State.takeSettings_same rfl (Agree.refl 67108872 s)).fab rfl

/-! ### SOLO (R67, R91, R92) -/

section Solo
variable {s : State} (hs : s.serving = true) (ht : s.takesEdge = true) (hsolo : s.convoy.state = .solo)
include hs ht hsolo

theorem beatEdge_of_noFrames (hj : s.convoy.join = none) : s.beatEdge = s.forcedRelease.soloEdge s.fab.tick := by
  rw [beatEdge_of_takesEdge hs ht, if_pos (by simpa using hsolo)]
  simp only [forcedRelease_convoy, hj, forcedRelease_fab]

theorem beatEdge_of_frames {f : Frame} (hj : s.convoy.join = some f) :
    s.beatEdge =
      if s.forcedRelease.noteEdge.takeSettings.convoy.state = .solo then
        (s.forcedRelease.noteEdge.takeSettings.joinConvoy f).noteEdge.joined
      else s.forcedRelease.noteEdge.takeSettings := by
  rw [beatEdge_of_takesEdge hs ht, if_pos (by simpa using hsolo)]
  simp only [forcedRelease_convoy, hj]

/-- With CONVOY_ENABLE 0 an edge leads a SOLO unit to DISABLED, two frames heard or not. -/
theorem beatEdge_solo_leaves (he : s.objB K.CONVOY_ENABLE = false) :
    s.beatEdge.convoy.state = .disabled ∧ s.beatEdge.convoy.set = s.convoySettings
      ∧ s.beatEdge.convoy.soloDue = s.convoy.soloDue ∧ s.beatEdge.fab = s.fab := by
  have he' : s.forcedRelease.objB K.CONVOY_ENABLE = false := (forcedRelease_enable s).trans he
  have hd : s.forcedRelease.convoy.state ≠ .disabled := by simp [hsolo]
  have due : ∀ t : State, t.convoy.state = .solo → t.dueAfterLeave = t.convoy.soloDue := fun t h => by
    simp [State.dueAfterLeave, h, ConvoyState.inConvoy]
  cases hj : s.convoy.join with
  | none =>
    obtain ⟨hstate, hset, -, -, hdue⟩ := takeSettings_leaves he' hd
    have hb : s.beatEdge = s.forcedRelease.takeSettings := by
      rw [beatEdge_of_noFrames hs ht hsolo hj]
      exact if_pos hstate
    rw [hb, hset, hdue, due _ (by simpa using hsolo)]
    simp [hstate]
  | some f =>
    obtain ⟨hstate, hset, -, -, hdue⟩ := takeSettings_leaves (s := s.forcedRelease.noteEdge) he' hd
    have hb : s.beatEdge = s.forcedRelease.noteEdge.takeSettings := by
      rw [beatEdge_of_frames hs ht hsolo hj]
      exact if_neg (by simp [hstate])
    rw [hb, hset, hdue, due _ (by simpa [noteEdge_convoy] using hsolo)]
    refine ⟨hstate, forcedRelease_convoySettings s, ?_, ?_⟩
    · simp [noteEdge_convoy]
    · simp [noteEdge_fab]

end Solo

/-! ### Joining a convoy (R92, Table 3.8) -/

theorem rebase_fab (s : State) (c : Count) :
    (s.rebase c).fab = { s.fab with
      count := c, edges := s.fab.edges.map (shiftPair (c - s.fab.count)),
      kept := s.fab.kept.map (shiftPair (c - s.fab.count)) } := by
  have feeds : ∀ (t : State) (d : Nat), ((t.rebaseFeed d 0).rebaseFeed d 1).fab = t.fab := fun t d =>
    (State.rebaseFeed_same rfl (State.rebaseFeed_same rfl (Agree.refl 33554696 t) d 0) d 1).fab rfl
  unfold State.rebase
  dsimp only
  rw [State.bumpLive_fab, feeds]

/-- A unit that has heard two frames, in its state before the edge at which it joins. -/
def State.joinReady (s : State) (f : Frame) : State :=
  let s1 := (s.renewStamps (f.count + 1)).rebase f.count
  { s1 with convoy := { s1.convoy with
    state := .member, join := none, lastFrame := some f, frameThisBeat := true, matched := true,
    leaderAddr := f.leaderAddr, oldWay := some f.count, late := none,
    wayNew := if f.wayNext = s1.convoy.way then none else some f.wayNext } }

theorem joinConvoy_eq (s : State) (f : Frame) :
    s.joinConvoy f = (s.joinReady f).unitEdge (s.joinReady f).convoy.question := rfl

theorem joinReady_agree (s : State) (f : Frame) : Agree 52776934251868 s (s.joinReady f) :=
  (same_convoy rfl _).2 (State.rebase_same rfl (State.renewStamps_same rfl (Agree.refl _ s) _) f.count)

theorem joinReady_fab (s : State) (f : Frame) :
    (s.joinReady f).fab.count = f.count ∧ (s.joinReady f).fab.tick = s.fab.tick := by
  have hfab : (s.renewStamps (f.count + 1)).fab = s.fab :=
    (State.renewStamps_same rfl (Agree.refl 52776563053912 s) _).fab rfl
  unfold State.joinReady
  dsimp only
  rw [rebase_fab, hfab]
  exact ⟨rfl, rfl⟩

/-- The frame's waystation is the unit's own or waits. -/
theorem joinReady_way (s : State) (f : Frame) :
    (s.joinReady f).convoy.wayNew.getD (s.joinReady f).convoy.way = f.wayNext := by
  unfold State.joinReady
  dsimp only
  split
  · next h => exact h.symm
  · rfl

/-- A unit that joins is a member at the frame's count plus 1, on the frame's waystation and under its leader; it is present
where its cores run. -/
theorem joinConvoy_joins (s : State) (f : Frame) :
    (s.joinConvoy f).fab.count = f.count + 1 ∧ (s.joinConvoy f).fab.edgeTick = s.fab.tick
      ∧ (s.joinConvoy f).convoy.state = .member ∧ (s.joinConvoy f).convoy.way = f.wayNext
      ∧ (s.joinConvoy f).convoy.leaderAddr = f.leaderAddr ∧ (s.joinConvoy f).convoy.present = s.coresUp
      ∧ (s.joinConvoy f).convoy.join = none := by
  obtain ⟨hcount, htick⟩ := joinReady_fab s f
  rw [joinConvoy_eq, unitEdge_fab, edgeWork_fab, unitEdge_convoy, hcount, htick, joinReady_way,
    (joinReady_agree s f).coresUp rfl rfl]
  exact ⟨rfl, rfl, rfl, rfl, rfl, rfl, rfl⟩

theorem joined_agree (s : State) : Agree 10 s s.joined := State.joined_same rfl (Agree.refl _ s)

/-! ### The rows -/

/-- The fields that a beat edge may change. -/
def edgeFields : List Fld :=
  [.phase, .fab, .objs, .mem, .lanes, .coll, .store, .conv, .cap, .ring, .rails, .seq, .pmb, .railWins, .margins, .stips,
    .feeds, .convoy, .upd]

theorem beatEdge_drive_sameBut (s : State) : s.SameBut edgeFields s.beatEdge.drive :=
  (State.drive_same rfl (State.beatEdge_same rfl (Agree.refl 52776934514046 s))).sameBut_fields (by decide)

theorem edges_without_vio {s : State} (hc : s.clocked = true) (hv : s.vioGone = true) :
    exec .beatEdge s = .next s.drive.after ∧ exec .spuriousEdge s = .next s.drive.after := by
  simp [exec_beatEdge, exec_spuriousEdge, State.event, hc, hv]

section Clocked
variable {s : State} (hc : s.clocked = true) (hs : s.serving = true)
include hc hs

theorem beatEdge_takes_solo (hv : s.vioGone = false) (ht : s.takesEdge = true) (hsolo : s.convoy.state = .solo)
    (hh : s.convoy.held = false) (hj : s.convoy.join = none) (he : s.objB K.CONVOY_ENABLE = true) :
    exec .beatEdge s
      = .next (({ s.bumpLive K.BEATS with convoy := { s.convoy with
          set := s.convoySettings, offAt := none,
          edgeFrom := some (s.fab.tick : Int), lastEdge := s.fab.tick,
          soloDue := (max s.fab.edgeTick (s.fab.tick : Int)).toNat + 200000,
          frameThisBeat := false, maybe := s.convoy.maybe.filter (fun e => decide (s.fab.tick < e)) } }).drive).after := by
  have hd : s.takeSettings.convoy.state ≠ .disabled := by simp [takeSettings_of_enabled he, hsolo]
  rw [exec_beatEdge_of_pins hc hv, beatEdge_of_noFrames hs ht hsolo hj, forcedRelease_of_notHeld hh]
  unfold State.soloEdge
  rw [if_neg hd, takeSettings_of_enabled he]
  rfl

theorem beatEdge_keeps_candidate {t : Int} (hv : s.vioGone = false) (hsolo : s.convoy.state = .solo)
    (hf : s.convoy.edgeFrom = some t) (hlt : s.fab.tick < t + 68000) :
    exec .beatEdge s
      = .next (({ s with convoy := { s.convoy with
          maybe := s.fab.tick :: s.convoy.maybe.filter (fun e => decide (s.fab.tick < e + 72000)) } }).drive).after := by
  have hm : s.serving = true ∧ s.maybeEdge = true := ⟨hs, by simp [State.maybeEdge, hsolo, hf, hlt]⟩
  rw [exec_beatEdge_of_pins hc hv]
  unfold State.beatEdge
  rw [if_pos hm]

theorem spuriousEdge_counts {t : Int} (hv : s.vioGone = false) (hf : s.convoy.edgeFrom = some t)
    (hd : s.convoy.state ≠ .disabled) (hlo : t + 68000 ≤ s.fab.tick) (hhi : s.fab.tick < t + 72000) :
    exec .spuriousEdge s = .next (((s.bumpLive K.SPURIOUS_EDGES).raise 0x70 0x04 0).drive).after := by
  have hw : s.spuriousEdge = (s.bumpLive K.SPURIOUS_EDGES).raise 0x70 0x04 0 := by
    unfold State.spuriousEdge
    rw [hf]
    exact if_pos ⟨hs, hd, hlo, hhi⟩
  simp [exec_spuriousEdge, State.event, hc, hv, hw]

end Clocked

section Pins
variable {s : State} (hs : s.serving = true) (ht : s.takesEdge = true)
include hs ht

theorem beatEdge_convoy_of_enabled (hm : s.convoy.state = .member ∨ s.convoy.state = .halted)
    (he : s.objB K.CONVOY_ENABLE = true) :
    let c := s.beatEdge.drive.convoy
    c.state = .member ∧ c.set = s.convoySettings
      ∧ c.present = (s.convoy.matched && s.coresUp) ∧ c.held = !(s.convoy.matched && s.coresUp)
      ∧ c.halting = s.objB K.HALT_REQUEST
      ∧ c.way = s.convoy.wayNew.getD s.convoy.way ∧ c.wayNew = none
      ∧ (∀ f, s.convoy.frameThisBeat = true → s.convoy.lastFrame = some f → f.version ≠ 0 → c.version = f.version)
      ∧ c.frameThisBeat = false ∧ c.edgeFrom = some (s.fab.tick : Int) ∧ c.lastEdge = s.fab.tick := by
  have ha := edgeReady_agree s
  have hcores : s.edgeReady.coresUp = s.coresUp := ha.coresUp rfl rfl
  have hhalt : s.edgeReady.objB K.HALT_REQUEST = s.objB K.HALT_REQUEST := by
    unfold State.objB
    rw [edgeReady_obj he (by decide)]
  obtain ⟨x, hready⟩ := edgeReady_convoy hm he
  obtain ⟨_, _, _, _, _, hdrive⟩ := drive_convoy s.beatEdge
  rw [hdrive, beatEdge_of_enabled hm hs ht he, noteEdge_convoy, unitEdge_convoy, hcores, hhalt, unitEdge_fab, edgeWork_fab,
    ha.fab rfl, hready]
  refine ⟨rfl, rfl, rfl, rfl, rfl, rfl, rfl, fun f hthis hlast hver => ?_, rfl, rfl, rfl⟩
  simp [Convoy.versionAfter, Convoy.heardVersion, hthis, hlast, hver]

theorem beatEdge_disables (hm : s.convoy.state = .member ∨ s.convoy.state = .halted)
    (he : s.objB K.CONVOY_ENABLE = false) :
    let u := s.beatEdge.drive
    u.fab = s.fab ∧ u.convoy.state = .disabled ∧ u.convoy.set = s.convoySettings ∧ u.convoy.present = false
      ∧ u.convoy.held = false ∧ u.convoy.soloDue = max (s.convoy.offAt.getD s.fab.tick + 200000) s.fab.tick := by
  obtain ⟨hstate, hset, hpresent, hheld, hdue⟩ :=
    takeSettings_leaves ((forcedRelease_enable s).trans he) (forcedRelease_ne_disabled hm)
  obtain ⟨_, _, _, _, _, hdrive⟩ := drive_convoy s.beatEdge
  dsimp only
  rw [drive_fab, hdrive, beatEdge_of_disabling hm hs ht he, hset, hdue]
  refine ⟨by simp, hstate, by simp, hpresent, hheld, ?_⟩
  rcases hm with h | h <;> simp [State.dueAfterLeave, h, ConvoyState.inConvoy]

theorem beatEdge_solo_disables (hsolo : s.convoy.state = .solo) (he : s.objB K.CONVOY_ENABLE = false) :
    let u := s.beatEdge.drive
    u.fab = s.fab ∧ u.convoy.state = .disabled ∧ u.convoy.set = s.convoySettings ∧ u.convoy.soloDue = s.convoy.soloDue := by
  obtain ⟨hstate, hset, hdue, hfab⟩ := beatEdge_solo_leaves hs ht hsolo he
  obtain ⟨_, _, _, _, _, hdrive⟩ := drive_convoy s.beatEdge
  dsimp only
  rw [drive_fab, hdrive]
  exact ⟨hfab, hstate, hset, hdue⟩

theorem beatEdge_joins (hsolo : s.convoy.state = .solo) {f : Frame} (hj : s.convoy.join = some f)
    (he : s.objB K.CONVOY_ENABLE = true) :
    let u := s.beatEdge.drive
    u.fab.count = f.count + 1 ∧ u.fab.edgeTick = s.fab.tick ∧ u.convoy.state = .member ∧ u.convoy.way = f.wayNext
      ∧ u.convoy.leaderAddr = f.leaderAddr ∧ u.convoy.present = s.coresUp ∧ u.convoy.join = none := by
  have he' : s.forcedRelease.noteEdge.objB K.CONVOY_ENABLE = true := (forcedRelease_enable s).trans he
  obtain ⟨hcount, htick, hstate, hway, hleader, hpresent, hjoin⟩ := joinConvoy_joins s.forcedRelease.noteEdge.takeSettings f
  obtain ⟨_, _, _, _, _, hdrive⟩ := drive_convoy s.beatEdge
  have hstays : s.forcedRelease.noteEdge.takeSettings.convoy.state = .solo := by
    rw [takeSettings_of_enabled he']
    simpa [noteEdge_convoy] using hsolo
  have hcores : s.forcedRelease.noteEdge.takeSettings.coresUp = s.coresUp :=
    (State.takeSettings_same rfl (State.noteEdge_same rfl (forcedRelease_agree s))).coresUp rfl rfl
  dsimp only
  rw [drive_fab, hdrive, beatEdge_of_frames hs ht hsolo hj, if_pos hstays, (joined_agree _).fab rfl,
    (joined_agree _).convoy rfl, noteEdge_convoy, noteEdge_fab]
  dsimp only
  exact ⟨hcount, by simpa using htick, hstate, hway, hleader, hpresent.trans hcores, hjoin⟩

end Pins

/-- Settles O22: each row is the equation of its case of the edge, and what the pins then show. -/
theorem beatEdgeRowsTakeEffect : Obligations.BeatEdgeRowsTakeEffect := by
  intro s hc hs
  refine ⟨edges_without_vio hc, fun hv ht hm he => ?_, fun hv ht hm he => ?_, beatEdge_takes_solo hc hs,
    fun hv ht hsolo he => ?_, fun t hv hsolo hf => beatEdge_keeps_candidate hc hs hv hsolo hf,
    fun f hv ht hsolo hj he => ?_, fun t hv hf hd => spuriousEdge_counts hc hs hv hf hd, fun hh ho => ?_⟩
  · refine ⟨_, exec_beatEdge_of_pins hc hv, beatEdge_drive_sameBut s, ?_, ?_, beatEdge_convoy_of_enabled hs ht hm he⟩
    · rw [drive_fab, beatEdge_fab_of_enabled hm hs ht he]
    · rw [drive_obj, beatEdge_beats_of_enabled hm hs ht he]
  · exact ⟨_, exec_beatEdge_of_pins hc hv, beatEdge_drive_sameBut s, beatEdge_disables hs ht hm he⟩
  · exact ⟨_, exec_beatEdge_of_pins hc hv, beatEdge_drive_sameBut s, beatEdge_solo_disables hs ht hsolo he⟩
  · exact ⟨_, exec_beatEdge_of_pins hc hv, beatEdge_drive_sameBut s, beatEdge_joins hs ht hsolo hj he⟩
  · simp [exec_forcedRelease, State.event, hc, forcedRelease_of_due hh ho]

end Sys2Proof.Machine

namespace Sys2Proof.Machine
open Sys2Proof

/-! Every step answers a next state and keeps the invariant (R13, R18, R24, R302, R319): what a step keeps of the spine, command by
command, and on a tick of the clock. -/

/-- A command answers a next state, and keeps of the spine what every command keeps. -/
def Answers (c : Instr) (s : State) : Prop := ∃ t, exec c s = .next t ∧ Kept s.spine t.spine

section Rows
variable {c : Instr} {s : State} {f : State → State}

theorem Answers.after {u : State} (h : exec c s = .next u.after) (hu : Kept s.spine u.spine) : Answers c s :=
  ⟨_, h, State.after_kept hu⟩

theorem Answers.event (h : exec c s = .next (s.event f)) (hf : ∀ t, Kept s.spine t.spine → Kept s.spine (f t).spine) :
    Answers c s :=
  ⟨_, h, State.event_kept (.refl _) hf⟩

theorem Answers.freeEvent (h : exec c s = .next (s.freeEvent f)) (hf : ∀ t, Kept s.spine t.spine → Kept s.spine (f t).spine) :
    Answers c s :=
  ⟨_, h, State.freeEvent_kept (.refl _) hf⟩

/-- A row of the convoy: the pins follow what it does. -/
theorem Answers.driven (h : exec c s = .next (s.event fun t => (f t).drive))
    (hf : ∀ t, Kept s.spine t.spine → Kept s.spine (f t).spine) : Answers c s :=
  .event h fun _ ht => State.drive_kept (hf _ ht)

/-- A row that a host sends as the write of an object. -/
theorem Answers.hostWrite {p key v : Nat} (h : exec c s = .next (s.writeObj p key v).after) : Answers c s :=
  .after h (State.writeObj_kept (.refl _) p key v)

end Rows

/-- Every command answers, by the law of the operation that its row names. -/
theorem exec_answers (c : Instr) (s : State) : Answers c s := by
  cases c with
  | writeRequest _ _ => exact .after (exec_writeRequest ..) (State.writeRequest_kept (.refl _) ..)
  | writeRequestQuad _ _ => exact .after (exec_writeRequestQuad ..) (State.writeRequest_kept (.refl _) ..)
  | readResponse _ => exact .after (exec_readResponse ..) (State.readResponse_kept (.refl _) ..)
  | readResponseQuad _ => exact .after (exec_readResponseQuad ..) (State.readResponse_kept (.refl _) ..)
  | readStatus _ _ => exact .after (exec_readStatus ..) (State.readPortStatus_kept (.refl _) ..)
  | proofRead _ _ => exact .after (exec_proofRead ..) (State.proofFrame_kept (.refl _) ..)
  | proofReadQuad _ _ => exact .after (exec_proofReadQuad ..) (State.proofFrame_kept (.refl _) ..)
  | baleFrame _ _ => exact .after (exec_baleFrame ..) (State.baleFrame_kept (.refl _) ..)
  | segmentTimeout => exact .event (exec_segmentTimeout ..) fun _ h => State.segmentTimeout_kept h ..
  | busOff => exact .after (exec_busOff ..) (State.busOff_kept (.refl _) ..)
  | busOffRecovery => exact .after (exec_busOffRecovery ..) (State.busOffEnd_kept (.refl _) ..)
  | transaction _ => exact .event (exec_transaction ..) fun _ h => State.transaction_kept h ..
  | openSession _ => exact .event (exec_openSession ..) fun _ h => State.openSession_kept h ..
  | proveSession _ => exact .event (exec_proveSession ..) fun _ h => State.proveSession_kept h ..
  | authLockoutEnd _ => exact .event (exec_authLockoutEnd ..) fun _ h => State.lockoutEnd_kept h ..
  | challengeExpiry _ => exact .event (exec_challengeExpiry ..) fun _ h => State.challengeExpiry_kept h ..
  | leaseLapse _ => exact .event (exec_leaseLapse ..) fun _ h => State.leaseLapse_kept h ..
  | objectWrite _ _ _ _ => exact .after (exec_objectWrite ..) (State.direct_kept (.refl _) ..)
  | splitPairLoRead _ _ _ => exact .after (exec_splitPairLoRead ..) (State.direct_kept (.refl _) ..)
  | splitPairHiRead _ _ _ => exact .after (exec_splitPairHiRead ..) (State.direct_kept (.refl _) ..)
  | claimGroup _ _ => exact .hostWrite (exec_claimGroup ..)
  | releaseGroup _ _ => exact .hostWrite (exec_releaseGroup ..)
  | claimBreak _ _ => exact .hostWrite (exec_claimBreak ..)
  | closeSession _ => exact .hostWrite (exec_closeSession ..)
  | writeRule _ _ _ => exact .after (exec_writeRule ..) (State.direct_kept (.refl _) ..)
  | stencilReset _ => exact .hostWrite (exec_stencilReset ..)
  | latencyReq _ _ => exact .hostWrite (exec_latencyReq ..)
  | restoreDefaults _ => exact .hostWrite (exec_restoreDefaults ..)
  | dpWindowRead _ _ => exact .after (exec_dpWindowRead ..) (State.readDirect_kept (.refl _) ..)
  | dpWindowWrite _ _ => exact .after (exec_dpWindowWrite ..) (State.direct_kept (.refl _) ..)
  | recordData _ => exact .after (exec_recordData ..) (State.readDirect_kept (.refl _) ..)
  | ffData _ => exact .after (exec_ffData ..) (State.readDirect_kept (.refl _) ..)
  | ledgerClearRecords _ => exact .hostWrite (exec_ledgerClearRecords ..)
  | ledgerClearAll _ => exact .hostWrite (exec_ledgerClearAll ..)
  | convoyEnable _ _ => exact .hostWrite (exec_convoyEnable ..)
  | wayRequest _ _ => exact .hostWrite (exec_wayRequest ..)
  | haltRequest _ _ => exact .hostWrite (exec_haltRequest ..)
  | localHold _ _ => exact .hostWrite (exec_localHold ..)
  | setPresent _ _ _ => exact .hostWrite (exec_setPresent ..)
  | clearFlags _ _ => exact .hostWrite (exec_clearFlags ..)
  | clearLatch _ _ => exact .hostWrite (exec_clearLatch ..)
  | scanSelect _ _ => exact .hostWrite (exec_scanSelect ..)
  | readmit _ _ => exact .hostWrite (exec_readmit ..)
  | convert _ _ => exact .hostWrite (exec_convert ..)
  | ringRearm _ => exact .hostWrite (exec_ringRearm ..)
  | ringTrigger _ => exact .hostWrite (exec_ringTrigger ..)
  | capArm _ => exact .hostWrite (exec_capArm ..)
  | capAbort _ => exact .hostWrite (exec_capAbort ..)
  | capRelease _ => exact .hostWrite (exec_capRelease ..)
  | mrgCmdNominal _ _ => exact .hostWrite (exec_mrgCmdNominal ..)
  | mrgCmdHigh _ _ => exact .hostWrite (exec_mrgCmdHigh ..)
  | mrgCmdLow _ _ => exact .hostWrite (exec_mrgCmdLow ..)
  | stipCmdSchedule _ _ => exact .hostWrite (exec_stipCmdSchedule ..)
  | stipCmdCancel _ _ => exact .hostWrite (exec_stipCmdCancel ..)
  | loadCmdApply _ _ => exact .hostWrite (exec_loadCmdApply ..)
  | loadCmdRemove _ _ => exact .hostWrite (exec_loadCmdRemove ..)
  | inrushSet _ _ => exact .hostWrite (exec_inrushSet ..)
  | feedEnable _ _ _ => exact .hostWrite (exec_feedEnable ..)
  | feedClear _ _ => exact .hostWrite (exec_feedClear ..)
  | forceMessage _ _ => exact .hostWrite (exec_forceMessage ..)
  | testMode _ _ => exact .hostWrite (exec_testMode ..)
  | faultAck _ => exact .hostWrite (exec_faultAck ..)
  | faultNHold _ _ => exact .hostWrite (exec_faultNHold ..)
  | etchCmd _ => exact .hostWrite (exec_etchCmd ..)
  | etchAbort _ => exact .hostWrite (exec_etchAbort ..)
  | updCmdOpen _ => exact .hostWrite (exec_updCmdOpen ..)
  | updBlock _ _ => exact .hostWrite (exec_updBlock ..)
  | updCmdVerify _ => exact .hostWrite (exec_updCmdVerify ..)
  | updCmdApply _ => exact .hostWrite (exec_updCmdApply ..)
  | updCmdSchedule _ => exact .hostWrite (exec_updCmdSchedule ..)
  | updCmdUnschedule _ => exact .hostWrite (exec_updCmdUnschedule ..)
  | updCmdConfirm _ => exact .hostWrite (exec_updCmdConfirm ..)
  | updCmdAbort _ => exact .hostWrite (exec_updCmdAbort ..)
  | beatEdge => exact .driven (exec_beatEdge ..) fun _ h => State.onPin_kept h fun _ h => State.beatEdge_kept h ..
  | spuriousEdge => exact .driven (exec_spuriousEdge ..) fun _ h => State.onPin_kept h fun _ h => State.spuriousEdge_kept h ..
  | forcedRelease => exact .driven (exec_forcedRelease ..) fun _ h => State.forcedRelease_kept h ..
  | beatFrame _ =>
    exact ⟨_, exec_beatFrame .., State.event_kept (State.onPin_kept (.refl _) fun _ h => State.noteReplySlot_kept h ..) fun _ h =>
      State.drive_kept (State.onPin_kept h fun _ h => State.beatFrame_kept h ..)⟩
  | soloBeat => exact .driven (exec_soloBeat ..) fun _ h => State.soloBeat_kept h ..
  | lossTimeout => exact .driven (exec_lossTimeout ..) fun _ h => State.lossTimeout_kept h ..
  | candidateWait => exact .driven (exec_candidateWait ..) fun _ h => State.candidateWait_kept h ..
  | leaderBeat => exact .driven (exec_leaderBeat ..) fun _ h => State.leaderBeat_kept h ..
  | beatFrameSend _ _ => exact .driven (exec_beatFrameSend ..) fun _ h => State.beatFrameSend_kept h ..
  | replySend _ => exact .driven (exec_replySend ..) fun _ h => State.replySend_kept h ..
  | tollRequest _ => exact .driven (exec_tollRequest ..) fun _ h => State.tollRequest_kept h ..
  | tollOffer _ => exact .driven (exec_tollOffer ..) fun _ h => State.tollOffer_kept h ..
  | xferSent _ => exact .driven (exec_xferSent ..) fun _ h => State.xferSent_kept h ..
  | xferReceived _ => exact .driven (exec_xferReceived ..) fun _ h => State.xferReceived_kept h ..
  | wayRequestReply _ => exact .driven (exec_wayRequestReply ..) fun _ h => State.wayRequestReply_kept h ..
  | xferPropose => exact .driven (exec_xferPropose ..) fun _ h => State.xferPropose_kept h ..
  | xferDeliver => exact .driven (exec_xferDeliver ..) fun _ h => State.xferDeliver_kept h ..
  | xferClose => exact .driven (exec_xferClose ..) fun _ h => State.xferClose_kept h ..
  | xferResend => exact .driven (exec_xferResend ..) fun _ h => State.xferResend_kept h ..
  | proposalForget => exact .driven (exec_proposalForget ..) fun _ h => State.proposalForget_kept h ..
  | deliverRepeat => exact .driven (exec_deliverRepeat ..) fun _ h => State.deliverRepeat_kept h ..
  | ringDelay _ => exact .driven (exec_ringDelay ..) fun _ h => State.ringDelay_kept h ..
  | ringOpen => exact .driven (exec_ringOpen ..) fun _ h => State.ringOpen_kept h ..
  | cscStuck => exact .driven (exec_cscStuck ..) fun _ h => State.cscStuck_kept h ..
  | laneGrant => exact .event (exec_laneGrant ..) fun _ h => State.laneGrant_kept h ..
  | hardAgePreempt => exact .event (exec_hardAgePreempt ..) fun _ h => State.hardAgePreempt_kept h ..
  | preemptHandover _ => exact .event (exec_preemptHandover ..) fun _ h => State.preemptHandover_kept h ..
  | lockstepMismatch => exact .event (exec_lockstepMismatch ..) fun _ h => State.coreRestart_kept h ..
  | watchdogExpiry => exact .event (exec_watchdogExpiry ..) fun _ h => State.coreRestart_kept h ..
  | coreStart => exact .event (exec_coreStart ..) fun _ h => State.coreStart_kept h ..
  | stepStart => exact .event (exec_stepStart ..) fun _ h => State.stepStart_kept h ..
  | onSlot _ => exact .event (exec_onSlot ..) fun _ h => State.railSlot_kept h ..
  | prereqTimeout _ => exact .event (exec_prereqTimeout ..) fun _ h => State.prereqTimeout_kept h ..
  | railQualify _ => exact .event (exec_railQualify ..) fun _ h => State.railQualify_kept h ..
  | rampTimeout _ => exact .event (exec_rampTimeout ..) fun _ h => State.rampTimeout_kept h ..
  | fallingPass => exact .event (exec_fallingPass ..) fun _ h => State.fallingPass_kept h ..
  | offSlot _ => exact .event (exec_offSlot ..) fun _ h => State.offSlotRow_kept h ..
  | dischTimeout _ => exact .event (exec_dischTimeout ..) fun _ h => State.dischTimeout_kept h ..
  | dischFailed _ => exact .event (exec_dischFailed ..) fun _ h => State.dischFailed_kept h ..
  | localShutdown _ => exact .event (exec_localShutdown ..) fun _ h => State.causeArises_kept h ..
  | holdoffEnd => exact .event (exec_holdoffEnd ..) fun _ h => State.holdoffEnd_kept h ..
  | pmbusTransactionDone _ _ _ => exact .event (exec_pmbusTransactionDone ..) fun _ h => State.pmbDone_kept h ..
  | comparatorCross _ _ => exact .freeEvent (exec_comparatorCross ..) fun _ h => State.cross_kept h ..
  | comparatorQualify _ _ => exact .freeEvent (exec_comparatorQualify ..) fun _ h => State.qualifyDue_kept h ..
  | filterClear _ _ => exact .freeEvent (exec_filterClear ..) fun _ h => State.filterClear_kept h ..
  | railDecisionWindow => exact .event (exec_railDecisionWindow ..) fun _ h => State.railWindowEnd_kept h ..
  | energyPeriod _ => exact .event (exec_energyPeriod ..) fun _ h => State.energyPeriod_kept h ..
  | slotResult _ => exact .event (exec_slotResult ..) fun _ h => State.slotResult_kept h ..
  | quickResult _ _ _ _ => exact .freeEvent (exec_quickResult ..) fun _ h => State.quickResult_kept h ..
  | sliceSwap => exact .event (exec_sliceSwap ..) fun _ h => State.sliceSwap_kept h ..
  | forcedSwap => exact .event (exec_forcedSwap ..) fun _ h => State.forcedSwap_kept h ..
  | calStepDone _ _ _ _ _ _ => exact .event (exec_calStepDone ..) fun _ h => State.calStepEnd_kept h ..
  | calStale _ => exact .event (exec_calStale ..) fun _ h => State.calStale_kept h ..
  | captureStart => exact .event (exec_captureStart ..) fun _ h => State.captureStart_kept h ..
  | captureDone => exact .event (exec_captureDone ..) fun _ h => State.captureDone_kept h ..
  | ringFreeze => exact .event (exec_ringFreeze ..) fun _ h => State.ringFreeze_kept h ..
  | ringAutoRearm => exact .event (exec_ringAutoRearm ..) fun _ h => State.ringAutoRearm_kept h ..
  | marginMoveStart _ => exact .event (exec_marginMoveStart ..) fun _ h => State.marginStart_kept h ..
  | marginStep _ => exact .event (exec_marginStep ..) fun _ h => State.marginStep_kept h ..
  | mrgSettleEnd _ => exact .event (exec_mrgSettleEnd ..) fun _ h => State.settleEnd_kept h ..
  | mrgHoldExpired _ => exact .event (exec_mrgHoldExpired ..) fun _ h => State.holdExpired_kept h ..
  | stipScheduledTick _ => exact .event (exec_stipScheduledTick ..) fun _ h => State.stipScheduled_kept h ..
  | stipWaitMaxEnd _ => exact .event (exec_stipWaitMaxEnd ..) fun _ h => State.waitMaxEnd_kept h ..
  | stipPreloadEnd _ => exact .event (exec_stipPreloadEnd ..) fun _ h => State.preloadEnd_kept h ..
  | stipPatternEdge _ => exact .event (exec_stipPatternEdge ..) fun _ h => State.patternEdge_kept h ..
  | stipAcquireEnd _ => exact .event (exec_stipAcquireEnd ..) fun _ h => State.acquireEnd_kept h ..
  | stipAnalysisDone _ => exact .event (exec_stipAnalysisDone ..) fun _ h => State.analysisDone_kept h ..
  | powerGrant => exact .event (exec_powerGrant ..) fun _ h => State.servePower_kept h ..
  | energyGrant => exact .event (exec_energyGrant ..) fun _ h => State.energyGrants_kept h ..
  | sinkSlewDone _ => exact .event (exec_sinkSlewDone ..) fun _ h => State.stipUnloaded_kept (State.sinkSlewDone_kept h ..) ..
  | energyOverrun _ => exact .event (exec_energyOverrun ..) fun _ h => State.energyOverrun_kept h ..
  | coolingExpiry => exact .event (exec_coolingExpiry ..) fun _ h => State.coolingExpiry_kept h ..
  | powerGrantReeval => exact .event (exec_powerGrantReeval ..) fun _ h => State.reevalPower_kept h ..
  | reserveUpdate => exact .event (exec_reserveUpdate ..) fun _ h => State.reserveUpdate_kept h ..
  | loadTimeEnd _ => exact .event (exec_loadTimeEnd ..) fun _ h => State.loadTimeEnd_kept h ..
  | mated => exact .event (exec_mated ..) fun _ h => State.onPin_kept h fun _ h => State.mateCard_kept h ..
  | matingLost _ => exact .event (exec_matingLost ..) fun _ h => State.loseMating_kept h ..
  | extractDelayEnd => exact .event (exec_extractDelayEnd ..) fun _ h => State.extractDelayEnd_kept h ..
  | earlyHigh => exact .event (exec_earlyHigh ..) fun _ h => State.earlyHigh_kept h ..
  | inrushIssue => exact .event (exec_inrushIssue ..) fun _ h => State.inrushIssue_kept h ..
  | fuseFast _ => exact .freeEvent (exec_fuseFast ..) fun _ h => State.fuseFast_kept h ..
  | fuseSlow _ => exact .freeEvent (exec_fuseSlow ..) fun _ h => State.fuseSlow_kept h ..
  | soaTimeout _ => exact .event (exec_soaTimeout ..) fun _ h => State.soaTimeout_kept h ..
  | reverseOff _ => exact .freeEvent (exec_reverseOff ..) fun _ h => State.reverseOff_kept h ..
  | forwardOn _ => exact .freeEvent (exec_forwardOn ..) fun _ h => State.forwardOn_kept h ..
  | feedUv _ => exact .event (exec_feedUv ..) fun _ h => State.sourceOut_kept h ..
  | feedOv _ => exact .event (exec_feedOv ..) fun _ h => State.sourceOut_kept h ..
  | tripRunReset _ => exact .event (exec_tripRunReset ..) fun _ h => State.tripRunReset_kept h ..
  | retryRelease _ => exact .event (exec_retryRelease ..) fun _ h => State.retryRelease_kept h ..
  | retryFull _ => exact .event (exec_retryFull ..) fun _ h => State.retryFull_kept h ..
  | damagedElement _ => exact .event (exec_damagedElement ..) fun _ h => State.damagedElement_kept h ..
  | damagedPath => exact .event (exec_damagedPath ..) fun _ h => State.damagedPath_kept h ..
  | inputLoss => exact .event (exec_inputLoss ..) fun _ h => State.inputLoss_kept h ..
  | pfail => exact .event (exec_pfail ..) fun _ h => State.onPin_kept h fun _ h => State.pfailLow_kept h ..
  | pfailHigh => exact .event (exec_pfailHigh ..) fun _ h => State.pfailHigh_kept h ..
  | huLow => exact .freeEvent (exec_huLow ..) fun _ h => State.huLow_kept h ..
  | huOnReserve => exact .freeEvent (exec_huOnReserve ..) fun _ h => State.goOnReserve_kept h ..
  | vauxReturn => exact .freeEvent (exec_vauxReturn ..) fun _ h => State.vauxBack_kept h ..
  | vioLoss => exact .after (exec_vioLoss ..) (State.vioLoss_kept (.refl _) ..)
  | messageArrival _ => exact .event (exec_messageArrival ..) fun _ h => State.messageArrival_kept h ..
  | messageRelease => exact .event (exec_messageRelease ..) fun _ h => State.messageRelease_kept h ..
  | collectorDecision => exact .event (exec_collectorDecision ..) fun _ h => State.collectorDecision_kept h ..
  | quietTimeEnd => exact .event (exec_quietTimeEnd ..) fun _ h => State.quietEnd_kept h ..
  | recoverySpanEnd => exact .event (exec_recoverySpanEnd ..) fun _ h => State.recoveryEnd_kept h ..
  | faultPulseEnd => exact .event (exec_faultPulseEnd ..) fun _ h => State.pulseEnd_kept h ..
  | startupSpanEnd => exact .event (exec_startupSpanEnd ..) fun _ h => State.startSpanEnd_kept h ..
  | refclkLost => exact .event (exec_refclkLost ..) fun _ h => State.raise_kept h ..
  | refclkFreq => exact .event (exec_refclkFreq ..) fun _ h => State.raise_kept h ..
  | pllUnlock => exact .event (exec_pllUnlock ..) fun _ h => State.raise_kept h ..
  | filterUnlock => exact .event (exec_filterUnlock ..) fun _ h => State.filterUnlock_kept h ..
  | autoEtchDue => exact .event (exec_autoEtchDue ..) fun _ h => State.autoEtchDue_kept h ..
  | etchSnapshot => exact .event (exec_etchSnapshot ..) fun _ h => State.etchSnapshot_kept h ..
  | etchPageCommit _ _ => exact .event (exec_etchPageCommit ..) fun _ h => State.etchPageCommit_kept h ..
  | eccPatrol _ _ _ _ => exact .event (exec_eccPatrol ..) fun _ h => State.eccPatrol_kept h ..
  | pageReload _ => exact .event (exec_pageReload ..) fun _ h => State.pageReload_kept h ..
  | scrubStep _ _ _ => exact .event (exec_scrubStep ..) fun _ h => State.scrubStep_kept h ..
  | opTimeAdd => exact .event (exec_opTimeAdd ..) fun _ h => State.opTimeAdd_kept h ..
  | storeRecall => exact .event (exec_storeRecall ..) fun _ h => State.recallStore_kept h ..
  | ledgerEntry => exact .event (exec_ledgerEntry ..) fun _ h => State.ledgerEntry_kept h ..
  | ledgerFirstMark => exact .event (exec_ledgerFirstMark ..) fun _ h => State.firstMark_kept h ..
  | ledgerLink => exact .event (exec_ledgerLink ..) fun _ h => State.linkRecords_kept h ..
  | ledgerReconcile => exact .event (exec_ledgerReconcile ..) fun _ h => State.reconcile_kept h ..
  | verifyDone => exact .event (exec_verifyDone ..) fun _ h => State.verifyDone_kept h ..
  | applyOutputDone => exact .event (exec_applyOutputDone ..) fun _ h => State.applyOutputDone_kept h ..
  | activation => exact .event (exec_activation ..) fun _ h => State.activation_kept h ..
  | confirmSpanEnd => exact .event (exec_confirmSpanEnd ..) fun _ h => State.confirmSpanEnd_kept h ..
  | confirmation => exact .event (exec_confirmation ..) fun _ h => State.confirmation_kept h ..
  | trialTimeEnd => exact .event (exec_trialTimeEnd ..) fun _ h => State.trialTimeEnd_kept h ..
  | suppliesGood => exact .after (exec_suppliesGood ..) (State.suppliesGood_kept (.refl _) ..)
  | resetLow _ => exact .after (exec_resetLow ..) (State.resetLow_kept (.refl _) ..)
  | powerOnEnd => exact .after (exec_powerOnEnd ..) (State.powerOnEnd_kept (.refl _) ..)
  | clocksEnd => exact .after (exec_clocksEnd ..) (State.clocksEnd_kept (.refl _) ..)
  | endOfStartup => exact .event (exec_endOfStartup ..) fun _ h => State.endOfStartup_kept h ..
  | powerStateEnter => exact .event (exec_powerStateEnter ..) fun _ h => State.powerStateEnter_kept h ..
  | fullReached => exact .event (exec_fullReached ..) fun _ h => State.fullReached_kept h ..
  | dwellEnd => exact .event (exec_dwellEnd ..) fun _ h => State.dwellEnd_kept h ..
  | freeze => exact .after (exec_freeze ..) (State.onPin_kept (.refl _) fun _ h => State.freeze_kept h ..)
  | frozenBeatEdge =>
    exact .after (exec_frozenBeatEdge ..) (State.onPin_kept (.refl _) fun _ h => State.frozenBeatEdge_kept h ..)
  | firstClockedTick => exact .after (exec_firstClockedTick ..) (State.firstClockedTick_kept (.refl _) ..)
  | relayForward _ _ _ => exact .after (exec_relayForward ..) (State.relayForward_kept (.refl _) ..)
  | comparatorReturn _ _ => exact .freeEvent (exec_comparatorReturn ..) fun _ h => State.goBack_kept h ..
  | holdUpExhausted => exact .after (exec_holdUpExhausted ..) (State.holdUpExhausted_kept (.refl _) ..)

/-! ### A tick of the clock -/

/-- The spine one tick of the filter clock later. -/
def Spine.tick (a : Spine) : Spine := { a with filterClk := a.filterClk + 1 }

theorem advance_kept {z : Spine} {s : State} (h : Kept z s.spine) : Kept z.tick s.advance.spine :=
  ⟨h.pending, congrArg (· + 1) h.filterClk, h.mem, h.edges, h.lanes⟩

/-- A tick of the clock moves the filter clock on by 1 and keeps the rest, in whatever phase it falls. -/
theorem clock_kept (s : State) : Kept s.spine.tick s.clock.spine := by
  have blocks : Kept s.spine.tick s.tickBlocks.advance.carrySteps.tickRails.drive.spine :=
    State.drive_kept (State.tickRails_kept (State.carrySteps_kept (advance_kept (State.tickBlocks_kept (.refl _)))))
  have counts : Kept s.spine.tick ({ s with filterClk := s.filterClk + 1 } : State).spine := .refl _
  unfold State.clock
  split
  · exact State.goOff_kept counts ..
  · split
    · have slews : Kept s.spine s.slewSinks.spine := State.slewSinks_kept (.refl _)
      exact State.drive_kept ⟨slews.pending, congrArg (· + 1) rfl, slews.mem, slews.edges, slews.lanes⟩
    · split
      · exact State.drive_kept counts
      · exact State.drive_kept counts
      · exact State.drive_kept counts
      all_goals exact blocks

/-! ### The step -/

/-- What a kept spine says of the invariant. -/
theorem Kept.inv {a : Spine} {t : State} (h : Kept a t.spine) (hm : Memory.wf a.mem = true) (he : a.edges.length ≤ 1024)
    (hl : lanesOk a.shared a.handovers) : t.Inv :=
  ⟨h.mem hm, h.edges he, h.lanes hl⟩

theorem step_of_empty {s : State} (h : s.pending = []) : step s = .next s.clock := by
  simp [step, h]

theorem step_of_front {s : State} {c : Instr} {r : List Instr} (h : s.pending = c :: r) :
    step s = exec c { s with pending := r } := by
  simp [step, h]

/-- Settles O57: a step is a command, which answers and keeps the spine's rules, or a tick of the clock, which keeps them too. -/
theorem stepKeepsTheInvariant : Obligations.StepKeepsTheInvariant := by
  intro s
  cases hp : s.pending with
  | nil => exact ⟨_, step_of_empty hp, fun hi => (clock_kept s).inv hi.mem hi.edges hi.lanes⟩
  | cons c r =>
    obtain ⟨t, hexec, hkept⟩ := exec_answers c { s with pending := r }
    exact ⟨t, (step_of_front hp).trans hexec, fun hi => hkept.inv hi.mem hi.edges hi.lanes⟩

/-- Settles O55: the command at the front runs by definition and answers; a tick of the clock keeps the empty queue and counts. -/
theorem stepRunsTheFrontCommand : Obligations.StepRunsTheFrontCommand := by
  refine ⟨fun _ _ _ => rfl, fun c s => ?_, fun s hp => ⟨step_of_empty hp, ?_, (clock_kept s).filterClk⟩⟩
  · obtain ⟨t, hexec, -⟩ := exec_answers c s
    exact ⟨t, hexec⟩
  · exact (clock_kept s).pending.trans hp

end Sys2Proof.Machine

namespace Sys2Proof.Machine
open Sys2Proof

/-! The shared lanes (R20 to R24): what the choices of a request, of a lane and of a victim satisfy, and the rows of the lanes. -/

/-! ### What a message leaves at the collector (R279, R297) -/

/-- A message finds the collector as it stands: what else has changed on the tick does not count. -/
theorem raiseAt_coll_congr {a b : State} (hfrozen : b.frozen = a.frozen) (hcoll : b.coll = a.coll) (src kind addr : Nat)
    (st : Stamp) : (b.raiseAt src kind addr st).coll = (a.raiseAt src kind addr st).coll := by
  unfold State.raiseAt
  rw [hfrozen, hcoll]
  split <;> rfl

theorem now_congr {a b : State} (h : b.fab = a.fab) : b.now = a.now := by
  unfold State.now State.offset
  rw [h]

theorem raise_coll_congr {a b : State} (hfab : b.fab = a.fab) (hfrozen : b.frozen = a.frozen) (hcoll : b.coll = a.coll)
    (src kind addr : Nat) : (b.raise src kind addr).coll = (a.raise src kind addr).coll := by
  unfold State.raise
  rw [now_congr hfab]
  exact raiseAt_coll_congr hfrozen hcoll ..

/-! ### Least elements -/

/-- Nothing in a list precedes its least element, under a strict weak order. -/
theorem leastBy_least {α : Type} {lt : α → α → Bool} (hasymm : ∀ a b, lt a b = true → lt b a = false)
    (hneg : ∀ a b c, lt a b = false → lt b c = false → lt a c = false) {l : List α} {m : α} (h : leastBy lt l = some m) :
    ∀ x ∈ l, lt x m = false := by
  have hirr : ∀ a, lt a a = false := fun a => by
    cases ht : lt a a with
    | false => rfl
    | true => exact ht.symm.trans (hasymm a a ht)
  have key : ∀ (r : List α) (a : α), ∀ x ∈ a :: r,
      lt x (r.foldl (fun best x => if lt x best then x else best) a) = false := by
    intro r
    induction r with
    | nil =>
      intro a x hx
      rw [List.mem_singleton.1 hx]
      exact hirr a
    | cons b t ih =>
      intro a x hx
      have fromBest : ∀ {best}, lt a best = false → lt b best = false →
          (∀ y ∈ best :: t, lt y (t.foldl (fun best x => if lt x best then x else best) best) = false) →
          lt x (t.foldl (fun best x => if lt x best then x else best) best) = false := by
        intro best ha hb hbest
        have hleast := hbest _ List.mem_cons_self
        rcases List.mem_cons.1 hx with rfl | hx
        · exact hneg _ _ _ ha hleast
        · rcases List.mem_cons.1 hx with rfl | hx
          · exact hneg _ _ _ hb hleast
          · exact hbest x (List.mem_cons_of_mem _ hx)
      rw [List.foldl_cons]
      by_cases hlt : lt b a = true
      · rw [if_pos hlt]
        exact fromBest (hasymm _ _ hlt) (hirr b) (ih b)
      · rw [if_neg hlt]
        exact fromBest (hirr a) (Bool.eq_false_iff.2 hlt) (ih a)
  cases l with
  | nil => exact fun _ hx => absurd hx List.not_mem_nil
  | cons a r =>
    rw [← Option.some.inj h]
    exact key r a

/-! ### The next request (R20) -/

theorem before_asymm (a b : LaneReq) (h : a.before b = true) : b.before a = false := by
  simp only [LaneReq.before, Bool.or_eq_true, Bool.and_eq_true, decide_eq_true_eq, beq_iff_eq, Bool.or_eq_false_iff,
    Bool.and_eq_false_iff, decide_eq_false_iff_not, beq_eq_false_iff_ne] at h ⊢
  omega

theorem before_negTrans (a b c : LaneReq) (hab : a.before b = false) (hbc : b.before c = false) : a.before c = false := by
  simp only [LaneReq.before, Bool.or_eq_false_iff, Bool.and_eq_false_iff, decide_eq_false_iff_not, beq_eq_false_iff_ne] at *
  omega

/-- The best request waits, and no other that waits precedes it. -/
theorem best_spec {l : Lanes} {r : LaneReq} (h : l.best = some r) : r ∈ l.queue ∧ ∀ x ∈ l.queue, x.before r = false :=
  ⟨leastBy_mem h, leastBy_least before_asymm before_negTrans h⟩

/-! ### The lowest free lane (R20) -/

theorem lowestFree_spec {l : Lanes} {n : Nat} (h : l.lowestFree = some n) :
    64 ≤ n ∧ n < 128 ∧ l.isFree n = true ∧ ∀ k, 64 ≤ k → k < n → l.isFree k = false := by
  obtain ⟨hlo, hhi⟩ := lowestFree_range h
  unfold Lanes.lowestFree sharedLanes at h
  rw [List.find?_map, Option.map_eq_some_iff] at h
  obtain ⟨i, hi, rfl⟩ := h
  obtain ⟨hfree, -, hbelow⟩ := List.find?_range_eq_some.1 hi
  refine ⟨hlo, hhi, hfree, fun k hk hkn => ?_⟩
  have hnot := hbelow (k - 64) (by omega)
  rw [Function.comp_apply, show 64 + (k - 64) = k by omega] at hnot
  simpa using hnot

/-! ### A grant (R20, R21) -/

theorem grantLane_eq (s : State) (lane : Nat) (r : LaneReq) : s.grantLane lane r = (s.placeOnLane lane r).laneOpened r lane := rfl

theorem placeOnLane_sameBut (s : State) (lane : Nat) (r : LaneReq) : s.SameBut [.objs, .lanes] (s.placeOnLane lane r) :=
  (State.placeOnLane_same rfl (Agree.refl 40 s) lane r).sameBut (by decide)

/-- The lane holds the request's operation, with its level, target and age. -/
theorem placeOnLane_lane (s : State) (lane : Nat) (r : LaneReq) :
    ∃ o, flook (s.placeOnLane lane r).lanes.shared lane = some o ∧ o.kind = r.kind ∧ o.base = r.base ∧ o.eff = r.eff
      ∧ o.target = r.target ∧ o.ref = r.ref ∧ o.posted = r.posted ∧ o.granted = s.fab.tick :=
  ⟨_, flook_fset_same _ _ _, rfl, rfl, rfl, rfl, rfl, rfl, rfl⟩

theorem placeOnLane_otherLane (s : State) {lane k : Nat} (r : LaneReq) (h : k ≠ lane) :
    flook (s.placeOnLane lane r).lanes.shared k = flook s.lanes.shared k :=
  flook_fset_other _ h _

theorem laneGrant_of_none {s : State} {lane : Nat} (hf : s.lanes.lowestFree = some lane)
    (h : (0 < s.lanes.grants ∧ s.fab.tick ≤ s.lanes.lastGrant) ∨ s.lanes.best = none) : s.laneGrant = s := by
  unfold State.laneGrant
  rw [hf]
  dsimp only
  rcases h with h | h
  · rw [if_pos h]
  · rw [h]
    exact ite_self s

theorem laneGrant_of_best {s : State} {lane : Nat} {r : LaneReq} (hf : s.lanes.lowestFree = some lane)
    (hg : s.lanes.grants = 0 ∨ s.lanes.lastGrant < s.fab.tick) (hr : s.lanes.best = some r) :
    s.laneGrant = s.grantLane lane r := by
  unfold State.laneGrant
  rw [hf]
  dsimp only
  rw [if_neg (by omega), hr]

theorem laneGrant_of_full {s : State} (hf : s.lanes.lowestFree = none) :
    s.laneGrant = s.lanes.protections.foldl State.protect s := by
  unfold State.laneGrant
  rw [hf]

/-! ### Protection (R23) -/

/-- Ordering a list by insertion keeps its elements. -/
theorem mem_foldl_insert {α : Type} (before : α → α → Bool) (l acc : List α) (x : α) :
    x ∈ l.foldl (fun q r => q.filter (fun y => !before y r) ++ [r] ++ q.filter (fun y => before y r)) acc
      ↔ x ∈ acc ∨ x ∈ l := by
  induction l generalizing acc with
  | nil => simp
  | cons r t ih =>
    rw [List.foldl_cons, ih]
    cases h : before x r <;> simp [h, or_assoc, or_left_comm]

theorem mem_protections (l : Lanes) (r : LaneReq) : r ∈ l.protections ↔ r ∈ l.queue ∧ r.base = 0 := by
  have hins := mem_foldl_insert (fun x r : LaneReq => r.before x) (l.queue.filter (fun r => r.base == 0)) [] r
  simpa [Lanes.protections] using hins

/-- The order in which a lane is chosen for pre-emption: the lowest effective level, then the latest grant (R22, R23). -/
def yieldsBefore (a b : Nat × LaneOp) : Bool :=
  decide (b.2.eff < a.2.eff) || (a.2.eff == b.2.eff && decide (b.2.order < a.2.order))

theorem yieldsBefore_asymm (a b : Nat × LaneOp) (h : yieldsBefore a b = true) : yieldsBefore b a = false := by
  simp only [yieldsBefore, Bool.or_eq_true, Bool.and_eq_true, decide_eq_true_eq, beq_iff_eq, Bool.or_eq_false_iff,
    Bool.and_eq_false_iff, decide_eq_false_iff_not, beq_eq_false_iff_ne] at h ⊢
  omega

theorem yieldsBefore_negTrans (a b c : Nat × LaneOp) (hab : yieldsBefore a b = false) (hbc : yieldsBefore b c = false) :
    yieldsBefore a c = false := by
  simp only [yieldsBefore, Bool.or_eq_false_iff, Bool.and_eq_false_iff, decide_eq_false_iff_not, beq_eq_false_iff_ne] at *
  omega

theorem victim_eq (s : State) (ok : LaneOp → Bool) :
    s.victim ok = leastBy yieldsBefore
      (s.lanes.shared.filter (fun p => ok p.2 && !(s.lanes.handovers.any (fun h => h.lane == p.1)))) := rfl

/-- The victim is a shared lane that is admitted, and none that is admitted and not on its way runs at a lower level. -/
theorem victim_spec {s : State} {ok : LaneOp → Bool} {v : Nat × LaneOp} (h : s.victim ok = some v) :
    v ∈ s.lanes.shared ∧ ok v.2 = true
      ∧ ∀ x ∈ s.lanes.shared, ok x.2 = true → (s.lanes.handovers.any (fun h => h.lane == x.1)) = false →
        x.2.eff ≤ v.2.eff := by
  rw [victim_eq] at h
  obtain ⟨hmem, hok⟩ := List.mem_filter.1 (leastBy_mem h)
  rw [Bool.and_eq_true] at hok
  refine ⟨hmem, hok.1, fun x hx hxok hfree => ?_⟩
  have hleast := leastBy_least yieldsBefore_asymm yieldsBefore_negTrans h x (List.mem_filter.2 ⟨hx, by simp [hxok, hfree]⟩)
  simp only [yieldsBefore, Bool.or_eq_false_iff, decide_eq_false_iff_not] at hleast
  omega

theorem protect_of_victim {s : State} {r : LaneReq} {v : Nat × LaneOp} (h : s.victim (fun o => o.base != 0) = some v) :
    s.protect r = (s.bumpLive K.PROTECT_PREEMPTS).startHandover r v := by
  simp [State.protect, h]

theorem protect_of_counted {s : State} {r : LaneReq} (h : s.victim (fun o => o.base != 0) = none) (hr : r.waitCounted = true) :
    s.protect r = s := by
  simp [State.protect, h, hr]

/-- The request counted as waiting in the queue. -/
def State.countWait (s : State) (r : LaneReq) : State :=
  { s with lanes := { s.lanes with queue := s.lanes.queue.map (fun x => if x = r then { x with waitCounted := true } else x) } }

theorem protect_of_waiting {s : State} {r : LaneReq} (h : s.victim (fun o => o.base != 0) = none) (hr : r.waitCounted = false) :
    s.protect r = ((s.countWait r).bumpLive K.PROTECT_WAITS).raise 0x8A 0x02 0 := by
  simp [State.protect, h, hr, State.countWait]

/-- A protection request without a victim waits, is counted and reported once, and changes nothing else. -/
theorem protect_waits {s : State} {r : LaneReq} (h : s.victim (fun o => o.base != 0) = none) (hr : r.waitCounted = false) :
    s.SameBut [.objs, .lanes, .coll] (s.protect r)
      ∧ (s.protect r).obj K.PROTECT_WAITS = min (s.obj K.PROTECT_WAITS + 1) (2 ^ 32 - 1)
      ∧ (s.protect r).coll = (s.raise 0x8A 0x02 0).coll
      ∧ (s.protect r).lanes.queue = s.lanes.queue.map (fun x => if x = r then { x with waitCounted := true } else x) := by
  have hsame : Agree 104 s (((s.countWait r).bumpLive K.PROTECT_WAITS).raise 0x8A 0x02 0) :=
    State.raise_same rfl (State.bumpLive_same rfl ((same_lanes rfl _).2 (Agree.refl _ s)) _) ..
  rw [protect_of_waiting h hr]
  refine ⟨hsame.sameBut (by decide), ?_, ?_, ?_⟩
  · rw [State.raise_obj, obj_bumpLive, if_pos rfl]
    rfl
  · exact raise_coll_congr (by rfl) (by rfl) (by rfl) ..
  · rw [State.raise_lanes]
    rfl

/-! ### Hard age and hand-over (R22, R24) -/

theorem hardAgePreempt_of_victim {s : State} {r : LaneReq} {v : Nat × LaneOp} (hf : s.lanes.lowestFree = none)
    (hr : leastBy LaneReq.before (s.lanes.queue.filter (fun x =>
      x.promoted && decide (x.posted + s.hardAgeOf x < s.fab.tick) && (s.hardVictim x).isSome)) = some r)
    (hv : s.hardVictim r = some v) : s.hardAgePreempt = (s.bumpLive K.HARD_PREEMPTS).startHandover r v := by
  unfold State.hardAgePreempt
  dsimp only
  rw [hr, hf]
  dsimp only
  rw [hv]

theorem preemptHandover_of_ready {s : State} {lane : Nat} {h : Handover}
    (hfind : s.lanes.handovers.find? (fun x => x.lane == lane) = some h) (hready : s.handoverReady h = true) :
    s.preemptHandover lane
      = ({ s with lanes := { s.lanes with handovers := s.lanes.handovers.erase h } }).grantLane lane h.req := by
  simp [State.preemptHandover, hfind, hready]

theorem preemptHandover_of_running {s : State} {lane : Nat} {h : Handover}
    (hfind : s.lanes.handovers.find? (fun x => x.lane == lane) = some h) (hready : s.handoverReady h = false) :
    s.preemptHandover lane = s := by
  simp [State.preemptHandover, hfind, hready]

/-- An event of a block that the functional clocks drive acts while they run. -/
theorem event_of_clocked {s : State} (h : s.clocked = true) (f : State → State) : s.event f = (f s).after := if_pos h

/-- Settles O29: a grant by the choices of request and lane, pre-emption by the choice of the victim, each row by its equation. -/
theorem laneRowsTakeEffect : Obligations.LaneRowsTakeEffect := by
  intro s hc
  simp only [exec_laneGrant, exec_hardAgePreempt, exec_preemptHandover, event_of_clocked hc]
  refine ⟨fun lane hf => ⟨fun h => ?_, fun r hg hr => ?_⟩, fun hf => ?_, mem_protections s.lanes, fun r v hv => ?_,
    fun r hv => ⟨fun hr => protect_of_counted hv hr, fun hr => protect_waits hv hr⟩, fun r v hf hr hv => ?_,
    fun lane h hfind => ⟨fun hready => ?_, fun hready => ?_⟩⟩
  · rw [laneGrant_of_none hf h]
  · obtain ⟨hmem, hbest⟩ := best_spec hr
    obtain ⟨hlo, hhi, hfree, hbelow⟩ := lowestFree_spec hf
    refine ⟨?_, hmem, hbest, hlo, hhi, hfree, hbelow, placeOnLane_sameBut s lane r, placeOnLane_lane s lane r,
      fun k hk => placeOnLane_otherLane s r hk, rfl, rfl⟩
    rw [laneGrant_of_best hf hg hr, grantLane_eq]
  · rw [laneGrant_of_full hf]
  · obtain ⟨hmem, hbase, hlevel⟩ := victim_spec hv
    exact ⟨protect_of_victim hv, hmem, by simpa using hbase, fun x hx hxb => hlevel x hx (by simpa using hxb)⟩
  · obtain ⟨hmem, heff, -⟩ := victim_spec hv
    refine ⟨?_, (List.mem_filter.1 (leastBy_mem hr)).1, hmem, by simpa using heff⟩
    rw [hardAgePreempt_of_victim hf hr hv]
  · rw [preemptHandover_of_ready hfind hready]
  · rw [preemptHandover_of_running hfind hready]

end Sys2Proof.Machine

namespace Sys2Proof.Machine
open Sys2Proof

/-! Passes and local shutdowns (R110, R116 to R119): what starting a pass leaves in the sequencer, and the rows LOCAL_SHUTDOWN and
HOLDOFF_END. -/

/-! ### Passes (R110, R116, R118) -/

theorem enterPasses_seq (s : State) (took : List Nat) (anchor : Stamp) (urgent : Bool) :
    (took.foldl (fun st n => st.enterPass n anchor urgent) s).seq = s.seq :=
  (same_foldl _ took (Agree.refl 29428072 s) fun _ n h => State.enterPass_same rfl h n anchor urgent).seq rfl

@[simp] theorem dropJobs_seq (s : State) (test : PmbJob → Bool) : (s.dropJobs test).seq = s.seq :=
  (State.dropJobs_same rfl (Agree.refl 262176 s) test).seq rfl

theorem startPass_seq (s : State) (target : Nat) (anchor : Stamp) (shut : Bool) :
    ∃ pass, (s.startPass target anchor shut).seq = { s.seq with
      state := if shut then .shutdown else .falling, way := target, stepOpen := false, stepRails := [], stepTaken := [],
      rearm := [], pass := pass, anchor := anchor } := by
  unfold State.startPass
  dsimp only
  rw [enterPasses_seq]
  exact ⟨_, rfl⟩

/-- A local shutdown's pass goes to waystation 0 in SHUTDOWN, with its anchor; causes and waiting passes stand. -/
theorem postShutdown_seq (s : State) (anchor : Stamp) :
    ∃ pass saved, (s.postShutdown anchor).seq = { s.seq with
      state := .shutdown, way := 0, stepOpen := false, stepRails := [], stepTaken := [], rearm := [], pass := pass,
      anchor := anchor, saved := saved, holdFrom := none, setup := [] } := by
  unfold State.postShutdown
  dsimp only
  obtain ⟨pass, hpass⟩ := startPass_seq (State.dropJobs _ _) 0 anchor true
  rw [hpass, dropJobs_seq]
  exact ⟨_, _, rfl⟩

theorem startDependent_deferred (s : State) (m : Nat) (anchor : Stamp) :
    (s.startDependent m anchor).seq.deferred = s.seq.deferred := by
  unfold State.startDependent
  dsimp only
  rw [enterPasses_seq]

theorem postShutdown_deferred (s : State) (anchor : Stamp) : (s.postShutdown anchor).seq.deferred = s.seq.deferred := by
  obtain ⟨_, _, hseq⟩ := postShutdown_seq s anchor
  rw [hseq]

/-! ### Causes of local shutdown (R118) -/

/-- Does a local shutdown wait for the management cores (R117)? -/
def State.shutdownWaits (s : State) : Bool :=
  s.seq.deferred.any (fun d => match d with
    | .shutdown _ _ => true
    | .dependent _ _ => false)

/-- Does a cause stand, in an operating card, that did not stand before? -/
def State.causeStands (s : State) (c : BitVec 8) : Prop :=
  s.serving = true ∧ c.toNat ∉ s.seq.causes
    ∧ ((c = 1 ∧ s.input.lossDone = true ∧ s.input.good = false)
      ∨ (c = 2 ∧ s.objB K.PFAIL_SHUTDOWN = true ∧ s.input.pfailLow = true) ∨ (c = 5 ∧ s.objB K.LOCAL_HOLD = true))

/-- The state with a cause that stands. -/
def State.withCause (s : State) (cause : Nat) : State :=
  { s with seq := { s.seq with causes := nins s.seq.causes cause } }

/-- The state with a shutdown noted, counted and reported. -/
def State.shutdownNoted (s : State) (cause : Nat) (anchor : Stamp) : State :=
  (((s.withCause cause).noteCause cause).bump K.LOCAL_SHUTDOWNS).raiseAt 0x8A 0x10 0 anchor

theorem toNat_eq_iff (c : BitVec 8) {n : Nat} (h : n < 256) : c.toNat = n ↔ c = BitVec.ofNat 8 n := by
  refine ⟨fun e => ?_, fun e => ?_⟩
  · rw [← e, BitVec.ofNat_toNat, BitVec.setWidth_eq]
  · rw [e, BitVec.toNat_ofNat, Nat.mod_eq_of_lt h]

theorem causeArises_eq (s : State) (c : BitVec 8) [Decidable (s.causeStands c)] :
    s.causeArises c.toNat = if s.causeStands c then s.localShutdown c.toNat s.now else s := by
  have h1 : c.toNat = 1 ↔ c = 1 := toNat_eq_iff c (by decide)
  have h2 : c.toNat = 2 ↔ c = 2 := toNat_eq_iff c (by decide)
  have h5 : c.toNat = 5 ↔ c = 5 := toNat_eq_iff c (by decide)
  unfold State.causeArises
  dsimp only
  refine ite_congr (propext ?_) (fun _ => rfl) (fun _ => rfl)
  simp only [State.causeStands, Bool.and_eq_true, Bool.or_eq_true, Bool.not_eq_true', beq_iff_eq, h1, h2, h5,
    List.contains_eq_mem, decide_eq_false_iff_not, and_assoc, or_assoc]
  exact and_congr_right fun _ => and_comm

theorem localShutdown_of_standing {s : State} {cause : Nat} {anchor : Stamp}
    (h : s.seq.state = .collapsed ∨ s.seq.state = .shutdown ∨ s.shutdownWaits = true) :
    s.localShutdown cause anchor = s.withCause cause := by
  unfold State.localShutdown
  exact if_pos h

theorem shutdownNoted_coresUp (s : State) (cause : Nat) (anchor : Stamp) :
    (s.shutdownNoted cause anchor).coresUp = s.coresUp := by
  unfold State.shutdownNoted State.noteCause
  rw [State.raiseAt_coresUp, State.bump_coresUp]
  split <;> rfl

theorem shutdownNoted_seq (s : State) (cause : Nat) (anchor : Stamp) :
    (s.shutdownNoted cause anchor).seq = { s.seq with causes := nins s.seq.causes cause } := by
  unfold State.shutdownNoted State.noteCause
  rw [State.raiseAt_seq, State.bump_seq]
  split <;> rfl

section New
variable {s : State} {cause : Nat} {anchor : Stamp}
variable (h : ¬ (s.seq.state = .collapsed ∨ s.seq.state = .shutdown ∨ s.shutdownWaits = true))
include h

theorem localShutdown_of_coresUp (hc : s.coresUp = true) :
    s.localShutdown cause anchor = (s.shutdownNoted cause anchor).postShutdown anchor := by
  unfold State.localShutdown
  exact (if_neg h).trans (if_pos ((shutdownNoted_coresUp s cause anchor).trans hc))

theorem localShutdown_of_coresDown (hc : s.coresUp = false) :
    s.localShutdown cause anchor = { s.shutdownNoted cause anchor with
      seq := { (s.shutdownNoted cause anchor).seq with deferred := s.seq.deferred ++ [.shutdown cause anchor] } } := by
  have hdown : ¬ (s.shutdownNoted cause anchor).coresUp = true := by
    rw [shutdownNoted_coresUp, hc]
    exact Bool.false_ne_true
  have hdeferred : (s.shutdownNoted cause anchor).seq.deferred = s.seq.deferred := by
    rw [shutdownNoted_seq]
  rw [← hdeferred]
  unfold State.localShutdown
  exact (if_neg h).trans (if_neg hdown)

end New

theorem obj_noteCause (s : State) (cause j : Nat) :
    (s.noteCause cause).obj j = if j = K.SHUTDOWN_CAUSE ∧ s.obj K.SHUTDOWN_CAUSE = 0 then cause else s.obj j := by
  unfold State.noteCause
  by_cases h : s.obj K.SHUTDOWN_CAUSE = 0
  · simp [h, obj_setLive]
  · simp [h]

/-- A shutdown counts, and keeps the first cause (R118, R445). -/
theorem shutdownNoted_objects (s : State) (cause : Nat) (anchor : Stamp) :
    (s.shutdownNoted cause anchor).obj K.LOCAL_SHUTDOWNS = min (s.obj K.LOCAL_SHUTDOWNS + 1) (2 ^ 32 - 1)
      ∧ (s.shutdownNoted cause anchor).obj K.SHUTDOWN_CAUSE
        = (if s.obj K.SHUTDOWN_CAUSE = 0 then cause else s.obj K.SHUTDOWN_CAUSE) := by
  unfold State.shutdownNoted
  refine ⟨?_, ?_⟩
  · rw [State.raiseAt_obj, State.bump, obj_setPers, if_pos rfl, obj_noteCause, if_neg (fun h => absurd h.1 (by decide))]
    rfl
  · rw [State.raiseAt_obj, obj_bump _ _ _ (by decide), obj_noteCause]
    simp only [true_and]
    rfl

/-- The frame of a local shutdown's pass. -/
theorem shutdown_sameBut (s : State) (cause : Nat) (anchor : Stamp) :
    s.SameBut [.objs, .lanes, .coll, .store, .cap, .rails, .seq, .pmb, .stips, .sinks, .gov]
      ((s.shutdownNoted cause anchor).postShutdown anchor) := by
  have hnoted : Agree 29821288 s (s.shutdownNoted cause anchor) :=
    State.raiseAt_same rfl (State.bump_same rfl (State.noteCause_same rfl ((same_seq rfl _).2 (Agree.refl _ s)) _) _) ..
  exact (State.postShutdown_same rfl hnoted anchor).sameBut (by decide)

/-! ### The hold-off (R119, R127) -/

theorem enterSetup_obj (s : State) (j : Nat) : s.enterSetup.obj j = s.obj j :=
  (State.enterSetup_same rfl (Agree.refl 2555936 s)).obj rfl j

theorem setupNext_seq (s : State) : s.setupNext.seq = s.seq :=
  (State.setupNext_same rfl (Agree.refl 262176 s)).seq rfl

theorem setRails_seq (f : Rail → Rail) (ns : List Nat) (s : State) :
    (ns.foldl (fun st n => st.setRail n (f (st.rail n))) s).seq = s.seq :=
  (same_foldl _ ns (Agree.refl 65536 s) fun _ _ h => State.setRail_same rfl h ..).seq rfl

/-- The hold-off leads to SETUP, or to IDLE where PMB_SETUP is 0. -/
theorem enterSetup_seq {s : State} (hfrom : s.seq.holdFrom = none) :
    s.enterSetup.seq.holdFrom = none
      ∧ s.enterSetup.seq.state = (if s.objB K.PMB_SETUP = true then .setup else .idle) := by
  unfold State.enterSetup
  by_cases h : s.objB K.PMB_SETUP = true
  · rw [if_pos h, if_pos h]
    dsimp only
    rw [setupNext_seq]
    dsimp only
    rw [setRails_seq (fun r => { r with noPmb := false })]
    exact ⟨hfrom, rfl⟩
  · rw [if_neg h, if_neg h]
    exact ⟨hfrom, rfl⟩

/-- The state in which the hold-off has ended. -/
def State.holdoffOver (s : State) : State :=
  { (s.setLive K.SHUTDOWN_CAUSE 0) with seq := { s.seq with holdFrom := none, state := .idle } }

theorem holdoffEnd_of_over {s : State} {t : Nat} (hstate : s.seq.state = .holdoff) (hfrom : s.seq.holdFrom = some t)
    (hcauses : s.seq.causes = []) (hspan : t + usTicks (s.obj K.REENTRY_HOLDOFF) ≤ s.fab.tick) :
    s.holdoffEnd = s.holdoffOver.enterSetup := by
  unfold State.holdoffEnd
  rw [hstate, hfrom]
  exact if_pos ⟨by simp [hcauses], hspan⟩

theorem holdoffOver_setup (s : State) : s.holdoffOver.objB K.PMB_SETUP = s.objB K.PMB_SETUP := by
  unfold State.objB
  exact congrArg (· != 0) ((obj_setLive s K.SHUTDOWN_CAUSE 0 K.PMB_SETUP).trans (if_neg (by decide)))

/-! ### PMBus transactions (R24, R126, R127, R129) -/

section Transfer
variable {s : State} {bus id : Nat} {j : PmbJob}

/-- A transfer that went well leaves its page on its port. -/
theorem notePage_needsPage (s : State) (n : Nat) : (s.notePage n).needsPage n = false := by
  have hpage : flook (s.notePage n).pmb.last ((s.notePage n).pmbPort n) = some (s.obj (K.PMB_ADDR n), s.obj (K.PMB_PAGE n)) :=
    flook_fset_same _ _ _
  simp [State.needsPage, hpage, show ∀ k, (s.notePage n).obj k = s.obj k from fun _ => rfl]

theorem flook_fdel_same {α : Type} (m : FMap α) (k : Nat) : flook (fdel m k) k = none := by
  induction m with
  | nil => rfl
  | cons p r ih =>
    simp only [fdel]
    split
    · exact ih
    · next h => simp only [flook, if_neg h, ih]

/-- A transfer that failed leaves none. -/
theorem forgetPage_needsPage {n : Nat} (hport : s.pmbPort n = bus) (hpage : s.obj (K.PMB_PAGE n) ≠ 0xFF) :
    (s.forgetPage bus).needsPage n = true := by
  have hlast : flook (s.forgetPage bus).pmb.last ((s.forgetPage bus).pmbPort n) = none := by
    rw [show (s.forgetPage bus).pmbPort n = bus from hport]
    exact flook_fdel_same _ _
  simp [State.needsPage, hlast, show ∀ k, (s.forgetPage bus).obj k = s.obj k from fun _ => rfl, hpage]

/-- The port after a transfer. -/
def State.transferred (s : State) (bus : Nat) (ok : Bool) (j : PmbJob) : State :=
  if ok = true then s.notePage j.rail else s.forgetPage bus

/-- The transaction off its port, and the next one started. -/
def State.jobEnded (s : State) (bus : Nat) (ok : Bool) (j : PmbJob) : State :=
  ((s.transferred bus ok j).endJob bus j).startPort bus

/-- What a transfer of a running transaction leaves, and leads to (R126, R129). -/
theorem pmbTransfer_eq (hrun : flook s.pmb.running bus = some id) (hjob : s.pmb.job id = some j) (ok : Bool) (data : Nat) :
    s.pmbTransfer bus ok data =
      match j.fate with
      | .mute => (s.jobEnded bus ok j, .none)
      | .last => (s.jobEnded bus ok j, .preempted j (if ok && !j.paging then some data else none))
      | .normal =>
        if ok then
          if j.paging then ((s.transferred bus ok j).setJob { j with paging := false }, .none)
          else (s.jobEnded bus ok j, .done j data)
        else if j.tries < s.obj K.PMB_RETRIES then
          ((s.transferred bus ok j).setJob
            { j with tries := j.tries + 1, paging := (s.transferred bus ok j).needsPage j.rail }, .none)
        else (s.jobEnded bus ok j, .failed j) := by
  unfold State.pmbTransfer
  rw [hrun, Option.bind_some, hjob]
  rfl

/-- What a transfer on a port leads to while VIO is present. -/
theorem pmbDone_eq (hvio : s.vioGone = false) (hrun : flook s.pmb.running bus = some id) (hjob : s.pmb.job id = some j) (ok : Bool)
    (data : Nat) :
    s.pmbDone bus ok data =
      match j.fate with
      | .mute => s.jobEnded bus ok j
      | .last => (s.jobEnded bus ok j).pmbEnded (.preempted j (if ok && !j.paging then some data else none))
      | .normal =>
        if ok then
          if j.paging then (s.transferred bus ok j).setJob { j with paging := false }
          else (s.jobEnded bus ok j).pmbEnded (.done j data)
        else if j.tries < s.obj K.PMB_RETRIES then
          (s.transferred bus ok j).setJob { j with tries := j.tries + 1, paging := (s.transferred bus ok j).needsPage j.rail }
        else (s.jobEnded bus ok j).pmbEnded (.failed j) := by
  unfold State.pmbDone
  dsimp only
  rw [hvio, Bool.not_false, Bool.and_true, pmbTransfer_eq hrun hjob]
  cases j.fate with
  | normal =>
    dsimp only
    repeat' split
    all_goals rfl
  | mute => rfl
  | last => rfl

end Transfer

/-- Without VIO a transfer fails, whatever the port shows (R431, R432). -/
theorem pmbDone_of_vioGone {s : State} (h : s.vioGone = true) (bus : Nat) (ok : Bool) (data : Nat) :
    s.pmbDone bus ok data = s.pmbDone bus false data := by
  simp [State.pmbDone, h]

/-! ### The rows -/

theorem localShutdown_row {s : State} (hc : s.clocked = true) (c : BitVec 8) :
    (¬ s.causeStands c → exec (.localShutdown c) s = .next s.after)
      ∧ (s.causeStands c → exec (.localShutdown c) s = .next (s.localShutdown c.toNat s.now).after) := by
  classical
  rw [exec_localShutdown, event_of_clocked hc, causeArises_eq]
  exact ⟨fun h => by rw [if_neg h], fun h => by rw [if_pos h]⟩

theorem holdoffEnd_row {s : State} {t : Nat} (hc : s.clocked = true) (hstate : s.seq.state = .holdoff)
    (hfrom : s.seq.holdFrom = some t) (hcauses : s.seq.causes = [])
    (hspan : t + usTicks (s.obj K.REENTRY_HOLDOFF) ≤ s.fab.tick) :
    ∃ u, exec .holdoffEnd s = .next u.after ∧ s.SameBut [.objs, .lanes, .rails, .seq, .pmb, .margins] u
      ∧ u.obj K.SHUTDOWN_CAUSE = 0 ∧ u.seq.holdFrom = none
      ∧ u.seq.state = (if s.objB K.PMB_SETUP = true then .setup else .idle) := by
  have hover := holdoffEnd_of_over hstate hfrom hcauses hspan
  obtain ⟨hnone, hnext⟩ := enterSetup_seq (s := s.holdoffOver) rfl
  rw [holdoffOver_setup] at hnext
  refine ⟨s.holdoffEnd, by rw [exec_holdoffEnd, event_of_clocked hc],
    (State.holdoffEnd_same rfl (Agree.refl 2555944 s)).sameBut (by decide), ?_, hover ▸ hnone, hover ▸ hnext⟩
  rw [hover, enterSetup_obj]
  exact (obj_setLive _ _ _ _).trans (if_pos rfl)

/-- Settles O33: a cause by what it is judged on and whether a shutdown stands, the end of the hold-off, and a transfer by the fate
of its transaction. -/
theorem shutdownAndPmbusRowsTakeEffect : Obligations.ShutdownAndPmbusRowsTakeEffect := by
  intro s hc
  refine ⟨fun c => ?_, fun t => holdoffEnd_row hc, fun bus ok data hvio => ?_, fun bus ok data id j hvio hrun hjob => ?_⟩
  · obtain ⟨hidle, hact⟩ := localShutdown_row hc c
    refine ⟨hidle, fun hstands hoff => ?_, fun hstands hoff => ⟨(shutdownNoted_objects s c.toNat s.now).1,
      (shutdownNoted_objects s c.toNat s.now).2, fun hcores => ?_, fun hcores => ?_⟩⟩
    · rw [hact hstands, localShutdown_of_standing hoff]
      rfl
    · rw [hact hstands, localShutdown_of_coresDown hoff hcores]
      rfl
    · obtain ⟨_, _, hseq⟩ := postShutdown_seq (s.shutdownNoted c.toNat s.now) s.now
      rw [shutdownNoted_seq] at hseq
      rw [hact hstands, localShutdown_of_coresUp hoff hcores]
      exact ⟨rfl, shutdown_sameBut s c.toNat s.now, congrArg Seq.state hseq, congrArg Seq.way hseq, congrArg Seq.causes hseq,
        congrArg Seq.anchor hseq⟩
  · rw [exec_pmbusTransactionDone, exec_pmbusTransactionDone, event_of_clocked hc, event_of_clocked hc, pmbDone_of_vioGone hvio]
  · simp only [exec_pmbusTransactionDone, event_of_clocked hc, pmbDone_eq hvio hrun hjob]
    refine ⟨fun hfate => ⟨fun hok hpaging => ?_, fun hok hpaging => ?_, fun hok htries => ?_, fun hok htries => ?_⟩,
      fun hfate => ⟨fun hok hpaging => ?_, fun hlost => ?_⟩, fun hfate => ?_,
      notePage_needsPage s j.rail, forgetPage_needsPage⟩
    · rw [hfate, if_pos hok, if_pos hpaging]
      rfl
    · simp only [hfate, hok, hpaging]
      rfl
    · simp only [hfate, hok, htries]
      rfl
    · simp only [hfate, hok, Nat.not_lt.2 htries]
      rfl
    · simp only [hfate, hok, hpaging]
      rfl
    · have hnone : (ok && !j.paging) = false := by
        rcases hlost with h | h <;> simp [h]
      simp only [hfate, hnone]
      rfl
    · simp only [hfate]
      rfl

end Sys2Proof.Machine

namespace Sys2Proof.Machine
open Sys2Proof

/-! The management cores (R28, R29, R57, R117, R314, R344, R395): a restart up to its hold, and the start with what resumes. -/

/-! ### A restart (R28, R29, R57) -/

/-- The value at a key once every value is changed, where the default stands for itself. -/
theorem fget_mapVals {α : Type} (g : α → α) (m : FMap α) (k : Nat) {d : α} (hd : g d = d) :
    fget (mapVals g m) k d = g (fget m k d) := by
  induction m with
  | nil => exact hd.symm
  | cons p r ih =>
    by_cases h : p.1 = k
    · simp [mapVals, fget, h]
    · simp only [mapVals, List.map_cons, fget, if_neg h]
      exact ih

/-- A session without its latches. -/
def Session.unlatched (x : Session) : Session := { x with latches := [] }

theorem clearLatches_session (s : State) (p : Nat) :
    (s.clearLatches.port p).session = ((s.port p).session).map Session.unlatched := by
  have hport : s.clearLatches.port p = { s.port p with session := ((s.port p).session).map Session.unlatched } :=
    fget_mapVals (fun q : PortState => { q with session := q.session.map Session.unlatched }) s.hosts.ports p rfl
  rw [hport]

/-- The ticks of this restart and of those within 10 s before it (R29). -/
def State.recentRestarts (s : State) : List Nat :=
  s.fab.tick :: s.cores.restarts.filter (fun t => decide (s.fab.tick < t + 2000000000))

/-- The cores held by a restart, with its message sent and every latch cleared. -/
def State.restartHeld (s : State) (cause : Nat) : State :=
  { (s.raise 0x8B cause 0).clearLatches with cores := {
    hold := some (if decide (3 ≤ s.recentRestarts.length) then .limit else .restart cause), restarts := s.recentRestarts } }

/-- The restart; the third within 10 s is reported as such. -/
def State.restarted (s : State) (cause : Nat) : State :=
  if decide (3 ≤ s.recentRestarts.length) then (s.restartHeld cause).raise 0x8B 0x03 0 else s.restartHeld cause

theorem coreRestart_of_held {s : State} {cause : Nat} (h : s.coresStarted = false ∨ s.cores.hold.isSome = true) :
    s.coreRestart cause = s :=
  if_pos h

theorem restarted_agree (s : State) (cause : Nat) : Agree 536871488 s (s.restarted cause) := by
  have hheld : Agree 536871488 s (s.restartHeld cause) :=
    (same_cores rfl _).2 (State.clearLatches_same rfl (State.raise_same rfl (Agree.refl _ s) ..))
  exact same_ite (State.raise_same rfl hheld ..) hheld

/-- A restart of running cores; a trial that has run fails (R395). -/
theorem coreRestart_of_running {s : State} {cause : Nat} (hstarted : s.coresStarted = true) (hhold : s.cores.hold = none) :
    s.coreRestart cause = if s.record.pending.isSome = true ∧ s.record.ran = true then (s.restarted cause).trialFail 0x09
      else s.restarted cause := by
  have hrecord : s.record = (s.restarted cause).record := (congrArg Loader.record ((restarted_agree s cause).loader rfl)).symm
  rw [hrecord]
  exact if_neg (by simp [hstarted, hhold])

theorem restarted_of_few {s : State} {cause : Nat} (h : s.recentRestarts.length < 3) : s.restarted cause = s.restartHeld cause :=
  if_neg (by simpa using h)

theorem restarted_of_many {s : State} {cause : Nat} (h : 3 ≤ s.recentRestarts.length) :
    s.restarted cause = (s.restartHeld cause).raise 0x8B 0x03 0 :=
  if_pos (by simpa using h)

theorem restarted_cores (s : State) (cause : Nat) :
    (s.restarted cause).cores.hold = some (if 3 ≤ s.recentRestarts.length then .limit else .restart cause)
      ∧ (s.restarted cause).cores.restarts = s.recentRestarts := by
  by_cases h : 3 ≤ s.recentRestarts.length
  · rw [restarted_of_many h, State.raise_cores]
    exact ⟨by simp [State.restartHeld, h], rfl⟩
  · rw [restarted_of_few (Nat.lt_of_not_le h)]
    exact ⟨by simp [State.restartHeld, h], rfl⟩

theorem restarted_coll (s : State) (cause : Nat) :
    (s.recentRestarts.length < 3 → (s.restarted cause).coll = (s.raise 0x8B cause 0).coll)
      ∧ (3 ≤ s.recentRestarts.length → (s.restarted cause).coll = ((s.raise 0x8B cause 0).raise 0x8B 0x03 0).coll) := by
  refine ⟨fun h => ?_, fun h => ?_⟩
  · rw [restarted_of_few h]
    rfl
  · rw [restarted_of_many h]
    exact raise_coll_congr (by rfl) (by rfl) (by rfl) ..

/-- Every session stands, without its latches (R57). -/
theorem restarted_session {s : State} {cause p : Nat} {x : Session} (h : ((s.restarted cause).port p).session = some x) :
    x.latches = [] ∧ ∃ y, (s.port p).session = some y ∧ x = { y with latches := [] } := by
  have hport : ((s.restarted cause).port p).session = ((s.port p).session).map Session.unlatched := by
    have hraise : (s.raise 0x8B cause 0).port p = s.port p := State.raise_port s ..
    have hhosts : (s.restarted cause).port p = (s.raise 0x8B cause 0).clearLatches.port p := by
      unfold State.restarted
      split
      · exact State.raise_port ..
      · rfl
    rw [hhosts, clearLatches_session, hraise]
  rw [hport, Option.map_eq_some_iff] at h
  obtain ⟨y, hy, rfl⟩ := h
  exact ⟨rfl, y, hy, rfl⟩

/-! ### The start (R28, R117, R314, R344) -/

theorem coreStart_of_idle {s : State} (h : s.cores.hold = none ∨ s.cores.hold = some .limit ∨ s.input.onVhu = true) :
    s.coreStart = s := by
  unfold State.coreStart
  split
  · rfl
  · rfl
  · next hlimit hhold =>
    rcases h with h | h | h
    · exact absurd (hhold.symm.trans h) (Option.some_ne_none _)
    · exact absurd (Option.some.inj (hhold.symm.trans h)) hlimit
    · exact if_pos h

/-- The cores released, their hold left to the ledger. -/
def State.released (s : State) (h : CoreHold) : State :=
  { s with
    cores := { s.cores with hold := none }
    ledger := { s.ledger with restartCauses := s.ledger.restartCauses ++ h.record } }

/-- The loader has booted. -/
def State.booted (s : State) (h : CoreHold) : State := (s.released h).bootImage.noteWindow s.collWindow

/-- A leader that was held is in SOLO (Table 3.8). -/
def State.stepDown (s : State) : State :=
  if s.convoy.state = .leader then s.leaveConvoy .solo (max (s.fab.edgeTick + 200000) s.fab.tick).toNat else s

/-- The boot and what resumes, up to the passes that waited. -/
def State.resumed (s : State) (h : CoreHold) : State := (s.booted h).stepDown.lateReady.drive

theorem coreStart_of_released {s : State} {h : CoreHold} (hhold : s.cores.hold = some h) (hlimit : h ≠ .limit)
    (hvhu : s.input.onVhu = false) : s.coreStart = (s.resumed h).postDeferred := by
  unfold State.coreStart
  rw [hhold]
  cases h with
  | limit => exact absurd rfl hlimit
  | _ => exact if_neg (by simp [hvhu])

theorem booted_agree {L : Nat} {z s : State} (hL : 2199425933656 &&& L = 2199425933656) {h : CoreHold}
    (hz : Agree L z (s.released h)) : Agree L z (s.booted h) :=
  State.noteWindow_same (sub_trans rfl hL) (State.bootImage_same hL hz) _

theorem stepDown_agree {L : Nat} {z s : State} (hL : 67108872 &&& L = 67108872) (hz : Agree L z s) : Agree L z s.stepDown :=
  same_ite (State.leaveConvoy_same hL hz ..) hz

theorem resumed_agree (s : State) (h : CoreHold) : Agree 2199493042520 (s.released h) (s.resumed h) :=
  State.drive_same rfl (State.lateReady_same rfl (stepDown_agree rfl (booted_agree rfl (Agree.refl _ _))))

theorem resumed_postDeferred_agree (s : State) (h : CoreHold) : Agree 2199522863480 (s.released h) (s.resumed h).postDeferred :=
  State.postDeferred_same rfl
    (State.drive_same rfl (State.lateReady_same rfl (stepDown_agree rfl (booted_agree rfl (Agree.refl _ _)))))

/-- Posting the passes that waited leaves none. -/
theorem postDeferred_deferred {s : State} (h : s.coresUp = true) : s.postDeferred.seq.deferred = [] := by
  have posts : ∀ (l : List Deferred) (t : State), t.seq.deferred = [] → (l.foldl (fun st d => match d with
      | .shutdown _ a => st.postShutdown a
      | .dependent m a => st.startDependent m a) t).seq.deferred = [] := by
    intro l
    induction l with
    | nil => exact fun _ ht => ht
    | cons d r ih =>
      intro t ht
      cases d with
      | shutdown c a => exact ih _ ((postShutdown_deferred t a).trans ht)
      | dependent m a => exact ih _ ((startDependent_deferred t m a).trans ht)
  unfold State.postDeferred
  rw [if_pos h]
  exact posts _ _ rfl

@[simp] theorem updBeat_convoy (s : State) (present : Bool) : (s.updBeat present).convoy = s.convoy :=
  (State.updBeat_same rfl (Agree.refl 268435456 s) present).convoy rfl

@[simp] theorem lateReady_state (s : State) : s.lateReady.convoy.state = s.convoy.state := by
  unfold State.lateReady
  dsimp only
  split
  · rw [updBeat_convoy]
    split <;> rfl
  · rfl

@[simp] theorem drive_state (s : State) : s.drive.convoy.state = s.convoy.state := by
  obtain ⟨_, _, _, _, _, hdrive⟩ := drive_convoy s
  rw [hdrive]

theorem stepDown_state (s : State) :
    s.stepDown.convoy.state = (if s.convoy.state = .leader then .solo else s.convoy.state) := by
  unfold State.stepDown
  split <;> rfl

/-- The cores run once they are released (R28), since the clocks do. -/
theorem resumed_coresUp {s : State} (hc : s.clocked = true) (h : CoreHold) : (s.resumed h).coresUp = true := by
  have hfrozen : s.frozen.isNone = true := by
    unfold State.clocked at hc
    exact (Bool.and_eq_true_iff.1 hc).1
  exact ((resumed_agree s h).coresUp rfl rfl).trans hfrozen

/-- A leader that was held is in SOLO, and any other unit where it was. -/
theorem resumed_postDeferred_state (s : State) (h : CoreHold) :
    (s.resumed h).postDeferred.convoy.state = (if s.convoy.state = .leader then .solo else s.convoy.state) := by
  have hbooted : (s.booted h).convoy = s.convoy := (booted_agree rfl (Agree.refl 2199425933656 (s.released h))).convoy rfl
  have hposted : (s.resumed h).postDeferred.convoy = (s.resumed h).convoy :=
    (State.postDeferred_same rfl (Agree.refl 29821288 _)).convoy rfl
  rw [hposted, State.resumed, drive_state, lateReady_state, stepDown_state, hbooted]

/-- Settles O30: a restart is its hold with message and latches cleared, then the trial; the start is the boot, the convoy's review
and the passes that waited. -/
theorem coreRowsTakeEffect : Obligations.CoreRowsTakeEffect := by
  intro s hc
  refine ⟨fun cause hcause => ?_, fun h => ?_, fun h hhold hlimit hvhu => ?_⟩
  · have hexec : exec (if cause = 1 then .lockstepMismatch else .watchdogExpiry) s = .next (s.coreRestart cause).after := by
      rcases hcause with rfl | rfl
      · exact (exec_lockstepMismatch s).trans (congrArg _ (event_of_clocked hc _))
      · exact (exec_watchdogExpiry s).trans (congrArg _ (event_of_clocked hc _))
    dsimp only
    rw [hexec]
    refine ⟨fun h => by rw [coreRestart_of_held h], fun hstarted hhold => ?_⟩
    obtain ⟨hcores, hrestarts⟩ := restarted_cores s cause
    obtain ⟨hfew, hmany⟩ := restarted_coll s cause
    refine ⟨s.restarted cause, by rw [coreRestart_of_running hstarted hhold], (restarted_agree s cause).sameBut (by decide),
      hcores, hrestarts, hfew, hmany, fun p x hx => restarted_session hx⟩
  · rw [exec_coreStart, event_of_clocked hc, coreStart_of_idle h]
  · have hstart : s.coreStart = (s.resumed h).postDeferred := coreStart_of_released hhold hlimit hvhu
    have hkept := resumed_postDeferred_agree s h
    refine ⟨s.coreStart, by rw [exec_coreStart, event_of_clocked hc],
      (State.coreStart_same rfl (Agree.refl 2199522864120 s)).sameBut_fields (by decide), ?_⟩
    rw [hstart, hkept.cores rfl, hkept.ledger rfl, resumed_postDeferred_state]
    refine ⟨rfl, postDeferred_deferred (resumed_coresUp hc h), ?_, rfl⟩
    cases h <;> rfl

end Sys2Proof.Machine

namespace Sys2Proof.Machine
open Sys2Proof

/-! POWER_GRANT_REEVAL on a map of sinks that lists a key twice (R240): the statement of the toll rows asks that a sink without a
power grant keep its want, and the second listing gives it none of its own. -/

/-! ### What keeps the wants -/

@[simp] theorem sink_setSink_same (s : State) (n : Nat) (k : Sink) : (s.setSink n k).sink n = k := fget_fset_same _ _ _ _

theorem sink_setSink_other (s : State) {n m : Nat} (h : m ≠ n) (k : Sink) : (s.setSink n k).sink m = s.sink m :=
  fget_fset_other _ h _ _

/-- Every sink wants in t what it wants in s. -/
def SameWants (s t : State) : Prop := ∀ n, (t.sink n).want = (s.sink n).want

theorem SameWants.refl (s : State) : SameWants s s := fun _ => rfl

theorem SameWants.of_sinks {z s t : State} (h : SameWants z s) (ht : t.sinks = s.sinks) : SameWants z t := fun n => by
  rw [State.sink, ht]
  exact h n

theorem SameWants.setSink {z s : State} (h : SameWants z s) {n : Nat} {k : Sink} (hk : k.want = (s.sink n).want) :
    SameWants z (s.setSink n k) := fun m => by
  by_cases hm : m = n
  · rw [hm, sink_setSink_same, hk]
    exact h n
  · rw [sink_setSink_other s hm]
    exact h m

theorem SameWants.freePower {z s : State} (h : SameWants z s) (n g : Nat) : SameWants z (s.freePower n g) :=
  (h.setSink (k := { s.sink n with power := (s.sink n).power - g }) rfl).of_sinks rfl

theorem SameWants.trimGrants {z : State} (levels : List Nat) (count : Nat) (report : Bool) (fuel : Nat) :
    ∀ {s : State}, SameWants z s → ∀ need, SameWants z (State.trimGrants fuel s levels need count report).1 := by
  induction fuel generalizing levels with
  | zero => exact fun h _ => h
  | succ f ih =>
    intro s h need
    cases levels with
    | nil => exact h
    | cons l rest =>
      unfold State.trimGrants
      split
      · exact h
      · split
        · exact ih rest h need
        · next n _ =>
          refine ih (l :: rest) ?_ _
          have htrim := ((h.freePower n (min need (s.sink n).power)).setSink (n := n)
            (k := { (s.freePower n (min need (s.sink n).power)).sink n with trimmed := true }) rfl)
          split <;> exact htrim.of_sinks (by simp)

theorem SameWants.setReserve {z s : State} (h : SameWants z s) (v : Nat) : SameWants z (s.setReserve v) := by
  unfold State.setReserve
  split
  · exact (SameWants.trimGrants [2, 1, 0] K.RESERVE_TRIMS true 195 h _).of_sinks rfl
  · exact h.of_sinks rfl

theorem SameWants.governed {z s : State} (h : SameWants z s) : SameWants z s.governed := by
  have stands : ∀ (l : List Nat) {t : State}, SameWants z t →
      SameWants z (l.foldl (fun st n => st.setSink n { st.sink n with standby := false }) t) := by
    intro l
    induction l with
    | nil => exact fun h => h
    | cons n r ih => exact fun h => ih (h.setSink rfl)
  have review : SameWants z s.reserveReview := by
    unfold State.reserveReview
    split
    · exact h
    · exact (h.of_sinks (t := { s with gov := { s.gov with high := s.reserveHigh } }) rfl).setReserve _
  exact stands _ review

/-! ### What follows on a tick of start-up -/

/-- In phase CORES nothing follows a command but the governor's own review, with no update, trial or hold of the cores, at full
power. -/
theorem after_of_cores {s : State} (hphase : s.phase = .cores) (hfrozen : s.frozen = none) (hupd : s.upd.state = .idle)
    (hpower : s.power = .full) (hhold : s.cores.hold = none) : s.after = s.leftReserve.governed := by
  have hclocked : s.clocked = true := by simp [State.clocked, hfrozen, hphase]
  have notServing : ∀ {t : State}, t.phase = .cores → t.serving = false := fun h => by simp [State.serving, h]
  have hrest : s.rest = s.leftReserve.governed := by
    simp [State.rest, State.phaseSettle, State.joined, State.settle, State.applySettle, State.healthSettle, State.powerReview,
      State.heldLatches, hphase, hfrozen, notServing hphase, hupd, hpower, hhold]
  have hstill : s.leftReserve.governed.phase = s.phase :=
    (State.governed_same rfl (State.leftReserve_same rfl (Agree.refl 25166152 s))).phase rfl
  unfold State.after
  rw [if_neg (by simp [hfrozen]), if_pos hclocked, hrest]
  exact if_neg fun h => Bool.false_ne_true ((notServing (hstill.trans hphase)).symm.trans h.2.1)

/-- A card in phase CORES whose map of sinks lists SINK[0] twice: first without a power grant and with a want of 1 toll, then with a
power grant of 1 toll. The sink reads as its first listing says. -/
def sinkListedTwice : State :=
  { State.reset with
    phase := .cores
    fab := { Fabric.reset with tick := 200000 }
    sinks := [(0, { Sink.idle with want := 1 }), (0, { Sink.idle with power := 1 })] }

/-- Nothing that follows on the tick touches a want, whatever the re-evaluation has changed. -/
theorem sinkListedTwice_after {u : State} (h : sinkListedTwice.SameBut [.objs, .coll, .store, .sinks, .gov] u) :
    SameWants u u.after := by
  rw [after_of_cores (h.phase rfl) (h.frozen rfl) (congrArg Upd.state (h.upd rfl)) (h.power rfl)
    (congrArg Cores.hold (h.cores rfl))]
  refine SameWants.governed ((SameWants.refl u).of_sinks ?_)
  unfold State.leftReserve
  split <;> rfl

/-- The re-evaluation finds SINK[0] by its second listing and sets the want of the first to what its current of 0 asks for. -/
theorem sinkListedTwice_reeval : (sinkListedTwice.reevalPower.sink 0).want = 0 := by decide

/-- Refutes O41: POWER_GRANT_REEVAL leaves SINK[0], which reads as one without a power grant, with another want than before, where
the map of sinks lists it a second time with a grant; the statement asks this of every state, whether its maps are sorted or not. -/
theorem not_tollRowsTakeEffect : ¬ Obligations.TollRowsTakeEffect := by
  intro h
  obtain ⟨-, -, -, -, -, -, -, -, hreeval, -⟩ := h sinkListedTwice 0 (by decide)
  obtain ⟨u, hexec, hsame, -, -, hstands⟩ := hreeval (by decide)
  have hafter : sinkListedTwice.reevalPower.after = u.after := by
    rw [exec_powerGrantReeval, event_of_clocked (by decide)] at hexec
    exact Host.Outcome.next.inj hexec
  have hreevalSame : sinkListedTwice.SameBut [.objs, .coll, .store, .sinks, .gov] sinkListedTwice.reevalPower :=
    (State.reevalPower_same rfl (Agree.refl 25166152 _)).sameBut (by decide)
  have hwant : (u.sink 0).want = 0 := calc
    (u.sink 0).want = (u.after.sink 0).want := (sinkListedTwice_after hsame 0).symm
    _ = (sinkListedTwice.reevalPower.after.sink 0).want := by rw [hafter]
    _ = (sinkListedTwice.reevalPower.sink 0).want := sinkListedTwice_after hreevalSame 0
    _ = 0 := sinkListedTwice_reeval
  exact absurd (hwant.symm.trans (hstands rfl)) (by decide)

end Sys2Proof.Machine

namespace Sys2Proof.Machine
open Sys2Proof

/-! The record of a feed's tick (R256, log entry 120). A loss of mating and a FEED_ENABLE of 0x00 take the place of a trip of the same
tick, and every object that the feed's record lists gets the value of the record again. A record that feedTick makes lists the objects
of tripKeys alone; the statements O15 and O42 speak of every state, of one whose record lists the object that the row itself has just
written as well, and there the row undoes its own write. -/

/-! ### What follows in phase CORES leaves the objects -/

/-- The unit is in phase CORES, with the clocks running, at full power, its cores running and without an update. -/
structure State.InCores (s : State) : Prop where
  phase : s.phase = .cores
  frozen : s.frozen = none
  upd : s.upd.state = .idle
  power : s.power = .full
  hold : s.cores.hold = none

theorem State.InCores.sameBut {l : List Fld} {s u : State} (h : s.InCores) (hu : s.SameBut l u)
    (hl : [Fld.phase, .frozen, .upd, .power, .cores].all (fun f => !l.contains f) = true) : u.InCores := by
  have out : ∀ f ∈ [Fld.phase, .frozen, .upd, .power, .cores], l.contains f = false := fun f hf => by
    simpa using List.all_eq_true.1 hl f hf
  exact ⟨(hu.phase (out _ (by simp))).trans h.phase, (hu.frozen (out _ (by simp))).trans h.frozen,
    (congrArg Upd.state (hu.upd (out _ (by simp)))).trans h.upd, (hu.power (out _ (by simp))).trans h.power,
    (congrArg Cores.hold (hu.cores (out _ (by simp)))).trans h.hold⟩

theorem obj_trimGrants {count j : Nat} (hj : j ≠ count) (report : Bool) (fuel : Nat) :
    ∀ (levels : List Nat) (s : State) (need : Nat), (State.trimGrants fuel s levels need count report).1.obj j = s.obj j := by
  induction fuel with
  | zero => exact fun _ _ _ => rfl
  | succ f ih =>
    intro levels s need
    cases levels with
    | nil => rfl
    | cons l rest =>
      unfold State.trimGrants
      split
      · rfl
      · split
        · exact ih rest s need
        · rw [ih]
          split
          · exact (State.raise_obj ..).trans (obj_bump _ _ _ hj)
          · exact obj_bump _ _ _ hj

/-- The reserve's move counts the trimmed grants, and changes no other object. -/
theorem obj_setReserve (s : State) (v : Nat) {j : Nat} (hj : j ≠ K.RESERVE_TRIMS) : (s.setReserve v).obj j = s.obj j := by
  unfold State.setReserve
  split
  · exact obj_trimGrants hj true 195 [2, 1, 0] s _
  · rfl

theorem obj_governed (s : State) {j : Nat} (hj : j ≠ K.RESERVE_TRIMS) : s.governed.obj j = s.obj j := by
  have review : s.reserveReview.obj j = s.obj j := by
    unfold State.reserveReview
    split
    · rfl
    · exact obj_setReserve _ _ hj
  unfold State.governed State.reviewStandby
  rw [obj_foldl _ _ j (fun _ _ _ => by rfl), review]

theorem obj_after_of_cores {s : State} (h : s.InCores) {j : Nat} (hj : j ≠ K.RESERVE_TRIMS) : s.after.obj j = s.obj j := by
  rw [after_of_cores h.phase h.frozen h.upd h.power h.hold, obj_governed _ hj]
  unfold State.leftReserve
  split <;> rfl

/-- Two states of phase CORES from which the same follows hold the same objects. -/
theorem obj_eq_of_after_eq {s u : State} (hs : s.InCores) (hu : u.InCores) (h : s.after = u.after) {j : Nat}
    (hj : j ≠ K.RESERVE_TRIMS) : s.obj j = u.obj j := by
  rw [← obj_after_of_cores hs hj, h, obj_after_of_cores hu hj]

/-- An answer changes the ports and the latest response's tick. -/
theorem answered_agree (t : State) (p : Nat) (x : Session) (a : Answer) : Agree 2684354560 t (t.answered p x a) :=
  State.answered_same rfl (Agree.refl _ t) p x a

theorem State.InCores.answered {t : State} (h : t.InCores) (p : Nat) (x : Session) (a : Answer) :
    (t.answered p x a).InCores :=
  h.sameBut (l := [.hosts, .dwellFrom]) ((answered_agree t p x a).sameBut (by decide)) (by decide)

theorem obj_answered (t : State) (p : Nat) (x : Session) (a : Answer) (j : Nat) : (t.answered p x a).obj j = t.obj j :=
  (answered_agree t p x a).obj rfl j

/-! ### A feed that has tripped on this tick, with an object in its record that no trip writes -/

/-- An owner's session. -/
def feedOwner : Session := { level := 2, key := [], lastSeq := 7, renewed := 999000, latches := [], own := [] }

/-- A feed that has tripped from RAMPING on tick 1,000,000. Its record says that the object k held v before. -/
def trippedFeed (k v : Nat) : Feed := { Feed.blank with
  state := .tripped
  last := some {
    tick := 1000000, was := .ramping, driven := true, run := 0, moved := true, kinds := [3], objs := [(k, v)], armed := false,
    recalled := false, full := none, left := 0 } }

/-- A mated card in phase CORES on that tick, with that feed as feed A, and the owner's session on H0. -/
def tripCard (k v : Nat) : State :=
  let s : State := { State.reset with
    phase := .cores
    supplies := true
    fab := { Fabric.reset with tick := 1000000 }
    input := { CardInput.reset with mated := true }
    feeds := [(0, trippedFeed k v)] }
  s.setPort 0 { s.port 0 with session := some feedOwner, ready := true }

theorem tripCard_inCores (k v : Nat) : (tripCard k v).InCores := ⟨rfl, rfl, rfl, rfl, rfl⟩

/-- The extraction has feed A leave for UNMATED in place of its trip, and EXTRACTIONS is as the record says. -/
theorem tripCard_extractions : ((tripCard K.EXTRACTIONS 7).loseMating true).obj K.EXTRACTIONS = 7 := by decide

/-- Refutes O42: the card is extracted on the tick on which feed A has tripped from RAMPING, and the feed's record lists EXTRACTIONS.
The row of the loss of mating stands before the trip's, so the record's value takes the place of the count. -/
theorem not_matingRowsTakeEffect : ¬ Obligations.MatingRowsTakeEffect := by
  intro h
  obtain ⟨-, -, hlost, -⟩ := h (tripCard K.EXTRACTIONS 7) (by decide)
  obtain ⟨u, hexec, hsame, -, -, -, -, -, -, hextraction⟩ := hlost true
  obtain ⟨hcount, -⟩ := hextraction rfl (by decide)
  have hlose : (tripCard K.EXTRACTIONS 7).SameBut [.objs, .lanes, .coll, .store, .cap, .input, .rails, .seq, .pmb, .stips, .sinks,
      .gov, .feeds] ((tripCard K.EXTRACTIONS 7).loseMating true) :=
    (State.loseMating_same rfl (Agree.refl 63408488 _) true).sameBut_fields (by decide)
  have hafter : ((tripCard K.EXTRACTIONS 7).loseMating true).after = u.after := by
    rw [exec_matingLost, event_of_clocked (by decide)] at hexec
    exact Host.Outcome.next.inj hexec
  have hobj := obj_eq_of_after_eq ((tripCard_inCores _ _).sameBut hlose (by decide))
    ((tripCard_inCores _ _).sameBut hsame (by decide)) hafter (j := K.EXTRACTIONS) (by decide)
  rw [tripCard_extractions, hcount] at hobj
  exact absurd hobj (by decide)

theorem tripCard_ready : (tripCard (K.FEED_ENABLE 0) 1).Ready 0 feedOwner := ⟨by decide, by decide, by decide, by decide⟩

theorem tripCard_taken_inCores (k v : Nat) : ((tripCard k v).taken 0 feedOwner).InCores := ⟨rfl, rfl, rfl, rfl, rfl⟩

/-- The state in which the write is judged, with FEED_ENABLE 0x00 of feed A committed. -/
def feedDisabled : State := ((tripCard (K.FEED_ENABLE 0) 1).taken 0 feedOwner).plainCommit 0 (K.FEED_ENABLE 0) 0

theorem feedDisabled_inCores : feedDisabled.InCores := ⟨rfl, rfl, rfl, rfl, rfl⟩

/-- The write has feed A leave for DISABLED in place of its trip, and FEED_ENABLE is as the record says. -/
theorem feedDisabled_feedEnable : feedDisabled.obj (K.FEED_ENABLE 0) = 1 := by decide

theorem exec_feedEnable_tripCard :
    exec (.feedEnable .h0 0 false) (tripCard (K.FEED_ENABLE 0) 1) = .next (feedDisabled.answered 0 feedOwner okAnswer).after := by
  rw [exec_feedEnable]
  exact congrArg (fun t => Host.Outcome.next (State.after t)) (direct_plain tripCard_ready (by decide) (by decide)
    (by decide) (by decide) (by decide) (by decide) (by decide))

/-- Refutes O15: the owner writes FEED_ENABLE 0x00 on the tick on which feed A has tripped from RAMPING, and the feed's record lists
FEED_ENABLE. The row of the write stands before the trip's, so the record's value takes the place of the value written. -/
theorem not_tollAndFeedHostCommandsTakeEffect : ¬ Obligations.TollAndFeedHostCommandsTakeEffect := by
  intro h
  obtain ⟨-, henable, -⟩ := h (tripCard (K.FEED_ENABLE 0) 1) .h0 feedOwner 0 0 false tripCard_ready
  obtain ⟨e, hexec, hsame, -, -, -, -, hvalue⟩ := henable (by decide) (by decide)
  have hafter : (feedDisabled.answered 0 feedOwner okAnswer).after = (e.answered 0 feedOwner okAnswer).after :=
    Host.Outcome.next.inj (exec_feedEnable_tripCard.symm.trans hexec)
  have hobj := obj_eq_of_after_eq (feedDisabled_inCores.answered ..)
    (((tripCard_taken_inCores _ _).sameBut hsame (by decide)).answered ..) hafter (j := K.FEED_ENABLE 0) (by decide)
  rw [obj_answered, obj_answered, feedDisabled_feedEnable] at hobj
  exact absurd (hobj.trans hvalue) (by decide)

end Sys2Proof.Machine

namespace Sys2Proof.Machine
open Sys2Proof

/-! Trips of a feed (R256, R261 to R266, R275, R278). A trip that acts counts, sends its messages and opens the feed; each of these
parts has its lemmas, and a trip event of a tick either acts or only sends its message. -/

/-! ### What a message leaves in flight -/

theorem raise_inflight {s : State} (h : s.frozen = none) (src kind addr : Nat) :
    (s.raise src kind addr).coll.inflight = s.coll.inflight ++ [⟨src, kind, addr, false, s.now⟩] := by
  simp [State.raise, State.raiseAt, h]

/-- A message of another source is in flight after a message is sent where it was before. -/
theorem mem_inflight_raise (s : State) {m : Msg} {src : Nat} (h : m.source ≠ src) (kind addr : Nat) :
    m ∈ (s.raise src kind addr).coll.inflight ↔ m ∈ s.coll.inflight := by
  cases hz : s.frozen with
  | some t => simp [State.raise, State.raiseAt, hz]
  | none =>
    rw [raise_inflight hz, List.mem_append, List.mem_singleton]
    exact or_iff_left fun e => h (congrArg Msg.source e)

theorem raiseFeed_inflight {s : State} (h : s.frozen = none) (f kind : Nat) :
    (s.raiseFeed f kind).coll.inflight
      = s.coll.inflight ++ [⟨0x58 + f, kind, (s.feedTick f).was.code * 65536 + s.obj (K.TRIP_RUN f), false, s.now⟩] :=
  raise_inflight h ..

@[simp] theorem raiseFeed_obj (s : State) (f kind j : Nat) : (s.raiseFeed f kind).obj j = s.obj j := State.raise_obj ..

@[simp] theorem raiseFeed_feed (s : State) (f kind g : Nat) : (s.raiseFeed f kind).feed g = s.feed g := State.raise_feed ..

/-! ### A feed's own state -/

@[simp] theorem feed_setFeed_same (s : State) (f : Nat) (x : Feed) : (s.setFeed f x).feed f = x := fget_fset_same ..

theorem feedTick_tick (s : State) (f : Nat) : (s.feedTick f).tick = s.fab.tick := by
  unfold State.feedTick
  dsimp only
  split
  · split
    · assumption
    · rfl
  · rfl

/-- A feed's record of this tick is what it noted last, where it noted it on this tick. -/
theorem feedTick_of_last {s : State} {f : Nat} {n : FeedTick} (hlast : (s.feed f).last = some n) (htick : n.tick = s.fab.tick) :
    s.feedTick f = n := by
  unfold State.feedTick
  dsimp only
  rw [hlast]
  exact if_pos htick

/-! ### The end of a ramp, and a feed that opens -/

/-- The objects that the end of a ramp writes (R246, R248, R261). -/
def rampKeys (f : Nat) : List Nat := [K.RAMP_CHARGE f, K.OVERDRAFTS, K.INRUSH_ISSUED, K.INRUSH_FREE]

theorem obj_returnInrush (s : State) (t : Nat) {j : Nat} (hissued : j ≠ K.INRUSH_ISSUED) (hfree : j ≠ K.INRUSH_FREE) :
    (s.returnInrush t).obj j = s.obj j := by
  unfold State.returnInrush
  rw [obj_setLive, if_neg hfree, obj_setLive, if_neg hissued]

theorem obj_endRamp (s : State) {f j : Nat} (hj : j ∉ rampKeys f) : (s.endRamp f).obj j = s.obj j := by
  simp only [rampKeys, List.mem_cons, List.not_mem_nil, or_false, not_or] at hj
  obtain ⟨hcharge, hoverdrafts, hissued, hfree⟩ := hj
  unfold State.endRamp
  dsimp only
  split
  · rw [State.setFeed_obj, obj_returnInrush _ _ hissued hfree]
    split
    · rw [State.raise_obj, obj_bump _ _ _ hoverdrafts, obj_setLive, if_neg hcharge]
    · rw [obj_setLive, if_neg hcharge]
  · rfl

/-- The end of a ramp reports its overdraft at the governor's source alone. -/
theorem mem_inflight_endRamp (s : State) (f : Nat) {m : Msg} (h : m.source ≠ 0x68) :
    m ∈ (s.endRamp f).coll.inflight ↔ m ∈ s.coll.inflight := by
  unfold State.endRamp
  dsimp only
  split
  · simp only [State.setFeed_coll, State.returnInrush, State.setLive_coll]
    split
    · exact mem_inflight_raise _ h ..
    · rfl
  · rfl

/-- The end of a ramp changes nothing of its feed but what the ramp was issued and its charge. -/
theorem endRamp_feed (s : State) (f : Nat) :
    ∃ issued charge chargeAt,
      (s.endRamp f).feed f = { s.feed f with issued := issued, charge := charge, chargeAt := chargeAt } := by
  unfold State.endRamp
  dsimp only
  split
  · exact ⟨_, _, _, feed_setFeed_same ..⟩
  · exact ⟨_, _, _, rfl⟩

theorem inputReview_agree (s : State) : Agree 163840 s s.inputReview := State.inputReview_same rfl (Agree.refl _ s)

theorem inputReview_feed (s : State) (f : Nat) : s.inputReview.feed f = s.feed f :=
  congrArg (fget · f Feed.blank) ((inputReview_agree s).feeds rfl)

theorem obj_openFeed (s : State) {f j : Nat} (st : FeedState) (hj : j ∉ rampKeys f) : (s.openFeed f st).obj j = s.obj j :=
  ((inputReview_agree _).obj rfl j).trans (obj_endRamp s hj)

theorem mem_inflight_openFeed (s : State) (f : Nat) (st : FeedState) {m : Msg} (h : m.source ≠ 0x68) :
    m ∈ (s.openFeed f st).coll.inflight ↔ m ∈ s.coll.inflight := by
  unfold State.openFeed
  rw [(inputReview_agree _).coll rfl]
  exact mem_inflight_endRamp s f h

/-- A feed that opens is in its new state, with its gate off since now, or since it went off (R256). -/
theorem openFeed_feed (s : State) (f : Nat) (st : FeedState) :
    ((s.openFeed f st).feed f).state = st
      ∧ ((s.openFeed f st).feed f).gateOff = (if (s.feed f).gateIsOff = true then (s.feed f).gateOff else s.fab.tick) := by
  have hfab : (s.endRamp f).fab = s.fab := (State.endRamp_same rfl (Agree.refl 33554760 s) f).fab rfl
  obtain ⟨_, _, _, hend⟩ := endRamp_feed s f
  unfold State.openFeed State.moveFeed
  simp only [inputReview_feed, feed_setFeed_same, hend, hfab]
  exact ⟨trivial, rfl⟩

theorem gateIsOff_of_state {x : Feed} (hramping : x.state ≠ .ramping) (hon : x.state ≠ .on) : x.gateIsOff = true := by
  simp [Feed.gateIsOff, hramping, hon]

/-! ### The objects of a trip (R266) -/

/-- The objects that a trip writes are six. -/
theorem tripKeys_nodup (f : Fin 2) : (tripKeys f.val).Nodup := by decide +revert

/-- The end of a ramp writes none of them. -/
theorem tripKeys_notRamp (f : Fin 2) : ∀ j ∈ tripKeys f.val, j ∉ rampKeys f.val := by decide +revert

/-- Neither do the deadline and the lockout of a trip write what it counts. -/
theorem counted_notTimers (f : Fin 2) : ∀ j ∈ [K.TRIP_RUN f.val, K.LAST_TRIP f.val, K.TRIPS f.val],
    j ∉ rampKeys f.val ∧ j ≠ K.RETRY_DEADLINE f.val ∧ j ≠ K.RETRY_BASIS f.val ∧ j ≠ K.LOCKOUTS f.val := by decide +revert

/-- The objects of a deadline are two. -/
theorem deadline_ne_basis (f : Fin 2) : K.RETRY_DEADLINE f.val ≠ K.RETRY_BASIS f.val := by decide +revert

theorem obj_bump_same (s : State) (k : Nat) : (s.bump k).obj k = min (s.obj k + 1) (2 ^ 32 - 1) := by
  unfold State.bump
  rw [obj_setPers, if_pos rfl]
  rfl

/-! ### A trip that acts (R266, R278) -/

/-- TRIP_RUN as a trip of this tick leaves it. -/
def State.tripRun (s : State) (f : Nat) : Nat := min 255 ((s.feedTick f).run + 1)

/-- The state with a trip counted. -/
def State.tripCounted (s : State) (f kind : Nat) : State :=
  ((s.setPers (K.TRIP_RUN f) (s.tripRun f)).setPers (K.LAST_TRIP f) kind).bump (K.TRIPS f)

/-- The state with a trip counted and reported. -/
def State.tripTold (s : State) (f kind : Nat) : State := ((s.tripCounted f kind).restampRun f).raiseFeed f kind

/-- The state with the lockout of a trip reported and counted. -/
def State.lockoutTold (s : State) (f kind : Nat) : State := ((s.tripTold f kind).raiseFeed f 0x09).bump (K.LOCKOUTS f)

/-- The timing basis of a deadline set now (R267). -/
def State.retryBasis (s : State) : Nat :=
  if s.convoy.state == .member || s.convoy.state == .leader || s.convoy.state == .halted then 2 else 1

/-- The state with the deadline of a trip set. -/
def State.deadlineSet (s : State) (f kind : Nat) : State :=
  ((s.tripTold f kind).setPers (K.RETRY_DEADLINE f) ((s.fab.count.toNat + s.obj (K.RETRY_BEATS f)) % 2 ^ 32)).setPers
    (K.RETRY_BASIS f) s.retryBasis

/-- A feed in LOCKOUT waits for no deadline. -/
def Feed.disarmed (x : Feed) : Feed := { x with armed := false }

/-- A TRIPPED feed waits for the deadline just set. -/
def Feed.rearmed (beats : Nat) (x : Feed) : Feed := { x with armed := true, recalled := false, full := none, left := beats }

/-- A trip opens the feed, sets its timers and asks for an etch (R266). -/
def State.tripOpened (s : State) (f : Nat) (st : FeedState) (timers : Feed → Feed) : State :=
  ((s.openFeed f st).setFeed f (timers ((s.openFeed f st).feed f))).postEtch 3 scopeP01 []

theorem actTrip_of_limit {s : State} {f : Nat} (h : s.obj (K.RETRY_LIMIT f) ≤ s.tripRun f) (kind : Nat) :
    s.actTrip f kind = (s.lockoutTold f kind).tripOpened f .lockout Feed.disarmed := if_pos h

theorem actTrip_of_retry {s : State} {f : Nat} (h : ¬ s.obj (K.RETRY_LIMIT f) ≤ s.tripRun f) (kind : Nat) :
    s.actTrip f kind = (s.deadlineSet f kind).tripOpened f .tripped (Feed.rearmed (s.obj (K.RETRY_BEATS f))) := if_neg h

section Opened
variable (s : State) (f : Nat) (st : FeedState) (timers : Feed → Feed)

theorem tripOpened_agree :
    Agree 288 ((s.openFeed f st).setFeed f (timers ((s.openFeed f st).feed f))) (s.tripOpened f st timers) :=
  State.postEtch_same rfl (Agree.refl _ _) ..

theorem obj_tripOpened {j : Nat} (hj : j ∉ rampKeys f) : (s.tripOpened f st timers).obj j = s.obj j :=
  ((tripOpened_agree ..).obj rfl j).trans (obj_openFeed s st hj)

theorem mem_inflight_tripOpened {m : Msg} (h : m.source ≠ 0x68) :
    m ∈ (s.tripOpened f st timers).coll.inflight ↔ m ∈ s.coll.inflight := by
  rw [(tripOpened_agree ..).coll rfl]
  exact mem_inflight_openFeed s f st h

theorem tripOpened_feed : (s.tripOpened f st timers).feed f = timers ((s.openFeed f st).feed f) :=
  (congrArg (fget · f Feed.blank) ((tripOpened_agree ..).feeds rfl)).trans (feed_setFeed_same ..)

/-- The timers of a trip leave the feed's state and gate. -/
theorem tripOpened_gate (hstate : ∀ x, (timers x).state = x.state) (hoff : ∀ x, (timers x).gateOff = x.gateOff) :
    ((s.tripOpened f st timers).feed f).state = st
      ∧ ((s.tripOpened f st timers).feed f).gateOff
        = (if (s.feed f).gateIsOff = true then (s.feed f).gateOff else s.fab.tick) := by
  rw [tripOpened_feed, hstate, hoff]
  exact openFeed_feed s f st

end Opened

/-! ### What a trip that acts leaves -/

theorem feedTick_was_congr {a b : State} {f : Nat} (hfeed : b.feed f = a.feed f) (hfab : b.fab = a.fab) :
    (b.feedTick f).was = (a.feedTick f).was := by
  unfold State.feedTick
  rw [hfeed, hfab]
  dsimp only
  split
  · split <;> rfl
  · rfl

theorem source_ne_of_feedMsg {s : State} {f : Fin 2} {m : Msg} (h : s.feedMsg f m = true) : m.source ≠ 0x68 := by
  simp only [State.feedMsg, Bool.and_eq_true, beq_iff_eq] at h
  omega

/-- The messages of this tick carry TRIP_RUN in bits [7:0] of their address, but for kind 0x08 (R278). -/
theorem restampRun_addr {s : State} {f : Nat} {m : Msg} (hrun : s.obj (K.TRIP_RUN f) ≤ 255)
    (hm : m ∈ (s.restampRun f).coll.inflight) (hfeed : s.feedMsg f m = true) (hkind : m.kind ≠ 8) :
    m.addr % 256 = s.obj (K.TRIP_RUN f) := by
  obtain ⟨m₀, -, rfl⟩ := List.mem_map.1 hm
  split at hfeed
  · next h =>
    rw [if_pos h]
    dsimp only
    omega
  · next h =>
    rw [if_neg h] at hkind
    exact absurd ⟨hfeed, hkind⟩ h

/-- The message of a kind of a feed's source, with FEED_STATE as the tick began, and TRIP_RUN (R278). -/
def State.feedNote (s : State) (f kind run : Nat) : Msg := ⟨0x58 + f, kind, (s.feedTick f).was.code * 65536 + run, false, s.now⟩

section Acts
variable (s : State) (f : Fin 2) (kind : Nat)

theorem tripCounted_objects :
    (s.tripCounted f kind).obj (K.TRIP_RUN f) = s.tripRun f ∧ (s.tripCounted f kind).obj (K.LAST_TRIP f) = kind
      ∧ (s.tripCounted f kind).obj (K.TRIPS f) = min (s.obj (K.TRIPS f) + 1) (2 ^ 32 - 1)
      ∧ (s.tripCounted f kind).obj (K.LOCKOUTS f) = s.obj (K.LOCKOUTS f) := by
  have h := tripKeys_nodup f
  simp only [tripKeys, List.nodup_cons, List.mem_cons, List.not_mem_nil, or_false, not_or] at h
  simp [State.tripCounted, obj_bump, obj_bump_same, obj_setPers, h, Ne.symm]

theorem obj_tripTold (j : Nat) : (s.tripTold f kind).obj j = (s.tripCounted f kind).obj j := raiseFeed_obj ..

/-- A trip's counts stand, whether it locks out or sets a deadline. -/
theorem obj_actTrip_counted {j : Nat} (hj : j ∈ [K.TRIP_RUN f.val, K.LAST_TRIP f, K.TRIPS f]) :
    (s.actTrip f kind).obj j = (s.tripCounted f kind).obj j := by
  obtain ⟨hramp, hdeadline, hbasis, hlockouts⟩ := counted_notTimers f j hj
  by_cases h : s.obj (K.RETRY_LIMIT f) ≤ s.tripRun f
  · rw [actTrip_of_limit h, obj_tripOpened _ _ _ _ hramp, State.lockoutTold, obj_bump _ _ _ hlockouts, raiseFeed_obj,
      obj_tripTold]
  · rw [actTrip_of_retry h, obj_tripOpened _ _ _ _ hramp, State.deadlineSet, obj_setPers, if_neg hbasis, obj_setPers,
      if_neg hdeadline, obj_tripTold]

theorem actTrip_counts :
    (s.actTrip f kind).obj (K.TRIP_RUN f) = s.tripRun f ∧ (s.actTrip f kind).obj (K.LAST_TRIP f) = kind
      ∧ (s.actTrip f kind).obj (K.TRIPS f) = min (s.obj (K.TRIPS f) + 1) (2 ^ 32 - 1) := by
  obtain ⟨hrun, hlast, htrips, -⟩ := tripCounted_objects s f kind
  rw [obj_actTrip_counted s f kind (by simp), obj_actTrip_counted s f kind (by simp), obj_actTrip_counted s f kind (by simp)]
  exact ⟨hrun, hlast, htrips⟩

/-- The feed is TRIPPED, or in LOCKOUT at RETRY_LIMIT, with its gate off. -/
theorem actTrip_feed :
    ((s.actTrip f kind).feed f).state = (if s.obj (K.RETRY_LIMIT f) ≤ s.tripRun f then .lockout else .tripped)
      ∧ ((s.actTrip f kind).feed f).gateOff = (if (s.feed f).gateIsOff = true then (s.feed f).gateOff else s.fab.tick) := by
  have hfeed : (s.tripTold f kind).feed f = s.feed f := raiseFeed_feed ..
  have hfab : (s.tripTold f kind).fab = s.fab := State.raise_fab ..
  by_cases h : s.obj (K.RETRY_LIMIT f) ≤ s.tripRun f
  · have hgate := tripOpened_gate (s.lockoutTold f kind) f .lockout Feed.disarmed (fun _ => rfl) (fun _ => rfl)
    rw [show (s.lockoutTold f kind).feed f = s.feed f from (raiseFeed_feed ..).trans hfeed,
      show (s.lockoutTold f kind).fab = s.fab from (State.raise_fab ..).trans hfab] at hgate
    rw [actTrip_of_limit h, if_pos h]
    exact hgate
  · have hgate := tripOpened_gate (s.deadlineSet f kind) f .tripped (Feed.rearmed (s.obj (K.RETRY_BEATS f))) (fun _ => rfl)
      (fun _ => rfl)
    rw [show (s.deadlineSet f kind).feed f = s.feed f from hfeed, show (s.deadlineSet f kind).fab = s.fab from hfab] at hgate
    rw [actTrip_of_retry h, if_neg h]
    exact hgate

/-- RETRY_LIMIT is reached: LOCKOUT is counted, and no deadline is armed (R266). -/
theorem actTrip_locks (h : s.obj (K.RETRY_LIMIT f) ≤ s.tripRun f) :
    (s.actTrip f kind).obj (K.LOCKOUTS f) = min (s.obj (K.LOCKOUTS f) + 1) (2 ^ 32 - 1)
      ∧ ((s.actTrip f kind).feed f).armed = false := by
  obtain ⟨-, -, -, hlockouts⟩ := tripCounted_objects s f kind
  rw [actTrip_of_limit h, tripOpened_feed, obj_tripOpened _ _ _ _ (tripKeys_notRamp f _ (by simp [tripKeys])), State.lockoutTold,
    obj_bump_same, raiseFeed_obj, obj_tripTold, hlockouts]
  exact ⟨rfl, rfl⟩

/-- Below RETRY_LIMIT the deadline is RETRY_BEATS after the count, and armed (R266, R267). -/
theorem actTrip_retries (h : ¬ s.obj (K.RETRY_LIMIT f) ≤ s.tripRun f) :
    (s.actTrip f kind).obj (K.RETRY_DEADLINE f) = (s.fab.count.toNat + s.obj (K.RETRY_BEATS f)) % 2 ^ 32
      ∧ (s.actTrip f kind).obj (K.RETRY_BASIS f) = s.retryBasis ∧ ((s.actTrip f kind).feed f).armed = true := by
  have hkeys : K.RETRY_DEADLINE f ≠ K.RETRY_BASIS f := deadline_ne_basis f
  rw [actTrip_of_retry h, tripOpened_feed, obj_tripOpened _ _ _ _ (tripKeys_notRamp f _ (by simp [tripKeys])),
    obj_tripOpened _ _ _ _ (tripKeys_notRamp f _ (by simp [tripKeys])), State.deadlineSet, obj_setPers, if_neg hkeys, obj_setPers,
    if_pos rfl, obj_setPers, if_pos rfl]
  exact ⟨rfl, rfl, rfl⟩

/-! ### The messages of a trip (R266, R278) -/

section Messages
variable (hz : s.frozen = none)
include hz

theorem tripTold_inflight :
    (s.tripTold f kind).coll.inflight
      = ((s.tripCounted f kind).restampRun f).coll.inflight ++ [s.feedNote f kind (s.tripRun f)] := by
  have hwas : (((s.tripCounted f kind).restampRun f).feedTick f).was = (s.feedTick f).was := feedTick_was_congr rfl rfl
  have hrun : ((s.tripCounted f kind).restampRun f).obj (K.TRIP_RUN f) = s.tripRun f := (tripCounted_objects s f kind).1
  rw [State.tripTold, raiseFeed_inflight (s := (s.tripCounted f kind).restampRun f) hz, hwas, hrun]
  rfl

theorem lockoutTold_inflight :
    (s.lockoutTold f kind).coll.inflight = (s.tripTold f kind).coll.inflight ++ [s.feedNote f 0x09 (s.tripRun f)] := by
  have hwas : ((s.tripTold f kind).feedTick f).was = (s.feedTick f).was :=
    feedTick_was_congr (raiseFeed_feed ..) (State.raise_fab ..)
  have hrun : (s.tripTold f kind).obj (K.TRIP_RUN f) = s.tripRun f := (obj_tripTold ..).trans (tripCounted_objects s f kind).1
  have hfrozen : (s.tripTold f kind).frozen = none := (State.raise_frozen ..).trans hz
  have hnow : (s.tripTold f kind).now = s.now := State.raise_now ..
  rw [State.lockoutTold, State.bump_coll, raiseFeed_inflight hfrozen, hwas, hrun, hnow]
  rfl

/-- Where a message of the feed is after a trip, it was there when the trip was reported, or is that of the lockout. -/
theorem mem_inflight_actTrip {m : Msg} (hm : m.source ≠ 0x68) :
    m ∈ (s.actTrip f kind).coll.inflight ↔
      m ∈ (s.tripTold f kind).coll.inflight
        ∨ (s.obj (K.RETRY_LIMIT f) ≤ s.tripRun f ∧ m = s.feedNote f 0x09 (s.tripRun f)) := by
  by_cases h : s.obj (K.RETRY_LIMIT f) ≤ s.tripRun f
  · rw [actTrip_of_limit h, mem_inflight_tripOpened _ _ _ _ hm, lockoutTold_inflight s f kind hz, List.mem_append,
      List.mem_singleton, and_iff_right h]
  · rw [actTrip_of_retry h, mem_inflight_tripOpened _ _ _ _ hm, or_iff_left fun e => h e.1]
    rfl

theorem actTrip_stamps {m : Msg} (hm : m ∈ (s.actTrip f kind).coll.inflight) (hfeed : s.feedMsg f m = true)
    (hkind : m.kind ≠ 8) : m.addr % 256 = s.tripRun f := by
  have hrun : ((s.tripCounted f kind).restampRun f).obj (K.TRIP_RUN f) = s.tripRun f := (tripCounted_objects s f kind).1
  have hle : s.tripRun f ≤ 255 := Nat.min_le_left ..
  have hnote : ∀ k, (s.feedNote f k (s.tripRun f)).addr % 256 = s.tripRun f := fun k => by
    change ((s.feedTick f).was.code * 65536 + s.tripRun f) % 256 = _
    omega
  rw [mem_inflight_actTrip s f kind hz (source_ne_of_feedMsg hfeed), tripTold_inflight s f kind hz, List.mem_append,
    List.mem_singleton] at hm
  rcases hm with (hm | rfl) | ⟨-, rfl⟩
  · exact (restampRun_addr (s := s.tripCounted f kind) (Nat.le_trans (Nat.le_of_eq hrun) hle) hm hfeed hkind).trans hrun
  · exact hnote _
  · exact hnote _

end Messages

end Acts

/-! ### The trip events of a tick (R256) -/

/-- A feed's record of this tick with a further trip event. -/
def State.tickWith (s : State) (f kind : Nat) : FeedTick := { s.feedTick f with kinds := kind :: (s.feedTick f).kinds }

/-- The state with a trip event of a feed noted, and the collector as given. -/
def State.tripNoted (s : State) (f kind : Nat) (c : Coll) : State :=
  { s.setFeed f { s.feed f with last := some (s.tickWith f kind) } with coll := c }

/-- Does a trip event of a feed act: has the feed made no transition on this tick, or one of a source out alone (R256)? -/
def State.tripActs (s : State) (f : Nat) : Prop :=
  (s.feedTick f).moved = false ∨ ((s.feedTick f).kinds = [] ∧ (s.feed f).state = .waitSource)

/-- Among trip events of one tick kind 0x03 stands where kind 0x01 does. -/
def tripRank (kind : Nat) : Nat := if kind = 3 then 1 else kind

section Noted
variable (s : State) (f kind : Nat) (c : Coll)

theorem tripNoted_agree : Agree 33718632 s (s.tripNoted f kind c) :=
  (same_coll rfl c).2 (State.setFeed_same rfl (Agree.refl _ s) ..)

theorem tripNoted_feed : (s.tripNoted f kind c).feed f = { s.feed f with last := some (s.tickWith f kind) } :=
  feed_setFeed_same ..

theorem tripNoted_feedTick : (s.tripNoted f kind c).feedTick f = s.tickWith f kind :=
  feedTick_of_last (by rw [tripNoted_feed]) (feedTick_tick s f)

theorem tripNoted_tripRun : (s.tripNoted f kind c).tripRun f = s.tripRun f :=
  (congrArg (fun n : FeedTick => min 255 (n.run + 1)) (tripNoted_feedTick s f kind c)).trans rfl

theorem tripNoted_feedNote (k r : Nat) : (s.tripNoted f kind c).feedNote f k r = s.feedNote f k r :=
  (congrArg (fun n : FeedTick => (⟨0x58 + f, k, n.was.code * 65536 + r, false, s.now⟩ : Msg))
    (tripNoted_feedTick s f kind c)).trans rfl

end Noted

/-- What a trip that acts on a tick does, against the state before it (R266, R278). -/
structure State.Trips (s : State) (f kind : Nat) (u : State) : Prop where
  frame : s.SameBut [.objs, .lanes, .coll, .store, .input, .seq, .feeds] u
  run : u.obj (K.TRIP_RUN f) = s.tripRun f
  lastTrip : u.obj (K.LAST_TRIP f) = kind
  trips : u.obj (K.TRIPS f) = min (s.obj (K.TRIPS f) + 1) (2 ^ 32 - 1)
  told : s.feedNote f kind (s.tripRun f) ∈ u.coll.inflight
  state : (u.feed f).state = (if s.obj (K.RETRY_LIMIT f) ≤ s.tripRun f then .lockout else .tripped)
  gateOff : (u.feed f).gateOff = (if (s.feed f).gateIsOff = true then (s.feed f).gateOff else s.fab.tick)
  locks : s.obj (K.RETRY_LIMIT f) ≤ s.tripRun f → s.feedNote f 0x09 (s.tripRun f) ∈ u.coll.inflight
    ∧ u.obj (K.LOCKOUTS f) = min (s.obj (K.LOCKOUTS f) + 1) (2 ^ 32 - 1) ∧ (u.feed f).armed = false
  stamps : ∀ m ∈ u.coll.inflight, s.feedMsg f m = true → m.kind ≠ 8 → m.addr % 256 = s.tripRun f
  retries : ¬ s.obj (K.RETRY_LIMIT f) ≤ s.tripRun f →
    u.obj (K.RETRY_DEADLINE f) = (s.fab.count.toNat + s.obj (K.RETRY_BEATS f)) % 2 ^ 32
      ∧ u.obj (K.RETRY_BASIS f) = s.retryBasis ∧ (u.feed f).armed = true

/-- What a trip event does that only sends its message. -/
structure State.Tells (s : State) (f kind : Nat) (u : State) : Prop where
  frame : s.SameBut [.objs, .lanes, .coll, .store, .input, .seq, .feeds] u
  told : s.feedNote f kind (s.obj (K.TRIP_RUN f)) ∈ u.coll.inflight
  state : (u.feed f).state = (s.feed f).state
  run : u.obj (K.TRIP_RUN f) = s.obj (K.TRIP_RUN f)
  trips : u.obj (K.TRIPS f) = s.obj (K.TRIPS f)
  lastTrip : u.obj (K.LAST_TRIP f)
    = (if s.tripActed f = true ∧ tripRank kind < tripRank (s.obj (K.LAST_TRIP f)) then kind else s.obj (K.LAST_TRIP f))

theorem source_feedNote (t : State) (f : Fin 2) (k r : Nat) : (t.feedNote f k r).source ≠ 0x68 := by
  change 0x58 + f.val ≠ 0x68
  omega

theorem feedNote_congr {a b : State} {f : Nat} (hfeed : b.feed f = a.feed f) (hfab : b.fab = a.fab) (k r : Nat) :
    b.feedNote f k r = a.feedNote f k r := by
  unfold State.feedNote
  rw [feedTick_was_congr hfeed hfab, now_congr hfab]

theorem raiseFeed_feedNote {s : State} (hz : s.frozen = none) (f kind : Nat) :
    s.feedNote f kind (s.obj (K.TRIP_RUN f)) ∈ (s.raiseFeed f kind).coll.inflight := by
  rw [raiseFeed_inflight hz]
  exact List.mem_append_right _ (List.mem_singleton.2 rfl)

section Event
variable {s : State} {f : Fin 2} {kind : Nat} (hz : s.frozen = none)
include hz

/-- A noted trip acts the same, whatever messages of its feed were taken back. -/
theorem tripNoted_trips (c : Coll) : s.Trips f kind ((s.tripNoted f kind c).actTrip f kind) := by
  have hrun := tripNoted_tripRun s f kind c
  have hnote := tripNoted_feedNote s f kind c
  have hobj : ∀ j, (s.tripNoted f kind c).obj j = s.obj j := fun _ => rfl
  have hz' : (s.tripNoted f kind c).frozen = none := hz
  have htold := tripTold_inflight (s.tripNoted f kind c) f kind hz'
  have hmem := fun m => mem_inflight_actTrip (s.tripNoted f kind c) f kind hz' (m := m)
  obtain ⟨hcountRun, hcountLast, hcountTrips⟩ := actTrip_counts (s.tripNoted f kind c) f kind
  obtain ⟨hstate, hoff⟩ := actTrip_feed (s.tripNoted f kind c) f kind
  have hlocks := actTrip_locks (s.tripNoted f kind c) f kind
  have hretries := actTrip_retries (s.tripNoted f kind c) f kind
  have hstamps := fun m => actTrip_stamps (s.tripNoted f kind c) f kind hz' (m := m)
  rw [tripNoted_feed] at hoff
  simp only [hrun, hobj, hnote] at hcountRun hcountTrips hstate hlocks hretries hstamps hmem htold
  exact {
    frame := (State.actTrip_same rfl (tripNoted_agree s f kind c) f kind).sameBut (by decide)
    run := hcountRun
    lastTrip := hcountLast
    trips := hcountTrips
    told := (hmem _ (source_feedNote s f _ _)).2 (.inl (by rw [htold]; simp))
    state := hstate
    gateOff := hoff
    locks := fun h => ⟨(hmem _ (source_feedNote s f _ _)).2 (.inr ⟨h, rfl⟩), hlocks h⟩
    stamps := hstamps
    retries := hretries }

/-- A trip event that comes a second time does nothing. -/
theorem tripFeed_of_told (h : kind ∈ (s.feedTick f).kinds) : s.tripFeed f kind = s := by
  simp [State.tripFeed, hz, h]

/-- A trip event that comes first of its kind acts, or sends its message alone (R256). -/
theorem tripFeed_eq (h : kind ∉ (s.feedTick f).kinds) :
    s.tripFeed f kind =
      if (s.feedTick f).moved = false then (s.tripNoted f kind s.coll).actTrip f kind
      else if (s.feedTick f).kinds = [] ∧ (s.feed f).state = .waitSource then
        (s.tripNoted f kind (s.unraise f (if (s.feedTick f).was = .ramping then [5, 6, 7] else [6, 7])).coll).actTrip f kind
      else if s.tripActed f = true ∧ tripRank kind < tripRank (s.obj (K.LAST_TRIP f)) then
        ((s.tripNoted f kind s.coll).setPers (K.LAST_TRIP f) kind).raiseFeed f kind
      else (s.tripNoted f kind s.coll).raiseFeed f kind := by
  unfold State.tripFeed
  rw [if_neg (by simp [hz])]
  exact if_neg (by simpa using h)

theorem tripFeed_trips (h : kind ∉ (s.feedTick f).kinds) (hacts : s.tripActs f) : s.Trips f kind (s.tripFeed f kind) := by
  rw [tripFeed_eq hz h]
  by_cases hmoved : (s.feedTick f).moved = false
  · rw [if_pos hmoved]
    exact tripNoted_trips hz s.coll
  · rw [if_neg hmoved, if_pos (hacts.resolve_left hmoved)]
    exact tripNoted_trips hz _

theorem tripFeed_tells (h : kind ∉ (s.feedTick f).kinds) (hacts : ¬ s.tripActs f) : s.Tells f kind (s.tripFeed f kind) := by
  obtain ⟨hmoved, hsource⟩ := not_or.1 hacts
  have hframe := (State.tripFeed_same rfl (Agree.refl 33718632 s) f kind).sameBut
    (l := [.objs, .lanes, .coll, .store, .input, .seq, .feeds]) (by decide)
  have hlastRun : K.TRIP_RUN f ≠ K.LAST_TRIP f ∧ K.TRIPS f ≠ K.LAST_TRIP f := by
    have hkeys := tripKeys_nodup f
    simp only [tripKeys, List.nodup_cons, List.mem_cons, List.not_mem_nil, or_false, not_or] at hkeys
    simp [hkeys, Ne.symm]
  have hnote := tripNoted_feedNote s f kind s.coll kind
  have hfeed := tripNoted_feed s f kind s.coll
  rw [tripFeed_eq hz h, if_neg hmoved, if_neg hsource] at hframe ⊢
  by_cases hfirst : s.tripActed f = true ∧ tripRank kind < tripRank (s.obj (K.LAST_TRIP f))
  · rw [if_pos hfirst] at hframe ⊢
    have hrun : ((s.tripNoted f kind s.coll).setPers (K.LAST_TRIP f) kind).obj (K.TRIP_RUN f) = s.obj (K.TRIP_RUN f) :=
      (obj_setPers ..).trans (if_neg hlastRun.1)
    have htold := raiseFeed_feedNote (s := (s.tripNoted f kind s.coll).setPers (K.LAST_TRIP f) kind) hz f kind
    rw [hrun, feedNote_congr (a := s.tripNoted f kind s.coll) (b := (s.tripNoted f kind s.coll).setPers (K.LAST_TRIP f) kind)
      rfl rfl, hnote] at htold
    exact {
      frame := hframe
      told := htold
      state := by rw [raiseFeed_feed, State.setPers_feed, hfeed]
      run := (raiseFeed_obj ..).trans hrun
      trips := by rw [raiseFeed_obj, obj_setPers, if_neg hlastRun.2]; rfl
      lastTrip := by rw [raiseFeed_obj, obj_setPers, if_pos rfl, if_pos hfirst] }
  · rw [if_neg hfirst] at hframe ⊢
    have htold := raiseFeed_feedNote (s := s.tripNoted f kind s.coll) hz f kind
    rw [hnote] at htold
    exact {
      frame := hframe
      told := htold
      state := by rw [raiseFeed_feed, hfeed]
      run := raiseFeed_obj ..
      trips := raiseFeed_obj ..
      lastTrip := by rw [raiseFeed_obj, if_neg hfirst]; rfl }

end Event

/-! ### The rows of trips, of reverse current and of the source (R262 to R265) -/

theorem freeEvent_of_running {s : State} (h : s.clocked = true ∨ s.frozen.isSome = true) (g : State → State) :
    s.freeEvent g = (g s).after := if_pos (by simpa using h)

theorem frozen_of_clocked {s : State} (h : s.clocked = true) : s.frozen = none := by
  simp only [State.clocked, Bool.and_eq_true, Option.isNone_iff_eq_none] at h
  exact h.1

theorem retryBasis_eq (s : State) :
    s.retryBasis = if s.convoy.state = .member ∨ s.convoy.state = .leader ∨ s.convoy.state = .halted then 2 else 1 := by
  simp [State.retryBasis, or_assoc]

theorem State.Trips.gateIsOff {s u : State} {f kind : Nat} (h : s.Trips f kind u) : (u.feed f).gateIsOff = true := by
  have hstate : (u.feed f).state = .lockout ∨ (u.feed f).state = .tripped := by
    rw [h.state]
    split
    · exact .inl rfl
    · exact .inr rfl
  rcases hstate with e | e <;> simp [Feed.gateIsOff, e]

section Rows
variable {s : State} {f : Nat}

theorem fuses_of_driven (hz : s.frozen = none) (h : (s.feedTick f).driven = true) :
    s.fuseFast f = s.tripFeed f (if (s.feedTick f).was = .ramping then 3 else 1) ∧ s.fuseSlow f = s.tripFeed f 2 := by
  simp [State.fuseFast, State.fuseSlow, State.fused, hz, h]

theorem fuses_of_notDriven (hz : s.frozen = none) (h : (s.feedTick f).driven = false) : s.fuseFast f = s ∧ s.fuseSlow f = s := by
  simp [State.fuseFast, State.fuseSlow, State.fused, hz, h]

/-- Under freeze a fuse is noted for the first clocked tick (R275). -/
theorem fuses_of_frozen (hz : s.frozen.isSome = true) (hdriven : (s.feed f).driven = true) (hpull : s.pullable f = true) :
    s.fuseFast f = s.setFeed f { s.feed f with frozenTrip := some ((s.feed f).frozenTrip.getD 1) }
      ∧ s.fuseSlow f = s.setFeed f { s.feed f with frozenTrip := some ((s.feed f).frozenTrip.getD 2) } := by
  have hnone : s.frozen.isNone = false := by simpa using hz
  simp [State.fuseFast, State.fuseSlow, State.fused, State.tripFeed, hz, hdriven, hpull, hnone]

theorem soaTimeout_of_live (hlive : (s.feedTick f).was = .ramping ∨ (s.feedTick f).was = .on)
    (hsoa : s.obj (K.SOA_TIME f) ≤ (s.feed f).soa) : s.soaTimeout f = s.tripFeed f 4 :=
  if_pos ⟨by simpa [FeedTick.live] using hlive, hsoa⟩

theorem reverseOff_of_ramping (hz : s.frozen = none) (hstate : (s.feed f).state = .ramping)
    (hmoved : (s.feedTick f).moved = false) : s.reverseOff f = (s.raiseFeed f 0x05).openFeed f .waitSource := by
  unfold State.reverseOff
  dsimp only
  rw [hstate]
  exact if_neg (by simp [State.feedMoved, hz, hmoved])

theorem reverseOff_of_sourceOut (hstate : (s.feed f).state = .waitSource) (hwas : (s.feedTick f).was = .ramping)
    (hraised : s.raisedNow f [6, 7] = true) : s.reverseOff f = (s.unraise f [6, 7]).raiseFeed f 0x05 := by
  unfold State.reverseOff
  dsimp only
  rw [hstate]
  exact if_pos (by simp [hwas, hraised])

theorem reverseOff_of_on (hstate : (s.feed f).state = .on) (hblocking : (s.feed f).blocking = false)
    (hpull : s.pullable f = true) :
    s.reverseOff f
      = ((s.setFeed f { s.feed f with blocking := true, soa := 0, last := some (s.feedTick f) }).bump (K.BLOCKS f)).raiseFeed f
          0x05 := by
  unfold State.reverseOff
  dsimp only
  rw [hstate]
  exact if_neg (by simp [hblocking, hpull])

theorem sourceOut_of_span {kind span t : Nat} (hstate : (s.feed f).state = .ramping ∨ (s.feed f).state = .on)
    (hspan : t + usTicks span ≤ s.fab.tick) (hmoved : (s.feedTick f).moved = false) :
    s.sourceOut f kind (some t) span = (s.raiseFeed f kind).openFeed f .waitSource := if_pos ⟨hstate, hspan, hmoved⟩

end Rows

/-- Settles O43: each row by its equation; a trip event by whether its kind was told already, and whether it acts. -/
theorem feedTripRowsTakeEffect : Obligations.FeedTripRowsTakeEffect := by
  intro s f x n run locks told inConvoy trips rank tells acts event
  have events (hc : s.clocked = true) (kind : Nat) (c : Instr) (hexec : exec c s = .next (s.tripFeed f kind).after) :
      event kind c := by
    have hz := frozen_of_clocked hc
    refine ⟨fun h => ?_, fun h hacts => ⟨_, hexec, ?_⟩, fun h hacts => ⟨_, hexec, ?_⟩⟩
    · rw [hexec, tripFeed_of_told hz h]
    · have t := tripFeed_trips hz h hacts
      refine ⟨t.frame, t.run, t.lastTrip, t.trips, t.told, t.state, t.gateIsOff, t.gateOff, t.locks, t.stamps, fun hl => ?_⟩
      obtain ⟨hdeadline, hbasis, harmed⟩ := t.retries hl
      exact ⟨hdeadline, hbasis.trans (retryBasis_eq s), harmed⟩
    · have t := tripFeed_tells hz h hacts
      exact ⟨t.frame, t.told, t.state, t.run, t.trips, t.lastTrip⟩
  refine ⟨fun hc => ?_, fun hz hdriven hpull => ?_, fun hrun hpull hon => ⟨fun hblocking => ?_, fun hblocking => ?_⟩,
    fun st hramping hon => ?_⟩
  · have hz := frozen_of_clocked hc
    refine ⟨fun hdriven => ⟨events hc _ _ ?_, events hc _ _ ?_⟩, fun hdriven => ⟨?_, ?_⟩, fun hlive hsoa => events hc _ _ ?_,
      fun hstate hmoved => ?_, fun hstate hwas hraised => ?_, fun t hstate huv hspan hmoved => ?_,
      fun t hstate hov hspan hmoved => ?_⟩
    · rw [exec_fuseFast, freeEvent_of_running (.inl hc), (fuses_of_driven hz hdriven).1]
    · rw [exec_fuseSlow, freeEvent_of_running (.inl hc), (fuses_of_driven hz hdriven).2]
    · rw [exec_fuseFast, freeEvent_of_running (.inl hc), (fuses_of_notDriven hz hdriven).1]
    · rw [exec_fuseSlow, freeEvent_of_running (.inl hc), (fuses_of_notDriven hz hdriven).2]
    · rw [exec_soaTimeout, event_of_clocked hc, soaTimeout_of_live hlive hsoa]
    · rw [exec_reverseOff, freeEvent_of_running (.inl hc), reverseOff_of_ramping hz hstate hmoved]
    · rw [exec_reverseOff, freeEvent_of_running (.inl hc), reverseOff_of_sourceOut hstate hwas hraised]
    · rw [exec_feedUv, event_of_clocked hc, show (s.feed f).uv = some t from huv, sourceOut_of_span hstate hspan hmoved]
    · rw [exec_feedOv, event_of_clocked hc, show (s.feed f).ov = some t from hov, sourceOut_of_span hstate hspan hmoved]
  · obtain ⟨hfast, hslow⟩ := fuses_of_frozen hz hdriven hpull
    rw [exec_fuseFast, exec_fuseSlow, freeEvent_of_running (.inr hz), freeEvent_of_running (.inr hz), hfast, hslow]
    exact ⟨rfl, rfl⟩
  · rw [exec_reverseOff, freeEvent_of_running hrun, reverseOff_of_on hon hblocking hpull]
  · rw [exec_forwardOn, freeEvent_of_running hrun, State.forwardOn]
    exact congrArg (fun t => Host.Outcome.next (State.after t)) (if_pos ⟨hon, hblocking, hpull⟩)
  · obtain ⟨hstate, -⟩ := openFeed_feed s f st
    exact ⟨hstate, gateIsOff_of_state (fun h => hramping (hstate.symm.trans h)) (fun h => hon (hstate.symm.trans h))⟩

end Sys2Proof.Machine

namespace Sys2Proof.Machine
open Sys2Proof

/-! The end of the full timer on a feed whose record of the tick is at odds with it (R256, R269, R278). The feed's messages carry the
state of the record; the statement O44 asks, of every state, for the state that the feed reads. The two agree wherever feedTick made the
record of a tick without a transition; here the record names another state. -/

/-! ### What follows in phase CORES sends no message of a feed -/

section Governor
variable {m : Msg} (hm : m.source ≠ 0x68)
include hm

theorem mem_inflight_trimGrants (count : Nat) (report : Bool) (fuel : Nat) :
    ∀ (levels : List Nat) (s : State) (need : Nat),
      m ∈ (State.trimGrants fuel s levels need count report).1.coll.inflight ↔ m ∈ s.coll.inflight := by
  induction fuel with
  | zero => exact fun _ _ _ => Iff.rfl
  | succ fuel ih =>
    intro levels s need
    cases levels with
    | nil => exact Iff.rfl
    | cons l rest =>
      unfold State.trimGrants
      split
      · rfl
      · split
        · exact ih rest s need
        · rw [ih]
          split
          · exact mem_inflight_raise _ hm ..
          · rfl

theorem mem_inflight_setReserve (s : State) (v : Nat) : m ∈ (s.setReserve v).coll.inflight ↔ m ∈ s.coll.inflight := by
  unfold State.setReserve
  split
  · exact mem_inflight_trimGrants hm K.RESERVE_TRIMS true 195 [2, 1, 0] s _
  · rfl

/-- In phase CORES only the governor sends a message after a command. -/
theorem mem_inflight_after_of_cores {s : State} (h : s.InCores) : m ∈ s.after.coll.inflight ↔ m ∈ s.coll.inflight := by
  have hreview : ∀ t : State, m ∈ t.reserveReview.coll.inflight ↔ m ∈ t.coll.inflight := fun t => by
    unfold State.reserveReview
    split
    · rfl
    · exact mem_inflight_setReserve hm _ _
  have hstandby : ∀ t : State, t.reviewStandby.coll = t.coll := fun t =>
    (State.reviewStandby_same rfl (Agree.refl 8388608 t)).coll rfl
  have hleft : s.leftReserve.coll = s.coll := (State.leftReserve_same rfl (Agree.refl 256 s)).coll rfl
  rw [after_of_cores h.phase h.frozen h.upd h.power h.hold, State.governed, hstandby, hreview, hleft]

end Governor

/-- A TRIPPED feed whose full timer has ended, with a record of tick 1,000,000 that says that the feed is ON and has made no transition. -/
def trippedNotedOn : Feed := { Feed.blank with
  state := .tripped
  full := some 0
  last := some {
    tick := 1000000, was := .on, driven := true, run := 0, moved := false, kinds := [], objs := [], armed := false,
    recalled := false, full := none, left := 0 } }

/-- A card in phase CORES on that tick, with that feed as feed A. -/
def notedOnCard : State :=
  { State.reset with
    phase := .cores
    fab := { Fabric.reset with tick := 1000000 }
    feeds := [(0, trippedNotedOn)] }

theorem notedOnCard_inCores : notedOnCard.InCores := ⟨rfl, rfl, rfl, rfl, rfl⟩

/-- The message that O44 asks for: kind 0x0B with FEED_STATE TRIPPED. -/
def trippedNote : Msg := ⟨0x58, 0x0B, FeedState.tripped.code * 65536 + notedOnCard.obj (K.TRIP_RUN 0), false, notedOnCard.now⟩

/-- The message that RETRY_FULL sends names the state of the record, ON. -/
theorem trippedNote_notSent : trippedNote ∉ (notedOnCard.retryFull 0).coll.inflight := by decide

/-- Refutes O44: the full timer ends of feed A, which is TRIPPED and whose record of the tick says ON. Its message carries FEED_STATE ON,
and not the feed's state. -/
theorem not_feedRetryRowsTakeEffect : ¬ Obligations.FeedRetryRowsTakeEffect := by
  intro h
  obtain ⟨-, -, hfull, -⟩ := h notedOnCard 0 (by decide)
  obtain ⟨u, hexec, hsame, -, -, htold, -⟩ := hfull rfl (by decide)
  have hsent : notedOnCard.SameBut [.objs, .coll, .store, .input, .seq, .feeds] (notedOnCard.retryFull 0) :=
    (State.retryFull_same rfl (Agree.refl 33718600 _) 0).sameBut (by decide)
  have hafter : (notedOnCard.retryFull 0).after = u.after := by
    rw [exec_retryFull, event_of_clocked (by decide)] at hexec
    exact Host.Outcome.next.inj hexec
  have hsource : trippedNote.source ≠ 0x68 := by decide
  refine trippedNote_notSent ?_
  rw [← mem_inflight_after_of_cores hsource (notedOnCard_inCores.sameBut hsent (by decide)), hafter,
    mem_inflight_after_of_cores hsource (notedOnCard_inCores.sameBut hsame (by decide))]
  exact htold

end Sys2Proof.Machine

namespace Sys2Proof.Machine
open Sys2Proof

/-! VAUX_RETURN in phase OFF under freeze (R314, R432). A freeze ends where OFF begins, and none starts in OFF; but the statement O45
speaks of every state, and VIO counts as absent outside OFF alone. -/

/-- A device in phase OFF, under freeze, that runs from VHU without VIO. -/
def frozenInOff : State := { State.reset with frozen := some 0, input := { CardInput.reset with onVhu := true } }

/-- What follows a command under freeze leaves the freeze. -/
theorem after_frozen {s : State} (h : s.frozen.isSome = true) : s.after.frozen = s.frozen := by
  unfold State.after
  rw [if_pos h]
  exact (State.settle_same rfl (Agree.refl 66035176 s)).frozen rfl

/-- Refutes O45: VAUX returns to a device that is frozen in phase OFF, with VIO lost and no reserve left. In OFF no VIO is missed, so the
device leaves VHU and stays frozen, where the statement has it enter OFF. -/
theorem not_powerLossRowsTakeEffect : ¬ Obligations.PowerLossRowsTakeEffect := by
  intro h
  obtain ⟨-, -, -, -, -, -, hvhu, -⟩ := h frozenInOff
  obtain ⟨-, -, hoff⟩ := hvhu rfl (.inr rfl)
  have hexec := hoff rfl (.inl rfl)
  rw [exec_vauxReturn, freeEvent_of_running (.inr rfl)] at hexec
  have hfrozen := congrArg State.frozen (Host.Outcome.next.inj hexec)
  rw [after_frozen rfl] at hfrozen
  exact absurd hfrozen (by decide)

end Sys2Proof.Machine
